-- ==== Sys2Proof/Word.lean ====
section
/-! DEFINITION. Word: the word types of the block and their plainest arithmetic. -/

namespace Sys2Proof

/-- A 16-bit word, the register and table width of the device (R7, R195). -/
abbrev Word := BitVec 16

/-- One byte. -/
abbrev Byte := BitVec 8

/-- A word of a natural number, modulo 2^16. -/
abbrev word (n : Nat) : Word := BitVec.ofNat 16 n

/-- A byte of a natural number, modulo 2^8. -/
abbrev byte (n : Nat) : Byte := BitVec.ofNat 8 n

end Sys2Proof
end

