-- ==== Sys2Proof/Syntax.lean ====
section
/-! DEFINITION. Syntax: the commands of the block. The spec's table of operations and events lists them; a command's
operands are the outside inputs its rule reads (a frame's bytes, a value written, a channel number, a path). -/

namespace Sys2Proof

/-- The three paths to the live registers (Table REG-1). -/
inductive Path where
  | host | slave | line
deriving DecidableEq, Repr

/-- The two Relay Link ports (chapter 01). -/
inductive Port where
  | a | b
deriving DecidableEq, Repr

/-- How a frame ends at an input (R65, R70, R76). -/
inductive FrameEnd where
  /-- EOF-good. -/
  | good
  /-- EOF-poison with ORIGIN1:ORIGIN0. -/
  | poison (origin : Nat)
  /-- The port leaves UP inside the frame. -/
  | truncated
  /-- An SOF arrives inside the frame. -/
  | sofInside
deriving DecidableEq, Repr

/-- A frame as it arrives at a port (R67): everything the wire brings of it. -/
structure LineFrame where
  /-- Body bytes, an invalid symbol as D0.0 (R76). -/
  body : List Byte
  /-- The received CRC-32 field. -/
  crc : Nat
  /-- Invalid symbols and disparity errors from SOF to terminator. -/
  bad : Nat
  /-- Its terminator. -/
  term : FrameEnd
  /-- IDLE symbols that follow it before the next SOF. -/
  gap : Nat
  /-- Line time of its SOF at the input balls, 1/64 ns. -/
  tin : Nat
  /-- Line time of its SOF at the output balls, 1/64 ns. -/
  tout : Nat
  /-- Codes of the control symbols between SOF and terminator that neither end nor restart the frame (Table LNK-4). -/
  ctrl : List Byte := []
  /-- Invalid symbols and disparity errors in the gap before its SOF. -/
  gapBad : Nat := 0
deriving DecidableEq, Repr

/-- A command descriptor (Table HBU-7). -/
structure Descriptor where
  /-- CODE, 8 bits. -/
  code : Nat
  /-- SUB, 8 bits. -/
  sub : Nat
  /-- Word 1: TAG in [10:0], [15:11] must be 0. -/
  word1 : Nat
  /-- ARG0, 16 bits. -/
  arg0 : Nat
  /-- ARG1, 16 bits. -/
  arg1 : Nat
  /-- BUF0 aperture offset, 20 bits. -/
  off0 : Nat
  /-- BUF0 length, 12 bits. -/
  len0 : Nat
  /-- BUF1 aperture offset, 20 bits. -/
  off1 : Nat
  /-- BUF1 length, 12 bits. -/
  len1 : Nat
deriving DecidableEq, Repr

/-- Where an operation comes from: a descriptor that a path posts, or a consumed line transaction named by broadcast,
origin (true for the anchor) and tag. -/
inductive Source where
  | queue (via : Path) (d : Descriptor)
  | line (bcast anchor : Bool) (tag : Nat)
deriving DecidableEq, Repr

/-- How a mode or update command comes in: a register write of a path, or a consumed line transaction named by broadcast,
origin (true for the anchor) and tag. -/
inductive Via where
  | reg (p : Path)
  | line (bcast anchor : Bool) (tag : Nat)
deriving DecidableEq, Repr

/-- The role sampled from the straps (R2, Table SCO-2). -/
inductive Role where
  | node | starter | anchor | bench
deriving DecidableEq, Repr

/-- What an SD card answers to the steps of its initialisation (Table IMG-7). -/
structure SdAnswers where
  /-- R1 of CMD0. -/
  cmd0 : Nat
  /-- R1 of CMD8. -/
  cmd8 : Nat
  /-- The echo of CMD8. -/
  echo : Nat
  /-- R1 of CMD59. -/
  cmd59 : Nat
  /-- R1 of ACMD41 reads 0x00 within 1 s. -/
  acmd41 : Bool
  /-- OCR, 32 bits. -/
  ocr : Nat
  /-- CSD structure version. -/
  csd : Nat
  /-- Capacity that the CSD gives, in sectors of 512 bytes. -/
  capacity : Nat
  /-- R1 of CMD16. -/
  cmd16 : Nat
  /-- R1 shows a locked card at some step. -/
  locked : Bool
deriving DecidableEq, Repr

/-- What an identification finds in the socket (R413): the answers, and the sectors or bytes that it then reads. -/
inductive MediaFound where
  /-- A response byte to CMD0 with bit 7 clear: an SD card, with the sectors that read good, by number. -/
  | card (a : SdAnswers) (sectors : List (Nat × List Byte))
  /-- Every response byte 0xFF: a serial NOR key; its ready check, and its directory. -/
  | key (ready : Bool) (dir : List Byte)
deriving DecidableEq, Repr

/-- What a boot finds on its way (Tables MOD-7 and HLT-3), and how far it gets by this command. -/
structure BootEnv where
  /-- The last step of Table MOD-7 that this command runs; 12 completes the boot. The same row runs the rest later. -/
  upTo : Nat
  /-- The keys and counters region is readable (R451). -/
  keysOk : Bool
  /-- The header of the CORE image in its active bank passes its check (R237). -/
  coreOk : Bool
  /-- The LINE image passes its check (R237). -/
  lineOk : Bool
  /-- The FIELD image passes its check (R237). -/
  fieldOk : Bool
  /-- The field die already runs the FIELD image of the active bank (Table MOD-8). -/
  fieldMatch : Bool
  /-- The barrier link is up at step 10 (R293). -/
  barrier : Bool
  /-- The field tables are staged without a failure (R229). -/
  restage : Bool
  /-- The six self-test bits of Table HLT-3, 1 for a failure. -/
  selftest : Nat
deriving DecidableEq, Repr

/-- A host bus access (R169, Table HBU-2), for a strobe that rises early: register accesses by address, window accesses by
offset, with the lanes that the host enables. -/
inductive HostAccess where
  | regRead (addr : Nat)
  | regWrite (addr : Nat) (w : Word) (both : Bool)
  | winRead (ofs : Nat) (upper lower : Bool)
  | winWrite (ofs : Nat) (w : Word) (upper lower : Bool)
deriving DecidableEq, Repr

/-- The commands of the block: one constructor per row of the table of operations and events. -/
inductive Instr where
  /-- PORST_ASSERT (R242). PORST_N is asserted or a line-domain supply falls below its monitor
      threshold, which puts the whole device into power-on reset. -/
  | porstAssert (supply : Bool)
  /-- PORST_RELEASE (R237). The release of power-on reset samples the straps, starts the boot timer
      and runs boot steps 1 to 12. -/
  | porstRelease (role : Role) (crystal : Bool) (e : BootEnv)
  /-- BOOT_TIMER_EXPIRY (R237). The boot timer reaches 3 s without BOOT-OK and causes a logic reset. -/
  | bootTimerExpiry
  /-- LOGIC_RESET (R242). A logic supply monitor trip, a boot timer expiry or an image check failure
      causes a logic reset followed by a boot. -/
  | logicReset (e : BootEnv)
  /-- CORE_RESET (R242). The controller core is reset and then boots steps 4, 5, 8, 11 and 12 while
      the other units keep running. -/
  | coreReset (e : BootEnv)
  /-- FIELD_RESET (R243). The field die restarts with its outputs at SLATE, reloads the FIELD image
      and has its tables restaged. -/
  | fieldReset (active : Bool) (shadow : Bool := true)
  /-- FIELD_DIE_FAULT (R242). The field die reports a fatal fault, which causes a field reset. -/
  | fieldDieFault
  /-- SUPPLY_MONITOR_TRIP (R542). A supply rail stays below its falling threshold for longer than the
      glitch filter and causes the reset of its domain. -/
  | supplyMonitorTrip (lineDomain : Bool)
  /-- BOOT_STABLE (R238). A boot reaches 120 s after BOOT-OK without a false start, and FS is written
      to 0. -/
  | bootStable
  /-- FATAL_EXCEPTION (R400). A fatal exception of the controller core applies the WDC profile and
      then resets the core. -/
  | fatalException
  /-- SYNC_SEND (R40). The time source sends a SYNC frame every n cycles in the first idle gap after
      the cycle's first heat. -/
  | syncSend
  /-- SYNC_FRAME (R43). A SYNC frame passes the device, which rewrites its hop fields and, at EOF-
      good, accepts or refuses it as a sample. -/
  | syncFrame (p : Port) (f : LineFrame) (readings : List Word)
  /-- SYNC_MISS_INTERVAL (R44). One SYNC interval passes without a further SYNC frame, so a miss is
      counted and SYNC_MISS is set at the 8th. -/
  | syncMissInterval
  /-- PLL_LOCKED (R35). The phase error stays within ±0.4 ns for 10 ms, and the PLL shows LOCKED. -/
  | pllLocked
  /-- PHASE_ERROR (R54). The phase error exceeds ±2 ns while the reference is present, so the device
      enters holdover and reacquires. -/
  | phaseError
  /-- REF_RANGE (R563). The line reference lies outside ±200 ppm of the crystal for 10 ms, so the PLL
      is kept in ACQUIRE and REF_RANGE is reported. -/
  | refRange
  /-- LTIME_LATCH (R52). A write of LATCH copies line time into LTIME0 to LTIME3 and increments LSEQ. -/
  | ltimeLatch (via : Path)
  /-- PRESET (R37). A write of PRESET loads LTIME0 to LTIME3 into line time, or sets PRESET_REF if R37
      does not permit it. -/
  | preset (via : Path)
  /-- SAMPLE_INSTANT (R104). At k·P + s the field die freezes the snapshot of cycle k. -/
  | sampleInstant (readings : List Word)
  /-- SNAPSHOT_READY (R104). The snapshot reaches the forwarding engine within 8 µs of the sample
      instant. -/
  | snapshotReady
  /-- APPLY_INSTANT (R109). At k·P + a the node applies the commit held for cycle k, or counts a miss
      in MISS_RUN. -/
  | applyInstant (readings : List Word := [])
  /-- SIGNAL_DETECT (R69). A receive signal above the detect threshold for 10 µs moves a port from
      NOSIG to TRAIN. -/
  | signalDetect (p : Port)
  /-- TRAIN_COMPLETE (R63). After 100 µs of training the DFE freezes and the port moves to ALIGN. -/
  | trainComplete (p : Port) (t1 t2 t3 : Int)
  /-- ALIGN_UP (R69). Comma alignment and 16 valid ordered sets move the port to UP. -/
  | alignUp (p : Port) (inverted : Bool)
  /-- ALIGN_TIMEOUT (R69). No UP within 200 µs of entering ALIGN returns the port to TRAIN. -/
  | alignTimeout (p : Port)
  /-- LOSS_OF_SYNC (R69). Four invalid symbols within 16 consecutive symbols move the port from UP to
      ALIGN. -/
  | lossOfSync (p : Port) (bad : Nat := 0)
  /-- LOSS_OF_SIGNAL (R69). Loss of the receive signal moves the port to NOSIG within 1 µs. -/
  | lossOfSignal (p : Port)
  /-- RETRAIN (R69). A LINK_CTRL RETRAIN write sends a port back into TRAIN with training restarted. -/
  | retrain (via : Path) (p : Port)
  /-- CROSSED_PAIRS (R91). A transmitter in NOSIG senses for 100 µs a signal it did not drive, so
      CROSS is set and a wiring fault is reported. -/
  | crossedPairs (p : Port)
  /-- FRAME_FORWARD (R75). A frame passes a hop and is checked, given a regenerated CRC and ended with
      EOF-good or EOF-poison. -/
  | frameForward (p : Port) (f : LineFrame) (readings : List Word)
  /-- RSVD_TYPE_FRAME (R68). A frame with a reserved TYPE is forwarded and, at EOF-good, counted in
      RSVD_TYPE. -/
  | rsvdTypeFrame (p : Port) (f : LineFrame)
  /-- LOOP_ENGAGE (R80). A port that has not been UP for the 4 µs confirm interval makes the device
      turn the stream and send notices. -/
  | loopEngage (p : Port)
  /-- OWN_FRAME_SEND (R562). The device sends a waiting LOOPBACK NOTICE frame once the egress has a
      long enough gap. -/
  | ownFrameSend (p : Port)
  /-- LOOPBACK_NOTICE_SET (R83). The starter or the anchor receives a loopback notice ordered set and
      acts on it if its check passes. -/
  | loopbackNoticeSet (p : Port) (n0 n1 n2 : Byte)
  /-- LOOPBACK_NOTICE_FRAME (R159). The starter or the anchor receives a LOOPBACK NOTICE frame and
      updates the topology or posts LOOP_NOTICE. -/
  | loopbackNoticeFrame (p : Port) (f : LineFrame)
  /-- LOOP_REL (R84). A LOOP_REL command releases a held loop, waits for its conditions, or is refused
      with LOOP_REL_REF. -/
  | loopRel (via : Path)
  /-- LOOP_RELEASE (R86). The release conditions of R84 or R85 come to hold, and the device returns to
      THROUGH and sends released notices. -/
  | loopRelease (p : Port)
  /-- LOOP_FORCE (R95). A LOOP_FORCE write engages LOOP_B at once with cause 2. -/
  | loopForce (via : Path)
  /-- BYPASS_DELAY_EXPIRY (R87). BYPASS_DELAY runs out in BYPASS_MODE 1, and BYPASS_N is released if
      PWRFAIL_N is high. -/
  | bypassDelayExpiry
  /-- BYPASS_INSERT (R87). A LINK_CTRL BYPASS_INSERT write releases BYPASS_N. -/
  | bypassInsert (via : Path)
  /-- BYPASS_DROP (R87). A keyed LINK_CTRL BYPASS_DROP write asserts BYPASS_N. -/
  | bypassDrop (via : Path)
  /-- BYPASS_PWRFAIL_DROP (R87). PWRFAIL_N stays asserted for 40 ms, and BYPASS_N is asserted. -/
  | bypassPwrfailDrop
  /-- BYPASS_NOTICE (R88). A port has been UP for LOOP_HOLD after BYPASS_N was released, so a bypass-
      inserted notice frame is sent. -/
  | bypassNotice (p : Port)
  /-- LINK_CNT_CLR (R95). A LINK_CTRL CNT_CLR write clears the status counters of the LINK table. -/
  | linkCntClr (via : Path)
  /-- LINK_CNT_FREEZE (R95). A LINK_CTRL CNT_FREEZE write freezes or unfreezes all status counters. -/
  | linkCntFreeze (via : Path) (on : Bool)
  /-- HEAT_LAUNCH (R144). At k·P + L the starter or the anchor sends the heats of cycle k in ascending
      ORDER. -/
  | heatLaunch
  /-- OUT_PUB_SAMPLE (R145). At k·P + L − 2 µs the starter samples OUT_PUB and adopts a buffer,
      repeats the last one, or sets NO_OUT. -/
  | outPubSample
  /-- HEAT_RECEIVE (R108). A node exchanges its slots in a heat of its own index and, at EOF-good,
      classifies it and commits or counts it. -/
  | heatReceive (p : Port) (f : LineFrame)
  /-- HEAT_RETURN (R147). A heat returns to the starter, which copies the IN slots or fills the image
      with 0xFF. -/
  | heatReturn (p : Port) (f : LineFrame)
  /-- PING_OUTCOME (R157). The ping of a position is answered or fails, and the position becomes
      PRESENT or ABSENT. -/
  | pingOutcome (pos : Nat)
  /-- IN_READY_DEADLINE (R147). At (k + 1)·P + L the starter fills the unreturned heats with 0xFF and
      posts IN_READY. -/
  | inReadyDeadline
  /-- BATON_SEND (R160). The starter or the anchor sends a baton with the waiting records and empty
      pockets in the gap after the heats. -/
  | batonSend
  /-- BATON_RECEIVE (R122). A node checks the baton header, walks the record region, claims pockets
      and, at EOF-good, consumes its records. -/
  | batonReceive (p : Port) (f : LineFrame)
  /-- BATON_RETURN (R160). A baton returns to the starter or the anchor, which consumes the filled
      pockets as responses. -/
  | batonReturn (p : Port) (f : LineFrame)
  /-- TXN_EXPIRY (R130). The lifetime deadline of an unsent transaction passes, and an EXPIRED
      response replaces its response. -/
  | txnExpiry (bcast anchor : Bool) (tag : Nat)
  /-- EXPIRED_DISCARD (R131). An EXPIRED response not sent within 1 s of its deadline is discarded and
      an event is posted. -/
  | expiredDiscard (anchor : Bool) (tag : Nat)
  /-- DONE_ENTRY_LAPSE (R128). A DONE entry reaches the lifetime deadline of its transaction and is
      freed. -/
  | doneEntryLapse (anchor : Bool) (tag : Nat)
  /-- BCAST_DROP (R132). A broadcast record not executed by its lifetime deadline is dropped with an
      event. -/
  | bcastDrop (anchor : Bool) (tag : Nat)
  /-- TXN_RETRY (R160). A unicast record still unanswered after two cycles is resent with RETRY = 1. -/
  | txnRetry (dest tag : Nat)
  /-- TXN_LOST (R160). No response arrives by departure + LIFE + P, so the LINE_TXN completes LOST. -/
  | txnLost (dest tag : Nat)
  /-- CRYPTO_OP_DONE (R468). A crypto engine operation completes and releases its context. -/
  | cryptoOpDone
  /-- FLOOR_WRITE_DONE (R461). The replay floor record is written, so the sealed request may execute. -/
  | floorWriteDone (ok : Bool)
  /-- PING (R134). The PING opcode returns the identity and status block followed by the pattern. -/
  | ping (bcast anchor : Bool) (tag : Nat)
  /-- REG_READ (R136). The REG_READ opcode reads 1 to 8 live registers as one uninterrupted group. -/
  | regRead (bcast anchor : Bool) (tag : Nat)
  /-- REG_WRITE (R136). The REG_WRITE opcode writes 1 to 8 live registers as one uninterrupted group. -/
  | regWrite (bcast anchor : Bool) (tag : Nat)
  /-- TBL_READ (R138). The TBL_READ opcode reads words of a table while the line path holds the claim. -/
  | tblRead (bcast anchor : Bool) (tag : Nat)
  /-- TBL_WRITE (R215). The TBL_WRITE opcode writes words of the shadow set in order and stops at the
      first refusal. -/
  | tblWrite (bcast anchor : Bool) (tag : Nat)
  /-- CFG_OWN_QUERY (R213). A CFG_OWN query reports the current window owner. -/
  | cfgOwnQuery (bcast anchor : Bool) (tag : Nat)
  /-- FLASH_READ (R134). FLASH_READ returns flash bytes as stored, and refuses the keys and counters
      region. -/
  | flashRead (src : Source)
  /-- TRACE_READ (R509). TRACE_READ returns records from the trace ring or from the persistent trace. -/
  | traceRead (bcast anchor : Bool) (tag : Nat)
  /-- CSP_XFER (R359). A serial master transfer runs exactly as given on a select code other than 6. -/
  | cspXfer (src : Source)
  /-- ADC_CAPT (R330). A block capture of one regular entry into the ADC capture area is started. -/
  | adcCapt (src : Source)
  /-- CAPT_READ (R134). CAPT_READ returns samples from the ADC capture area. -/
  | captRead (bcast anchor : Bool) (tag : Nat)
  /-- RELAY_CTRL_MAP (R436). The RELAY_CTRL MAP sub-operation returns the session state and the
      missing-block map. -/
  | relayCtrlMap (bcast anchor : Bool) (tag : Nat)
  /-- RELAY_CTRL_STATUS (R436). The RELAY_CTRL STATUS sub-operation returns UPD_STAT, UPD_PROG and
      REASON. -/
  | relayCtrlStatus (bcast anchor : Bool) (tag : Nat)
  /-- OWNER_LOCK_SET (R470). A sealed OWNER_LOCK with action 1 engages the owner lock. -/
  | ownerLockSet (bcast anchor : Bool) (tag : Nat)
  /-- OWNER_LOCK_CLEAR (R470). A sealed OWNER_LOCK with action 0 clears the owner lock. -/
  | ownerLockClear (bcast anchor : Bool) (tag : Nat)
  /-- POS_BIND (R152). A sealed POS_BIND with action bind makes a pending or new position final. -/
  | posBind (bcast anchor : Bool) (tag : Nat)
  /-- POS_UNBIND (R153). A sealed POS_BIND with action unbind removes the node's binding. -/
  | posUnbind (bcast anchor : Bool) (tag : Nat)
  /-- INJ_ENABLE (R511). A sealed INJ_ENABLE opens or closes the injection enable for the named
      targets. -/
  | injEnable (bcast anchor : Bool) (tag : Nat)
  /-- REKEY (R458). A sealed REKEY raises the node's epoch and answers with the new epoch. -/
  | rekey (bcast anchor : Bool) (tag : Nat)
  /-- LINE_START (R149). LINE_START latches the plan and starts the SYNC-only settle phase, or latches
      the plan in the anchor. -/
  | lineStart (via : Path) (d : Descriptor)
  /-- LINE_START_SETTLE (R149). SETTLE_MS runs out after LINE_START, and the starter sends the COUNT
      frame. -/
  | lineStartSettle
  /-- LINE_STOP (R149). LINE_STOP ends heat and baton generation at the end of the current cycle. -/
  | lineStop (via : Path) (d : Descriptor)
  /-- ENUM (R150). ENUM sends a COUNT frame in the requested enumeration mode. -/
  | enum (via : Path) (d : Descriptor)
  /-- COUNT_RECEIVE (R151). A node processes a COUNT frame, overwrites its trailer and, at EOF-good,
      binds, flags or refuses. -/
  | countReceive (p : Port) (f : LineFrame)
  /-- COUNT_RETURN (R154). The COUNT frame returns to the starter, which applies the tally and posts
      ENUM_DONE. -/
  | countReturn (p : Port) (f : LineFrame)
  /-- LINE_TXN (R160). LINE_TXN posts one line transaction, which the starter or the anchor places
      into batons. -/
  | lineTxn (via : Path) (d : Descriptor)
  /-- GUN_SCHEDULE (R161). GUN_SCHEDULE arms the starter's own swap and broadcasts the gun time to
      every node. -/
  | gunSchedule (via : Path) (d : Descriptor)
  /-- GUN_CUTOFF (R161). At G − 4·P an ALL_OR_NONE schedule with nodes not armed is cancelled. -/
  | gunCutoff
  /-- GUN_CLOSING_SWEEP (R161). After G the starter reads CFG_STAT of every PRESENT position and
      completes GUN_SCHEDULE. -/
  | gunClosingSweep
  /-- RELAY_PULL (R162). RELAY_PULL reads the staging blocks of a source node with FLASH_READ records. -/
  | relayPull (via : Path) (d : Descriptor)
  /-- TAKEOVER_START (R164). At a cycle boundary with a trigger, the anchor becomes the time source
      and sends its own frames. -/
  | takeoverStart
  /-- TAKEOVER_END (R166). The TAKEOVER_END command stops the anchor's own frames. -/
  | takeoverEnd (via : Path) (d : Descriptor)
  /-- TAKEOVER_AUTO_END (R166). A starter frame reaches the anchor with EOF-good, and the takeover
      ends at the next cycle boundary. -/
  | takeoverAutoEnd
  /-- NOP (R182). NOP completes when every command posted earlier on the same path has completed. -/
  | nop (via : Path) (d : Descriptor)
  /-- BUS_DECODE_ERROR (R170). A bus cycle with both selects or both strobes asserted completes with
      no effect and posts BUS_ERROR. -/
  | busDecodeError (read : Bool) (addr : Nat)
  /-- HOST_STROBE_EARLY (R189). The host raises the strobe before HWAIT_N is released, and the access
      still completes with a bus error. -/
  | hostStrobeEarly (a : HostAccess) (captured : Bool)
  /-- APERTURE_WRITE (R174). A window write to the aperture is held or committed as one half of a
      32-bit word. -/
  | apertureWrite (ofs : Nat) (w : Word) (upper lower : Bool)
  /-- APERTURE_READ (R174). A window read at offset 4n captures both halves of the 32-bit word. -/
  | apertureRead (ofs : Nat) (upper lower : Bool)
  /-- XIP_READ (R351). A direct-execution window read is answered from the prefetch buffer or by a
      demand read of the whole line. -/
  | xipRead (ofs : Nat)
  /-- XIP_TIMEOUT (R177). A window read reaches the XIP_WAIT limit and returns 0xFFFF with TIMEOUT
      set. -/
  | xipTimeout (read : List Byte := [])
  /-- XIP_ENABLE (R178). A keyed write of MWIN_CTRL sets or refuses XIP_EN and the window parameters. -/
  | xipEnable (via : Path) (en : Bool) (sel base : Nat)
  /-- XIP_FLUSH (R178). A write of XIP_FLUSH discards the prefetch buffer after any read in progress. -/
  | xipFlush (via : Path)
  /-- KEYSEQ_WRITE (R186). A KEYSEQ write moves the path's key state between IDLE, HALF and OPEN. -/
  | keyseqWrite (via : Path) (w : Word)
  /-- KEY_LAPSE (R186). An OPEN key not consumed within 100 µs lapses to IDLE. -/
  | keyLapse (via : Path)
  /-- CMDQ_ASM_CLR (R179). A write of CMDQ_STAT.ASM_CLR discards the path's partial descriptor
      assembly. -/
  | cmdqAsmClr (via : Path)
  /-- CPLQ_DATA_READ (R183). A read of CPLQ_DATA returns the next word of the path's oldest completion
      entry and pops it after word 4. -/
  | cplqDataRead (via : Path)
  /-- REGISTER_WRITE (R191). A write to a live register without a row of its own acts by the field
      types, with R192 and R187 for forbidden writes. -/
  | registerWrite (via : Path) (addr : Nat) (w : Word) (both : Bool)
  /-- EVQ_DATA_READ (R205). A read of EVQ_DATA returns the next word of the held entry and pops the
      entry after word 4. -/
  | evqDataRead (via : Path)
  /-- EVQ_HOLD_LAPSE (R205). A hold on a partly read event entry lapses 10 µs after the holder's last
      read. -/
  | evqHoldLapse
  /-- CHIN_READ (R198). A read of CHIN captures CHFLT and CHFORCE from the same snapshot for the
      path's next accesses. -/
  | chinRead (via : Path)
  /-- CFG_DATA_READ (R214). The owner reads the addressed word through CFG_DATA, with optional auto-
      increment. -/
  | cfgDataRead (via : Path)
  /-- CFG_DATA_WRITE (R215). The owner writes a shadow-set word through CFG_DATA, which clears VALID. -/
  | cfgDataWrite (via : Path) (w : Word)
  /-- CLAIM (R213). A CLAIM action takes the configuration window if it is free. -/
  | claim (via : Path)
  /-- RELEASE (R213). The owner releases the configuration window. -/
  | release (via : Path)
  /-- CLAIM_LAPSE (R213). The owner makes no window access for CLAIM_IDLE, and the claim lapses. -/
  | claimLapse
  /-- VALIDATE (R216). VALIDATE starts checking and staging the shadow set. -/
  | validate (via : Path)
  /-- VALIDATE_DONE (R216). Validation ends, sets VALID or VAL_FAIL, and posts VALIDATED. -/
  | validateDone
  /-- COPY (R217). COPY starts copying the active set into the shadow set. -/
  | copy (via : Path)
  /-- COPY_DONE (R217). The copy and its field-die staging end, and VALID is set or VAL_FAIL reported. -/
  | copyDone
  /-- SWAP_NOW (R220). A SWAP request in mode 1 is checked and arms a swap 16 µs ahead. -/
  | swapNow (via : Path)
  /-- SWAP_CYCLE (R220). A SWAP request in mode 2 is checked and arms a swap at the next cycle
      boundary. -/
  | swapCycle (via : Path)
  /-- SWAP_GUN (R219). A SWAP request in mode 3 copies GUN_T0 to GUN_T3 and arms, or is refused, for
      instance as a missed gun. -/
  | swapGun (via : Path)
  /-- CANCEL (R225). CANCEL clears an armed swap. -/
  | cancel (via : Path)
  /-- COMMIT (R227). COMMIT starts writing the active set into a new configuration store entry. -/
  | commit (via : Path)
  /-- COMMIT_DONE (R227). The commit ends and posts COMMITTED with success or failure. -/
  | commitDone (ok : Bool)
  /-- AUTO_COMMIT_START (R223). A pending automatic commit starts once no action runs and the core is
      available. -/
  | autoCommitStart
  /-- CFG_CTRL_MULTI (R208). A CFG_CTRL write that requests more than one action does nothing and is
      reported. -/
  | cfgCtrlMulti (via : Path) (w : Word)
  /-- SWAP_INSTANT (R221). At the swap instant both dies exchange the sets on one tick, or the swap is
      refused. -/
  | swapInstant
  /-- GO_SETUP (R235). The GO_SETUP mode command moves the device from RUN or SAFE to SETUP. -/
  | goSetup (via : Via)
  /-- GO_RUN (R235). The GO_RUN mode command moves the device from SETUP to RUN if its conditions
      hold. -/
  | goRun (via : Via)
  /-- GO_SAFE (R235). The GO_SAFE mode command raises the management-command trigger. -/
  | goSafe (via : Via)
  /-- RESUME (R234). The RESUME mode command moves the device from SAFE to RUN when RESUME_OK is 1. -/
  | resume (via : Via)
  /-- GO_MINIMAL (R235). The GO_MINIMAL mode command resets the core into the minimal image. -/
  | goMinimal (via : Via)
  /-- REBOOT (R235). The REBOOT mode command resets the core into the active bank. -/
  | reboot (via : Via)
  /-- REST (R244). The REST command is taken or refused under its conditions. -/
  | rest (via : Via)
  /-- REST_ENTRY (R244). The core finishes its work, and the device gates the core clock and enters
      REST. -/
  | restEntry
  /-- WAKE (R245). The WAKE command or another wake cause ends REST and posts REST_EXIT. -/
  | wake (via : Via)
  /-- HOLD_SENSE_SAMPLE (R246). Every 1 ms HOLD_SENSE is measured against HOLD_MIN, which sets or
      clears holdup low. -/
  | holdSenseSample (mv age : Nat)
  /-- PWRFAIL_ASSERT (R248). A recognised PWRFAIL_N assertion runs the power-loss sequence of Table
      MOD-12. -/
  | pwrfailAssert
  /-- PWRFAIL_RELEASE (R249). PWRFAIL_N is released while the supplies still hold, and the device
      stays in SAFE. -/
  | pwrfailRelease
  /-- SAFECMD_ENTER (R305). A SAFECMD write with ENTER raises the management-command trigger. -/
  | safecmdEnter (via : Path)
  /-- ACK_ALL (R305). A SAFECMD write with ACK_ALL acknowledges the latched faults of every channel. -/
  | ackAll (via : Path)
  /-- CHFLT_ACK (R284). A write of 1 to a CHFLT bit acknowledges that channel's latched fault. -/
  | chfltAck (via : Path) (w : Word)
  /-- SAFE_REQ_ASSERT (R299). SAFE_REQ_N stays low for SAFE_REQ_FILT and raises trigger 3. -/
  | safeReqAssert
  /-- SAFE_REQ_RELEASE (R299). SAFE_REQ_N returns high, and trigger 3 is released. -/
  | safeReqRelease
  /-- BARRIER_LOSS (R293). No good barrier frame for 3 µs puts the terminals at SLATE and raises the
      barrier-loss trigger. -/
  | barrierLoss
  /-- BARRIER_RETURN (R281). The barrier link returns and resynchronises within 1 ms, or causes a
      field reset after a longer loss. -/
  | barrierReturn
  /-- LP_OFF (R291). LP below 16 V for 10 µs switches every output off in hardware and posts LP_OFF. -/
  | lpOff (mv : Nat)
  /-- LP_OVERVOLTAGE (R291). LP above 33 V for 100 µs switches the outputs off in hardware. -/
  | lpOvervoltage (mv : Nat)
  /-- LP_REVERSED (R291). LP below −1 V for 100 µs switches the outputs off in hardware. -/
  | lpReversed
  /-- LP_BACK (R291). LP is back within range for 10 ms, and the outputs follow the effective value
      again. -/
  | lpBack (mv : Nat)
  /-- LS_FAULT (R291). LS is outside 18 V to 30 V for 1 ms, which suspends the input diagnostics and
      sets LS_FAULT. -/
  | lsFault (mv : Nat)
  /-- LS_OK (R291). LS is back within its window, which clears LS_FAULT. -/
  | lsOk (mv : Nat)
  /-- LS_BROWNOUT (R291). LS falls below 13 V and the field die stops, which leads to barrier loss. -/
  | lsBrownout (mv : Nat)
  /-- DIE_OVERTEMP (R291). The field die reaches 150 °C, and the outputs are switched off in hardware. -/
  | dieOvertemp (temp : Int)
  /-- DIE_COOL (R291). The field die stays below 135 °C for 1 s, and the outputs follow the effective
      value again. -/
  | dieCool (temp : Int)
  /-- CHANNEL_FAULT_DETECT (R282). A channel condition holds for its detection time and becomes an
      active trip or report fault. -/
  | channelFaultDetect (n code : Nat)
  /-- CHANNEL_FAULT_CLEAR (R282). A report condition is absent for its detection time and clears, and
      CH_CLEAR is posted. -/
  | channelFaultClear (n code : Nat)
  /-- FAULT_RETRY (R283). RETRY_INT runs out after a trip with auto-retry, and the driver follows the
      effective value again. -/
  | faultRetry (n : Nat)
  /-- RETRY_COUNT_RESET (R283). 10 s pass without a trip, and the channel's retry count returns to 0. -/
  | retryCountReset (n : Nat)
  /-- INPUT_EDGE (R252). A sampled input holds a new level for the filter time, and the filtered state
      changes. -/
  | inputEdge (n : Nat) (level both : Bool) (t : Nat)
  /-- PWM_PERIOD_START (R257). A PWM period starts at an aligned line time and takes up a new duty
      value. -/
  | pwmPeriodStart (n : Nat)
  /-- SL_LOAD (R264). An SL_CMD LOAD write loads a start-list event after its checks. -/
  | slLoad (via : Path)
  /-- SL_CANCEL (R265). An SL_CMD CANCEL write removes a pending event, or finds it already issued. -/
  | slCancel (via : Path)
  /-- SL_READ (R265). An SL_CMD READ write copies a pending event's time and value into the port
      words. -/
  | slRead (via : Path)
  /-- SL_ISSUE (R265). 1 µs before its gate time a start-list event is issued and can no longer be
      cancelled. -/
  | slIssue (n slot : Nat)
  /-- SL_GATE (R265). At its gate time an event writes its value into the commanded view and clears
      SL_PEND. -/
  | slGate (n slot : Nat)
  /-- PF_SEL_WRITE (R262). A PF_SEL write captures one photo-finish entry into PF_ESEQ and PF_T. -/
  | pfSelWrite (via : Path) (w : Word)
  /-- CHOUT_WRITE (R272). A CHOUT write sets the local view of the channels. -/
  | choutWrite (via : Path) (w : Word)
  /-- FORCE_SET (R273). A keyed CHFORCE write with SET = 1 holds a force on a channel. -/
  | forceSet (via : Path) (n : Nat) (level : Bool)
  /-- FORCE_REMOVE (R273). A keyed CHFORCE write with SET = 0 removes a channel's force. -/
  | forceRemove (via : Path) (n : Nat)
  /-- FORCE_CLEAR_ALL (R273). A keyed CHFORCE write with CLEAR_ALL removes every force. -/
  | forceClearAll (via : Path)
  /-- MODE_OFF_END (R278). The 100 µs OFF interval after a swap that changed a channel's mode ends. -/
  | modeOffEnd (n : Nat)
  /-- REG_START (R313). The REG_START command starts the regular sequence and restarts every filter. -/
  | regStart (via : Path)
  /-- REG_STOP (R313). The REG_STOP command aborts the regular conversions and stops the sequence. -/
  | regStop (via : Path)
  /-- INJ_TRIG (R317). The INJ_TRIG command triggers the injected sequence. -/
  | injTrig (via : Path)
  /-- INJ_TIME_TRIGGER (R317). The line-time injection source fires at INJ_T or at a later period. -/
  | injTimeTrigger
  /-- CAL_ZERO (R324). The CAL_ZERO command starts the zero step of a calibration point. -/
  | calZero (via : Path) (e : Nat)
  /-- CAL_FULL (R324). The CAL_FULL command starts the full-scale step of a calibration point. -/
  | calFull (via : Path) (e : Nat)
  /-- CAL_ABORT (R324). The CAL_ABORT command ends the pending calibration. -/
  | calAbort (via : Path) (e : Nat)
  /-- CAL_STEP_DONE (R326). A calibration step has summed 16 settled outputs and is accepted or
      refused. -/
  | calStepDone
  /-- CAL_TIMEOUT (R326). A calibration step finds no settled result within 10 s and is refused with
      cause 9. -/
  | calTimeout
  /-- FIFO_CLR (R328). The FIFO_CLR command empties the ADC result FIFO. -/
  | fifoClr (via : Path)
  /-- DAC_TEST (R327). The DAC_TEST command starts the test-DAC path diagnosis. -/
  | dacTest (via : Path)
  /-- DAC_TEST_DONE (R327). The test-DAC diagnosis completes its four steps and reconnects the
      terminals. -/
  | dacTestDone
  /-- ROUND_START (R312). A scheduled round starts, or is counted late or slipped. -/
  | roundStart
  /-- CONVERSION_END (R307). A conversion ends, and its corrected result goes to the filters, the FIFO
      or the injected results. -/
  | conversionEnd (convB : Bool) (x : Int) (t : Nat)
  /-- CAPTURE_DONE (R330). A block capture ends and completes with the number of samples taken. -/
  | captureDone
  /-- AO_READBACK_SAMPLE (R310). Every 100 µs the AO-V readback monitor samples the terminal. -/
  | aoReadbackSample (n : Nat) (code : Word)
  /-- ADC_FIFO_READ (R328). A read of ADC_FIFO pops the oldest FIFO word. -/
  | adcFifoRead (via : Path)
  /-- CSP_TRANSFER_END (R342). A master port transfer ends and CM_SELEN_N rises. -/
  | cspTransferEnd (read : List Byte)
  /-- READY_TIMEOUT (R347). CM_READY stays low for READY_TO, and the transfer ends with detail 0x0101. -/
  | readyTimeout (sent : Nat) (read : List Byte := [])
  /-- DQS_TIMEOUT (R345). No CM_DQS edge arrives within 16 clocks, and the transfer ends with detail
      0x0102. -/
  | dqsTimeout (read : List Byte := [])
  /-- CM_ABORT (R363). A write of CSP_CTRL.CM_ABORT ends the running CSP_XFER at its next byte
      boundary. -/
  | cmAbort (via : Path)
  /-- PREFETCH_START (R353). After a demand read the device starts a prefetch of the next line when no
      other work waits. -/
  | prefetchStart
  /-- ERASE_POLL (R356). Every 100 µs during a tracked erase the memory status is polled, and the
      tracking ends when the memory is ready. -/
  | erasePoll
  /-- ERASE_TRACK_LIMIT (R356). A tracked erase outlasts 200 ms, so XIP_ERASE is cleared and
      ERASE_LIMIT is set. -/
  | eraseTrackLimit
  /-- SLAVE_READ (R366). A slave READ request reads LEN/2 registers and replies with their values. -/
  | slaveRead (bytes : List Byte)
  /-- SLAVE_WRITE (R366). A slave WRITE request writes LEN/2 registers. -/
  | slaveWrite (bytes : List Byte)
  /-- SLAVE_NOP (R366). A slave NOP request executes nothing and replies with the flags. -/
  | slaveNop (bytes : List Byte)
  /-- SLAVE_FRAME_IGNORED (R369). A slave request with a bad header, CRC or lap is ignored and
      flagged. -/
  | slaveFrameIgnored (bytes : List Byte)
  /-- SLAVE_FRAME_ABORT (R370). SP_SEL_N rises before the request is complete, and the frame is
      discarded. -/
  | slaveFrameAbort (bytes : List Byte) (midByte : Bool)
  /-- SP_ENABLE (R364). A write of CSP_CTRL.SP_EN enables or disables the slave port. -/
  | spEnable (via : Path) (on : Bool)
  /-- PANEL_FRAME (R371). A scan frame starts, takes up a HOST change and reads the display RAM. -/
  | panelFrame
  /-- KEY_PRESS (R374). A key's debounced state closes, which produces a press for the menu or for the
      queue. -/
  | keyPress (k : Nat) (first : Bool)
  /-- KEY_RELEASE (R374). A key's debounced state opens, which produces a release. -/
  | keyRelease (k : Nat)
  /-- KEY_REPEAT (R375). The due instant of a repeat of the held key arrives, and a repeat is
      produced. -/
  | keyRepeat
  /-- ENC_TRANSITION (R376). An encoder's phase state changes and may count one detent. -/
  | encTransition (e : Nat) (a b : Bool)
  /-- MENU_REFRESH (R382). Every 100 ms the menu refreshes the display from the snapshot and the
      registers. -/
  | menuRefresh
  /-- MENU_IDLE (R382). MENU_IDLE passes without a key or encoder event, and the menu returns to HOME. -/
  | menuIdle
  /-- JOG_TIMEOUT (R384). A jog reaches JOG_MAX and the scanner ends it. -/
  | jogTimeout
  /-- CHORD_COMPLETE (R385). The update chord is held for CHORD_S, and the menu requests START. -/
  | chordComplete
  /-- PANEL_EVT_READ (R378). A read of PANEL_EVT pops the oldest panel event. -/
  | panelEvtRead (via : Path)
  /-- PANEL_HOST_CHANGE (R377). A write that changes PANEL_CTRL.HOST switches between MENU and HOST
      mode. -/
  | panelHostChange (via : Path) (host : Bool)
  /-- PANEL_CLR (R379). A write of PANEL_CTRL.CLR empties the panel event queue. -/
  | panelClr (via : Path)
  /-- WDH_ANSWER (R392). A write to WDH_ANSWER is judged as served, early or wrong, and starts the
      next cycle. -/
  | wdhAnswer (via : Path) (w : Word)
  /-- WDH_WINDOW_OPEN (R392). The WDH cycle reaches WDH_OPEN, and the answer window opens. -/
  | wdhWindowOpen
  /-- WDH_PERIOD_END (R392). The WDH period ends without a correct token, which counts a late error. -/
  | wdhPeriodEnd
  /-- WDC_ANSWER (R392). The firmware writes its WDC token, which is judged against the cycle. -/
  | wdcAnswer (w : Word)
  /-- WDC_PERIOD_END (R392). The WDC period ends without a correct token, which counts a late error. -/
  | wdcPeriodEnd
  /-- WDC_CORE_RESET (R400). 50 µs after a WDC expiry the controller core is reset. -/
  | wdcCoreReset
  /-- FREEZE_LIMIT (R402). An erase freeze of a watchdog reaches 200 ms and ends. -/
  | freezeLimit (core : Bool)
  /-- MEDIA_INSERT (R412). The debounced assertion of MEDIA_DET_N sets PRESENT. -/
  | mediaInsert
  /-- MEDIA_IDENTIFY (R413). 10 ms after insertion the medium is identified and initialised, and its
      candidates are found. -/
  | mediaIdentify (found : MediaFound)
  /-- MEDIA_REMOVE (R423). The debounced release of MEDIA_DET_N clears the medium state and pauses a
      session that reads it. -/
  | mediaRemove
  /-- MEDIA_SECTOR_READ (R415). A sector read from the medium completes or fails. -/
  | mediaSectorRead (ok : Bool) (bytes : List Byte)
  /-- MEDIA_ABSENCE_TIMEOUT (R423). The session's bundle is not found within 10 minutes of removal,
      and the session ends with 0x060B. -/
  | mediaAbsenceTimeout
  /-- START (R426). The START update command opens a READ session from the medium. -/
  | start (via : Via)
  /-- ABORT (R426). The ABORT update command ends a session before ACTIVATE. -/
  | abort (via : Via)
  /-- PREPARE (R439). The PREPARE update command starts preparing the parts in lineup order. -/
  | prepare (via : Via)
  /-- PREPARE_PART_DONE (R439). The preparation of one part finishes, and the session moves on or
      reaches PREPARED. -/
  | preparePartDone
  /-- ACTIVATE (R431). The ACTIVATE update command is checked and starts now or at its start time. -/
  | activate (via : Via)
  /-- ACTIVATE_START (R431). The start time of an ACTIVATE arrives, and the first part's pause begins
      after a recheck. -/
  | activateStart
  /-- ACT_PAUSE_END (R440). A part's activation pause ends, and the next part begins or the session
      enters CONFIRM. -/
  | actPauseEnd
  /-- VETO (R443). The VETO update command in CONFIRM causes a fallback. -/
  | veto (via : Via)
  /-- RELAY_JOIN (R428). The RELAY_JOIN update command opens a RECEIVE session, or starts distribution
      at the starter. -/
  | relayJoin (via : Via)
  /-- STAGING_SECTOR_DONE (R432). A staged sector is programmed and read back, and the missing-block
      map is updated. -/
  | stagingSectorDone (ok : Bool)
  /-- RELAY_SEND (R438). The starter sends a RELAY frame of a needed sector, paced at one per 5 ms. -/
  | relaySend
  /-- RELAY_RECEIVE (R436). A node in RECEIVE takes a RELAY frame's sector at EOF-good when it is
      needed and a buffer is free. -/
  | relayReceive (p : Port) (f : LineFrame)
  /-- DISTRIBUTE_WAIT_END (R438). The 6 s wait after the RELAY_JOIN broadcast ends, and round 0
      begins. -/
  | distributeWaitEnd
  /-- CONFIRM_WRITE (R441). Every confirmation criterion holds, so the confirmation record and its
      seal are written. -/
  | confirmWrite
  /-- CONFIRM_DEADLINE (R443). 120 s pass without a confirmation, and the device falls back. -/
  | confirmDeadline
  /-- OTP_OWNER (R448). An Update-DR of the OTP_OWNER instruction programs the owner key in BENCH. -/
  | otpOwner (data : BitVec 288)
  /-- OTP_PROGRAM_DONE (R448). The owner key programming completes, and OWNER_KEY reads 1. -/
  | otpProgramDone
  /-- EXTEST (R537). The EXTEST instruction lets the boundary-scan cells drive the chained balls in
      BENCH. -/
  | extest (levels shifted : BitVec 182)
  /-- SAMPLE_PRELOAD (R537). The SAMPLE/PRELOAD instruction samples and preloads the boundary-scan
      register. -/
  | samplePreload (levels shifted : BitVec 182)
  /-- HIGHZ (R537). The HIGHZ instruction puts every chained output into high impedance in BENCH. -/
  | highz
  /-- CLAMP (R537). The CLAMP instruction drives the outputs from the cells with bypass selected, in
      BENCH. -/
  | clamp
  /-- BYPASS (R537). The BYPASS instruction, or a reserved code, selects the bypass register. -/
  | bypass
  /-- TAP_RESET (R539). TRST_N asserted, or five TCK cycles with TMS high, put the TAP into Test-
      Logic-Reset. -/
  | tapReset
  /-- INJ_ENABLE_EXPIRY (R511). The sealed injection enable runs out, which clears INJ_SEALED. -/
  | injEnableExpiry
  /-- FLASH_ERASE_END (R478). A sector erase passes its margin read, and ERASE-END is written. -/
  | flashEraseEnd (t : Nat)
  /-- FLASH_ERASE_ABORT (R478). An erase reaches 200 ms and is aborted with status 2. -/
  | flashEraseAbort
  /-- ERASE_CUTOFF (R479). An erase still running 20 ms after PWRFAIL_N is aborted with status 3. -/
  | eraseCutoff
  /-- ERASE_RESUME (R476). A suspended erase resumes 2 µs after the last access, or after 20 µs. -/
  | eraseResume
  /-- FLASH_PROGRAM_DONE (R475). A unit program verifies, or fails after its retry. -/
  | flashProgramDone (outcome : Nat)
  /-- HEALTH_INTERVAL (R494). A 60 s interval ends, and the rate reasons are judged. -/
  | healthInterval
  /-- PLL_HEADROOM_SAMPLE (R493). Every second while the PLL is LOCKED its tuning headroom is sampled. -/
  | pllHeadroomSample (pct : Nat)
  /-- HOLD_REPL_EXPIRY (R493). HOLD_REPL passes without the holdup charged, and the replace request of
      reason 4 is raised. -/
  | holdReplExpiry
  /-- SUMMARY_PAGE (R508). 60 min have passed with THERM_TOTAL changed, or a boot after power-on reset
      occurs, and a summary page is written. -/
  | summaryPage
  /-- REPL_CLR (R517). A write to the REPL_CLR port word clears REPLACE bits 2, 3, 4 and 6. -/
  | replClr (via : Path) (w : Word)
  /-- TRACE_DATA_READ (R504). A read of TRACE_DATA returns the next word of the path's captured trace
      record. -/
  | traceDataRead (via : Path)
  /-- TRACE_FREEZE (R503). TRACE_CTRL.FREEZE set to 1 stops records from entering the ring. -/
  | traceFreeze (via : Path)
  /-- TRACE_UNFREEZE (R503). FREEZE returned to 0 writes TRACE_GAP with the count of dropped records. -/
  | traceUnfreeze (via : Path)
  /-- TRACE_RD_OLDEST (R504). A write of TRACE_CTRL.RD_OLDEST moves the path's pointer to the oldest
      record. -/
  | traceRdOldest (via : Path)
  /-- TRACE_RD_NEWEST (R504). A write of TRACE_CTRL.RD_NEWEST moves the path's pointer to the newest
      record. -/
  | traceRdNewest (via : Path)
  /-- PERSIST (R507). A write of TRACE_CTRL.PERSIST copies the ring and starts writing 8 trace pages. -/
  | persist (via : Path)
  /-- PERSIST_DONE (R507). The trace pages of a PERSIST are written, and a PERSIST record is added. -/
  | persistDone
  /-- INJ_ARM (R510). A write of INJ_CTRL.ARM arms the injector, or is refused with REF. -/
  | injArm (via : Path) (target action : Nat) (once : Bool)
  /-- INJ_DISARM (R512). A write of INJ_CTRL.DISARM disarms the injector at once. -/
  | injDisarm (via : Path)
  /-- INJ_TIMEOUT (R512). INJ_TIME runs out after arming, and the injector disarms. -/
  | injTimeout
  /-- INJ_REORDER_DROP (R512). A frame held for reorder for 10 ms is dropped. -/
  | injReorderDrop
  /-- JUNCTION_COOLED (R283). A channel junction that tripped THERMAL cools below 150 °C after
      RETRY_INT has already run, and the driver follows the effective value again. -/
  | junctionCooled (n : Nat)
  /-- REVERSE_FEED_END (R287). DET_MS after a REVERSE_FEED condition ends, the driver and its reverse-
      blocking stage follow the effective value again. -/
  | reverseFeedEnd (n : Nat)
  /-- HOLD_WARN_EXPIRY (R493). HOLD_WARN passes after power-on reset without a HOLD_SENSE reading at
      or above HOLD_MIN, and the warning of health reason 4 is raised. -/
  | holdWarnExpiry
  /-- ROLE_CONFLICT (R15). Link appears at a port that the role keeps disabled, such as port A of a
      starter or port B of an anchor, and the device reports a role conflict with REASON 0x0402 and
      ROLE_CONFLICT. -/
  | roleConflict
  /-- LONG_BURST_START (R316). The start time of a kind-2 capture arrives while the converters are
      idle between scheduled rounds, and the long burst starts. -/
  | longBurstStart
deriving DecidableEq, Repr

end Sys2Proof
end

