-- ==== Sys2Proof/Decode.lean ====
section
/-! DEFINITION. Decode: the command that a word spells by the bits of the table of operations. -/

namespace Sys2Proof

/-- The command that a word spells. The table gives no row any bits: its commands are events at pins and interfaces,
register accesses and frames, so no word spells one (log 2). -/
def decodeTableWord (_nbits _w : Nat) : Option Instr := none

end Sys2Proof
end

