-- ==== Sys2Proof/Machine/State.lean ====
section
/-! DEFINITION. State: everything the spec gives the device, as plain data, and the machine right after reset.
Each field's docstring names its meaning, its width and the rule of the spec that names it; the default value of a
field is its value in `State.reset`. Where the spec states no reset value, the docstring says so and names the
log entry. Lists of channel records hold CH00 first. -/

namespace Sys2Proof.Machine

open Sys2Proof

/-! ### The two ways a step can stop -/

/-- Faults: none. The spec gives every command of this block an effect in every state it can be in, and an access that it says
cannot be (a reserved window offset, an address beyond a memory) has an effect of its own there. -/
inductive Fault where
deriving DecidableEq, Repr

/-- Refusals: stops for a command to which the spec gives no effect. -/
inductive Refusal where
  /-- Raised by the dispatch for a command whose meaning is not written yet. Safe: nothing is claimed about it. -/
  | notModelled (mnemonic : String)
deriving DecidableEq, Repr

/-! ### Shared small types -/

/-- The four modes (Table SCO-3). -/
inductive Mode where
  | setup | run | safe | minimal
deriving DecidableEq, Repr

/-- The reset that started a boot (Tables MOD-5 and MOD-10), as the reset-cause latch keeps it (R238). -/
inductive ResetCause where
  /-- Power-on reset by PORST_N (0x0101). -/
  | porst
  /-- Power-on reset by the line-domain supply monitor (0x0102). -/
  | lineSupply
  /-- Logic reset by the logic supply monitor (0x0103, 0x0208). -/
  | logicSupply
  /-- Logic reset by the boot timer (0x0201). -/
  | bootTimer
  /-- Logic reset by a failed image check: 0 CORE, 1 FIELD, 2 LINE (0x0205 to 0x0207). -/
  | imageCheck (part : Nat)
  /-- Core reset by a WDC expiry (0x0202, 0x0302). -/
  | wdc
  /-- Core reset by a fatal exception (0x0203, 0x0303). -/
  | fatal
  /-- Core reset by REBOOT (0x0105). -/
  | reboot
  /-- Core reset by GO_MINIMAL (0x0902). -/
  | goMinimal
  /-- Core reset by the activation of a CORE part (0x0107). -/
  | activation
  /-- Core reset by a fallback (0x0108). -/
  | fallback
deriving DecidableEq, Repr

/-- One list cell of a sparse word table: key and word. -/
abbrev WCell := Nat × Word

/-! ### Line time (chapter 02) -/

/-- SYNC_STAT.PLL (Table TIM-8). -/
inductive Pll where
  | free | acquire | locked | holdover
deriving DecidableEq, Repr

/-- SYNC_STAT.TSTATE (Table TIM-8). -/
inductive TState where
  | unsync | coarse | fine | hold
deriving DecidableEq, Repr

/-- What the device keeps of the last SYNC frame of its time source (R42, R43). -/
structure SyncMark where
  /-- SEQ, 16 bits. -/
  seq : Nat
  /-- EPOCH_T, 8 bits. -/
  epoch : Nat
  /-- ORIGIN: true for the anchor. -/
  anchor : Bool
  /-- t1 in units of 1/64 ns of line time, where the device has one. -/
  t1 : Option Nat
  /-- t2, as t1. -/
  t2 : Option Nat
  /-- t3, as t1. -/
  t3 : Option Nat
  /-- t4, as t1. -/
  t4 : Option Nat
  /-- The corrections made to line time by t2, 1/64 ns (02 R48). -/
  corr : Int
deriving DecidableEq, Repr

/-- The line-time unit and the clock generator's visible state (02). -/
structure TimeState where
  /-- Line time, ns, 64 bits, a multiple of 4 (02 R36, R37). -/
  line : Nat := 0
  /-- Fraction of line time in 1/64 ns, 0 to 255 (02 R36). Reset: DESIGN CHOICE 0, log 5. -/
  frac : Nat := 0
  /-- LTIME0 to LTIME3, 64 bits (02 R52). -/
  latch : BitVec 64 := 0
  /-- LTIME_LATCH.LSEQ, 4 bits (02 Table TIM-7). -/
  lseq : Nat := 0
  /-- LTIME_LATCH.PRESET_REF, 1 bit (02 Table TIM-7). -/
  presetRef : Bool := false
  /-- SYNC_STAT.PLL, 2 bits (02 Table TIM-8). -/
  pll : Pll := .acquire
  /-- SYNC_STAT.REGEN, 1 bit (02 R34). -/
  regen : Bool := false
  /-- SYNC_STAT.REF_B, 1 bit (02 R58). -/
  refB : Bool := false
  /-- SYNC_STAT.TSTATE, 2 bits (02 Table TIM-8). -/
  tstate : TState := .unsync
  /-- SYNC_STAT.ORIGIN_ANCHOR, 1 bit (02 Table TIM-8). -/
  originAnchor : Bool := false
  /-- SYNC_STAT.STEPPED, 1 bit (02 R49). -/
  stepped : Bool := false
  /-- SYNC_STAT.EPOCH_CHG, 1 bit (02 R50). -/
  epochChg : Bool := false
  /-- SYNC_STAT.LOCK_LOST, 1 bit (02 Table TIM-9). -/
  lockLost : Bool := false
  /-- SYNC_STAT.DELAY_RANGE, 1 bit (02 R46). -/
  delayRange : Bool := false
  /-- SYNC_STAT.SYNC_MISS, 1 bit (02 R44). -/
  syncMiss : Bool := false
  /-- SYNC_STAT.REF_RANGE, 1 bit (02 R563). -/
  refRange : Bool := false
  /-- The current EPOCH_T, 8 bits (02 R50). Reset: DESIGN CHOICE 0, log 5. -/
  epochT : Nat := 0
  /-- The starter's EPOCH_T kept in flash, 8 bits (02 R50). Reset: DESIGN CHOICE 0, log 5. -/
  epochFlash : Nat := 0
  /-- The PLL was LOCKED at some time since power-on reset, so it has a ratio (02 R55). -/
  hasRatio : Bool := false
  /-- Corrections made to line time since power-on reset, up to the begin of the slew in progress, 1/64 ns (02 R48). -/
  corr : Int := 0
  /-- Stored offsets in 1/64 ns, newest first, at most 16, each with the corrections made by its sample added (02 R48). -/
  offsets : List Int := []
  /-- The mean is restarting: no correction until 16 samples (02 R48). -/
  restarting : Bool := false
  /-- The slew in progress as it stood when it began, 1/64 ns (02 R48). -/
  slew : Int := 0
  /-- Line time that has run since the last slew began, ns (02 R48). -/
  slewN : Nat := 0
  /-- An epoch change has been carried out up to its step, which the first accepted sample makes (02 R50). -/
  epochDue : Bool := false
  /-- The last accepted segment delay d, 1/64 ns (02 R46). -/
  lastD : Option Nat := none
  /-- The previous SYNC frame of the time source, if it ended in EOF-good here (02 R43). -/
  prev : Option SyncMark := none
  /-- SYNC_N of the last SYNC frame of the current origin that ended in EOF-good here (02 R44). -/
  syncN : Option Nat := none
  /-- Line time at which the running SYNC interval began, ns (02 R44). -/
  syncT : Nat := 0
  /-- Starter SYNC frames are heard: one ended in EOF-good here, and none has been missed since (02 R59). -/
  starterHeard : Bool := false
  /-- Missed SYNC frames in a row (02 R44). -/
  missed : Nat := 0
  /-- The source's SEQ of the next SYNC frame it sends, 16 bits (02 R41). -/
  srcSeq : Nat := 0
  /-- The starter has sent its first SYNC frame since power-on reset (02 R37). -/
  firstSent : Bool := false
  /-- The starter sends SYNC frames: its first LINE_START was accepted (02 R40). -/
  sending : Bool := false
  /-- The starter's own last t4 − t1 in 1/64 ns (02 R40). -/
  ownRtt : Option Nat := none
deriving DecidableEq, Repr

/-! ### The Relay Link ports and the forwarding engine (chapter 03) -/

/-- The state of a port (Table LNK-6). -/
inductive PortState where
  | off | nosig | train | align | up
deriving DecidableEq, Repr

/-- FWD_MODE (Table LNK-7). -/
inductive FwdMode where
  | through | loopB | loopA | isolated | repeater | source | end_
deriving DecidableEq, Repr

/-- A frame as it left an egress: its body, and its terminator. -/
structure SentFrame where
  /-- The body bytes (03 R67). -/
  body : List Byte
  /-- none for EOF-good; ORIGIN1:ORIGIN0 for EOF-poison (03 Table LNK-9). -/
  origin : Option Nat
  /-- The CRC-32 that the engine computed over the body (03 R74); none where it ended the frame before its CRC field:
      `body` is then every byte behind SOF (03 R70, R76). -/
  crc : Option Nat
deriving DecidableEq, Repr

/-- One line port with its status words (Tables LNK-12 and LNK-13). -/
structure LinkPort where
  /-- A_STATE or B_STATE, 3 bits (03 Table LNK-13). -/
  st : PortState := .off
  /-- POL, 1 bit (03 R90). -/
  pol : Bool := false
  /-- CROSS, 1 bit (03 R91). -/
  cross : Bool := false
  /-- FRAMES, 32 bits, wraps (03 Table LNK-12). -/
  frames : Nat := 0
  /-- POISONED, 32 bits, saturates (03 Table LNK-12). -/
  poisoned : Nat := 0
  /-- POISON_IN, 32 bits, saturates (03 Table LNK-12). -/
  poisonIn : Nat := 0
  /-- SYMERR, 32 bits, saturates (03 Table LNK-12). -/
  symErr : Nat := 0
  /-- DOWN, 16 bits, saturates (03 Table LNK-12). -/
  down : Nat := 0
  /-- LOOPS, 16 bits, saturates (03 Table LNK-12). -/
  loops : Nat := 0
  /-- TAP1, TAP2, TAP3: signed, 1/256 of the main cursor (03 Table LNK-12). -/
  taps : List Int := [0, 0, 0]
  /-- The length class taken at the last entry into TRAIN (03 R93). Reset: DESIGN CHOICE, the LINK default, log 5. -/
  lenClass : Nat := 2
  /-- The CTLE boost at 625 MHz, dB (03 R62). Reset: DESIGN CHOICE, that of the default class, log 5. -/
  boost : Nat := 8
  /-- The transmit swing taken at the last entry into TRAIN, SWING code (03 R93). Reset: DESIGN CHOICE, the LINK default,
      log 5. -/
  swing : Nat := 1
  /-- The de-emphasis taken at the last entry into TRAIN, DEEMPH code (03 R93). Reset: DESIGN CHOICE, the LINK default,
      log 5. -/
  deemph : Nat := 1
  /-- A RETRAIN took the port out of UP (03 R80). -/
  retrained : Bool := false
  /-- Line time of the last entry into UP, ns (03 R84, R85). -/
  upT : Nat := 0
  /-- Line time of the last engaged notice received, ns (03 R85). -/
  noticeT : Option Nat := none
  /-- A SYNC frame with ORIGIN 0 ended in EOF-good here since the port entered UP (03 R72). -/
  syncSeen : Bool := false
  /-- As `syncSeen`, for SYNC with ORIGIN 0 and TAKEOVER 0 (03 R92). -/
  sync00Seen : Bool := false
  /-- A COUNT frame ended in EOF-good here since the port entered UP (03 R92). -/
  countSeen : Bool := false
  /-- A loop is held for this port (03 R80). -/
  loop : Bool := false
  /-- A LOOP_REL command waits for its conditions (03 R84, R85). -/
  relPending : Bool := false
  /-- The frames that the last sending command put out of this port's transmitter, first in front (03 R75). -/
  sent : List SentFrame := []
  /-- Own frames that wait for this egress, first in front (03 R562). -/
  own : List (List Byte) := []
  /-- N0, N1, N2 of the last notice ordered set that left this port; empty before the first (03 R83). -/
  notice : List Byte := []
  /-- Notice ordered sets of this device that wait for the gaps of this egress, first in front (03 R82, R86). -/
  noticeQ : List (List Byte) := []
  /-- The frame that began inside another is being discarded up to its terminator (03 R76). -/
  skip : Bool := false
  /-- A bypass-inserted notice frame is due out of this port (03 R88). -/
  bypassDue : Bool := false
deriving DecidableEq, Repr

/-- The forwarding engine's copy of the slot geometry (R20). -/
structure SlotGeo where
  /-- HEAT_IDX. -/
  heat : Nat
  /-- OUT_OFS. -/
  outOfs : Nat
  /-- OUT_LEN. -/
  outLen : Nat
  /-- IN_OFS. -/
  inOfs : Nat
  /-- IN_LEN. -/
  inLen : Nat
deriving DecidableEq, Repr

/-- The forwarding engine's copy of the port parameters (R20, R93), with the defaults of the LINK table before its first
load. -/
structure PortParams where
  /-- A_EN. -/
  enA : Bool := true
  /-- B_EN. -/
  enB : Bool := true
  /-- A_LEN_CLASS. -/
  lenA : Nat := 2
  /-- B_LEN_CLASS. -/
  lenB : Nat := 2
  /-- A_SWING. -/
  swingA : Nat := 1
  /-- A_DEEMPH. -/
  deemphA : Nat := 1
  /-- B_SWING. -/
  swingB : Nat := 1
  /-- B_DEEMPH. -/
  deemphB : Nat := 1
  /-- LOOP_REL_MODE is manual. -/
  relManual : Bool := false
  /-- LOOP_HOLD, ms. -/
  holdMs : Nat := 50
deriving DecidableEq, Repr

/-- The ports, the forwarding engine and the position (03, R20, R152). -/
structure LinkState where
  /-- Port A (03). -/
  a : LinkPort := {}
  /-- Port B (03). -/
  b : LinkPort := {}
  /-- FWD_MODE, 3 bits (03 R71). -/
  mode : FwdMode := .isolated
  /-- FWD_MODE before the last switch: a frame that began before it keeps its path (03 R81, R86). -/
  prevMode : FwdMode := .isolated
  /-- Line time of the last switch of FWD_MODE, ns (03 R81, R86). -/
  switchT : Nat := 0
  /-- BACKWARDS, 1 bit (03 R92). -/
  backwards : Bool := false
  /-- EQ_BOUND, 1 bit (03 R64). -/
  eqBound : Bool := false
  /-- BYPASS: BYPASS_N asserted, 1 bit (03 R87). -/
  bypass : Bool := true
  /-- A release of BYPASS_N under BYPASS_MODE 1 is still due (03 R87). -/
  bypassDue : Bool := false
  /-- BYPASS_DELAY has run, and the due release waits for PWRFAIL_N high or for boot step 7 (03 R87). -/
  bypassRipe : Bool := false
  /-- Boot step 7 has enabled the ports since power-on reset (03 R87). -/
  enabled : Bool := false
  /-- LOOP_FORCE, 1 bit (03 R95). -/
  loopForce : Bool := false
  /-- CNT_FREEZE, 1 bit (03 R95). -/
  cntFreeze : Bool := false
  /-- LOOP_REL_REF, 1 bit (03 R84). -/
  loopRelRef : Bool := false
  /-- DISCARD, 16 bits, saturates (03 Table LNK-12). -/
  discard : Nat := 0
  /-- RSVD_TYPE, 16 bits, saturates (03 R68). -/
  rsvdType : Nat := 0
  /-- The copy of the slot geometry, none until the first load (01 R20). -/
  geo : Option SlotGeo := none
  /-- The copy of the port parameters (01 R20). -/
  params : PortParams := {}
  /-- The binding kept in flash (06 R151, R152): NODEPOS.POS, 12 bits; none when unbound. Reset: DESIGN CHOICE none,
      log 5: a device that was never enumerated. -/
  pos : Option Nat := none
  /-- NODEPOS.PENDING: the binding is pending (06 R152). -/
  posPending : Bool := false
  /-- NODEPOS.DISAGREE (08 Table REG-4). -/
  disagree : Bool := false
deriving DecidableEq, Repr

/-! ### The cyclic exchange (chapter 04) and the snapshot (R104, R274) -/

/-- The snapshot of one sample instant (R104, R274), CH00 first in each list. -/
structure Snapshot where
  /-- SNAP_CYCLE: its cycle number, 32 bits (04 R104, 11 Table CHN-10). -/
  cycle : Nat := 0
  /-- CHIN: sensed states (11 R253). -/
  sensed : Word := 0
  /-- EFF_BITS: effective values not 0 (11 Table CHN-10). -/
  effBits : Word := 0
  /-- CYC_BITS: cyclic views not 0 (11 Table CHN-10). -/
  cycBits : Word := 0
  /-- LOC_BITS: local views not 0 (11 Table CHN-10). -/
  locBits : Word := 0
  /-- CHFORCE: channels that hold a management force (11 R273). -/
  forced : Word := 0
  /-- FORCE_LVL: levels of the held forces (11 Table CHN-10). -/
  forceLvl : Word := 0
  /-- MISMATCH bits (11 R274). -/
  mismatch : Word := 0
  /-- CHFLT: channels with an active or latched fault (12 R285). -/
  faults : Word := 0
  /-- Channels with an active fault: the IN item CH_FAULT (04 Table CYC-5). -/
  active : Word := 0
  /-- DIAG LATCHED bits (12 Table DIA-7). -/
  latched : Word := 0
  /-- EFF_VALUE of CH00 to CH15 (11 Table CHN-10). -/
  effVals : List Word := []
  /-- CYC_VALUE of CH00 to CH15 (11 Table CHN-10). -/
  cycVals : List Word := []
  /-- SENSED_VALUE of CH00 to CH15 (11 Table CHN-10). -/
  sensedVals : List Word := []
  /-- CNT of CH00 to CH15, 32 bits each (11 Table CHN-10). -/
  cnts : List (BitVec 32) := []
  /-- Latest filter output of each regular entry (04 Table CYC-5, 13). -/
  filters : List Word := []
  /-- Window comparators outside their band, 8 bits (04 Table CYC-5, 13). -/
  win : Nat := 0
  /-- Load supply off at the sample (04 R106). -/
  lpOff : Bool := false
  /-- IGN_CYCLIC at the sample (11 Table CHN-10). -/
  ignCyclic : Nat := 0
  /-- RANGE_CLAMP at the sample (11 Table CHN-10). -/
  rangeClamp : Nat := 0
  /-- QEP_DIR at the sample, 8 bits (11 Table CHN-10). -/
  qepDir : Nat := 0
  /-- IN words 1 to 31 as the items in force at the sample make them (04 R115). -/
  inWords : List Word := []
deriving DecidableEq, Repr

/-- A held commit (R107): the OUT words with the items in force at EOF-good, or none for NO_OUT. -/
structure Commit where
  /-- Cycle number, widened to the node's own count (04 R107, R108). -/
  cycle : Nat
  /-- Pairs of OUT item and word; none when NO_OUT was set (04 R107, R115). -/
  data : Option (List (Word × Word))
deriving DecidableEq, Repr

/-- The cyclic path of the forwarding engine (04) with its status words. -/
structure CycState where
  /-- The commit buffers, at most two, of different cycle parity (04 R107). -/
  commits : List Commit := []
  /-- APPLIED, 32 bits (04 Table CYC-3). -/
  applied : Nat := 0
  /-- ACCEPTED, 32 bits, wraps (04 Table CYC-3). -/
  accepted : Nat := 0
  /-- MISSED, 32 bits, saturates (04 Table CYC-3). -/
  missed : Nat := 0
  /-- LATE, 16 bits, saturates (04 Table CYC-3). -/
  late : Nat := 0
  /-- STALE_HEAT, 16 bits, saturates (04 Table CYC-3). -/
  stale : Nat := 0
  /-- EARLY, 16 bits, saturates (04 Table CYC-3). -/
  early : Nat := 0
  /-- DUP, 16 bits, saturates (04 Table CYC-3). -/
  dup : Nat := 0
  /-- HDR_ERR, 16 bits, saturates (04 Table CYC-3). -/
  hdrErr : Nat := 0
  /-- MISS_RUN, 16 bits (04 Table CYC-3). -/
  missRun : Nat := 0
  /-- LOSSES, 16 bits, saturates (04 Table CYC-3). -/
  losses : Nat := 0
  /-- SNAP_LATE, 16 bits, saturates (04 Table CYC-3). -/
  snapLate : Nat := 0
  /-- MOVING, 1 bit (04 R114). -/
  moving : Bool := true
  /-- OUT_MISS is due in the next IN status word (04 R109). -/
  outMiss : Bool := false
  /-- A line loss was declared and no line-regained event has followed (04 R113). -/
  lossOpen : Bool := false
  /-- The newest snapshot that is ready (04 R104). -/
  snap : Snapshot := {}
  /-- The snapshot frozen at a sample instant and not ready yet (04 R104). -/
  frozen : Option Snapshot := none
  /-- MISS_RUN has reached LOSS_LIMIT in the present run (04 R112). -/
  limitHit : Bool := false
  /-- Line time at which the last heat was accepted, ns (18 Table UPD-11). -/
  acceptT : Option Nat := none
  /-- The cycle whose sample instant fires next (02 R38, 04 R97). -/
  nextSample : Nat := 0
  /-- The cycle whose apply instant fires next (02 R38, 04 R97). -/
  nextApply : Nat := 0
deriving DecidableEq, Repr

/-! ### Tagged transactions at the node (chapter 05) -/

/-- Who waits for an operation: a path, for a descriptor, or the line transaction of a number. -/
inductive Requester where
  | queue (via : Path) (d : Descriptor)
  | line (id : Nat)
deriving DecidableEq, Repr

/-- Where a held transaction stands (R126, R460, R461). -/
inductive TxnPhase where
  /-- Its seal is being opened. -/
  | opening
  /-- H is being written to its floor before it executes. -/
  | floor
  /-- CONSUMED: it waits for its execution. -/
  | held
  /-- EXECUTING: another unit works on it. -/
  | executing
  /-- Its response is being sealed. -/
  | sealing
deriving DecidableEq, Repr

/-- A transaction that the node holds: a consumed record (Table ACY-3) and its outcome so far. -/
structure Txn where
  /-- The number of its consumption, which names it inside the model: log 22. -/
  id : Nat
  /-- A broadcast record (05 R132). -/
  bcast : Bool
  /-- Origin: the anchor. -/
  anchor : Bool
  /-- TAG. -/
  tag : Nat
  /-- OPCODE. -/
  op : Nat
  /-- Request digest (05 R127). -/
  digest : Nat
  /-- Lifetime deadline, ns of line time (05 R130). -/
  deadline : Nat
  /-- SEALED. -/
  sealed : Bool
  /-- NONCE of the request, 12 bytes, empty when unsealed. -/
  nonce : List Byte
  /-- Record bytes 0 to 7 with RETRY taken as 0: associated data (19 Table SEC-5). -/
  head : List Byte
  /-- GCM_TAG, 16 bytes, empty when unsealed. -/
  gcmTag : List Byte
  /-- The nonce with which its response is being sealed (19 R456). -/
  sealNonce : List Byte
  /-- DATA: plain, or ciphertext until it is opened. -/
  data : List Byte
  /-- RETRY = 1 with no transaction held: a replay or a new one (05 Table ACY-7). -/
  retry : Bool
  /-- Where it stands. -/
  phase : TxnPhase
  /-- An effect outside the transaction engine has begun (05 R130). -/
  effect : Bool
  /-- Status of the outcome, once executed. -/
  status : Nat
  /-- Response data, once executed. -/
  resp : List Byte
  /-- It answers from the replay cache. -/
  cached : Bool
  /-- The DONE flag of the entry that it replays (05 R128). -/
  done : Bool
deriving DecidableEq, Repr

/-- A response ready for a pocket (Table ACY-4). -/
structure Response where
  /-- The number of the record that it answers: log 22. -/
  id : Nat
  /-- Origin of the request: the anchor. -/
  anchor : Bool
  /-- TAG. -/
  tag : Nat
  /-- OPCODE. -/
  op : Nat
  /-- STATUS. -/
  status : Nat
  /-- DATA, or ciphertext when sealed. -/
  data : List Byte
  /-- NONCE and GCM_TAG when sealed. -/
  sealed_ : Option (List Byte × List Byte)
  /-- The plain response data, for the replay cache. -/
  plain : List Byte
  /-- Its operation took effect (05 R130). -/
  effect : Bool
  /-- UNSOL: a last-gasp notice. -/
  unsol : Bool
  /-- DONE: an expired operation had taken effect. -/
  done : Bool
  /-- CACHED: replayed. -/
  cached : Bool
  /-- It holds its tag and leaves a DONE entry when sent (05 R128); false for DUP_TAG and BUSY. -/
  owns : Bool
  /-- It is an EXPIRED response (05 R131). -/
  expired : Bool
  /-- Request digest. -/
  digest : Nat
  /-- The request was sealed, with this nonce. -/
  reqNonce : List Byte
  /-- Lifetime deadline, ns of line time. -/
  deadline : Nat
deriving DecidableEq, Repr

/-- A DONE entry (R128). -/
structure DoneEntry where
  /-- Origin: the anchor. -/
  anchor : Bool
  /-- TAG. -/
  tag : Nat
  /-- OPCODE. -/
  op : Nat
  /-- Request digest. -/
  digest : Nat
  /-- STATUS. -/
  status : Nat
  /-- The DONE flag. -/
  flag : Bool
  /-- Response data, when it has at most 16 bytes. -/
  data : Option (List Byte)
  /-- Lifetime deadline, ns of line time. -/
  deadline : Nat
deriving DecidableEq, Repr

/-- The transaction engine of a node and of the anchor (05). -/
structure TxnState where
  /-- The number of the next consumed record, the model's own: log 22. -/
  serial : Nat := 0
  /-- Sealed records at the crypto engine, not authenticated yet, in consumption order (19 R460). -/
  opening : List Txn := []
  /-- Transactions held and not ready, in consumption order (05 R127). -/
  held : List Txn := []
  /-- Status-only responses to sealed requests at the crypto engine, with their nonces, in order (05 R119, 19 R456). -/
  sealing : List Response := []
  /-- Ready responses, a last-gasp notice first, then in order of readiness (05 R124). -/
  ready : List Response := []
  /-- DONE entries (05 R128). -/
  done : List DoneEntry := []
  /-- Tag, digest and deadline of the last 16 consumed broadcast records, newest first (05 R132). -/
  bcasts : List (Nat × Nat × Nat) := []
  /-- Cycle in which the last BATON_ERR was posted (05 R120). -/
  batonErr : Option Nat := none
  /-- The last-gasp notice of the present PWRFAIL_N assertion was formed (05 R139). -/
  gasped : Bool := false
deriving DecidableEq, Repr

/-! ### Events, interrupts and trace (chapters 08 and 21) -/

/-- One entry of the event queue (Table REG-9). -/
structure Event where
  /-- CODE, 8 bits (R203, Table REG-11). -/
  code : Byte
  /-- ARGX, 8 bits (R203). -/
  argx : Byte
  /-- ARG, 16 bits (R203). -/
  arg : Word
  /-- Line time [31:0] at the event (R203). -/
  lt : BitVec 32
deriving DecidableEq, Repr

/-- The event queue and the interrupt registers (08). -/
structure EventState where
  /-- Entries in the order posted, oldest first, at most 256 (08 R203). -/
  queue : List Event := []
  /-- HOLDER of the partly read entry: none, or the path that read word 0 (08 R205). -/
  holder : Option Path := none
  /-- RPTR: words of the held entry read by its holder, 2 bits (08 R205, Table REG-10). -/
  rptr : Nat := 0
  /-- Line time of the holder's last read of EVQ_DATA, ns (08 R205). -/
  holdT : Nat := 0
  /-- EVQ_LEVEL.OVF, 1 bit (08 R204). -/
  ovf : Bool := false
  /-- INTA_STAT bits [14:0]; bit 15 is the queue's level (08 R201, Table REG-7). -/
  intaStat : Word := 0
  /-- INTA_EN, 16 bits (08 R202). -/
  intaEn : Word := 0
  /-- INTB_STAT, 14 bits (08 R201, Table REG-8). -/
  intbStat : Word := 0
  /-- INTB_EN, 14 bits (08 R202). -/
  intbEn : Word := 0
deriving DecidableEq, Repr

/-- One trace record (Table HLT-4). -/
structure TraceRec where
  /-- LTIME of the event, ns, 64 bits (21 R499). -/
  lt : Nat
  /-- SOURCE, 8 bits (Table HLT-5). -/
  source : Byte
  /-- CODE, 8 bits (21 R500, Table HLT-6). -/
  code : Byte
  /-- ARG48, 48 bits (21 R500). -/
  arg : BitVec 48
deriving DecidableEq, Repr

/-- One path's pointer into the trace ring (R504). -/
structure TracePtr where
  /-- TSEQ of the record under the pointer (21 R504). -/
  tseq : Nat := 0
  /-- WORD_IDX, 3 bits (21 R504, Table REG-18). -/
  idx : Nat := 0
  /-- The record captured at word 0 (21 R504). -/
  capture : Option TraceRec := none
  /-- LOST, 1 bit (21 R504). -/
  lost : Bool := false
deriving DecidableEq, Repr

/-- One page of the persistent trace (R505, Table HLT-8). -/
structure TracePage where
  /-- ITEM: cause, 0 PERSIST, 1 power loss, 2 summary (21 Table HLT-8). -/
  cause : Nat
  /-- SEQ: page sequence of the region, 32 bits (21 Table HLT-8). -/
  seq : Nat
  /-- FIRST_TSEQ, 32 bits (21 Table HLT-8). -/
  firstTseq : Nat
  /-- The records held, oldest first, 1 to 256; none in a summary page (21 R505). -/
  recs : List TraceRec
  /-- POR_COUNT from the summary (21 Table HLT-8). -/
  por : Nat
  /-- THERM_TOTAL of CH00 to CH15 in a summary page (21 R508). -/
  therm : List Nat
  /-- The holdup charge time in a summary page (21 R508). -/
  hold : Nat
deriving DecidableEq, Repr

/-- The trace unit and the persistent trace (21). -/
structure TraceState where
  /-- The newest records of the ring, oldest first, at most 2,048 (21 R499). -/
  ring : List TraceRec := []
  /-- TSEQ: records written, 32 bits (21 R499). -/
  tseq : Nat := 0
  /-- TRACE_CTRL.FREEZE, 1 bit (21 R503). -/
  freeze : Bool := false
  /-- FROZEN_DROPS, saturates at 0xFFFF (21 R503). -/
  frozenDrops : Nat := 0
  /-- DROPPED: detail records not written, saturates at 0xFFFF (21 R501, R502). -/
  dropped : Nat := 0
  /-- The host bus pointer (21 R504). -/
  ptrHost : TracePtr := {}
  /-- The slave port pointer (21 R504). -/
  ptrSlave : TracePtr := {}
  /-- The line path pointer (21 R504). -/
  ptrLine : TracePtr := {}
  /-- The copy of the ring that a running PERSIST writes, none when no PERSIST runs (21 R507). -/
  persist : Option (List TraceRec × Nat) := none
  /-- One erased sector of the ring region is ready for the power-loss page (21 R506). -/
  readySector : Bool := true
  /-- Complete trace pages, oldest first, at most 64 with the summary pages (21 R505). -/
  pages : List TracePage := []
  /-- SEQ of the next page (21 R505). -/
  nextPage : Nat := 0
deriving DecidableEq, Repr

/-! ### The host bus unit, the command queues and the keys (chapter 07) -/

/-- The key state of one path (R186). -/
inductive KeyState where
  | idle | half | opened
deriving DecidableEq, Repr

/-- The command queue state of one path (R179, R181, R183). -/
structure CmdPath where
  /-- Words of the descriptor under assembly, at most 7 held (07 R179). -/
  asm : List Word := []
  /-- Outstanding commands in posting order (07 R181). -/
  outst : List Descriptor := []
  /-- Completion entries, four words each, oldest first (07 R183). -/
  cplq : List (List Word) := []
  /-- RPTR: words read of the oldest completion entry, 2 bits (07 R183). -/
  rptr : Nat := 0
  /-- CMDQ_STAT.DROP, 1 bit (07 R181). -/
  drop : Bool := false
deriving DecidableEq, Repr

/-- The key state and its failures for one path (R186, Table HBU-13). -/
structure PathKey where
  /-- STATE, 2 bits (07 R186). -/
  st : KeyState := .idle
  /-- FAILS, 4 bits, modulo 16 (07 Table HBU-13). -/
  fails : Nat := 0
  /-- Line time at which the key opened last, ns (07 R186). -/
  openT : Nat := 0
deriving DecidableEq, Repr

/-- What a CHIN read captured for a path's next two accesses (R198). -/
structure ChinCapture where
  /-- The captured CHFLT word, until it is read (08 R198). -/
  chflt : Option Word := none
  /-- The captured CHFORCE word, until it is read (08 R198). -/
  chforce : Option Word := none
deriving DecidableEq, Repr

/-- The host bus unit (07) and the per-path register state (08 R197). -/
structure BusState where
  /-- HD[15:0]: the word the device last drove in a read cycle (07 Table HBU-3). Reset: DESIGN CHOICE 0, log 5. -/
  hd : Word := 0
  /-- MWIN_CTRL.XIP_EN, 1 bit (07 R178, Table HBU-6). -/
  xipEn : Bool := false
  /-- MWIN_CTRL.XIP_SEL, 3 bits (07 Table HBU-6). -/
  xipSel : Nat := 0
  /-- MWIN_CTRL.XIP_BASE, 4 bits (07 Table HBU-6). -/
  xipBase : Nat := 0
  /-- MWIN_CTRL.XIP_REF, 1 bit (07 R178). -/
  xipRef : Bool := false
  /-- MWIN_CTRL.WIN_ERR, 1 bit (07 R175). -/
  winErr : Bool := false
  /-- MWIN_CTRL.TIMEOUT, 1 bit (07 R177). -/
  timeout : Bool := false
  /-- BUSCFG.INTA_OD, 1 bit (07 Table HBU-12). -/
  intaOd : Bool := false
  /-- BUSCFG.INTB_OD, 1 bit (07 Table HBU-12). -/
  intbOd : Bool := false
  /-- BUSCFG.XIP_WAIT, 2 bits (07 Table HBU-12). -/
  xipWait : Nat := 2
  /-- BUSCFG.HD_DRIVE, 2 bits (07 Table HBU-12). -/
  hdDrive : Nat := 1
  /-- A held half write: SRAM address of offset 4n and its word (07 R174). -/
  heldWrite : Option (Nat × Word) := none
  /-- The captured upper half of a 32-bit read: SRAM address of 4n + 2 and its word (07 R174). -/
  heldRead : Option (Nat × Word) := none
  /-- The host bus command queue (07 R179 to R183). -/
  cmdHost : CmdPath := {}
  /-- The slave port command queue (07 R179 to R183). -/
  cmdSlave : CmdPath := {}
  /-- The host bus key (07 R186). -/
  keyHost : PathKey := {}
  /-- The slave port key (07 R186). -/
  keySlave : PathKey := {}
  /-- The line path key (07 R186). -/
  keyLine : PathKey := {}
  /-- The host bus CHIN capture (08 R198). -/
  chinHost : ChinCapture := {}
  /-- The slave port CHIN capture (08 R198). -/
  chinSlave : ChinCapture := {}
  /-- SCRATCH, 16 bits (08 Table REG-19). -/
  scratch : Word := 0
deriving DecidableEq, Repr

/-! ### The starter and the anchor (chapter 06) -/

/-- A latched heat descriptor (Table STA-5). -/
structure HeatDesc where
  /-- FIRST_POS. -/
  first : Nat
  /-- POS_COUNT. -/
  count : Nat
  /-- PAYLOAD_LEN. -/
  len : Nat
  /-- ORDER. -/
  order : Nat
deriving DecidableEq, Repr

/-- The latched host-owned fields of a topology entry that is not OPEN (Table STA-7). -/
structure TopoSlot where
  /-- The position. -/
  pos : Nat
  /-- HEAT_IDX. -/
  heat : Nat
  /-- OUT_OFS in bytes. -/
  outOfs : Nat
  /-- IN_OFS in bytes. -/
  inOfs : Nat
  /-- OUT_LEN in bytes. -/
  outLen : Nat
  /-- IN_LEN in bytes. -/
  inLen : Nat
deriving DecidableEq, Repr

/-- The latched plan (R143, Tables STA-4 and STA-5). -/
structure Plan where
  /-- FLAGS, 8 bits. -/
  flags : Nat
  /-- LAUNCH_OFS, ns. -/
  launch : Nat
  /-- SETTLE_MS. -/
  settle : Nat
  /-- SILENT_LIMIT. -/
  silent : Nat
  /-- PING_TRIES. -/
  pingTries : Nat
  /-- PING_LIFE. -/
  pingLife : Nat
  /-- POCKET_SIZE. -/
  pocketSize : Nat
  /-- POCKETS. -/
  pockets : Nat
  /-- QUOTA. -/
  quota : Nat
  /-- BATON_MAX. -/
  batonMax : Nat
  /-- GUN_LEAD. -/
  gunLead : Nat
  /-- The heat descriptors, index 0 first. -/
  heats : List HeatDesc
  /-- The slots of the positions that are not OPEN, in rising order of position. -/
  slots : List TopoSlot
deriving DecidableEq, Repr

/-- Where the line start stands (Table STA-9). -/
inductive LineStage where
  /-- No heats: before LINE_START and after LINE_STOP. -/
  | idle
  /-- Settling, SYNC frames only (step 2). -/
  | settle
  /-- The COUNT frame is out (step 3). -/
  | count
  /-- The first heat leaves at the next launch (step 5). -/
  | first
  /-- Heats and batons run. -/
  | running
deriving DecidableEq, Repr

/-- What a line transaction of the starter serves (R160, R154, R157, R161, R162, R438). -/
inductive LineTxnFor where
  /-- A LINE_TXN command of a path. -/
  | host (p : Path) (d : Descriptor)
  /-- A ping of a silent or slotless position. -/
  | ping
  /-- POS_BIND of a consistent pending position. -/
  | bind
  /-- GUN_SCHEDULE: the broadcast of the gun time. -/
  | gunBcast
  /-- GUN_SCHEDULE: a read of CFG_STAT before the gun time. -/
  | gunRead
  /-- GUN_SCHEDULE: a write to a position that is not armed. -/
  | gunWrite
  /-- GUN_SCHEDULE: the broadcast of the cancel. -/
  | gunCancel
  /-- GUN_SCHEDULE: a read of the closing sweep. -/
  | gunClose
  /-- RELAY_PULL: the FLASH_READ of one part of a block. -/
  | pull (block part : Nat)
  /-- Relay distribution: the broadcast RELAY_JOIN. -/
  | join
  /-- Relay distribution: RELAY_CTRL MAP. -/
  | map
  /-- Relay distribution: RELAY_CTRL STATUS. -/
  | status
deriving DecidableEq, Repr

/-- An outstanding line transaction at the starter or the anchor (R160). -/
structure LineTxn where
  /-- What it serves. -/
  for_ : LineTxnFor
  /-- Destination, 1 to 4094, or 4095 for a broadcast. -/
  dest : Nat
  /-- TAG. -/
  tag : Nat
  /-- OPCODE. -/
  op : Nat
  /-- LIFE. -/
  life : Nat
  /-- Sealed. -/
  sealed : Bool
  /-- The plain request data. -/
  data : List Byte
  /-- NONCE and GCM_TAG and ciphertext, once sealed (19 R455). -/
  sealed_ : Option (List Byte × List Byte × List Byte)
  /-- The record waits for a baton. -/
  queued : Bool
  /-- Line time of the original departure, ns. -/
  sentT : Option Nat
  /-- Line time of the newest departure, ns. -/
  lastT : Nat
  /-- Departures: retries for a unicast, batons for a broadcast. -/
  sends : Nat
deriving DecidableEq, Repr

/-- GUN_SCHEDULE in progress (R161). -/
structure GunRun where
  /-- Gun time G, ns. -/
  g : Nat
  /-- ALL_OR_NONE. -/
  all : Bool
  /-- Positions known to be armed. -/
  armed : List Nat
  /-- The cancel runs. -/
  cancelled : Bool
  /-- The closing sweep runs: positions still to answer. -/
  closing : Option (List Nat)
  /-- PRESENT positions when the closing sweep began. -/
  total : Nat
  /-- Positions the closing sweep found swapped (06 R161). -/
  swapped : Nat
  /-- Positions the closing sweep found refused (06 R161). -/
  refused : Nat
  /-- The posting path. -/
  path : Path
  /-- The posting descriptor. -/
  d : Descriptor
deriving DecidableEq, Repr

/-- RELAY_PULL in progress (R162). -/
structure PullRun where
  /-- Source position. -/
  src : Nat
  /-- The block being pulled. -/
  block : Nat
  /-- Blocks left, the present one included. -/
  left : Nat
  /-- Pulls of the present block that failed its check. -/
  tries : Nat
  /-- Parts of the present block received: part number and bytes. -/
  parts : List (Nat × List Byte)
  /-- Parts of the present block whose reads failed or got no answer in this pull. -/
  fails : List Nat
  /-- Blocks that failed (06 R162). -/
  failed : List Nat
  /-- Blocks pulled and good (06 R162). -/
  pulled : Nat
  /-- The posting path. -/
  path : Path
  /-- The posting descriptor. -/
  d : Descriptor
deriving DecidableEq, Repr

/-- A silent position's pings (R157, R158). -/
structure PingRun where
  /-- The position. -/
  pos : Nat
  /-- Pings given. -/
  tries : Nat
  /-- The outcome, once a response came or the last ping was lost. -/
  outcome : Option Bool
deriving DecidableEq, Repr

/-- A cycle whose IN data an IN buffer takes (R147, R163). -/
structure InCyc where
  /-- Its cycle number, as the device's own count has it (04 R108). -/
  cycle : Nat
  /-- The plan latched when it was launched. -/
  plan : Plan
  /-- Heats that came back, good or poisoned. -/
  back : List Nat
  /-- Heats that this device launched in it. -/
  sent : List Nat
  /-- IN_READY is still due. -/
  due : Bool
  /-- A cycle of the starter that the anchor mirrors. -/
  mirrored : Bool
deriving DecidableEq, Repr

/-- The anchor's takeover (R164 to R166). -/
structure AnchorState where
  /-- A takeover runs. -/
  takeover : Bool := false
  /-- The takeover sends heats and batons. -/
  heats : Bool := false
  /-- The trigger has occurred: none, or the notifying position, 4096 for SYNC_MISS alone (06 R164). -/
  trigger : Option Nat := none
  /-- Line time of the trigger, ns (06 R164). -/
  triggerT : Nat := 0
  /-- A LINE_START has latched the plan (06 R164). -/
  started : Bool := false
  /-- TSTATE reached FINE since power-on reset (06 R164). -/
  fineSeen : Bool := false
  /-- Line time of the last starter heat that ended in EOF-good at the turn, ns (06 R164). -/
  lastHeat : Option Nat := none
  /-- The takeover ends at the next cycle boundary (06 R166). -/
  ending : Bool := false
deriving DecidableEq, Repr

/-- The starter's and the anchor's line work (06). -/
structure StaState where
  /-- The latched plan; none before the first LINE_START (06 R143). -/
  plan : Option Plan := none
  /-- Where the line start stands (06 Table STA-9). -/
  stage : LineStage := .idle
  /-- Line time at which the settle phase ends, ns (06 Table STA-9). -/
  settleT : Nat := 0
  /-- The LINE_START waits for port B UP, with its path and descriptor (06 Table STA-9). -/
  waiting : Option (Path × Descriptor) := none
  /-- LINE_START in progress: its path and descriptor (06 R149). -/
  starting : Option (Path × Descriptor) := none
  /-- ENUM in progress: its path and descriptor (06 Table STA-2). -/
  enumFor : Option (Path × Descriptor) := none
  /-- The enumeration mode of the COUNT frame: true for ASSIGN (06 R150). -/
  assign : Bool := false
  /-- COUNT frames sent in a row that returned poisoned (06 R154). -/
  countTries : Nat := 0
  /-- A COUNT frame is out, or due (06 R150). -/
  counting : Bool := false
  /-- Line time at which the last COUNT frame left, ns (04 R116: it is back within P). -/
  countT : Nat := 0
  /-- ENUM commands that wait for the COUNT frame before them, oldest first (06 Table STA-2; log 51). -/
  enumWaits : List (Path × Descriptor) := []
  /-- The COUNT frame waits for the next gap behind heats (06 R155, Table STA-9). -/
  countDue : Bool := false
  /-- ENUM_SEQ, 16 bits (06 Table STA-10). -/
  enumSeq : Nat := 0
  /-- A VERIFY COUNT is due after a loop-released notice (06 R155). -/
  verifyDue : Bool := false
  /-- LINE_STOP in progress: its path and descriptor (06 R149). -/
  stopping : Option (Path × Descriptor) := none
  /-- Line time at which the LINE_STOP takes effect, ns (06 R149). -/
  stopT : Nat := 0
  /-- Cycle number of the present or last launch (06 R144). -/
  cycle : Nat := 0
  /-- The cycle whose OUT publication is sampled and that is not launched yet (06 R145). -/
  sampled : Option Nat := none
  /-- OUT_PUB[31:16] of the last adoption (06 R145). Reset: 0, as OUT_PUB in empty SRAM. -/
  pubSeq : Nat := 0
  /-- The adopted OUT buffer, 0 or 1 (06 R145). -/
  outBuf : Nat := 0
  /-- A buffer has been adopted (06 R145). -/
  adopted : Bool := false
  /-- NO_OUT is set in the heats of the present cycle (06 R145). -/
  noOut : Bool := true
  /-- The newest even cycle (06 R147). -/
  in0 : Option InCyc := none
  /-- The newest odd cycle (06 R147). -/
  in1 : Option InCyc := none
  /-- BSEQ of the next baton, 16 bits (05 Table ACY-2). -/
  bseq : Nat := 0
  /-- Batons sent in the present cycle (06 R160). -/
  batons : Nat := 0
  /-- Outstanding line transactions in post order, at most 2,048, or 256 at the anchor (06 R160). -/
  txns : List LineTxn := []
  /-- Consistent pending positions whose POS_BIND waits for room in the list (06 R154). -/
  binds : List Nat := []
  /-- Pings of silent positions (06 R157, R158). -/
  pings : List PingRun := []
  /-- GUN_SCHEDULE in progress (06 R161). -/
  gun : Option GunRun := none
  /-- RELAY_PULL in progress (06 R162). -/
  pull : Option PullRun := none
  /-- The anchor (06 R163 to R166). -/
  anchor : AnchorState := {}
  /-- TAKEOVER_END in progress: its path and descriptor (06 Table STA-2). -/
  endFor : Option (Path × Descriptor) := none
deriving DecidableEq, Repr

/-! ### The configuration sets (chapter 09) -/

/-- The three actions that set CFG_STAT.BUSY (R208, R216, R217, R227). -/
inductive CfgAction where
  /-- A validation runs. -/
  | validate
  /-- A copy of the active set into the shadow set runs. -/
  | copy
  /-- A commit runs: the set as it stood at the start, and whether a swap took effect since. -/
  | commit (set : List WCell) (swapped : Bool)
deriving DecidableEq, Repr

/-- An armed swap (R219, R220). -/
structure ArmedSwap where
  /-- Swap mode, 1 to 3 (09 R219). -/
  mode : Nat
  /-- The swap instant, ns of line time (09 R220). -/
  instant : Nat
deriving DecidableEq, Repr

/-- One entry of the configuration store (R227, chapter 20). -/
structure StoreEntry where
  /-- Slot, 0 to 6 (20 R486). -/
  slot : Nat
  /-- Sequence number, 32 bits (09 R227). -/
  seq : Nat
  /-- NODE.FORMAT of the image that wrote it (09 R227). -/
  format : Nat
  /-- The words stored. -/
  set : List WCell
deriving DecidableEq, Repr

/-- The configuration window, the two sets and the store's view (09). A set lists the words that differ from their
table defaults, in rising order of 4096 × table + word. -/
structure CfgState where
  /-- The active set, 14 tables of 16-bit words (09 R210, Table CFG-2). -/
  active : List WCell := []
  /-- The shadow set (09 R210). -/
  shadow : List WCell := []
  /-- The active set at the last boot, whose N-class words the units keep (09 R218). -/
  boot : List WCell := []
  /-- The active set is the staged copy in the field die (09 R216, R229). Reset: DESIGN CHOICE false, log 5. -/
  stagedActive : Bool := false
  /-- The validation, copy or commit that a core reset abandoned, until the boot reports it (09 R229). -/
  abandoned : Option CfgAction := none
  /-- The shadow set is staged in the field die (09 R216, R229). Reset: DESIGN CHOICE false, log 5. -/
  stagedShadow : Bool := false
  /-- CFG_SET.SET, 1 bit (08 Table REG-12). -/
  selShadow : Bool := false
  /-- CFG_SET.AUTOINC, 1 bit (08 Table REG-12). -/
  autoinc : Bool := false
  /-- CFG_SET.TABLE, 8 bits (08 Table REG-12). -/
  table : Nat := 0
  /-- CFG_ADDR.WORD, 14 bits (08 Table REG-12). -/
  word : Nat := 0
  /-- CFG_STAT.OWNER (09 R213). -/
  owner : Option Path := none
  /-- Line time of the owner's last window access, ns (09 R213). -/
  ownerT : Nat := 0
  /-- The action behind CFG_STAT.BUSY (09 R216, R217, R227). -/
  busy : Option CfgAction := none
  /-- CFG_STAT.VALID, 1 bit (09 R216). -/
  valid : Bool := false
  /-- CFG_STAT.VAL_FAIL, 1 bit (09 R216). -/
  valFail : Bool := false
  /-- The armed swap, none when CFG_STAT.ARMED is 0 (09 R219). -/
  armed : Option ArmedSwap := none
  /-- CFG_STAT.SWAPPED, 1 bit (09 R223). -/
  swapped : Bool := false
  /-- CFG_STAT.SWAP_REF, 1 bit (09 R219). -/
  swapRef : Bool := false
  /-- CFG_STAT.MISSED_GUN, 1 bit (09 R219). -/
  missedGun : Bool := false
  /-- CFG_STAT.COMMIT_ERR, 1 bit (09 R227). -/
  commitErr : Bool := false
  /-- CFG_STAT.SWAP_SEQ, 4 bits (09 R223). -/
  swapSeq : Nat := 0
  /-- GUN_T0 to GUN_T3 as one 64-bit value (08 Table REG-12). -/
  gun : BitVec 64 := 0
  /-- An automatic commit is pending (09 R223). -/
  autoCommit : Bool := false
  /-- NODE.FORMAT of the running CORE image, 16 bits (09 Table CFG-6). Reset: DESIGN CHOICE 0, log 5. -/
  format : Nat := 0
  /-- NODE.STORE_MATCH, 1 bit (09 Table CFG-6). -/
  storeMatch : Bool := true
  /-- NODE.DIFF_S as recorded by validation, 1 bit (09 R216). -/
  diffS : Bool := false
  /-- NODE.DIFF_N as recorded by validation, 1 bit (09 R216). -/
  diffN : Bool := false
  /-- NODE.LAST_SWAP_T, ns, 64 bits (09 Table CFG-6). -/
  lastSwapT : Nat := 0
  /-- NODE.LAST_REF, 8 bits (09 R219). -/
  lastRef : Nat := 0
  /-- NODE.REFS, 8 bits, saturates (09 R219). -/
  refs : Nat := 0
  /-- NODE.STORE_SEQ, 32 bits (09 R227). -/
  storeSeq : Nat := 0
  /-- Complete entries of the configuration store, oldest first, at most 7 (09 R227, chapter 20). -/
  store : List StoreEntry := []
deriving DecidableEq, Repr

/-! ### Modes, boots and power (chapter 10) -/

/-- The modes, the boot, the power states and the supplies as the device knows them (10). -/
structure ModeState where
  /-- MODE.MODE, 2 bits (10 R232). -/
  mode : Mode := .setup
  /-- MODE.REST, 1 bit (10 R244). -/
  rest : Bool := false
  /-- A REST command was taken and the core has not finished its work (10 R244). -/
  restPending : Bool := false
  /-- Line time at which REST began, ns (21 R502). -/
  restSince : Nat := 0
  /-- MODE.BOOT_OK, 1 bit (10 R236). -/
  bootOk : Bool := false
  /-- REASON, 16 bits (10 R241). Reset: the boot reason 0x0101 of PORST_N (08 Table REG-5). -/
  reason : Word := 0x0101
  /-- MODECMD.CMD: the last command taken, 4 bits (08 Table REG-5). -/
  cmd : Nat := 0
  /-- MODECMD.RESULT, 2 bits (08 Table REG-5). -/
  result : Nat := 0
  /-- The stored false-start count FS of the keys region, 0 to 3 (10 R238). Reset: DESIGN CHOICE 0, log 5. -/
  fs : Nat := 0
  /-- MODE.FSTARTS: FS as read at step 4 of this boot, 0 to 3 (10 R240). -/
  fstarts : Nat := 0
  /-- The power-fail mark of the keys region, 1 bit (10 R238). Reset: DESIGN CHOICE clear, log 5. -/
  pwrfailMark : Bool := false
  /-- The boot reached 120 s after BOOT-OK (10 R238). -/
  stable : Bool := false
  /-- The reset-cause latch (10 R238). -/
  cause : ResetCause := .porst
  /-- A core reset has come and the boot has not decided the outputs: effective values are held (01 R27). -/
  coreHold : Bool := false
  /-- A boot runs: its reset was released and BOOT-OK is not reached (10 R237). -/
  booting : Bool := false
  /-- The last step of Table MOD-7 that the running or last boot has done, 0 to 12 (10 R237). -/
  bootStep : Nat := 0
  /-- Line time at the release that started the boot timer, ns (10 R237). -/
  bootT : Nat := 0
  /-- Line time at the last release of power-on reset, ns: BYPASS_DELAY runs from it (03 R87). -/
  porT : Nat := 0
  /-- Line time of the last BOOT-OK, ns (10 R238). -/
  okT : Nat := 0
  /-- Steps 6, 7, 9 and 10 are to run in this boot: a power-on or logic reset came since they ran last (10 Table MOD-8). -/
  bootWide : Bool := true
  /-- The mode held before the reset of the running boot (10 Table MOD-5). -/
  modeBefore : Mode := .setup
  /-- The minimal image is chosen or runs (10 R240). -/
  minimalImage : Bool := false
  /-- BOOT_MODE 1 in the NODE role: RUN follows at the first apply after BOOT-OK (10 Table MOD-5). -/
  runAtApply : Bool := false
  /-- The device is held in power-on reset (10 Table MOD-10). -/
  porst : Bool := false
  /-- RSTOUT_N is asserted, which holds the host bus unit in reset (07 R188, 10 Table MOD-10). -/
  rstout : Bool := true
  /-- The controller core is in reset (10 R22). -/
  coreReset : Bool := true
  /-- The logic units are in reset: line microcode, transaction engine, core, host bus (10 R22). -/
  logicReset : Bool := true
  /-- The line microcode engine runs (01 Table LIN-5). -/
  lineEngine : Bool := false
  /-- The field die is in reset or starting (10 R243). -/
  fieldReset : Bool := true
  /-- FWVER, 16 bits (08 Table REG-4). -/
  fwver : Word := 0
  /-- HOLD_SENSE, mV, as last measured (10 R246). Reset: DESIGN CHOICE 0, log 5. -/
  holdMv : Nat := 0
  /-- Holdup low (10 R246). Reset: DESIGN CHOICE true, log 5: no reading at or above HOLD_MIN yet. -/
  holdLow : Bool := true
  /-- PWRFAIL_N is asserted and recognised (10 R248). -/
  pwrfail : Bool := false
  /-- Line time of its assertion, ns (10 Table MOD-12, 20 R479). -/
  pwrT : Nat := 0
  /-- The filtered level of SAFE_REQ_N: true when asserted (12 R306). Reset: the pin; DESIGN CHOICE released, log 5. -/
  safeReq : Bool := false
  /-- The role (00 R2). Reset: DESIGN CHOICE NODE until the straps are sampled, log 4. -/
  role : Role := .node
  /-- The 25 MHz crystal runs (22 R530). Reset: DESIGN CHOICE true, log 4. -/
  crystal : Bool := true
deriving DecidableEq, Repr

/-! ### The safe controller, supplies and channels (chapters 11 and 12) -/

/-- The safe state that stood before an activation pause (R302). -/
structure SavedSafe where
  /-- The profile to restore. -/
  profile : Nat
  /-- IN_FORCE to restore. -/
  inForce : Nat
  /-- IN_RANK to restore. -/
  inRank : Nat
  /-- TRIGGER to restore. -/
  trigger : Nat
  /-- The safe-hold state to restore. -/
  hold : Bool
deriving DecidableEq, Repr

/-- The safe controller (12). -/
structure SafeState where
  /-- SAFESTAT.PROFILE, 2 bits (12 R306). -/
  profile : Nat := 0
  /-- safe_hold of R268 (12 R301). -/
  hold : Bool := false
  /-- SAFESTAT.TRIGGER, 4 bits (12 R306). -/
  trigger : Nat := 0xF
  /-- TRIG IN_FORCE, 4 bits (12 Table DIA-10). -/
  inForce : Nat := 0xF
  /-- TRIG IN_RANK, 3 bits (12 Table DIA-10). -/
  inRank : Nat := 0
  /-- TRIG ACTIVE, 7 bits (12 R299). -/
  active : BitVec 7 := 0
  /-- TRIG SEEN, 7 bits (12 R300). -/
  seen : BitVec 7 := 0
  /-- TRIG FROM_SETUP, 1 bit (12 R300). -/
  fromSetup : Bool := false
  /-- The activation pause in progress with what it restores (12 R302). -/
  pause : Option SavedSafe := none
deriving DecidableEq, Repr

/-- The field supplies, the field die and the barrier link (12). -/
structure SupplyState where
  /-- DIAG SUPPLY.LP_OFF and SAFESTAT.LP_OFF (12 R291). -/
  lpOff : Bool := false
  /-- SUPPLY.LP_UV (12 R291). -/
  lpUv : Bool := false
  /-- SUPPLY.LP_OV (12 R291). -/
  lpOv : Bool := false
  /-- SUPPLY.LP_REV (12 R291). -/
  lpRev : Bool := false
  /-- SUPPLY.LS_UV (12 R291). -/
  lsUv : Bool := false
  /-- SUPPLY.LS_OV (12 R291). -/
  lsOv : Bool := false
  /-- SUPPLY.DIE_HOT (12 R291). -/
  dieHot : Bool := false
  /-- SUPPLY.BARRIER_DOWN and SAFESTAT.BARRIER_LOST (12 R293). -/
  barrierDown : Bool := false
  /-- LP_MV, 16 bits (12 Table DIA-7). -/
  lpMv : Nat := 0
  /-- LS_MV, 16 bits (12 Table DIA-7). -/
  lsMv : Nat := 0
  /-- DIE_TEMP, signed, 0.5 °C (12 Table DIA-7). -/
  dieTemp : Int := 0
  /-- Line time at which LP came back last, ns: no acknowledgement releases a fault before DET_MS (12 R286). -/
  lpBackT : Option Nat := none
  /-- Line time at which the barrier link was lost, ns (12 Table DIA-6). -/
  barrierT : Nat := 0
  /-- BARRIER_BACK is due at the end of the field reset in progress (12 Table DIA-6). -/
  backDue : Bool := false
deriving DecidableEq, Repr

/-- One photo-finish entry (R261). -/
structure PfEntry where
  /-- ESEQ, 32 bits (11 R261). -/
  eseq : Nat
  /-- T: edge time with the level in [0] and the step flag in [1], 64 bits (11 R261). -/
  t : Nat
deriving DecidableEq, Repr

/-- One start-list event (R264). -/
structure SlEvent where
  /-- Slot, 0 to 15. -/
  slot : Nat
  /-- Event time, ns of line time (11 R264). -/
  time : Nat
  /-- Value word (11 R264). -/
  val : Word
  /-- Issued to the gate (11 R265). -/
  issued : Bool
deriving DecidableEq, Repr

/-- One field channel: its views, input state, start list and faults (11, 12). -/
structure Chan where
  /-- The filtered state of an input (11 R252). Reset: DESIGN CHOICE off, log 5. -/
  filt : Bool := false
  /-- CNT: counter, position, or quadrature errors, 32 bits (11 R254, R255). -/
  cnt : BitVec 32 := 0
  /-- Counts of the last 100 ms: line time and change (11 Table CHN-9, SPEED_THR). -/
  moves : List (Nat × Int) := []
  /-- QEP_DIR of an even channel: the last count was down (11 R255). -/
  dirDown : Bool := false
  /-- PF_SEQ, 32 bits (11 R261). -/
  pfSeq : BitVec 32 := 0
  /-- Photo-finish entries, oldest first, at most 32 (11 R261). -/
  ring : List PfEntry := []
  /-- Entries recorded since the last sample instant (11 R263). -/
  pfNew : Nat := 0
  /-- PF_OVERFLOW was posted in this cycle (11 R263). -/
  pfOvf : Bool := false
  /-- A line-time step or epoch change occurred since the previous edge (11 R261). -/
  stepFlag : Bool := false
  /-- Start-list events, by slot (11 R264). -/
  sl : List SlEvent := []
  /-- The cyclic view (11 R270). -/
  cyc : Word := 0
  /-- The local view (11 R272). -/
  loc : Word := 0
  /-- The force held by CHFORCE: none, or its level (11 R273). -/
  force : Option Bool := none
  /-- The force value held by the panel's jog (11 R273, 15 R384). -/
  jog : Option Word := none
  /-- The effective value (11 R268). -/
  eff : Word := 0
  /-- run_hold of R268 (10 R234). -/
  runHold : Bool := false
  /-- The 100 µs OFF interval after a mode change runs (11 R278). -/
  modeOff : Bool := false
  /-- The sensed value: filtered level, terminal level, duty or readback code (11 R253). -/
  sensed : Word := 0
  /-- The KIND 2 value captured at the profile command (12 R296). -/
  kind2 : Word := 0
  /-- The MISMATCH bit of the last snapshot (11 R274). -/
  mismatch : Bool := false
  /-- Snapshots in a row with the MISMATCH bit set (12 R289). -/
  mmN : Nat := 0
  /-- Line time of the first of them, ns (12 R289). -/
  mmT : Nat := 0
  /-- The duty the PWM output drives in the current period (11 R257). -/
  pwm : Word := 0
  /-- Line time at which the PWM period in progress began, ns (11 R257). -/
  pwmT : Nat := 0
  /-- Length of the PWM period in progress, ns; 0 before the first (11 R257). -/
  pwmPer : Nat := 0
  /-- High time of the PWM period in progress, ns (11 R257). -/
  pwmHigh : Nat := 0
  /-- Line time of the last filtered edge that the channel engine handled, ns (11 R279). -/
  edgeT : Option Nat := none
  /-- Line time of the last start-list gate of the channel, ns (11 R279). -/
  gateT : Option Nat := none
  /-- Active fault codes, in the order they became active (12 R282). -/
  faults : List Nat := []
  /-- The latched fault code, 0 for none, 7 bits (12 R283). -/
  latched : Nat := 0
  /-- The driver is held off by a trip, an open retry interval or a latch (12 R283). -/
  tripOff : Bool := false
  /-- RETRY_INT has run since the trip and a thermal trip waits for its junction (12 R283). -/
  waitCool : Bool := false
  /-- The junction has cooled below 150 °C since the thermal trip (12 R283). -/
  cooled : Bool := false
  /-- The code of the last trip, 0 for none (12 R283). -/
  lastTrip : Nat := 0
  /-- RETRIES, 4 bits (12 R283). -/
  retries : Nat := 0
  /-- The last trip came less than 10 s ago (12 R283). -/
  recentTrip : Bool := false
  /-- Line time of the last trip, ns (12 R283). -/
  tripT : Nat := 0
  /-- THERM_CNT, 16 bits, saturates (12 Table DIA-7). -/
  thermCnt : Nat := 0
deriving DecidableEq, Repr

/-- The field die's channels and the port words of the CHAN table (11). -/
structure FieldState where
  /-- CH00 to CH15. -/
  chans : List Chan := List.replicate 16 {}
  /-- CHOUT, 16 bits (11 R272). -/
  chout : Word := 0
  /-- IGN_CYCLIC, saturates (11 R271). -/
  ignCyclic : Nat := 0
  /-- RANGE_CLAMP, saturates (11 R258). -/
  rangeClamp : Nat := 0
  /-- PF_SEL channel and slot (11 Table CHN-11). -/
  pfSel : Word := 0
  /-- PF_ESEQ, 32 bits (11 R262). -/
  pfEseq : BitVec 32 := 0xFFFFFFFF
  /-- PF_T, 64 bits (11 R262). -/
  pfT : BitVec 64 := 0
  /-- SL_SEL channel and slot (11 Table CHN-11). -/
  slSel : Word := 0
  /-- SL_T, 64 bits (11 Table CHN-11). -/
  slT : BitVec 64 := 0
  /-- SL_VAL, 16 bits (11 Table CHN-11). -/
  slVal : Word := 0
  /-- SL_CMD read word: last command, done, result (11 Table CHN-11). -/
  slCmd : Word := 0
deriving DecidableEq, Repr

/-! ### The measurement subsystem (chapter 13) -/

/-- The filter of one regular entry (R320, R321). -/
structure FilterState where
  /-- Input samples, newest first, no more than the response needs (13 R320). -/
  hist : List Int := []
  /-- Input samples since the restart (13 R321). -/
  n : Nat := 0
  /-- Latest output, none for NO_VALUE (13 R321). -/
  out : Option Int := none
deriving DecidableEq, Repr

/-- The state of one window comparator (R322). -/
inductive WinState where
  | unknown | inside | outside
deriving DecidableEq, Repr

/-- One coefficient pair of the calibration store (R324, R325). -/
structure CalPair where
  /-- INPUT code of the point. -/
  input : Nat
  /-- AI_RANGE and mode of the point: 0 AI-V 0 to 10 V, 1 AI-V ±10 V, 2 AI-I, 3 current sense. -/
  kind : Nat
  /-- GAIN code of the point. -/
  gain : Nat
  /-- Z16 (13 R325). -/
  z16 : Int
  /-- GAIN20 (13 R325). -/
  g20 : Int
deriving DecidableEq, Repr

/-- A calibration step in progress (R324). -/
structure CalStep where
  /-- The entry. -/
  entry : Nat
  /-- CAL_FULL rather than CAL_ZERO. -/
  full : Bool
  /-- Sum of the settled outputs taken. -/
  sum : Int
  /-- Outputs taken, 0 to 16. -/
  n : Nat
  /-- Line time at which the step began, ns: 10 s bound it (R326). -/
  startT : Nat := 0
deriving DecidableEq, Repr

/-- A test-DAC diagnosis in progress (R327). -/
structure DacRun where
  /-- The step, 0 to 3. -/
  step : Nat
  /-- Entries not yet compared in this step. -/
  todo : List Nat
  /-- Line time before which a turn is discarded, ns. -/
  settleT : Nat
deriving DecidableEq, Repr

/-- A block capture in progress (R330). -/
structure Capture where
  /-- The regular entry. -/
  entry : Nat
  /-- Kind, 0 to 2. -/
  kind : Nat
  /-- Samples wanted. -/
  want : Nat
  /-- Samples taken. -/
  got : Nat
  /-- Start time, ns of line time; 0 at once. -/
  start : Nat
  /-- Sample instant of the first sample, ns, once taken. -/
  firstT : Option Nat
  /-- The requester. -/
  for_ : Requester
deriving DecidableEq, Repr

/-- The measurement subsystem (13). -/
structure AdcState where
  /-- ADC_STAT.REG_RUN (13 R313). -/
  running : Bool := false
  /-- A round runs (13 R311). -/
  inRound : Bool := false
  /-- A scheduled round waits for the converters (13 R312). -/
  delayed : Bool := false
  /-- CONV 0 entries of phase 1 still to convert, the first in progress (13 R311). -/
  phaseA : List Nat := []
  /-- CONV 1 entries of phase 1 still to convert, the first in progress (13 R311). -/
  phaseB : List Nat := []
  /-- AB entries whose bursts are still to run, the first in progress (13 R311). -/
  bursts : List Nat := []
  /-- Pairs of the burst done (13 R314). -/
  pairs : Nat := 0
  /-- Converter A's sample of the pair in progress, once taken (13 R314). -/
  half : Option Int := none
  /-- Sum of the burst's raw samples (13 R314). -/
  burstSum : Int := 0
  /-- The next sample of the long burst comes from converter B (13 R314). -/
  longB : Bool := false
  /-- A long burst of a kind-2 capture runs (13 R316). -/
  longBurst : Bool := false
  /-- The last scheduled start of a round that has come, ns (13 R312). -/
  roundT : Option Nat := none
  /-- ROUNDS, 16 bits (13 Table ADC-10). -/
  rounds : Nat := 0
  /-- ROUND_LATE, saturates (13 R312). -/
  roundLate : Nat := 0
  /-- ROUND_SLIP, saturates (13 R312). -/
  roundSlip : Nat := 0
  /-- ADC_STAT.INJ_BUSY: the injected sequence runs (13 R318). -/
  injBusy : Bool := false
  /-- Injected entries converter A has still to convert (13 R318). -/
  injA : List Nat := []
  /-- Injected entries converter B has still to convert (13 R318). -/
  injB : List Nat := []
  /-- Line time of the trigger that began the injected sequence in progress, ns (13 R318, R319). -/
  injAt : Nat := 0
  /-- How many instants of INJ_T and INJ_PERIOD have fired or passed (13 R317). -/
  injNext : Nat := 0
  /-- INJ_MISSED, saturates (13 R317). -/
  injMissed : Nat := 0
  /-- INJ_SEQ, 16 bits (13 R319). -/
  injSeq : Nat := 0
  /-- INJ_RES0 to INJ_RES3 (13 R319). -/
  injRes : List Word := [0x8000, 0x8000, 0x8000, 0x8000]
  /-- INJ_TIME, 32 bits (13 R319). -/
  injTime : BitVec 32 := 0
  /-- The filters of entries 0 to 15 (13 R320). -/
  filters : List FilterState := List.replicate 16 {}
  /-- The comparators 0 to 7 (13 R322). -/
  wins : List WinState := List.replicate 8 .unknown
  /-- Exits of each comparator, saturate (13 R338). -/
  exits : List Nat := List.replicate 8 0
  /-- OVR_CNT of entries 0 to 15, 8 bits, saturate (13 R309). -/
  ovr : List Nat := List.replicate 16 0
  /-- The calibration store (13 R324). -/
  calStore : List CalPair := []
  /-- The zero step taken: entry and Z16; ADC_STAT.CAL_ZERO_OK (13 R326). -/
  calZero : Option (Nat × Int) := none
  /-- The calibration step in progress; ADC_STAT.CAL_BUSY (13 R324). -/
  calStep : Option CalStep := none
  /-- ADC_STAT.CAL_REF (13 R326). -/
  calRef : Bool := false
  /-- CAL_CAUSE, 4 bits (13 R326). -/
  calCause : Nat := 0
  /-- The test-DAC diagnosis in progress; DAC_RUN (13 R327). -/
  dac : Option DacRun := none
  /-- ADC_STAT.DAC_FAIL (13 R327). -/
  dacFail : Bool := false
  /-- DAC_FAILMAP, 16 bits (13 R327). -/
  failMap : Word := 0
  /-- DAC_MARGMAP, 16 bits (13 R327). -/
  margMap : Word := 0
  /-- DAC_DONE, 8 bits (13 R327). -/
  dacDone : Nat := 0
  /-- ADC_STAT.CMD_REF (13 R332). -/
  cmdRef : Bool := false
  /-- The result FIFO, at most 256 words (13 R328). -/
  fifo : List Word := []
  /-- ADC_FLEVEL.OVF (13 R328). -/
  fifoOvf : Bool := false
  /-- Records were dropped since the last record that entered (13 R328). -/
  fifoDropped : Bool := false
  /-- The capture in progress; ADC_STAT.CAPT_BUSY (13 R330). -/
  capture : Option Capture := none
  /-- Samples that the last capture left in the capture area (13 R330). -/
  captured : Nat := 0
deriving DecidableEq, Repr

/-! ### The clocked serial ports (chapter 14) -/

/-- Work of the master port (Table CSP-6). -/
inductive SerJob where
  /-- A direct-execution demand read of a line on a code, for the host's read at a byte offset in it; none once the host has its
      word or its wait has run out. -/
  | demand (code line : Nat) (ofs : Option Nat)
  /-- An exit burst on a code: the lane mode byte and the bytes that it drives, from the words in force when it was asked for. -/
  | exit (code lane : Nat) (bytes : List Byte)
  /-- A medium transfer of the update path: the read of the next sector (17 R415). -/
  | medium
  /-- A CSP_XFER: code, lane mode byte, command bytes, write bytes, read length, and the requester. -/
  | xfer (code lane : Nat) (cmd write : List Byte) (len : Nat) (for_ : Requester)
  /-- An erase status poll of a code. -/
  | poll (code : Nat)
  /-- A prefetch of a line on a code. -/
  | prefetch (code line : Nat)
deriving DecidableEq, Repr

/-- The master port, direct execution and the slave port (14). -/
structure SerState where
  /-- The transfer in progress: CSP_CTRL.CM_BUSY (14 R342). -/
  running : Option SerJob := none
  /-- Waiting work, in order of arrival (14 R349). -/
  waiting : List SerJob := []
  /-- CM_SEL[2:0]: the last code used, 3 bits (14 R340). -/
  sel : Nat := 0
  /-- The command and write bytes that the last transfer drove on CM_DQ (14 R343). Reset: none driven. -/
  driven : List Byte := []
  /-- What the last transfer drove on CM_DQ[7:0], unit by unit, none for high impedance: its bytes in their lanes, and its dummy
  clocks (14 R343, R344, Table CSP-3). Reset: none driven. -/
  lanes : List (List (Option Bool)) := []
  /-- CONT_ACTIVE of the code as it stood before the direct-execution read in progress (14 R355). -/
  contWas : Bool := false
  /-- The prefetch buffer was discarded since the direct-execution read in progress began, so its line does not enter (07 R178). -/
  stale : Bool := false
  /-- The prefetch buffer: line address and 64 bytes, most recently used first, at most 4 (14 R351). -/
  lines : List (Nat × List Byte) := []
  /-- CONT_ACTIVE of codes 0 to 7 (14 R355). -/
  cont : List Bool := List.replicate 8 false
  /-- ERASING of codes 0 to 7 (14 R356). -/
  erasing : List Bool := List.replicate 8 false
  /-- ERASE_LIMIT of codes 0 to 7 (14 R356). -/
  eraseLimit : List Bool := List.replicate 8 false
  /-- READY_TOS of codes 0 to 7, saturates (14 Table CSP-8). -/
  readyTos : List Nat := List.replicate 8 0
  /-- An exit burst on XIP_SEL is owed before the first direct-execution read (14 R355). -/
  exitOwed : Bool := true
  /-- The tracked erase: MWIN_CTRL.XIP_ERASE with its code (14 R356). -/
  erase : Option Nat := none
  /-- A host window read waits with HWAIT_N asserted: its serial address (07 R176). -/
  hostRead : Option Nat := none
  /-- Line time at which that wait began, ns (07 R177). -/
  hostT : Nat := 0
  /-- CSP_CTRL.SP_EN, 1 bit (14 R364). -/
  spEn : Bool := true
  /-- CSP_CTRL.SP_CRC, 1 bit (14 R369). -/
  spCrc : Bool := false
  /-- CSP_CTRL.SP_LAP, 1 bit (14 R369). -/
  spLap : Bool := false
  /-- CSP_CTRL.SP_LEN, 1 bit (14 R369). -/
  spLen : Bool := false
  /-- CSP_CTRL.SP_PART, 1 bit (14 R369). -/
  spPart : Bool := false
  /-- CSP_CTRL.CM_READY_TO, 1 bit (14 R362). -/
  readyTo : Bool := false
  /-- L, the lap base, 8 bits; none when no base exists (14 R368). -/
  lap : Option Nat := none
  /-- The CRC of the last executed request, 16 bits (14 R368). -/
  reqCrc : Nat := 0
  /-- The stored reply of the last executed request (14 R368). -/
  stored : List Byte := []
  /-- The reply that the port drives on SP_DO for the last frame; empty for 0xFF in every byte (14 R367). -/
  reply : List Byte := []
  /-- FLAGS [3:0] pending for the next reply (14 R369). -/
  flags : Nat := 0
  /-- The demand line that ended last, whose prefetch may start (14 R353). -/
  prefDue : Option Nat := none
  /-- Line time at which the erase transfer of the tracked erase ended, ns (14 R356). -/
  eraseT : Nat := 0
  /-- The host has raised the strobe of the waiting window read, so its data are lost (07 R189). -/
  hostGone : Bool := false
  /-- XIP_SEL and XIP_BASE as written during a window read, which take effect after it (07 R178). -/
  xipDue : Option (Nat × Nat) := none
  /-- A flush written during a window read, which takes effect after it (07 R178). -/
  flushDue : Bool := false
  /-- The port is held in its idle state after a slave-port write of SP_EN = 0 until the frame ends (14 R370). -/
  spOffDue : Bool := false
deriving DecidableEq, Repr

/-! ### The service panel (chapter 15) -/

/-- What the Update screen shows beside its state (R385). -/
inductive UpdShow where
  | plain
  /-- "Go" after a taken request. -/
  | go
  /-- "r" and the detail of a refused request. -/
  | refused (d : Nat)
deriving DecidableEq, Repr

/-- The panel scanner and the service menu (15). -/
structure PanelState where
  /-- KEYS: debounced states of keys 0 to 47 (15 R373). -/
  keys : BitVec 48 := 0
  /-- Keys marked held-over (15 R374). -/
  heldOver : BitVec 48 := 0
  /-- Keys closed when a key assignment changed, which act for the menu only after their release (15 R387). -/
  deaf : BitVec 48 := 0
  /-- The key whose repeats are due, if any (15 R375). -/
  repKey : Option Nat := none
  /-- Line time from which its next repeat counts: the press, then each due instant, ns (15 R375, R387). -/
  repT : Nat := 0
  /-- Its first repeat has come, so the next counts 1 / REP_RATE and not REP_DELAY (15 R375). -/
  repOn : Bool := false
  /-- Phase state of ENC0: A in bit 1, B in bit 0 (15 R376). Reset: the pins; DESIGN CHOICE 00, log 5. -/
  phase0 : Nat := 0
  /-- Phase state of ENC1 (15 R376). Reset: DESIGN CHOICE 00, log 5. -/
  phase1 : Nat := 0
  /-- Transition count t of ENC0 (15 R376). -/
  t0 : Int := 0
  /-- Transition count t of ENC1 (15 R376). -/
  t1 : Int := 0
  /-- ENC_POS.ENC0, 8 bits (15 R376). -/
  pos0 : Nat := 0
  /-- ENC_POS.ENC1, 8 bits (15 R376). -/
  pos1 : Nat := 0
  /-- ENC0_ERR, 8 bits, saturates (15 R376). -/
  err0 : Nat := 0
  /-- ENC1_ERR, 8 bits, saturates (15 R376). -/
  err1 : Nat := 0
  /-- The panel event queue: KIND and signed DATA, oldest first, at most 32 (15 R378). -/
  queue : List (Nat × Int) := []
  /-- PANEL_CTRL.OVF (15 R379). -/
  ovf : Bool := false
  /-- PANEL_CTRL.HOST as written (15 R377). -/
  hostReq : Bool := false
  /-- The panel mode in force is HOST (15 R377). -/
  host : Bool := false
  /-- PANEL_CTRL.BLANK (08 Table REG-16). -/
  blank : Bool := false
  /-- PANEL_CTRL.BRIGHT, 4 bits (08 Table REG-16). -/
  bright : Nat := 0xF
  /-- SCREEN, 4 bits (15 Table PNL-9). -/
  screen : Nat := 0xF
  /-- The item shown on ITEMS: index into Table PNL-7 (15 R382). Reset: DESIGN CHOICE 0, log 5. -/
  item : Nat := 0
  /-- The page, list position or channel that ENC1 selects on a screen (15 Table PNL-7). Reset: DESIGN CHOICE 0, log 5. -/
  sel : Nat := 0
  /-- What the Update screen shows (15 R385). -/
  upd : UpdShow := .plain
  /-- The chord of the Update screen is held: SHIFT was pressed, then ENTER (15 R385). -/
  chord : Bool := false
  /-- Line time at which the chord began, ns (15 R385). -/
  chordT : Nat := 0
  /-- Line time of the last key or encoder event of the menu, ns (15 R382, MENU_IDLE). -/
  lastT : Nat := 0
  /-- The jogged channel, none when JOG_ACTIVE is 0 (15 R384). -/
  jog : Option Nat := none
  /-- The key that holds the jog (15 R384). -/
  jogKey : Nat := 0
  /-- Line time at which the jog started, ns (15 R384). -/
  jogT : Nat := 0
  /-- JOG_CH, 5 bits (15 Table PNL-9). -/
  jogCh : Nat := 0
  /-- PSEG patterns of digits 0 to 5 as displayed (15 R371, R381). Reset: dark. -/
  digits : List Byte := List.replicate 6 0
  /-- Blink bits of the displayed digits (15 R381). -/
  blink : Nat := 0
  /-- What PSEG drives in slots 0 to 5 of the frame in progress: 0 for a digit that BLANK or blinking keeps dark (15 R371,
  R381, Table PNL-2). Reset: dark. -/
  lit : List Byte := List.replicate 6 0
  /-- On-time of each display slot of that frame, us (15 Table PNL-2). Reset: DESIGN CHOICE 0, nothing lit, log 5. -/
  onTime : Nat := 0
deriving DecidableEq, Repr

/-! ### The challenge watchdogs (chapter 16) -/

/-- The running state of a watchdog instance (Table REG-13, Table WDG-5). -/
inductive DogState where
  | off | run | expired
deriving DecidableEq, Repr

/-- One watchdog instance (16). -/
structure Dog where
  /-- The question state Q, 16 bits (16 R390). -/
  q : Word := 1
  /-- OFF, RUN or EXPIRED; FROZEN shows through `frozen` (16 R396, R401). -/
  st : DogState := .off
  /-- ERRORS, 2 bits (16 R393). -/
  errors : Nat := 0
  /-- The answer window is open (16 R392). -/
  opened : Bool := false
  /-- SEED as taken at the start of the cycle (16 R391). -/
  seed : Word := 0
  /-- Line time at the start of the cycle, ns (16 R394). -/
  startT : Nat := 0
  /-- The open offset of the cycle in progress, ns; 0 for a cycle open from its first tick (16 R394, R396). -/
  ofs : Nat := 0
  /-- The period of the cycle in progress, ns (16 R394). -/
  per : Nat := 0
  /-- Frozen by an erase source: line time at which the freeze began, ns (16 R401, R402). -/
  frozen : Option Nat := none
  /-- Frozen time of the cycle in progress before the present freeze, ns (16 R401). -/
  frozenNs : Nat := 0
  /-- The cycle in progress has been frozen by an erase source (16 R402). -/
  touched : Bool := false
  /-- An erase source may freeze it: a cycle ended unfrozen since the last freeze (16 R402). -/
  mayFreeze : Bool := true
deriving DecidableEq, Repr

/-- WDH and WDC (16). -/
structure WdogState where
  /-- WDH (16 R396). -/
  h : Dog := {}
  /-- WDC (16 R399). -/
  c : Dog := {}
  /-- WDC is frozen by REST (16 R399). -/
  cRest : Bool := false
  /-- A WDC expiry or a fatal exception waits for its core reset: none, or true for the fatal exception (16 R400). -/
  cReset : Option Bool := none
  /-- WDH_STAT.EARLY (16 Table WDG-2). -/
  early : Bool := false
  /-- WDH_STAT.LATE (16 Table WDG-2). -/
  late : Bool := false
  /-- WDH_STAT.WRONG (16 Table WDG-2). -/
  wrong : Bool := false
  /-- WDH_STAT.SERVED, 8 bits (16 Table WDG-2). -/
  served : Nat := 0
  /-- WDH_EXPIRIES, saturates (16 Table WDG-5). -/
  hExpiries : Nat := 0
  /-- WDC_EXPIRIES, saturates (16 Table WDG-5). -/
  cExpiries : Nat := 0
  /-- WDC_ERRS, saturates (16 Table WDG-5). -/
  cErrs : Nat := 0
  /-- FREEZES, saturates (16 R402). -/
  freezes : Nat := 0
  /-- FREEZE_MAX, ms (16 R402). -/
  freezeMax : Nat := 0
  /-- The WDC seed of this boot (16 R391): a free value, log 3. -/
  wdcSeed : Word := 0
deriving DecidableEq, Repr

/-! ### The removable medium (chapter 17) -/

/-- A candidate file (R418, R420). -/
structure MediaFile where
  /-- NAME, 11 bytes. -/
  name : List Byte
  /-- File length in bytes. -/
  len : Nat
  /-- Where it begins: its first cluster on a card, its byte address on a key. -/
  start : Nat
deriving DecidableEq, Repr

/-- What the medium reader works on (R421 to R423). -/
inductive ReadAt where
  /-- The metadata area of a candidate, to choose a bundle. -/
  | choose (cand : Nat)
  /-- The metadata area of a candidate, to find the session's bundle again. -/
  | find (cand : Nat)
  /-- The unit of the chosen candidate that goes into a staging sector. -/
  | sector (cand n : Nat)
  /-- No unit of the chosen candidate for now. -/
  | rest (cand : Nat)
deriving DecidableEq, Repr

/-- The medium reader of a session (R421, R422). -/
structure Reader where
  /-- What it reads. -/
  at_ : ReadAt
  /-- Bytes of the 4,096-byte unit in work, as read so far. -/
  buf : List Byte
  /-- Metadata sectors read before, for the candidate in work. -/
  meta_ : List Byte
  /-- Reads of the unit in work that failed (17 R422). -/
  fails : Nat
  /-- The medium was identified again for the record in work (17 R422). -/
  again : Bool
  /-- The best candidate so far: its number, its SEC_VERSION and its metadata area (17 R421). -/
  best : Option (Nat × Nat × List Byte)
  /-- The REASON of the first candidate's failure (17 R421). -/
  firstBad : Option Word
  /-- The transfer that runs began before this reading did; its data are discarded (17 R423). -/
  stale : Bool
deriving DecidableEq, Repr

/-- The service socket (17). -/
structure MediaState where
  /-- MEDIA_STAT.PRESENT, 1 bit (17 R412). Reset: the pin; DESIGN CHOICE 0, log 5. -/
  present : Bool := false
  /-- MEDIA_STAT.KIND, 3 bits (17 R424). -/
  kind : Nat := 0
  /-- MEDIA_STAT.FS_OK, 1 bit (17 R417, R420). -/
  fsOk : Bool := false
  /-- MEDIA_STAT.REMOVED, 1 bit (17 R423). -/
  removed : Bool := false
  /-- MEDIA_STAT.ERR, 1 bit (17 R424). -/
  err : Bool := false
  /-- The candidates, in directory order, at most 8: MEDIA_STAT.CANDIDATES (17 R418, R420). -/
  cands : List MediaFile := []
  /-- The reader; MEDIA_STAT.IN_USE is 1 while there is one (17 R422). -/
  reader : Option Reader := none
  /-- The medium waits for its identification (17 R412, R422). -/
  identDue : Bool := false
  /-- Line time at which the identification that it waits for starts, ns: 10 ms after the insertion (17 R412). -/
  identT : Nat := 0
  /-- Line time of the removal during a session, ns (17 R423). -/
  removedT : Option Nat := none
deriving DecidableEq, Repr

/-! ### Update sessions (chapter 18) -/

/-- Session states (Table UPD-2). -/
inductive UpdPhase where
  | idle | read | pull | receive | staged | prepare | prepared | activate | confirm | distribute
deriving DecidableEq, Repr

/-- The image in a bank slot: its part descriptor (64 bytes) and the bundle identity (R437, 20 R488). -/
structure Slot where
  /-- The part descriptor, Table IMG-4. -/
  desc : List Byte
  /-- The bundle identity, 32 bytes. -/
  ident : List Byte
deriving DecidableEq, Repr

/-- The part descriptor of an image that accepts every version: version 0, ranges 0x0000 to 0x7FFF. -/
def blankDesc (part : Byte) : List Byte :=
  [part, 0] ++ List.replicate 14 0 ++ [0, 0, 0xFF, 0xFF, 0, 0, 0xFF, 0x7F, 0, 0, 0xFF, 0x7F, 0, 0, 0xFF, 0x7F] ++
    List.replicate 32 0

/-- Distribution in progress at the starter (R438). -/
structure DistRun where
  /-- Line time at which the last baton with the RELAY_JOIN left, ns. -/
  joinT : Option Nat
  /-- The 6 s wait is not over. -/
  waiting : Bool
  /-- ROUND. -/
  round : Nat
  /-- Sectors of this round still to send. -/
  toSend : List Nat
  /-- Sectors that maps of this round's sweep show missing. -/
  need : List Nat
  /-- The sweep runs: positions still to answer. -/
  sweep : List Nat
  /-- Positions of the sweep that are asked for their STATUS. -/
  status : List Nat
  /-- Positions complete. -/
  complete : List Nat
  /-- Positions refused. -/
  refused : List Nat
deriving DecidableEq, Repr

/-- The update session and the bank slots (18). -/
structure UpdState where
  /-- The source of the session in its record (18 R432): 0 none, 1 medium, 2 pull, 3 relay. -/
  source : Nat := 0
  /-- UPD_STAT.STATE, 4 bits (18 R425). -/
  phase : UpdPhase := .idle
  /-- UPD_CTRL.CMD as read: the last command taken, 4 bits (08 Table REG-17). -/
  cmd : Nat := 0
  /-- UPD_CTRL.RESULT, 2 bits (08 Table REG-17). -/
  result : Nat := 0
  /-- UPD_STAT.FALLBACK, 1 bit (18 R443). -/
  fallback : Bool := false
  /-- UPD_STAT.REFUSED, 1 bit (18 R426). -/
  refused : Bool := false
  /-- UPD_STAT.MEDIA_WAIT, 1 bit (17 R423). -/
  mediaWait : Bool := false
  /-- The REASON by which the last session ended, 0 for none (18 R436). -/
  ended : Word := 0
  /-- Bundle identity, 32 bytes (18 R432). -/
  ident : List Byte := []
  /-- META_SECTORS (18 R432). -/
  metaSectors : Nat := 0
  /-- BLOCK_COUNT (18 R432). -/
  blocks : Nat := 0
  /-- The metadata are staged and have passed their checks (18 R433, R435). -/
  metaOk : Bool := false
  /-- Staging sectors needed and not yet staged and checked, rising (18 R433). -/
  missing : List Nat := []
  /-- Staging sectors that the session has still to erase (18 R432). -/
  toErase : List Nat := []
  /-- Sectors taken and not yet programmed and read back, oldest first, at most 4 (18 R432, R436). -/
  bufs : List (Nat × List Byte) := []
  /-- RSEQ of the next RELAY frame, 16 bits (18 Table UPD-8). -/
  rseq : Nat := 0
  /-- Line time of the last RELAY frame, ns (18 R438). -/
  relayT : Option Nat := none
  /-- Distribution in progress (18 R438). -/
  dist : Option DistRun := none
  /-- A distribution of the staged bundle has sent its first round (18 R438). -/
  distOnce : Bool := false
  /-- Active bank of CORE, FIELD, LINE: true for B (18 R440, 20 Table FLS-7 BANKSEL). Reset: DESIGN CHOICE A, log 5. -/
  bank : List Bool := [false, false, false]
  /-- The images in bank A of CORE, FIELD, LINE. Reset: DESIGN CHOICE an image of version 0 that accepts every
      version, log 5. -/
  slotA : List (Option Slot) :=
    [some { desc := blankDesc 1, ident := [] }, some { desc := blankDesc 2, ident := [] },
      some { desc := blankDesc 3, ident := [] }]
  /-- The images in bank B of CORE, FIELD, LINE. Reset: DESIGN CHOICE none, log 5. -/
  slotB : List (Option Slot) := [none, none, none]
  /-- Parts still to prepare or to activate, in lineup order; the first is in work (18 R439, R440). -/
  todo : List Nat := []
  /-- Records prepared (18 R429). -/
  prepared : Nat := 0
  /-- Parts whose bank the session has switched, in the order switched (18 R443). -/
  switched : List Nat := []
  /-- Parts whose pause has ended (18 R429). -/
  paused : Nat := 0
  /-- The start time of an ACTIVATE taken with one, ns (18 R431). -/
  startT : Option Nat := none
  /-- A CORE part's pause waits for the BOOT-OK of the new image (18 R440). -/
  coreBoot : Bool := false
  /-- A VETO taken while PWRFAIL_N is asserted: its fallback writes the bank selectors after the release (18 R443, 10 R248). -/
  vetoed : Bool := false
  /-- The confirmation deadline, ns of line time (18 R441, R443). -/
  deadline : Option Nat := none
  /-- Good cycles counted in CONFIRM (18 R441). -/
  good : Nat := 0
  /-- A watchdog has expired since the end of the last pause (18 R441). -/
  expired : Bool := false
  /-- Line time from which the run without a line counts, ns (18 R441). -/
  okT : Nat := 0
  /-- Fallback in progress: its REASON and the FIELD and LINE parts whose pause is still due (18 R443). -/
  falling : Option (Word × List Nat) := none
  /-- The fallback in progress ends with a core reset (18 R443). -/
  fallReset : Bool := false
  /-- Parts that the running fallback restored (18 R443). -/
  restored : List Nat := []
  /-- The set FORMAT before the activation of the CORE part awaiting confirmation (18 R442). -/
  oldFormat : Option Nat := none
deriving DecidableEq, Repr

/-! ### Keys, sealing and the crypto engine (chapter 19) -/

/-- A replay window (R461): H as (epoch, counter), and the map of the 64 counters up to H. -/
structure Window where
  /-- H.e, 20 bits. -/
  epoch : Nat
  /-- H.c, 64 bits. -/
  ctr : Nat
  /-- The map, bit 0 for H. -/
  map : BitVec 64
deriving DecidableEq, Repr

/-- What a crypto engine operation works for (R467). -/
inductive CryptoFor where
  /-- Opening a consumed record of a number. -/
  | openTxn (id : Nat)
  /-- Sealing the response of the transaction of a number. -/
  | sealTxn (id : Nat)
  /-- Sealing the status-only response to the record of a number. -/
  | sealNote (id : Nat)
  /-- A relay or staging digest or signature check (rank 2). -/
  | relay (block : Nat)
  /-- The preparation of a part (rank 3). -/
  | prepare (part : Nat)
deriving DecidableEq, Repr

/-- An operation of the crypto engine (R468). -/
structure CryptoOp where
  /-- Rank, 1 to 3. -/
  rank : Nat
  /-- Its user. -/
  for_ : CryptoFor
  /-- It holds a context. -/
  ctx : Bool
deriving DecidableEq, Repr

/-- The key slots, the persistent security items and the crypto engine (19). The slots DSK, PIK and ISK are written at
test and never change: they are constants of Config. -/
structure SecState where
  /-- OWK, 32 bytes once provisioned: LOCK_STAT.OWNER_KEY (19 R448). Reset: DESIGN CHOICE none, log 5. -/
  owk : Option (List Byte) := none
  /-- OWK was provisioned after the last power-on reset (19 R459). -/
  owkFresh : Bool := false
  /-- The key that OTP programming in progress will write (19 R448). -/
  otpKey : Option (List Byte) := none
  /-- The last Update-DR of OTP_OWNER was refused (19 R448). -/
  otpRefused : Bool := false
  /-- EPOCH, 20 bits (19 Table SEC-3). Reset: DESIGN CHOICE 0, log 5: the boot raises it. -/
  epoch : Nat := 0
  /-- The sender counter, 64 bits (19 R456). -/
  counter : Nat := 0
  /-- FLOOR_S (19 R461). Reset: DESIGN CHOICE (0, 0), log 5. -/
  floorS : Nat × Nat := (0, 0)
  /-- FLOOR_A (19 R461). Reset: DESIGN CHOICE (0, 0), log 5. -/
  floorA : Nat × Nat := (0, 0)
  /-- The window of sender 0 (19 R461). -/
  winS : Window := { epoch := 0, ctr := 0, map := BitVec.allOnes 64 }
  /-- The window of sender 0xFFE (19 R461). -/
  winA : Window := { epoch := 0, ctr := 0, map := BitVec.allOnes 64 }
  /-- The windows of the positions, at the starter and the anchor (19 R461). -/
  wins : List (Nat × Window) := []
  /-- The LOCK item: LOCK_STAT.LOCKED (19 R470). Reset: DESIGN CHOICE false, log 5. -/
  locked : Bool := false
  /-- SECVER, 32 bits (19 R465). -/
  secver : Nat := 0
  /-- NBASE: nonce base (8 bytes) and identity (32 bytes), oldest first, at most 16 (19 R466). -/
  nbase : List (List Byte × List Byte) := []
  /-- Boot step 4 found the keys and counters region unreadable (19 R451). -/
  keysBad : Bool := false
  /-- SEAL_FAIL and SEAL_REPLAY refusals: sender and line time, newest first, the last 10 s (19 R463). -/
  fails : List (Nat × Nat) := []
  /-- Line time of the last SEAL_FAIL event of each sender, ns (08 R206). -/
  failPosts : List (Nat × Nat) := []
  /-- The crypto engine's operations, oldest first (19 R468). -/
  ops : List CryptoOp := []
deriving DecidableEq, Repr

/-! ### The on-chip flash (chapter 20) -/

/-- A sector erase in progress (Table FLS-3). -/
structure EraseRun where
  /-- Logical sector. -/
  sector : Nat
  /-- Cause: 0 owner request, 1 repair, 2 spare preparation. -/
  cause : Nat
  /-- Line time of step 2, ns. -/
  startT : Nat
  /-- Suspended since this line time, ns (20 R476). -/
  susp : Option Nat
  /-- Time spent suspended before, ns (20 R478). -/
  suspNs : Nat
  /-- Not to be suspended again before this line time, ns (20 R476). -/
  noSusp : Nat
  /-- Line time of the last access to the plane while suspended, ns (20 R476). -/
  lastAcc : Nat
deriving DecidableEq, Repr

/-- Whose unit is programmed (R475, R478). -/
inductive ProgOwner where
  /-- A journal record with no further work. -/
  | journal
  /-- ERASE-BEGIN: the erase pulses start when it verifies. -/
  | eraseBegin
  /-- ERASE-END of a sector with a status: the erase is done when it verifies. -/
  | eraseEnd (sector status : Nat)
  /-- RETIRE of a sector to a spare, with its cause: the spare serves the sector when it verifies. -/
  | retire (sector spare cause : Nat)
  /-- The coefficient pair of a calibration step (13 R326). -/
  | cal
deriving DecidableEq, Repr

/-- A unit to program (R475, R477). -/
structure Program where
  /-- Its owner. -/
  owner : ProgOwner
  /-- Rank, 1 to 4 (20 R477). -/
  rank : Nat
  /-- Logical address, a multiple of 32. -/
  addr : Nat
  /-- Its 32 bytes. -/
  data : List Byte
deriving DecidableEq, Repr

/-- The flash controller and the array (20). -/
structure FlashState where
  /-- Bytes that do not read erased (0xFF), by logical address (20 R473). Reset: DESIGN CHOICE an erased array, log 5. -/
  cells : List Host.Cell := []
  /-- The erase in progress (20 R478). -/
  erase : Option EraseRun := none
  /-- The erase whose ERASE-BEGIN is being programmed: sector and cause (20 R478). -/
  begun : Option (Nat × Nat) := none
  /-- Waiting erases: sector and cause, in order of arrival (20 R477). -/
  eraseQ : List (Nat × Nat) := []
  /-- The program in progress (20 R477). -/
  prog : Option Program := none
  /-- Waiting programs, in order of arrival (20 R477). -/
  progQ : List Program := []
  /-- The remap table: for each spare the sector it serves, 0xFFFF free, 0xFFFE dead (20 Table FLS-5). -/
  spares : List Nat := List.replicate 32 0xFFFF
  /-- Spares that no sector maps to and that do not read erased: a copy whose RETIRE record was not written (20 R490). -/
  spareDirty : List Nat := []
  /-- Retirements that wait for a spare or for their RETIRE record: sector and cause (20 R490). -/
  retireQ : List (Nat × Nat) := []
  /-- The slow-erase map: sectors with one slow erase, rising (20 R490). -/
  slow : List Nat := []
  /-- The dead map: sectors marked dead, rising (20 R491). -/
  dead : List Nat := []
  /-- Bank sectors that a retirement found no spare for (20 R491, 18 Table UPD-5). -/
  worn : List Nat := []
  /-- The journal's write sector, 0 to 15 (20 R480). Reset: DESIGN CHOICE 0, log 5. -/
  jSector : Nat := 0
  /-- The journal's next unit; 0 before the sector header (20 R480). Reset: DESIGN CHOICE 0, log 5. -/
  jUnit : Nat := 0
  /-- SEQ of the next journal record (20 Table FLS-4). -/
  jSeq : Nat := 0
  /-- The sector whose newest erase has no ERASE-END with status 0 or 1 (20 R481). -/
  torn : Option Nat := none
  /-- Sectors repaired at this boot whose TORN_REPAIRED is still to be posted (20 R481). -/
  repaired : List Nat := []
  /-- The calibration ring's write sector, 0 to 13, and next unit (20 R485). -/
  calPos : Nat × Nat := (0, 0)
  /-- SEQ of the next calibration record (20 Table FLS-4). -/
  calSeq : Nat := 0
  /-- Passes of the journal ring begun: the sector pass number (20 Table FLS-5). -/
  jPass : Nat := 0
  /-- Passes of the calibration ring begun (20 R483). -/
  calPass : Nat := 0
  /-- A sector of the commit in progress was aborted or a unit of it failed (20 R487). -/
  commitBad : Bool := false
  /-- The configuration slot of the commit in progress (20 R487). -/
  slot : Nat := 0
deriving DecidableEq, Repr

/-! ### Health and injection (chapter 21) -/

/-- The health monitor (21). -/
structure HealthState where
  /-- HEALTH.WARN, 7 bits (21 R493). -/
  warn : BitVec 7 := 0
  /-- HEALTH.REPLACE, 7 bits (21 R493). -/
  replace : BitVec 7 := 0
  /-- REPLACE_N may be driven: step 11 of the boot has run (21 R497). -/
  replaceDriven : Bool := false
  /-- Bad barrier frames and losses of the running interval (21 Table HLT-2). -/
  barCount : Nat := 0
  /-- Line-port errors of the running interval at port A (21 Table HLT-2). -/
  lnkCountA : Nat := 0
  /-- Line-port errors of the running interval at port B (21 Table HLT-2). -/
  lnkCountB : Nat := 0
  /-- Lowest tuning headroom sampled in the running interval, % (21 Table HLT-2). -/
  pllMin : Option Nat := none
  /-- Consecutive intervals at or beyond the replace threshold: reasons 2, 3, 6 (21 Table HLT-2). -/
  replRun : List Nat := [0, 0, 0]
  /-- Consecutive judged intervals below the warning threshold: reasons 2, 3, 6 (21 R494). -/
  clearRun : List Nat := [0, 0, 0]
  /-- The running interval is excluded for reason 2 (21 R494). -/
  exclBar : Bool := false
  /-- The running interval is excluded for reason 3 (21 R494). -/
  exclLnk : Bool := false
  /-- BAR_RATE (21 Table HLT-10). -/
  barRate : Nat := 0
  /-- LNK_RATE (21 Table HLT-10). -/
  lnkRate : Nat := 0
  /-- HOLD_CT, 100 ms units, 0xFFFF until reached (21 R495). -/
  holdCt : Nat := 0xFFFF
  /-- PLL_MARGIN (21 Table HLT-10). -/
  pllMargin : Nat := 0
  /-- SELFTEST, 6 bits (21 R498). -/
  selftest : BitVec 6 := 0
  /-- POR_COUNT, 32 bits (21 R508). -/
  porCount : Nat := 0
  /-- THERM_TOTAL of CH00 to CH15, 32 bits each (21 R508). -/
  thermTotal : List Nat := List.replicate 16 0
  /-- The newest summary page of the persistent trace: POR_COUNT, THERM_TOTAL, holdup charge time (21 R508).
      Reset: DESIGN CHOICE none, log 5: a device that has never been powered. -/
  summary : Option (Nat × List Nat × Nat) := none
  /-- Line time of the last summary page, ns (21 R508). -/
  summaryT : Nat := 0
  /-- THERM_TOTAL and POR_COUNT of the summary page are loaded since power-on reset (21 R508). -/
  loaded : Bool := false
  /-- No BOOT-OK has followed the power-on reset yet, so POR_COUNT is still to be raised (21 R508). -/
  porDue : Bool := true
  /-- REPL_CLR has cleared the replace bit of reason 4 since the last boot, and the charge time does not raise it again (21 R495). -/
  holdClr : Bool := false
deriving DecidableEq, Repr

/-- What an armed injector copied (R510) and counts (R512). -/
structure Armed where
  /-- TARGET, 0 to 3. -/
  target : Nat
  /-- ACTION, 0 to 2. -/
  action : Nat
  /-- ONCE. -/
  once : Bool
  /-- INJ_N. -/
  n : Nat
  /-- INJ_OFS. -/
  ofs : Nat
  /-- INJ_BIT. -/
  bit : Nat
  /-- INJ_TYPE. -/
  type : Nat
  /-- INJ_COUNT. -/
  count : Nat
  /-- Line time at which INJ_TIME runs out, ns. -/
  until_ : Nat
  /-- Eligible frames counted (21 R512). -/
  eligible : Nat
  /-- Armed under the sealed enable alone (21 R511). -/
  sealed : Bool
deriving DecidableEq, Repr

/-- The fault injectors (21). -/
structure InjState where
  /-- INJ_CTRL.TARGET, 2 bits (21 R510). -/
  target : Nat := 0
  /-- INJ_CTRL.ACTION, 2 bits (21 R510). -/
  action : Nat := 0
  /-- INJ_CTRL.ONCE, 1 bit (21 R510). -/
  once : Bool := false
  /-- INJ_CTRL.REF, 1 bit (21 R510). -/
  ref : Bool := false
  /-- The armed injector, none when ARMED is 0 (21 R510). -/
  armed : Option Armed := none
  /-- INJ_DONE, 16 bits (21 R512). -/
  done : Nat := 0
  /-- The frame held for reorder, with its port (21 Table HLT-9). -/
  heldFrame : Option (Port × LineFrame) := none
  /-- The sealed enable: end of its time (ns of line time) and TARGETS (21 R511). -/
  sealedEnable : Option (Nat × Nat) := none
deriving DecidableEq, Repr

/-! ### Boundary scan (chapter 22) -/

/-- The instruction in force at the TAP (Table BAL-12). -/
inductive TapIns where
  | bypass | extest | sample | highz | clamp | otpOwner
deriving DecidableEq, Repr

/-- The TAP and the boundary-scan register (22). -/
structure TapState where
  /-- The instruction in force (22 R537); Test-Logic-Reset selects BYPASS (22 R536). -/
  ins : TapIns := .bypass
  /-- The 182 update cells (22 R538). Reset: DESIGN CHOICE 0, log 5. -/
  cells : BitVec 182 := 0
  /-- The 182 cells as last captured (22 R538). Reset: DESIGN CHOICE 0, log 5. -/
  captured : BitVec 182 := 0
  /-- The OTP owner register as last captured: OWNER_KEY, refused, programming (19 R448). -/
  otp : Nat := 0
deriving DecidableEq, Repr

/-! ### The whole state -/

/-- The device: every register, buffer, counter, mode and pin the spec gives it, and the waiting commands. -/
structure State where
  /-- The commands that wait, first in, first out (the model's queue). -/
  pending : List Instr
  /-- How many free values the device has taken: the model's own counter, not the spec's. Reset: DESIGN CHOICE 0, log 3. -/
  free : Nat
  /-- SRAM bytes that differ from what an unlisted byte reads as, by SRAM address (07 Table HBU-5, R142). -/
  mem : List Host.Cell
  /-- Line time and its unit (02). -/
  time : TimeState
  /-- The cyclic exchange (04). -/
  cyc : CycState
  /-- The event queue and interrupts (08). -/
  evq : EventState
  /-- The trace unit (21). -/
  trace : TraceState
  /-- The host bus unit (07). -/
  bus : BusState
  /-- The configuration sets (09). -/
  cfg : CfgState
  /-- Modes, boots and power (10). -/
  mode : ModeState
  /-- The safe controller (12). -/
  safe : SafeState
  /-- Field supplies, die and barrier (12). -/
  supply : SupplyState
  /-- The field channels (11). -/
  field : FieldState
  /-- The health monitor (21). -/
  health : HealthState
  /-- The fault injectors (21). -/
  inj : InjState
  /-- The measurement subsystem (13). -/
  adc : AdcState
  /-- The service panel (15). -/
  panel : PanelState
  /-- The watchdogs (16). -/
  wdog : WdogState
  /-- The line ports, the forwarding engine and the position (03). -/
  link : LinkState
  /-- The transaction engine (05). -/
  txn : TxnState
  /-- The starter's and the anchor's line work (06). -/
  sta : StaState
  /-- Keys, sealing and the crypto engine (19). -/
  sec : SecState
  /-- The clocked serial ports (14). -/
  ser : SerState
  /-- The service socket and the medium (17). -/
  media : MediaState
  /-- The update session and the bank slots (18). -/
  upd : UpdState
  /-- The on-chip flash (20). -/
  flash : FlashState
  /-- The boundary-scan port (22). -/
  tap : TapState
deriving DecidableEq, Repr

/-- The device at the release of power-on reset, before its boot: every register at the value of its table, and each
value the spec does not give at the one its docstring names (logs 4 and 5). -/
def State.reset : State :=
  { pending := [], free := 0, mem := [], time := {}, cyc := {}, evq := {}, trace := {}, bus := {}, cfg := {},
    mode := {}, safe := {}, supply := {}, field := {}, health := {}, inj := {}, adc := {}, panel := {}, wdog
    := {}, link := {}, txn := {}, sta := {}, sec := {}, ser := {}, media := {}, upd := {}, flash := {}, tap :=
    {} }

end Sys2Proof.Machine
end

