-- ==== Sys2Proof/Config.lean ====
section
/-! DEFINITION. Config: what is fixed for one device (the shape of a configuration field) and the free values, which
the spec leaves open. A free value has no body, so nothing can be proved about it but what holds of every value. -/

namespace Sys2Proof

/-- The swap class of a configuration field (R218). -/
inductive SwapClass where
  | l | s | n
deriving DecidableEq, Repr

/-- One field of a configuration table: `count` copies, `stride` words apart from word `base`, each `width` bits
from bit `lo` (over two words when `lo + width` exceeds 16), with its range, default and swap class. -/
structure CfgField where
  table : Nat
  base : Nat
  stride : Nat
  count : Nat
  lo : Nat
  width : Nat
  min : Nat
  max : Nat
  dflt : Nat
  cls : SwapClass
deriving DecidableEq, Repr

namespace Config

/-- A value that the spec leaves open: the n-th one the device takes (log 3). -/
opaque freeWord : Nat → Word

/-- A byte that the spec leaves open, by number and place (log 3). -/
opaque freeByte : Nat → Nat → Byte

/-- SHA-256 (FIPS 180): the spec names it and does not define it (log 9). -/
opaque sha256 : List Byte → List Byte

/-- AES-256-GCM sealing (SP 800-38D): key, nonce, associated data, plaintext; ciphertext and tag (log 9). -/
opaque gcmSeal : List Byte → List Byte → List Byte → List Byte → List Byte × List Byte

/-- AES-256-GCM opening: key, nonce, associated data, ciphertext, tag; none when the tag does not verify (log 9). -/
opaque gcmOpen : List Byte → List Byte → List Byte → List Byte → List Byte → Option (List Byte)

/-- XTS-AES-256 encryption under the device storage key of the bytes at a flash address (log 9). -/
opaque xtsEncrypt : Nat → List Byte → List Byte

/-- ECDSA P-256 verification under the image signing key of a digest and a signature (log 9). -/
opaque ecdsaVerify : List Byte → List Byte → Bool

/-- The factory trim of a converter (B, or A) at a gain code, on a raw conversion: lies in the calibration store and is never
changed in the field (13 R309, R315; log 69). -/
opaque factoryTrim : Bool → Nat → Int → Int

/-- The product image key of KEY_ID 0, written at test (19 Table SEC-2; log 9). -/
opaque pik : List Byte

end Config

end Sys2Proof
end

