-- ==== Sys2Proof/Machine/Tables.lean ====
section
/-! DEFINITION. The configuration tables (R211 and the table of each owning chapter): fields, ranges, defaults, swap
classes, and how a word of a sparse set is read and written. -/

namespace Sys2Proof.Machine

open Sys2Proof

/-- `n` bits of a natural number from bit `lo`. -/
def natBits (v lo n : Nat) : Nat := v / 2 ^ lo % 2 ^ n

/-- `n` bits of a word from bit `lo`, as a number. -/
def bitsOf (w : Word) (lo n : Nat) : Nat := natBits w.toNat lo n

/-- One bit of a word. -/
def bitOf (w : Word) (n : Nat) : Bool := w.toNat / 2 ^ n % 2 == 1

/-- A truth value as a bit. -/
def b2n (b : Bool) : Nat := if b then 1 else 0

/-- A field of one table word (class L). -/
def fld (table base lo width min max dflt : Nat) (cls : SwapClass := .l) : CfgField :=
  { table, base, stride := 2, count := 1, lo, width, min, max, dflt, cls }

/-- A field repeated over channels or entries. -/
def flds (table base stride count lo width min max dflt : Nat) (cls : SwapClass := .l) : CfgField :=
  { table, base, stride, count, lo, width, min, max, dflt, cls }

/-- Table CFG-6: the NODE table. -/
def nodeFields : List CfgField :=
  [ fld 1 0x00 0 32 0 0xFFFFFFFF 0, fld 1 0x02 0 1 0 1 0, fld 1 0x03 0 8 0 255 50,
    fld 1 0x04 0 1 0 1 0 .n, fld 1 0x04 1 1 0 1 1, fld 1 0x05 0 16 500 3000 1800 ]

/-- Table CYC-3: the MAP table. -/
def mapFields : List CfgField :=
  [ fld 3 0x00 0 4 0 15 0 .s, fld 3 0x01 0 14 0 8190 0 .s, fld 3 0x02 0 7 0 64 0 .s, fld 3 0x03 0 14 0 8190 0 .s,
    fld 3 0x04 0 7 0 64 0 .s, fld 3 0x05 0 32 12500 25000000 125000 .s, fld 3 0x07 0 32 0 0xFFFFFFFF 0 .s,
    fld 3 0x09 0 32 0 0xFFFFFFFF 100000 .s, fld 3 0x0B 0 32 0 0xFFFFFFFF 0 .s, fld 3 0x0D 0 8 1 255 4,
    flds 3 0x10 1 32 0 16 0 0xFFFF 0, flds 3 0x31 1 31 0 16 0 0xFFFF 0 ]

/-- Table CHN-9: the CHAN table, channel n at 16·n. -/
def chanFields : List CfgField :=
  [ flds 4 0x0 16 16 0 4 0 10 0 .s, flds 4 0x0 16 16 4 1 0 1 0 .s, flds 4 0x0 16 16 5 1 0 1 0,
    flds 4 0x0 16 16 6 1 0 1 0, flds 4 0x1 16 16 0 4 0 14 0, flds 4 0x1 16 16 4 2 0 3 0,
    flds 4 0x1 16 16 6 2 0 2 0 .s, flds 4 0x1 16 16 8 2 0 2 2 .s, flds 4 0x2 16 16 0 1 0 1 0 .s,
    flds 4 0x3 16 16 0 32 0 0xFFFFFFFF 0, flds 4 0x5 16 16 0 16 0 0xFFFF 0, flds 4 0x6 16 16 0 16 0 0xFFFF 0,
    flds 4 0x7 16 16 0 32 0 1000000 0 ]

/-- Table DIA-7: the DIAG table. -/
def diagFields : List CfgField :=
  [ flds 5 0x0 16 16 0 1 0 1 0, flds 5 0x0 16 16 1 1 0 1 0, flds 5 0x0 16 16 2 1 0 1 0, flds 5 0x0 16 16 3 1 0 1 1,
    flds 5 0x0 16 16 4 1 0 1 0, flds 5 0x0 16 16 5 1 0 1 1, flds 5 0x0 16 16 6 1 0 1 0,
    flds 5 0x1 16 16 0 8 1 50 50, flds 5 0x1 16 16 8 8 5 255 20, flds 5 0x2 16 16 0 8 1 255 100,
    flds 5 0x2 16 16 8 4 0 15 3, flds 5 0x3 16 16 0 8 1 255 20, flds 5 0x3 16 16 8 8 1 255 10 ]

/-- Table DIA-8: the SAFE table, profiles 1 to 3. -/
def safeFields : List CfgField :=
  [ flds 6 0x40 2 16 0 2 0 3 0, flds 6 0x41 2 16 0 16 0 0xFFFF 0, flds 6 0x80 2 16 0 2 0 3 0,
    flds 6 0x81 2 16 0 16 0 0xFFFF 0, flds 6 0xC0 2 16 0 2 0 3 0, flds 6 0xC1 2 16 0 16 0 0xFFFF 0 ]

/-- Table DIA-10: the TRIG table. -/
def trigFields : List CfgField :=
  [ flds 0xD 0 1 7 0 2 0 3 0, fld 0xD 0 4 3 0 7 2, fld 0xD 1 4 3 0 7 3, fld 0xD 2 4 3 0 7 4, fld 0xD 3 4 3 0 7 6,
    fld 0xD 4 4 3 0 7 1, fld 0xD 5 4 3 0 7 7, fld 0xD 6 4 3 0 7 0, fld 0xD 8 0 8 1 100 10 ]

/-- Table HLT-10: the HEALTH table. -/
def healthFields : List CfgField :=
  [ fld 0xE 0 0 16 1 65535 1000, fld 0xE 1 0 16 1 65535 10000, fld 0xE 2 0 16 1 65535 10,
    fld 0xE 3 0 16 1 65535 1000, fld 0xE 4 0 16 1 65535 10, fld 0xE 5 0 16 1 65535 1000, fld 0xE 6 0 10 1 600 20,
    fld 0xE 7 0 10 1 600 60, fld 0xE 8 0 8 1 100 20, fld 0xE 8 8 8 0 99 5, fld 0xE 9 0 20 0xF0000 0xFFFFF 0xFFF00,
    fld 0xE 0xB 0 7 0 0x7F 0x7F, fld 0xE 0x10 0 16 1 65535 1, fld 0xE 0x11 0 14 0 8707 0, fld 0xE 0x12 0 3 0 7 0,
    fld 0xE 0x12 8 8 0 6 0, fld 0xE 0x13 0 16 1 65535 1, fld 0xE 0x14 0 12 1 3600 60 ]

/-- Table ADC-10: the ADCSEQ table. -/
def adcseqFields : List CfgField :=
  [ fld 7 0x00 0 5 0 16 0 .s, fld 7 0x00 8 1 0 1 1 .s, fld 7 0x01 0 32 0 25000000 0 .s, fld 7 0x03 0 9 2 256 128,
    fld 7 0x04 0 3 0 4 0 .s, fld 7 0x04 4 2 0 3 0, fld 7 0x04 8 4 0 15 0, fld 7 0x04 12 2 1 3 1, fld 7 0x04 14 1 0 1 0,
    flds 7 0x05 1 4 0 16 0 0xFFFF 0, fld 7 0x09 0 32 0 900000000 0,
    flds 7 0x10 2 16 0 6 0 0x2A 0 .s, flds 7 0x10 2 16 6 2 0 2 0 .s, flds 7 0x10 2 16 8 3 0 7 0 .s,
    flds 7 0x10 2 16 11 3 0 4 0 .s, flds 7 0x10 2 16 14 1 0 1 0, flds 7 0x11 2 16 0 9 0 256 0 .s,
    flds 7 0x11 2 16 9 2 0 3 0, flds 7 0x11 2 16 11 1 0 1 0,
    flds 7 0x30 1 4 0 6 0 0x2A 0 .s, flds 7 0x30 1 4 6 1 0 1 0 .s, flds 7 0x30 1 4 8 3 0 7 0 .s,
    flds 7 0x30 1 4 11 3 0 4 0 .s,
    fld 7 0x40 0 12 0 4095 512, fld 7 0x42 0 12 0 4095 1536, fld 7 0x44 0 12 0 4095 2560, fld 7 0x46 0 12 0 4095 3584,
    flds 7 0x41 2 4 0 8 0 255 8, flds 7 0x41 2 4 8 8 0 255 32 ]

/-- R337: the ADCFILT table. -/
def adcfiltFields : List CfgField :=
  [ flds 8 0x00 4 16 0 3 0 4 1 .s, flds 8 0x01 4 16 0 11 2 1024 16 .s ]

/-- R338: the WINDOW table; LOW and HIGH are signed words, so their ranges are cross rules. -/
def windowFields : List CfgField :=
  [ flds 9 0x00 8 8 0 4 0 15 0, flds 9 0x00 8 8 4 1 0 1 0, flds 9 0x00 8 8 5 1 0 1 0,
    flds 9 0x01 8 8 0 16 0 0xFFFF 0x8001, flds 9 0x02 8 8 0 16 0 0xFFFF 0x7FFF, flds 9 0x03 8 8 0 16 0 32767 0 ]

/-- Table PNL-9: the PANEL table. -/
def panelFields : List CfgField :=
  [ fld 0xB 0x00 0 5 2 31 8, fld 0xB 0x01 0 10 10 1000 50, fld 0xB 0x02 0 6 0 50 10,
    flds 0xB 0x03 1 3 0 16 0 0xFFFF 0xFFFF, fld 0xB 0x06 0 2 0 2 2, fld 0xB 0x06 2 1 0 1 0, fld 0xB 0x06 8 2 0 2 2,
    fld 0xB 0x06 10 1 0 1 0, fld 0xB 0x07 0 8 1 255 100, fld 0xB 0x08 0 4 0 15 2,
    fld 0xB 0x09 0 19 0 0x7FFF8 0x7FFF8, fld 0xB 0x10 0 6 0 47 0, fld 0xB 0x10 8 6 0 47 1, fld 0xB 0x11 0 6 0 47 2,
    fld 0xB 0x11 8 6 0 47 3, fld 0xB 0x12 0 6 0 47 4, fld 0xB 0x13 0 1 0 1 0, fld 0xB 0x13 8 8 1 255 30,
    fld 0xB 0x14 0 8 10 255 60, fld 0xB 0x15 0 4 1 10 3 ]

/-- Table WDG-5: the WDOG table. -/
def wdogFields : List CfgField :=
  [ fld 0xC 0 0 1 0 1 0 .s, fld 0xC 0 1 1 0 1 0 .s, fld 0xC 0 2 1 0 1 0, fld 0xC 1 0 16 2 60000 100,
    fld 0xC 2 0 16 1 59999 50, fld 0xC 3 0 16 10 60000 5000, fld 0xC 4 0 16 0 0xFFFF 0 .s ]

/-- Table LNK-12: the LINK table. -/
def linkFields : List CfgField :=
  [ fld 2 0 0 1 0 1 1 .s, fld 2 0 1 1 0 1 1 .s, fld 2 1 0 3 0 4 2 .s, fld 2 1 3 3 0 4 2 .s, fld 2 2 0 2 0 2 1 .s,
    fld 2 2 2 2 0 3 1 .s, fld 2 2 4 2 0 2 1 .s, fld 2 2 6 2 0 3 1 .s, fld 2 3 0 2 0 2 0 .n, fld 2 3 8 8 1 255 10 .n,
    fld 2 4 0 1 0 1 0, fld 2 4 8 8 10 250 50 ]

/-- Table CSP-8: the CSPSEL table, code c at 8·c; EN of code 6 is 1 by default. -/
def cspselFields : List CfgField :=
  [ flds 0xA 0 8 6 0 1 0 1 0, fld 0xA 0x30 0 1 0 1 1, fld 0xA 0x38 0 1 0 1 0,
    flds 0xA 0 8 8 1 1 0 1 1, flds 0xA 0 8 8 2 2 0 3 0, flds 0xA 0 8 8 4 1 0 1 0, flds 0xA 0 8 8 5 1 0 1 0,
    flds 0xA 0 8 8 6 1 0 1 0, flds 0xA 0 8 8 7 1 0 1 0, flds 0xA 0 8 8 8 1 0 1 0, flds 0xA 0 8 8 9 1 0 1 0,
    flds 0xA 0 8 8 10 1 0 1 0, flds 0xA 0 8 8 11 5 16 27 24, flds 0xA 1 8 8 0 9 1 500 5,
    flds 0xA 2 8 8 0 4 1 15 2, flds 0xA 2 8 8 4 4 1 15 1, flds 0xA 2 8 8 8 4 1 15 1, flds 0xA 2 8 8 12 4 1 15 4,
    flds 0xA 3 8 8 0 16 1 65535 1000, flds 0xA 4 8 8 0 8 0 255 0x0B, flds 0xA 4 8 8 8 8 0 255 0x40,
    flds 0xA 5 8 8 0 8 0 255 0xA0, flds 0xA 5 8 8 8 8 0 255 0xFF, flds 0xA 6 8 8 0 8 0 255 0x20,
    flds 0xA 6 8 8 8 8 0 255 0xD8 ]

/-- Every configuration field of every table. -/
def cfgFields : List CfgField :=
  nodeFields ++ mapFields ++ chanFields ++ diagFields ++ safeFields ++ trigFields ++ healthFields ++ adcseqFields ++
  adcfiltFields ++ windowFields ++ panelFields ++ wdogFields ++ linkFields ++ cspselFields

/-- Words of each table (Table CFG-2); 0 for no table. -/
def tableSize (t : Nat) : Nat :=
  match t with
  | 1 => 256 | 2 => 64 | 3 => 128 | 4 => 1024 | 5 => 1024 | 6 => 256 | 7 => 256 | 8 => 256 | 9 => 128
  | 10 => 64 | 11 => 512 | 12 => 64 | 13 => 32 | 14 => 256 | _ => 0

/-- A table ID and word that R211 calls valid. -/
def wordValid (t w : Nat) : Bool := decide (w < tableSize t)

/-- The key of a table word in a set. -/
def cfgKey (t w : Nat) : Nat := 4096 * t + w

/-- Which word of a field's copy a table word is: 0 the low word, 1 the high word. -/
def fieldPart (f : CfgField) (t w : Nat) : Option Nat :=
  if f.table = t ∧ f.base ≤ w then
    let d := w - f.base
    let r := d % f.stride
    if d / f.stride < f.count ∧ r * 16 < f.lo + f.width then some r else none
  else none

/-- The bits of a word that a field occupies in its part. -/
def fieldMask (f : CfgField) (part : Nat) : Nat := (2 ^ f.width - 1) * 2 ^ f.lo / 2 ^ (16 * part) % 65536

/-- What a field's default puts into its part. -/
def fieldDflt (f : CfgField) (part : Nat) : Nat := f.dflt * 2 ^ f.lo / 2 ^ (16 * part) % 65536

/-- The default of a table word (R211: reserved words and bits hold 0). -/
def cfgDefault (t w : Nat) : Word :=
  cfgFields.foldl (fun acc f => match fieldPart f t w with
    | some p => acc + word (fieldDflt f p)
    | none => acc) 0

/-- Reads one cell of a sparse list, `d` where it is not listed. -/
def cellsGet {α : Type} (m : List (Nat × α)) (a : Nat) (d : α) : α :=
  match m with
  | [] => d
  | (k, v) :: r => if k = a then v else cellsGet r a d

/-- Writes one cell of a sparse list kept in rising order, dropping an entry equal to `d`. -/
def cellsPut {α : Type} [DecidableEq α] (m : List (Nat × α)) (a : Nat) (v d : α) : List (Nat × α) :=
  match m with
  | [] => if v = d then [] else [(a, v)]
  | (k, x) :: r =>
    if a < k then (if v = d then (k, x) :: r else (a, v) :: (k, x) :: r)
    else if a = k then (if v = d then r else (a, v) :: r)
    else (k, x) :: cellsPut r a v d

/-- A word of a set. -/
def setGet (set : List (Nat × Word)) (t w : Nat) : Word := cellsGet set (cfgKey t w) (cfgDefault t w)

/-- A set with one word written. -/
def setPut (set : List (Nat × Word)) (t w : Nat) (v : Word) : List (Nat × Word) :=
  cellsPut set (cfgKey t w) v (cfgDefault t w)

/-- A field of a set, `width` bits from bit `lo` of word `w`, over two words when it needs them. -/
def setField (set : List (Nat × Word)) (t w lo width : Nat) : Nat :=
  let v := (setGet set t w).toNat
  let v := if lo + width ≤ 16 then v else v + 65536 * (setGet set t (w + 1)).toNat
  natBits v lo width

/-- A set in canonical form: keys rising, and no word equal to its default. -/
def setWf (set : List (Nat × Word)) : Bool :=
  match set with
  | [] => true
  | [(k, v)] => v != cfgDefault (k / 4096) (k % 4096)
  | (k, v) :: (k', v') :: r => v != cfgDefault (k / 4096) (k % 4096) && decide (k < k') && setWf ((k', v') :: r)

/-- The words at which two sets differ. -/
def setDiff (a b : List (Nat × Word)) : List Nat :=
  ((a ++ b).map (·.1)).filter (fun k => setGet a (k / 4096) (k % 4096) != setGet b (k / 4096) (k % 4096))

/-- The bits of a word that fields of swap class `c` occupy. -/
def classMask (c : SwapClass) (t w : Nat) : Nat :=
  cfgFields.foldl (fun acc f => match fieldPart f t w with
    | some p => if f.cls = c then acc + fieldMask f p else acc
    | none => acc) 0

/-- Some field of swap class `c` differs between two sets (R216, R218). -/
def setDiffers (c : SwapClass) (a b : List (Nat × Word)) : Bool :=
  (setDiff a b).any (fun k =>
    let m := word (classMask c (k / 4096) (k % 4096))
    (setGet a (k / 4096) (k % 4096) &&& m) != (setGet b (k / 4096) (k % 4096) &&& m))

/-- The word keeps every reserved bit at 0 and every field that ends in it in range (R11, R216). -/
def wordInRange (set : List (Nat × Word)) (t w : Nat) : Bool :=
  let v := (setGet set t w).toNat
  let hits := cfgFields.filterMap (fun f => (fieldPart f t w).map (fun p => (f, p)))
  let mask := hits.foldl (fun acc (f, p) => acc ||| fieldMask f p) 0
  (v ||| mask) == mask &&
  hits.all (fun (f, p) =>
    let wide := f.lo + f.width > 16
    if wide && p == 0 then true
    else
      let x := setField set t (w - p) f.lo f.width
      decide (f.min ≤ x) && decide (x ≤ f.max))

end Sys2Proof.Machine
end

