-- ==== Sys2Proof/Machine/Ops.lean ====
section
/-! DEFINITION. Ops: the named operations that every family shares: bytes of SRAM, configuration words of the active
set, the trace ring, the event queue and the interrupt sources, REASON, and the channel list. -/

namespace Sys2Proof.Machine

open Sys2Proof

/-- What a meaning answers. -/
abbrev Result := Host.Outcome State Fault Refusal

/-! ### Plain helpers -/

/-- Adds with saturation at `top`. -/
def satAdd (top a k : Nat) : Nat := Nat.min top (a + k)

/-- Adds one to a 16-bit saturating counter. -/
def sat16 (a : Nat) : Nat := satAdd 0xFFFF a 1

/-- Adds to a 32-bit wrapping counter. -/
def wrap32 (a k : Nat) : Nat := (a + k) % 2 ^ 32

/-- The line time of a state modulo 2^64. -/
def wrap64 (t : Nat) : Nat := t % 2 ^ 64

/-- A word as a signed number. -/
def sword (w : Word) : Int := w.toInt

/-- A signed number as a word. -/
def iword (i : Int) : Word := BitVec.ofInt 16 i

/-- Rounds the quotient of two integers to the nearest, ties away from zero (R320, R325). -/
def roundDiv (a : Int) (b : Nat) : Int :=
  if 0 ≤ a then ((2 * a.toNat + b) / (2 * b) : Nat) else -(((2 * (-a).toNat + b) / (2 * b) : Nat) : Int)

/-- Replaces the n-th element of a list. -/
def setAt {α : Type} (l : List α) (n : Nat) (a : α) : List α :=
  match l, n with
  | [], _ => []
  | _ :: r, 0 => a :: r
  | x :: r, k + 1 => x :: setAt r k a

/-- Applies a function to every element with its index, counted from `i`. -/
def mapFrom {α β : Type} (i : Nat) (f : Nat → α → β) (l : List α) : List β :=
  match l with
  | [] => []
  | x :: r => f i x :: mapFrom (i + 1) f r

/-- A word of the bits that a test gives on the elements of a list, element n as bit n. -/
def packBits {α : Type} (f : α → Bool) (l : List α) : Word :=
  match l with
  | [] => 0
  | x :: r => packBits f r * 2 + word (b2n (f x))

/-- Sets or clears bit n of a word. -/
def setBit (w : Word) (n : Nat) (b : Bool) : Word :=
  let m : Word := word (2 ^ n)
  if b then w ||| m else w &&& ~~~m

/-- The 16-bit words of a list of little-endian bytes (R7); an odd last byte stands alone. -/
def bytesToWords (l : List Byte) : List Word :=
  match l with
  | [] => []
  | [b] => [word b.toNat]
  | b :: c :: r => word (b.toNat + 256 * c.toNat) :: bytesToWords r

/-- The little-endian bytes of words (R7). -/
def wordsToBytes (l : List Word) : List Byte :=
  match l with
  | [] => []
  | w :: r => byte w.toNat :: byte (w.toNat / 256) :: wordsToBytes r

/-- A number as `n` little-endian bytes (R7). -/
def leBytes (n v : Nat) : List Byte :=
  match n with
  | 0 => []
  | k + 1 => byte v :: leBytes k (v / 256)

/-- A number from little-endian bytes (R7). -/
def leNat (l : List Byte) : Nat :=
  match l with
  | [] => 0
  | b :: r => b.toNat + 256 * leNat r

/-- `n` bytes of a list from an offset, as a number; bytes beyond the list read as 0. -/
def fieldAt (l : List Byte) (ofs n : Nat) : Nat := leNat ((l.drop ofs).take n)

/-! ### SRAM (R142, Table HBU-5) -/

/-- What an SRAM byte reads as that nothing has written since power-on: DESIGN CHOICE, log 6. -/
def memDefault : Byte := 0

/-- One SRAM byte. -/
def memByte (mem : List Host.Cell) (a : Nat) : Byte := cellsGet mem a memDefault

/-- SRAM with one byte written. -/
def memPut (mem : List Host.Cell) (a : Nat) (b : Byte) : List Host.Cell := cellsPut mem a b memDefault

/-- SRAM in canonical form: addresses rising, no byte equal to the default, all within 1 MB. -/
def memWf (mem : List Host.Cell) : Bool :=
  match mem with
  | [] => true
  | [(a, b)] => b != memDefault && decide (a < 0x100000)
  | (a, b) :: (a', b') :: r => b != memDefault && decide (a < a') && memWf ((a', b') :: r)

/-- `n` SRAM bytes from an address. -/
def memBytes (mem : List Host.Cell) (a n : Nat) : List Byte :=
  match n with
  | 0 => []
  | k + 1 => memByte mem a :: memBytes mem (a + 1) k

/-- SRAM with bytes written from an address; bytes at or beyond 1 MB do not exist and are not written. -/
def memPuts (mem : List Host.Cell) (a : Nat) (l : List Byte) : List Host.Cell :=
  match l with
  | [] => mem
  | b :: r => memPuts (if a < 0x100000 then memPut mem a b else mem) (a + 1) r

/-- The state with SRAM bytes written. -/
def State.store (s : State) (a : Nat) (l : List Byte) : State := { s with mem := memPuts s.mem a l }

/-- A little-endian number of `n` bytes in SRAM. -/
def memNat (s : State) (a n : Nat) : Nat := leNat (memBytes s.mem a n)

/-- SRAM address of the shared aperture (Table HBU-5). -/
def apertureBase : Nat := 0x80000

/-- SRAM address of the ADC capture area (Table HBU-5). -/
def captureBase : Nat := 0x68000

/-! ### Configuration (R210, R218) -/

/-- A word of the active set. -/
def cfgW (s : State) (t w : Nat) : Word := setGet s.cfg.active t w

/-- A field of the active set. -/
def cfgF (s : State) (t w lo width : Nat) : Nat := setField s.cfg.active t w lo width

/-- One bit of the active set. -/
def cfgB (s : State) (t w lo : Nat) : Bool := cfgF s t w lo 1 == 1

/-- A class-N bit as the units took it at boot (R218). -/
def cfgBootB (s : State) (t w lo : Nat) : Bool := setField s.cfg.boot t w lo 1 == 1

/-- P in ns (MAP.PERIOD, R97). -/
def periodNs (s : State) : Nat := 4 * cfgF s 3 0x05 0 32

/-- s in ns (MAP.SAMPLE_OFS, R97). -/
def sampleOfs (s : State) : Nat := 4 * cfgF s 3 0x07 0 32

/-- a in ns (MAP.APPLY_OFS, R97). -/
def applyOfs (s : State) : Nat := 4 * cfgF s 3 0x09 0 32

/-- k = floor(line time / P) (R97). -/
def cycleNow (s : State) : Nat := s.time.line / periodNs s

/-- The line time at which an instant has come, from the present one: a multiple of 4 ns (R36), modulo 2^64 (R9). -/
def reachLine (now t : Nat) : Nat := if t ≤ now then now else wrap64 ((t + 3) / 4 * 4)

/-- Line time reaches an instant, unless it has passed it already; a slew in progress has its share in the way (R48). -/
def State.reach (s : State) (t : Nat) : State :=
  { s with time := { s.time with line := reachLine s.time.line t
                                 slewN := s.time.slewN + (reachLine s.time.line t - s.time.line) } }

/-! ### The core -/

/-- The controller core runs: not in reset, not gated by REST (Table LIN-5). -/
def coreRuns (s : State) : Bool := !s.mode.coreReset && !s.mode.rest && !s.mode.porst

/-- REASON takes a code (R199, R241). -/
def State.reason (s : State) (r : Word) : State := { s with mode := { s.mode with reason := r } }

/-- The next free value of the device, and the state that has taken it (log 3). -/
def State.takeFree (s : State) : Word × State := (Config.freeWord s.free, { s with free := s.free + 1 })

/-- Readings that no command brings, one for each channel, as free values, and the state that has taken them (log 92). -/
def State.takeReadings (s : State) : List Word × State :=
  ([0, 1, 2, 3, 4, 5, 6, 7, 8, 9, 10, 11, 12, 13, 14, 15].map (fun i => Config.freeWord (s.free + i)), { s with free := s.free + 16 })

/-! ### The trace ring (R499 to R503) -/

/-- A record enters the ring, or counts in FROZEN_DROPS while FREEZE is 1 (R499, R503). -/
def putTrace (s : State) (source code : Byte) (arg : Nat) : State :=
  if s.trace.freeze then { s with trace := { s.trace with frozenDrops := sat16 s.trace.frozenDrops } }
  else
    let r : TraceRec := { lt := s.time.line, source, code, arg := BitVec.ofNat 48 arg }
    let ring := s.trace.ring ++ [r]
    let ring := if 2048 < ring.length then ring.drop (ring.length - 2048) else ring
    { s with trace := { s.trace with ring, tseq := wrap32 s.trace.tseq 1 } }

/-- The software source: the CORE image, or the minimal image (Table HLT-5). -/
def softSource (s : State) : Byte := if s.mode.minimalImage then 0x81 else 0x80

/-- The trace source of the unit that posts an event (Table HLT-5, R500); DEDUCED, log 7. -/
def eventSource (s : State) (code : Nat) : Byte :=
  match code with
  | 0x12 => 0x05 | 0x15 => 0x0D | 0x16 => 0x0D | 0x17 => 0x0D
  | 0x20 => 0x0A | 0x21 => 0x0A | 0x30 => 0x08 | 0x31 => 0x08 | 0x32 => 0x08
  | 0x40 => 0x01 | 0x41 => 0x01 | 0x42 => 0x01 | 0x43 => 0x01 | 0x44 => 0x01 | 0x45 => 0x01 | 0x4B => 0x01
  | 0x46 => 0x03 | 0x47 => 0x03 | 0x48 => 0x03 | 0x49 => 0x03 | 0x4A => 0x02
  | 0x50 => 0x06 | 0x51 => 0x06 | 0x52 => 0x06 | 0x53 => 0x06 | 0x54 => 0x06 | 0x55 => 0x06 | 0x56 => 0x06
  | 0x57 => 0x06 | 0x70 => 0x07 | 0x71 => 0x07 | 0x72 => 0x07 | 0x80 => 0x03 | 0x81 => 0x03
  | 0x90 => 0x09 | 0x91 => 0x09 | 0x92 => 0x09 | 0xA0 => 0x05
  | 0xB0 => 0x04 | 0xB1 => 0x04 | 0xB2 => 0x04 | 0xB3 => 0x04 | 0xB4 => 0x04 | 0xB5 => 0x04
  | 0xC0 => 0x06 | 0xC1 => 0x06 | 0xC2 => 0x06 | 0xC5 => 0x06 | 0xD0 => 0x0F
  | 0xE0 => 0x02 | 0xE1 => 0x02 | 0xE2 => 0x02 | 0xE3 => 0x02 | 0xE4 => 0x02 | 0xE5 => 0x02 | 0xE6 => 0x02
  | 0xF0 => 0x0C | 0xF1 => 0x0C | 0xF2 => 0x0C | 0xF4 => 0x0C | 0xF5 => 0x09
  | _ => softSource s

/-! ### Events and interrupts (R201 to R206) -/

/-- The interrupt bit of an event: INTB (true) or INTA, and the bit number (Table REG-11). -/
def eventIrq (code : Nat) : Bool × Nat :=
  match code with
  | 0x12 => (true, 0) | 0x13 => (true, 1) | 0x17 => (true, 10) | 0x21 => (true, 11) | 0x30 => (true, 2)
  | 0x31 => (true, 2) | 0x32 => (true, 3) | 0x40 => (true, 4) | 0x52 => (true, 7) | 0x54 => (true, 8)
  | 0x64 => (true, 12) | 0x81 => (true, 13) | 0xA0 => (true, 9) | 0xE5 => (true, 5) | 0xE6 => (true, 6)
  | c =>
    match c / 16 with
    | 1 => (false, 2) | 2 => (false, 10) | 4 => (false, 3) | 5 => (false, 5) | 6 => (false, 9) | 7 => (false, 10)
    | 8 => (false, 11) | 9 => (false, 12) | 0xB => (false, 4) | 0xC => (false, 6) | 0xD => (false, 7)
    | 0xE => (false, 13) | _ => (false, 8)

/-- An event is urgent when its source bit lies in INTB_STAT (R204). -/
def urgent (code : Nat) : Bool := (eventIrq code).1

/-- The interrupt source bit of an event is set, whatever its enable (R201). -/
def EventState.raise (e : EventState) (code : Nat) : EventState :=
  match eventIrq code with
  | (true, n) => { e with intbStat := setBit e.intbStat n true }
  | (false, n) => { e with intaStat := setBit e.intaStat n true }

/-- Removes the oldest entry that is not urgent; `none` when there is no such entry. -/
def dropOldest (q : List Event) : Option (List Event) :=
  match q with
  | [] => none
  | x :: r => if urgent x.code.toNat then (dropOldest r).map (x :: ·) else some r

/-- An entry enters the queue under R204: the held entry is never displaced. -/
def EventState.enter (e : EventState) (x : Event) : EventState :=
  if e.queue.length < 256 then { e with queue := e.queue ++ [x] }
  else
    let lost := { e with ovf := true, intaStat := setBit e.intaStat 14 true }
    if urgent x.code.toNat then
      match e.holder, e.queue with
      | some _, h :: r =>
        match dropOldest r with
        | some r' => { lost with queue := h :: (r' ++ [x]) }
        | none => lost
      | _, q =>
        match dropOldest q with
        | some q' => { lost with queue := q' ++ [x] }
        | none => lost
    else lost

/-- An event without a trace record of its own: queue and interrupt bit (R201, R203), unless a logic reset holds the host bus unit
(Table LIN-5). -/
def postQ (s : State) (code argx : Nat) (arg : Word) : State :=
  if s.mode.logicReset then s else { s with evq := (s.evq.enter { code := byte code, argx := byte argx, arg, lt := BitVec.ofNat 32 s.time.line }).raise code }

/-- Posts an event: queue, interrupt bit, and its trace record (R201, R203, R500). -/
def post (s : State) (code argx : Nat) (arg : Word) : State :=
  putTrace (postQ s code argx arg) (eventSource s code) (byte code) (arg.toNat + 65536 * (argx % 256))

/-- A detail record of software after a hardware event, or a count in DROPPED when the core does not run
(R501, Table HLT-7). -/
def detail (s : State) (code : Nat) (arg48 : Nat) : State :=
  if coreRuns s then putTrace s (softSource s) (byte code) arg48
  else { s with trace := { s.trace with dropped := sat16 s.trace.dropped } }

/-- INTA_STAT as read: bit 15 shows the queue not empty (Table REG-7). -/
def intaWord (s : State) : Word := setBit s.evq.intaStat 15 (!s.evq.queue.isEmpty)

/-- HINTA_N asserted: some bit of INTA_STAT is set whose bit in INTA_EN is set (R184). -/
def hinta (s : State) : Bool := (intaWord s &&& s.evq.intaEn) != 0

/-- HINTB_N asserted (R184). -/
def hintb (s : State) : Bool := (s.evq.intbStat &&& s.evq.intbEn) != 0

/-! ### Channels -/

/-- Channel n. -/
def chan (s : State) (n : Nat) : Chan := s.field.chans.getD n {}

/-- The state with channel n replaced. -/
def State.setChan (s : State) (n : Nat) (c : Chan) : State :=
  { s with field := { s.field with chans := setAt s.field.chans n c } }

/-- The state with a function applied to channel n. -/
def State.onChan (s : State) (n : Nat) (f : Chan → Chan) : State := s.setChan n (f (chan s n))

/-- The state with a function applied to every channel, by number. -/
def State.onChans (s : State) (f : Nat → Chan → Chan) : State :=
  { s with field := { s.field with chans := mapFrom 0 f s.field.chans } }

/-- The numbers of the sixteen channels. -/
def chanNos : List Nat := [0, 1, 2, 3, 4, 5, 6, 7, 8, 9, 10, 11, 12, 13, 14, 15]

/-- Runs an operation once for each number of a list, in order. -/
def eachNo (l : List Nat) (f : State → Nat → State) (s : State) : State :=
  match l with
  | [] => s
  | n :: r => eachNo r f (f s n)

/-- Mode code of the MODE field (Table SCO-3). -/
def modeCode (m : Mode) : Nat :=
  match m with
  | .setup => 0 | .run => 1 | .safe => 2 | .minimal => 3

/-- The path's number in events (Table REG-12: OWNER codes). -/
def pathCode (p : Path) : Nat :=
  match p with
  | .host => 1 | .slave => 2 | .line => 3

end Sys2Proof.Machine
end

