-- ==== Sys2Proof/Machine/Operands.lean ====
section
/-! DEFINITION. Operands: the checksums of R12 and the layouts of the byte strings that commands carry: line frames,
heat headers, baton headers, request records and SYNC bodies. -/

namespace Sys2Proof.Machine

open Sys2Proof

/-! ### Checksums (R12, Table SCO-4) -/

/-- `n` steps of a reflected CRC register. -/
def crcShift (poly n c : Nat) : Nat :=
  match n with
  | 0 => c
  | k + 1 => crcShift poly k (if c % 2 == 1 then (c / 2) ^^^ poly else c / 2)

/-- A reflected CRC register run over bytes. -/
def crcRun (poly c : Nat) (l : List Byte) : Nat :=
  match l with
  | [] => c
  | b :: r => crcRun poly (crcShift poly 8 (c ^^^ b.toNat)) r

/-- CRC-32, polynomial 0x04C11DB7 reflected. -/
def crc32 (l : List Byte) : Nat := crcRun 0xEDB88320 0xFFFFFFFF l ^^^ 0xFFFFFFFF

/-- CRC-32C, polynomial 0x1EDC6F41 reflected. -/
def crc32c (l : List Byte) : Nat := crcRun 0x82F63B78 0xFFFFFFFF l ^^^ 0xFFFFFFFF

/-- `n` steps of a CRC-16 register that is not reflected. -/
def crc16Shift (n c : Nat) : Nat :=
  match n with
  | 0 => c
  | k + 1 => crc16Shift k (if c / 32768 % 2 == 1 then (2 * c % 65536) ^^^ 0x1021 else 2 * c % 65536)

/-- A CRC-16/CCITT register run over bytes. -/
def crc16Run (c : Nat) (l : List Byte) : Nat :=
  match l with
  | [] => c
  | b :: r => crc16Run (crc16Shift 8 (c ^^^ (b.toNat * 256))) r

/-- CRC-16/CCITT. -/
def crc16 (l : List Byte) : Nat := crc16Run 0xFFFF l

/-! ### Bytes -/

/-- Byte n of a list, 0 beyond it. -/
def byteAt (l : List Byte) (n : Nat) : Nat := (l.getD n 0).toNat

/-- A list with bytes written from an offset; bytes beyond the list are not written. -/
def overwrite (l : List Byte) (ofs : Nat) (v : List Byte) : List Byte :=
  match v with
  | [] => l
  | b :: r => overwrite (setAt l ofs b) (ofs + 1) r

/-! ### Frame types (Table LNK-5) -/

/-- TYPE of a frame body. -/
def frameType (body : List Byte) : Nat := byteAt body 0

/-- A reserved TYPE. -/
def rsvdType (t : Nat) : Bool := t == 0 || 6 < t

/-- The uses of the control symbols (Table LNK-4). -/
inductive ControlUse where
  | idle | notice | sof | eofGood | eofPoison
deriving DecidableEq, Repr

/-- The use of a control symbol by its 8-bit code, K28.5 as 0xBC and so on (8b/10b: PRESUMED, log 89); every other control
symbol is invalid (R65). -/
def controlUse (c : Byte) : Option ControlUse :=
  match c.toNat with
  | 0xBC => some .idle
  | 0x3C => some .notice
  | 0xFB => some .sof
  | 0xFD => some .eofGood
  | 0xFE => some .eofPoison
  | _ => none

/-- Invalid symbols and disparity errors between SOF and terminator (R65, R74). -/
def invalidSymbols (f : LineFrame) : Nat := f.bad + (f.ctrl.filter (fun c => (controlUse c).isNone)).length

/-- The frame reached 8,709 bytes behind SOF without a terminator; `body` holds every byte of a frame that no terminator
ends (R76). -/
def overlong (f : LineFrame) : Bool :=
  match f.term with
  | .truncated => decide (8709 ≤ f.body.length)
  | .sofInside => decide (8709 ≤ f.body.length)
  | _ => decide (8704 < f.body.length)

/-- What a receiver finds at a frame's terminator (R74, R75): good, already poisoned, or a cause of its own. -/
inductive Verdict where
  | good
  | poisonIn (origin : Nat)
  | fault (cause : Nat)
deriving DecidableEq, Repr

/-- The verdict on a frame: a cause that ends it early stands, and at the terminator the highest cause that applies does (R74,
R75, R76). -/
def verdict (f : LineFrame) : Verdict :=
  if overlong f then .fault 2
  else
    match f.term with
    | .sofInside => .fault 4
    | .truncated => .fault 3
    | .poison o => .poisonIn o
    | .good =>
      if f.body.length < 16 then .fault 2
      else if invalidSymbols f != 0 then .fault 1
      else if f.crc != crc32 f.body then .fault 0
      else .good

/-- The engine ends the frame before its CRC field (R70, R76). -/
def endedEarly (f : LineFrame) : Bool := overlong f || f.term = .truncated || f.term = .sofInside

/-! ### Heat header (Table CYC-2) -/

/-- The heat index. -/
def heatIdx (b : List Byte) : Nat := byteAt b 2 % 16

/-- The number of heats minus 1. -/
def heatLast (b : List Byte) : Nat := byteAt b 2 / 16

/-- ORIGIN of a heat: true for the anchor. -/
def heatOrigin (b : List Byte) : Bool := natBits (byteAt b 14) 2 1 == 1

/-- ORIGIN of a frame that carries one: heat, baton or SYNC; other types have none. -/
def frameOrigin (b : List Byte) : Bool :=
  match frameType b with
  | 1 => heatOrigin b
  | 2 => byteAt b 7 % 2 == 1
  | 4 => byteAt b 4 % 2 == 1
  | _ => false

/-! ### Notices (Tables LNK-11 and R83) -/

/-- The three symbols of a notice ordered set (R83). -/
def noticeSet (pos : Nat) (portB engaged : Bool) : List Byte :=
  let n0 : Byte := byte pos
  let n1 : Byte := byte (pos / 256 % 16 + 16 * b2n portB + 32 * b2n engaged)
  [n0, n1, n0 ^^^ n1 ^^^ 0xFF]

/-- The check of a notice ordered set that the starter and the anchor make (R83). -/
def noticeValid (n0 n1 n2 : Byte) : Bool := n2 == n0 ^^^ n1 ^^^ 0xFF && n1.toNat / 64 == 0

/-- The body of a LOOPBACK NOTICE frame (Table LNK-11). -/
def noticeBody (pos event : Nat) (portB : Bool) (cause t : Nat) : List Byte :=
  [0x06, 0x01] ++ leBytes 2 (pos % 4096) ++ [byte event, byte (b2n portB), byte cause, 0] ++ leBytes 8 t

/-! ### Baton (Tables ACY-2 to ACY-4) -/

/-- The header checks of R120 on a baton body. -/
def batonHeaderOk (b : List Byte) (lineId : Nat) : Bool :=
  byteAt b 0 == 2 && byteAt b 1 == 1 && byteAt b 7 / 2 == 0 && fieldAt b 12 4 == lineId &&
  fieldAt b 10 2 == 32 + fieldAt b 8 2 && 1 ≤ byteAt b 5 && byteAt b 5 ≤ 19 &&
  decide (32 + fieldAt b 8 2 + byteAt b 6 * byteAt b 5 * 16 ≤ 8704)

/-- Length of a request record with LEN and SEALED, pad byte included (R118). -/
def recordLen (len : Nat) (sealed : Bool) : Nat :=
  let n := 8 + len + (if sealed then 28 else 0)
  n + n % 2

/-- SEALED of a record or response header word. -/
def sealedBit (w : Nat) : Bool := natBits w 12 1 == 1

/-- The records of a record region, as byte strings without pad, and whether the walk met a fault (R121). -/
def walkRecords (n : Nat) (region : List Byte) : List (List Byte) × Bool :=
  match n with
  | 0 => ([], !region.isEmpty)
  | k + 1 =>
    let len := fieldAt region 6 2
    let sealed := sealedBit (fieldAt region 0 2)
    let size := recordLen len sealed
    if region.length < 8 || 256 < len || region.length < size then ([], true)
    else
      let rest := walkRecords k (region.drop size)
      (region.take (8 + len + (if sealed then 28 else 0)) :: rest.1, rest.2)

/-- The opcodes of Table ACY-6: sealed only, broadcast, MINIMAL, core, idempotent; none for a reserved code. -/
def opcodeRow (op : Nat) : Option (Bool × Bool × Bool × Bool × Bool) :=
  match op with
  | 0x01 => some (false, false, true, false, true)
  | 0x02 => some (false, false, true, false, false)
  | 0x03 => some (false, true, true, false, false)
  | 0x04 => some (false, false, false, true, true)
  | 0x05 => some (false, false, false, true, true)
  | 0x06 => some (false, false, false, true, false)
  | 0x07 => some (false, false, true, true, true)
  | 0x08 => some (false, false, true, true, true)
  | 0x09 => some (false, false, false, true, false)
  | 0x0A => some (false, false, false, true, false)
  | 0x0B => some (false, false, false, true, true)
  | 0x0C => some (false, true, true, true, false)
  | 0x0D => some (false, true, true, true, false)
  | 0x20 => some (true, false, true, true, false)
  | 0x21 => some (true, true, true, true, false)
  | 0x22 => some (true, false, false, true, false)
  | 0x23 => some (true, false, false, true, false)
  | 0x24 => some (true, false, true, true, false)
  | _ => none

/-- An opcode needs the controller core (Table ACY-6). -/
def opcodeCore (op : Nat) : Bool :=
  match opcodeRow op with
  | some (_, _, _, c, _) => c
  | none => false

end Sys2Proof.Machine
end

