-- ==== Sys2Proof/Machine/Flags.lean ====
section
/-! DEFINITION. Flags: every status word the spec builds from state (the field tables of the status registers), and the
conditions behind their bits. -/

namespace Sys2Proof.Machine

open Sys2Proof

/-- A word from fields: value and lowest bit. -/
def pack (l : List (Nat × Nat)) : Word :=
  match l with
  | [] => 0
  | (v, lo) :: r => pack r + word (v * 2 ^ lo)

/-! ### Modes (Tables REG-5 and DIA-10) -/

/-- ROLE[1:0] as strapped (Table SCO-2). -/
def roleCode (r : Role) : Nat :=
  match r with
  | .node => 0 | .starter => 1 | .anchor => 2 | .bench => 3

/-- MODE.RESUME_OK: in SAFE, BOOT-OK reached, pins released, barrier up, WDH not EXPIRED, no activation pause and
no trigger held (R234, R304). -/
def resumeOk (s : State) : Bool :=
  s.mode.mode == .safe && s.mode.bootOk && !s.mode.safeReq && !s.mode.pwrfail && !s.supply.barrierDown &&
  s.wdog.h.st != .expired && s.safe.pause.isNone && s.safe.active == 0

/-- The safe profile in force as MODE and SAFESTAT show it: 0 outside SAFE and outside a pause (R306). -/
def profileShown (s : State) : Nat :=
  if s.mode.mode == .safe || s.safe.pause.isSome then s.safe.profile else 0

/-- MODE (Table REG-5). -/
def modeWord (s : State) : Word :=
  pack [(modeCode s.mode.mode, 0), (b2n s.mode.rest, 2), (b2n s.safe.pause.isSome, 3), (profileShown s, 4),
    (roleCode s.mode.role, 6), (s.mode.fstarts, 8), (b2n s.mode.bootOk, 10), (b2n (resumeOk s), 11)]

/-- MODECMD as read (Table REG-5). -/
def modecmdWord (s : State) : Word := pack [(s.mode.cmd, 0), (s.mode.result, 4)]

/-- SAFESTAT (Table REG-14, R306). -/
def safestatWord (s : State) : Word :=
  pack [(profileShown s, 0), (b2n (s.mode.mode == .safe), 2), (b2n s.supply.lpOff, 3),
    (b2n (s.supply.lsUv || s.supply.lsOv), 4), (b2n s.supply.barrierDown, 5), (b2n s.mode.safeReq, 6),
    (b2n s.safe.pause.isSome, 7), (s.safe.trigger, 8)]

/-- DIAG SUPPLY (Table DIA-7). -/
def supplyWord (s : State) : Word :=
  pack [(b2n s.supply.lpOff, 0), (b2n s.supply.lpUv, 1), (b2n s.supply.lpOv, 2), (b2n s.supply.lpRev, 3),
    (b2n s.supply.lsUv, 4), (b2n s.supply.lsOv, 5), (b2n s.supply.dieHot, 6), (b2n s.supply.barrierDown, 7)]

/-- TRIG word 0x10: ACTIVE, SEEN, FROM_SETUP (Table DIA-10). -/
def trigWord (s : State) : Word :=
  pack [(s.safe.active.toNat, 0), (s.safe.seen.toNat, 8), (b2n s.safe.fromSetup, 15)]

/-- TRIG word 0x11: IN_FORCE, IN_RANK (Table DIA-10). -/
def inForceWord (s : State) : Word := pack [(s.safe.inForce, 0), (s.safe.inRank, 4)]

/-! ### Line time (Table TIM-8) -/

/-- SYNC_STAT.PLL codes. -/
def pllCode (p : Pll) : Nat :=
  match p with
  | .free => 0 | .acquire => 1 | .locked => 2 | .holdover => 3

/-- SYNC_STAT.TSTATE codes. -/
def tstateCode (t : TState) : Nat :=
  match t with
  | .unsync => 0 | .coarse => 1 | .fine => 2 | .hold => 3

/-- SYNC_STAT.TIME_OK: PLL LOCKED and TSTATE FINE; in STARTER and BENCH, locked to the crystal (Table TIM-8). -/
def timeOk (s : State) : Bool :=
  s.time.pll == .locked &&
  (s.time.tstate == .fine || s.mode.role == .starter || s.mode.role == .bench)

/-- SYNC_STAT (Table TIM-8). -/
def syncStatWord (s : State) : Word :=
  pack [(pllCode s.time.pll, 0), (b2n s.time.regen, 2), (b2n s.time.refB, 3), (tstateCode s.time.tstate, 4),
    (b2n (timeOk s), 6), (b2n s.time.originAnchor, 7), (b2n s.time.stepped, 8), (b2n s.time.epochChg, 9),
    (b2n s.time.lockLost, 10), (b2n s.time.delayRange, 11), (b2n s.time.syncMiss, 12), (b2n s.time.refRange, 13)]

/-- Line time with its fraction in 1/64 ns (R36). -/
def lineUnits (t : TimeState) : Nat := t.line * 64 + t.frac

/-- Line time set from 1/64 ns: the counter holds steps of 4 ns, the rest is the fraction (R36). -/
def setUnits (t : TimeState) (u : Nat) : TimeState := { t with line := wrap64 (u / 256 * 4), frac := u % 256 }

/-- What a slew has corrected by now: at most 1,000 ppm of the line time since it began (R48). -/
def slewDone (t : TimeState) : Int :=
  let n : Int := (Nat.min t.slew.natAbs (t.slewN * 64 / 1000) : Nat)
  if t.slew < 0 then -n else n

/-- A slew in progress stops (R48). -/
def slewStop (t : TimeState) : TimeState := { t with corr := t.corr + slewDone t, slew := 0, slewN := 0 }

/-- One tick of line time: 4 ns, and the share of a slew in progress (R36, R48). -/
def tickTime (t : TimeState) : TimeState :=
  let t' := { t with slewN := t.slewN + 4 }
  setUnits t' ((lineUnits t : Int) + 256 + (slewDone t' - slewDone t)).toNat

/-- LTIME_LATCH as read (Table TIM-7). -/
def ltimeLatchWord (s : State) : Word := pack [(b2n s.time.presetRef, 2), (s.time.lseq, 4)]

/-- Runs an operation and posts TIME_OK with the new SYNC_STAT when TIME_OK has changed (R53). -/
def withTimeOk (s : State) (f : State → State) : State :=
  let s' := f s
  if timeOk s' != timeOk s then post s' 0xB3 0 (syncStatWord s') else s'

/-- The anchor remembers that TSTATE has reached FINE (R164). -/
def seeFine (s : State) : State :=
  if s.time.tstate == .fine then { s with sta := { s.sta with anchor := { s.sta.anchor with fineSeen := true } } } else s

/-- The mean offset that remains falls below 50 ns as a slew goes on: TSTATE becomes FINE (R48, Table TIM-8). -/
def timeJudge (s : State) : State :=
  if s.time.tstate == .coarse && (s.time.slew - slewDone s.time).natAbs < 3200 then
    seeFine (withTimeOk s (fun s => { s with time := { s.time with tstate := .fine } }))
  else s

/-- One idle tick of the device clock (R36); in power-on reset the clock stands (DESIGN CHOICE, log 1). -/
def tick (s : State) : State := if s.mode.porst then s else timeJudge { s with time := tickTime s.time }

/-! ### Events (Table REG-10) -/

/-- EVQ_LEVEL as a path sees it: RPTR of the held entry for its holder alone (R197, Table REG-10). -/
def evqLevelWord (s : State) (p : Path) : Word :=
  pack [(s.evq.queue.length, 0), (if s.evq.holder == some p then s.evq.rptr else 0, 9),
    ((s.evq.holder.map pathCode).getD 0, 11), (b2n s.evq.ovf, 13)]

/-! ### Configuration (Table REG-12, Table CFG-6) -/

/-- CFG_STAT (Table REG-12). -/
def cfgStatWord (s : State) : Word :=
  pack [((s.cfg.owner.map pathCode).getD 0, 0), (b2n s.cfg.busy.isSome, 2), (b2n s.cfg.valid, 3),
    (b2n s.cfg.valFail, 4), (b2n s.cfg.armed.isSome, 5), (b2n s.cfg.swapped, 6), (b2n s.cfg.swapRef, 7),
    (b2n s.cfg.missedGun, 8), (b2n s.cfg.commitErr, 9), (s.cfg.swapSeq, 12)]

/-- NODE.N_PENDING: a class-N field of the active set differs from its value at boot (R218). -/
def nPending (s : State) : Bool := setDiffers .n s.cfg.active s.cfg.boot

/-! ### Watchdogs (Table REG-13, Table WDG-5) -/

/-- The state code a watchdog shows: 0 OFF, 1 RUN, 2 FROZEN, 3 EXPIRED. -/
def dogCode (d : Dog) (rest : Bool) : Nat :=
  match d.st with
  | .off => 0
  | .expired => 3
  | .run => if d.frozen.isSome || rest then 2 else 1

/-- Frozen time of the cycle in progress by now (R401). -/
def Dog.frozenSum (d : Dog) (now : Nat) : Nat :=
  match d.frozen with
  | some f => d.frozenNs + (now - Nat.max f d.startT)
  | none => d.frozenNs

/-- The position of the cycle timer, ns (R394, R401). -/
def Dog.elapsed (d : Dog) (now : Nat) : Nat := now - d.startT - d.frozenSum now

/-- The answer window is open at the timer's position (R392, R401). -/
def Dog.isOpen (d : Dog) (now : Nat) : Bool := d.st == .run && (d.opened || decide (d.ofs ≤ d.elapsed now))

/-- The period of the cycle in progress has ended, frozen time excluded (R392, R401). -/
def Dog.isOver (d : Dog) (now : Nat) : Bool := d.st == .run && d.frozen.isNone && decide (d.per ≤ d.elapsed now)

/-- WDH_STAT (Table REG-13). -/
def wdhStatWord (s : State) : Word :=
  pack [(dogCode s.wdog.h false, 0), (s.wdog.h.errors, 2), (b2n s.wdog.early, 4), (b2n s.wdog.late, 5),
    (b2n s.wdog.wrong, 6), (b2n (s.wdog.h.isOpen s.time.line), 7), (s.wdog.served, 8)]

/-- WDH_QUESTION: 0 while WDH is OFF (R396). -/
def wdhQuestionWord (s : State) : Word := if s.wdog.h.st == .off then 0 else s.wdog.h.q

/-! ### Health (Tables REG-5 and HLT-10) -/

/-- REPLACE_N asserted: a REPLACE bit under REPL_MASK, once step 11 of the boot has run (R497). -/
def replaceN (s : State) : Bool :=
  s.health.replaceDriven && (s.health.replace.toNat &&& cfgF s 0xE 0xB 0 7) != 0

/-- HEALTH (Table REG-5). -/
def healthWord (s : State) : Word :=
  pack [(s.health.warn.toNat, 0), (s.health.replace.toNat, 8), (b2n (replaceN s), 15)]

/-! ### Measurement (Table REG-15) -/

/-- Outside bits of the comparators: ADC_STAT.WIN and the WIN item (R322, R323). -/
def winBits (s : State) : Nat := (packBits (fun w => w == WinState.outside) s.adc.wins).toNat

/-- Known bits of the comparators (R323). -/
def winKnown (s : State) : Nat := (packBits (fun w => w != WinState.unknown) s.adc.wins).toNat

/-- ADC_STAT (Table REG-15). -/
def adcStatWord (s : State) : Word :=
  pack [(b2n s.adc.running, 0), (b2n s.adc.injBusy, 1), (b2n s.adc.calZero.isSome, 2), (b2n s.adc.calStep.isSome, 3),
    (b2n s.adc.calRef, 4), (b2n s.adc.dacFail, 5), (b2n s.adc.capture.isSome, 6), (b2n s.adc.cmdRef, 7),
    (winBits s, 8)]

/-- ADC_FLEVEL (Table REG-15). -/
def adcFlevelWord (s : State) : Word := pack [(s.adc.fifo.length, 0), (b2n s.adc.fifoOvf, 9)]

/-! ### Panel (Table REG-16) -/

/-- PANEL_CTRL as read (Table REG-16). -/
def panelCtrlWord (s : State) : Word :=
  pack [(b2n s.panel.hostReq, 0), (b2n s.panel.blank, 2), (b2n s.mode.rest, 3), (s.panel.bright, 4),
    (b2n s.panel.ovf, 8)]

/-- ENC_POS (Table REG-16). -/
def encPosWord (s : State) : Word := pack [(s.panel.pos0, 0), (s.panel.pos1, 8)]

/-! ### Host bus (Tables HBU-6, HBU-11, HBU-12, HBU-13) -/

/-- BUSCFG (Table HBU-12). -/
def buscfgWord (s : State) : Word :=
  pack [(b2n s.bus.intaOd, 0), (b2n s.bus.intbOd, 1), (s.bus.xipWait, 2), (s.bus.hdDrive, 4)]

/-- KEYSEQ as its path reads it (Table HBU-13). -/
def keyseqWord (k : PathKey) : Word :=
  pack [(match k.st with | .idle => 0 | .half => 1 | .opened => 2, 0), (k.fails, 4)]

/-- The code of LINE_TXN (Table HBU-9). -/
def codeLineTxn : Nat := 0x05

/-- A path's limit for commands other than LINE_TXN is reached (R181): 256 on the host bus, 16 of any code on the
slave port. -/
def cmdqFull (c : CmdPath) (p : Path) : Bool :=
  match p with
  | .host => decide (256 ≤ (c.outst.filter (fun d => d.code != codeLineTxn)).length)
  | _ => decide (16 ≤ c.outst.length)

/-- CMDQ_STAT as its path reads it (Table HBU-11). -/
def cmdqStatWord (c : CmdPath) (p : Path) : Word :=
  pack [(c.asm.length, 0), (b2n c.drop, 4), (b2n (cmdqFull c p), 5), (Nat.min 1023 c.outst.length, 6)]

/-- CPLQ_LEVEL as its path reads it (Table HBU-11). -/
def cplqLevelWord (c : CmdPath) : Word := pack [(c.cplq.length, 0), (c.rptr, 12)]

/-! ### Trace and injection (Table REG-18) -/

/-- TRACE_CTRL as a path reads it (Table REG-18). -/
def traceCtrlWord (s : State) (p : TracePtr) : Word :=
  pack [(b2n s.trace.freeze, 0), (b2n p.lost, 4), (p.idx, 5)]

/-- INJ_CTRL (Table REG-18). -/
def injCtrlWord (s : State) : Word :=
  pack [(s.inj.target, 0), (s.inj.action, 2), (b2n s.inj.once, 4), (b2n s.inj.armed.isSome, 7), (b2n s.inj.ref, 8)]

end Sys2Proof.Machine
end

