-- ==== Sys2Proof/Machine/Channels.lean ====
section
/-! DEFINITION. Channels: the channel modes, the three views and the precedence that selects the effective value
(R250, R253, R268 to R274, R295, R296), the counters and the photo-finish ring, as operations the families share. -/

namespace Sys2Proof.Machine

open Sys2Proof

/-! ### Configuration of a channel (Table CHN-9) -/

/-- MODE of channel n (Table CHN-2). -/
def chMode (s : State) (n : Nat) : Nat := cfgF s 4 (16 * n) 0 4

/-- PWM_PERIOD of channel n, units of 8 ns. -/
def pwmPeriod (s : State) (n : Nat) : Nat := cfgF s 4 (16 * n + 3) 0 32

/-- An output mode: DO-HS, DO-PP, DO-PWM or AO-V. -/
def isOutput (m : Nat) : Bool := m == 5 || m == 6 || m == 7 || m == 10

/-- A digital input mode: DI-1, DI-3, DI-CNT or DI-QEP. -/
def isDigitalIn (m : Nat) : Bool := 1 ≤ m && m ≤ 4

/-- A mode with a photo-finish queue: DI-1, DI-3 or DI-CNT (R261). -/
def hasPf (m : Nat) : Bool := 1 ≤ m && m ≤ 3

/-- A PWM mode: DO-PWM, or DO-PP with a PWM_PERIOD (R257). -/
def isPwm (s : State) (n : Nat) : Bool := chMode s n == 7 || (chMode s n == 6 && pwmPeriod s n != 0)

/-- A static digital output: DO-HS, or DO-PP without a PWM_PERIOD. -/
def isStatic (s : State) (n : Nat) : Bool := chMode s n == 5 || (chMode s n == 6 && pwmPeriod s n == 0)

/-- A channel is LOCAL-owned: by OWNER, or in every role but NODE (R269). -/
def isLocal (s : State) (n : Nat) : Bool := cfgB s 4 (16 * n) 4 || s.mode.role != .node

/-- What a bit of 1 sets in a view: 1 in a static mode, ON_VALUE in a PWM or AO-V mode (the three views). -/
def onValue (s : State) (n : Nat) : Word := if isStatic s n then 1 else cfgW s 4 (16 * n + 5)

/-- A bit-valued source as a view value. -/
def bitValue (s : State) (n : Nat) (b : Bool) : Word := if b then onValue s n else 0

/-! ### Safe profiles (R295, R296) -/

/-- The value that safe profile p gives channel n, with KIND 2 as captured (R296). -/
def profileValue (s : State) (p n : Nat) (c : Chan) : Word :=
  if p == 0 || !isOutput (chMode s n) then 0
  else
    match cfgF s 6 (0x40 * p + 2 * n) 0 2 with
    | 0 => 0
    | 1 => onValue s n
    | 2 => c.kind2
    | _ => cfgW s 6 (0x40 * p + 2 * n + 1)

/-! ### The precedence (R268) -/

/-- A force is held on the channel, by CHFORCE or by jog (R273). -/
def Chan.forced (c : Chan) : Bool := c.force.isSome || c.jog.isSome

/-- The value a held force gives (R273). -/
def forceValue (s : State) (n : Nat) (c : Chan) : Word :=
  match c.force with
  | some b => bitValue s n b
  | none => c.jog.getD 0

/-- The effective value of channel n by the fixed precedence of R268. An activation pause holds its profile through the field
reset of a FIELD part (R26), and a core reset holds the effective values until its boot decides the outputs (R27). -/
def effOf (s : State) (n : Nat) (c : Chan) : Word :=
  if !isOutput (chMode s n) || c.modeOff then 0
  else if s.mode.mode == .minimal || (s.mode.fieldReset && s.safe.pause.isNone) then 0
  else if s.safe.hold then profileValue s s.safe.profile n c
  else if s.mode.coreHold then c.eff
  else if c.forced then forceValue s n c
  else if s.mode.mode == .setup then 0
  else if c.runHold then c.eff
  else if isLocal s n then c.loc
  else c.cyc

/-- Computes every effective value again, as at each change of an input to the precedence (R268). -/
def refresh (s : State) : State := s.onChans (fun n c => { c with eff := effOf s n c })

/-- KIND 2 channels capture their effective values (R296). -/
def captureKind2 (s : State) : State := s.onChans (fun _ c => { c with kind2 := c.eff })

/-! ### Local view and forces (R270, R272, R273) -/

/-- The local view of channel n takes a value and CHOUT follows (R270). -/
def writeLocal (s : State) (n : Nat) (v : Word) : State :=
  let s := s.onChan n (fun c => { c with loc := v })
  { s with field := { s.field with chout := setBit s.field.chout n (v != 0) } }

/-- CHOUT takes a word and every local view follows it as a bit-valued source (R272). -/
def writeChout (s : State) (w : Word) : State :=
  let s := { s with field := { s.field with chout := w } }
  refresh (s.onChans (fun n c => { c with loc := bitValue s n (bitOf w n) }))

/-- Every force is removed (R273): CHFORCE's and the panel's. -/
def clearForces (s : State) : State := s.onChans (fun _ c => { c with force := none, jog := none })

/-- A jog ends: its force goes, JOG_ACTIVE clears, and MENU_ACTION 0x0400 + n is posted unless the event queue is
cleared with it (R384). -/
def endJog (s : State) (posts : Bool) : State :=
  match s.panel.jog with
  | none => s
  | some n =>
    let s := { s.onChan n (fun c => { c with jog := none }) with panel := { s.panel with jog := none } }
    let s := refresh s
    if posts then post s 0xD1 0 (word (0x0400 + n)) else s

/-! ### The start list (R264, R267) -/

/-- SL_PEND of a channel: bit s set while slot s holds an event. -/
def slPend (c : Chan) : Word := c.sl.foldl (fun w e => setBit w e.slot true) 0

/-- Posts START_LIST for a list of slots of channel n (R267). -/
def postStartList (s : State) (n argx : Nat) (slots : List Nat) : State :=
  eachNo slots (fun s k => post s 0x56 argx (word (n + 16 * k))) s

/-- The channel's pending events are discarded, and each is reported as lost (R267, Table CHN-6). -/
def discardChan (s : State) (n : Nat) : State :=
  let slots := (chan s n).sl.map (·.slot)
  postStartList (s.onChan n (fun c => { c with sl := [] })) n 2 slots

/-- Every pending event is discarded and reported as lost (R267). -/
def discardAll (s : State) : State := eachNo chanNos discardChan s

/-! ### Supplies at the outputs (R291) -/

/-- The outputs are off in hardware: LP off, die hot, or barrier down (R281, R291). -/
def outputsOff (s : State) : Bool := s.supply.lpOff || s.supply.dieHot || s.supply.barrierDown

end Sys2Proof.Machine
end

