-- ==== Sys2Proof/Machine/Power.lean ====
section
/-! DEFINITION. Power: what the power states and the mode changes do to the other units: the watchdogs' run conditions
(R396, R399), the restart of the measurement sequence (R321, R333), the injector's permission (R511, R512), and the end
of REST (R245, R502). -/

namespace Sys2Proof.Machine

open Sys2Proof

/-! ### Watchdogs: cycles, starts and stops (R390, R394, R396, R399) -/

/-- The question generator (R390). -/
def nextQ (q : Word) : Word :=
  let v := q.toNat
  let fb := (natBits v 15 1 + natBits v 13 1 + natBits v 12 1 + natBits v 10 1) % 2
  word (2 * v % 65536 + fb)

/-- Rotates a word left by n places (R391). -/
def rotl16 (x : Word) (n : Nat) : Word := word (x.toNat * 2 ^ n % 65536 + x.toNat / 2 ^ (16 - n))

/-- The correct token for a question (R391). -/
def token (q seed : Word) : Word := rotl16 (q ^^^ seed) (q.toNat % 16) ^^^ 0xA5C3

/-- A cycle starts: the question advances, the seed and the timing are taken, and the window is open from the first tick
when the offset is 0 (R390, R391, R394, R396). -/
def Dog.cycle (d : Dog) (seed : Word) (now ofs per : Nat) : Dog :=
  { d with q := nextQ d.q, seed, opened := ofs == 0, startT := now, ofs, per, frozenNs := 0, touched := d.frozen.isSome }

/-- The on-chip flash erases a sector (Table WDG-4). -/
def flashErasing (s : State) : Bool := s.flash.erase.isSome

/-- A freeze begins when a source is active and R402 permits it. -/
def freezeDog (s : State) (d : Dog) (source : Bool) : Dog :=
  if source && d.st == .run && d.frozen.isNone && d.mayFreeze then
    { d with frozen := some s.time.line, touched := true }
  else d

/-- Erase sources freeze the watchdogs; each freeze is counted (R401, R402). WDC frozen by REST is left to REST. -/
def freezeCheck (s : State) : State :=
  let h := freezeDog s s.wdog.h (flashErasing s || s.ser.erase.isSome)
  let c := freezeDog s s.wdog.c (flashErasing s && !s.wdog.cRest)
  let n := b2n (h.frozen.isSome && s.wdog.h.frozen.isNone) + b2n (c.frozen.isSome && s.wdog.c.frozen.isNone)
  { s with wdog := { s.wdog with h, c, freezes := satAdd 0xFFFF s.wdog.freezes n } }

/-- The freeze of an instance ends: its timer runs on, and the next freeze needs an unfrozen cycle (R402). -/
def Dog.thaw (d : Dog) (now : Nat) : Dog :=
  match d.frozen with
  | some _ => { d with frozenNs := d.frozenSum now, frozen := none, mayFreeze := false }
  | none => d

/-- Length of the freeze in progress, ms (R402). -/
def Dog.freezeMs (d : Dog) (now : Nat) : Nat := ((d.frozen.map (fun f => now - f)).getD 0) / 1000000

/-- The host watchdog's freeze ends. -/
def thawH (s : State) : State :=
  let now := s.time.line
  { s with wdog := { s.wdog with h := s.wdog.h.thaw now,
                                  freezeMax := Nat.max s.wdog.freezeMax (Nat.min 0xFFFF (s.wdog.h.freezeMs now)) } }

/-- The core watchdog's freeze ends. -/
def thawC (s : State) : State :=
  let now := s.time.line
  { s with wdog := { s.wdog with c := s.wdog.c.thaw now,
                                  freezeMax := Nat.max s.wdog.freezeMax (Nat.min 0xFFFF (s.wdog.c.freezeMs now)) } }

/-- A freeze ends when no source is active (R401). -/
def thawCheck (s : State) : State :=
  let s := if flashErasing s || s.ser.erase.isSome then s else thawH s
  if flashErasing s then s else thawC s

/-- WDH run conditions (R396). -/
def wdhMayRun (s : State) : Bool :=
  cfgB s 0xC 0 0 && s.mode.bootOk &&
  (s.mode.mode == .run || s.mode.mode == .safe || (s.mode.mode == .setup && cfgB s 0xC 0 1)) &&
  !(s.mode.rest && cfgB s 0xC 0 2)

/-- WDH_FIRST, ns. -/
def wdhFirst (s : State) : Nat := 1000000 * cfgF s 0xC 3 0 16

/-- WDH starts when its run conditions come to hold, and is OFF when one fails; leaving EXPIRED releases trigger 1
(R396, R299). -/
def wdhCheck (s : State) : State :=
  if wdhMayRun s then
    if s.wdog.h.st == .off then
      let d := { s.wdog.h.cycle (cfgW s 0xC 4) s.time.line 0 (wdhFirst s) with st := .run, errors := 0 }
      freezeCheck { s with wdog := { s.wdog with h := d } }
    else s
  else if s.wdog.h.st == .off then s
  else
    let s := thawH s
    { s with
      wdog := { s.wdog with h := { s.wdog.h with st := .off, errors := 0, opened := false } }
      safe := { s.safe with active := s.safe.active &&& ~~~2#7 } }

/-- WDC starts with ERRORS 0 and an open first cycle (R399). -/
def wdcStart (s : State) : State :=
  let d := { s.wdog.c.cycle s.wdog.wdcSeed s.time.line 0 200000000 with st := .run, errors := 0 }
  freezeCheck { s with wdog := { s.wdog with c := d, cRest := false, cReset := none } }

/-- WDC stops (R399). -/
def wdcStop (s : State) : State :=
  let s := thawC s
  { s with wdog := { s.wdog with c := { s.wdog.c with st := .off, opened := false }, cRest := false } }

/-! ### Measurement: entries, rounds and restarts (R311, R321, R333) -/

/-- REG_LEN (Table ADC-10). -/
def regLen (s : State) : Nat := cfgF s 7 0 0 5

/-- CONV of regular entry e. -/
def entryConv (s : State) (e : Nat) : Nat := cfgF s 7 (0x10 + 2 * e) 6 2

/-- The numbers below n. -/
def upTo (n : Nat) : List Nat := List.range n

/-- The regular entries that run: all within REG_LEN, or those with REST_KEEP in REST (R333). -/
def runningEntries (s : State) : List Nat :=
  (upTo (regLen s)).filter (fun e => !s.mode.rest || cfgB s 7 (0x10 + 2 * e) 14)

/-- A filter restarts: its state goes and its output reads NO_VALUE; comparators on its entry become unknown (R321,
R323). -/
def restartFilter (s : State) (e : Nat) : State :=
  { s with adc := { s.adc with
    filters := setAt s.adc.filters e {}
    wins := mapFrom 0 (fun w st => if cfgF s 9 (8 * w) 0 4 == e then .unknown else st) s.adc.wins } }

/-- Every filter and comparator restarts (R321, R323). -/
def restartFilters (s : State) : State :=
  { s with adc := { s.adc with filters := List.replicate 16 {}, wins := List.replicate 8 .unknown } }

/-- A round begins: phase 1 on both converters, then the bursts (R311). -/
def beginRound (s : State) : State :=
  let es := runningEntries s
  { s with adc := { s.adc with
    inRound := !es.isEmpty, delayed := false
    phaseA := es.filter (fun e => entryConv s e == 0)
    phaseB := es.filter (fun e => entryConv s e == 1)
    bursts := es.filter (fun e => entryConv s e == 2)
    pairs := 0, half := none, burstSum := 0, rounds := (s.adc.rounds + 1) % 65536 } }

/-- The conversions of the round in progress are aborted, with no result (R313, R335). -/
def abortRound (s : State) : State :=
  { s with adc := { s.adc with inRound := false, delayed := false, phaseA := [], phaseB := [], bursts := [],
                                pairs := 0, half := none, burstSum := 0 } }

/-- The sequence restarts with its entries: a new round at once when rounds are back to back, else at the next
scheduled start (R312, R313, R333, R335). -/
def adcRestart (s : State) : State :=
  if s.adc.running then
    let s := restartFilters (abortRound s)
    if cfgF s 7 1 0 32 == 0 then beginRound s else s
  else s

/-- A calibration step in progress is aborted with cause 7 (R326). -/
def calAbortStep (s : State) : State :=
  match s.adc.calStep with
  | none => s
  | some c =>
    let s := { s with adc := { s.adc with calStep := none, calRef := true, calCause := 7 } }
    post s 0xC4 (if c.full then 2 else 1) (word c.entry)

/-! ### The injected sequence and captures (R316 to R318, R330) -/

/-- INJ_LEN. -/
def injLen (s : State) : Nat := cfgF s 7 4 0 3

/-- A capture in progress ends with the samples it has: no more are wanted (R318, R330). -/
def captureCut (s : State) : State :=
  { s with adc := { s.adc with longBurst := false, longB := false,
                                capture := s.adc.capture.map (fun c => { c with want := c.got }) } }

/-- A trigger of the injected sequence: it starts, ends a long burst and drops the pair in progress, or counts in
INJ_MISSED (R317, R318). -/
def injTrigger (s : State) : State :=
  if injLen s == 0 then s
  else if s.adc.injBusy then { s with adc := { s.adc with injMissed := sat16 s.adc.injMissed } }
  else
    let conv := fun (i : Nat) => cfgF s 7 (0x30 + i) 6 1
    let s := if s.adc.longBurst then captureCut s else s
    { s with adc := { s.adc with injBusy := true, injAt := s.time.line, half := none,
                                  injA := (upTo (injLen s)).filter (fun i => conv i == 0),
                                  injB := (upTo (injLen s)).filter (fun i => conv i == 1) } }

/-- INJ_T, ns. -/
def injT0 (s : State) : Nat := leNat (wordsToBytes [cfgW s 7 5, cfgW s 7 6, cfgW s 7 7, cfgW s 7 8])

/-- INJ_PERIOD, ns. -/
def injPer (s : State) : Nat := 4 * cfgF s 7 9 0 32

/-- Line time is the injection source of a field die that runs (R317). -/
def injTimed (s : State) : Bool := cfgF s 7 4 4 2 == 1 && !s.mode.fieldReset && !s.mode.porst

/-- How many INJ_T instants lie at or before a line time (R317). -/
def injInstants (s : State) (t : Nat) : Nat :=
  if t < injT0 s then 0 else if injPer s == 0 then 1 else (t - injT0 s) / injPer s + 1

/-- The next instant of the line-time source, none after the only one (R317). -/
def injDue (s : State) : Option Nat :=
  if s.adc.injNext != 0 && injPer s == 0 then none else some (injT0 s + s.adc.injNext * injPer s)

/-- The line-time source counts from line time on: instants before it do not fire (R317). -/
def injReindex (s : State) : State :=
  { s with adc := { s.adc with injNext := if s.time.line == 0 then 0 else injInstants s (s.time.line - 1) } }

/-! ### Injection permission (R511, R512) -/

/-- The sealed enable covers a target (R511). -/
def sealedCovers (s : State) (target : Nat) : Bool :=
  match s.inj.sealedEnable with
  | some (_, ts) => natBits ts target 1 == 1
  | none => false

/-- Arming is permitted: BENCH, SETUP, or a sealed enable that covers the target (R511). -/
def injPermitted (s : State) (target : Nat) : Bool :=
  s.mode.role == .bench || s.mode.mode == .setup || sealedCovers s target

/-- The injector disarms, and a held frame leaves it to be sent in the next gap (R512). -/
def injDisarm (s : State) : State := { s with inj := { s.inj with armed := none } }

/-- The injector disarms when the permission under which it was armed is lost (R512). -/
def injCheck (s : State) : State :=
  match s.inj.armed with
  | none => s
  | some a =>
    let held := s.mode.role == .bench ||
      (if a.sealed then sealedCovers s a.target else s.mode.mode == .setup)
    if held then s else injDisarm s

/-! ### REST (R245, R502) -/

/-- REST ends with a wake cause: the REST_EXIT record and event, a fresh WDC cycle, WDH under its conditions, and the
sequence with all its entries (R245, R333, R399, R502). In ACTIVE it does nothing. -/
def wake (s : State) (cause : Nat) : State :=
  if s.mode.rest then
    let secs := Nat.min 0xFFFFFF ((s.time.line - s.mode.restSince) / 1000000000)
    let dropped := Nat.min 0xFFFF s.trace.dropped
    let s := { s with mode := { s.mode with rest := false } }
    let s := putTrace s 0x0D 0x16 (dropped + 65536 * cause + 16777216 * secs)
    let s := postQ s 0x16 cause (word dropped)
    let s := if s.wdog.c.st == .run then
        let d := s.wdog.c.cycle s.wdog.wdcSeed s.time.line 100000000 200000000
        freezeCheck { s with wdog := { s.wdog with cRest := false, c := d } }
      else s
    adcRestart (wdhCheck s)
  else s

/-! ### Health raises (R493, R496) -/

/-- A WARN bit is raised: HEALTH_WARN once, and wake cause 0x0A (R496). -/
def warnRaise (s : State) (r : Nat) : State :=
  if s.health.warn.toNat / 2 ^ r % 2 == 1 then s
  else
    let s := { s with health := { s.health with warn := s.health.warn ||| BitVec.ofNat 7 (2 ^ r) } }
    let s := wake s 0x0A
    post s 0x20 r (healthWord s)

/-- A WARN bit clears; nothing is posted (R496). -/
def warnClear (s : State) (r : Nat) : State :=
  { s with health := { s.health with warn := s.health.warn &&& ~~~BitVec.ofNat 7 (2 ^ r) } }

/-- A WARN bit follows its condition (R494). -/
def warnFollow (s : State) (r : Nat) (c : Bool) : State := if c then warnRaise s r else warnClear s r

/-- A REPLACE bit is raised: REPLACE_REQ once, wake cause 0x0A; reason 0 writes REASON 0x0705 except the raise at a boot
with an unreadable keys region (R495, R496). -/
def replaceRaise (s : State) (r : Nat) (keysBad : Bool) : State :=
  if s.health.replace.toNat / 2 ^ r % 2 == 1 then s
  else
    let s := { s with health := { s.health with replace := s.health.replace ||| BitVec.ofNat 7 (2 ^ r) } }
    let s := if r == 0 && !keysBad then s.reason 0x0705 else s
    let s := wake s 0x0A
    post s 0x21 r (healthWord s)

end Sys2Proof.Machine
end

