-- ==== Sys2Proof/Machine/Flash.lean ====
section
/-! DEFINITION. Flash: the flash controller (chapter 20): the array, unit programs, sector erases with their journal, wear
and retirement, and the repair at boot. Content of the configuration store and of the persistent trace is held as records;
the bytes of every other region are held as cells. -/

namespace Sys2Proof.Machine

open Sys2Proof

/-! ### The array (R473 to R475) -/

/-- The sector of an address. -/
def sectorOf (a : Nat) : Nat := a / 4096

/-- The plane of a sector (Table FLS-2). -/
def planeOf (sector : Nat) : Nat := sector / 256

/-- A byte of the array; unlisted bytes read erased. -/
def flashCell (s : State) (a : Nat) : Byte := cellsGet s.flash.cells a 0xFF

/-- Cells with bytes written from an address. -/
def flashPuts (c : List Host.Cell) (a : Nat) (l : List Byte) : List Host.Cell :=
  match l with
  | [] => c
  | b :: r => flashPuts (cellsPut c a b 0xFF) (a + 1) r

/-- The array with bytes programmed. -/
def State.flashWrite (s : State) (a : Nat) (l : List Byte) : State :=
  { s with flash := { s.flash with cells := flashPuts s.flash.cells a l } }

/-- The array with a sector erased. -/
def State.flashClear (s : State) (sector : Nat) : State :=
  { s with flash := { s.flash with cells := s.flash.cells.filter (fun c => c.1 / 4096 != sector) } }

/-! ### Units and the erase journal (R480, R482, Tables FLS-4 and FLS-5) -/

/-- A short unit of Table FLS-4. -/
def shortUnit (kind item seq : Nat) (payload : List Byte) : List Byte :=
  let b := [byte kind, byte item] ++ leBytes 2 payload.length ++ leBytes 4 seq ++
    (payload ++ List.replicate 20 0).take 20
  b ++ leBytes 4 (crc32c b)

/-- The first unit of a long record: its CRC covers every payload byte too (R482). -/
def longHead (kind item seq : Nat) (payload : List Byte) : List Byte :=
  let b := [byte kind, byte item] ++ leBytes 2 payload.length ++ leBytes 4 seq ++ List.replicate 20 0
  b ++ leBytes 4 (crc32c (b ++ payload))

/-- A payload as whole units (R482). -/
def payloadUnits (l : List Byte) : List Byte := l ++ List.replicate ((32 - l.length % 32) % 32) 0

/-- A map of sectors, one bit each, as 128 bytes (Table FLS-5). -/
def sectorMap (l : List Nat) : List Byte :=
  (upTo 128).map (fun i => byte ((l.filter (fun x => x / 8 == i)).foldl (fun a x => a + 2 ^ (x % 8)) 0))

/-- The SNAPSHOT payload: remap table, slow-erase map, dead map (Table FLS-5). -/
def snapshotBytes (s : State) : List Byte :=
  s.flash.spares.flatMap (fun x => leBytes 2 x) ++ sectorMap s.flash.slow ++ sectorMap s.flash.dead

/-- A unit waits to be programmed (R477). -/
def addProgram (s : State) (owner : ProgOwner) (rank addr : Nat) (data : List Byte) : State :=
  { s with flash := { s.flash with progQ := s.flash.progQ ++ [{ owner, rank, addr, data }] } }

/-- An erase waits (R477). -/
def addErase (s : State) (sector cause : Nat) : State :=
  { s with flash := { s.flash with eraseQ := s.flash.eraseQ ++ [(sector, cause)] } }

/-- The next live sector after k of a ring of `size` sectors from sector `base` on: dead ones are skipped (R483). -/
def nextLive (s : State) (base size k tries : Nat) : Nat :=
  match tries with
  | 0 => k
  | n + 1 =>
    let k' := (k + 1) % size
    if s.flash.dead.contains (base + k') then nextLive s base size k' n else k'

/-- The next live journal sector after k. -/
def nextJournal (s : State) (k : Nat) : Nat := nextLive s 848 16 k 16

/-- Units programmed one after the other from an address; the journal programs only units. -/
def addUnits (s : State) (addr : Nat) (l : List (List Byte)) : State :=
  match l with
  | [] => s
  | u :: r => addUnits (addProgram s .journal 2 addr u) (addr + 32) r

/-- The 32-byte pieces of a list. -/
def pieces (n : Nat) (l : List Byte) : List (List Byte) :=
  match n with
  | 0 => []
  | k + 1 => l.take 32 :: pieces k (l.drop 32)

/-- A new journal sector begins with its header and a SNAPSHOT of the whole wear state (R480, R483). -/
def openJournal (s : State) : State :=
  let a := (848 + s.flash.jSector) * 4096
  let q := s.flash.jSeq
  let snap := snapshotBytes s
  let pass := if s.flash.jSector == 0 then s.flash.jPass + 1 else s.flash.jPass
  let units := [shortUnit 0x04 0 q (0x03 :: leBytes 4 pass), longHead 0x15 0 (q + 1) snap] ++
    pieces 10 (payloadUnits snap) ++ [shortUnit 0x03 0 (q + 1) []]
  let s := addUnits s a units
  { s with flash := { s.flash with jUnit := 13, jSeq := q + 2, jPass := pass } }

/-- A journal record waits to be programmed; a full or dead sector gives way to the next, and the one after it is erased ahead
(R474, R480, R483). -/
def journal (s : State) (owner : ProgOwner) (kind : Nat) (payload : List Byte) : State :=
  let s := if s.flash.jUnit == 128 || s.flash.dead.contains (848 + s.flash.jSector) then
      let k := nextJournal s s.flash.jSector
      let s := openJournal { s with flash := { s.flash with jSector := k, jUnit := 0 } }
      addErase s (848 + nextJournal s k) 0
    else if s.flash.jUnit == 0 then openJournal s else s
  let a := (848 + s.flash.jSector) * 4096 + 32 * s.flash.jUnit
  let s := addProgram s owner 2 a (shortUnit kind 0 s.flash.jSeq payload)
  { s with flash := { s.flash with jUnit := s.flash.jUnit + 1, jSeq := s.flash.jSeq + 1 } }

/-! ### Health reason 0 (Table HLT-2) -/

/-- Spares left. -/
def sparesLeft (s : State) : Nat := (s.flash.spares.filter (fun x => x == 0xFFFF)).length

/-- Health reason 0 follows the spare pool. -/
def spareHealth (s : State) : State :=
  let s := warnFollow s 0 (sparesLeft s ≤ 7)
  if sparesLeft s ≤ 3 then replaceRaise s 0 false else s

/-! ### Wear and retirement (R490, R491) -/

/-- The lowest free spare from index i. -/
def freeSpare (l : List Nat) (i : Nat) : Option Nat :=
  match l with
  | [] => none
  | x :: r => if x == 0xFFFF then some i else freeSpare r (i + 1)

/-- A number enters a rising list once. -/
def insertNat (l : List Nat) (n : Nat) : List Nat :=
  match l with
  | [] => [n]
  | x :: r => if n < x then n :: x :: r else if n = x then x :: r else x :: insertNat r n

/-- The region of a sector: 0 bank, 1 staging, 2 journal, 3 another ring region, 4 none of these (Table FLS-2). -/
def regionOf (sector : Nat) : Nat :=
  if sector < 512 then 0 else if sector < 768 then 1 else if 848 ≤ sector && sector < 864 then 2
  else if sector < 944 && sector != 832 && sector != 833 then 3 else 4

/-- A ring sector is marked dead (R474, R491). -/
def sectorDead (s : State) (sector : Nat) : State :=
  let s := { s with flash := { s.flash with dead := insertNat s.flash.dead sector } }
  journal s .journal 0x14 (leBytes 2 sector)

/-- The sector holds data that its region still needs, which a retirement copies into the spare (R490). -/
def sectorHolds (s : State) (k : Nat) : Bool :=
  s.flash.cells.any (fun c => c.1 / 4096 == k) ||
  (768 ≤ k && k < 831 && s.cfg.store.any (fun e => e.slot == (k - 768) / 9)) ||
  (880 ≤ k && k < 944 && s.trace.pages.any (fun p => p.seq % 64 == k - 880))

/-- A sector that would be retired, with no spare left (R491): a ring sector is dead, a staging sector whose erase was aborted is
erased again, a bank sector stays in use. -/
def unspared (s : State) (sector cause : Nat) : State :=
  match regionOf sector with
  | 3 => sectorDead s sector
  | 0 => replaceRaise (State.reason { s with flash := { s.flash with worn := insertNat s.flash.worn sector } } 0x0705) 0 false
  | 1 => if cause == 2 then addErase s sector 0 else s
  | _ => s

/-- The first of the waiting retirements goes on: the lowest free spare is erased where it does not read erased, then takes the copy,
and RETIRE is to be written (R490). -/
def retireNext (s : State) : State :=
  match s.flash.retireQ with
  | [] => s
  | (k, c) :: _ =>
    match freeSpare s.flash.spares 0 with
    | none => s.flash.retireQ.foldl (fun s x => unspared s x.1 x.2) { s with flash := { s.flash with retireQ := [] } }
    | some i =>
      if s.flash.spareDirty.contains i then addErase s (944 + i) 2
      else
        let dirty := if c != 2 && sectorHolds s k then insertNat s.flash.spareDirty i else s.flash.spareDirty
        journal { s with flash := { s.flash with spareDirty := dirty } } (.retire k i c) 0x12 (leBytes 2 k ++ [byte i, byte c])

/-- A sector is to be retired; a journal sector is marked dead instead. Cause 0 two slow erases, 1 program retry, 2 erase abort
(R474, R490, R491). -/
def retire (s : State) (sector cause : Nat) : State :=
  if regionOf sector == 2 then sectorDead s sector
  else if s.flash.retireQ.any (fun x => x.1 == sector) then s
  else
    let first := s.flash.retireQ.isEmpty
    let s := { s with flash := { s.flash with retireQ := s.flash.retireQ ++ [(sector, cause)] } }
    if first then retireNext s else s

/-- The RETIRE record is written: the spare serves the sector from now on, a spare that served it is dead, and SECTOR_RETIRED is
posted (R490). -/
def retired (s : State) (sector i : Nat) : State :=
  let old := s.flash.spares.map (fun x => if x == sector then 0xFFFE else x)
  let s := { s with flash := { s.flash with
    spares := setAt old i sector, spareDirty := s.flash.spareDirty.filter (fun x => x != i)
    slow := s.flash.slow.filter (fun x => x != sector), retireQ := s.flash.retireQ.filter (fun x => x.1 != sector)
    torn := if s.flash.torn == some sector then none else s.flash.torn } }
  retireNext (spareHealth (State.reason (post s 0x71 (sparesLeft s) (word sector)) 0x0704))

/-- A spare is found dead by an aborted erase (R490). -/
def spareDead (s : State) (i : Nat) : State :=
  let s := { s with flash := { s.flash with
    spares := setAt s.flash.spares i 0xFFFE, spareDirty := s.flash.spareDirty.filter (fun x => x != i)
    torn := if s.flash.torn == some (944 + i) then none else s.flash.torn } }
  retireNext (spareHealth (journal s .journal 0x13 [byte i]))

/-! ### The controller's work (R476, R477) -/

/-- A read or program of a plane suspends an erase that runs in it, unless it was resumed less than 20 µs ago (R476). -/
def flashAccess (s : State) (plane : Nat) : State :=
  match s.flash.erase with
  | none => s
  | some e =>
    if planeOf e.sector != plane then s
    else
      let now := s.time.line
      let e := match e.susp with
        | some _ => { e with lastAcc := now }
        | none => if e.noSusp ≤ now then { e with susp := some now, lastAcc := now } else e
      { s with flash := { s.flash with erase := some e } }

/-- The erase in a program's plane lets it run: none, suspended, or to be suspended now. -/
def eraseLets (s : State) (plane : Nat) : Bool :=
  match s.flash.erase with
  | none => true
  | some e => planeOf e.sector != plane || e.susp.isSome || e.noSusp ≤ s.time.line

/-- The waiting program of lowest rank number, the oldest of it first (R477). -/
def bestProgram (l : List Program) : Option Program :=
  match l with
  | [] => none
  | p :: r =>
    match bestProgram r with
    | some q => if p.rank ≤ q.rank then some p else some q
    | none => some p

/-- Removes the first program equal to p. -/
def dropProgram (l : List Program) (p : Program) : List Program :=
  match l with
  | [] => []
  | x :: r => if x = p then r else x :: dropProgram r p

/-- A program may start: after a recognised PWRFAIL_N only the writes of Table MOD-12 and the journal's units for the erase that
it ends, and no ERASE-BEGIN (R248, R479). -/
def mayProgram (s : State) (p : Program) : Bool := !s.mode.pwrfail || (p.rank ≤ 2 && p.owner != .eraseBegin)

/-- The controller starts what waits: a program when none runs, an erase when none runs (R477, R478). -/
def flashRun (s : State) : State :=
  if s.mode.logicReset || s.mode.porst then s
  else
    let s := match s.flash.eraseQ with
      | (k, c) :: r =>
        if s.flash.erase.isSome || s.flash.begun.isSome || s.mode.pwrfail then s
        else journal { s with flash := { s.flash with eraseQ := r, begun := some (k, c) } } .eraseBegin 0x10
          (leBytes 2 k ++ [byte c])
      | [] => s
    match s.flash.prog, bestProgram s.flash.progQ with
    | none, some p =>
      if mayProgram s p && eraseLets s (planeOf (sectorOf p.addr)) then
        let s := flashAccess s (planeOf (sectorOf p.addr))
        { s with flash := { s.flash with prog := some p, progQ := dropProgram s.flash.progQ p } }
      else s
    | _, _ => s

/-- A sector's erase is asked for (R477). -/
def askErase (s : State) (sector : Nat) : State := flashRun (addErase s sector 0)

/-- What an owner learns of its sector: staging may fill it, a commit fails on an abort (R432, R487). -/
def eraseNotify (s : State) (sector : Nat) (ok : Bool) : State :=
  let commit := 768 ≤ sector && sector < 832
  { s with upd := { s.upd with toErase := if ok then s.upd.toErase.filter (fun x => 512 + x != sector) else s.upd.toErase }
           flash := { s.flash with commitBad := s.flash.commitBad || (commit && !ok) } }

/-- The erase ends with a status: ERASE-END waits to be programmed, and the watchdogs run on (R478). -/
def eraseEnd (s : State) (e : EraseRun) (status : Nat) : State :=
  let activeMs := (s.time.line - e.startT - e.suspNs - ((e.susp.map (fun t => s.time.line - t)).getD 0)) / 1000000
  let s := { s with flash := { s.flash with erase := none } }
  let s := thawCheck (if status < 2 then s.flashClear e.sector else s)
  journal s (.eraseEnd e.sector status) 0x11 (leBytes 2 e.sector ++ [byte status] ++ leBytes 2 activeMs)

/-- Active time of an erase by now, ns (R478). -/
def activeNs (s : State) (e : EraseRun) : Nat :=
  s.time.line - e.startT - e.suspNs - ((e.susp.map (fun t => s.time.line - t)).getD 0)

/-- FLASH_ERASE_END: at line time t the margin read of the erase passes (R478): status 1 above 60 ms of active time. -/
def execFlashEraseEnd (t : Nat) (s : State) : Result :=
  match s.flash.erase with
  | some e =>
    if e.susp.isSome then .next s
    else
      let s := s.reach t
      .next (flashRun (eraseEnd s e (if 60000000 < activeNs s e then 1 else 0)))
  | none => .next s

/-- FLASH_ERASE_ABORT: an erase reaches 200 ms of elapsed time (R478). -/
def execFlashEraseAbort (s : State) : Result :=
  match s.flash.erase with
  | some e => .next (flashRun (eraseEnd (s.reach (e.startT + 200000000)) e 2))
  | none => .next s

/-- ERASE_CUTOFF: 20 ms after PWRFAIL_N an erase still runs and is aborted (R479). -/
def execEraseCutoff (s : State) : Result :=
  match s.flash.erase with
  | some e => if s.mode.pwrfail then .next (flashRun (eraseEnd (s.reach (s.mode.pwrT + 20000000)) e 3)) else .next s
  | none => .next s

/-- ERASE_RESUME: a suspended erase resumes 2 µs after the last access or 20 µs after its suspension (R476). -/
def execEraseResume (s : State) : Result :=
  match s.flash.erase with
  | some e =>
    match e.susp with
    | some t =>
      let s := s.reach (Nat.min (e.lastAcc + 2000) (t + 20000))
      let e := { e with susp := none, suspNs := e.suspNs + (s.time.line - t), noSusp := s.time.line + 20000 }
      .next (flashRun { s with flash := { s.flash with erase := some e } })
    | none => .next s
  | none => .next s

/-- A sector is erased: it is torn no longer, and its owner or the retirement that waits for the spare goes on (R478, R490). -/
def sectorErased (s : State) (sector : Nat) : State :=
  let s := { s with flash := { s.flash with
    torn := if s.flash.torn == some sector then none else s.flash.torn
    spareDirty := s.flash.spareDirty.filter (fun i => 944 + i != sector) } }
  if 944 ≤ sector then retireNext s else eraseNotify s sector true

/-- A slow erase: SLOW_ERASE, and a second one of the sector retires it (R490). -/
def slowErase (s : State) (sector : Nat) : State :=
  let again := s.flash.slow.contains sector && sector < 944
  let s := post { s with flash := { s.flash with slow := insertNat s.flash.slow sector } } 0x70 0 (word sector)
  if again then retire s sector 0 else s

/-- ERASE-END has been programmed (R478, R481, R490): what the status does to the wear state and the owner. -/
def eraseDoneUnit (s : State) (sector status : Nat) : State :=
  match status with
  | 0 => sectorErased s sector
  | 1 => sectorErased (slowErase s sector) sector
  | 2 => if 944 ≤ sector then spareDead s (sector - 944) else eraseNotify (retire (s.flashClear sector) sector 2) sector false
  | _ => s

/-- A program that verified, for its owner, but for a calibration pair (R475, R478); after PWRFAIL_N an erase does not start, and
its journalled sector is torn until it does (R248, R481). -/
def programDone (s : State) (p : Program) : State :=
  match p.owner with
  | .eraseBegin =>
    match s.flash.begun with
    | some (k, c) =>
      if s.mode.pwrfail then
        { s with flash := { s.flash with begun := none, eraseQ := (k, c) :: s.flash.eraseQ, torn := some k } }
      else
      let e : EraseRun := { sector := k, cause := c, startT := s.time.line, susp := none, suspNs := 0, noSusp := 0,
                            lastAcc := 0 }
      freezeCheck { s with flash := { s.flash with begun := none, erase := some e, torn := some k } }
    | none => s
  | .eraseEnd k st => eraseDoneUnit s k st
  | .retire k i c => if c == 2 then sectorErased (retired s k i) k else retired s k i
  | _ => s

/-- A program that failed its retry: an erase without a valid ERASE-BEGIN never starts and is asked for again (R480). -/
def programFailed (s : State) (p : Program) : State :=
  match p.owner with
  | .eraseBegin =>
    match s.flash.begun with
    | some (k, c) => { s with flash := { s.flash with begun := none, eraseQ := (k, c) :: s.flash.eraseQ } }
    | none => s
  | .eraseEnd k st => journal s (.eraseEnd k st) 0x11 (leBytes 2 k ++ [byte st, 0, 0])
  | .retire k i c => journal s (.retire k i c) 0x12 (leBytes 2 k ++ [byte i, byte c])
  | _ => s

/-- What a unit reads as after a program that failed: a free value, log 3. -/
def badUnit (n : Nat) : List Byte := (upTo 32).map (fun i => Config.freeByte n i)

/-! ### Resets and the repair at boot (R243, R481) -/

/-- A logic or power-on reset ends the operations of the controller (R243). -/
def flashReset (s : State) : State :=
  { s with flash := { s.flash with erase := none, begun := none, eraseQ := [], prog := none, progQ := [], retireQ := [] } }

/-- The units that wait are programmed at once, as in the repair of boot step 3. -/
def flashFlush (s : State) (l : List Program) : State :=
  match l with
  | [] => { s with flash := { s.flash with progQ := [] } }
  | p :: r => flashFlush (s.flashWrite p.addr p.data) r

/-- Boot step 3: a torn sector is erased again with cause 1; REASON 0x0703, and its event waits for the queue (R481). -/
def repairBoot (s : State) : State :=
  match s.flash.torn with
  | none => s
  | some k =>
    let s := journal s .journal 0x10 (leBytes 2 k ++ [1])
    let s := journal (s.flashClear k) .journal 0x11 (leBytes 2 k ++ [0] ++ leBytes 2 20)
    let s := flashFlush s s.flash.progQ
    State.reason { s with flash := { s.flash with torn := none, eraseQ := [],
                                                   spareDirty := s.flash.spareDirty.filter (fun i => 944 + i != k), repaired := s.flash.repaired ++ [k] } } 0x0703

/-- TORN_REPAIRED once the event queue serves (R481). -/
def postRepaired (s : State) : State :=
  let s' := eachNo s.flash.repaired (fun s k => post s 0x72 0 (word k)) s
  { s' with flash := { s'.flash with repaired := [] } }

/-! ### The calibration ring (R485) -/

/-- The ring's unit for a coefficient pair: the record kind and the region code of the sector header are not given by the
spec and are free values, log 3. -/
def calUnit (s : State) (p : CalPair) : List Byte :=
  let point := p.input % 16 + 16 * p.kind + 64 * p.gain
  shortUnit (Config.freeByte 0 0).toNat 1 s.flash.calSeq
    (leBytes 2 point ++ leBytes 2 s.cfg.format ++ leBytes 4 (BitVec.ofInt 32 p.z16).toNat ++
      leBytes 4 (BitVec.ofInt 32 p.g20).toNat)

/-- The units of the standing pairs, as compaction copies them forward (R483, R485). -/
def calCopies (s : State) (addr : Nat) (l : List CalPair) : State :=
  match l with
  | [] => s
  | p :: r =>
    let s' := addProgram s .journal 4 addr (calUnit s p)
    calCopies { s' with flash := { s'.flash with calSeq := s'.flash.calSeq + 1,
                                                  calPos := (s'.flash.calPos.1, s'.flash.calPos.2 + 1) } } (addr + 32) r

/-- A new sector of the calibration ring is opened: header, then the standing pairs, and the next sector is erased ahead
(R483). -/
def calOpen (s : State) (k : Nat) : State :=
  let a := (834 + k) * 4096
  let pass := if k == 0 then s.flash.calPass + 1 else s.flash.calPass
  let s := addProgram s .journal 4 a (shortUnit 0x04 0 s.flash.calSeq (Config.freeByte 0 1 :: leBytes 4 pass))
  let s := { s with flash := { s.flash with calPos := (k, 1), calSeq := s.flash.calSeq + 1, calPass := pass } }
  calCopies s (a + 32) (s.adc.calStore.take 100)

/-- The record of a pair waits to be programmed (R326, R485). -/
def calProgram (s : State) (p : CalPair) : State :=
  let s := if s.flash.calPos.2 == 128 || s.flash.dead.contains (834 + s.flash.calPos.1) then
      let k := nextLive s 834 14 s.flash.calPos.1 14
      addErase (calOpen s k) (834 + nextLive s 834 14 k 14) 0
    else if s.flash.calPos.2 == 0 then calOpen s s.flash.calPos.1 else s
  let a := (834 + s.flash.calPos.1) * 4096 + 32 * s.flash.calPos.2
  let s := addProgram s .cal 4 a (calUnit s p)
  flashRun { s with flash := { s.flash with calPos := (s.flash.calPos.1, s.flash.calPos.2 + 1),
                                             calSeq := s.flash.calSeq + 1 } }

end Sys2Proof.Machine
end

