-- ==== Sys2Proof/Machine/Safe.lean ====
section
/-! DEFINITION. Safe: the safe controller as one shared operation (R233, R299 to R304) and the mode changes that leave
SAFE, with what each mode change does to the other units (R232, R234). -/

namespace Sys2Proof.Machine

open Sys2Proof

/-- PROFILE of trigger t (Table DIA-10). -/
def trigProfile (s : State) (t : Nat) : Nat := cfgF s 0xD t 0 2

/-- RANK of trigger t (Table DIA-10). -/
def trigRank (s : State) (t : Nat) : Nat := cfgF s 0xD t 4 3

/-- The units that follow a change of mode: LOOP_FORCE, jog and the injector leave SETUP, WDH its modes (R95, R384,
R396, R512). -/
def afterMode (s : State) : State :=
  let s := if s.mode.mode == .setup then s
    else endJog { s with link := { s.link with loopForce := false } } true
  wdhCheck (injCheck s)

/-- The mode changes, and MODE_CHANGE is posted with MODE and the previous code (R232). -/
def changeMode (s : State) (m : Mode) : State :=
  let old := modeCode s.mode.mode
  let s := afterMode { s with mode := { s.mode with mode := m } }
  post s 0x11 old (modeWord s)

/-- SAFE_ENTER with REASON and the trigger, and its detail record (Tables REG-11 and HLT-7). -/
def postSafeEnter (s : State) (t : Nat) : State :=
  let s := post s 0x12 t s.mode.reason
  detail s 0x12 (s.safe.inForce + 16 * s.safe.inRank + 256 * s.safe.seen.toNat + 65536 * (s.cyc.snap.cycle % 65536))

/-- The profile command: KIND 2 values are captured, then the profile drives the outputs (R296, Table DIA-9). -/
def takeProfile (s : State) (p : Nat) : State :=
  let s := captureKind2 s
  refresh { s with safe := { s.safe with profile := p, hold := true } }

/-- SAFE state words of an entry or a replacement (Table DIA-9 step 2); during an activation pause they go into the
state to be restored (R302). -/
def setInForce (s : State) (t p : Nat) : State :=
  match s.safe.pause with
  | some v =>
    { s with safe := { s.safe with
      pause := some { v with profile := p, inForce := t, inRank := trigRank s t, trigger := t, hold := true } } }
  | none =>
    let s := takeProfile s p
    { s with safe := { s.safe with inForce := t, inRank := trigRank s t, trigger := t } }

/-- The rank in force: that of the state to be restored during a pause (R302). -/
def rankInForce (s : State) : Nat :=
  match s.safe.pause with
  | some v => v.inRank
  | none => s.safe.inRank

/-- An entry into SAFE (R300, R301, Table DIA-9). -/
def enterSafe (s : State) (t p : Nat) (fromSetup : Bool) (reason : Word) : State :=
  let s := setInForce s t p
  let s := { s with safe := { s.safe with fromSetup }, mode := { s.mode with runAtApply := false } }
  let s := s.reason reason
  postSafeEnter (changeMode s .safe) t

/-- Marks trigger t as seen, and as held where Table DIA-11 holds it (R299, R300). -/
def markTrigger (s : State) (t : Nat) : State :=
  let bit : BitVec 7 := BitVec.ofNat 7 (2 ^ t)
  let held := t == 0 || t == 1 || t == 3 || t == 5
  { s with safe := { s.safe with seen := s.safe.seen ||| bit,
                                  active := if held then s.safe.active ||| bit else s.safe.active } }

/-- Trigger t (0 to 5) with its REASON at the safe controller, which enters SAFE, replaces the profile in force by rank,
or changes nothing, under R300; it does not wait for the core. -/
def triggerHw (s : State) (t : Nat) (reason : Word) : State :=
  let s := markTrigger s t
  match s.mode.mode with
  | .run => enterSafe s t (trigProfile s t) false reason
  | .setup => enterSafe s t 0 true reason
  | .safe =>
    if !s.safe.fromSetup && rankInForce s < trigRank s t then
      postSafeEnter ((setInForce s t (trigProfile s t)).reason reason) t
    else s
  | .minimal => s

/-- Trigger t with its REASON; in REST it is wake cause 0x03 (R300, Table MOD-11). -/
def trigger (s : State) (t : Nat) (reason : Word) : State := wake (triggerHw s t reason) 0x03

/-- The condition of a held trigger ends (Table DIA-11). -/
def releaseTrigger (s : State) (t : Nat) : State :=
  { s with safe := { s.safe with active := s.safe.active &&& ~~~BitVec.ofNat 7 (2 ^ t) } }

/-- Leaving SAFE clears SEEN and FROM_SETUP, IN_FORCE and IN_RANK; TRIGGER keeps the last entry (R304). A pause in progress takes
the profile of SETUP, SLATE (R302). -/
def leaveSafe (s : State) : State :=
  { s with safe := { s.safe with seen := 0, fromSetup := false, inForce := 0xF, inRank := 0,
                                  hold := s.safe.pause.isSome, profile := 0,
                                  pause := s.safe.pause.map (fun v =>
                                    { v with profile := 0, inForce := 0xF, inRank := 0, hold := false }) } }

/-- Entry into RUN: MISS_RUN 0, and each output keeps its state until the first apply in the NODE role (R234); a
calibration step ends (R326). -/
def enterRun (s : State) : State :=
  let s := endJog s true
  let s := { s with cyc := { s.cyc with missRun := 0, limitHit := false }, mode := { s.mode with runAtApply := false } }
  let s := s.onChans (fun n c => { c with runHold := s.mode.role == .node && isOutput (chMode s n) })
  refresh (calAbortStep (changeMode s .run))

/-- The first apply of committed data after GO_RUN or RESUME ends run_hold (R234, R268). -/
def endRunHold (s : State) : State := s.onChans (fun _ c => { c with runHold := false })

/-- An activation pause begins: trigger 6 without a mode change, SLATE in SETUP and in SAFE from SETUP, else the
profile of trigger 6 (R302). That a pause which begins in RUN, as one of a fallback may, takes the profile of trigger 6 too is
DEDUCED from R26, log 96. -/
def pauseBegin (s : State) : State :=
  let keep : SavedSafe :=
    { profile := s.safe.profile, inForce := s.safe.inForce, inRank := s.safe.inRank, trigger := s.safe.trigger,
      hold := s.safe.hold }
  let p := if s.mode.mode == .setup || (s.mode.mode == .safe && s.safe.fromSetup) then 0 else trigProfile s 6
  let s := takeProfile s p
  let s := { s with safe := { s.safe with pause := some keep, trigger := 6, inForce := 6,
                                           inRank := trigRank s 6, seen := s.safe.seen ||| 64#7,
                                           active := s.safe.active ||| 64#7 } }
  s.reason 0x060C

/-- The pause ends: the profile, IN_FORCE, IN_RANK and TRIGGER before it stand again, KIND 2 captured afresh (R302). -/
def pauseEnd (s : State) : State :=
  match s.safe.pause with
  | none => s
  | some v =>
    let s := captureKind2 s
    let s := { s with safe := { s.safe with pause := none, profile := v.profile, inForce := v.inForce,
                                             inRank := v.inRank, trigger := v.trigger, hold := v.hold } }
    refresh (releaseTrigger s 6)

end Sys2Proof.Machine
end

