-- ==== Sys2Proof/Machine/Cycle.lean ====
section
/-! DEFINITION. Cycle: the sample and apply instants, the commit buffers, the missed-cycle count and the line loss
(R104 to R115), as operations that the instants of line time and its steps share. -/

namespace Sys2Proof.Machine

open Sys2Proof

/-! ### The snapshot (R104, R253, R274, R289) -/

/-- The sensed value of channel n at a sample: the filtered state of an input, the reading of a static or PWM output
(0 while LP is off), the readback of an AO-V, 0 in every other mode (R253) and in the OFF interval of R278. -/
def sensedValue (s : State) (n : Nat) (c : Chan) (reading : Word) : Word :=
  let m := chMode s n
  if c.modeOff then 0
  else if isDigitalIn m then word (b2n c.filt)
  else if m == 10 then c.sensed
  else if isOutput m then (if s.supply.lpOff && isStatic s n then 0 else reading)
  else 0

/-- The sensed bit of channel n (R253): an AO-V reads 1 above 50 mV, which is above 80 codes. -/
def sensedBit (s : State) (n : Nat) (c : Chan) : Bool :=
  if chMode s n == 10 then 80 < c.sensed.toNat else c.sensed != 0

/-- The absolute difference of two words as numbers. -/
def wordDist (a b : Word) : Nat := if a.toNat < b.toNat then b.toNat - a.toNat else a.toNat - b.toNat

/-- Effective and sensed differ at a snapshot (R274, R289). -/
def differs (s : State) (n : Nat) (c : Chan) : Bool :=
  let m := chMode s n
  if !isOutput m then false
  else if s.supply.lpOff && m != 10 then false
  else if m == 10 then 160 < wordDist c.eff c.sensed
  else if isPwm s n then
    let high := c.eff.toNat * pwmPeriod s n / 65536 * 8
    let low := pwmPeriod s n * 8 - high
    0x0400 < wordDist c.eff c.sensed && 20000 ≤ high && 20000 ≤ low
  else (c.eff != 0) != (c.sensed != 0)

/-- One IN item's word from a snapshot (Table CYC-5); an item of another code is 0x0000. -/
def inItem (s : State) (v : Snapshot) (item : Word) : Word :=
  let kind := item.toNat / 256
  let i := item.toNat % 256
  match kind with
  | 0x01 => v.sensed
  | 0x02 => v.effBits
  | 0x03 => v.active
  | 0x04 => word (v.cnts.getD i 0).toNat
  | 0x05 => word ((v.cnts.getD i 0).toNat / 65536)
  | 0x06 => v.filters.getD i 0x8000
  | 0x07 => word (v.win % 256)
  | 0x08 => evqLevelWord { s with evq := { s.evq with rptr := 0 } } .host
  | _ => 0

/-- A filter output as a word: NO_VALUE is 0x8000 (R309). -/
def filterWord (f : FilterState) : Word :=
  match f.out with
  | some v => iword v
  | none => 0x8000

/-- The snapshot of the present state, tagged with cycle k (R104, R274). -/
def takeSnapshot (s : State) (k : Nat) : Snapshot :=
  let cs := s.field.chans
  let v : Snapshot :=
    { cycle := k % 2 ^ 32
      sensed := packBits id (mapFrom 0 (fun n c => sensedBit s n c) cs)
      effBits := packBits (fun c => c.eff != 0) cs
      cycBits := packBits (fun c => c.cyc != 0) cs
      locBits := packBits (fun c => c.loc != 0) cs
      forced := packBits Chan.forced cs
      forceLvl := packBits (fun c => c.force.getD c.jog.isSome) cs
      mismatch := packBits (fun c => c.mismatch) cs
      faults := packBits (fun c => !c.faults.isEmpty || c.latched != 0) cs
      active := packBits (fun c => !c.faults.isEmpty) cs
      latched := packBits (fun c => c.latched != 0) cs
      effVals := cs.map (·.eff)
      cycVals := cs.map (·.cyc)
      sensedVals := cs.map (·.sensed)
      cnts := cs.map (·.cnt)
      filters := s.adc.filters.map filterWord
      win := winBits s
      lpOff := s.supply.lpOff
      ignCyclic := s.field.ignCyclic
      rangeClamp := s.field.rangeClamp
      qepDir := (packBits (fun m => (chan s (2 * m)).dirDown) [0, 1, 2, 3, 4, 5, 6, 7]).toNat }
  { v with inWords := (upTo 31).map (fun j => inItem s v (cfgW s 3 (0x31 + j))) }

/-- The MISMATCH bit of a snapshot, and how long it has stood in every one (R274, R289). -/
def judgeMismatch (s : State) (c : Chan) (b : Bool) : Chan :=
  { c with mismatch := b, mmN := if b then c.mmN + 1 else 0, mmT := if b && c.mmN != 0 then c.mmT else s.time.line }

/-- The barrier link carries: it is up, and neither of its resets holds it (Table LIN-5). -/
def linkCarries (s : State) : Bool := !s.supply.barrierDown && !s.mode.logicReset && !s.mode.fieldReset

/-- The field die freezes the snapshot of cycle k: sensed values are read, MISMATCH is judged, and the entries since the
last sample instant start anew (R104, R263, R274). A field die in reset freezes none, and a snapshot crosses only a barrier
link that carries. -/
def sampleAt (s : State) (k : Nat) (readings : List Word) : State :=
  if s.mode.fieldReset then s
  else
    let s := s.onChans (fun n c => { c with sensed := sensedValue s n c (readings.getD n 0) })
    let s := s.onChans (fun n c => { judgeMismatch s c (differs s n c) with pfNew := 0, pfOvf := false })
    { s with cyc := { s.cyc with frozen := if linkCarries s then some (takeSnapshot s k) else none } }

/-- The frozen snapshot reaches the forwarding engine; a barrier link that does not carry loses it (R104, R22). -/
def snapshotReady (s : State) : State :=
  match s.cyc.frozen with
  | some v => { s with cyc := { s.cyc with snap := if linkCarries s then v else s.cyc.snap, frozen := none } }
  | none => s

/-! ### Line loss (R112, R113) -/

/-- LINE_LOSS with MISS_RUN, and its detail record (Tables REG-11 and HLT-7). -/
def postLineLoss (s : State) : State :=
  let s := post s 0x40 0 (word s.cyc.missRun)
  detail s 0x40 (s.cyc.applied + 2 ^ 32 * (s.cyc.missed % 65536))

/-- MISS_RUN has reached LOSS_LIMIT: in RUN and SAFE a line loss with trigger 0, counted in LOSSES, MOVING held at 1;
in SETUP and MINIMAL the event alone (R112, R114). -/
def lineLoss (s : State) : State :=
  let s := postLineLoss { s with cyc := { s.cyc with limitHit := true } }
  if s.mode.mode == .run || s.mode.mode == .safe then
    let s := { s with cyc := { s.cyc with losses := sat16 s.cyc.losses, lossOpen := true, moving := true } }
    trigger s 0 0x0401
  else s

/-- `n` apply instants in a row find no commit: MISS_RUN grows, OUT_MISS is due, and reaching LOSS_LIMIT is judged once
(R109, R112). MISS_RUN saturates at its 16 bits, log 8. -/
def missRun (s : State) (n : Nat) : State :=
  if n == 0 then s
  else
    let s := { s with cyc := { s.cyc with missRun := satAdd 0xFFFF s.cyc.missRun n, outMiss := true } }
    if !s.cyc.limitHit && cfgF s 3 0x0D 0 8 ≤ s.cyc.missRun then lineLoss s else s

/-! ### Cyclic items at the channels (R258, R271) -/

/-- A cyclic value for an AO-V is driven as 16,000 above 16,000, and counted in RANGE_CLAMP (R258). -/
def clampAo (s : State) (n : Nat) (v : Word) : Word × State :=
  if chMode s n == 10 && 16000 < v.toNat then
    (16000, { s with field := { s.field with rangeClamp := sat16 s.field.rangeClamp } })
  else (v, s)

/-- The cyclic view of channel n takes a value. -/
def writeCyc (s : State) (n : Nat) (v : Word) : State :=
  let (v, s) := clampAo s n v
  s.onChan n (fun c => { c with cyc := v })

/-- CNT_CLR at a counter: an edge whose filter decision fell on this tick counts after the clear (R256). -/
def clearCount (s : State) (c : Chan) : Chan :=
  let onTick := c.moves.filter (fun m => m.1 == s.time.line)
  { c with cnt := BitVec.ofInt 32 (onTick.foldl (fun a m => a + m.2) 0) }

/-- One OUT item and its word at the channels: what it changed, and whether an item that names a channel was ignored
(Table CHN-7, R271). -/
def applyItem (s : State) (item w : Word) : State × Nat :=
  let nn := item.toNat % 256
  let blocked := fun (n : Nat) => (chan s n).forced || isLocal s n
  let dout := fun (p : State × Nat) (n : Nat) =>
    let m := chMode s n
    if !isOutput m || blocked n then
      if bitOf w n then (p.1, p.2 + 1) else p
    else (writeCyc p.1 n (bitValue s n (bitOf w n)), p.2)
  let cnt := fun (p : State × Nat) (n : Nat) =>
    if !bitOf w n then p
    else
      match chMode s n with
      | 3 => (p.1.onChan n (clearCount s), p.2)
      | 4 =>
        let e := n - n % 2
        ((p.1.onChan e (clearCount s)).onChan (e + 1) (clearCount s), p.2)
      | _ => (p.1, p.2 + 1)
  match item.toNat / 256 with
  | 0x10 => chanNos.foldl dout (s, 0)
  | 0x11 => if isPwm s nn && !blocked nn then (writeCyc s nn w, 0) else (s, 1)
  | 0x12 =>
    if chMode s nn == 10 && !blocked nn then (writeCyc s nn (word (w.toNat % 16384)), 0) else (s, 1)
  | 0x13 => chanNos.foldl cnt (s, 0)
  | _ => (s, 0)

/-- DOUT items come before the word items of the same commit (R271). -/
def doutFirst (l : List (Word × Word)) : List (Word × Word) :=
  l.filter (fun p => p.1 == 0x1000) ++ l.filter (fun p => p.1 != 0x1000)

/-- The OUT items of a commit, gated at the channels; ignored items are counted in IGN_CYCLIC (R271). -/
def applyItems (s : State) (l : List (Word × Word)) : State :=
  match l with
  | [] => s
  | (i, w) :: r =>
    let (s, ign) := applyItem s i w
    applyItems { s with field := { s.field with ignCyclic := satAdd 0xFFFF s.field.ignCyclic ign } } r

/-! ### The apply instant (R109, R111, R113, R234) -/

/-- Commits are discarded: a reset of Table LIN-5, MINIMAL, an activation pause (R440), or a role that applies no committed data. -/
def commitsDiscarded (s : State) : Bool :=
  s.mode.logicReset || s.mode.coreReset || s.mode.fieldReset || s.mode.mode == .minimal || s.safe.pause.isSome

/-- A commit of cycle k is applied: APPLIED, MISSED by continuity, MISS_RUN 0, and with data the OUT items, the end of
run_hold, RUN after a boot with BOOT_MODE 1, and the line-regained event (R109, R111, R113, R234, Table MOD-5). -/
def applyCommit (s : State) (c : Commit) : State :=
  let k := c.cycle % 2 ^ 32
  let gap := (k + 2 ^ 32 - s.cyc.applied % 2 ^ 32) % 2 ^ 32
  match c.data with
  | none =>
    { s with cyc := { s.cyc with applied := k, missRun := 0, limitHit := false, outMiss := false } }
  | some items =>
    let s := { s with cyc := { s.cyc with applied := k, missRun := 0, limitHit := false, outMiss := false,
                                           missed := satAdd 0xFFFFFFFF s.cyc.missed (gap - 1) } }
    let s := if s.upd.phase == .confirm then { s with upd := { s.upd with good := s.upd.good + 1 } } else s
    let s := if s.mode.runAtApply && s.mode.mode == .setup then enterRun s else s
    let s := refresh (endRunHold (applyItems s (doutFirst items)))
    if s.cyc.lossOpen then
      let s := { s with cyc := { s.cyc with lossOpen := false } }
      post (releaseTrigger s 0) 0x41 0 (word s.cyc.applied)
    else s

/-- The apply instant of cycle k (R109): the commit held for k is applied, or the instant counts as missed; commits
older than k are freed. Cycles at or below APPLIED after a change of the schedule do nothing (R115). Only the NODE role
applies committed data (R234). -/
def applyAt (s : State) (k : Nat) : State :=
  if s.mode.role != .node || (k ≤ s.cyc.applied && s.cyc.applied != 0) then s
  else
    let mine := if commitsDiscarded s then none else s.cyc.commits.find? (fun c => c.cycle == k)
    let s := { s with cyc := { s.cyc with commits := s.cyc.commits.filter (fun c => decide (k < c.cycle)) } }
    match mine with
    | some c => applyCommit s c
    | none => missRun s 1

/-- The cycle whose instant at an offset is the first from line time on. -/
def nextFrom (s : State) (ofs : Nat) : Nat :=
  if ofs ≤ s.time.line then (s.time.line - ofs + periodNs s - 1) / periodNs s else 0

/-- The schedule changes or line time starts anew: both commit buffers go, APPLIED is the present cycle, MISS_RUN 0, and
the next instants are those from now on: one on the tick of a swap still fires, after it (R115, R222). -/
def cycleRestart (s : State) : State :=
  let k := cycleNow s
  { s with cyc := { s.cyc with commits := [], applied := k % 2 ^ 32, missRun := 0, limitHit := false, outMiss := false,
                                nextSample := nextFrom s (sampleOfs s),
                                nextApply := Nat.max (nextFrom s (applyOfs s)) (k + 1) } }

/-! ### The instants (R104, R109, R38) -/

/-- The apply instant of the next cycle fires (R109). -/
def fireApply (s : State) : State :=
  let k := s.cyc.nextApply
  applyAt { s with cyc := { s.cyc with nextApply := k + 1 } } k

/-- The sample instant of the next cycle fires with the readings of the outputs (R104); it triggers the injected sequence
when INJ_SRC is 3 (R317). -/
def fireSample (s : State) (readings : List Word) : State :=
  let k := s.cyc.nextSample
  let s := sampleAt { s with cyc := { s.cyc with nextSample := k + 1 } } k readings
  if cfgF s 7 4 4 2 == 3 && !s.mode.fieldReset then injTrigger s else s

/-- The next apply instant, ns. -/
def applyDue (s : State) : Nat := s.cyc.nextApply * periodNs s + applyOfs s

/-- The next sample instant, ns. -/
def sampleDue (s : State) : Nat := s.cyc.nextSample * periodNs s + sampleOfs s

end Sys2Proof.Machine
end

