-- ==== Sys2Proof/Machine/Link.lean ====
section
/-! DEFINITION. Link: the line ports and the forwarding engine (chapter 03) as operations that the frame families share:
port states, forwarding modes, loops and notices, bypass, counters, the egress; and the clock reference that hangs on
the ports (R31, R54, R55). -/

namespace Sys2Proof.Machine

open Sys2Proof

/-! ### Ports -/

/-- A port. -/
def lport (s : State) (p : Port) : LinkPort :=
  match p with
  | .a => s.link.a
  | .b => s.link.b

/-- The state with a port replaced. -/
def State.setPort (s : State) (p : Port) (l : LinkPort) : State :=
  match p with
  | .a => { s with link := { s.link with a := l } }
  | .b => { s with link := { s.link with b := l } }

/-- The state with a function applied to a port. -/
def State.onPort (s : State) (p : Port) (f : LinkPort → LinkPort) : State := s.setPort p (f (lport s p))

/-- The other port. -/
def otherPort (p : Port) : Port :=
  match p with
  | .a => .b
  | .b => .a

/-- The port's number in events: 0 A, 1 B. -/
def portNo (p : Port) : Nat :=
  match p with
  | .a => 0
  | .b => 1

/-- A port is UP. -/
def isUp (s : State) (p : Port) : Bool := (lport s p).st == .up

/-- The code of a port state (Table LNK-13). -/
def portCode (p : PortState) : Nat :=
  match p with
  | .off => 0 | .nosig => 1 | .train => 2 | .align => 3 | .up => 4

/-- The code of a forwarding mode (Table LNK-13). -/
def fwdCode (m : FwdMode) : Nat :=
  match m with
  | .through => 0 | .loopB => 1 | .loopA => 2 | .isolated => 3 | .repeater => 4 | .source => 5 | .end_ => 6

/-- LINK_STAT (Table LNK-13). -/
def linkStatWord (s : State) : Word :=
  pack [(portCode s.link.a.st, 0), (portCode s.link.b.st, 3), (fwdCode s.link.mode, 6), (b2n s.link.a.pol, 9),
    (b2n s.link.b.pol, 10), (b2n s.link.a.cross, 11), (b2n s.link.b.cross, 12), (b2n s.link.backwards, 13),
    (b2n s.link.eqBound, 14), (b2n s.link.bypass, 15)]

/-- LINK_CTRL as read (Table LNK-14). -/
def linkCtrlWord (s : State) : Word :=
  pack [(b2n s.link.loopForce, 3), (b2n s.link.cntFreeze, 7), (b2n s.link.loopRelRef, 8)]

/-- LOOP_HOLD, ns, from the engine's copy (R20). -/
def loopHold (s : State) : Nat := s.link.params.holdMs * 1000000

/-- LOOP_REL_MODE is manual, in the engine's copy (R20). -/
def loopManual (s : State) : Bool := s.link.params.relManual

/-- The node holds a loop. -/
def loopHeld (s : State) : Bool := s.link.a.loop || s.link.b.loop

/-! ### Position (R14, R152, Table LNK-9) -/

/-- The position that the device writes into frames: 0 the starter, 0xFFE the anchor, 0xFFF a node without one or in
REPEATER, and BENCH. -/
def devPos (s : State) : Nat :=
  match s.mode.role with
  | .starter => 0
  | .anchor => 0xFFE
  | .bench => 0xFFF
  | .node => if s.link.backwards then 0xFFF else s.link.pos.getD 0xFFF

/-- NODEPOS (Table REG-4). -/
def nodeposWord (s : State) : Word :=
  pack [(devPos s, 0), (b2n (s.link.posPending && s.mode.role == .node && !s.link.backwards), 12),
    (b2n s.link.disagree, 13)]

/-- The slot geometry of the active set (R20). -/
def setGeo (s : State) : SlotGeo :=
  { heat := cfgF s 3 0 0 4, outOfs := cfgF s 3 1 0 14, outLen := cfgF s 3 2 0 7, inOfs := cfgF s 3 3 0 14
    inLen := cfgF s 3 4 0 7 }

/-- The port parameters of the active set (R20, Table LNK-12). -/
def setParams (s : State) : PortParams :=
  { enA := cfgB s 2 0 0, enB := cfgB s 2 0 1, lenA := cfgF s 2 1 0 3, lenB := cfgF s 2 1 3 3, swingA := cfgF s 2 2 0 2
    deemphA := cfgF s 2 2 2 2, swingB := cfgF s 2 2 4 2, deemphB := cfgF s 2 2 6 2, relManual := cfgB s 2 4 0
    holdMs := cfgF s 2 4 8 8 }

/-- The forwarding engine loads its copy of the slot geometry and the port parameters from the active set (R20). -/
def loadGeo (s : State) : State := { s with link := { s.link with geo := some (setGeo s), params := setParams s } }

/-! ### Counters (R95) -/

/-- Runs a change of status counters unless CNT_FREEZE is 1 (R95). -/
def counting (s : State) (f : State → State) : State := if s.link.cntFreeze then s else f s

/-- Line-port errors of the running interval grow (21 Table HLT-2, reason 3). -/
def lnkErrors (s : State) (p : Port) (n : Nat) : State :=
  match p with
  | .a => { s with health := { s.health with lnkCountA := satAdd 0xFFFF s.health.lnkCountA n } }
  | .b => { s with health := { s.health with lnkCountB := satAdd 0xFFFF s.health.lnkCountB n } }

/-! ### Forwarding modes (R71) -/

/-- The forwarding mode that role, ports and loops give; within a confirm interval it keeps the mode it had (R71,
R80). Two loops held with both ports UP show LOOP_B, and a loop is held on while its remaining port is not UP: DESIGN
CHOICE, log 88. -/
def fwdModeOf (s : State) : FwdMode :=
  match s.mode.role with
  | .starter => .source
  | .anchor => .end_
  | .bench => .isolated
  | .node =>
    if s.link.backwards then .repeater
    else if s.link.b.loop && isUp s .a then .loopB
    else if s.link.a.loop && isUp s .b then .loopA
    else if isUp s .a && isUp s .b then .through
    else if isUp s .a || isUp s .b then s.link.mode
    else .isolated

/-- FWD_MODE follows its conditions (R71); a switch is remembered with its instant (R81, R86). -/
def refreshMode (s : State) : State :=
  if fwdModeOf s = s.link.mode then s
  else { s with link := { s.link with mode := fwdModeOf s, prevMode := s.link.mode, switchT := s.time.line } }

/-- The forwarding mode for a frame whose SOF arrived at `tin`, in 1/64 ns: one that was in progress at a switch keeps the
path that it had (R81, R86). -/
def modeFor (s : State) (tin : Nat) : FwdMode := if tin < s.link.switchT * 64 then s.link.prevMode else s.link.mode

/-! ### Own frames and notices (R82, R562) -/

/-- An own frame waits for an egress (R562). -/
def ownFrame (s : State) (p : Port) (body : List Byte) : State :=
  s.onPort p (fun l => { l with own := l.own ++ [body] })

/-- `n` gaps pass on an egress: a notice set that waits leaves in each (R82). -/
def LinkPort.gaps (l : LinkPort) (n : Nat) : LinkPort :=
  { l with noticeQ := l.noticeQ.drop n, notice := ((l.noticeQ.take n).getLast?).getD l.notice }

/-- The notice set that a device which holds the loop for port p repeats on p once it is UP, in place of every second IDLE
ordered set (03, Loop release); none when it repeats none. -/
def heldNotice (s : State) (p : Port) : Option (List Byte) :=
  if (lport s p).loop && isUp s p then some (noticeSet (devPos s) (p == .b) true) else none

/-- Eight notice sets in consecutive gaps, the first in the present one, and then a notice frame leave the remaining port when
the loop for port p is engaged or released (R82, R86). A remaining port that is not UP, as at a LOOP_FORCE, sends none:
DESIGN CHOICE, log 88. -/
def sendNotices (s : State) (p : Port) (engaged : Bool) (cause : Nat) : State :=
  let out := otherPort p
  if !isUp s out then s
  else
    let pos := devPos s
    let set := noticeSet pos (p == Port.b) engaged
    let s := s.onPort out (fun l => LinkPort.gaps { l with noticeQ := l.noticeQ ++ List.replicate 8 set } 1)
    ownFrame s out (noticeBody pos (if engaged then 0 else 1) (p == .b) (if engaged then cause else 3) s.time.line)

/-! ### Loops (R80, R84 to R86) -/

/-- The loop for port p engages: counted, reported and noticed (R80 to R82). -/
def engageLoop (s : State) (p : Port) (cause : Nat) : State :=
  let s := s.onPort p (fun l => { l with loop := true, relPending := false })
  let s := counting s (fun s => s.onPort p (fun l => { l with loops := sat16 l.loops }))
  let s := refreshMode s
  sendNotices (post s 0x45 1 (linkStatWord s)) p true cause

/-- The cause of a loop at its engagement (R80). -/
def loopCause (l : LinkPort) : Nat :=
  if l.retrained then 2
  else
    match l.st with
    | .train => 1
    | .align => 1
    | _ => 0

/-- The loop for port p releases (R86). -/
def releaseLoop (s : State) (p : Port) : State :=
  let s := refreshMode (s.onPort p (fun l => { l with loop := false, relPending := false }))
  sendNotices (post s 0x45 0 (linkStatWord s)) p false 3

/-- A waiting LOOP_REL lapses with LOOP_REL_REF (R84, R85). -/
def lapseRel (s : State) (p : Port) : State :=
  if (lport s p).relPending then
    let s := s.onPort p (fun l => { l with relPending := false })
    { s with link := { s.link with loopRelRef := true } }
  else s

/-! ### The clock reference (R31, R54, R55, Table TIM-9) -/

/-- The port whose recovered clock is the PLL reference of a NODE or ANCHOR (R31, R58). -/
def refPort (s : State) : Port := if s.time.refB then .b else .a

/-- The device takes its reference from the line: NODE, and the anchor outside a takeover (R31, R56). -/
def lineRef (s : State) : Bool :=
  s.mode.role == .node || (s.mode.role == .anchor && !s.sta.anchor.takeover)

/-- TSTATE becomes HOLD, but UNSYNC stays (after Table TIM-8). -/
def holdTime (t : TimeState) : TimeState :=
  { t with tstate := if t.tstate == .unsync then .unsync else .hold }

/-- The reference is lost: HOLDOVER, or FREE with no ratio; TSTATE HOLD; LOCK_LOST when the PLL was LOCKED (Table
TIM-9, R55). -/
def refLost (s : State) : State :=
  withTimeOk s (fun s =>
    let was := s.time.pll == .locked
    let t := holdTime { s.time with
      pll := if !s.mode.crystal then s.time.pll else if s.time.hasRatio then .holdover else .free }
    let s := { s with time := { t with lockLost := t.lockLost || was } }
    if was then post s 0xB2 0 (syncStatWord s) else s)

/-- The servo's mean restarts with no samples (R48). -/
def meanRestart (t : TimeState) : TimeState := { slewStop t with offsets := [], restarting := true }

/-- Regeneration mode is wanted: a NODE bound at a whole multiple of 64 (R34); a pending binding is none here (R152). -/
def wantRegen (s : State) : Bool :=
  s.mode.role == .node && !s.link.posPending && (match s.link.pos with
    | some p => p % 64 == 0 && !s.link.backwards
    | none => false)

/-- The reference is valid again: ACQUIRE, and the mean restarts (Table TIM-9, R48). -/
def refValid (s : State) : State :=
  if s.time.pll == .free || s.time.pll == .holdover then
    { s with time := { meanRestart s.time with pll := .acquire } }
  else s

/-- The PLL reacquires another reference or in another mode: LOCK_LOST when it was LOCKED, and the mean restarts (R54, R58). -/
def reacquire (s : State) : State :=
  withTimeOk s (fun s =>
    let was := s.time.pll == .locked
    let t := holdTime (meanRestart s.time)
    let s := { s with time := { t with pll := .acquire, lockLost := t.lockLost || was } }
    if was then post s 0xB2 0 (syncStatWord s) else s)

/-! ### Port states (R69, Table LNK-6) -/

/-- The length class of a port in the engine's copy (R20). -/
def lenClass (s : State) (p : Port) : Nat :=
  match p with
  | .a => s.link.params.lenA
  | .b => s.link.params.lenB

/-- The CTLE boost of a length class, dB (Table LNK-3). -/
def ctleBoost (cls : Nat) : Nat :=
  match cls with
  | 0 => 2 | 1 => 5 | 2 => 8 | 3 => 11 | _ => 14

/-- At an entry into TRAIN the port takes its length class with the CTLE boost, its swing and its de-emphasis (R62, R93). -/
def latchTrain (s : State) (p : Port) : State :=
  let v := s.link.params
  let cls := lenClass s p
  s.onPort p (fun l =>
    { l with lenClass := cls, boost := ctleBoost cls
             swing := if p == .a then v.swingA else v.swingB, deemph := if p == .a then v.deemphA else v.deemphB })

/-- A port enters a state; `forced` says that a RETRAIN did it (R69, R70, R84, R85, R90, R91). PORT_STATE is posted at
each entry into UP and each exit from it. -/
def setPortState (s : State) (p : Port) (new : PortState) (forced : Bool) : State :=
  let old := (lport s p).st
  if old == new then s
  else
    let s := if old == .up then
        lapseRel (counting s (fun s => lnkErrors (s.onPort p (fun l => { l with down := sat16 l.down })) p 100)) p
      else s
    let s := s.onPort p (fun l => { l with
      st := new
      retrained := if old == .up then forced else if new == .up then false else l.retrained
      cross := if old == .nosig then false else l.cross
      pol := if new == .train then false else l.pol
      upT := if new == .up then s.time.line else l.upT
      syncSeen := if new == .up then false else l.syncSeen
      sync00Seen := if new == .up then false else l.sync00Seen
      countSeen := if new == .up then false else l.countSeen
      skip := if old == .up then false else l.skip })
    let s := refreshMode (if new == .train then latchTrain s p else s)
    if new == .up || old == .up then post s 0x42 (portNo p) (linkStatWord s) else s

/-- The role and the engine's copy of the LINK table let a port be enabled (R15, R20, R93, R167). -/
def portAllowed (s : State) (p : Port) : Bool :=
  match s.mode.role, p with
  | .bench, _ => false
  | .starter, .a => false
  | .anchor, .b => false
  | _, .a => s.link.params.enA
  | _, .b => s.link.params.enB

/-- The enables of the LINK table and the role take effect (R69, R87): OFF ports that are enabled go to NOSIG, and
disabled ones go OFF. -/
def applyEnables (s : State) : State :=
  let one := fun (s : State) (p : Port) =>
    if portAllowed s p then (if (lport s p).st == .off then setPortState s p .nosig false else s)
    else setPortState s p .off false
  one (one s .a) .b

/-- A LINE_START that waited for port B settles from now on (Table STA-9). -/
def settleBegin (s : State) : State :=
  match s.sta.waiting, s.sta.plan with
  | some _, some v =>
    { s with sta := { s.sta with waiting := none, stage := .settle, settleT := s.time.line + v.settle * 1000000 } }
  | _, _ => s

/-! ### Bypass (R87, R88) -/

/-- BYPASS_N is released: a NODE owes a bypass-inserted notice out of each port (R87, R88). -/
def bypassRelease (s : State) : State :=
  let node := s.mode.role == .node
  let s := { s with link := { s.link with bypass := false, bypassDue := false, bypassRipe := false } }
  (s.onPort .a (fun l => { l with bypassDue := node })).onPort .b (fun l => { l with bypassDue := node })

/-- BYPASS_N is asserted; only BYPASS_INSERT or a power-on reset lets it be released again (R87). -/
def bypassAssert (s : State) : State :=
  let s := { s with link := { s.link with bypass := true, bypassDue := false, bypassRipe := false } }
  (s.onPort .a (fun l => { l with bypassDue := false })).onPort .b (fun l => { l with bypassDue := false })

/-- BYPASS_MODE (class N). -/
def bypassMode (s : State) : Nat := setField s.cfg.boot 2 3 0 2

/-- A release under BYPASS_MODE 1 whose delay has run is made once the ports are enabled and PWRFAIL_N is high (R87). -/
def bypassCheck (s : State) : State :=
  if s.link.bypassDue && s.link.bypassRipe && s.link.enabled && !s.mode.logicReset && !s.mode.pwrfail then
    bypassRelease s
  else s

/-! ### The egress (R75) -/

/-- A whole frame as the engine sends it: with the CRC-32 that it computes over the body (R74). -/
def wholeFrame (body : List Byte) (origin : Option Nat) : SentFrame := { body, origin, crc := some (crc32 body) }

/-- Frames leave a port that is UP, in order; a gap follows each (R82). -/
def emitAll (s : State) (p : Port) (l : List SentFrame) : State :=
  if isUp s p then s.onPort p (fun q => { q with sent := l }.gaps l.length) else s

/-- A frame leaves a port that is UP. -/
def emit (s : State) (p : Port) (body : List Byte) (origin : Option Nat) : State := emitAll s p [wholeFrame body origin]

/-- A frame leaves a port that is UP behind those that the same command has sent. -/
def emitMore (s : State) (p : Port) (body : List Byte) : State :=
  if isUp s p then s.onPort p (fun q => { q with sent := q.sent ++ [wholeFrame body none] }.gaps 1) else s

/-- EOF-poison origin of this device (Table LNK-9): position, pass and cause. -/
def poisonOrigin (s : State) (p : Port) (cause : Nat) : Nat :=
  devPos s % 4096 + 4096 * b2n (p == .b) + 8192 * cause

/-- Where a frame that began at port p at `tin` goes (Table LNK-7, R81, R86): none when it is discarded, and inside it the
egress, none when the device is its end. -/
def route (s : State) (p : Port) (tin : Nat) : Option (Option Port) :=
  match modeFor s tin, p with
  | .through, .a => some (some .b)
  | .through, .b => some (some .a)
  | .loopB, .a => some (some .a)
  | .loopA, .b => some (some .b)
  | .repeater, .a => some (some .b)
  | .repeater, .b => some (some .a)
  | .source, .b => some none
  | .end_, .a => some (some .a)
  | _, _ => none

/-- A frame is processed by this device at port p, and not only repeated (R16, R71, R110, R165). -/
def processes (s : State) (p : Port) (f : LineFrame) : Bool :=
  let anchorFrame := frameOrigin f.body
  match modeFor s f.tin, p with
  | .through, .a => !(anchorFrame && s.time.refB)
  | .loopB, .a => !(anchorFrame && s.time.refB)
  | .through, .b => anchorFrame && s.time.refB
  | .loopA, .b => anchorFrame && s.time.refB
  | .end_, .a => true
  | .source, .b => true
  | _, _ => false

/-- The link counters of a frame at its input (Table LNK-12): SYMERR counts the errors of the gap before it too (R96). A
discarded frame is poisoned by nobody, and one of reserved TYPE does not count in RSVD_TYPE: DESIGN CHOICE, log 58. -/
def countFrame (s : State) (p : Port) (f : LineFrame) (discarded : Bool) : State :=
  counting s (fun s =>
    let s := s.onPort p (fun l =>
      let l := { l with symErr := satAdd 0xFFFFFFFF l.symErr (invalidSymbols f + f.gapBad) }
      match verdict f with
      | .good => { l with frames := wrap32 l.frames 1 }
      | .poisonIn _ => { l with poisonIn := satAdd 0xFFFFFFFF l.poisonIn 1 }
      | .fault _ => if discarded then l else { l with poisoned := satAdd 0xFFFFFFFF l.poisoned 1 })
    let bad := match verdict f with
      | .fault _ => !discarded
      | _ => false
    let s := lnkErrors s p (invalidSymbols f + f.gapBad + b2n bad)
    let s := if discarded then { s with link := { s.link with discard := sat16 s.link.discard } } else s
    if verdict f = .good && rsvdType (frameType f.body) && !discarded then
      { s with link := { s.link with rsvdType := sat16 s.link.rsvdType } }
    else s)

end Sys2Proof.Machine
end

