-- ==== Sys2Proof/Machine/Access.lean ====
section
/-! DEFINITION. Access: what every access of a path to a live register shares: whether the path is served, its key
(R186, R187), and the reports of a forbidden write (R192). A register operation answers the state and the status of
the entry as the line path sees it (Table ACY-5): 0 when it ran. -/

namespace Sys2Proof.Machine

open Sys2Proof

/-- An access: its path, and the mode that applies to it (R137, R192). -/
structure Acc where
  path : Path
  mode : Mode
deriving DecidableEq, Repr

/-- The access of a path now. -/
def accNow (s : State) (p : Path) : Acc := { path := p, mode := s.mode.mode }

/-- The path is served: the host bus once RSTOUT_N is released (R188) and no window read of its own waits, given up or not, so that
a later access comes to its turn behind it (R172, R189; log 100), the slave port
while it is enabled (R364), the line path outside a logic reset (Table LIN-5). -/
def pathOpen (s : State) (p : Path) : Bool :=
  match p with
  | .host => !s.mode.rstout && !s.mode.porst && s.ser.hostRead.isNone
  | .slave => s.ser.spEn && !s.mode.rstout && !s.mode.logicReset && !s.mode.porst
  | .line => !s.mode.logicReset && !s.mode.porst

/-- What a register operation answers: the state, and the entry's status. -/
abbrev Done := State × Nat

/-- The key of a path. -/
def keyOf (s : State) (p : Path) : PathKey :=
  match p with
  | .host => s.bus.keyHost
  | .slave => s.bus.keySlave
  | .line => s.bus.keyLine

/-- The state with the key of a path replaced. -/
def State.setKey (s : State) (p : Path) (k : PathKey) : State :=
  match p with
  | .host => { s with bus := { s.bus with keyHost := k } }
  | .slave => { s with bus := { s.bus with keySlave := k } }
  | .line => { s with bus := { s.bus with keyLine := k } }

/-- A write of a path to KEYSEQ at a line time (R186). -/
def keyWrite (k : PathKey) (w : Word) (now : Nat) : PathKey :=
  if w == 0x5A3C then { k with st := .half }
  else if w == 0xC3A5 && k.st == .half then { k with st := .opened, openT := now }
  else { k with st := .idle, fails := (k.fails + 1) % 16 }

/-- A write of a path to any other register (R186): HALF and OPEN return to IDLE, and HALF counts a failure. -/
def keySpend (k : PathKey) : PathKey :=
  match k.st with
  | .idle => k
  | .half => { k with st := .idle, fails := (k.fails + 1) % 16 }
  | .opened => { k with st := .idle }

/-- The path's key is open. -/
def keyOpen (s : State) (p : Path) : Bool := (keyOf s p).st == .opened

/-- The CHIN capture of a path ends (R198). -/
def endCapture (s : State) (p : Path) : State :=
  match p with
  | .host => { s with bus := { s.bus with chinHost := {} } }
  | .slave => { s with bus := { s.bus with chinSlave := {} } }
  | .line => s

/-- The effects of a write on its path's own state, whatever register it names but KEYSEQ (R186, R198). -/
def beginWrite (s : State) (p : Path) : State := endCapture (s.setKey p (keySpend (keyOf s p))) p

/-- A forbidden write (R192): WRITE_DENIED on the host bus and the slave port, DENIED_MODE on the line path. -/
def denyWrite (s : State) (p : Path) (addr cause : Nat) : Done :=
  match p with
  | .line => (s, 0x05)
  | _ => (post s 0x92 (pathCode p + 4 * cause) (word addr), 0x05)

/-- A write to an RWK field without the key (R187): KEY_VIOLATION, or DENIED_KEY on the line path. -/
def keyViolation (s : State) (p : Path) (addr : Nat) : Done :=
  match p with
  | .line => (s, 0x06)
  | _ => (post s 0x91 (pathCode p) (word addr), 0x06)

/-- A write of a path to a register: the path's own state first, then the refusals of a register that is not served in
MINIMAL (`min` false) and of a write that needs the controller core (`core`), which wakes it in REST (R192, R194, R195). -/
def regWrite (s : State) (v : Acc) (addr : Nat) (min core : Bool) (f : State → Done) : Done :=
  let s := beginWrite s v.path
  if v.mode == .minimal && !min then denyWrite s v.path addr 2
  else if core && s.mode.coreReset then denyWrite s v.path addr 3
  else f (if core then wake s 0x04 else s)

/-! ### Accesses of a path (R174, R188) -/

/-- A held half write is committed to the aperture (R174). -/
def commitHalf (s : State) : State :=
  match s.bus.heldWrite with
  | some (a, w) => let s := s.store a (leBytes 2 w.toNat)
    { s with bus := { s.bus with heldWrite := none } }
  | none => s

/-- An access of a path begins: a host access commits a held half write and ends a captured half read (R174). -/
def hostAccess (s : State) (p : Path) : State :=
  match p with
  | .host =>
    let s := commitHalf s
    { s with bus := { s.bus with heldRead := none } }
  | _ => s

/-- A register operation of a command: it acts where the path is served. -/
def served (s : State) (p : Path) (f : State → Acc → Done) : State :=
  if pathOpen s p then (f (hostAccess s p) (accNow s p)).1 else s

/-- A register read of a command: it acts where the path is served, ends the path's CHIN capture (R198), and the host bus
drives the word on HD. -/
def servedRead (s : State) (p : Path) (f : State → Acc → State × Word) : State :=
  if pathOpen s p then
    let (s', w) := f (endCapture (hostAccess s p) p) (accNow s p)
    match p with
    | .host => { s' with bus := { s'.bus with hd := w } }
    | _ => s'
  else s

end Sys2Proof.Machine
end

