-- ==== Sys2Proof/Machine/CmdQ.lean ====
section
/-! DEFINITION. CmdQ: the command queues and completion queues of the host bus and the slave port (R179 to R183), as
operations that the command families share. -/

namespace Sys2Proof.Machine

open Sys2Proof

/-- Outcomes (Table HBU-10). -/
def outOk : Nat := 0
/-- REFUSED. -/
def outRefused : Nat := 1
/-- LOST. -/
def outLost : Nat := 2
/-- UNREACHABLE. -/
def outUnreachable : Nat := 3
/-- CANCELLED. -/
def outCancelled : Nat := 4
/-- SENT. -/
def outSent : Nat := 5
/-- ERROR. -/
def outError : Nat := 6
/-- DUP_TAG. -/
def outDupTag : Nat := 7

/-- The queue of a path; the line path has none (R179). -/
def cmdPath (s : State) (p : Path) : CmdPath :=
  match p with
  | .slave => s.bus.cmdSlave
  | _ => s.bus.cmdHost

/-- The state with the queue of a path replaced. -/
def State.setCmd (s : State) (p : Path) (c : CmdPath) : State :=
  match p with
  | .slave => { s with bus := { s.bus with cmdSlave := c } }
  | _ => { s with bus := { s.bus with cmdHost := c } }

/-- Depth of a path's completion queue (Table HBU-1). -/
def cplDepth (p : Path) : Nat :=
  match p with
  | .slave => 32
  | _ => 2560

/-- A completion entry (Table HBU-8). -/
def cplEntry (p : Path) (d : Descriptor) (outcome result : Nat) : List Word :=
  [word (d.code + 256 * outcome), word (d.word1 % 2048 + 32768 * b2n (p == .slave)), word result,
    word (result / 65536)]

/-- An entry is pushed, and its INTA_STAT bit is set (R183). -/
def pushCpl (s : State) (p : Path) (d : Descriptor) (outcome result : Nat) : State :=
  let c := cmdPath s p
  let s := s.setCmd p { c with cplq := c.cplq ++ [cplEntry p d outcome result] }
  { s with evq := { s.evq with intaStat := setBit s.evq.intaStat (if p == .slave then 1 else 0) true } }

/-- The first NOPs of the outstanding commands complete, because nothing older is outstanding (R182). -/
def drainNops (s : State) (p : Path) (l : List Descriptor) : State :=
  match l with
  | [] => s.setCmd p { cmdPath s p with outst := [] }
  | d :: r => if d.code == 1 then drainNops (pushCpl s p d 0 0) p r else s.setCmd p { cmdPath s p with outst := d :: r }

/-- Removes the first descriptor equal to d. -/
def dropDesc (l : List Descriptor) (d : Descriptor) : List Descriptor :=
  match l with
  | [] => []
  | x :: r => if x = d then r else x :: dropDesc r d

/-- An outstanding command completes (R183); a command that a reset discarded completes nothing (R188). -/
def complete (s : State) (p : Path) (d : Descriptor) (outcome result : Nat) : State :=
  let l := (cmdPath s p).outst
  if l.any (fun x => x = d) then drainNops (pushCpl s p d outcome result) p (dropDesc l d) else s

/-- A command is outstanding. -/
def outstand (s : State) (p : Path) (d : Descriptor) : State :=
  let c := cmdPath s p
  s.setCmd p { c with outst := c.outst ++ [d] }

/-- The codes of Table HBU-9. -/
def codeOk (c : Nat) : Bool := (1 ≤ c && c ≤ 8) || (0x10 ≤ c && c ≤ 0x12)

/-- A buffer lies in the aperture (R180). -/
def bufOk (ofs len : Nat) : Bool := decide (ofs + len ≤ 0x80000)

/-- TAG, reserved fields and buffers are as Table HBU-9 asks (R180). -/
def descOk (d : Descriptor) : Bool :=
  let tagMax := if d.code == 5 then 2047 else 255
  decide (d.word1 ≤ tagMax) && bufOk d.off0 d.len0 && bufOk d.off1 d.len1 &&
  (match d.code with
   | 0x01 => d.sub == 0 && d.arg0 == 0 && d.arg1 == 0 && d.len0 == 0 && d.len1 == 0
   | 0x02 => decide (d.sub ≤ 1) && d.arg0 == 0 && d.arg1 == 0 && d.len0 == 0 && d.len1 == 0
   | 0x03 => d.sub == 0 && d.arg0 == 0 && d.arg1 == 0 && d.len0 == 0 && d.len1 == 0
   | 0x04 => decide (d.sub ≤ 1) && d.arg0 == 0 && d.arg1 == 0 && d.len0 == 0 && (d.len1 == 0 || d.len1 == 136)
   | 0x05 => decide (d.arg0 < 8192) && decide (d.len0 ≤ 256) && d.len1 == 304
   | 0x06 => decide (d.sub ≤ 1) && d.arg0 == 0 && d.arg1 == 0 && d.len0 == 8 && d.len1 == 6
   | 0x07 => decide (1 ≤ d.arg1 && d.arg1 ≤ 256) && d.len0 == 0 && (d.len1 == 0 || d.len1 == 32)
   | 0x08 => d.sub == 0 && d.arg0 == 0 && d.arg1 == 0 && d.len0 == 0 && d.len1 == 0
   | 0x10 => (d.len0 == 0 || d.len0 == 8) && (d.len1 == 0 || d.len1 == 8)
   | 0x11 => decide (d.arg0 < 256) && decide (d.arg1 < 16) && decide (d.arg1 ≤ d.len0)
   | _ => d.sub == 0 && decide (d.arg1 < 64) && d.len0 == 0 && decide (1 ≤ d.len1))

/-- A TAG is in flight in the same path and tag space (R180). -/
def tagInFlight (s : State) (p : Path) (d : Descriptor) : Bool :=
  (cmdPath s p).outst.any (fun x => (x.code == 5) == (d.code == 5) && x.word1 == d.word1)

/-- A path's own limit is reached for this command (R181). -/
def limitReached (s : State) (p : Path) (d : Descriptor) : Bool :=
  let c := cmdPath s p
  match p with
  | .slave => decide (16 ≤ c.outst.length)
  | _ => d.code != 5 && decide (256 ≤ (c.outst.filter (fun x => x.code != 5)).length)

/-- A path's completion queue is full: every outstanding command takes an entry of it (R181, Table HBU-1); DEDUCED, log 101. -/
def cplFull (s : State) (p : Path) : Bool :=
  decide (cplDepth p ≤ (cmdPath s p).cplq.length + (cmdPath s p).outst.length)

/-- The posting of a descriptor (R180, R181): dropped with DROP when the completion queue is full, completed at once
when a check fails, else outstanding and given to `run`. -/
def postDesc (s : State) (p : Path) (d : Descriptor) (run : State → State) : State :=
  let c := cmdPath s p
  if cplFull s p then s.setCmd p { c with drop := true }
  else if !codeOk d.code then pushCpl s p d outRefused 0x0920
  else if s.mode.mode == .minimal && d.code != 1 then pushCpl s p d outRefused 0x0921
  else if !descOk d then pushCpl s p d outRefused 0x0922
  else if tagInFlight s p d then pushCpl s p d outDupTag 0
  else if limitReached s p d then pushCpl s p d outRefused 0x0923
  else run (outstand s p d)

/-- The posting of a descriptor of a given code from a path that has a queue and is served: the writes of its words
(R179, R186, R188). -/
def postFrom (s : State) (via : Path) (d : Descriptor) (code : Nat) (run : Descriptor → State → State) : Result :=
  if pathOpen s via && via != .line then
    .next (postDesc (beginWrite (hostAccess s via) via) via { d with code } (run { d with code }))
  else .next s

/-- NOP: the posting of a NOP, which completes when every earlier command of its path has completed (R182). -/
def execNop (via : Path) (d : Descriptor) (s : State) : Result :=
  postFrom s via d 1 (fun _ s => drainNops s via (cmdPath s via).outst)

end Sys2Proof.Machine
end

