-- ==== Sys2Proof/Machine/Seal.lean ====
section
/-! DEFINITION. Seal: sealing and opening of messages, epochs and counters, replay windows, and the queue of the crypto
engine (R447 to R463, R467, R468), as operations that the transaction families share. -/

namespace Sys2Proof.Machine

open Sys2Proof

/-! ### LOCK_STAT and the conditions of sealed traffic (R459, R472) -/

/-- Sealed traffic is stopped (R459). -/
def sealedStopped (s : State) : Bool :=
  s.sec.owk.isNone || s.sec.owkFresh || s.sec.epoch == 0xFFFFF || s.sec.keysBad

/-- Sealed records are refused with SEALED_OFF: stopped, or suspended while PWRFAIL_N is asserted (R459). -/
def sealedOff (s : State) : Bool := sealedStopped s || s.mode.pwrfail

/-- The owner lock is engaged (R451, R472). -/
def lockEngaged (s : State) : Bool := s.sec.locked || s.sec.keysBad

/-- LOCK_STAT (Table REG-17, R472). -/
def lockStatWord (s : State) : Word :=
  pack [(b2n (lockEngaged s), 0), (b2n s.sec.owk.isSome, 1), (b2n (sealedStopped s), 2),
    (b2n s.inj.sealedEnable.isSome, 3), (b2n (0xF0000 ≤ s.sec.epoch), 4)]

/-! ### Epochs (R456, R458, R459) -/

/-- Health reason 5 follows the epoch (Table HLT-2). -/
def epochHealth (s : State) : State :=
  let s := warnFollow s 5 (0xF0000 ≤ s.sec.epoch)
  if cfgF s 0xE 9 0 20 ≤ s.sec.epoch || s.sec.epoch == 0xFFFFF then replaceRaise s 5 false else s

/-- The epoch is raised: the counter starts at 0, EPOCH_NEW is posted, and at 0xFFFFF sealed traffic stops (R456,
R459). -/
def raiseEpoch (s : State) : State :=
  if s.sec.epoch == 0xFFFFF then s
  else
    let e := s.sec.epoch + 1
    let s := { s with sec := { s.sec with epoch := e, counter := 0 } }
    let s := post s 0x82 (e / 65536) (word e)
    let s := if e == 0xFFFFF then post (s.reason 0x0801) 0x81 0 0 else s
    epochHealth s

/-! ### Nonces (R454, R457) -/

/-- A nonce field (Table SEC-4). -/
def nonceBytes (counter epoch pos : Nat) : List Byte := leBytes 8 counter ++ leBytes 4 (epoch + 2 ^ 20 * pos)

/-- The counter of a nonce. -/
def nonceCounter (n : List Byte) : Nat := fieldAt n 0 8

/-- The epoch of a nonce. -/
def nonceEpoch (n : List Byte) : Nat := fieldAt n 8 4 % 2 ^ 20

/-- The sender of a nonce. -/
def nonceSender (n : List Byte) : Nat := fieldAt n 8 4 / 2 ^ 20

/-- The next nonce of this device, and the state that has used it (R456): a counter that would reach 2^64 − 1 raises the
epoch first. -/
def takeNonce (s : State) : List Byte × State :=
  let s := if 2 ^ 64 - 1 ≤ s.sec.counter then raiseEpoch s else s
  (nonceBytes s.sec.counter s.sec.epoch (devPos s), { s with sec := { s.sec with counter := s.sec.counter + 1 } })

/-- K_SEAL (R449). -/
def sealKey (s : State) : List Byte := Config.sha256 (s.sec.owk.getD [] ++ [0x53, 0x45, 0x41, 0x4C])

/-- LINE_ID as four bytes (R455). -/
def lineIdBytes (s : State) : List Byte := leBytes 4 (cfgF s 3 0xB 0 32)

/-- The header of a record with RETRY taken as 0 (Table SEC-5). -/
def headNoRetry (b : List Byte) : List Byte := leBytes 2 (fieldAt b 0 2 - 8192 * (fieldAt b 0 2 / 8192 % 2)) ++ (b.take 8).drop 2

/-! ### Replay windows (R461) -/

/-- The window after a nonce is accepted, none when it is outside or repeated (R461). -/
def windowTake (w : Window) (e c : Nat) : Option Window :=
  if e < w.epoch then none
  else if w.epoch < e then some { epoch := e, ctr := c, map := 1 }
  else if w.ctr < c then some { w with map := (w.map <<< (c - w.ctr)) ||| 1, ctr := c }
  else if w.ctr - c < 64 && !w.map.getLsbD (w.ctr - c) then
    some { w with map := w.map ||| (BitVec.ofNat 64 (2 ^ (w.ctr - c))) }
  else none

/-- The nonce raises H (R461). -/
def raisesH (w : Window) (e c : Nat) : Bool := w.epoch < e || (w.epoch == e && w.ctr < c)

/-- The window of a record's sender (R461). -/
def recWindow (s : State) (anchor : Bool) : Window := if anchor then s.sec.winA else s.sec.winS

/-- A window starts with H from its floor and every bit of the map set (R461). -/
def floorWindow (f : Nat × Nat) : Window := { epoch := f.1, ctr := f.2, map := BitVec.allOnes 64 }

/-! ### Refusals (R463) -/

/-- A refusal with SEAL_FAIL or SEAL_REPLAY: the event at most once per 100 ms and sender, and REASON 0x0802 at the 16th
within 10 s (R206, R463). -/
def sealFail (s : State) (sender status : Nat) : State :=
  let now := s.time.line
  let recent := s.sec.fails.filter (fun f => now < f.2 + 10000000000)
  let s := { s with sec := { s.sec with fails := (sender, now) :: recent } }
  let n := (s.sec.fails.filter (fun f => f.1 == sender)).length
  let s := if n == 16 then s.reason 0x0802 else s
  if s.sec.failPosts.any (fun f => f.1 == sender && now < f.2 + 100000000) then s
  else
    let s := { s with sec := { s.sec with
      failPosts := (sender, now) :: s.sec.failPosts.filter (fun f => f.1 != sender) } }
    post s 0x80 status (word sender)

/-! ### The crypto engine (R467, R468) -/

/-- Contexts that a rank may hold (R467). -/
def ctxLimit (rank : Nat) : Nat :=
  match rank with
  | 1 => 4 | 2 => 2 | _ => 1

/-- Operations that hold a context. -/
def ctxUsed (ops : List CryptoOp) : Nat := (ops.filter (fun o => o.ctx)).length

/-- Gives free contexts to waiting operations of a rank in arrival order, below its limit (R468). -/
def grantRank (rank : Nat) (todo done : List CryptoOp) : List CryptoOp :=
  match todo with
  | [] => done
  | o :: r =>
    let all := done ++ o :: r
    let mine := (all.filter (fun x => x.ctx && x.rank == rank)).length
    let o' := if o.rank == rank && !o.ctx && mine < ctxLimit rank && ctxUsed all < 4 then { o with ctx := true } else o
    grantRank rank r (done ++ [o'])

/-- Gives free contexts, rank 1 first (R468). -/
def grant (ops : List CryptoOp) : List CryptoOp := grantRank 3 (grantRank 2 (grantRank 1 ops []) []) []

/-- A user asks the engine for an operation (R468). -/
def cryptoAsk (s : State) (rank : Nat) (f : CryptoFor) : State :=
  { s with sec := { s.sec with ops := grant (s.sec.ops ++ [{ rank, for_ := f, ctx := false }]) } }

/-- The operation the engine runs: the oldest of the highest rank that holds a context (R468). -/
def cryptoRunning (ops : List CryptoOp) : Option CryptoOp :=
  let held := ops.filter (fun o => o.ctx)
  match held.find? (fun o => o.rank == 1) with
  | some o => some o
  | none =>
    match held.find? (fun o => o.rank == 2) with
    | some o => some o
    | none => held.head?

/-- Removes the first operation equal to o. -/
def dropOp (l : List CryptoOp) (o : CryptoOp) : List CryptoOp :=
  match l with
  | [] => []
  | x :: r => if x = o then r else x :: dropOp r o

/-- An operation completes and its context is granted again (R468). -/
def cryptoEnd (s : State) (o : CryptoOp) : State := { s with sec := { s.sec with ops := grant (dropOp s.sec.ops o) } }

/-- The operations of a user leave the engine without a result. -/
def cryptoDrop (s : State) (f : CryptoFor → Bool) : State :=
  { s with sec := { s.sec with ops := grant (s.sec.ops.filter (fun o => !f o.for_)) } }

end Sys2Proof.Machine
end

