-- ==== Sys2Proof/Machine/Txn.lean ====
section
/-! DEFINITION. Txn: the transactions that a node holds (R126 to R135): consumption, outcome, expiry, the replay cache and
the ready responses, as operations that the opcode families share; and the commands of their timers. -/

namespace Sys2Proof.Machine

open Sys2Proof

/-! ### Held transactions -/

/-- A held transaction has a broadcast flag, an origin and a tag (R126). -/
def isTxn (t : Txn) (bcast anchor : Bool) (tag : Nat) : Bool := t.bcast == bcast && t.anchor == anchor && t.tag == tag

/-- Removes the transaction of a number. -/
def dropTxn (l : List Txn) (id : Nat) : List Txn :=
  match l with
  | [] => []
  | t :: r => if t.id == id then r else t :: dropTxn r id

/-- Replaces the transaction of the same number. -/
def putTxn (l : List Txn) (n : Txn) : List Txn :=
  match l with
  | [] => []
  | t :: r => if t.id == n.id then n :: r else t :: putTxn r n

/-- The held transaction of a number. -/
def txnOf (s : State) (id : Nat) : Option Txn := s.txn.held.find? (fun t => t.id == id)

/-- The held transaction of an opcode that its execution can take: the first of its broadcast flag, origin and tag (R126). -/
def findHeld (s : State) (bcast anchor : Bool) (tag op : Nat) : Option Txn :=
  s.txn.held.find? (fun t => isTxn t bcast anchor tag && t.op == op && t.phase == .held)

/-- The transaction whose deadline comes first. -/
def soonest (l : List Txn) : Option Txn :=
  match l with
  | [] => none
  | t :: r =>
    match soonest r with
    | some u => if t.deadline ≤ u.deadline then some t else some u
    | none => some t

/-- Of the held transactions of a broadcast flag, origin and tag the one whose deadline comes first (R130). -/
def findDue (s : State) (bcast anchor : Bool) (tag : Nat) : Option Txn :=
  soonest (s.txn.held.filter (fun t => isTxn t bcast anchor tag))

/-- The state with a held transaction replaced. -/
def State.setTxn (s : State) (t : Txn) : State := { s with txn := { s.txn with held := putTxn s.txn.held t } }

/-- Transactions that count against 256: every state but DONE (R127). -/
def txnCount (s : State) : Nat :=
  ((s.txn.held ++ s.txn.opening).filter (fun t => !t.bcast)).length +
    ((s.txn.ready ++ s.txn.sealing).filter (fun r => r.owns)).length

/-! ### Responses (R119, R124, R125, R130) -/

/-- An unsealed response with no data of its own. -/
def plainResponse (id : Nat) (anchor : Bool) (tag op status deadline : Nat) : Response :=
  { id, anchor, tag, op, status, data := [], sealed_ := none, plain := [], effect := false, unsol := false, done := false,
    cached := false, owns := false, expired := false, digest := 0, reqNonce := [], deadline }

/-- A response as it stands in a pocket (Table ACY-4). -/
def responseBytes (pos : Nat) (r : Response) : List Byte :=
  let src := pos % 4096 + 4096 * b2n r.sealed_.isSome + 8192 * b2n r.unsol + 16384 * b2n r.done + 32768 * b2n r.cached
  let head := [0xA5, byte r.tag] ++ leBytes 2 src ++ [byte r.op, byte r.status] ++ leBytes 2 r.data.length
  match r.sealed_ with
  | some (nonce, gcm) => head ++ nonce ++ r.data ++ gcm
  | none => head ++ r.data

/-- Removes the first response equal to r. -/
def dropResponse (l : List Response) (r : Response) : List Response :=
  match l with
  | [] => []
  | x :: q => if x = r then q else x :: dropResponse q r

/-- A response becomes ready, in order of readiness (R124). -/
def makeReady (s : State) (r : Response) : State := { s with txn := { s.txn with ready := s.txn.ready ++ [r] } }

/-- The response of an executed transaction, unsealed. -/
def responseOf (t : Txn) : Response :=
  { id := t.id, anchor := t.anchor, tag := t.tag, op := t.op, status := t.status, data := t.resp, sealed_ := none, plain := t.resp,
    effect := t.effect, unsol := false, done := t.done, cached := t.cached, owns := true, expired := false,
    digest := t.digest, reqNonce := t.nonce, deadline := t.deadline }

/-- The response goes unsealed: to an unsealed request, to one refused at steps 3 and 4 of R135, or from REKEY into
0xFFFFF (R135, R458). -/
def goesPlain (t : Txn) : Bool :=
  !t.sealed || t.status == 0x08 || t.status == 0x09 || t.status == 0x10

/-- A response sealed with a nonce, its plain data as they are (R455, R456, Table SEC-5). -/
def sealedWith (s : State) (r : Response) (nonce : List Byte) : Response :=
  let head := (responseBytes (devPos s) { r with sealed_ := some ([], []) }).take 8
  let (ct, gcm) := Config.gcmSeal (sealKey s) nonce (head ++ r.reqNonce ++ lineIdBytes s) r.plain
  { r with data := ct, sealed_ := some (nonce, gcm) }

/-- A response is given to the crypto engine for its seal, with the next nonce; a device without a position, or with sealed
traffic stopped, seals nothing (R456, R457, R459, R468). -/
def askSeal (out s : State) (t : Txn) : State :=
  if devPos s == 0xFFF || sealedStopped s then out
  else
    let (n, s) := takeNonce s
    if sealedStopped s then { s with txn := out.txn }
    else cryptoAsk (s.setTxn { t with phase := .sealing, sealNonce := n }) 1 (.sealTxn t.id)

/-- A status-only response is ready, or is given to the crypto engine for its seal when it answers a sealed request (R119,
R468). -/
def answer (s : State) (sealIt : Bool) (r : Response) : State :=
  if !sealIt then makeReady s r
  else if devPos s == 0xFFF || sealedStopped s then s
  else
    let (n, s) := takeNonce s
    if sealedStopped s then s
    else cryptoAsk { s with txn := { s.txn with sealing := s.txn.sealing ++ [{ r with sealed_ := some (n, []) }] } } 1 (.sealNote r.id)

/-- A held transaction has its outcome: a broadcast posts BCAST_NOT_DONE on a refusal; a response is ready, or is given
to the crypto engine for its seal (R132, R468). -/
def finishTxn (s : State) (t : Txn) : State :=
  let out := { s with txn := { s.txn with held := dropTxn s.txn.held t.id } }
  if t.bcast then (if t.status == 0 then out else post out 0x49 t.op (word (t.tag % 256)))
  else if goesPlain t then makeReady out (responseOf t)
  else askSeal out s t

/-- The held transaction of a number, if it is still there, ends with a status and data (R130). -/
def endTxn (s : State) (id status : Nat) (resp : List Byte) (effect : Bool) : State :=
  match txnOf s id with
  | some t => finishTxn s { t with status, resp, effect := t.effect || effect }
  | none => s

/-- The outcome REFUSED with a REASON-format code in data bytes 0 and 1 (Table ACY-5). -/
def refuseTxn (s : State) (id code : Nat) : State :=
  endTxn s id 0x0F (leBytes 2 code) false

/-! ### Expiry (R130, R131, R132) -/

/-- The EXPIRED response to a request: its number, origin, tag, opcode, nonce and deadline, and DONE where an effect took place
(R130, R131). -/
def expiredResponse (id : Nat) (anchor : Bool) (tag op : Nat) (nonce : List Byte) (deadline : Nat) (done : Bool) : Response :=
  { plainResponse id anchor tag op 0x0B deadline with reqNonce := nonce, done, owns := true, expired := true }

/-- TXN_EXPIRED (Table REG-11). -/
def postExpired (s : State) (code : Nat) (anchor : Bool) (tag op : Nat) (done : Bool) : State :=
  post s code op (word (tag % 256 + 256 * b2n anchor + 512 * b2n done))

/-- Work of the master port that a line transaction asked for. -/
def jobOf (id : Nat) (j : SerJob) : Bool :=
  match j with
  | .xfer _ _ _ _ _ f => f = .line id
  | _ => false

/-- A held transaction runs out of lifetime: what has not started is abandoned, at the master port too; an effect is left to run
to its end, and its result finds no transaction; a broadcast is dropped with its event (R130, R132). -/
def expireHeld (s : State) (t : Txn) : State :=
  let s := { s with txn := { s.txn with held := dropTxn s.txn.held t.id }
                    ser := { s.ser with waiting := s.ser.waiting.filter (fun j => !jobOf t.id j) } }
  let s := cryptoDrop s (fun f => f = .sealTxn t.id)
  if t.bcast then post s 0x49 t.op (word (t.tag % 256 + 256))
  else
    postExpired (answer s (!goesPlain t) (expiredResponse t.id t.anchor t.tag t.op t.nonce t.deadline t.effect))
      0x47 t.anchor t.tag t.op t.effect

/-- A response holds an origin's tag. -/
def ownsTag (r : Response) (anchor : Bool) (tag : Nat) : Bool := r.owns && r.anchor == anchor && r.tag == tag

/-- The ready response that owns a tag. -/
def findReady (s : State) (anchor : Bool) (tag : Nat) : Option Response := s.txn.ready.find? (fun r => ownsTag r anchor tag)

/-- A ready response runs out of lifetime: the EXPIRED response replaces it, sealed where it was (R130, R131). -/
def expireReady (s : State) (r : Response) : State :=
  let s := { s with txn := { s.txn with ready := dropResponse s.txn.ready r } }
  postExpired (answer s r.sealed_.isSome (expiredResponse r.id r.anchor r.tag r.op r.reqNonce r.deadline r.effect))
    0x47 r.anchor r.tag r.op r.effect

/-- A DONE entry of an origin and tag. -/
def isDone (d : DoneEntry) (anchor : Bool) (tag : Nat) : Bool := d.anchor == anchor && d.tag == tag

/-- The DONE entries without that of an origin and tag: the tag is consumed again, or free with none (R128, R131). -/
def forgetDone (s : State) (anchor : Bool) (tag : Nat) : State :=
  { s with txn := { s.txn with done := s.txn.done.filter (fun d => !isDone d anchor tag) } }

/-- The transaction of (origin, tag) is in flight (R126). -/
def inFlight (s : State) (anchor : Bool) (tag : Nat) : Bool :=
  s.txn.held.any (fun t => isTxn t false anchor tag) || (s.txn.ready ++ s.txn.sealing).any (fun r => ownsTag r anchor tag)

/-- A record whose lifetime ends while its seal is opened: a broadcast posts its event; a unicast whose tag no other transaction
holds is answered EXPIRED (R130, R132, R460); DEDUCED, log 22. -/
def expireOpening (s : State) (t : Txn) : State :=
  let s := { s with txn := { s.txn with opening := dropTxn s.txn.opening t.id } }
  let s := cryptoDrop s (fun f => f = .openTxn t.id)
  if t.bcast then post s 0x49 t.op (word (t.tag % 256 + 256))
  else if inFlight s t.anchor t.tag then s
  else
    postExpired (answer (forgetDone s t.anchor t.tag) true
      (expiredResponse t.id t.anchor t.tag t.op t.nonce t.deadline false)) 0x47 t.anchor t.tag t.op false

/-- A record at the crypto engine for opening, the one whose deadline comes first. -/
def findOpening (s : State) (bcast anchor : Bool) (tag : Nat) : Option Txn :=
  soonest (s.txn.opening.filter (fun t => isTxn t bcast anchor tag))

/-- TXN_EXPIRY: the lifetime of a transaction that is not sent runs out (R130, R132). -/
def execTxnExpiry (bcast anchor : Bool) (tag : Nat) (s : State) : Result :=
  if s.mode.logicReset then .next s
  else
    match findDue s bcast anchor tag with
    | some t => .next (expireHeld (s.reach t.deadline) t)
    | none =>
      match findReady s anchor tag with
      | some r => if r.expired || bcast then .next s else .next (expireReady (s.reach r.deadline) r)
      | none =>
        match findOpening s bcast anchor tag with
        | some t => .next (expireOpening (s.reach t.deadline) t)
        | none => .next s

/-- An EXPIRED response is discarded with its event, and its seal with it (R131). -/
def discardExpired (s : State) (r : Response) : State :=
  let s := { s with txn := { s.txn with ready := dropResponse s.txn.ready r, sealing := dropResponse s.txn.sealing r } }
  let s := cryptoDrop s (fun f => f = .sealNote r.id)
  postExpired s 0x48 r.anchor r.tag r.op r.done

/-- EXPIRED_DISCARD: an EXPIRED response has not been sent within 1 s of its deadline (R131). -/
def execExpiredDiscard (anchor : Bool) (tag : Nat) (s : State) : Result :=
  match (s.txn.ready ++ s.txn.sealing).find? (fun r => ownsTag r anchor tag) with
  | some r => if !r.expired then .next s else .next (discardExpired (s.reach (r.deadline + 1000000000)) r)
  | none => .next s

/-- DONE_ENTRY_LAPSE: a DONE entry reaches its lifetime deadline (R128). -/
def execDoneEntryLapse (anchor : Bool) (tag : Nat) (s : State) : Result :=
  match s.txn.done.find? (fun d => isDone d anchor tag) with
  | some d =>
    .next (forgetDone (s.reach d.deadline) anchor tag)
  | none => .next s

/-- BCAST_DROP: a broadcast record not executed by its lifetime deadline is dropped (R132). -/
def execBcastDrop (anchor : Bool) (tag : Nat) (s : State) : Result :=
  match findDue s true anchor tag with
  | some t => .next (expireHeld (s.reach t.deadline) t)
  | none =>
    match findOpening s true anchor tag with
    | some t => .next (expireOpening (s.reach t.deadline) t)
    | none => .next s

/-- A response is sent: it leaves the ready set and, where it owns its tag and is not EXPIRED, leaves a DONE entry (R128,
R131). -/
def sentResponse (s : State) (r : Response) : State :=
  let s := { s with txn := { s.txn with ready := dropResponse s.txn.ready r } }
  if !r.owns || r.expired || r.unsol then s
  else
    let d : DoneEntry :=
      { anchor := r.anchor, tag := r.tag, op := r.op, digest := r.digest, status := r.status, flag := r.done,
        data := if r.plain.length ≤ 16 then some r.plain else none, deadline := r.deadline }
    let s := forgetDone s r.anchor r.tag
    { s with txn := { s.txn with done := s.txn.done ++ [d] } }

/-! ### Consumption (R122, R126 to R128, R132, R135) -/

/-- Steps 1, 2, 5 and 6 of R135 that need no more than the opcode, the seal flag and the mode: the status, 0 for none. -/
def checkOpcode (s : State) (op : Nat) (sealed bcast : Bool) : Nat :=
  match opcodeRow op with
  | none => 0x02
  | some (sealedOnly, bc, _, _, _) =>
    if bcast && !bc then 0x02
    else if sealedOnly && !sealed then 0x0A
    else if sealed && sealedOff s then 0x10
    else 0

/-- The mode check of R133 and R135: served in MINIMAL, or another mode. -/
def checkMode (s : State) (op : Nat) : Nat :=
  match opcodeRow op with
  | some (_, _, minimal, _, _) => if s.mode.mode == .minimal && !minimal then 0x05 else 0
  | none => 0x02

/-- Registers that the line path never accesses: the command and completion queues, and UPD_CTRL for a write (R136, R179,
R209). -/
def lineBars (write : Bool) (a : Nat) : Bool := a == 0x3A || a == 0x3C || a == 0x3E || a == 0x40 || (write && a == 0x62)

/-- A range that FLASH_READ serves: within the flash, and outside the keys and counters region (R134, Table FLS-2). -/
def flashRangeOk (a n : Nat) : Bool :=
  decide (a + n ≤ 0x400000) && (decide (a + n ≤ 0x360000) || decide (0x370000 ≤ a))

/-- LEN and ranges of the request data (R134, R135 steps 6 and 7): BAD_LEN 0x03, BAD_ADDR 0x04, 0 for neither. The position of a
POS_BIND must lie within 1 to 4,094 in an unbind too: DESIGN CHOICE, log 44. -/
def checkLayout (op : Nat) (d : List Byte) : Nat :=
  let n := d.length
  let u := fun i => byteAt d i
  let w := fun i => fieldAt d i 2
  match op with
  | 0x01 => if 240 < n then 3 else 0
  | 0x02 => if n == 0 || 8 < n then 3 else if d.any (fun b => b.toNat % 2 == 1 || 0x7E < b.toNat || lineBars false b.toNat) then 4 else 0
  | 0x03 =>
    if n == 0 || 32 < n || n % 4 != 0 then 3
    else if (List.range (n / 4)).any (fun i => u (4 * i) % 2 == 1 || 0x7E < u (4 * i) || u (4 * i + 1) != 0 ||
        lineBars true (u (4 * i))) then 4
    else 0
  | 0x04 => if n != 6 then 3 else if 1 < u 0 || w 4 == 0 || 128 < w 4 then 4 else 0
  | 0x05 => if n < 6 || 256 < n || n % 2 == 1 then 3 else if u 0 != 1 then 4 else 0
  | 0x06 => if n != 1 then 3 else if 2 < u 0 then 4 else 0
  | 0x07 => if n != 6 then 3 else if w 4 == 0 || 256 < w 4 || !flashRangeOk (fieldAt d 0 4) (w 4) then 4 else 0
  | 0x08 => if n != 8 then 3 else if 1 < u 0 || u 1 == 0 || 15 < u 1 || w 2 != 0 then 4 else 0
  | 0x09 =>
    if n < 6 || (u 2 ≤ 8 && n < 6 + u 2) then 3 else if 7 < u 0 || u 2 == 0 || 8 < u 2 || u 3 != 0 || 256 < w 4 then 4
    else if 256 < n - 6 - u 2 + w 4 then 4 else 0
  | 0x0A => if n != 12 then 3 else if 15 < u 0 || 2 < u 1 || w 2 == 0 || 32768 < w 2 then 4 else 0
  | 0x0B => if n != 4 then 3 else if w 2 == 0 || 128 < w 2 then 4 else 0
  | 0x0C => if n < 2 || 256 < n || ((u 0 == 1 || u 0 == 2) && n != 2) then 3 else if u 1 != 0 then 4 else 0
  | 0x0D => if n != 2 then 3 else 0
  | 0x20 => if n != 2 then 3 else if 1 < u 0 || u 1 != 0 then 4 else 0
  | 0x21 =>
    if n == 0 then 3
    else
      match u 0 with
      | 4 => if n != 10 then 3 else 0
      | 6 => if n != 38 then 3 else if u 1 != 0 || u 35 != 0 || u 34 == 0 || 3 < u 34 || w 36 == 0 || 252 < w 36 then 4 else 0
      | c => if c == 0 || 6 < c then 4 else if n != 2 then 3 else if u 1 != 0 then 4 else 0
  | 0x22 => if n != 4 then 3 else if 1 < u 0 || u 1 != 0 || w 2 == 0 || 4094 < w 2 then 4 else 0
  | 0x23 => if n != 4 then 3 else if 3600 < w 0 || u 3 != 0 then 4 else 0
  | 0x24 => if n != 0 then 3 else 0
  | _ => 2

/-- Steps 5 to 7 of R135 on a record whose data are plain. -/
def checkPlain (s : State) (op : Nat) (d : List Byte) : Nat :=
  let m := checkMode s op
  if m != 0 then m else checkLayout op d

/-- A record with plain data is held for its execution, or refused (R133, R135); a record that needs the core wakes it
in REST (R133, cause 0x05 of Table MOD-11). -/
def admitPlain (s : State) (t : Txn) : State :=
  let st := checkPlain s t.op t.data
  if st != 0 then finishTxn (s.setTxn { t with status := st }) { t with status := st }
  else
    let s := s.setTxn { t with phase := .held }
    if opcodeCore t.op then wake s (if t.op == 0x0D && fieldAt t.data 0 2 == 8 then 1 else 5) else s

/-- A sealed record is given to the crypto engine for opening (R460, R468). -/
def openAsk (s : State) (t : Txn) : State :=
  cryptoAsk { s with txn := { s.txn with opening := s.txn.opening ++ [t] } } 1 (.openTxn t.id)

/-- A new transaction enters: refused at steps 1 to 3, given to the crypto engine for opening, or admitted (R135,
R460). -/
def enterTxn (s : State) (t : Txn) : State :=
  let st := checkOpcode s t.op t.sealed t.bcast
  if st == 0 && t.sealed then openAsk s t
  else
    let s := { s with txn := { s.txn with held := s.txn.held ++ [t] } }
    if st != 0 then finishTxn s { t with status := st } else admitPlain s t

/-- A replay from the cache, or a fresh execution, of a RETRY that matches a DONE entry, which ends with the tag's new consumption
(R128). -/
def replayTxn (s : State) (t : Txn) (d : DoneEntry) : State :=
  let s := forgetDone s t.anchor t.tag
  let held := fun (s : State) => { s with txn := { s.txn with held := s.txn.held ++ [t] } }
  match d.data with
  | some l => finishTxn (held s) { t with status := d.status, resp := l, cached := true, done := d.flag, phase := .executing }
  | none =>
    match opcodeRow t.op with
    | some (_, _, _, _, true) => admitPlain (held s) { t with phase := .held }
    | _ => finishTxn (held s) { t with status := 0x0D, phase := .executing }

/-- A status-only response that does not own its tag: DUP_TAG, BUSY, or SEAL_FAIL (R119, R127, R460). -/
def statusOnly (s : State) (t : Txn) (status : Nat) : State :=
  answer s (!goesPlain { t with status }) { plainResponse t.id t.anchor t.tag t.op status t.deadline with reqNonce := t.nonce }

/-- A record with its tag state judged under Table ACY-7; `enter` takes a new transaction in. A RETRY that matches a DONE entry
while 256 are held is answered BUSY: DESIGN CHOICE, log 71. -/
def judgeTagWith (enter : State → Txn → State) (s : State) (t : Txn) : State :=
  let busy := 256 ≤ txnCount s
  let fresh := if busy then statusOnly s t 0x0C
    else enter (forgetDone s t.anchor t.tag) t
  if inFlight s t.anchor t.tag then (if t.retry then s else statusOnly s t 0x01)
  else
    match s.txn.done.find? (fun d => isDone d t.anchor t.tag) with
    | some d =>
      if t.retry && d.op == t.op && d.digest == t.digest && !busy then replayTxn s t d else fresh
    | none => fresh

/-- A record that is not authenticated first, under Table ACY-7. -/
def judgeTag (s : State) (t : Txn) : State := judgeTagWith enterTxn s t

/-- A broadcast record: ignored when it repeats one of the last 16, else remembered and entered (R132). -/
def judgeBcast (s : State) (t : Txn) : State :=
  if s.txn.bcasts.any (fun b => b.1 == t.tag && b.2.1 == t.digest && decide (s.time.line ≤ b.2.2)) then s
  else
    let s := { s with txn := { s.txn with bcasts := ((t.tag, t.digest, t.deadline) :: s.txn.bcasts).take 16 } }
    enterTxn s t

/-- The transaction that a consumed record makes (R118, R127, R130). -/
def recordTxn (s : State) (anchor : Bool) (r : List Byte) : Txn :=
  let dest := fieldAt r 0 2
  let sealed := sealedBit dest
  let len := fieldAt r 6 2
  let ofs := if sealed then 20 else 8
  { id := s.txn.serial, bcast := dest % 4096 == 4095, anchor, tag := byteAt r 2, op := byteAt r 3,
    digest := crc32c (r.drop 3), deadline := s.time.line + fieldAt r 4 2 * 100000, sealed,
    nonce := if sealed then (r.drop 8).take 12 else [], head := headNoRetry r,
    gcmTag := if sealed then (r.drop (20 + len)).take 16 else [], sealNonce := [], data := (r.drop ofs).take len,
    retry := natBits dest 13 1 == 1, phase := if sealed then .opening else .held, effect := false, status := 0,
    resp := [], cached := false, done := false }

/-- A record is consumed (R122, R127, R132); a sealed unicast that passes steps 1 to 3 of R135 is authenticated before Table
ACY-7 applies (R460). -/
def consume (s : State) (anchor : Bool) (r : List Byte) : State :=
  let t := recordTxn s anchor r
  let s := { s with txn := { s.txn with serial := s.txn.serial + 1 } }
  if t.bcast then judgeBcast s t
  else if t.sealed && checkOpcode s t.op true false == 0 then
    openAsk s t
  else judgeTag s t

/-- The records of a frame are consumed in record order (R122). -/
def consumeAll (s : State) (anchor : Bool) (l : List (List Byte)) : State :=
  match l with
  | [] => s
  | r :: q => consumeAll (consume s anchor r) anchor q

/-! ### Execution -/

/-- The execution of a held transaction of an opcode: it runs with the transaction engine out of reset and, where the
opcode needs it, the core running; past its deadline it expires instead (R130, R133). -/
def withTxn (s : State) (bcast anchor : Bool) (tag op : Nat) (f : State → Txn → State) : Result :=
  match findHeld s bcast anchor tag op with
  | none => .next s
  | some t =>
    if s.mode.logicReset || (opcodeCore op && !coreRuns s) then .next s
    else if t.deadline < s.time.line then .next (expireHeld s t)
    else .next (f s t)

end Sys2Proof.Machine
end

