-- ==== Sys2Proof/Machine/Serial.lean ====
section
/-! DEFINITION. Serial: the master port and direct execution (chapter 14): the work queue and its ranks, exit bursts,
demand reads and prefetch, CSP_XFER, erase tracking, and the host's window reads (R176 to R178). -/

namespace Sys2Proof.Machine

open Sys2Proof

/-! ### The requester of an operation -/

/-- An operation ends for its requester: a completion entry, or the outcome of the line transaction. -/
def srcEnd (s : State) (f : Requester) (outcome result status : Nat) (resp : List Byte) : State :=
  match f with
  | .queue p d => complete s p d outcome result
  | .line id => endTxn s id status resp false

/-- An operation is refused with a REASON-format code. -/
def srcRefuse (s : State) (f : Requester) (code : Nat) : State := srcEnd s f outRefused code 0x0F (leBytes 2 code)

/-- The requester still waits: a line transaction that expired does not (R130). -/
def srcAlive (s : State) (f : Requester) : Bool :=
  match f with
  | .queue p d => (cmdPath s p).outst.any (fun x => x = d)
  | .line id => (txnOf s id).isSome

/-- An effect of the operation outside the transaction engine begins (R130). -/
def srcBegin (s : State) (f : Requester) : State :=
  match f with
  | .queue _ _ => s
  | .line id =>
    match txnOf s id with
    | some x => s.setTxn { x with effect := true, phase := .executing }
    | none => s

/-- A held transaction is given to another unit and is not executed again. -/
def srcHold (s : State) (f : Requester) : State :=
  match f with
  | .queue _ _ => s
  | .line id =>
    match txnOf s id with
    | some x => s.setTxn { x with phase := .executing }
    | none => s

/-! ### CSPSEL (Table CSP-8) -/

/-- A field of the CSPSEL words of a code. -/
def csel (s : State) (c w lo n : Nat) : Nat := cfgF s 0xA (8 * c + w) lo n

/-- The code is device-class; code 6 always is (R348). -/
def deviceClass (s : State) (c : Nat) : Bool := c == 6 || csel s c 0 1 1 == 1

/-- Element c of a list of bits. -/
def flagAt (l : List Bool) (c : Nat) : Bool := l.getD c false

/-! ### Work and ranks (R349, Table CSP-6) -/

/-- The rank of work. -/
def SerJob.rank (j : SerJob) : Nat :=
  match j with
  | .demand _ _ _ => 1 | .exit _ _ _ => 2 | .medium => 3 | .xfer _ _ _ _ _ _ => 4 | .poll _ => 5 | .prefetch _ _ => 6

/-- The code on which work runs. -/
def SerJob.code (j : SerJob) : Nat :=
  match j with
  | .demand c _ _ => c
  | .exit c _ _ => c
  | .medium => 6
  | .xfer c _ _ _ _ _ => c
  | .poll c => c
  | .prefetch c _ => c

/-- The work is a direct-execution read. -/
def SerJob.direct (j : SerJob) : Bool := j.rank == 1 || j.rank == 6

/-- The lane mode byte with which work runs (Table CSP-4); polls and the medium run in x1 SDR. -/
def SerJob.laneByte (s : State) (j : SerJob) : Nat :=
  match j with
  | .xfer _ m _ _ _ _ => m
  | .exit _ m _ => m
  | .medium => 0
  | .poll _ => 0
  | j => csel s j.code 4 8 8

/-- LANES of work: 0 x1 SDR, 1 x4 SDR, 2 x4 DDR, 3 x8 DDR. -/
def SerJob.mode (s : State) (j : SerJob) : Nat := j.laneByte s % 4

/-- Work reads bytes. -/
def SerJob.reads (j : SerJob) : Bool :=
  match j with
  | .exit _ _ _ => false
  | .xfer _ _ _ _ n _ => n != 0
  | _ => true

/-- Work of highest rank, the oldest of it first. -/
def bestJob (l : List SerJob) : Option SerJob :=
  match l with
  | [] => none
  | j :: r =>
    match bestJob r with
    | some k => if j.rank ≤ k.rank then some j else some k
    | none => some j

/-- Removes the first work equal to j. -/
def dropJob (l : List SerJob) (j : SerJob) : List SerJob :=
  match l with
  | [] => []
  | x :: r => if x = j then r else x :: dropJob r j

/-- The bytes of an exit burst: ADDR bytes of 0xFF and CONT_EXIT (R355). -/
def exitBytes (s : State) (c : Nat) : List Byte :=
  List.replicate (3 + csel s c 0 10 1) 0xFF ++ [byte (csel s c 5 8 8)]

/-- An exit burst of a code, with the words now in force (R355). -/
def exitJob (s : State) (c : Nat) : SerJob := .exit c (csel s c 4 8 8) (exitBytes s c)

/-- Work needs an exit burst first: any but direct execution on a code in continuous read, and the first direct-execution read
after XIP_EN or a reset (R355). -/
def needsExit (s : State) (j : SerJob) : Bool :=
  match j with
  | .demand _ _ _ => s.ser.exitOwed
  | .exit _ _ _ => false
  | .prefetch _ _ => false
  | j => flagAt s.ser.cont j.code

/-- A direct-execution read on a code sends its command byte: not in continuous read (R355). -/
def sendsCommand (s : State) (c : Nat) : Bool := !flagAt s.ser.cont c

/-- The bytes of a direct-execution read up to its dummy clocks: command, inverted command, address, mode byte; in
continuous read without the command (R351, R355). -/
def xipHead (s : State) (c line : Nat) : List Byte :=
  let cmd := csel s c 4 0 8
  let head := if sendsCommand s c then byte cmd :: (if csel s c 0 9 1 == 1 then [byte (255 - cmd)] else []) else []
  let n := 3 + csel s c 0 10 1
  let mode := if csel s c 0 8 1 == 1 then
      [if csel s c 0 7 1 == 1 then byte (csel s c 5 0 8) else byte (csel s c 5 8 8)]
    else []
  head ++ (leBytes n line).reverse ++ mode

/-- The command and write bytes that a transfer drives. -/
def drivenBy (s : State) (j : SerJob) : List Byte :=
  match j with
  | .demand c l _ => xipHead s c l
  | .prefetch c l => xipHead s c l
  | .exit _ _ b => b
  | .medium => []
  | .xfer _ _ c w _ _ => c ++ w
  | .poll _ => [0x05]

/-! ### The lanes (R340, R343, R344, Tables CSP-3 and CSP-4) -/

/-- CM_DQ[7:0] in high impedance. -/
def laneOff : List (Option Bool) := [none, none, none, none, none, none, none, none]

/-- Bit i of a byte. -/
def bitAt (b : Byte) (i : Nat) : Bool := b.getLsbD i

/-- CM_DQ[7:0] with one bit on CM_DQ[0] in x1 SDR: CM_DQ[3:2] high, the others undriven (R343). -/
def laneX1 (v : Bool) : List (Option Bool) := [some v, none, some true, some true, none, none, none, none]

/-- CM_DQ[7:0] with four bits of a byte, from bit i, on CM_DQ[3:0] (R343). -/
def laneX4 (b : Byte) (i : Nat) : List (Option Bool) :=
  [some (bitAt b i), some (bitAt b (i + 1)), some (bitAt b (i + 2)), some (bitAt b (i + 3)), none, none, none, none]

/-- CM_DQ[7:0] with a whole byte (R343). -/
def laneX8 (b : Byte) : List (Option Bool) := [0, 1, 2, 3, 4, 5, 6, 7].map (fun i => some (bitAt b i))

/-- A byte on the lanes, unit by unit: its most significant bit first in x1, bits [7:4] first in x4, whole in x8 (R343). -/
def laneUnits (mode : Nat) (b : Byte) : List (List (Option Bool)) :=
  match mode with
  | 0 => [7, 6, 5, 4, 3, 2, 1, 0].map (fun i => laneX1 (bitAt b i))
  | 3 => [laneX8 b]
  | _ => [laneX4 b 4, laneX4 b 0]

/-- What a transfer drives: its bytes in LANES, the first in x1 under CMD1; then, where it reads, its dummy clocks, in x4 and x8
with the lanes released (R344). -/
def laneWave (laneByte : Nat) (cmd1 reads : Bool) (l : List Byte) : List (List (Option Bool)) :=
  let mode := laneByte % 4
  let sent := match l with
    | [] => []
    | b :: r => laneUnits (if cmd1 then 0 else mode) b ++ r.flatMap (laneUnits mode)
  if reads then sent ++ List.replicate (laneByte / 8 % 32) (if mode == 0 then sent.getLastD laneOff else laneOff) else sent

/-- A first command byte goes out under CMD1: an exit burst, and a read in continuous read, send none. -/
def cmdFirst (s : State) (j : SerJob) : Bool :=
  natBits (j.laneByte s) 2 1 == 1 && (match j with
    | .exit _ _ _ => false
    | .xfer _ _ _ _ _ _ => true
    | j => sendsCommand s j.code)

/-- The mode byte of a direct-execution read with CONT_EN sets CONT_ACTIVE (R355); the head of a read goes out as it starts:
DESIGN CHOICE, log 102. -/
def markCont (s : State) (j : SerJob) : State :=
  let c := j.code
  let cont := if j.direct && csel s c 0 7 1 == 1 then setAt s.ser.cont c true else s.ser.cont
  { s with ser := { s.ser with cont, contWas := flagAt s.ser.cont c } }

/-- A transfer starts: the port is busy on its code, and what it sends goes out (R342 to R344). -/
def startJob (s : State) (j : SerJob) : State :=
  let s := match j with
    | .xfer _ _ _ _ _ f => srcBegin s f
    | .exit c _ _ => if c == s.bus.xipSel then { s with ser := { s.ser with exitOwed := false } } else s
    | _ => s
  let driven := drivenBy s j
  let lanes := laneWave (j.laneByte s) (cmdFirst s j) j.reads driven
  markCont { s with ser := { s.ser with running := some j, sel := j.code, driven, lanes, stale := false
                                        waiting := dropJob s.ser.waiting j } } j

/-- The free port starts the waiting work of highest rank, behind an exit burst that it needs (R349, R355). -/
def serRun (s : State) : State :=
  if s.ser.running.isSome || s.mode.logicReset || s.mode.porst then s
  else
    match bestJob s.ser.waiting with
    | none => s
    | some j => if needsExit s j then startJob s (exitJob s j.code) else startJob s j

/-- A cancelled prefetch: its mode byte has gone out, and its bytes are discarded (R354, R355). -/
def cancelPrefetch (s : State) : State :=
  match s.ser.running with
  | some (.prefetch _ _) => { s with ser := { s.ser with running := none } }
  | _ => s

/-- Work arrives: it cancels a running prefetch, and the port serves it in its rank (R349, R354). -/
def serAdd (s : State) (j : SerJob) : State :=
  let s := cancelPrefetch { s with ser := { s.ser with prefDue := none } }
  serRun { s with ser := { s.ser with waiting := s.ser.waiting ++ [j] } }

/-! ### The prefetch buffer and window reads (R176, R350 to R353) -/

/-- The line of a serial address. -/
def lineOf (a : Nat) : Nat := a - a % 64

/-- The buffer without a line. -/
def dropLine (l : List (Nat × List Byte)) (a : Nat) : List (Nat × List Byte) := l.filter (fun x => x.1 != a)

/-- A line enters the buffer whole, replacing the least recently used (R351). -/
def putLine (s : State) (a : Nat) (b : List Byte) : State :=
  { s with ser := { s.ser with lines := ((a, b) :: dropLine s.ser.lines a).take 4 } }

/-- The prefetch buffer is discarded, and with it the line of a direct-execution read in progress (R178). -/
def flushLines (s : State) : State :=
  { s with ser := { s.ser with lines := [], prefDue := none, stale := s.ser.running.any SerJob.direct } }

/-- An exit burst is queued for a code in continuous read (R355). -/
def askExit (s : State) (c : Nat) : State := if flagAt s.ser.cont c then serAdd s (exitJob s c) else s

/-- What waited for the end of a window read takes effect: a change of XIP_SEL and XIP_BASE, a flush (R178). -/
def afterRead (s : State) : State :=
  let s := if s.ser.flushDue then
      let s := askExit (flushLines s) s.bus.xipSel
      { s with ser := { s.ser with flushDue := false } }
    else s
  match s.ser.xipDue with
  | some (sel, base) =>
    let s := askExit (flushLines s) s.bus.xipSel
    { s with bus := { s.bus with xipSel := sel, xipBase := base }, ser := { s.ser with xipDue := none } }
  | none => s

/-- The waiting window read ends with a word; data of a strobe raised early are lost (R189). -/
def endRead (s : State) (w : Word) : State :=
  let s := { s with bus := { s.bus with hd := if s.ser.hostGone then s.bus.hd else w },
                    ser := { s.ser with hostRead := none, hostGone := false } }
  afterRead s

/-- BUS_ERROR with a cause and an address (R207). -/
def busError (s : State) (cause addr : Nat) : State := post s 0x90 cause (word addr)

/-- The waiting window read ends without data: 0xFFFF, TIMEOUT, BUS_ERROR cause 4 (R177, R362). -/
def failRead (s : State) : State :=
  match s.ser.hostRead with
  | none => s
  | some a =>
    let s := { s with bus := { s.bus with timeout := true } }
    endRead (busError s 4 a) 0xFFFF

/-- The word at a byte offset of a line. -/
def lineWord (b : List Byte) (ofs : Nat) : Word := word (fieldAt b ofs 2)

/-- The waiting window read of an address is served: from the buffer, or by a demand read; a prefetch of its line becomes
that demand read (R350 to R352). -/
def serveRead (s : State) (a : Nat) : State :=
  let l := lineOf a
  let c := s.bus.xipSel
  match s.ser.lines.find? (fun x => x.1 == l) with
  | some (_, b) => endRead (putLine s l b) (lineWord b (a - l))
  | none =>
    if s.ser.running = some (.prefetch c l) && !s.ser.stale then
      { s with ser := { s.ser with running := some (.demand c l (some (a - l))) } }
    else serAdd s (.demand c l (some (a - l)))

/-- The demand read of the window read serves only the prefetch buffer from now on (R177). -/
def blindRead (s : State) : State :=
  let blind := fun (j : SerJob) => match j with
    | .demand c l _ => SerJob.demand c l none
    | j => j
  { s with ser := { s.ser with running := s.ser.running.map blind, waiting := s.ser.waiting.map blind } }

/-- A window read at a serial byte address: refused beyond the memory, held during a tracked erase of the code, else
served (R177, R350, R356). -/
def windowRead (s : State) (x : Nat) : State :=
  let bad := fun (s : State) =>
    { s with bus := { s.bus with hd := 0xFFFF, winErr := true } }
  if !s.bus.xipEn then bad s
  else
    let a := s.bus.xipBase * 0x800000 + (x - 0x800000)
    if 2 ^ csel s s.bus.xipSel 0 11 5 ≤ a then bad s
    else
      let s := { s with ser := { s.ser with hostRead := some a, hostT := s.time.line } }
      if s.ser.erase == some s.bus.xipSel then s else serveRead s a

/-! ### Erase tracking (R356, R357) -/

/-- The tracked erase ends; held window reads proceed (R356). -/
def eraseDone (s : State) (limit : Bool) : State :=
  match s.ser.erase with
  | none => s
  | some c =>
    let s := { s with ser := { s.ser with
      erase := none, erasing := setAt s.ser.erasing c false
      eraseLimit := if limit then setAt s.ser.eraseLimit c true else s.ser.eraseLimit
      waiting := s.ser.waiting.filter (fun j => j.rank != 5) } }
    let s := thawCheck s
    match s.ser.hostRead with
    | some a => serveRead s a
    | none => s

/-- What the end of a CSP_XFER's transfer does to direct execution (R356, R357). -/
def afterXfer (s : State) (c : Nat) (cmd write : List Byte) : State :=
  let op := byteAt cmd 0
  if s.bus.xipEn && c == s.bus.xipSel && (op == csel s c 6 0 8 || op == csel s c 6 8 8) then
    let s := flushLines { s with ser := { s.ser with
      erase := some c, erasing := setAt s.ser.erasing c true, eraseT := s.time.line } }
    freezeCheck s
  else if c == s.bus.xipSel && !write.isEmpty then flushLines s
  else s

/-! ### The end of a transfer (R342, R351, R353, R355, R359, R362) -/

/-- A list of exactly n bytes: lanes that no one drives read as their pull-ups (R340). -/
def padTo (n : Nat) (l : List Byte) : List Byte := (l ++ List.replicate n 0xFF).take n

/-- The bytes read go to the requester of a CSP_XFER: into BUF1, or into the response (R359). -/
def xferOk (s : State) (f : Requester) (l : List Byte) : State :=
  match f with
  | .queue p d => complete (s.store (apertureBase + d.off1) l) p d outOk l.length
  | .line id => endTxn s id 0 l true

/-- A CSP_XFER ends early with a detail (R362, Table CSP-9). -/
def xferErr (s : State) (f : Requester) (detail : Nat) : State := srcEnd s f outError detail 0x0E (leBytes 2 detail)

/-- The port is free and takes its next work. -/
def serFree (s : State) : State := serRun { s with ser := { s.ser with running := none } }

/-- The line of a direct-execution read enters the buffer whole, unless the buffer or its code changed meanwhile (R178, R351). -/
def enterLine (s : State) (c a : Nat) (l : List Byte) : State :=
  if s.ser.stale || c != s.bus.xipSel then s else putLine s a (padTo 64 l)

/-- The host's word, where the bytes read so far hold both of its bytes: the window read ends with it (R351). -/
def hostWord (s : State) (l : List Byte) : State :=
  match s.ser.running with
  | some (.demand _ _ (some o)) => if o + 2 ≤ l.length then endRead (blindRead s) (lineWord l o) else s
  | _ => s

/-- A transfer ends as commanded, with the bytes read. -/
def jobDone (s : State) (j : SerJob) (l : List Byte) : State :=
  let free := fun (s : State) => { s with ser := { s.ser with running := none } }
  match j with
  | .demand c a _ =>
    let s := enterLine (hostWord s (padTo 64 l)) c a l
    let due := s.ser.waiting.isEmpty && !s.ser.stale && c == s.bus.xipSel
    free { s with ser := { s.ser with prefDue := if due then some a else none } }
  | .prefetch c a => free (enterLine s c a l)
  | .exit c _ _ => free { s with ser := { s.ser with cont := setAt s.ser.cont c false } }
  | .xfer c _ cmd w n f => afterXfer (xferOk (free s) f (padTo n l)) c cmd w
  | .poll _ => if byteAt (padTo 1 l) 0 % 2 == 0 then eraseDone (free s) false else free s
  | .medium => s

/-- A transfer ends early with a detail (R362); a host that still waits for its word gets none. -/
def jobFail (s : State) (j : SerJob) (detail : Nat) : State :=
  let s := { s with ser := { s.ser with running := none } }
  match j with
  | .demand _ _ (some _) => failRead s
  | .xfer c _ cmd w _ f => afterXfer (xferErr s f detail) c cmd w
  | _ => s

/-- The running transfer ends early after the bytes read so far: a word that they complete has reached the host (R351, R362). -/
def jobCut (s : State) (l : List Byte) (detail : Nat) : State :=
  let s := hostWord s l
  match s.ser.running with
  | some j => serRun (jobFail s j detail)
  | none => s

/-- CSP_TRANSFER_END: the running transfer ends with the bytes read on the lanes; a medium transfer ends under
MEDIA_SECTOR_READ. -/
def execCspTransferEnd (read : List Byte) (s : State) : Result :=
  match s.ser.running with
  | none => .next s
  | some .medium => .next s
  | some j => .next (serRun (jobDone s j read))

/-- A code's READY_TOS grows (Table CSP-9). -/
def countReadyTo (s : State) (c : Nat) : State :=
  { s with ser := { s.ser with readyTo := true, readyTos := setAt s.ser.readyTos c (satAdd 255 (s.ser.readyTos.getD c 0) 1) } }

/-- A direct-execution read that ends before its mode byte leaves CONT_ACTIVE as it was (R355). -/
def headCut (s : State) (j : SerJob) (sent : Nat) : State :=
  if j.direct && sent < s.ser.driven.length then { s with ser := { s.ser with cont := setAt s.ser.cont j.code s.ser.contWas } }
  else s

/-- READY_TIMEOUT: CM_READY stays low for READY_TO after a number of whole bytes of the transfer, those read among them (R347,
R362). -/
def execReadyTimeout (sent : Nat) (s : State) (read : List Byte := []) : Result :=
  match s.ser.running with
  | none => .next s
  | some .medium => .next s
  | some j =>
    if csel s j.code 0 4 1 == 0 then .next s
    else .next (jobCut (headCut (countReadyTo s j.code) j sent) read 0x0101)

/-- DQS_TIMEOUT: no CM_DQS edge arrives in an x8 DDR read behind the bytes read so far (R345, R362). -/
def execDqsTimeout (s : State) (read : List Byte := []) : Result :=
  match s.ser.running with
  | none => .next s
  | some j => if j.mode s != 3 || !j.reads then .next s else .next (jobCut s read 0x0102)

/-! ### Prefetch and polls (R353, R356) -/

/-- PREFETCH_START: after a demand read of line L, with no other work waiting, line L + 64 is read ahead under R353. -/
def execPrefetchStart (s : State) : Result :=
  match s.ser.prefDue with
  | none => .next s
  | some l =>
    let c := s.bus.xipSel
    let n := l + 64
    let s := { s with ser := { s.ser with prefDue := none } }
    if csel s c 0 6 1 == 1 && !deviceClass s c && s.bus.xipEn && n < 2 ^ csel s c 0 11 5 &&
        !s.ser.lines.any (fun x => x.1 == n) && s.ser.waiting.isEmpty && s.ser.running.isNone then
      .next (startJob s (.prefetch c n))
    else .next s

/-- ERASE_POLL: 100 µs after the last poll of a tracked erase, its status is polled again (R356). -/
def execErasePoll (s : State) : Result :=
  match s.ser.erase with
  | some c =>
    if s.ser.waiting.any (fun j => j.rank == 5) || (s.ser.running.map SerJob.rank) == some 5 then .next s
    else .next (serAdd s (.poll c))
  | none => .next s

/-- ERASE_TRACK_LIMIT: the tracked erase outlasts 200 ms (R356). -/
def execEraseTrackLimit (s : State) : Result :=
  match s.ser.erase with
  | some _ => .next (eraseDone (s.reach (s.ser.eraseT + 200000000)) true)
  | none => .next s

/-- BUSCFG.XIP_WAIT, ns (Table HBU-12). -/
def xipLimit (s : State) : Nat :=
  match s.bus.xipWait with
  | 0 => 2000 | 1 => 20000 | _ => 250000000

/-- XIP_TIMEOUT: the window read reaches the XIP_WAIT limit (R177), with the bytes that its transfer has read by then: a word that
they complete has reached the host (R351); otherwise the transfer serves only the buffer from now on. -/
def execXipTimeout (s : State) (read : List Byte := []) : Result :=
  let s := hostWord s read
  match s.ser.hostRead with
  | none => .next s
  | some _ => .next (failRead (blindRead (s.reach (s.ser.hostT + xipLimit s))))

/-! ### CSP_XFER (R358, R359) -/

/-- The refusals of R358: 0 for none, 1 for code 6, 2 for a selection or a length that is not allowed. -/
def xferCheck (s : State) (c lane cmd write read : Nat) : Nat :=
  let lanes := lane % 4
  let odd := cmd % 2 + write % 2 + read % 2 != 0
  if c == 6 then 1
  else if 7 < c || csel s c 0 0 1 == 0 || csel s c 0 2 2 < lanes || (natBits lane 2 1 == 1 && lanes == 3) ||
      (0 < read && 0 < lanes && lane / 8 < 2) || (lanes == 3 && odd) || (lanes == 2 && csel s c 1 0 9 == 1) ||
      cmd == 0 || 8 < cmd then 2
  else 0

/-- A CSP_XFER is given to the master port (R359); with the core in reset it is refused. -/
def xferPost (s : State) (c lane : Nat) (cmd write : List Byte) (len : Nat) (f : Requester) : State :=
  if s.mode.coreReset then srcRefuse s f 0x0914
  else serAdd (srcHold (wake s 0x06) f) (.xfer c lane cmd write len f)

/-- A CSP_XFER of the command queue (R358). -/
def xferQueue (s : State) (p : Path) (d : Descriptor) : State :=
  let n := d.arg1 % 16
  let f : Requester := .queue p d
  match xferCheck s d.sub d.arg0 n (d.len0 - n) d.len1 with
  | 1 => complete s p d outRefused 0x0910
  | 2 => complete s p d outRefused 0x0922
  | _ =>
    let buf := memBytes s.mem (apertureBase + d.off0) d.len0
    xferPost s d.sub d.arg0 (buf.take n) (buf.drop n) d.len1 f

/-- A CSP_XFER of the line path (Table ACY-8, R358). -/
def xferLine (s : State) (t : Txn) : State :=
  let u := fun i => byteAt t.data i
  let n := u 2
  let body := t.data.drop 6
  match xferCheck s (u 0) (u 1) n (body.length - n) (fieldAt t.data 4 2) with
  | 1 => endTxn s t.id 0x05 [] false
  | 2 => endTxn s t.id 0x04 [] false
  | _ =>
    xferPost s (u 0) (u 1) (body.take n) (body.drop n) (fieldAt t.data 4 2) (.line t.id)

/-- CSP_XFER: a descriptor is posted, or a held transaction executes (R359). -/
def execCspXfer (src : Source) (s : State) : Result :=
  match src with
  | .queue via d => postFrom s via d 0x11 (fun d s => xferQueue s via d)
  | .line b a t => withTxn s b a t 0x09 xferLine

end Sys2Proof.Machine
end

