-- ==== Sys2Proof/Machine/Ports.lean ====
section
/-! DEFINITION. Ports: the commands of the line ports, the loops, the bypass and LINK_CTRL (chapter 03). -/

namespace Sys2Proof.Machine

open Sys2Proof

/-! ### Training (R62 to R64, Table LNK-3) -/

/-- The windows of a length class in 1/256 of the main cursor: tap 1 from 0, taps 2 and 3 to both sides, rounded
inwards. -/
def tapWindow (cls : Nat) : Nat × Nat :=
  match cls with
  | 0 => (25, 12)
  | 1 => (38, 17)
  | 2 => (56, 25)
  | 3 => (71, 30)
  | _ => (89, 38)

/-- A value clamped to a window. -/
def clampInt (lo hi v : Int) : Int := if v < lo then lo else if hi < v then hi else v

/-- One clamped tap: EQ_BOUND, its event and REASON 0x0407 (R64). -/
def tapClamped (s : State) (p : Port) (tap : Nat) : State :=
  post (State.reason { s with link := { s.link with eqBound := true } } 0x0407) 0x44 tap (word (portNo p))

/-- The three taps as trained, clamped to the class's windows and reported (R63, R64). -/
def setTaps (s : State) (p : Port) (t1 t2 t3 : Int) : State :=
  let w := tapWindow (lport s p).lenClass
  let c1 := clampInt 0 w.1 t1
  let c2 := clampInt (-(w.2 : Int)) w.2 t2
  let c3 := clampInt (-(w.2 : Int)) w.2 t3
  let s := s.onPort p (fun l => { l with taps := [c1, c2, c3] })
  let s := if c1 == t1 then s else tapClamped s p 1
  let s := if c2 == t2 then s else tapClamped s p 2
  if c3 == t3 then s else tapClamped s p 3

/-! ### Port transitions (R69 to R72, R90, R91) -/

/-- SIGNAL_DETECT: a port in NOSIG enters TRAIN; the reference port's clock is valid again (Table LNK-6, Table TIM-9). -/
def execSignalDetect (p : Port) (s : State) : Result :=
  if (lport s p).st == .nosig then
    let s := setPortState s p .train false
    .next (if lineRef s && refPort s == p then refValid s else s)
  else .next s

/-- TRAIN_COMPLETE: the DFE freezes and the port moves to ALIGN (R63, R64). -/
def execTrainComplete (p : Port) (t1 t2 t3 : Int) (s : State) : Result :=
  if (lport s p).st == .train then .next (setPortState (setTaps s p t1 t2 t3) p .align false) else .next s

/-- ALIGN_UP: the port reaches UP, with its polarity resolved (R69, R90). -/
def execAlignUp (p : Port) (inverted : Bool) (s : State) : Result :=
  if (lport s p).st == .align then
    let s := if inverted && !(lport s p).pol then
        let s := s.onPort p (fun l => { l with pol := true })
        post (s.reason 0x0403) 0x43 1 (linkStatWord s)
      else s
    let s := setPortState s p .up false
    let s := if p == .b then settleBegin s else s
    .next (if lineRef s && refPort s == p then refValid s else s)
  else .next s

/-- ALIGN_TIMEOUT: no UP within 200 µs returns the port to TRAIN (R69). -/
def execAlignTimeout (p : Port) (s : State) : Result :=
  if (lport s p).st == .align then .next (setPortState s p .train false) else .next s

/-- Invalid symbols and disparity errors outside frames count in SYMERR (Table LNK-12, R96). -/
def gapErrors (s : State) (p : Port) (n : Nat) : State :=
  counting s (fun s => lnkErrors (s.onPort p (fun l => { l with symErr := satAdd 0xFFFFFFFF l.symErr n })) p n)

/-- LOSS_OF_SYNC: UP to ALIGN; at the reference port the reference is lost (R69, Table TIM-9). `bad` of its errors lay outside
frames. -/
def execLossOfSync (p : Port) (s : State) (bad : Nat := 0) : Result :=
  if (lport s p).st == .up then
    let s := setPortState (gapErrors s p bad) p .align false
    .next (if lineRef s && refPort s == p then refLost s else s)
  else .next s

/-- LOSS_OF_SIGNAL: TRAIN, ALIGN or UP to NOSIG; at the reference port the reference is lost (R69, Table TIM-9). -/
def execLossOfSignal (p : Port) (s : State) : Result :=
  match (lport s p).st with
  | .off => .next s
  | .nosig => .next s
  | _ =>
    let s := setPortState s p .nosig false
    .next (if lineRef s && refPort s == p then refLost s else s)

/-- A RETRAIN of a port: TRAIN with training restarted, which is an entry into TRAIN again; no effect in OFF and NOSIG (R69,
R93). -/
def retrain (s : State) (p : Port) : State :=
  match (lport s p).st with
  | .off => s
  | .nosig => s
  | .train => latchTrain s p
  | _ => setPortState s p .train true

/-- CROSSED_PAIRS: a port in NOSIG senses a signal it did not drive (R91). -/
def execCrossedPairs (p : Port) (s : State) : Result :=
  if (lport s p).st == .nosig then
    let s := s.onPort p (fun l => { l with cross := true })
    .next (post (s.reason 0x0404) 0x43 2 (linkStatWord s))
  else .next s

/-- ROLE_CONFLICT: a signal at the disabled port of a STARTER or an ANCHOR (R15): REASON 0x0402 and the event. -/
def execRoleConflict (s : State) : Result :=
  if (s.mode.role == .starter || s.mode.role == .anchor) && !s.mode.porst then
    .next (post (s.reason 0x0402) 0x4B 0 (linkStatWord s))
  else .next s

/-! ### Loops (R80 to R86) -/

/-- The confirm interval of port p can run: a NODE not backwards, the other port UP, p not UP and no loop for it (R80). -/
def loopCan (s : State) (p : Port) : Bool :=
  s.mode.role == .node && !s.link.backwards && isUp s (otherPort p) && !isUp s p && !(lport s p).loop

/-- LOOP_ENGAGE: the confirm interval of port p has run (R80). -/
def execLoopEngage (p : Port) (s : State) : Result :=
  if loopCan s p then .next (engageLoop s p (loopCause (lport s p))) else .next s

/-- The conditions of a release that are not a time (R84, R85). -/
def relMay (s : State) (p : Port) : Bool :=
  let l := lport s p
  s.mode.role == .node && l.loop && l.st == .up && (!loopManual s || l.relPending) &&
  (match p with
   | .a => !s.time.originAnchor
   | .b => !s.link.loopForce)

/-- The instant from which a release may be made (R84, R85). -/
def relTime (s : State) (p : Port) : Nat :=
  let l := lport s p
  match p with
  | .a => l.upT + loopHold s
  | .b => Nat.max l.upT (l.noticeT.getD 0) + loopHold s

/-- The release is made when its conditions hold already. -/
def relCheck (s : State) (p : Port) : State :=
  if relMay s p && relTime s p ≤ s.time.line then releaseLoop s p else s

/-- LOOP_RELEASE: the release conditions of R84 or R85 come to hold for port p. -/
def execLoopRelease (p : Port) (s : State) : Result :=
  if relMay s p then .next (releaseLoop (s.reach (relTime s p)) p) else .next s

/-- A LOOP_REL command is refused (R84, R85). -/
def relRefuse (s : State) : State := { s with link := { s.link with loopRelRef := true } }

/-- A LOOP_REL command: taken, or refused at once (R84, R85). -/
def loopRel (s : State) : State :=
  if s.link.b.loop then
    let recent := match s.link.b.noticeT with
      | some t => decide (s.time.line < t + loopHold s)
      | none => false
    if !isUp s .b || recent then relRefuse s
    else relCheck (s.onPort .b (fun l => { l with relPending := true })) .b
  else if s.link.a.loop then
    if !isUp s .a then relRefuse s
    else if s.time.originAnchor then releaseLoop s .a
    else relCheck (s.onPort .a (fun l => { l with relPending := true })) .a
  else relRefuse s

/-- LOOP_FORCE is set: a NODE engages LOOP_B at once with cause 2 (R95). -/
def loopForce (s : State) : State :=
  let was := s.link.loopForce
  let s := { s with link := { s.link with loopForce := true } }
  if was || s.mode.role != .node || s.link.backwards || s.link.b.loop then s else engageLoop s .b 2

/-! ### Bypass (R87, R88) -/

/-- BYPASS_DELAY_EXPIRY: the delay of BYPASS_MODE 1 has run (R87). -/
def execBypassDelayExpiry (s : State) : Result :=
  if s.link.bypassDue then .next (bypassCheck { s with link := { s.link with bypassRipe := true } }) else .next s

/-- A BYPASS_INSERT: an asserted BYPASS_N is released, from boot step 7 on (R87). -/
def bypassInsert (s : State) : State := if s.link.bypass && s.link.enabled then bypassRelease s else s

/-- BYPASS_PWRFAIL_DROP: PWRFAIL_N has been asserted for 40 ms without a break (R87). -/
def execBypassPwrfailDrop (s : State) : Result :=
  if s.mode.pwrfail && !s.link.bypass then .next (bypassAssert s) else .next s

/-- BYPASS_NOTICE: port p has been UP for LOOP_HOLD after the release of BYPASS_N (R88). -/
def execBypassNotice (p : Port) (s : State) : Result :=
  let l := lport s p
  if l.bypassDue && l.st == .up then
    let s := s.reach (l.upT + loopHold s)
    let s := s.onPort p (fun l => { l with bypassDue := false })
    .next (ownFrame s p (noticeBody (devPos s) 2 false 3 s.time.line))
  else .next s

/-- OWN_FRAME_SEND: the egress has the gap that R562 asks for: a notice set that waits leaves in it, and behind the last of them
the own frame in front (R82: DEDUCED, log 88). -/
def execOwnFrameSend (p : Port) (s : State) : Result :=
  if isUp s p then
    match (lport s p).noticeQ, (lport s p).own with
    | [], b :: r => .next (emit (s.onPort p (fun l => { l with own := r })) p b none)
    | _, _ => .next (s.onPort p (fun l => l.gaps 1))
  else .next s

/-! ### LINK_CTRL (R95, Table LNK-14) -/

/-- The status counters of the LINK table clear (R95). -/
def clearLinkCounters (s : State) : State :=
  let one := fun (l : LinkPort) => { l with frames := 0, poisoned := 0, poisonIn := 0, symErr := 0, down := 0, loops := 0 }
  { s with link := { s.link with a := one s.link.a, b := one s.link.b, discard := 0, rsvdType := 0 } }

/-- What the fields of a LINK_CTRL write do once each is permitted (Table LNK-14); `setup` permits the RWL fields. -/
def linkCtrlAct (s : State) (w : Word) (setup : Bool) : State :=
  let s := if bitOf w 8 then { s with link := { s.link with loopRelRef := false } } else s
  let s := { s with link := { s.link with cntFreeze := bitOf w 7 } }
  let s := if setup && bitOf w 0 then retrain s .a else s
  let s := if setup && bitOf w 1 then retrain s .b else s
  let s := if setup then
      (if bitOf w 3 then loopForce s else relCheck { s with link := { s.link with loopForce := false } } .b)
    else s
  let s := if bitOf w 2 then loopRel s else s
  let s := if bitOf w 4 then bypassInsert s else s
  let s := if bitOf w 5 then bypassAssert s else s
  if bitOf w 6 then clearLinkCounters s else s

/-- A write to LINK_CTRL (R95, R187, R192): an RWL field set outside SETUP is refused, on the line path with the whole
entry; BYPASS_DROP needs the key. -/
def writeLinkCtrl (s : State) (v : Acc) (w : Word) : Done :=
  let opened := keyOpen s v.path
  let s := beginWrite s v.path
  let setup := v.mode == .setup
  let rwl := bitOf w 0 || bitOf w 1 || bitOf w 3
  if bitOf w 5 && !opened then keyViolation s v.path 0x76
  else if rwl && !setup then
    match v.path with
    | .line => (s, 0x05)
    | _ => ((denyWrite (linkCtrlAct s w false) v.path 0x76 1).1, 0x05)
  else (linkCtrlAct s w setup, 0)

/-- A LINK_CTRL write that sets one bit and keeps LOOP_FORCE and CNT_FREEZE as they stand. -/
def linkCtrlBit (s : State) (via : Path) (n : Nat) : State :=
  served s via (fun s v => writeLinkCtrl s v (setBit (linkCtrlWord s &&& 0x0088) n true))

/-- RETRAIN: a LINK_CTRL write of RETRAIN_A or RETRAIN_B (R69, R95). -/
def execRetrain (via : Path) (p : Port) (s : State) : Result := .next (linkCtrlBit s via (portNo p))

/-- LOOP_REL: a LINK_CTRL write of LOOP_REL (R84, R85). -/
def execLoopRel (via : Path) (s : State) : Result := .next (linkCtrlBit s via 2)

/-- LOOP_FORCE: a LINK_CTRL write of LOOP_FORCE (R95). -/
def execLoopForce (via : Path) (s : State) : Result := .next (linkCtrlBit s via 3)

/-- BYPASS_INSERT: a LINK_CTRL write of BYPASS_INSERT (R87). -/
def execBypassInsert (via : Path) (s : State) : Result := .next (linkCtrlBit s via 4)

/-- BYPASS_DROP: a LINK_CTRL write of BYPASS_DROP (R87, R187). -/
def execBypassDrop (via : Path) (s : State) : Result := .next (linkCtrlBit s via 5)

/-- LINK_CNT_CLR: a LINK_CTRL write of CNT_CLR (R95). -/
def execLinkCntClr (via : Path) (s : State) : Result := .next (linkCtrlBit s via 6)

/-- LINK_CNT_FREEZE: a LINK_CTRL write that sets or clears CNT_FREEZE (R95). -/
def execLinkCntFreeze (via : Path) (on : Bool) (s : State) : Result :=
  .next (served s via (fun s v => writeLinkCtrl s v (setBit (linkCtrlWord s &&& 0x0008) 7 on)))

end Sys2Proof.Machine
end

