-- ==== Sys2Proof/Machine/Validate.lean ====
section
/-! DEFINITION. Validate: the validation of a configuration set (R211, R216): the range of every word, and the rules
between words and tables that each owning chapter states. A rule is judged at the highest word that takes part (R216).
-/

namespace Sys2Proof.Machine

open Sys2Proof

/-- A judged rule: table, word, and whether it holds there. -/
abbrev Check := Nat × Nat × Bool

/-- Checks for indexes 0 to n − 1. -/
def forAll (n : Nat) (f : Nat → List Check) : List Check := (List.range n).flatMap f

/-- The range checks of every word that a set lists, and of the upper word of a field whose lower word it lists. -/
def rangeChecks (set : List WCell) : List Check :=
  set.flatMap (fun c =>
    let t := c.1 / 4096
    let w := c.1 % 4096
    [(t, w, wordInRange set t w), (t, w + 1, !wordValid t (w + 1) || wordInRange set t (w + 1))])

/-- An OUT item code of Table CYC-4. -/
def outItemOk (i : Word) : Bool :=
  let k := i.toNat / 256
  let n := i.toNat % 256
  i == 0 || i == 0x1000 || (k == 0x11 && n < 16) || (k == 0x12 && n < 4) || i == 0x1300

/-- An IN item code of Table CYC-5. -/
def inItemOk (i : Word) : Bool :=
  let k := i.toNat / 256
  let n := i.toNat % 256
  i == 0 || i == 0x0100 || i == 0x0200 || i == 0x0300 || ((k == 4 || k == 5 || k == 6) && n < 16) || i == 0x0700 ||
  i == 0x0800

/-- R103: the MAP table. -/
def mapChecks (set : List WCell) : List Check :=
  let f := fun w lo n => setField set 3 w lo n
  let w := fun n => setGet set 3 n
  let oOfs := f 1 0 14
  let oLen := f 2 0 7
  let iOfs := f 3 0 14
  let iLen := f 4 0 7
  [(3, 1, oOfs % 2 == 0), (3, 2, oLen % 2 == 0), (3, 3, iOfs % 2 == 0), (3, 4, iLen % 2 == 0),
   (3, 4, oLen == 0 || iLen == 0 || decide (oOfs + oLen ≤ iOfs) || decide (iOfs + iLen ≤ oOfs)),
   (3, 8, decide (f 7 0 32 < f 5 0 32)), (3, 0xA, decide (f 9 0 32 < f 5 0 32))] ++
  forAll 32 (fun j =>
    let i := w (0x10 + j)
    [(3, 0x10 + j, outItemOk i && (i == 0 || decide (j < oLen / 2)) &&
      (i == 0 || !(List.range j).any (fun k => w (0x10 + k) == i)))]) ++
  forAll 31 (fun j =>
    let i := w (0x31 + j)
    [(3, 0x31 + j, inItemOk i && (i == 0 || decide (j + 1 < iLen / 2)))])

/-- R277: the CHAN table, channel n. -/
def chanChecks (set : List WCell) (n : Nat) : List Check :=
  let b := 16 * n
  let f := fun w lo k => setField set 4 w lo k
  let m := f b 0 4
  let lowN := b - 16
  let odd := n % 2 == 1
  let qep := m == 4
  let qepLow := f lowN 0 4 == 4
  let period := f (b + 3) 0 32
  let filt := f (b + 1) 0 4
  [(4, b, m != 10 || decide (n < 4)),
   (4, b, !odd || qep == qepLow),
   (4, b + 1, !(odd && qep && qepLow) || (filt == f (lowN + 1) 0 4 && f (b + 1) 8 2 == f (lowN + 1) 8 2)),
   (4, b + 1, f (b + 1) 4 2 == 0 || (1 ≤ m && m ≤ 3)),
   (4, b + 1, !qep || decide (filt ≤ 1)), (4, b + 1, m != 3 || decide (filt ≤ 2)),
   (4, b + 4, if m == 6 then period == 0 || (2500 ≤ period && period ≤ 12500000)
              else if m == 7 then 62500 ≤ period && period ≤ 12500000 else period == 0),
   (4, b + 5, m != 10 || decide (f (b + 5) 0 16 ≤ 16000)),
   (4, b + 8, f (b + 7) 0 32 == 0 || m == 3 || (qep && !odd))]

/-- R297: the SAFE table, profile p, channel n; the words of SLATE are reserved and so 0. -/
def safeChecks (set : List WCell) (p n : Nat) : List Check :=
  let w := 0x40 * p + 2 * n
  let kind := setField set 6 w 0 2
  let v := setField set 6 (w + 1) 0 16
  let m := setField set 4 (16 * n) 0 4
  let static := m == 5 || (m == 6 && setField set 4 (16 * n + 3) 0 32 == 0)
  [(6, w + 1, kind != 3 || ((m != 10 || decide (v ≤ 16000)) && (!static || decide (v ≤ 1))))]

/-- t_conv of a SAMPLE code, ns (Table ADC-3). -/
def convNs (sample : Nat) : Nat :=
  match sample with
  | 0 => 500 | 1 => 625 | 2 => 875 | 3 => 1375 | 4 => 2375 | 5 => 4375 | 6 => 8375 | _ => 16375

/-- A defined INPUT code (Table ADC-2). -/
def inputOk (i : Nat) : Bool := i < 0x25 || (0x28 ≤ i && i ≤ 0x2A)

/-- The rules of R339 on INPUT, GAIN and SAMPLE of an entry. -/
def entryOk (set : List WCell) (input sample gain : Nat) : Bool :=
  let mode := fun n => setField set 4 (16 * n) 0 4
  inputOk input &&
  (if input < 0x10 then
      (mode input == 8 || mode input == 9 || (mode input == 10 && input < 4 && gain == 0))
    else if input < 0x20 then
      (mode (input - 16) == 5 || mode (input - 16) == 6 || mode (input - 16) == 7)
    else gain == 0 && (0x24 < input || 3 ≤ sample))

/-- The nominal round time T of a set, in half nanoseconds (R311). -/
def roundHalfNs (set : List WCell) : Nat :=
  let es := List.range (setField set 7 0 0 5)
  let conv := fun e => setField set 7 (0x10 + 2 * e) 6 2
  let t := fun e => convNs (setField set 7 (0x10 + 2 * e) 8 3)
  let sum := fun c => (es.filter (fun e => conv e == c)).foldl (fun a e => a + t e) 0
  let ab := (es.filter (fun e => conv e == 2)).foldl
    (fun a e => a + (2 * setField set 7 (0x11 + 2 * e) 0 9 + 1) * t e) 0
  2 * Nat.max (sum 0) (sum 1) + ab

/-- R339: the ADCSEQ table. -/
def adcChecks (set : List WCell) : List Check :=
  let f := fun w lo k => setField set 7 w lo k
  let len := f 0 0 5
  let period := f 1 0 32
  let injPeriod := f 9 0 32
  let chMode := setField set 4 (16 * f 4 8 4) 0 4
  [(7, 2, period == 0 || decide (125 ≤ period)), (7, 3, f 3 0 9 % 2 == 0),
   (7, 4, f 4 4 2 != 2 || (1 ≤ chMode && chMode ≤ 4)), (7, 5, f 5 0 2 == 0),
   (7, 0xA, injPeriod == 0 || decide (2500 ≤ injPeriod)),
   (7, if len == 0 then 2 else 0xF + 2 * len, period == 0 || decide (roundHalfNs set ≤ 8 * period))] ++
  forAll 16 (fun e =>
    let w := 0x10 + 2 * e
    let input := f w 0 6
    let pairs := f (w + 1) 0 9
    if len ≤ e then [(7, w, setGet set 7 w == 0), (7, w + 1, setGet set 7 (w + 1) == 0)]
    else
      [(7, w, entryOk set input (f w 8 3) (f w 11 3)),
       (7, w + 1, (f w 6 2 == 2) == (pairs != 0)),
       (7, w + 1, f (w + 1) 11 1 == 0 || input == 0x28 ||
         (decide (input < 0x10) && setField set 4 (16 * input) 0 4 == 8))]) ++
  forAll 4 (fun i =>
    let w := 0x30 + i
    if f 4 0 3 ≤ i then [(7, w, setGet set 7 w == 0)]
    else [(7, w, entryOk set (f w 0 6) (f w 8 3) (f w 11 3))]) ++
  forAll 4 (fun k => [(7, 0x41 + 2 * k, decide (f (0x41 + 2 * k) 0 8 ≤ f (0x41 + 2 * k) 8 8))])

/-- R338, R339: the WINDOW table, comparator w. -/
def windowChecks (set : List WCell) (c : Nat) : List Check :=
  let b := 8 * c
  let low := (setGet set 9 (b + 1)).toInt
  let high := (setGet set 9 (b + 2)).toInt
  let hyst : Int := (setGet set 9 (b + 3)).toNat
  [(9, b, setField set 9 b 4 1 == 0 || decide (setField set 9 b 0 4 < setField set 7 0 0 5)),
   (9, b + 1, decide (-32767 ≤ low)), (9, b + 2, decide (-32767 ≤ high)),
   (9, b + 2, decide (low ≤ high)), (9, b + 3, decide (high < low) || decide (2 * hyst ≤ high - low))]

/-- R361: the CSPSEL table, select code c. -/
def cspChecks (set : List WCell) (c : Nat) : List Check :=
  let b := 8 * c
  let f := fun w lo k => setField set 0xA w lo k
  let bit := fun n => f b n 1 == 1
  let lmax := f b 2 2
  let lm := f (b + 4) 8 8
  let lanes := lm % 4
  let cmd1 := lm / 4 % 2 == 1
  let dummy := lm / 8
  let div := f (b + 1) 0 9
  let addr := if bit 10 then 4 else 3
  [(0xA, b, !bit 1 || (!bit 6 && !bit 7 && !bit 8)), (0xA, b, !bit 7 || bit 8),
   (0xA, b, bit 10 || decide (f b 11 5 ≤ 24)), (0xA, b, !bit 4 || decide (lmax ≤ 1)),
   (0xA, b + 1, !bit 4 || decide (4 ≤ div)),
   (0xA, b + 4, decide (lanes ≤ lmax) && !(cmd1 && lanes == 3) && (lanes != 2 || div != 1) &&
     (lanes == 0 || decide (2 ≤ dummy))),
   (0xA, b + 4, lanes != 3 || (bit 9 && (addr + b2n (bit 8)) % 2 == 0)),
   (0xA, b, c != 6 || (bit 0 && bit 1 && lmax == 0 && !bit 4)), (0xA, b + 1, c != 6 || decide (5 ≤ div))]

/-- R388: the PANEL table; two equal key assignments fail at the higher word. -/
def panelChecks (set : List WCell) : List Check :=
  let f := fun w lo => setField set 0xB w lo 6
  let back := f 0x10 0
  let enter := f 0x10 8
  let ack := f 0x11 0
  let jog := f 0x11 8
  let shift := f 0x12 0
  [(0xB, 0x10, back != enter), (0xB, 0x11, ack != back && ack != enter && jog != back && jog != enter && jog != ack),
   (0xB, 0x12, shift != back && shift != enter && shift != ack && shift != jog),
   (0xB, 0x0A, setField set 0xB 0x09 0 19 % 8 == 0)]

/-- R403: the WDOG table. -/
def wdogChecks (set : List WCell) : List Check :=
  [(0xC, 2, decide (setField set 0xC 2 0 16 < setField set 0xC 1 0 16))]

/-- R515: the HEALTH table. -/
def healthChecks (set : List WCell) : List Check :=
  let f := fun w lo k => setField set 0xE w lo k
  [(0xE, 1, decide (f 0 0 16 < f 1 0 16)), (0xE, 3, decide (f 2 0 16 < f 3 0 16)),
   (0xE, 5, decide (f 4 0 16 < f 5 0 16)), (0xE, 7, decide (f 6 0 10 < f 7 0 10)),
   (0xE, 8, decide (f 8 8 8 < f 8 0 8))]

/-- Every rule of a validation. -/
def allChecks (set : List WCell) : List Check :=
  rangeChecks set ++ mapChecks set ++ forAll 16 (chanChecks set) ++
  forAll 3 (fun p => forAll 16 (safeChecks set (p + 1))) ++ adcChecks set ++ forAll 8 (windowChecks set) ++
  forAll 8 (cspChecks set) ++ panelChecks set ++ wdogChecks set ++ healthChecks set

/-- The first failing table and word of a set, none when every rule holds (R216). -/
def firstFail (set : List WCell) : Option (Nat × Nat) :=
  (allChecks set).foldl (fun best c =>
    if c.2.2 then best
    else
      match best with
      | none => some (c.1, c.2.1)
      | some b => if cfgKey c.1 c.2.1 < cfgKey b.1 b.2 then some (c.1, c.2.1) else best) none

end Sys2Proof.Machine
end

