-- ==== Sys2Proof/Machine/Adc.lean ====
section
/-! DEFINITION. Adc: the measurement subsystem (chapter 13): conversions and rounds, the injected sequence, filters, window
comparators, calibration, the test-DAC diagnosis, the result FIFO and block captures. -/

namespace Sys2Proof.Machine

open Sys2Proof

/-! ### Entries (Table ADC-10) -/

/-- A field of the first word of regular entry e. -/
def entF (s : State) (e lo n : Nat) : Nat := cfgF s 7 (0x10 + 2 * e) lo n

/-- A field of the second word of regular entry e. -/
def entG (s : State) (e lo n : Nat) : Nat := cfgF s 7 (0x11 + 2 * e) lo n

/-- t_conv of regular entry e, ns (R307). -/
def entConvNs (s : State) (e : Nat) : Nat := convNs (entF s e 8 3)

/-- Results cross the barrier link: it is up, and no logic reset holds it (R334, Table LIN-5). -/
def adcCrosses (s : State) : Bool := !s.supply.barrierDown && !s.mode.logicReset

/-- An event of the field die with a code as ARG; one that cannot cross the barrier link is lost (R334). -/
def adcPost (s : State) (code argx : Nat) (v : Int) : State := if adcCrosses s then post s code argx (iword v) else s

/-- Both converters are free. -/
def adcIdle (s : State) : Bool := !s.adc.inRound && !s.adc.injBusy && !s.adc.longBurst

/-! ### The result FIFO (R328, R329, Table ADC-8) -/

/-- A record header. -/
def fifoHeader (entry kind : Nat) (convB : Bool) (seq : Nat) : Word :=
  pack [(entry % 16, 0), (kind, 4), (b2n convB, 6), (1, 7), (seq % 256, 8)]

/-- Words enter the FIFO; a level that reaches FIFO_THR from below is reported once (R329). -/
def fifoAdd (s : State) (l : List Word) : State :=
  let thr := cfgF s 7 3 0 9
  let s' := { s with adc := { s.adc with fifo := s.adc.fifo ++ l } }
  if s.adc.fifo.length < thr && thr ≤ s'.adc.fifo.length then post s' 0xC2 0 (adcFlevelWord s') else s'

/-- One record: dropped with OVF when two words are not free; the first record after drops comes behind a marker of
value 2, so it needs four free words: DEDUCED, log 13 (R328). -/
def fifoPut (s : State) (header value : Word) : State :=
  if !adcCrosses s then s
  else
    let need := if s.adc.fifoDropped then 4 else 2
    if 256 < s.adc.fifo.length + need then { s with adc := { s.adc with fifoOvf := true, fifoDropped := true } }
    else
      let mark := if s.adc.fifoDropped then [fifoHeader 0 3 false s.adc.rounds, 2] else []
      fifoAdd { s with adc := { s.adc with fifoDropped := false } } (mark ++ [header, value])

/-- A marker record (R328). -/
def fifoMarker (s : State) (value : Word) : State := fifoPut s (fifoHeader 0 3 false s.adc.rounds) value

/-! ### Captures (R330, R331) -/

/-- A sample goes to the capture: it takes the first whose sample instant is at or after its start (R330). -/
def captureSample (s : State) (v : Int) (t : Nat) : State :=
  match s.adc.capture with
  | none => s
  | some c =>
    if !adcCrosses s || c.want ≤ c.got || (c.got == 0 && t < c.start) then s
    else
      let s := s.store (captureBase + 2 * c.got) (wordsToBytes [iword v])
      { s with adc := { s.adc with capture := some { c with got := c.got + 1,
                                                             firstT := some (c.firstT.getD t) } } }

/-- The capture of a kind takes the sample of an entry. -/
def captureOf (s : State) (kind e : Nat) (v : Int) (t : Nat) : State :=
  match s.adc.capture with
  | some c => if c.kind == kind && c.entry == e then captureSample s v t else s
  | none => s

/-- A waiting kind-2 capture whose start time has come begins its long burst on free converters (R316). -/
def longStart (s : State) : State :=
  match s.adc.capture with
  | some c =>
    if c.kind == 2 && c.got < c.want && adcIdle s && c.start ≤ s.time.line then
      { s with adc := { s.adc with longBurst := true, longB := false } }
    else s
  | none => s

/-! ### Corrections (R309, R325) -/

/-- Saturation to ±32,767. -/
def satCode (v : Int) : Int := clampInt (-32767) 32767 v

/-- The kind of a calibration point: 0 AI-V 0 to 10 V, 1 AI-V ±10 V, 2 AI-I, 3 output current sense; none for another
input. -/
def calKind (s : State) (input : Nat) : Option Nat :=
  if input < 0x10 then
    match chMode s input with
    | 8 => some (cfgF s 4 (16 * input + 2) 0 1)
    | 9 => some 2
    | _ => none
  else if input < 0x20 && isOutput (chMode s (input - 16)) && chMode s (input - 16) != 10 then some 3
  else none

/-- The pair stored for a point. -/
def calPair (s : State) (input kind gain : Nat) : Option CalPair :=
  s.adc.calStore.find? (fun p => p.input == input % 16 && p.kind == kind && p.gain == gain)

/-- The system calibration of a trimmed sample (R325); a calibration step bypasses that of its entry (R324). -/
def calibrate (s : State) (input gain : Nat) (x : Int) : Int :=
  match calKind s input with
  | none => x
  | some k =>
    match calPair s input k gain with
    | some p => roundDiv ((16 * x - p.z16) * p.g20) (2 ^ 24)
    | none => x

/-- The raw result of regular entry e from a conversion of a converter: its factory trim, the system calibration, saturation; and
the state with the entry's OVR_CNT (R309, R315). -/
def rawOf (s : State) (convB : Bool) (e : Nat) (x : Int) : Int × State :=
  let bypass := (s.adc.calStep.map (fun c => c.entry == e)).getD false
  let x := Config.factoryTrim convB (entF s e 11 3) x
  let y := if bypass then x else calibrate s (entF s e 0 6) (entF s e 11 3) x
  let v := satCode y
  (v, if v == y then s else { s with adc := { s.adc with ovr := setAt s.adc.ovr e (satAdd 255 (s.adc.ovr.getD e 0) 1) } })

/-! ### Filters (R320, R321) -/

/-- Running sums of a list. -/
def prefixSums (acc : Nat) (l : List Nat) : List Nat :=
  match l with
  | [] => []
  | x :: r => (acc + x) :: prefixSums (acc + x) r

/-- A list convolved with d ones. -/
def boxConv (d : Nat) (l : List Nat) : List Nat :=
  let p := prefixSums 0 (l ++ List.replicate (d - 1) 0)
  List.zipWith (· - ·) p (List.replicate d 0 ++ p)

/-- The sinc^n response with decimation d: n(d − 1) + 1 coefficients, not normalised. -/
def sincCoef (n d : Nat) : List Nat :=
  match n with
  | 0 => [1]
  | k + 1 => boxConv d (sincCoef k d)

/-- The sum of coefficients times samples. -/
def dot (c : List Nat) (h : List Int) : Int :=
  match c, h with
  | a :: c', x :: h' => a * x + dot c' h'
  | _, _ => 0

/-- ORDER of entry e's filter. -/
def filtOrder (s : State) (e : Nat) : Nat := cfgF s 8 (4 * e) 0 3

/-- D of entry e's filter. -/
def filtDec (s : State) (e : Nat) : Nat := cfgF s 8 (4 * e + 1) 0 11

/-- A filter with one more input sample, and its output if it emits one (R320, R321). -/
def filterStep (order d : Nat) (f : FilterState) (v : Int) : FilterState × Option Int :=
  let hist := (v :: f.hist).take (order * (d - 1) + 1)
  let n := f.n + 1
  if order == 0 then ({ hist, n, out := some v }, some v)
  else if n % d == 0 && order * d + 2 ≤ n then
    let y := satCode (roundDiv (dot (sincCoef order d) hist) (d ^ order))
    ({ hist, n, out := some y }, some y)
  else ({ f with hist, n }, none)

/-! ### Window comparators (R322) -/

/-- A comparator's exit: counted and reported. -/
def winExit (s : State) (w : Nat) (v : Int) : State :=
  let s := { s with adc := { s.adc with wins := setAt s.adc.wins w .outside,
                                         exits := setAt s.adc.exits w (sat16 (s.adc.exits.getD w 0)) } }
  adcPost s 0xC0 w v

/-- Comparator w judges an output of its entry (R322). -/
def winJudge (s : State) (w : Nat) (v : Int) : State :=
  let low := sword (cfgW s 9 (8 * w + 1))
  let high := sword (cfgW s 9 (8 * w + 2))
  let hyst : Int := (cfgW s 9 (8 * w + 3)).toNat
  let out : Bool := v < low || high < v
  match s.adc.wins.getD w .unknown with
  | .unknown =>
    if out then winExit s w v else { s with adc := { s.adc with wins := setAt s.adc.wins w .inside } }
  | .inside => if out then winExit s w v else s
  | .outside =>
    if low + hyst ≤ v && v ≤ high - hyst then
      let s := { s with adc := { s.adc with wins := setAt s.adc.wins w .inside } }
      if cfgB s 9 (8 * w) 5 then adcPost s 0xC1 w v else s
    else s

/-- Every enabled comparator of entry e judges an output. -/
def winAll (s : State) (e : Nat) (v : Int) : State :=
  eachNo ((upTo 8).filter (fun w => cfgB s 9 (8 * w) 4 && cfgF s 9 (8 * w) 0 4 == e)) (fun s w => winJudge s w v) s

/-! ### A filter's input and output -/

/-- A settled output of the entry of a calibration step is summed by the core, which sees what crosses (R324, R334). -/
def calSum (s : State) (e : Nat) (v : Int) : State :=
  match s.adc.calStep with
  | some c =>
    if adcCrosses s && c.entry == e && c.n < 16 then { s with adc := { s.adc with calStep := some { c with sum := c.sum + v, n := c.n + 1 } } }
    else s
  | none => s

/-- An output of entry e's filter goes to the FIFO, the capture, the comparators and a calibration step. -/
def filterOut (s : State) (e : Nat) (v : Int) (t : Nat) : State :=
  let s := if entG s e 9 2 == 1 || entG s e 9 2 == 3 then fifoPut s (fifoHeader e 0 false s.adc.rounds) (iword v) else s
  calSum (winAll (captureOf s 1 e v t) e v) e v

/-- An input sample of entry e's filter. -/
def filterIn (s : State) (e : Nat) (v : Int) (t : Nat) : State :=
  let s := captureOf s 0 e v t
  let (f, y) := filterStep (filtOrder s e) (filtDec s e) (s.adc.filters.getD e {}) v
  let s := { s with adc := { s.adc with filters := setAt s.adc.filters e f } }
  match y with
  | some y => filterOut s e y t
  | none => s

/-! ### The test-DAC diagnosis (R327) -/

/-- Entry e is tested. -/
def dacTested (s : State) (e : Nat) : Bool := e < regLen s && entG s e 11 1 == 1

/-- The tested entries. -/
def dacEntries (s : State) : List Nat := (upTo (regLen s)).filter (dacTested s)

/-- A measured code is compared with the expected one of the step (R327). -/
def dacCompare (s : State) (step e : Nat) (v : Int) : State :=
  let code := cfgF s 7 (0x40 + 2 * step) 0 12
  let want : Int := roundDiv (code * 125 * 2 ^ entF s e 11 3 : Nat) 64
  let err := (v - want).natAbs
  if cfgF s 7 (0x41 + 2 * step) 8 8 < err then
    let s := { s with adc := { s.adc with failMap := setBit s.adc.failMap e true, dacFail := true } }
    post s 0xC5 step (iword v)
  else if cfgF s 7 (0x41 + 2 * step) 0 8 < err then
    { s with adc := { s.adc with margMap := setBit s.adc.margMap e true } }
  else s

/-- A turn of a tested entry that began at `from_`: compared once the path has settled; the last comparison of a step sets
the test DAC to the next (R327). -/
def dacTurn (s : State) (d : DacRun) (e : Nat) (v : Int) (from_ : Nat) : State :=
  if from_ < d.settleT || !d.todo.contains e || !adcCrosses s then s
  else
    let s := dacCompare s d.step e v
    let todo := d.todo.filter (fun x => x != e)
    let d := if todo.isEmpty && d.step < 3 then
        { step := d.step + 1, todo := dacEntries s, settleT := s.time.line + 4000 }
      else { d with todo }
    { s with adc := { s.adc with dac := some d } }

/-- One turn of regular entry e with its value: a test turn gives the filter its previous input again (R311, R327). -/
def turn (s : State) (e : Nat) (v : Int) (t from_ : Nat) : State :=
  match s.adc.dac with
  | some d =>
    if dacTested s e then
      let s := dacTurn s d e v from_
      match (s.adc.filters.getD e {}).hist with
      | x :: _ => filterIn s e x t
      | [] => s
    else filterIn s e v t
  | none => filterIn s e v t

/-! ### Conversions (R311, R314, R316, R318, R319) -/

/-- A raw sample of regular entry e goes to the FIFO (R328). -/
def rawFifo (s : State) (e : Nat) (convB : Bool) (v : Int) : State :=
  if 2 ≤ entG s e 9 2 then fifoPut s (fifoHeader e 1 convB s.adc.rounds) (iword v) else s

/-- The converters are free: a waiting long burst, a delayed round or the next back-to-back round starts. -/
def adcNext (s : State) : State :=
  if !adcIdle s then s
  else
    let s := longStart s
    if s.adc.longBurst || !s.adc.running then s
    else if s.adc.delayed || cfgF s 7 1 0 32 == 0 then beginRound s
    else s

/-- The round ends when no entry is left (R311). -/
def roundCheck (s : State) : State :=
  if s.adc.inRound && s.adc.phaseA.isEmpty && s.adc.phaseB.isEmpty && s.adc.bursts.isEmpty then
    adcNext { s with adc := { s.adc with inRound := false } }
  else s

/-- An injected conversion ends on converter `convB` (R309, R319); a result that cannot cross the barrier link is lost (R334). -/
def injResult (s : State) (convB : Bool) (i : Nat) (x : Int) (t : Nat) : State :=
  let gain := cfgF s 7 (0x30 + i) 11 3
  let v := satCode (calibrate s (cfgF s 7 (0x30 + i) 0 6) gain (Config.factoryTrim convB gain x))
  let cross := adcCrosses s
  let s := { s with adc := { s.adc with
    injRes := if cross then setAt s.adc.injRes i (iword v) else s.adc.injRes
    injTime := if cross && i == 0 then BitVec.ofNat 32 t else s.adc.injTime
    injA := if convB then s.adc.injA else s.adc.injA.drop 1, injB := if convB then s.adc.injB.drop 1 else s.adc.injB } }
  let s := if cfgB s 7 4 14 then fifoPut s (fifoHeader i 2 convB s.adc.injSeq) (iword v) else s
  if s.adc.injA.isEmpty && s.adc.injB.isEmpty then
    adcNext { s with adc := { s.adc with injBusy := false, injSeq := (s.adc.injSeq + 1) % 65536 } }
  else s

/-- A conversion of phase 1 ends (R311). -/
def phaseResult (s : State) (convB : Bool) (e : Nat) (x : Int) (t : Nat) : State :=
  let (v, s) := rawOf s convB e x
  let s := { s with adc := { s.adc with
    phaseA := if convB then s.adc.phaseA else s.adc.phaseA.drop 1
    phaseB := if convB then s.adc.phaseB.drop 1 else s.adc.phaseB } }
  let s := rawFifo s e convB v
  roundCheck (turn s e v t (t + 375 - entConvNs s e))

/-- A conversion of a burst ends; the mean of its samples is the turn's value (R314). -/
def burstResult (s : State) (convB : Bool) (e : Nat) (x : Int) (t : Nat) : State :=
  if convB != s.adc.half.isSome then s
  else
    let (v, s) := rawOf s convB e x
    let s := rawFifo s e convB v
    match s.adc.half with
    | none => { s with adc := { s.adc with half := some v } }
    | some a =>
      let sum := s.adc.burstSum + a + v
      let n := s.adc.pairs + 1
      let pairs := entG s e 0 9
      if n < pairs then { s with adc := { s.adc with half := none, burstSum := sum, pairs := n } }
      else
        let s := { s with adc := { s.adc with half := none, burstSum := 0, pairs := 0, bursts := s.adc.bursts.drop 1 } }
        roundCheck (turn s e (roundDiv sum (2 * n)) t (t + 375 - (2 * pairs + 1) * entConvNs s e / 2))

/-- A conversion of a long burst ends (R316). -/
def longResult (s : State) (convB : Bool) (x : Int) (t : Nat) : State :=
  match s.adc.capture with
  | none => s
  | some c =>
    if convB != s.adc.longB then s
    else
      let (v, s) := rawOf s convB c.entry x
      let s := captureSample { s with adc := { s.adc with longB := !s.adc.longB } } v t
      match s.adc.capture with
      | some c => if c.want ≤ c.got then adcNext { s with adc := { s.adc with longBurst := false, longB := false } } else s
      | none => s

/-- The injected sequence uses a converter (R317). -/
def injUses (s : State) (convB : Bool) : Bool :=
  (upTo (injLen s)).any (fun i => (cfgF s 7 (0x30 + i) 6 1 == 1) == convB)

/-- A conversion that ends on a converter at a line time is held off by the injected sequence: the sequence uses the converter
and has not finished on both (R318). A regular conversion that ends on the tick of the trigger completes (R319). -/
def injHolds (s : State) (convB : Bool) (ends : Nat) : Bool := s.adc.injBusy && injUses s convB && s.adc.injAt < ends

/-- A conversion ends on a converter with its raw sample (R307, R318, R319). -/
def conversion (s : State) (convB : Bool) (x : Int) (t : Nat) : State :=
  let inj := if convB then s.adc.injB else s.adc.injA
  let mine := if convB then s.adc.phaseB else s.adc.phaseA
  if s.adc.longBurst then longResult s convB x t
  else if injHolds s convB (t + 375) then
    match inj with
    | i :: _ => injResult s convB i x t
    | [] => s
  else
    match mine with
    | e :: _ => phaseResult s convB e x t
    | [] =>
      if s.adc.injBusy then s
      else if s.adc.phaseA.isEmpty && s.adc.phaseB.isEmpty then
        match s.adc.bursts with
        | e :: _ => burstResult s convB e x t
        | [] => s
      else s

/-- CONVERSION_END: a conversion ends on converter A or B; `x` is its raw sample, `t` its sample instant, 375 ns
before (R307, R309). -/
def execConversionEnd (convB : Bool) (x : Int) (t : Nat) (s : State) : Result :=
  if !(!s.mode.fieldReset && !s.mode.porst) then .next s
  else .next (conversion (s.reach (t + 375)) convB x t)

/-- ROUND_START: a scheduled start of a round; converters in use delay it, and a delayed round that has not started is
dropped (R312). -/
def execRoundStart (s : State) : Result :=
  let per := 4 * cfgF s 7 1 0 32
  if !s.adc.running || per == 0 || s.mode.fieldReset || s.mode.porst then .next s
  else
    let t := (s.time.line + per - 1) / per * per
    let s := s.reach (if s.adc.roundT == some t then t + per else t)
    let s := { s with adc := { s.adc with roundT := some s.time.line } }
    if adcIdle s then .next (beginRound s)
    else
      let slip := b2n s.adc.delayed
      .next { s with adc := { s.adc with delayed := true, roundLate := sat16 s.adc.roundLate,
                                          roundSlip := satAdd 0xFFFF s.adc.roundSlip slip } }

/-- INJ_TIME_TRIGGER: the line-time injection source fires at its next instant (R317). -/
def execInjTimeTrigger (s : State) : Result :=
  match injDue s with
  | some t =>
    if injTimed s then
      let s := s.reach t
      .next (injTrigger { s with adc := { s.adc with injNext := s.adc.injNext + 1 } })
    else .next s
  | none => .next s

/-- LONG_BURST_START: the start time of a kind-2 capture arrives while the converters are idle (R316). -/
def execLongBurstStart (s : State) : Result :=
  match s.adc.capture with
  | some c => if c.kind == 2 && adcIdle s then .next (longStart (s.reach c.start)) else .next s
  | none => .next s

/-- AO_READBACK_SAMPLE: the readback monitor of an AO-V channel delivers a code (R310). -/
def execAoReadbackSample (n : Nat) (code : Word) (s : State) : Result :=
  if chMode s n == 10 && !s.mode.fieldReset && !s.mode.porst then .next (s.onChan n (fun c => { c with sensed := code }))
  else .next s

/-! ### Calibration (R324 to R326) -/

/-- The step in events: 1 zero, 2 full. -/
def calNo (full : Bool) : Nat := if full then 2 else 1

/-- A refusal: CAL_REF, CAL_CAUSE, CAL_REFUSED; the previous pair stays (R326). -/
def calRefuse (s : State) (full : Bool) (e cause : Nat) : State :=
  post { s with adc := { s.adc with calRef := true, calCause := cause } } 0xC4 (calNo full) (word e)

/-- CMD_REF is set. -/
def cmdRefuse (s : State) : State := { s with adc := { s.adc with cmdRef := true } }

/-- A calibration step is asked for (R324). -/
def calStart (s : State) (full : Bool) (e : Nat) : State :=
  let refuse := fun (cause : Nat) => calRefuse (cmdRefuse s) full e cause
  if !(s.mode.mode == .setup || s.mode.mode == .safe) then refuse 1
  else if regLen s ≤ e || (calKind s (entF s e 0 6)).isNone then refuse 2
  else if !s.adc.running then refuse 3
  else if full && !((s.adc.calZero.map (fun z => z.1 == e)).getD false) then refuse 5
  else
    let z := if full then s.adc.calZero else none
    let s := { s with adc := { s.adc with calZero := z, calStep := some { entry := e, full, sum := 0, n := 0, startT := s.time.line } } }
    restartFilter s e

/-- CAL_ABORT naming the pending entry (R324). -/
def calAbort (s : State) (e : Nat) : State :=
  let step := (s.adc.calStep.map (fun c => c.entry == e)).getD false
  let zero := (s.adc.calZero.map (fun z => z.1 == e)).getD false
  if step || zero then
    let s := if step then calAbortStep s else s
    { s with adc := { s.adc with calZero := none } }
  else cmdRefuse s

/-- Target and zero band of a kind of point (Table ADC-7). -/
def calTarget (kind : Nat) : Int × Int :=
  match kind with
  | 2 => (20000, 400)
  | 3 => (8000, 160)
  | _ => (32000, 640)

/-- GAIN20 from the two sums (R325). -/
def calGain (kind : Nat) (z16 f16 : Int) : Int := roundDiv (16 * (calTarget kind).1 * 2 ^ 20) (f16 - z16).toNat

/-- The step ends with a refusal. -/
def calStepRefuse (s : State) (c : CalStep) (cause : Nat) : State :=
  calRefuse { s with adc := { s.adc with calStep := none } } c.full c.entry cause

/-- The pair that an accepted full step stores, none when it is refused (R325). -/
def calNewPair (s : State) (c : CalStep) : Option CalPair :=
  match calKind s (entF s c.entry 0 6), s.adc.calZero with
  | some k, some (_, z) =>
    if c.sum - z ≤ 0 then none
    else
      let g := calGain k z c.sum
      if 100 * g < 95 * 2 ^ 20 || 105 * 2 ^ 20 < 100 * g then none
      else some { input := entF s c.entry 0 6 % 16, kind := k, gain := entF s c.entry 11 3, z16 := z, g20 := g }
  | _, _ => none

/-- CAL_STEP_DONE: 16 settled outputs are summed; a zero step is accepted or refused, a full step is refused or its pair
goes to the calibration store (R325, R326). -/
def execCalStepDone (s : State) : Result :=
  match s.adc.calStep with
  | none => .next s
  | some c =>
    if c.n < 16 || !coreRuns s || s.flash.progQ.any (fun p => p.owner = .cal) ||
        (s.flash.prog.map (fun p => decide (p.owner = .cal))).getD false then .next s
    else if !c.full then
      let band := match calKind s (entF s c.entry 0 6) with
        | some k => 16 * (calTarget k).2
        | none => -1
      if band < (c.sum.natAbs : Int) then .next (calStepRefuse s c 4)
      else
        let s := { s with adc := { s.adc with calStep := none, calZero := some (c.entry, c.sum) } }
        .next (post s 0xC3 1 (word c.entry))
    else
      match calNewPair s c with
      | none => .next (calStepRefuse s c 6)
      | some p => .next (calProgram s p)

/-- The store with a pair for its point. -/
def calPut (l : List CalPair) (p : CalPair) : List CalPair :=
  l.filter (fun x => !(x.input == p.input && x.kind == p.kind && x.gain == p.gain)) ++ [p]

/-- The write of a full step's pair has ended (R326). -/
def calWritten (s : State) (ok : Bool) : State :=
  match s.adc.calStep with
  | none => s
  | some c =>
    match ok, calNewPair s c with
    | true, some p =>
      let s := { s with adc := { s.adc with calStep := none, calZero := none, calStore := calPut s.adc.calStore p } }
      post s 0xC3 2 (word c.entry)
    | _, _ => calStepRefuse s c 8

/-- CAL_TIMEOUT: a step finds no settled result within 10 s (R326). -/
def execCalTimeout (s : State) : Result :=
  match s.adc.calStep with
  | some c =>
    if c.n == 0 && coreRuns s then .next (calStepRefuse (s.reach (c.startT + 10000000000)) c 9) else .next s
  | none => .next s

/-- FLASH_PROGRAM_DONE: the unit program in progress ends: 0 verified, 1 verified after its retry, 2 failed after it; a
retry retires the sector, and the owner learns of a failure (R475, R490). -/
def execFlashProgramDone (outcome : Nat) (s : State) : Result :=
  let s := flashRun s
  match s.flash.prog with
  | none => .next s
  | some p =>
    let s := { s with flash := { s.flash with prog := none } }
    let (bytes, s) := if outcome < 2 then (p.data, s) else (badUnit s.free, { s with free := s.free + 1 })
    let s := s.flashWrite p.addr bytes
    let s := if outcome == 0 then s else retire s (sectorOf p.addr) 1
    let s := if outcome < 2 then programDone s p else programFailed s p
    .next (flashRun (if p.owner = .cal then calWritten s (decide (outcome < 2)) else s))

/-! ### Commands (R332, Table ADC-9) -/

/-- REG_START (R313). -/
def regStart (s : State) : State :=
  if s.mode.fieldReset then s
  else if regLen s == 0 then cmdRefuse s
  else if s.adc.running then s
  else
    let s := fifoMarker (restartFilters { s with adc := { s.adc with running := true } }) 3
    if cfgF s 7 1 0 32 == 0 && adcIdle s then beginRound s else s

/-- REG_STOP: conversions are aborted, a capture is cut short, a calibration step ends (R313, R326, R330). -/
def regStop (s : State) : State :=
  if s.adc.running then captureCut (calAbortStep (abortRound { s with adc := { s.adc with running := false } })) else s

/-- DAC_TEST (R327). -/
def dacStart (s : State) : State :=
  if s.adc.dac.isSome || (dacEntries s).isEmpty then cmdRefuse s
  else { s with adc := { s.adc with dac := some { step := 0, todo := dacEntries s, settleT := s.time.line + 4000 } } }

/-- What an ADC_CMD code does (Table ADC-9). -/
def adcAct (s : State) (code e : Nat) : State :=
  match code with
  | 1 => regStart s
  | 2 => regStop s
  | 3 => if injLen s == 0 then cmdRefuse s else if s.mode.fieldReset then s else injTrigger s
  | 4 => calStart s false e
  | 5 => calStart s true e
  | 6 => calAbort s e
  | 7 => { s with adc := { s.adc with fifo := [] } }
  | 8 => dacStart s
  | _ => cmdRefuse s

/-- A write to ADC_CMD (R194, R332). -/
def regAdcCmd (s : State) (v : Acc) (w : Word) : Done :=
  let code := bitsOf w 0 4
  let good := w.toNat < 256 && 1 ≤ code && code ≤ 8
  let core := good && (code == 4 || code == 5 || code == 6 || code == 8)
  regWrite s v 0x58 false core (fun s => (if good then adcAct s code (bitsOf w 4 4) else cmdRefuse s, 0))

/-- An ADC_CMD write of a code and an entry. -/
def adcCmd (via : Path) (code e : Nat) (s : State) : Result :=
  .next (served s via (fun s v => regAdcCmd s v (word (code + 16 * (e % 16)))))

/-- REG_START (R313). -/
def execRegStart (via : Path) (s : State) : Result := adcCmd via 1 0 s

/-- REG_STOP (R313). -/
def execRegStop (via : Path) (s : State) : Result := adcCmd via 2 0 s

/-- INJ_TRIG (R317). -/
def execInjTrig (via : Path) (s : State) : Result := adcCmd via 3 0 s

/-- CAL_ZERO (R324). -/
def execCalZero (via : Path) (e : Nat) (s : State) : Result := adcCmd via 4 e s

/-- CAL_FULL (R324). -/
def execCalFull (via : Path) (e : Nat) (s : State) : Result := adcCmd via 5 e s

/-- CAL_ABORT (R324). -/
def execCalAbort (via : Path) (e : Nat) (s : State) : Result := adcCmd via 6 e s

/-- FIFO_CLR (R328). -/
def execFifoClr (via : Path) (s : State) : Result := adcCmd via 7 0 s

/-- DAC_TEST (R327). -/
def execDacTest (via : Path) (s : State) : Result := adcCmd via 8 0 s

/-- DAC_TEST_DONE: the four steps are done and the terminals reconnected (R327). -/
def execDacTestDone (s : State) : Result :=
  match s.adc.dac with
  | some d =>
    if d.step == 3 && d.todo.isEmpty then
      .next { s with adc := { s.adc with dac := none, dacDone := (s.adc.dacDone + 1) % 256 } }
    else .next s
  | none => .next s

/-- A read of ADC_FIFO pops its oldest word (R328); in MINIMAL it reads 0 and pops nothing (R195). -/
def readAdcFifo (s : State) (v : Acc) : State × Word :=
  if v.mode == .minimal then (s, 0)
  else
    match s.adc.fifo with
    | w :: r => ({ s with adc := { s.adc with fifo := r } }, w)
    | [] => (s, 0)

/-- ADC_FIFO_READ (R328). -/
def execAdcFifoRead (via : Path) (s : State) : Result := .next (servedRead s via readAdcFifo)

/-! ### ADC_CAPT (R330, R331) -/

/-- The detail of a refused capture, 0 for none (R331); a field die in reset, whose sequence is stopped too, gives 0x0004:
DEDUCED, log 97. -/
def captCheck (s : State) (entry kind : Nat) : Nat :=
  if s.adc.capture.isSome then 1
  else if regLen s ≤ entry || (kind == 2 && entryConv s entry != 2) then 2
  else if s.mode.fieldReset || s.supply.barrierDown then 4
  else if !s.adc.running then 3
  else if kind == 2 && (s.adc.calStep.isSome || s.adc.dac.isSome) then 5
  else 0

/-- A capture starts, or is refused with its detail. -/
def captStart (s : State) (entry kind count start : Nat) (f : Requester) : State :=
  match captCheck s entry kind with
  | 0 =>
    let s := srcBegin s f
    longStart { s with adc := { s.adc with
      capture := some { entry, kind, want := count, got := 0, start, firstT := none, for_ := f }, captured := 0 } }
  | d => xferErr s f d

/-- ADC_CAPT of the command queue (Table HBU-9). -/
def captQueue (s : State) (p : Path) (d : Descriptor) : State :=
  let f : Requester := .queue p d
  if s.mode.coreReset then srcRefuse s f 0x0914
  else if 15 < d.sub || 2 < d.arg0 || d.arg1 == 0 || 32768 < d.arg1 then srcRefuse s f 0x0922
  else
    let s := wake s 0x06
    let start := if d.len0 == 0 then 0 else memNat s (apertureBase + d.off0) 8
    captStart s d.sub d.arg0 d.arg1 start f

/-- ADC_CAPT of the line path (Table ACY-8). -/
def captLine (s : State) (t : Txn) : State :=
  captStart s (byteAt t.data 0) (byteAt t.data 1) (fieldAt t.data 2 2) (fieldAt t.data 4 8)
    (.line t.id)

/-- ADC_CAPT: a descriptor is posted, or a held transaction executes (R330). -/
def execAdcCapt (src : Source) (s : State) : Result :=
  match src with
  | .queue via d => postFrom s via d 0x10 (fun d s => captQueue s via d)
  | .line b a t => withTxn s b a t 0x0A captLine

/-- CAPTURE_DONE: the capture has the samples wanted, or was cut short, and completes (R330). -/
def execCaptureDone (s : State) : Result :=
  match s.adc.capture with
  | none => .next s
  | some c =>
    if c.got < c.want then .next s
    else
      let first := leBytes 8 (c.firstT.getD 0)
      let s := { s with adc := { s.adc with capture := none, captured := c.got } }
      match c.for_ with
      | .queue p d =>
        let s := if srcAlive s c.for_ && d.len1 == 8 then s.store (apertureBase + d.off1) first else s
        .next (complete s p d outOk c.got)
      | .line id => .next (endTxn s id 0 (leBytes 2 c.got ++ [0, 0] ++ first) true)

/-- CAPT_READ: samples of the capture area (R134, Table ACY-8). -/
def captRead (s : State) (t : Txn) : State :=
  let first := fieldAt t.data 0 2
  let n := fieldAt t.data 2 2
  if 32768 < first + n then endTxn s t.id 0x04 [] false
  else endTxn s t.id 0 (memBytes s.mem (captureBase + 2 * first) (2 * n)) false

/-- CAPT_READ (R134). -/
def execCaptRead (bcast anchor : Bool) (tag : Nat) (s : State) : Result := withTxn s bcast anchor tag 0x0B captRead

/-! ### Field resets (R194, R334) -/

/-- A field reset stops everything and empties the FIFO (R194, R326, R330, R334). -/
def adcFieldReset (s : State) : State :=
  let s := captureCut (abortRound (calAbortStep s))
  { s with adc := { s.adc with running := false, injBusy := false, injA := [], injB := [], dac := none, fifo := [] } }

/-- The field die takes its tables at the end of a field start: AUTO_START (R313, R334). -/
def adcFieldStart (s : State) : State :=
  let s := injReindex { s with adc := { s.adc with roundT := none } }
  if cfgB s 7 0 8 && regLen s != 0 then regStart s else restartFilters s

end Sys2Proof.Machine
end

