-- ==== Sys2Proof/Machine/Health.lean ====
section
/-! DEFINITION. Health: the health monitor, the trace ring and the persistent trace, and the fault injectors
(chapter 21). -/

namespace Sys2Proof.Machine

open Sys2Proof

/-! ### Health reasons (R493 to R497, Table HLT-2) -/

/-- Reason 1 follows the thermal totals. -/
def healthDriver (s : State) : State :=
  let any := fun (w : Nat) => s.health.thermTotal.any (fun x => decide (cfgF s 0xE w 0 16 ≤ x))
  let s := warnFollow s 1 (any 0)
  if any 1 then replaceRaise s 1 false else s

/-- The charge time lies above a number of seconds: the measured one, or, with no reading at HOLD_MIN yet, the time since the
release of PORST_N (Table HLT-2). -/
def chargeAbove (s : State) (secs : Nat) : Bool :=
  if s.health.holdCt == 0xFFFF then s.mode.porT + 1000000000 * secs ≤ s.time.line else 10 * secs < s.health.holdCt

/-- Reason 4 follows the charge time; a replace bit that REPL_CLR cleared waits for the next boot (R495). -/
def healthHold (s : State) : State :=
  let s := warnFollow s 4 (chargeAbove s (cfgF s 0xE 6 0 10))
  if chargeAbove s (cfgF s 0xE 7 0 10) && !s.health.holdClr then replaceRaise s 4 false else s

/-- The reasons 1, 4 and 5 follow their thresholds (R494). -/
def healthEval (s : State) : State := epochHealth (healthHold (healthDriver s))

/-- The newest summary page is loaded at the first boot behind a power-on reset: THERM_TOTAL adds the trips counted since, and
POR_COUNT is that of the page (R508). -/
def loadSummary (s : State) : State :=
  if s.health.loaded then s
  else
    let (n, t) := match s.health.summary with
      | some (n, t, _) => (n, t)
      | none => (0, List.replicate 16 0)
    let total := (List.range 16).map (fun i => s.health.thermTotal.getD i 0 + t.getD i 0)
    { s with health := { s.health with loaded := true, porCount := n, thermTotal := total } }

/-- Step 11 of a boot evaluates reasons 0, 1, 4 and 5 from their stored inputs (R451, R495, R508, Table HLT-2). -/
def healthBoot (s : State) : State :=
  let s := loadSummary { s with health := { s.health with holdClr := false } }
  let s := warnFollow s 0 (sparesLeft s ≤ 7)
  let s := if s.sec.keysBad then replaceRaise s 0 true
    else if sparesLeft s ≤ 3 || !s.flash.worn.isEmpty then replaceRaise s 0 false else s
  healthEval { s with health := { s.health with replaceDriven := true } }

/-- A rate reason is judged (R494): `i` is its place in the run lists, `bad` the warning condition, `worse` the replace
condition. -/
def judgeRate (s : State) (r i : Nat) (bad worse : Bool) : State :=
  let clear := if bad then 0 else s.health.clearRun.getD i 0 + 1
  let run := if worse then s.health.replRun.getD i 0 + 1 else 0
  let s := { s with health := { s.health with clearRun := setAt s.health.clearRun i clear,
                                               replRun := setAt s.health.replRun i run } }
  let s := if bad then warnRaise s r else if 60 ≤ clear then warnClear s r else s
  if 3 ≤ run then replaceRaise s r false else s

/-- An armed injector excludes the running interval of the reason that its target feeds (R494). -/
def markExcluded (s : State) : State :=
  match s.inj.armed with
  | none => s
  | some a =>
    { s with health := { s.health with exclLnk := s.health.exclLnk || a.target < 2,
                                        exclBar := s.health.exclBar || a.target == 2 } }

/-- The judgement at the end of a health interval: the barrier and link error rates and the PLL margin against their
thresholds, and a new interval begins (R494). -/
def healthJudge (s : State) : State :=
  let bar := s.health.barCount
  let lnk := Nat.max s.health.lnkCountA s.health.lnkCountB
  let s := if s.health.exclBar then s
    else judgeRate { s with health := { s.health with barRate := Nat.min 0xFFFF bar } } 2 0 (cfgF s 0xE 2 0 16 ≤ bar)
      (cfgF s 0xE 3 0 16 ≤ bar)
  let s := if s.health.exclLnk then s
    else judgeRate { s with health := { s.health with lnkRate := Nat.min 0xFFFF lnk } } 3 1 (cfgF s 0xE 4 0 16 ≤ lnk)
      (cfgF s 0xE 5 0 16 ≤ lnk)
  let s := match s.health.pllMin with
    | none => s
    | some v =>
      judgeRate { s with health := { s.health with pllMargin := v } } 6 2 (v < cfgF s 0xE 8 0 8) (v < cfgF s 0xE 8 8 8)
  let s := { s with health := { s.health with barCount := 0, lnkCountA := 0, lnkCountB := 0, pllMin := none,
                                               exclBar := false, exclLnk := false } }
  markExcluded s

/-- HEALTH_INTERVAL: a rate interval of 60 s ends: reasons 2, 3 and 6 are judged, and the next interval begins (R494). -/
def execHealthInterval (s : State) : Result :=
  if s.mode.porst || s.mode.logicReset then .next s
  else .next (healthJudge (s.reach ((s.time.line + 59999999999) / 60000000000 * 60000000000)))

/-- PLL_HEADROOM_SAMPLE: the tuning headroom in %, once per second while the PLL is LOCKED (Table HLT-2). -/
def execPllHeadroomSample (pct : Nat) (s : State) : Result :=
  if s.mode.porst || s.time.pll != .locked then .next s
  else
    let v := Nat.min 100 pct
    .next { s with health := { s.health with pllMin := some (Nat.min v (s.health.pllMin.getD v)) } }

/-- HOLD_WARN_EXPIRY: HOLD_WARN seconds after the release of PORST_N no reading has reached HOLD_MIN (Table HLT-2). -/
def execHoldWarnExpiry (s : State) : Result :=
  if s.mode.porst || s.health.holdCt != 0xFFFF then .next s
  else .next (warnRaise (s.reach (s.mode.porT + 1000000000 * cfgF s 0xE 6 0 10)) 4)

/-- HOLD_REPL_EXPIRY: as HOLD_WARN_EXPIRY for HOLD_REPL. -/
def execHoldReplExpiry (s : State) : Result :=
  if s.mode.porst || s.health.holdCt != 0xFFFF then .next s
  else .next (replaceRaise (s.reach (s.mode.porT + 1000000000 * cfgF s 0xE 7 0 10)) 4 false)

/-- A write to REPL_CLR clears REPLACE bits 2, 3, 4 and 6, and HEALTH_CLR says which; the run of intervals of a cleared rate
reason starts anew (R495, R517, the third close finish). -/
def replClr (s : State) (w : Word) : State :=
  let hit := s.health.replace &&& BitVec.ofNat 7 (w.toNat % 128) &&& 0x5C#7
  let run := fun (r i : Nat) => if hit.getLsbD r then 0 else s.health.replRun.getD i 0
  if hit == 0 then s
  else
    putTrace { s with health := { s.health with
      replace := s.health.replace &&& ~~~hit, replRun := [run 2 0, run 3 1, run 6 2]
      holdClr := s.health.holdClr || hit.getLsbD 4 } } 0x0A 0x07 hit.toNat

/-! ### The persistent trace (R505 to R508) -/

/-- A page is added to the region, which keeps 63 pages and one erased sector (R489, R505). -/
def addPage (s : State) (p : TracePage) : State :=
  let l := s.trace.pages ++ [{ p with seq := s.trace.nextPage }]
  { s with trace := { s.trace with pages := l.drop (l.length - 63), nextPage := s.trace.nextPage + 1 } }

/-- A summary page: the persistent health state (R508). -/
def writeSummary (s : State) : State :=
  let s := addPage s { cause := 2, seq := 0, firstTseq := 0, recs := [], por := s.health.porCount,
                       therm := s.health.thermTotal, hold := s.health.holdCt }
  { s with health := { s.health with summary := some (s.health.porCount, s.health.thermTotal, s.health.holdCt),
                                      summaryT := s.time.line } }

/-- The sector that the next page takes over holds the newest summary page (R508). -/
def summaryEnds (s : State) : Bool :=
  match s.trace.pages with
  | p :: r => s.trace.pages.length == 63 && p.cause == 2 && !r.any (fun q => q.cause == 2)
  | [] => false

/-- A trace page, behind a summary page where the ring is about to erase the newest one (R505, R508). -/
def tracePage (s : State) (cause firstTseq : Nat) (recs : List TraceRec) : State :=
  let s := if summaryEnds s then writeSummary s else s
  addPage s { cause, seq := 0, firstTseq, recs, por := ((s.health.summary.map (·.1)).getD 0), therm := [], hold := 0 }

/-- Pages of 256 records each. -/
def tracePages (s : State) (n firstTseq : Nat) (recs : List TraceRec) : State :=
  match n with
  | 0 => s
  | k + 1 =>
    if recs.isEmpty then s
    else tracePages (tracePage s 0 firstTseq (recs.take 256)) k (wrap32 firstTseq 256) (recs.drop 256)

/-- SUMMARY_PAGE: THERM_TOTAL has changed, and 60 min of line time have passed since the last summary page (R508). -/
def execSummaryPage (s : State) : Result :=
  let changed := match s.health.summary with
    | some (_, t, _) => t != s.health.thermTotal
    | none => s.health.thermTotal.any (fun x => x != 0)
  if s.mode.porst || s.mode.logicReset || s.mode.pwrfail || !changed then .next s
  else .next (writeSummary (s.reach (s.health.summaryT + 3600000000000)))

/-- A PERSIST begins: the ring is copied; one that runs or a recognised PWRFAIL_N lets none begin (R507). -/
def persistStart (s : State) : State :=
  if s.trace.persist.isSome || s.mode.pwrfail then s
  else
    let first := wrap32 s.trace.tseq (2 ^ 32 - s.trace.ring.length)
    { s with trace := { s.trace with persist := some (s.trace.ring, first), readySector := false } }

/-- PERSIST_DONE: the pages are written, and the PERSIST record follows (R507, Table HLT-6). -/
def execPersistDone (s : State) : Result :=
  match s.trace.persist with
  | some (l, first) =>
    if s.mode.pwrfail || s.mode.logicReset || !coreRuns s then .next s
    else
      let seq := s.trace.nextPage
      let s := tracePages { s with trace := { s.trace with persist := none, readySector := true } } 8 first l
      .next (putTrace s (softSource s) 0x06 (seq % 2 ^ 32 + 2 ^ 32 * (s.trace.nextPage - seq)))
  | none => .next s

/-! ### Reading the ring (R504) -/

/-- The pointer of a path. -/
def tracePtr (s : State) (p : Path) : TracePtr :=
  match p with
  | .host => s.trace.ptrHost
  | .slave => s.trace.ptrSlave
  | .line => s.trace.ptrLine

/-- The state with the pointer of a path replaced. -/
def State.setTracePtr (s : State) (p : Path) (t : TracePtr) : State :=
  match p with
  | .host => { s with trace := { s.trace with ptrHost := t } }
  | .slave => { s with trace := { s.trace with ptrSlave := t } }
  | .line => { s with trace := { s.trace with ptrLine := t } }

/-- TSEQ of the oldest record. -/
def oldestTseq (s : State) : Nat := wrap32 s.trace.tseq (2 ^ 32 - s.trace.ring.length)

/-- The bytes of a record (Table HLT-4). -/
def traceBytes (r : TraceRec) : List Byte := leBytes 8 r.lt ++ [r.source, r.code] ++ leBytes 6 r.arg.toNat

/-- A word of a record. -/
def traceWord (r : TraceRec) (i : Nat) : Word := (bytesToWords (traceBytes r)).getD i 0

/-- The record under a pointer that stands `d` records before the next one. -/
def ringRec (s : State) (d : Nat) : Option TraceRec := s.trace.ring[s.trace.ring.length - d]?

/-- A read of TRACE_DATA (R504). -/
def readTraceData (s : State) (v : Acc) : State × Word :=
  let t := tracePtr s v.path
  match t.idx, t.capture with
  | 0, _ =>
    let d := wrap32 s.trace.tseq (2 ^ 32 - t.tseq)
    if d == 0 then (s, 0)
    else
      let lapped := s.trace.ring.length < d
      let tseq := if lapped then oldestTseq s else t.tseq
      match ringRec s (if lapped then s.trace.ring.length else d) with
      | some r =>
        (s.setTracePtr v.path { tseq, idx := 1, capture := some r, lost := t.lost || lapped }, traceWord r 0)
      | none => (s, 0)
  | i, some r =>
    if i == 7 then (s.setTracePtr v.path { t with tseq := wrap32 t.tseq 1, idx := 0, capture := none }, traceWord r 7)
    else (s.setTracePtr v.path { t with idx := i + 1 }, traceWord r i)
  | _, none => (s, 0)

/-- TRACE_DATA_READ (R504). -/
def execTraceDataRead (via : Path) (s : State) : Result := .next (servedRead s via readTraceData)

/-- FREEZE takes a value; its end writes TRACE_GAP (R503). -/
def setFreeze (s : State) (on : Bool) : State :=
  if s.trace.freeze && !on then
    let n := s.trace.frozenDrops
    putTrace { s with trace := { s.trace with freeze := false, frozenDrops := 0 } } 0x0D 0x05 n
  else { s with trace := { s.trace with freeze := on } }

/-- A pointer moves to word 0 of a record. -/
def traceSeek (t : TracePtr) (tseq : Nat) : TracePtr := { t with tseq, idx := 0, capture := none }

/-- A write to TRACE_CTRL (Table REG-18, R503, R504, R507). -/
def regTraceCtrl (s : State) (v : Acc) (w : Word) : Done :=
  regWrite s v 0x6C true (bitOf w 3) (fun s =>
    let s := setFreeze s (bitOf w 0)
    let t := tracePtr s v.path
    let t := if bitOf w 4 then { t with lost := false } else t
    let t := if bitOf w 1 then traceSeek t (oldestTseq s) else t
    let t := if bitOf w 2 then traceSeek t (if s.trace.ring.isEmpty then s.trace.tseq else wrap32 s.trace.tseq (2 ^ 32 - 1))
      else t
    let s := s.setTracePtr v.path t
    (if bitOf w 3 then persistStart s else s, 0))

/-- A TRACE_CTRL write that keeps FREEZE and sets one bit. -/
def traceCtrlBit (s : State) (via : Path) (n : Nat) : State :=
  served s via (fun s v => regTraceCtrl s v (pack [(b2n s.trace.freeze, 0), (1, n)]))

/-- TRACE_FREEZE (R503). -/
def execTraceFreeze (via : Path) (s : State) : Result := .next (served s via (fun s v => regTraceCtrl s v 1))

/-- TRACE_UNFREEZE (R503). -/
def execTraceUnfreeze (via : Path) (s : State) : Result := .next (served s via (fun s v => regTraceCtrl s v 0))

/-- TRACE_RD_OLDEST (R504). -/
def execTraceRdOldest (via : Path) (s : State) : Result := .next (traceCtrlBit s via 1)

/-- TRACE_RD_NEWEST (R504). -/
def execTraceRdNewest (via : Path) (s : State) : Result := .next (traceCtrlBit s via 2)

/-- PERSIST (R507). -/
def execPersist (via : Path) (s : State) : Result := .next (traceCtrlBit s via 3)

/-- Records of the ring from a number, at most `count`, with the number of the first; a number older than the oldest
starts from the oldest (Table ACY-8). -/
def ringFrom (s : State) (first count : Nat) : Nat × List TraceRec :=
  let d := wrap32 s.trace.tseq (2 ^ 32 - first % 2 ^ 32)
  let len := s.trace.ring.length
  if d ≤ len then (first, (s.trace.ring.drop (len - d)).take count)
  else if d < 2 ^ 31 then (oldestTseq s, s.trace.ring.take count)
  else (first, [])

/-- The numbered records of the trace pages (R509). -/
def pageRecs (s : State) : List (Nat × TraceRec) :=
  s.trace.pages.flatMap (fun p => mapFrom 0 (fun i r => (256 * p.seq + i, r)) p.recs)

/-- The records that follow each other in number from `n`. -/
def runOf (n : Nat) (l : List (Nat × TraceRec)) : List TraceRec :=
  match l with
  | [] => []
  | (k, r) :: t => if k == n then r :: runOf (n + 1) t else []

/-- TRACE_READ of a held transaction (R509, Table ACY-8). -/
def traceRead (s : State) (t : Txn) : State :=
  let count := byteAt t.data 1
  let first := fieldAt t.data 4 4
  let ans := if byteAt t.data 0 == 0 then ringFrom s first count
    else
      match (pageRecs s).dropWhile (fun x => x.1 < first) with
      | [] => (first, [])
      | (n, r) :: q => (n, (runOf n ((n, r) :: q)).take count)
  endTxn s t.id 0 (leBytes 4 ans.1 ++ ans.2.flatMap traceBytes) false

/-- TRACE_READ (R509). -/
def execTraceRead (bcast anchor : Bool) (tag : Nat) (s : State) : Result := withTxn s bcast anchor tag 0x08 traceRead

/-! ### Fault injection (R510 to R513) -/

/-- The last byte offset of a target (Table HLT-9). -/
def injRange (target : Nat) : Nat := if target < 2 then 8707 else if target == 2 then 31 else 37

/-- An ARM is refused (R510); ACTION 3 is reserved (R11). -/
def armRefused (s : State) (target action : Nat) : Bool :=
  !injPermitted s target || action == 3 || (action == 2 && 2 ≤ target) || injRange target < cfgF s 0xE 0x11 0 14 ||
  (cfgF s 0xE 0x12 8 8 != 0 && 2 ≤ target)

/-- An ARM with the fields and words as they stand (R510). -/
def injArm (s : State) : State :=
  let t := s.inj.target
  if armRefused s t s.inj.action then { s with inj := { s.inj with ref := true } }
  else
    let f := fun (w lo n : Nat) => cfgF s 0xE w lo n
    let a : Armed :=
      { target := t, action := s.inj.action, once := s.inj.once, n := f 0x10 0 16, ofs := f 0x11 0 14, bit := f 0x12 0 3
        type := f 0x12 8 8, count := f 0x13 0 16, until_ := s.time.line + 1000000000 * f 0x14 0 12, eligible := 0
        sealed := !(s.mode.role == .bench || s.mode.mode == .setup) }
    markExcluded { s with inj := { s.inj with armed := some a, done := 0 } }

/-- A write to INJ_CTRL (Table REG-18, R510): the RW fields take their values, then ARM, then DISARM. -/
def regInjCtrl (s : State) (v : Acc) (w : Word) : Done :=
  regWrite s v 0x6E false false (fun s =>
    let s := { s with inj := { s.inj with target := bitsOf w 0 2, action := bitsOf w 2 2, once := bitOf w 4,
                                           ref := s.inj.ref && !bitOf w 8 } }
    let s := if bitOf w 5 then injArm s else s
    (if bitOf w 6 then injDisarm s else s, 0))

/-- INJ_ARM: an INJ_CTRL write of ARM with TARGET, ACTION and ONCE (R510). -/
def execInjArm (via : Path) (target action : Nat) (once : Bool) (s : State) : Result :=
  .next (served s via (fun s v => regInjCtrl s v (pack [(target % 4, 0), (action % 4, 2), (b2n once, 4), (1, 5)])))

/-- INJ_DISARM: an INJ_CTRL write of DISARM that keeps the RW fields (R512). -/
def execInjDisarm (via : Path) (s : State) : Result :=
  .next (served s via (fun s v =>
    regInjCtrl s v (pack [(s.inj.target, 0), (s.inj.action, 2), (b2n s.inj.once, 4), (1, 6)])))

/-- INJ_TIMEOUT: INJ_TIME seconds have passed since the arming (R512). -/
def execInjTimeout (s : State) : Result :=
  match s.inj.armed with
  | some a => .next (injDisarm (s.reach a.until_))
  | none => .next s

/-- INJ_REORDER_DROP: a frame has been held for 10 ms and is dropped (Table HLT-9). -/
def execInjReorderDrop (s : State) : Result :=
  match s.inj.heldFrame with
  | some (_, f) =>
    let s := s.reach (f.tin / 64 + 10000000)
    .next { s with inj := { s.inj with heldFrame := none } }
  | none => .next s

/-- INJ_ENABLE of a held transaction: a sealed enable opens or closes (R511). -/
def injEnable (s : State) (t : Txn) : State :=
  let secs := fieldAt t.data 0 2
  let s := if secs == 0 then injCheck { s with inj := { s.inj with sealedEnable := none } }
    else
      injCheck (State.reason { s with inj := { s.inj with
        sealedEnable := some (s.time.line + 1000000000 * secs, byteAt t.data 2 % 16) } } 0x0805)
  endTxn s t.id 0 (leBytes 2 (injCtrlWord s).toNat) true

/-- INJ_ENABLE (R511). -/
def execInjEnable (bcast anchor : Bool) (tag : Nat) (s : State) : Result := withTxn s bcast anchor tag 0x23 injEnable

/-- INJ_ENABLE_EXPIRY: the time of the sealed enable ends (R511, R512). -/
def execInjEnableExpiry (s : State) : Result :=
  match s.inj.sealedEnable with
  | some (t, _) =>
    let s := s.reach t
    .next (injCheck { s with inj := { s.inj with sealedEnable := none } })
  | none => .next s

/-- One frame arrives at a target: an eligible frame is counted, and the action is due on frames N, 2N, 3N, or on N alone
(R512). Answers the armed injector that acts now. -/
def injFrame (s : State) (target type : Nat) : State × Option Armed :=
  match s.inj.armed with
  | none => (s, none)
  | some a =>
    if a.target != target || (target < 2 && a.type != 0 && a.type != type) then (s, none)
    else
      let e := a.eligible + 1
      let acts := if a.once then e == a.n else e % a.n == 0
      let s := { s with inj := { s.inj with armed := some { a with eligible := e } } }
      if !acts then (s, none)
      else
        let done := (s.inj.done + 1) % 65536
        let s := { s with inj := { s.inj with done } }
        let s := putTrace s 0x0B 0x03
          (a.target + 4 * a.action + 65536 * done + (if target < 2 then 2 ^ 32 * (type % 256) else 0))
        (if a.once || a.count ≤ done then injDisarm s else s, some a)

/-- A byte string with one bit flipped (Table HLT-9). -/
def flipBit (l : List Byte) (ofs bit : Nat) : List Byte :=
  match l[ofs]? with
  | some b => setAt l ofs (b ^^^ byte (2 ^ bit))
  | none => l

end Sys2Proof.Machine
end

