-- ==== Sys2Proof/Machine/Chan.lean ====
section
/-! DEFINITION. Chan: the field channels at work (chapter 11): input edges, counters and photo-finish, PWM periods, the
start list with its port words, CHOUT and CHFORCE. -/

namespace Sys2Proof.Machine

open Sys2Proof

/-- The field die runs (Table LIN-5). -/
def fieldRuns (s : State) : Bool := !s.mode.fieldReset && !s.mode.porst

/-! ### Input edges (R252, R254 to R256, R261, R263) -/

/-- Filter time of a FILT code, ns (Table CHN-3). -/
def filterNs (code : Nat) : Nat :=
  match code with
  | 0 => 0 | 1 => 1000 | 2 => 2000 | 3 => 5000 | 4 => 10000 | 5 => 20000 | 6 => 50000 | 7 => 100000 | 8 => 200000
  | 9 => 500000 | 10 => 1000000 | 11 => 2000000 | 12 => 5000000 | 13 => 10000000 | _ => 20000000

/-- The counts of the last 100 ms with one more (CHAN SPEED_THR). -/
def addMove (s : State) (c : Chan) (d : Int) : List (Nat × Int) :=
  (s.time.line, d) :: c.moves.filter (fun m => decide (s.time.line < m.1 + 100000000))

/-- A counter of channel n moves by d (R254, R255). -/
def countBy (s : State) (n : Nat) (d : Int) : State :=
  s.onChan n (fun c => { c with cnt := c.cnt + BitVec.ofInt 32 d, moves := addMove s c d })

/-- One photo-finish entry is recorded; PF_OVERFLOW at most once per cycle (R261, R263). -/
def pfRecord (s : State) (n edge : Nat) (level : Bool) : State :=
  let c := chan s n
  let e : PfEntry := { eseq := c.pfSeq.toNat, t := edge / 4 * 4 + b2n level + 2 * b2n c.stepFlag }
  let lost := 32 ≤ c.ring.length && 32 ≤ c.pfNew
  let ring := if 32 ≤ c.ring.length then c.ring.drop 1 ++ [e] else c.ring ++ [e]
  let s' := s.setChan n { c with ring, pfSeq := c.pfSeq + 1, pfNew := c.pfNew + 1, stepFlag := false,
                                  pfOvf := c.pfOvf || lost }
  if lost && !c.pfOvf then post s' 0x57 0 (word n) else s'

/-- A code of edges selects one: 1 rising, 2 falling, 3 both (PF_EDGE). -/
def pfSelects (code : Nat) (rising : Bool) : Bool := code == 3 || code == (if rising then 1 else 2)

/-- CNT_EDGE selects an edge: 0 rising, 1 falling, 2 both. -/
def cntSelects (code : Nat) (rising : Bool) : Bool := code == 2 || code == (if rising then 0 else 1)

/-- The direction of a quadrature edge: up while A leads B (R255). -/
def qepUp (phaseA : Bool) (rising : Bool) (other : Bool) : Bool :=
  if phaseA then rising != other else rising == other

/-- A quadrature edge that QEP_MULT counts: ×1 A rising, ×2 both A edges, ×4 every edge (R255). -/
def qepCounts (mult : Nat) (phaseA rising : Bool) : Bool := mult == 2 || (phaseA && (mult == 1 || rising))

/-- One phase of pair m = n / 2 changes (R255). -/
def qepEdge (s : State) (n : Nat) (rising : Bool) : State :=
  let even := n - n % 2
  let phaseA := n == even
  let other := (chan s (if phaseA then even + 1 else even)).filt
  if qepCounts (cfgF s 4 (16 * even + 1) 8 2) phaseA rising then
    let up := qepUp phaseA rising other
    let s := countBy s even (if up then 1 else -1)
    s.onChan even (fun c => { c with dirDown := !up })
  else s

/-- A filtered edge of channel INJ_CH in a direction of INJ_EDGE triggers the injected sequence when INJ_SRC is 2
(R317). -/
def injEdge (s : State) (n : Nat) (rising : Bool) : State :=
  if cfgF s 7 4 4 2 == 2 && cfgF s 7 4 8 4 == n && pfSelects (cfgF s 7 4 12 2) rising then injTrigger s else s

/-- The channel engine can handle one more filtered edge of channel n: one per 2 µs (R279). -/
def edgeFits (s : State) (n : Nat) : Bool :=
  match (chan s n).edgeT with
  | some t => decide (t + 2000 ≤ s.time.line)
  | none => true

/-- What the channel engine does with a filtered edge of channel n that it handles: counts and photo-finish (R254, R255,
R261). -/
def handleEdge (s : State) (n edge : Nat) (level : Bool) : State :=
  let m := chMode s n
  let s := s.onChan n (fun c => { c with edgeT := some s.time.line })
  let s := if m == 3 && cntSelects (cfgF s 4 (16 * n + 1) 6 2) level then countBy s n 1 else s
  let s := if m == 4 then qepEdge s n level else s
  if hasPf m && pfSelects (cfgF s 4 (16 * n + 1) 4 2) level then pfRecord s n edge level else s

/-- The filtered state of channel n changes (R252, R254, R255, R261, R317); counts and entries of an edge that comes within
2 µs of the last one are lost (R279). -/
def inputEdge (s : State) (n edge : Nat) (level both : Bool) : State :=
  if chMode s n == 4 && both then
    let even := n - n % 2
    let s := (s.onChan even (fun c => { c with filt := !c.filt })).onChan (even + 1) (fun c => { c with filt := !c.filt })
    let s := countBy s (even + 1) 1
    injEdge (injEdge s even (chan s even).filt) (even + 1) (chan s (even + 1)).filt
  else
    let fits := edgeFits s n
    let s := s.onChan n (fun c => { c with filt := level })
    injEdge (if fits then handleEdge s n edge level else s) n level

/-- INPUT_EDGE: the sampled level of input n has held `level` since its first sample at `t` for the filter time; `both`
says that both phases of a quadrature pair changed within this filter decision (R252, R255). The edge time is t less
0.6 µs. A channel in its OFF interval senses nothing (R278). -/
def execInputEdge (n : Nat) (level both : Bool) (t : Nat) (s : State) : Result :=
  if !fieldRuns s || !isDigitalIn (chMode s n) || (chan s n).modeOff then .next s
  else
    let v := level != cfgB s 4 (16 * n) 6
    if v == (chan s n).filt then .next s
    else .next (inputEdge (s.reach (t + filterNs (cfgF s 4 (16 * n + 1) 0 4))) n (t - 600) v both)

/-- The count of a counter over the last 100 ms, times ten, exceeds SPEED_THR (Table CHN-9). -/
def speedAbove (s : State) (n : Nat) : Bool :=
  let thr := cfgF s 4 (16 * n + 7) 0 32
  let recent := (chan s n).moves.filter (fun m => decide (s.time.line < m.1 + 100000000))
  let sum : Int := recent.foldl (fun a m => a + m.2) 0
  thr != 0 && (thr < 10 * sum.natAbs)

/-! ### PWM (R257) -/

/-- The high time of a PWM period, ns. -/
def pwmHighNs (duty : Word) (period : Nat) : Nat := duty.toNat * period / 65536 * 8

/-- The next start of a PWM period of channel n: the first whole multiple of its period at which the period in progress has
completed. -/
def pwmStart (s : State) (n : Nat) : Nat :=
  let per := 8 * pwmPeriod s n
  let c := chan s n
  (Nat.max s.time.line (c.pwmT + c.pwmPer) + per - 1) / per * per

/-- The level that the PWM output of channel n drives now. -/
def pwmLevel (s : State) (n : Nat) : Bool :=
  let c := chan s n
  isPwm s n && decide (s.time.line < c.pwmT + c.pwmHigh)

/-- PWM_PERIOD_START: the period in progress of channel n has completed, and the next starts at a whole multiple of PWM_PERIOD
and takes up the duty and the period. -/
def execPwmPeriodStart (n : Nat) (s : State) : Result :=
  if !fieldRuns s || !isPwm s n || pwmPeriod s n == 0 then .next s
  else
    let t := pwmStart s n
    .next ((s.reach t).onChan n (fun c =>
      { c with pwm := c.eff, pwmT := t, pwmPer := 8 * pwmPeriod s n, pwmHigh := pwmHighNs c.eff (pwmPeriod s n) }))

/-! ### The start list (R260, R264 to R267, Table CHN-5) -/

/-- The advance of channel n, ns (R260). -/
def advNs (s : State) (n : Nat) : Nat := 4 * cfgF s 4 (16 * n + 6) 0 16

/-- The gate time of an event (R264). -/
def gateTime (s : State) (n : Nat) (e : SlEvent) : Nat := e.time - advNs s n

/-- The event in a slot. -/
def slEvent (c : Chan) (k : Nat) : Option SlEvent := c.sl.find? (fun e => e.slot == k)

/-- The list without a slot's event. -/
def slDrop (c : Chan) (k : Nat) : Chan := { c with sl := c.sl.filter (fun e => e.slot != k) }

/-- The start list with an event, kept in slot order. -/
def slInsert (l : List SlEvent) (e : SlEvent) : List SlEvent :=
  match l with
  | [] => [e]
  | x :: r => if e.slot < x.slot then e :: x :: r else x :: slInsert r e

/-- The result of a LOAD under Table CHN-5. -/
def slLoadCheck (s : State) (n k t : Nat) (v : Word) : Nat :=
  let adv := advNs s n
  let unsync := (s.mode.role == .node || s.mode.role == .anchor) && s.time.tstate == .unsync
  if !isOutput (chMode s n) then 1
  else if (slEvent (chan s n) k).isSome then 2
  else if t < s.time.line + 10000 + adv then 3
  else if s.time.line + 3600000000000 < t then 4
  else if (isStatic s n && 1 < v.toNat) || (isPwm s n && pwmPeriod s n == 0) || t % 4 != 0 then 5
  else if unsync then 6
  else if s.mode.fieldReset || s.supply.barrierDown then 9
  else 0

/-- An event is issued 1 µs before its gate time (R265). -/
def slIssued (s : State) (n : Nat) (e : SlEvent) : Bool := e.issued || gateTime s n e ≤ s.time.line + 1000

/-- SL_CMD shows the last command, done and its result. -/
def slResult (s : State) (cmd result : Nat) : State :=
  { s with field := { s.field with slCmd := pack [(cmd, 0), (1, 3), (result, 4)] } }

/-- A LOAD (R264). -/
def slLoad (s : State) : State :=
  let n := bitsOf s.field.slSel 0 4
  let k := bitsOf s.field.slSel 4 4
  let r := slLoadCheck s n k s.field.slT.toNat s.field.slVal
  let e : SlEvent := { slot := k, time := s.field.slT.toNat, val := s.field.slVal, issued := false }
  let s := slResult s 1 r
  if r == 0 then s.onChan n (fun c => { c with sl := slInsert c.sl e }) else s

/-- A CANCEL: a pending event is removed; one that is issued gates, and START_LIST says so (R265). -/
def slCancel (s : State) : State :=
  let n := bitsOf s.field.slSel 0 4
  let k := bitsOf s.field.slSel 4 4
  if !isOutput (chMode s n) then slResult s 2 1
  else
    match slEvent (chan s n) k with
    | none => slResult s 2 7
    | some e =>
      if slIssued s n e then postStartList (slResult s 2 8) n 3 [k]
      else if s.mode.fieldReset || s.supply.barrierDown then slResult s 2 9
      else slResult (s.onChan n (fun c => slDrop c k)) 2 0

/-- A READ copies time and value of a pending event (R265). -/
def slRead (s : State) : State :=
  let n := bitsOf s.field.slSel 0 4
  let k := bitsOf s.field.slSel 4 4
  if !isOutput (chMode s n) then slResult s 3 1
  else
    match slEvent (chan s n) k with
    | none => slResult s 3 7
    | some e =>
      if s.mode.fieldReset || s.supply.barrierDown then slResult s 3 9
      else slResult { s with field := { s.field with slT := BitVec.ofNat 64 e.time, slVal := e.val } } 3 0

/-- SL_ISSUE: 1 µs before its gate time an event goes to the gate (R265). -/
def execSlIssue (n slot : Nat) (s : State) : Result :=
  match slEvent (chan s n) slot with
  | some e =>
    if !fieldRuns s then .next s
    else
      let s := s.reach (gateTime s n e - 1000)
      .next (s.onChan n (fun c => { slDrop c slot with sl := slInsert (slDrop c slot).sl { e with issued := true } }))
  | none => .next s

/-- An event's value goes into the commanded view of R270 and its bit of SL_PEND clears (R258, R265). -/
def slGateOne (s : State) (n : Nat) (e : SlEvent) : State :=
  let s := s.onChan n (fun c => { slDrop c e.slot with gateT := some s.time.line })
  if isLocal s n then
    let (v, s) := clampAo s n e.val
    writeLocal s n v
  else writeCyc s n e.val

/-- Events gate in slot order (R266). -/
def slGateAll (s : State) (n : Nat) (l : List SlEvent) : State :=
  match l with
  | [] => s
  | e :: r => slGateAll (slGateOne s n e) n r

/-- The instant from which the channel engine can gate again: 4 µs after the last gate on another tick (R279); that an event
waits for it is DESIGN CHOICE, log 95. -/
def gateFrom (s : State) (n g : Nat) : Nat :=
  match (chan s n).gateT with
  | some t => if t == g then g else Nat.max g (t + 4000)
  | none => g

/-- The events of channel n whose gate time is the present tick gate, in slot order (R266). -/
def gateTick (s : State) (n : Nat) : State :=
  slGateAll s n ((chan s n).sl.filter (fun e => gateTime s n e == s.time.line))

/-- What gates on the present tick ahead of a local or force write: the start-list events (R266). -/
def gateFirst (s : State) : State := if fieldRuns s then refresh (eachNo chanNos gateTick s) else s

/-- The events whose gate times a forward step has passed gate at the step with START_LIST ARGX 1 (R49, R267). -/
def slGateLate (s : State) (n : Nat) : State :=
  let late := (chan s n).sl.filter (fun e => gateTime s n e ≤ s.time.line)
  postStartList (slGateAll s n late) n 1 (late.map (·.slot))

/-! ### The port words (Table CHN-11, R262, R276) -/

/-- A PF_SEL write captures one entry (R262). -/
def pfSelect (s : State) (w : Word) : State :=
  let c := chan s (bitsOf w 0 4)
  let slot := bitsOf w 4 5
  let s := { s with field := { s.field with pfSel := w &&& 0x01FF } }
  match c.ring.find? (fun e => e.eseq % 32 == slot) with
  | some e => { s with field := { s.field with pfEseq := BitVec.ofNat 32 e.eseq, pfT := BitVec.ofNat 64 e.t } }
  | none => { s with field := { s.field with pfEseq := 0xFFFFFFFF, pfT := 0 } }

/-- One of four words of a 64-bit value replaced. -/
def put64 (v : BitVec 64) (i : Nat) (w : Word) : BitVec 64 :=
  BitVec.ofNat 64 (v.toNat - natBits v.toNat (16 * i) 16 * 2 ^ (16 * i) + w.toNat * 2 ^ (16 * i))

/-- One of four words of a 64-bit value. -/
def get64 (v : BitVec 64) (i : Nat) : Word := word (v.toNat / 2 ^ (16 * i))

/-- A write to a word of the port block 0x290 to 0x29F of the CHAN table that the window accepts (R276). -/
def chanPortWrite (s : State) (w : Nat) (v : Word) : State :=
  match w with
  | 0x290 => pfSelect s v
  | 0x298 => { s with field := { s.field with slSel := v &&& 0x00FF } }
  | 0x299 => { s with field := { s.field with slT := put64 s.field.slT 0 v } }
  | 0x29A => { s with field := { s.field with slT := put64 s.field.slT 1 v } }
  | 0x29B => { s with field := { s.field with slT := put64 s.field.slT 2 v } }
  | 0x29C => { s with field := { s.field with slT := put64 s.field.slT 3 v } }
  | 0x29D => { s with field := { s.field with slVal := v } }
  | 0x29E =>
    match v.toNat with
    | 1 => slLoad s
    | 2 => slCancel s
    | 3 => slRead s
    | _ => s
  | _ => s

/-! ### CHOUT and CHFORCE (R272, R273) -/

/-- A write to CHOUT (R272), behind the events that gate on its tick (R266). -/
def regChout (s : State) (v : Acc) (w : Word) : Done :=
  regWrite s v 0x48 false false (fun s => (writeChout (gateFirst s) w, 0))

/-- CHOUT_WRITE (R272). -/
def execChoutWrite (via : Path) (w : Word) (s : State) : Result := .next (served s via (fun s v => regChout s v w))

/-- A force is set, or a channel left unforced; a jog of the channel ends (R273, R384). -/
def setForce (s : State) (n : Nat) (f : Option Bool) : State :=
  let s := if s.panel.jog == some n then endJog s true else s
  refresh (s.onChan n (fun c => { c with force := f }))

/-- What a permitted CHFORCE write does (R273), behind the apply instant and the events that gate on its tick (R266); its
reserved bits [15:7] are ignored (R11). -/
def chforceAct (s : State) (w : Word) : State :=
  let s := gateFirst (if applyDue s == s.time.line && fieldRuns s then fireApply s else s)
  if bitOf w 6 then refresh (clearForces (endJog s true))
  else setForce s (bitsOf w 0 4) (if bitOf w 4 then some (bitOf w 5) else none)

/-- A write to CHFORCE: it needs the open key (R187, R273). -/
def regChforce (s : State) (v : Acc) (w : Word) : Done :=
  let opened := keyOpen s v.path
  regWrite s v 0x4E false false (fun s => if opened then (chforceAct s w, 0) else keyViolation s v.path 0x4E)

/-- FORCE_SET: a CHFORCE write with SET = 1 (R273). -/
def execForceSet (via : Path) (n : Nat) (level : Bool) (s : State) : Result :=
  .next (served s via (fun s v => regChforce s v (pack [(n % 16, 0), (1, 4), (b2n level, 5)])))

/-- FORCE_REMOVE: a CHFORCE write with SET = 0 (R273). -/
def execForceRemove (via : Path) (n : Nat) (s : State) : Result :=
  .next (served s via (fun s v => regChforce s v (pack [(n % 16, 0)])))

/-- FORCE_CLEAR_ALL: a CHFORCE write with CLEAR_ALL (R273). -/
def execForceClearAll (via : Path) (s : State) : Result := .next (served s via (fun s v => regChforce s v 0x0040))

/-! ### The change of a channel's mode (R278, R283) -/

/-- The regular entries that read channel n: its AI input or its output current. -/
def entriesOf (s : State) (n : Nat) : List Nat :=
  (upTo (regLen s)).filter (fun e => let i := cfgF s 7 (0x10 + 2 * e) 0 6; i == n || i == n + 16)

/-- MODE_OFF_END: 100 µs after the swap instant the channel follows its new mode, and the filters of the entries that read
it restart (R278, R321). -/
def execModeOffEnd (n : Nat) (s : State) : Result :=
  if (chan s n).modeOff then
    let s := (s.reach (s.cfg.lastSwapT + 100000)).onChan n (fun c => { c with modeOff := false })
    .next (refresh (eachNo (entriesOf s n) restartFilter s))
  else .next s

end Sys2Proof.Machine
end

