-- ==== Sys2Proof/Machine/Diag.lean ====
section
/-! DEFINITION. Diag: channel faults and their life, the field supplies, the barrier link, the field reset, and the safe
controller's commands (chapters 10 and 12). -/

namespace Sys2Proof.Machine

open Sys2Proof

/-! ### Fault codes (Tables DIA-3 and DIA-4) -/

/-- A trip code on a channel of mode m (R282). -/
def isTrip (m code : Nat) : Bool :=
  (1 ≤ code && code ≤ 5) || code == 9 || code == 0xA || code == 0x24 || code == 0x30 || (code == 0xC && isOutput m)

/-- A digital output mode. -/
def isDigitalOut (m : Nat) : Bool := m == 5 || m == 6 || m == 7

/-- An enable bit of channel n (Table DIA-7). -/
def diagB (s : State) (n bit : Nat) : Bool := cfgB s 5 (16 * n) bit

/-- The output drives high or low at some time: a PWM output does both; a static one follows its effective value. -/
def drives (s : State) (n : Nat) (high : Bool) : Bool := isPwm s n || ((chan s n).eff != 0) == high

/-- A trip fault of the channel is active or latched (R289). -/
def tripPresent (s : State) (n : Nat) : Bool :=
  let c := chan s n
  c.latched != 0 || c.faults.any (isTrip (chMode s n))

/-- The mode in which channel n's conditions are evaluated: OFF in the 100 µs after a change of its MODE (R278, R286). -/
def diagMode (s : State) (n : Nat) : Nat := if (chan s n).modeOff then 0 else chMode s n

/-- The channel's MISMATCH bit has stood in every snapshot over MISMATCH_MS, and in two or more (R289). -/
def mismatchHeld (s : State) (n : Nat) : Bool :=
  let c := chan s n
  c.mismatch && 2 ≤ c.mmN && decide (c.mmT + 1000000 * cfgF s 5 (16 * n + 3) 0 8 ≤ s.time.line)

/-- The condition of a code is evaluated on channel n now (R286, R287, R289, R290). -/
def codeApplies (s : State) (n code : Nat) : Bool :=
  let m := diagMode s n
  let ls := !(s.supply.lsUv || s.supply.lsOv)
  (!(1 ≤ code && code ≤ 0xB) || !s.supply.lpOff) &&
  (match code with
   | 0x01 => isDigitalOut m
   | 0x02 => isDigitalOut m
   | 0x03 => isDigitalOut m
   | 0x04 => m == 6 && drives s n false
   | 0x05 => isDigitalOut m
   | 0x06 => isDigitalOut m && diagB s n 3 && drives s n true
   | 0x07 => isDigitalOut m && diagB s n 2 && drives s n false
   | 0x08 => isDigitalOut m && drives s n false
   | 0x09 => isOutput m
   | 0x0A => m == 5 || m == 7
   | 0x0B => isOutput m && diagB s n 5 && mismatchHeld s n && !tripPresent s n
   | 0x0C => m ≤ 10
   | 0x30 => m == 10
   | 0x10 => isDigitalIn m && diagB s n 0 && ls
   | 0x11 => isDigitalIn m && diagB s n 1 && ls
   | 0x12 => m == 0 || isDigitalIn m || m == 8 || m == 9
   | 0x20 => m == 9 && diagB s n 4
   | 0x21 => (m == 9 && diagB s n 4) || m == 8
   | 0x22 => (m == 9 && diagB s n 4) || m == 8
   | 0x23 => m == 9 && diagB s n 4
   | 0x24 => m == 9
   | _ => false)

/-! ### The life of a fault (R282 to R285) -/

/-- CH_CLEAR when no fault of the channel is left (R285). -/
def faultCleared (s : State) (n code : Nat) : State :=
  let c := chan s n
  if c.faults.isEmpty && c.latched == 0 then post s 0x51 (code % 128) (word n) else s

/-- A channel's persistent thermal total stands at or above the threshold in word w of the HEALTH table (Table HLT-2). -/
def thermReached (s : State) (w : Nat) : Bool := s.health.thermTotal.any (fun x => decide (cfgF s 0xE w 0 16 ≤ x))

/-- A thermal trip counts in THERM_CNT and in the persistent total, which health reason 1 judges (Tables DIA-7, HLT-2). -/
def thermalTrip (s : State) (n : Nat) : State :=
  let s := s.onChan n (fun c => { c with thermCnt := sat16 c.thermCnt, cooled := false })
  let total := satAdd 0xFFFFFFFF (s.health.thermTotal.getD n 0) 1
  let s := { s with health := { s.health with thermTotal := setAt s.health.thermTotal n total } }
  let s := warnFollow s 1 (thermReached s 0)
  if thermReached s 1 then replaceRaise s 1 false else s

/-- CH_FAULT with its code, and its detail record with the terminal's voltage and current, which are free values, log 3
(Tables REG-11 and HLT-7). -/
def postChFault (s : State) (code : Nat) (ch : Word) : State :=
  let s := post s 0x50 code ch
  let (v, s) := s.takeFree
  let (i, s) := s.takeFree
  detail s 0x50 (ch.toNat % 16 + 256 * (code % 128) + 65536 * v.toNat + 2 ^ 32 * i.toNat)

/-- The fault latches (R283, R285). -/
def latchFault (s : State) (n code : Nat) : State :=
  postChFault (s.onChan n (fun c => { c with latched := code })) (code + 128) (word n)

/-- A trip: the driver is off; DIAG.RETRY decides what follows; REVERSE_FEED always retries and never latches (R283). -/
def tripFault (s : State) (n code : Nat) : State :=
  let c := chan s n
  let retries := if diagB s n 6 && c.recentTrip then Nat.min 15 (c.retries + 1) else c.retries
  let s := s.onChan n (fun c => { c with tripOff := true, waitCool := false, lastTrip := code, retries,
                                          recentTrip := true, tripT := s.time.line })
  let s := if code == 5 then thermalTrip s n else s
  let max := cfgF s 5 (16 * n + 2) 8 4
  if code == 9 then s
  else if !diagB s n 6 then latchFault s n code
  else if max != 0 && max ≤ retries then latchFault s n code
  else s

/-- A fault becomes active on channel n, unless it is (R285). -/
def faultActive (s : State) (n code : Nat) : State :=
  if (chan s n).faults.contains code then s
  else wake (postChFault (s.onChan n (fun c => { c with faults := c.faults ++ [code] })) code (word n)) 0x09

/-- CHANNEL_FAULT_DETECT: a condition has held on channel n for its detection time (R282, R285). A retry that trips again posts
nothing but its latch; a trip condition that comes while the driver is off is reported, and switches nothing off. -/
def execChannelFaultDetect (n code : Nat) (s : State) : Result :=
  if !fieldRuns s || s.supply.barrierDown || !codeApplies s n code then .next s
  else
    let trips := isTrip (diagMode s n) code && !(chan s n).tripOff
    let s := faultActive s n code
    .next (if trips then tripFault s n code else s)

/-- The end of a condition is judged now: no output condition while LP is off, and none of the two that LS suspends while it is
outside its window (R286, R291). -/
def codeJudged (s : State) (code : Nat) : Bool :=
  !(1 ≤ code && code ≤ 0xB && s.supply.lpOff) && !((code == 0x10 || code == 0x11) && (s.supply.lsUv || s.supply.lsOv))

/-- CHANNEL_FAULT_CLEAR: a report condition has been absent for its detection time; a trip's condition has ended with the
driver following again, or while its fault is latched (R282, R284, R285). -/
def execChannelFaultClear (n code : Nat) (s : State) : Result :=
  let c := chan s n
  let open_ := code == c.lastTrip && c.tripOff && c.latched == 0
  if !fieldRuns s || s.supply.barrierDown || !c.faults.contains code || !codeJudged s code || open_ then .next s
  else .next (faultCleared (s.onChan n (fun c => { c with faults := c.faults.filter (fun x => x != code) })) n code)

/-- FAULT_RETRY: RETRY_INT has run since a trip with auto-retry; a thermal trip waits for its junction too (R283). -/
def execFaultRetry (n : Nat) (s : State) : Result :=
  let c := chan s n
  if !c.tripOff || c.latched != 0 || c.lastTrip == 9 || c.waitCool then .next s
  else
    let s := s.reach (c.tripT + 10000000 * cfgF s 5 (16 * n + 2) 0 8)
    .next (s.onChan n (fun c =>
      if c.lastTrip == 5 && !c.cooled then { c with waitCool := true } else { c with tripOff := false }))

/-- JUNCTION_COOLED: the junction of a thermal trip is below 150 °C (R283). -/
def execJunctionCooled (n : Nat) (s : State) : Result :=
  .next (s.onChan n (fun c =>
    if c.waitCool then { c with cooled := true, waitCool := false, tripOff := false } else { c with cooled := true }))

/-- RETRY_COUNT_RESET: 10 s have passed without a trip (R283). -/
def execRetryCountReset (n : Nat) (s : State) : Result :=
  let c := chan s n
  if c.recentTrip then
    .next ((s.reach (c.tripT + 10000000000)).onChan n (fun c => { c with retries := 0, recentTrip := false }))
  else .next s

/-- REVERSE_FEED_END: DET_MS after the condition ended the driver follows again (R287). -/
def execReverseFeedEnd (n : Nat) (s : State) : Result :=
  let c := chan s n
  if c.lastTrip == 9 && c.tripOff && c.latched == 0 && codeJudged s 9 then
    let s := s.onChan n (fun c => { c with tripOff := false, faults := c.faults.filter (fun x => x != 9) })
    .next (faultCleared s n 9)
  else .next s

/-! ### Acknowledgement (R284, R286) -/

/-- No acknowledgement is taken for the channel: LP is off, or DET_MS has not run since its return (R286); that none is
taken while LP is off is DEDUCED, log 14. -/
def ackHeld (s : State) (n : Nat) : Bool :=
  s.supply.lpOff ||
  (match s.supply.lpBackT with
   | some t => decide (s.time.line < t + 1000000 * cfgF s 5 (16 * n + 1) 8 8)
   | none => false)

/-- The fault of channel n is acknowledged: released if its condition is no longer active (R284). -/
def ackChan (s : State) (n : Nat) : State :=
  let c := chan s n
  if c.latched == 0 || c.faults.contains c.latched || ackHeld s n then s
  else
    let s := s.onChan n (fun c => { c with latched := 0, tripOff := false, waitCool := false })
    faultCleared s n c.latched

/-- The faults of the channels of a word are acknowledged. -/
def ackMask (s : State) (w : Word) : State := eachNo (chanNos.filter (fun n => bitOf w n)) ackChan s

/-- A write to CHFLT (R284). -/
def regChflt (s : State) (v : Acc) (w : Word) : Done := regWrite s v 0x4C true false (fun s => (ackMask s w, 0))

/-- CHFLT_ACK: a write of ones to CHFLT (R284). -/
def execChfltAck (via : Path) (w : Word) (s : State) : Result := .next (served s via (fun s v => regChflt s v w))

/-! ### SAFECMD and SAFE_REQ_N (R299, R305) -/

/-- A write to SAFECMD: the trigger first, then the acknowledgement (R305). -/
def regSafecmd (s : State) (v : Acc) (w : Word) : Done :=
  regWrite s v 0x50 false false (fun s =>
    let s := if bitOf w 0 then trigger s 4 0x0901 else s
    (if bitOf w 1 then ackMask s 0xFFFF else s, 0))

/-- SAFECMD_ENTER (R305). -/
def execSafecmdEnter (via : Path) (s : State) : Result := .next (served s via (fun s v => regSafecmd s v 1))

/-- ACK_ALL (R305). -/
def execAckAll (via : Path) (s : State) : Result := .next (served s via (fun s v => regSafecmd s v 2))

/-- A boot after a power-on or logic reset runs: the safe controller meets held triggers at BOOT-OK (10, close finishes). -/
def bootHolds (s : State) : Bool := s.mode.porst || s.mode.logicReset || (s.mode.booting && !s.mode.coreReset && !s.mode.bootOk)

/-- A trigger of a held source: marked alone while a boot holds the mode. -/
def heldTrigger (s : State) (t : Nat) (reason : Word) : State :=
  if bootHolds s then markTrigger s t else trigger s t reason

/-- SAFE_REQ_ASSERT: SAFE_REQ_N has been low for SAFE_REQ_FILT (R299). -/
def execSafeReqAssert (s : State) : Result :=
  if s.mode.porst || s.mode.safeReq then .next s
  else
    let s := { s with mode := { s.mode with safeReq := true } }
    .next (post (heldTrigger s 3 0x0A01) 0xA0 1 0)

/-- SAFE_REQ_RELEASE: SAFE_REQ_N is high again; trigger 3 is released when PWRFAIL_N is high too (R299, Table MOD-11). -/
def execSafeReqRelease (s : State) : Result :=
  if s.mode.porst || !s.mode.safeReq then .next s
  else
    let s := wake { s with mode := { s.mode with safeReq := false } } 0x03
    let s := if s.mode.pwrfail then s else releaseTrigger s 3
    .next (post s 0xA0 0 0)

/-! ### Supplies (R291, Table DIA-5) -/

/-- The outputs go off with LP: one LP_OFF event for each condition that begins. -/
def lpFail (s : State) (was : Bool) (v : SupplyState) (mv arg : Nat) : State :=
  let s := { s with supply := { v with lpOff := true, lpMv := mv, lpBackT := none } }
  if was then s else post s 0x52 0 (word arg)

/-- LP_OFF: LP below 16 V for 10 µs, with LP in mV. -/
def execLpOff (mv : Nat) (s : State) : Result :=
  if !fieldRuns s || 16500 < mv then .next s
  else .next (lpFail s s.supply.lpUv { s.supply with lpUv := true, lpOv := false, lpRev := false } mv mv)

/-- LP_OVERVOLTAGE: LP above 33 V for 100 µs. -/
def execLpOvervoltage (mv : Nat) (s : State) : Result :=
  if !fieldRuns s || mv ≤ 33000 then .next s
  else .next (lpFail s s.supply.lpOv { s.supply with lpOv := true, lpUv := false, lpRev := false } mv mv)

/-- LP_REVERSED: LP below −1 V for 100 µs; LP_MV and ARG 0. -/
def execLpReversed (s : State) : Result :=
  if !fieldRuns s then .next s else .next (lpFail s s.supply.lpRev { s.supply with lpRev := true, lpOv := false } 0 0)

/-- LP_BACK: LP within range for 10 ms; the outputs follow the effective value (R291), and acknowledgements wait for
DET_MS (R286). -/
def execLpBack (mv : Nat) (s : State) : Result :=
  if !fieldRuns s || !s.supply.lpOff || mv < 17000 || 32000 < mv then .next s
  else
    let s := { s with supply := { s.supply with lpOff := false, lpUv := false, lpOv := false, lpRev := false, lpMv := mv,
                                                 lpBackT := some s.time.line } }
    .next (post s 0x53 0 (word mv))

/-- CH_CLEAR of a die or supply condition, when none is left (R285). -/
def dieCleared (s : State) (code : Nat) : State :=
  if s.supply.lsUv || s.supply.lsOv || s.supply.dieHot then s else post s 0x51 code 0x00FF

/-- LS_FAULT: LS outside 18 V to 30 V for 1 ms, in mV: REASON 0x0502 and CH_FAULT 0x41. -/
def execLsFault (mv : Nat) (s : State) : Result :=
  if !fieldRuns s || (18000 ≤ mv && mv ≤ 30000) then .next s
  else
    let was := s.supply.lsUv || s.supply.lsOv
    let s := { s with supply := { s.supply with lsUv := decide (mv < 18000), lsOv := decide (30000 < mv), lsMv := mv } }
    if was then .next s else .next (wake (postChFault (s.reason 0x0502) 0x41 0x00FF) 0x09)

/-- LS_OK: LS is back within its window, in mV. -/
def execLsOk (mv : Nat) (s : State) : Result :=
  if !fieldRuns s || !(s.supply.lsUv || s.supply.lsOv) || mv < 18000 || 30000 < mv then .next s
  else .next (dieCleared { s with supply := { s.supply with lsUv := false, lsOv := false, lsMv := mv } } 0x41)

/-- DIE_OVERTEMP: the field die at 150 °C for 1 ms, in 0.5 °C: REASON 0x0503 and CH_FAULT 0x40. -/
def execDieOvertemp (temp : Int) (s : State) : Result :=
  if !fieldRuns s || s.supply.dieHot || temp < 300 then .next s
  else
    let s := { s with supply := { s.supply with dieHot := true, dieTemp := temp } }
    .next (wake (postChFault (s.reason 0x0503) 0x40 0x00FF) 0x09)

/-- DIE_COOL: the field die below 135 °C for 1 s. -/
def execDieCool (temp : Int) (s : State) : Result :=
  if !fieldRuns s || !s.supply.dieHot || 270 ≤ temp then .next s
  else .next (dieCleared { s with supply := { s.supply with dieHot := false, dieTemp := temp } } 0x40)

/-! ### The field reset (R243, R273, R283, Table LIN-5) -/

/-- A channel as the field die's restart leaves it: CHOUT stays in the logic die, the start list in its mirror, THERM_CNT counts
since power-on reset, and run_hold lasts until the first apply (R234). -/
def chanReset (s : State) (n : Nat) (c : Chan) : Chan :=
  { sl := c.sl, loc := bitValue s n (bitOf s.field.chout n), thermCnt := c.thermCnt, pfSeq := c.pfSeq, runHold := c.runHold }

/-- The faults of a channel go with the field die's state, and the end is reported (R283, R285). -/
def dropFaults (s : State) (n : Nat) : State :=
  let c := chan s n
  let code := if c.latched != 0 then c.latched else c.faults.getLastD 0
  if c.faults.isEmpty && c.latched == 0 then s
  else faultCleared (s.onChan n (fun c => { c with faults := [], latched := 0, tripOff := false, waitCool := false })) n code

/-- The field die goes into reset: outputs at SLATE, forces, faults, views and counters cleared, the sequence stopped, the
staged copies lost (R229, R243, R273, R283, R334). -/
def fieldResetStart (s : State) : State :=
  let s := eachNo chanNos dropFaults (endJog s true)
  let s := adcFieldReset s
  let s := { s with mode := { s.mode with fieldReset := true }
                    cyc := { s.cyc with frozen := none }
                    cfg := { s.cfg with stagedActive := false, stagedShadow := false }
                    field := { s.field with ignCyclic := 0, rangeClamp := 0 } }
  refresh (s.onChans (fun n c => chanReset s n c))

/-- The barrier link is up again: trigger 5 is held no more (R299, R306). -/
def linkUp (s : State) : State := releaseTrigger { s with supply := { s.supply with barrierDown := false } } 5

/-- Both dies serve the link again: BARRIER_BACK and the FIFO's marker (R328, Table DIA-6). -/
def barrierBack (s : State) : State :=
  fifoMarker (post { s with supply := { s.supply with backDue := false } } 0x55 0 0) 1

/-- The field die leaves its reset with its tables staged; the sequence starts under AUTO_START (R229, R243, R313). -/
def fieldServes (s : State) : State :=
  let s := { s with mode := { s.mode with fieldReset := false }, cfg := { s.cfg with stagedActive := true } }
  adcFieldStart (refresh (if s.supply.backDue then barrierBack s else s))

/-- The shadow copies are restaged where VALID is 1, and VALID stays only if that succeeds (R229); REASON 0x0505 else. -/
def restageShadow (s : State) (ok : Bool) : State :=
  if !s.cfg.valid then s
  else if ok then { s with cfg := { s.cfg with stagedShadow := true } }
  else State.reason { s with cfg := { s.cfg with valid := false } } 0x0505

/-- The field die has restarted: start-list events lost, the active and then the shadow tables restaged. Without its active
tables it does not serve, and REASON is 0x0505: DEDUCED, log 15 (R229, R243, R267, R334). -/
def fieldRestart (s : State) (active shadow : Bool) : State :=
  let s := discardAll s
  if active then restageShadow (fieldServes s) shadow
  else State.reason { s with cfg := { s.cfg with valid := false } } 0x0505

/-- FIELD_RESET: the field reset in progress ends, with the outcomes of restaging the active and the shadow tables; with none in
progress it runs as a whole (R229, R242, R243). A boot that holds the field die ends its reset itself. -/
def execFieldReset (active : Bool) (s : State) (shadow : Bool := true) : Result :=
  if s.mode.porst || s.mode.booting || s.mode.logicReset then .next s
  else .next (fieldRestart (if s.mode.fieldReset then s else fieldResetStart s) active shadow)

/-- FIELD_DIE_FAULT: a fatal fault of the field die: REASON 0x0504 and a field reset (R242, Table MOD-6). -/
def execFieldDieFault (s : State) : Result :=
  if !fieldRuns s then .next s else .next (fieldResetStart (s.reason 0x0504))

/-! ### The barrier link (R281, R293, Table DIA-6) -/

/-- The barrier link is lost: the logic die raises trigger 5 and posts BARRIER_LOST (R293). -/
def barrierLost (s : State) : State :=
  let s := { s with supply := { s.supply with barrierDown := true, barrierT := s.time.line }
                    cyc := { s.cyc with frozen := none }
                    health := { s.health with barCount := satAdd 0xFFFFFFFF s.health.barCount 100 } }
  heldTrigger (post s 0x54 0 0) 5 0x0501

/-- BARRIER_LOSS: no good barrier frame for 3 µs (R293). -/
def execBarrierLoss (s : State) : Result :=
  if s.mode.porst || s.mode.logicReset || s.supply.barrierDown then .next s else .next (barrierLost s)

/-- BARRIER_RETURN: the link is back: within 1 ms both dies resynchronise, after longer a field reset follows (R281,
Table DIA-6). -/
def execBarrierReturn (s : State) : Result :=
  if s.mode.porst || s.mode.logicReset || !s.supply.barrierDown then .next s
  else if s.time.line ≤ s.supply.barrierT + 1000000 && !s.mode.fieldReset then .next (refresh (barrierBack (linkUp s)))
  else
    let s := linkUp { s with supply := { s.supply with backDue := true } }
    .next (if s.mode.fieldReset then s else fieldResetStart s)

/-- LS_BROWNOUT: LS below 13 V stops the field die, and barrier loss follows; a die that does not run for want of LS shows LS_UV
(R291, R528). -/
def execLsBrownout (mv : Nat) (s : State) : Result :=
  if s.mode.porst || 13000 ≤ mv then .next s
  else
    let runs := fieldRuns s
    let s := { s with supply := { s.supply with lsUv := true, lsOv := false, lsMv := mv } }
    let s := if runs then fieldResetStart s else s
    .next (if s.supply.barrierDown || s.mode.logicReset then s else barrierLost s)

end Sys2Proof.Machine
end

