-- ==== Sys2Proof/Machine/Panel.lean ====
section
/-! DEFINITION. Panel: the panel scanner, the encoders, the panel event queue and the service menu (chapter 15). The
request of an update start by the menu stands with the update sessions. -/

namespace Sys2Proof.Machine

open Sys2Proof

/-! ### The scanner -/

/-- The scanner runs: outside power-on and logic reset (R371). -/
def scans (s : State) : Bool := !s.mode.porst && !s.mode.logicReset

/-- A bit of a 48-bit key map. -/
def keyBit (m : BitVec 48) (k : Nat) : Bool := m.toNat / 2 ^ k % 2 == 1

/-- A key map with one bit set or cleared. -/
def putKey (m : BitVec 48) (k : Nat) (b : Bool) : BitVec 48 :=
  if b then m ||| BitVec.ofNat 48 (2 ^ k) else m &&& ~~~BitVec.ofNat 48 (2 ^ k)

/-- A key assignment of the PANEL table. -/
def keyAt (s : State) (w lo : Nat) : Nat := cfgF s 0xB w lo 6

/-- A key that is held and acts: closed, not held-over, and pressed since its assignment changed (R374, R387). -/
def keyHeld (s : State) (k : Nat) : Bool :=
  keyBit s.panel.keys k && !keyBit s.panel.heldOver k && !keyBit s.panel.deaf k

/-- SHIFT is held. -/
def shiftHeld (s : State) : Bool := keyHeld s (keyAt s 0x12 0)

/-! ### The panel event queue (R378 to R380) -/

/-- The queue takes an entry; a queue that was empty posts PANEL (R380). -/
def panelPush (s : State) (e : Nat × Int) : State :=
  let was := s.panel.queue.isEmpty
  let s := { s with panel := { s.panel with queue := s.panel.queue ++ [e] } }
  if was then post s 0xD0 0 0 else s

/-- An entry cannot enter. -/
def panelDrop (s : State) : State := { s with panel := { s.panel with ovf := true } }

/-- A press or repeat enters while more than 8 entries are free, a release while any is (R379). -/
def panelKey (s : State) (kind k : Nat) : State :=
  let free := 32 - s.panel.queue.length
  if (if kind == 3 then 1 ≤ free else 9 ≤ free) then panelPush s (kind, k) else panelDrop s

/-- An encoder count adds to the newest entry, or enters as a new one (R378, R379). -/
def panelCount (s : State) (kind : Nat) (d : Int) : State :=
  let fresh := if s.panel.queue.length < 24 then panelPush s (kind, d) else panelDrop s
  match s.panel.queue.getLast? with
  | some (k, v) =>
    if k == kind && decide (-32 ≤ v + d) && decide (v + d ≤ 31) then
      { s with panel := { s.panel with queue := s.panel.queue.dropLast ++ [(k, v + d)] } }
    else fresh
  | none => fresh

/-! ### Menu screens (R382, Table PNL-7) -/

/-- An item of Table PNL-7 is offered: 0 Position, 1 Mode, 2 Faults, 3 Channels, 4 Jog, 5 Update. -/
def itemOffered (s : State) (i : Nat) : Bool :=
  match i with
  | 0 => true
  | 1 => true
  | 2 => s.mode.mode != .minimal
  | 3 => s.mode.mode != .minimal
  | 4 => s.mode.mode == .setup && cfgB s 0xB 0x13 0
  | 5 => true
  | _ => false

/-- The next offered item in a direction, wrapping at the ends. -/
def nextItem (s : State) (i : Nat) (up : Bool) (tries : Nat) : Nat :=
  match tries with
  | 0 => i
  | n + 1 =>
    let j := if up then (i + 1) % 6 else (i + 5) % 6
    if itemOffered s j then j else nextItem s j up n

/-- The menu shows a screen; leaving the Jog screen ends a jog (R384). -/
def gotoScreen (s : State) (n : Nat) : State :=
  let s := if s.panel.screen == 6 && n != 6 then endJog s true else s
  { s with panel := { s.panel with screen := n, sel := 0, upd := .plain, chord := false } }

/-- The entries of the Faults screen: channels with an active or latched fault, then 16 for "SuPP". -/
def faultEntries (s : State) : List Nat :=
  chanNos.filter (fun n => bitOf s.cyc.snap.faults n) ++ (if supplyWord s != 0 then [16] else [])

/-- The channels that the Jog screen selects. -/
def jogChans (s : State) : List Nat := chanNos.filter (fun n => isOutput (chMode s n))

/-- How many positions ENC1 steps through on a screen. -/
def screenLen (s : State) : Nat :=
  match s.panel.screen with
  | 3 => 3
  | 4 => (faultEntries s).length
  | 5 => 16
  | 6 => (jogChans s).length
  | _ => 0

/-- ENC1 steps within a screen; the positions wrap (DESIGN CHOICE, log 16). -/
def menuStep (s : State) (up : Bool) : State :=
  let n := screenLen s
  if n == 0 then s
  else { s with panel := { s.panel with sel := (s.panel.sel + (if up then 1 else n - 1)) % n } }

/-- The channel or entry shown. -/
def selected (s : State) (l : List Nat) : Option Nat := l[s.panel.sel]?

/-- Posts MENU_ACTION (Table PNL-8). -/
def menuAction (s : State) (arg : Nat) : State := post s 0xD1 0 (word arg)

/-- ACK on the Faults screen; with SHIFT every channel (R383). -/
def menuAck (s : State) : State :=
  if shiftHeld s then menuAction (ackMask s 0xFFFF) 0x0200
  else
    match selected s (faultEntries s) with
    | some n => if n < 16 then menuAction (ackChan s n) (0x0100 + n) else s
    | none => s

/-- A press of JOG on the Jog screen (R384). -/
def menuJog (s : State) (k : Nat) : State :=
  match selected s (jogChans s) with
  | some n =>
    if s.panel.jog.isSome || (chan s n).force.isSome then s
    else
      let s := s.onChan n (fun c => { c with jog := some (onValue s n) })
      let s := { s with panel := { s.panel with jog := some n, jogCh := n, jogKey := k, jogT := s.time.line } }
      menuAction (refresh s) (0x0300 + n)
  | none => s

/-- The Update screen shows "rdy": not locked, and a medium present (R385). -/
def updReady (s : State) : Bool := !(s.sec.locked || s.sec.keysBad) && s.media.present

/-- ENTER on the Update screen begins the chord when SHIFT is held (R385). -/
def menuChord (s : State) : State :=
  let s := { s with panel := { s.panel with upd := .plain } }
  if shiftHeld s && updReady s then { s with panel := { s.panel with chord := true, chordT := s.time.line } } else s

/-- A press of a key that acts for the menu (R382 to R385). A key that a screen does not use is ignored; so is a chord
that it does not name. -/
def menuPress (s : State) (k : Nat) : State :=
  let shift := shiftHeld s && k != keyAt s 0x12 0
  let back := k == keyAt s 0x10 0
  let enter := k == keyAt s 0x10 8
  let ack := k == keyAt s 0x11 0
  let jog := k == keyAt s 0x11 8
  match s.panel.screen with
  | 0 => if enter && !shift then gotoScreen s 1 else s
  | 1 =>
    if shift then s
    else if enter && itemOffered s s.panel.item then gotoScreen s (s.panel.item + 2)
    else if back then gotoScreen s 0
    else s
  | 0xF => s
  | n =>
    if back && !shift then gotoScreen s 1
    else if n == 4 && ack then menuAck s
    else if n == 6 && jog && !shift then menuJog s k
    else if n == 7 && enter then menuChord s
    else s

/-- The menu takes key and encoder events: MENU mode, BOOT-OK reached and the core running (R386). -/
def menuRuns (s : State) : Bool := !s.panel.host && s.mode.bootOk && coreRuns s

/-- An item screen that the mode no longer offers gives way to ITEMS (DESIGN CHOICE, log 16). -/
def menuCheck (s : State) : State :=
  let n := s.panel.screen
  if 2 ≤ n && n ≤ 7 && !itemOffered s (n - 2) then gotoScreen s 1
  else if n == 1 && !itemOffered s s.panel.item then { s with panel := { s.panel with item := 0 } }
  else s

/-- A press or an encoder count in MENU mode wakes the core, and the menu handles it (R386). -/
def menuEvent (s : State) (wakes : Bool) (f : State → State) : State :=
  if s.panel.host || !s.mode.bootOk then s
  else
    let s := if wakes then wake s 0x07 else s
    if menuRuns s then
      f (menuCheck { s with panel := { s.panel with lastT := s.time.line } })
    else s

/-! ### Key and encoder rows (R374 to R376) -/

/-- The key pressed most recently may repeat (R375). -/
def armRepeat (s : State) (k : Nat) : State :=
  { s with panel := { s.panel with repKey := some k, repT := s.time.line, repOn := false } }

/-- Key k repeats: its bit in REP_MASK is set and REP_RATE is not 0 (R375). -/
def repeats (s : State) (k : Nat) : Bool := bitOf (cfgW s 0xB (3 + k / 16)) (k % 16) && cfgF s 0xB 2 0 6 != 0

/-- Due instant of the next repeat under the PANEL table in force (R375, R387); a period of 1 / REP_RATE is cut to whole ns
(DESIGN CHOICE, log 16). -/
def repDue (s : State) : Nat :=
  s.panel.repT + (if s.panel.repOn then 1000000000 / cfgF s 0xB 2 0 6 else 10000000 * cfgF s 0xB 1 0 10)

/-- KEY_PRESS: the debounced state of key k closes; `first` says that the key has been closed since the first sample
after logic reset, or since before HOST changed, which marks it held-over (R373, R374). -/
def execKeyPress (k : Nat) (first : Bool) (s : State) : Result :=
  if !scans s || 48 ≤ k || keyBit s.panel.keys k then .next s
  else
    let s := { s with panel := { s.panel with keys := putKey s.panel.keys k true } }
    if first then .next { s with panel := { s.panel with heldOver := putKey s.panel.heldOver k true } }
    else
      let s := armRepeat s k
      .next (if s.panel.host then panelKey s 1 k else menuEvent s true (fun s => menuPress s k))

/-- KEY_RELEASE: the debounced state of key k opens (R374); it ends a jog that the key holds and breaks the chord (R384,
R385). -/
def execKeyRelease (k : Nat) (s : State) : Result :=
  if !scans s || 48 ≤ k || !keyBit s.panel.keys k then .next s
  else
    let ignored := keyBit s.panel.heldOver k
    let broke := k == keyAt s 0x12 0 || k == keyAt s 0x10 8
    let s := { s with panel := { s.panel with
      keys := putKey s.panel.keys k false, heldOver := putKey s.panel.heldOver k false
      deaf := putKey s.panel.deaf k false, chord := s.panel.chord && !broke
      repKey := if s.panel.repKey == some k then none else s.panel.repKey } }
    let s := if s.panel.jog.isSome && s.panel.jogKey == k then endJog s true else s
    .next (if ignored then s else if s.panel.host then panelKey s 3 k else menuEvent s false id)

/-- KEY_REPEAT: the due instant of the repeating key's next repeat arrives (R375); in the menu a repeat of ENTER steps on
FLt, Ch and Jog (R382). -/
def execKeyRepeat (s : State) : Result :=
  match s.panel.repKey with
  | none => .next s
  | some k =>
    if !scans s || !repeats s k then .next s
    else
      let s := s.reach (repDue s)
      let s := { s with panel := { s.panel with repT := repDue s, repOn := true } }
      let n := s.panel.screen
      let steps := k == keyAt s 0x10 8 && keyHeld s k && (n == 4 || n == 5 || n == 6)
      .next (if s.panel.host then panelKey s 2 k
        else menuEvent s false (fun s => if steps then menuStep s true else s))

/-- The place of a phase state in the forward order 00, 10, 11, 01 (A in bit 1). -/
def phasePlace (p : Nat) : Nat :=
  match p with
  | 0 => 0 | 2 => 1 | 3 => 2 | _ => 3

/-- Transitions per detent of encoder e. -/
def encTpd (s : State) (e : Nat) : Int := 2 ^ cfgF s 0xB 6 (8 * e) 2

/-- One detent of encoder e (R376, R378, R382). -/
def encCount (s : State) (e : Nat) (up : Bool) : State :=
  let move := fun (p : Nat) => (p + (if up then 1 else 255)) % 256
  let s := { s with panel :=
    if e == 0 then { s.panel with pos0 := move s.panel.pos0 } else { s.panel with pos1 := move s.panel.pos1 } }
  if s.panel.host then panelCount s (4 + e) (if up then 1 else -1)
  else menuEvent s true (fun s =>
    if e == 1 then menuStep s up
    else if s.panel.screen == 1 then { s with panel := { s.panel with item := nextItem s s.panel.item up 6 } }
    else s)

/-- The transition count of an encoder, and the phase it stands at. -/
def encSet (s : State) (e phase : Nat) (t : Int) (err : Bool) : State :=
  { s with panel :=
    if e == 0 then { s.panel with phase0 := phase, t0 := t, err0 := satAdd 255 s.panel.err0 (b2n err) }
    else { s.panel with phase1 := phase, t1 := t, err1 := satAdd 255 s.panel.err1 (b2n err) } }

/-- ENC_TRANSITION: the filtered levels of encoder e (0 or 1) become A and B (R376). -/
def execEncTransition (e : Nat) (a b : Bool) (s : State) : Result :=
  let new := 2 * b2n a + b2n b
  let old := if e == 0 then s.panel.phase0 else s.panel.phase1
  if !scans s || 1 < e || new == old then .next s
  else
    let t := if e == 0 then s.panel.t0 else s.panel.t1
    let d := (phasePlace new + 4 - phasePlace old) % 4
    if d == 2 then .next (encSet s e new 0 true)
    else
      let up := (d == 1) != cfgB s 0xB 6 (2 + 8 * e)
      let t := if up then t + 1 else t - 1
      let tpd := encTpd s e
      if t == tpd then .next (encCount (encSet s e new 0 false) e true)
      else if t == -tpd then .next (encCount (encSet s e new 0 false) e false)
      else .next (encSet s e new t false)

/-- MENU_IDLE: MENU_IDLE seconds without a key or encoder event return the menu to HOME (R382). -/
def execMenuIdle (s : State) : Result :=
  if menuRuns s then
    let s := s.reach (s.panel.lastT + 1000000000 * cfgF s 0xB 0x14 0 8)
    .next (gotoScreen s 0)
  else .next s

/-- JOG_TIMEOUT: a jog has lasted JOG_MAX seconds (R384). -/
def execJogTimeout (s : State) : Result :=
  if s.panel.jog.isSome then .next (endJog (s.reach (s.panel.jogT + 1000000000 * cfgF s 0xB 0x13 8 8)) true)
  else .next s

/-! ### The display (Tables PNL-4, PNL-6, PNL-7) -/

/-- The pattern of a hexadecimal digit. -/
def segHex (n : Nat) : Byte :=
  match n % 16 with
  | 0 => 0x3F | 1 => 0x06 | 2 => 0x5B | 3 => 0x4F | 4 => 0x66 | 5 => 0x6D | 6 => 0x7D | 7 => 0x07
  | 8 => 0x7F | 9 => 0x6F | 10 => 0x77 | 11 => 0x7C | 12 => 0x39 | 13 => 0x5E | 14 => 0x79 | _ => 0x71

/-- The patterns of a number in `k` hexadecimal digits, highest first. -/
def segNum (base k v : Nat) : List Byte :=
  match k with
  | 0 => []
  | n + 1 => segNum base n (v / base) ++ [segHex (v % base)]

/-- The pattern of a character of the menu font (Table PNL-4). -/
def segChar (c : Char) : Byte :=
  match c with
  | 'A' => 0x77 | 'b' => 0x7C | 'C' => 0x39 | 'c' => 0x58 | 'd' => 0x5E | 'E' => 0x79 | 'F' => 0x71 | 'G' => 0x3D
  | 'h' => 0x74 | 'J' => 0x1E | 'L' => 0x38 | 'n' => 0x54 | 'g' => 0x6F | 'o' => 0x5C | 'P' => 0x73 | 'r' => 0x50
  | 'S' => 0x6D | 't' => 0x78 | 'u' => 0x1C | '-' => 0x40 | 'y' => 0x6E | '0' => 0x3F | '1' => 0x06 | _ => 0x00

/-- The patterns of a text. -/
def segText (l : List Char) : List Byte := l.map segChar

/-- Six digits from the left, blank behind the text. -/
def segPad (l : List Byte) : List Byte := (l ++ List.replicate 6 0).take 6

/-- A pattern with its decimal point. -/
def withDp (b : Byte) (dp : Bool) : Byte := if dp then b ||| 0x80 else b

/-- The two characters of the mode. -/
def segMode (m : Mode) : List Byte :=
  match m with
  | .setup => segText ['S', 'u']
  | .run => segText ['r', 'n']
  | .safe => segText ['S', 'F']
  | .minimal => segText ['n', 'n']

/-- " boot " (R386). -/
def segBoot : List Byte := [0x00, 0x7C, 0x5C, 0x5C, 0x78, 0x00]

/-- NODEPOS.POS as the menu shows it: a name for the starter, the anchor and none (Table PNL-6). -/
def segPos (s : State) : List Byte :=
  match devPos s with
  | 0 => segText ['S', 't', 'r', 't']
  | 0xFFE => if s.mode.role == .anchor then segText ['A', 'n', 'c', 'h'] else segNum 10 4 0xFFE
  | 0xFFF => segText ['-', '-', '-', '-']
  | p => segNum 10 4 p

/-- The HOME screen (Table PNL-6). -/
def segHome (s : State) : List Byte :=
  let p := segPos s
  let dp := fun (n : Nat) => match n with
    | 0 => s.cyc.snap.faults != 0
    | 1 => s.supply.lpOff
    | 2 => replaceN s
    | _ => loopHeld s
  mapFrom 0 (fun n b => withDp b (dp n)) p ++ segMode s.mode.mode

/-- The name of an item (Table PNL-7). -/
def segItem (i : Nat) : List Byte :=
  match i with
  | 0 => segText ['P', 'o', 'S']
  | 1 => segText ['n', 'o', 'd', 'E']
  | 2 => segText ['F', 'L', 't']
  | 3 => segText ['C', 'h']
  | 4 => segText ['J', 'o', 'g']
  | _ => segText ['u', 'P', 'd']

/-- The lowest active fault code of a channel, 0 for none (12 Table DIA-7). -/
def activeCode (c : Chan) : Nat := c.faults.foldl (fun a x => if a == 0 || x < a then x else a) 0

/-- The DIAG code that the menu shows: the latched code, else the lowest active one. -/
def diagCode (c : Chan) : Nat := if c.latched != 0 then c.latched else activeCode c

/-- The Faults screen. -/
def segFault (s : State) : List Byte :=
  match selected s (faultEntries s) with
  | some n =>
    if n == 16 then segText ['S', 'u', 'P', 'P'] ++ segNum 16 2 (supplyWord s).toNat
    else
      let code := segNum 16 2 (diagCode (chan s n))
      segText ['F'] ++ segNum 10 2 n ++ [0, code.getD 0 0, withDp (code.getD 1 0) ((chan s n).latched != 0)]
  | none => segText ['n', 'o', 'F', 'L', 't']

/-- The Update screen (R385). -/
def segUpd (s : State) : List Byte :=
  segText ['u', 'P'] ++
  (match s.panel.upd with
   | .go => segText ['G', 'o']
   | .refused d => segText ['r'] ++ segNum 16 2 d
   | .plain =>
     if s.sec.locked || s.sec.keysBad then segText ['L', 'o', 'c']
     else if !s.media.present then segText ['-', '-']
     else
       let left := cfgF s 0xB 0x15 0 4 - (s.time.line - s.panel.chordT) / 1000000000
       segText [' ', 'r', 'd'] ++ (if s.panel.chord then [segHex left] else segText ['y']))

/-- The six digits of the screen shown (Tables PNL-6 and PNL-7). -/
def menuDigits (s : State) : List Byte :=
  segPad (match s.panel.screen with
    | 0 => segHome s
    | 1 => segItem s.panel.item
    | 2 => segText ['P'] ++ segNum 10 4 (devPos s) ++
        (if s.link.disagree then segText ['d'] else if bitOf (nodeposWord s) 12 then segText ['P'] else [])
    | 3 =>
      (match s.panel.sel with
       | 0 => segMode s.mode.mode ++ segNum 16 4 s.mode.reason.toNat
       | 1 => segText ['F', 'S'] ++ [segHex s.mode.fstarts] ++ segText ['b'] ++ [segHex (bitsOf s.mode.fwver 15 1)]
       | _ => segText ['F'] ++ segNum 16 4 s.mode.fwver.toNat)
    | 4 => segFault s
    | 5 =>
      let n := s.panel.sel
      segText ['C'] ++ segNum 10 2 n ++ [segHex (chMode s n), segHex (bitsOf s.cyc.snap.effBits n 1),
        segHex (bitsOf s.cyc.snap.sensed n 1)]
    | 6 =>
      (match selected s (jogChans s) with
       | some n => segText ['J'] ++ segNum 10 2 n ++ [0, 0, segHex (b2n (s.panel.jog == some n))]
       | none => segText ['J'])
    | 7 => segUpd s
    | _ => segBoot)

/-- MENU_REFRESH: the menu writes the display (R382); a chord ends when the screen no longer shows "rdy" (R385). -/
def execMenuRefresh (s : State) : Result :=
  if menuRuns s then
    let s := menuCheck s
    let s := { s with panel := { s.panel with chord := s.panel.chord && updReady s } }
    .next { s with panel := { s.panel with
      digits := menuDigits s
      blink := if s.panel.screen == 0 && s.mode.mode == .safe then 0x30 else 0 } }
  else .next s

/-- The panel mode changes: queue empty, closed keys held-over, transition counts 0, and the menu at home (R377). -/
def panelMode (s : State) (host : Bool) : State :=
  if s.panel.host == host then s
  else
    let s := if host then s else gotoScreen s (if s.mode.bootOk then 0 else 0xF)
    { s with panel := { s.panel with host, queue := [], heldOver := s.panel.heldOver ||| s.panel.keys, t0 := 0, t1 := 0,
                                     repKey := none, chord := false, lastT := s.time.line } }

/-- The brightness in force: BRIGHT, or DIM_BRIGHT in REST if that is lower (Table PNL-2). -/
def brightNow (s : State) : Nat := if s.mode.rest then min s.panel.bright (cfgF s 0xB 8 0 4) else s.panel.bright

/-- A digit is dark by blinking: its bit is set and line time modulo 500 ms lies in the second half (R381). -/
def blinkDark (s : State) (d : Nat) : Bool :=
  s.panel.blink / 2 ^ d % 2 == 1 && decide (250000000 ≤ s.time.line % 500000000)

/-- The display slots of the frame that starts: each digit's pattern unless BLANK or blinking keeps it dark, for
(BRIGHT + 1) × 15 us (Table PNL-2). -/
def lightFrame (s : State) : State :=
  { s with panel := { s.panel with
      lit := mapFrom 0 (fun d b => if s.panel.blank || blinkDark s d then 0 else b) s.panel.digits
      onTime := (brightNow s + 1) * 15 } }

/-- PANEL_FRAME: a scan frame starts: a written HOST takes effect, and the display RAM or " boot " is taken up and shown
(R371, R377, R381, R386). -/
def execPanelFrame (s : State) : Result :=
  if !scans s then .next s
  else
    let s := panelMode s (s.panel.hostReq && s.mode.mode != .minimal)
    let b := memBytes s.mem (apertureBase + cfgF s 0xB 9 0 19) 8
    .next (lightFrame
      (if s.panel.host then { s with panel := { s.panel with digits := b.take 6, blink := byteAt b 6 % 64 } }
       else if s.mode.bootOk then s
       else { s with panel := { s.panel with digits := segBoot, blink := 0 } }))

/-! ### Registers (Table REG-16) -/

/-- A write to PANEL_CTRL (R377, R379, R384). -/
def regPanelCtrl (s : State) (v : Acc) (w : Word) : Done :=
  regWrite s v 0x5E false false (fun s =>
    let s := if bitOf w 0 then endJog s true else s
    ({ s with panel := { s.panel with
        hostReq := bitOf w 0, queue := if bitOf w 1 then [] else s.panel.queue, blank := bitOf w 2
        bright := bitsOf w 4 4, ovf := s.panel.ovf && !bitOf w 8 } }, 0))

/-- PANEL_HOST_CHANGE: a PANEL_CTRL write that sets HOST and leaves BLANK and BRIGHT (R377). -/
def execPanelHostChange (via : Path) (host : Bool) (s : State) : Result :=
  .next (served s via (fun s v => regPanelCtrl s v (setBit (panelCtrlWord s &&& 0x00F4) 0 host)))

/-- PANEL_CLR: a PANEL_CTRL write of CLR (R379). -/
def execPanelClr (via : Path) (s : State) : Result :=
  .next (served s via (fun s v => regPanelCtrl s v (panelCtrlWord s &&& 0x00F5 ||| 2)))

/-- A read of PANEL_EVT pops the oldest entry; in MENU mode and in MINIMAL it reads 0 (R195, R378, R380). -/
def readPanelEvt (s : State) (v : Acc) : State × Word :=
  if v.mode == .minimal || !s.panel.host then (s, 0)
  else
    match s.panel.queue with
    | [] => (s, 0)
    | (k, d) :: r => ({ s with panel := { s.panel with queue := r } }, pack [((iword d).toNat % 64, 0), (k, 8)])

/-- PANEL_EVT_READ (R378). -/
def execPanelEvtRead (via : Path) (s : State) : Result := .next (servedRead s via readPanelEvt)

end Sys2Proof.Machine
end

