-- ==== Sys2Proof/Machine/Bundle.lean ====
section
/-! DEFINITION. Bundle: the layout and the checks of an update bundle (R405 to R410), the images in the bank slots (R488)
and the compatibility of a lineup (R437). -/

namespace Sys2Proof.Machine

open Sys2Proof

/-! ### The metadata area (R405, R406, Tables IMG-2 to IMG-5) -/

/-- META_SECTORS. -/
def bdMeta (m : List Byte) : Nat := byteAt m 8

/-- PART_COUNT. -/
def bdParts (m : List Byte) : Nat := byteAt m 9

/-- BLOCK_COUNT. -/
def bdBlocks (m : List Byte) : Nat := fieldAt m 10 2

/-- NONCE_BASE. -/
def bdNonce (m : List Byte) : List Byte := (m.drop 28).take 8

/-- SEC_VERSION. -/
def bdSecVersion (m : List Byte) : Nat := fieldAt m 36 4

/-- LINEUP. -/
def bdLineup (m : List Byte) : List Nat := (upTo (byteAt m 40)).map (fun i => byteAt m (41 + i))

/-- Part descriptor slot i. -/
def bdDesc (m : List Byte) (i : Nat) : List Byte := (m.drop (128 + 64 * i)).take 64

/-- The filled descriptor slots. -/
def bdDescs (m : List Byte) : List (List Byte) := (upTo (bdParts m)).map (bdDesc m)

/-- PART of a descriptor. -/
def descPart (d : List Byte) : Nat := byteAt d 0

/-- VERSION of a descriptor. -/
def descVersion (d : List Byte) : Nat := fieldAt d 2 2

/-- FORMAT of a descriptor. -/
def descFormat (d : List Byte) : Nat := fieldAt d 4 2

/-- FORMAT_MIN of a descriptor. -/
def descFormatMin (d : List Byte) : Nat := fieldAt d 6 2

/-- IMG_LEN of a descriptor. -/
def descLen (d : List Byte) : Nat := fieldAt d 8 4

/-- FIRST_BLOCK of a descriptor. -/
def descFirst (d : List Byte) : Nat := fieldAt d 12 2

/-- BLOCK_CNT of a descriptor. -/
def descCnt (d : List Byte) : Nat := fieldAt d 14 2

/-- Lowest and highest accepted version of part r, 1 to 3. -/
def descRange (d : List Byte) (r : Nat) : Nat × Nat := (fieldAt d (16 + 4 * r) 2, fieldAt d (18 + 4 * r) 2)

/-- The descriptor of a part in a bundle. -/
def bdPartDesc (m : List Byte) (p : Nat) : Option (List Byte) := (bdDescs m).find? (fun d => descPart d == p)

/-- META_SECTORS that B records need (R405). -/
def metaSectorsFor (b : Nat) : Nat := (384 + 40 * b + 4095) / 4096

/-- Largest image of a part (Table IMG-1). -/
def imageMax (p : Nat) : Nat :=
  match p with
  | 1 => 917504 | 2 => 65536 | _ => 32768

/-- Every byte of a list is 0. -/
def allZero (l : List Byte) : Bool := l.all (fun b => b == 0)

/-- SILREV (Table REG-4). -/
def silrev : Nat := 0x0110

/-- A filled descriptor: its own fields (R406, R408). -/
def descOk1 (d : List Byte) : Bool :=
  let p := descPart d
  1 ≤ p && p ≤ 3 && byteAt d 1 == 0 && descVersion d < 0x8000 && descFormatMin d ≤ descFormat d &&
  (p == 1 || (descFormat d == 0 && descFormatMin d == 0)) && 1 ≤ descLen d && descLen d ≤ imageMax p &&
  descCnt d == (descLen d + 4063) / 4064 && fieldAt d 16 2 ≤ silrev && silrev ≤ fieldAt d 18 2 &&
  descRange d p == (0, 0x7FFF)

/-- The images occupy ordinals from n contiguously; the ordinal behind them. -/
def descsFrom (n : Nat) (l : List (List Byte)) : Option Nat :=
  match l with
  | [] => some n
  | d :: r => if descFirst d == n then descsFrom (n + descCnt d) r else none

/-- The block table entries of a descriptor name its part and the indexes (Table IMG-5). -/
def blockTableOk (m d : List Byte) : Bool :=
  (upTo (descCnt d)).all (fun i =>
    let o := 320 + 8 * (descFirst d + i)
    byteAt m o == descPart d && byteAt m (o + 1) == 0 && fieldAt m (o + 2) 2 == i)

/-- LINEUP is an ordering of exactly the parts present. -/
def lineupOk (m : List Byte) : Bool :=
  let parts := (bdDescs m).map descPart
  byteAt m 40 == bdParts m && parts.eraseDups.length == bdParts m &&
  parts.all (fun p => (bdLineup m).contains p) && allZero (((m.drop 41).take 3).drop (bdParts m))

/-- The structural check of a metadata area, with the file length where there is a file (R408). -/
def structuralOk (m : List Byte) (fileLen : Option Nat) : Bool :=
  let b := bdBlocks m
  m.take 4 == [0x4D, 0x5A, 0x49, 0x42] && fieldAt m 4 2 == 1 && fieldAt m 6 2 == 128 && byteAt m 44 == 0 &&
  allZero ((m.drop 45).take 3) && allZero ((m.drop 56).take 72) &&
  1 ≤ bdParts m && bdParts m ≤ 3 && 1 ≤ b && b ≤ 252 && bdMeta m == metaSectorsFor b &&
  (match fileLen with
    | some n => n == (bdMeta m + b) * 4096
    | none => true) &&
  (bdDescs m).all descOk1 && allZero ((m.drop (128 + 64 * bdParts m)).take (64 * (3 - bdParts m))) &&
  descsFrom 0 (bdDescs m) == some b && lineupOk m && (bdDescs m).all (blockTableOk m)

/-- The signature check (R409). -/
def signatureOk (m : List Byte) : Bool :=
  let n := 320 + 40 * bdBlocks m
  Config.ecdsaVerify (Config.sha256 (m.take n)) ((m.drop n).take 64)

/-- The bundle identity (R409). -/
def bdIdent (m : List Byte) : List Byte := Config.sha256 (m.take (384 + 40 * bdBlocks m))

/-! ### Block records (R407, R410, Table IMG-6) -/

/-- The descriptor that holds an ordinal. -/
def ordinalDesc (m : List Byte) (n : Nat) : Option (List Byte) :=
  (bdDescs m).find? (fun d => descFirst d ≤ n && n < descFirst d + descCnt d)

/-- The block check of the record of an ordinal (R410). -/
def blockOk (m : List Byte) (n : Nat) (r : List Byte) : Bool :=
  match ordinalDesc m n with
  | none => false
  | some d =>
    let i := n - descFirst d
    let last := i + 1 == descCnt d
    let crc := crc32c (r.take 4092)
    r.length == 4096 && crc == fieldAt r 4092 4 && crc == fieldAt m (324 + 8 * n) 4 &&
    byteAt r 0 == descPart d && byteAt r 1 == b2n last && fieldAt r 2 2 == i && fieldAt r 6 2 == n &&
    (if last then 1 ≤ fieldAt r 4 2 && fieldAt r 4 2 ≤ 4064 else fieldAt r 4 2 == 4064) &&
    (r.drop 8).take 4 == (m.drop 12).take 4

/-- The manifest check of a record (R410). -/
def manifestOk (m : List Byte) (n : Nat) (r : List Byte) : Bool :=
  Config.sha256 (r.take 4092) == (m.drop (320 + 8 * bdBlocks m + 32 * n)).take 32

/-- The plaintext of a record under the product image key, none when its tag does not verify (R407). -/
def openRecord (m : List Byte) (n : Nat) (r : List Byte) : Option (List Byte) :=
  Config.gcmOpen Config.pik (bdNonce m ++ leBytes 4 n) (r.take 12) ((r.drop 12).take 4064) ((r.drop 4076).take 16)

/-! ### Bank slots (R488, Table FLS-9) -/

/-- Offset of a part's slot within a bank. -/
def slotOfs (p : Nat) : Nat :=
  match p with
  | 1 => 0 | 2 => 0xE0000 | _ => 0xF0000

/-- Bytes of a part's slot. -/
def slotSize (p : Nat) : Nat :=
  match p with
  | 1 => 0xE0000 | 2 => 0x10000 | _ => 0x8000

/-- Flash base of a bank: true for B. -/
def bankBase (b : Bool) : Nat := if b then 0x100000 else 0

/-- The active bank of part p, 1 to 3: true for B. -/
def activeBank (s : State) (p : Nat) : Bool := s.upd.bank.getD (p - 1) false

/-- The image in a part's slot of a bank. -/
def slotIn (s : State) (b : Bool) (p : Nat) : Option Slot := (if b then s.upd.slotB else s.upd.slotA).getD (p - 1) none

/-- The image in the active bank of a part. -/
def activeSlot (s : State) (p : Nat) : Option Slot := slotIn s (activeBank s p) p

/-- The state with a part's slot of a bank changed. -/
def State.setSlot (s : State) (b : Bool) (p : Nat) (x : Option Slot) : State :=
  if b then { s with upd := { s.upd with slotB := setAt s.upd.slotB (p - 1) x } }
  else { s with upd := { s.upd with slotA := setAt s.upd.slotA (p - 1) x } }

/-- The sectors of a part's slot of a bank, its descriptor sector among them. -/
def slotSectors (b : Bool) (p : Nat) : List Nat :=
  (upTo (slotSize p / 4096)).map (fun i => (bankBase b + slotOfs p) / 4096 + i) ++
    [(bankBase b + 0xF8000) / 4096 + (p - 1)]

/-- The descriptor of the running image of a part; an empty list for none. -/
def runningDesc (s : State) (p : Nat) : List Byte := ((activeSlot s p).map (·.desc)).getD []

/-- The version of the running image of a part. -/
def runningVersion (s : State) (p : Nat) : Nat := descVersion (runningDesc s p)

/-! ### Compatibility (R437) -/

/-- Every version of a combination satisfies every range: versions and descriptors of parts 1 to 3. -/
def combinationOk (v : List Nat) (d : List (List Byte)) : Bool :=
  d.all (fun q => [1, 2, 3].all (fun r =>
    let x := descRange q r
    x.1 ≤ v.getD (r - 1) 0 && v.getD (r - 1) 0 ≤ x.2))

/-- Each combination that the lineup passes through is satisfied. -/
def lineupPasses (m : List Byte) (v : List Nat) (d : List (List Byte)) (l : List Nat) : Bool :=
  match l with
  | [] => true
  | p :: r =>
    let q := (bdPartDesc m p).getD []
    let v := setAt v (p - 1) (descVersion q)
    let d := setAt d (p - 1) q
    combinationOk v d && lineupPasses m v d r

/-- The bundle is compatible with the images running now (R437). -/
def compatible (s : State) (m : List Byte) : Bool :=
  lineupPasses m [runningVersion s 1, runningVersion s 2, runningVersion s 3]
    [runningDesc s 1, runningDesc s 2, runningDesc s 3] (bdLineup m) &&
  (match bdPartDesc m 1 with
    | some d => descFormatMin d ≤ s.cfg.format && s.cfg.format ≤ descFormat d
    | none => true)

/-! ### Staging (R432, Table UPD-6) -/

/-- Flash address of a staging sector. -/
def stagingAt (n : Nat) : Nat := 0x200000 + 4096 * n

/-- `n` bytes of the array from an address. -/
def flashBytes (s : State) (a n : Nat) : List Byte := (upTo n).map (fun i => flashCell s (a + i))

/-- The bytes of a staging sector. -/
def stagedSector (s : State) (n : Nat) : List Byte := flashBytes s (stagingAt n) 4096

/-- The staged metadata area of the session. -/
def stagedMeta (s : State) : List Byte := flashBytes s (stagingAt 1) (4096 * s.upd.metaSectors)

/-- The sectors that a bundle needs, rising. -/
def neededSectors (metaN blocks : Nat) : List Nat := (upTo metaN).map (· + 1) ++ (upTo blocks).map (· + 4)

end Sys2Proof.Machine
end

