-- ==== Sys2Proof/Machine/Plan.lean ====
section
/-! DEFINITION. Plan: the line plan and the topology table in the shared aperture of a starter or an anchor: their layout,
the limits of R168, and the latch of R143. -/

namespace Sys2Proof.Machine

open Sys2Proof

/-! ### Layout (Tables STA-3 to STA-7) -/

/-- SRAM address of the plan header. -/
def planBase : Nat := 0xE0000

/-- OUT_PUB. -/
def outPub (s : State) : Nat := memNat s 0xE0040 4

/-- LIVE_FLAGS.LINE_MOVING. -/
def liveMoving (s : State) : Bool := memNat s 0xE0044 1 % 2 == 1

/-- SRAM address of a byte of OUT buffer b. -/
def outBufAt (b ofs : Nat) : Nat := 0x80000 + 0x18000 * b + ofs

/-- SRAM address of a byte of IN buffer b. -/
def inBufAt (b ofs : Nat) : Nat := 0xB0000 + 0x18000 * b + ofs

/-- SRAM address of the topology entry of position p. -/
def topoAt (p : Nat) : Nat := 0xE1000 + 8 * p

/-- Word 0 of a topology entry. -/
def topoW0 (s : State) (p : Nat) : Nat := memNat s (topoAt p) 2

/-- Word 3 of a topology entry. -/
def topoW3 (s : State) (p : Nat) : Nat := memNat s (topoAt p + 6) 2

/-- STATE of a position: 0 OPEN, 1 PLANNED, 2 PRESENT, 3 SILENT, 4 ABSENT, 5 BEYOND. -/
def topoState (s : State) (p : Nat) : Nat := topoW0 s p % 8

/-- NOSLOT of a position. -/
def topoNoslot (s : State) (p : Nat) : Bool := natBits (topoW0 s p) 3 1 == 1

/-- MISS of a position. -/
def topoMiss (s : State) (p : Nat) : Nat := natBits (topoW0 s p) 8 8

/-- The device writes STATE, NOSLOT and MISS of a position. -/
def topoPut (s : State) (p state : Nat) (noslot : Bool) (miss : Nat) : State :=
  s.store (topoAt p) (leBytes 2 (state + 8 * b2n noslot + 16 * natBits (topoW0 s p) 4 4 + 256 * miss))

/-- The device writes DISAGREE and PENDING of a position. -/
def topoFlags (s : State) (p : Nat) (disagree pending : Bool) : State :=
  s.store (topoAt p + 6) (leBytes 2 (topoW3 s p % 4096 + 4096 * b2n disagree + 8192 * b2n pending))

/-- TOPO: a position and its new state (Table REG-11). -/
def postTopo (s : State) (p : Nat) : State := post s 0xE3 (topoState s p) (word p)

/-- The state of a position changes, with its event (Table STA-8). -/
def topoTo (s : State) (p state : Nat) (noslot : Bool) (miss : Nat) : State :=
  let was := topoState s p
  let s := topoPut s p state noslot miss
  if was == state then s else postTopo s p

/-- The positions 1 to 4094. -/
def allPos : List Nat := (List.range 4094).map (fun i => i + 1)

/-- The positions of a state. -/
def posIn (s : State) (state : Nat) : List Nat := allPos.filter (fun p => topoState s p == state)

/-! ### The plan as it stands in SRAM -/

/-- A heat descriptor. -/
def readHeat (s : State) (h : Nat) : HeatDesc :=
  let a := 0xE0100 + 16 * h
  { first := memNat s a 2, count := memNat s (a + 2) 2, len := memNat s (a + 4) 2, order := memNat s (a + 6) 1 }

/-- The host-owned fields of a position that is not OPEN. -/
def readSlot (s : State) (p : Nat) : Option TopoSlot :=
  if topoState s p == 0 then none
  else
    let a := topoAt p
    let lens := topoW3 s p
    some { pos := p, heat := natBits (topoW0 s p) 4 4, outOfs := 2 * (memNat s (a + 2) 2 % 4096)
           inOfs := 2 * (memNat s (a + 4) 2 % 4096), outLen := 2 * natBits lens 0 6, inLen := 2 * natBits lens 6 6 }

/-- The plan in SRAM. -/
def readPlan (s : State) : Plan :=
  let f := fun ofs n => memNat s (planBase + ofs) n
  { flags := f 3 1, launch := 4 * f 4 4, settle := f 8 4, silent := f 12 1, pingTries := f 13 1, pingLife := f 14 2,
    pocketSize := f 16 1, pockets := f 17 1, quota := f 18 1, batonMax := f 19 1, gunLead := f 20 2,
    heats := (List.range (f 2 1)).map (readHeat s), slots := allPos.filterMap (readSlot s) }

/-! ### Limits (R168) -/

/-- A number lies in a range. -/
def within (lo hi v : Nat) : Bool := lo ≤ v && v ≤ hi

/-- Two ranges of bytes share none. -/
def apart (a n b m : Nat) : Bool := n == 0 || m == 0 || a + n ≤ b || b + m ≤ a

/-- The ranges of Table STA-4, its reserved bytes included. -/
def headerOk (s : State) (v : Plan) : Bool :=
  memNat s planBase 2 == 1 && within 1 16 v.heats.length && v.flags / 16 == 0 && within 100 60000 v.settle &&
  within 1 255 v.silent && within 1 15 v.pingTries && within 1 65535 v.pingLife && within 1 19 v.pocketSize &&
  v.batonMax ≤ 32 && within 8 65535 v.gunLead && memNat s (planBase + 22) 42 == 0

/-- The ranges of Table STA-5. -/
def heatOk (s : State) (n h : Nat) (d : HeatDesc) : Bool :=
  within 1 4094 d.first && within 1 4094 d.count && d.len ≤ 8192 && d.len % 2 == 0 && d.order < n &&
  memNat s (0xE0100 + 16 * h + 7) 9 == 0

/-- A position lies in a heat's range. -/
def inHeat (d : HeatDesc) (p : Nat) : Bool := d.first ≤ p && p < d.first + d.count

/-- The ranges of Table STA-7, the heat of a position, and its own slot. -/
def slotOk (s : State) (v : Plan) (t : TopoSlot) : Bool :=
  topoState s t.pos ≤ 5 && t.outLen ≤ 64 && t.inLen ≤ 64 && memNat s (topoAt t.pos + 2) 2 < 4096 &&
  memNat s (topoAt t.pos + 4) 2 < 4096 && topoW3 s t.pos < 16384 &&
  (match v.heats[t.heat]? with
   | some d =>
     inHeat d t.pos && apart t.outOfs t.outLen t.inOfs t.inLen && t.outOfs + t.outLen ≤ d.len &&
     t.inOfs + t.inLen ≤ d.len
   | none => false)

/-- The slots of two positions of one heat share no byte. -/
def slotsApart (a b : TopoSlot) : Bool :=
  a.heat != b.heat ||
  (apart a.outOfs a.outLen b.outOfs b.outLen && apart a.outOfs a.outLen b.inOfs b.inLen &&
   apart a.inOfs a.inLen b.outOfs b.outLen && apart a.inOfs a.inLen b.inOfs b.inLen)

/-- A relation holds between each element of a list and every later one. -/
def pairwiseB {α : Type} (r : α → α → Bool) (l : List α) : Bool :=
  match l with
  | [] => true
  | a :: t => t.all (r a) && pairwiseB r t

/-- A latched plan is valid (R168). -/
def planOk (s : State) (v : Plan) : Bool :=
  headerOk s v && (mapFrom 0 (heatOk s v.heats.length) v.heats).all id &&
  pairwiseB (fun a b => a.order != b.order && apart a.first a.count b.first b.count) v.heats &&
  v.slots.all (slotOk s v) && pairwiseB slotsApart v.slots &&
  v.slots.foldl (fun n t => n + t.outLen) 0 ≤ 98304 && v.slots.foldl (fun n t => n + t.inLen) 0 ≤ 98304 &&
  sampleOfs s + 8000 ≤ v.launch && v.launch < periodNs s

/-! ### The latch (R143) -/

/-- The device has a plan: STARTER or ANCHOR. -/
def hasPlan (s : State) : Bool := s.mode.role == .starter || s.mode.role == .anchor

/-- The plan is latched when it is valid; none when it is not. -/
def latchPlan (s : State) : Option State :=
  let v := readPlan s
  if planOk s v then some { s with sta := { s.sta with plan := some v } } else none

/-- At a configuration swap a failing plan keeps the previous one. -/
def latchAtSwap (s : State) : State := if hasPlan s then (latchPlan s).getD s else s

/-- Line time of the first heat of cycle k (R144). -/
def launchAt (s : State) (k : Nat) : Nat := k * periodNs s + (s.sta.plan.map (fun v => v.launch)).getD 0

/-- Heats run, so batons and RELAY frames may leave behind them (R144, R149, R164). -/
def heatsRun (s : State) : Bool :=
  s.mode.lineEngine && !s.mode.logicReset &&
  (match s.mode.role with
   | .starter => s.sta.stage = .running && s.mode.mode != .minimal
   | .anchor => s.sta.anchor.takeover && s.sta.anchor.heats
   | _ => false)

/-- Packed offset of a position in the OUT image (R145). -/
def packedOut (v : Plan) (p : Nat) : Nat := (v.slots.filter (fun t => t.pos < p)).foldl (fun n t => n + t.outLen) 0

/-- Packed offset of a position in the IN image (R145). -/
def packedIn (v : Plan) (p : Nat) : Nat := (v.slots.filter (fun t => t.pos < p)).foldl (fun n t => n + t.inLen) 0

end Sys2Proof.Machine
end

