-- ==== Sys2Proof/Machine/Session.lean ====
section
/-! DEFINITION. Session: the update session's state words, staging, activation pauses and fallback, as operations that the
update commands, the medium, the starter and the boot share (R425 to R445). -/

namespace Sys2Proof.Machine

open Sys2Proof

/-! ### State words (Table REG-17, R425, R429, R430) -/

/-- UPD_STAT.STATE codes (Table UPD-2). -/
def updCode (p : UpdPhase) : Nat :=
  match p with
  | .idle => 0 | .read => 1 | .pull => 2 | .receive => 3 | .staged => 4 | .prepare => 5 | .prepared => 6
  | .activate => 7 | .confirm => 8 | .distribute => 9

/-- The device is moving (R430). -/
def isMoving (s : State) : Bool :=
  chanNos.any (fun n => (cfgB s 4 (16 * n) 5 && (chan s n).eff != 0) || speedAbove s n) ||
  (match s.mode.role with
    | .node => s.cyc.moving
    | .anchor => s.cyc.moving
    | .starter => liveMoving s
    | .bench => false)

/-- UPD_STAT.PART: the part in preparation or activation (R429). -/
def updPart (s : State) : Nat :=
  match s.upd.phase with
  | .prepare => s.upd.todo.headD 0
  | .activate => s.upd.todo.headD 0
  | _ => 0

/-- UPD_STAT (Table REG-17). -/
def updStatWord (s : State) : Word :=
  pack [(updCode s.upd.phase, 0), (updPart s, 4), (b2n (s.upd.phase == .confirm), 6), (b2n (isMoving s), 7),
    (b2n s.upd.fallback, 8), (b2n s.upd.refused, 9), (b2n s.upd.mediaWait, 10)]

/-- UPD_PROG.COUNT (R429). -/
def updProgWord (s : State) : Word :=
  let staged := (neededSectors s.upd.metaSectors s.upd.blocks).length - s.upd.missing.length
  match s.upd.phase with
  | .read => word staged
  | .pull => word staged
  | .receive => word staged
  | .distribute => word ((s.upd.dist.map (fun d => d.complete.length)).getD 0)
  | .prepare => word s.upd.prepared
  | .prepared => word s.upd.prepared
  | .activate => word s.upd.paused
  | .confirm => word (Nat.min 1000 s.upd.good)
  | _ => 0

/-- UPD_CTRL as read (Table REG-17). -/
def updCtrlWord (s : State) : Word := pack [(s.upd.cmd, 0), (s.upd.result, 4)]

/-! ### Changes of state (R425, R426) -/

/-- The session takes a state, and UPD_STATE is posted when it changes (R425). -/
def setPhase (s : State) (p : UpdPhase) : State :=
  if s.upd.phase == p then s
  else
    let s := { s with upd := { s.upd with phase := p } }
    post s 0x60 0 (updStatWord s)

/-- The session's own work leaves the device: the reader, the buffers, the engine's operations, the waits. -/
def sessionClear (s : State) : State :=
  let s := cryptoDrop s (fun f => match f with
    | .relay _ => true
    | .prepare _ => true
    | _ => false)
  { s with
    upd := { s.upd with
      source := 0, ident := [], metaSectors := 0, blocks := 0, metaOk := false, missing := [], toErase := [],
      bufs := [], dist := none, distOnce := false, todo := [], prepared := 0, switched := [], paused := 0, startT := none,
      coreBoot := false, deadline := none, vetoed := false, good := 0, mediaWait := false },
    media := { s.media with reader := none, removedT := none } }

/-- The session ends in IDLE (R425). -/
def sessionIdle (s : State) : State := setPhase (sessionClear s) .idle

/-- UPD_REFUSED with a code and a command code (R426). -/
def postUpdRefused (s : State) (code cmd : Nat) : State :=
  post { s with upd := { s.upd with refused := true } } 0x61 cmd (word code)

/-- A check or a limit ends the session with a code; no command caused it, so ARGX is 0 (R426, R434, R435). -/
def sessionFail (s : State) (code : Nat) : State :=
  let s := sessionIdle s
  postUpdRefused { s with upd := { s.upd with ended := word code } } code 0

/-! ### Staging (R432 to R435) -/

/-- A session opens its staging: sector 0 and the needed sectors are to be erased, in ascending order (R432). -/
def openStaging (s : State) (ident : List Byte) (metaN blocks : Nat) : State :=
  let need := neededSectors metaN blocks
  let s := { s with upd := { s.upd with ident, metaSectors := metaN, blocks, metaOk := false, missing := need,
                                         toErase := 0 :: need, bufs := [] } }
  eachNo (0 :: need) (fun s n => askErase s (512 + n)) s

/-- A staging sector reads erased. -/
def stagingErased (s : State) (n : Nat) : Bool := !s.flash.cells.any (fun c => c.1 / 4096 == 512 + n)

/-- A sector can be taken: needed and missing, the session's erases done, the sector erased, and a buffer free (R432,
R436). -/
def mayTake (s : State) (n : Nat) : Bool :=
  s.upd.missing.contains n && s.upd.toErase.isEmpty && stagingErased s n && s.upd.bufs.length < 4 &&
  !s.upd.bufs.any (fun b => b.1 == n) && !s.mode.pwrfail

/-- A sector is taken into a buffer, and a digest of rank 2 is asked for (R432, R467). -/
def takeSector (s : State) (n : Nat) (l : List Byte) : State :=
  cryptoAsk { s with upd := { s.upd with bufs := s.upd.bufs ++ [(n, l)] } } 2 (.relay n)

/-- The session's bundle carries the remembered nonce base of another bundle (R464). -/
def nonceReused (s : State) (m : List Byte) : Bool :=
  s.sec.nbase.any (fun p => p.1 == bdNonce m && p.2 != bdIdent m)

/-- The bundle checks once the metadata are staged: the code of the first that fails, 0 for none (R435). -/
def bundleCheck (s : State) (m : List Byte) : Nat :=
  if !compatible s m then 0x0605
  else if bdSecVersion m < s.sec.secver then 0x0609
  else if nonceReused s m then 0x060A
  else 0

/-- The staged metadata pass the structural and signature checks and name the session's identity (R434). -/
def stagedMetaOk (s : State) : Bool :=
  let m := stagedMeta s
  structuralOk m none && bdMeta m == s.upd.metaSectors && bdBlocks m == s.upd.blocks && signatureOk m &&
  (s.upd.ident.isEmpty || bdIdent m == s.upd.ident)

/-- Every metadata sector is programmed. -/
def metaProgrammed (s : State) : Bool := (upTo s.upd.metaSectors).all (fun i => !stagingErased s (1 + i))

/-- The metadata sectors are staged: judged together; then the bundle checks but for a pull at the starter (R433 to
R435). -/
def judgeMeta (s : State) : State :=
  if !metaProgrammed s then s
  else if !stagedMetaOk s then sessionFail s 0x0607
  else
    let m := stagedMeta s
    let s := { s with upd := { s.upd with metaOk := true, ident := bdIdent m,
                                           missing := s.upd.missing.filter (fun n => 4 ≤ n) } }
    let code := if s.upd.phase == .pull then 0 else bundleCheck s m
    if code != 0 then sessionFail s code else s

/-- A record sector is programmed and read back: staged when it passes its block check, else erased again (R432, R434). -/
def judgeRecord (s : State) (n : Nat) : State :=
  if blockOk (stagedMeta s) (n - 4) (stagedSector s n) then
    let s := { s with upd := { s.upd with missing := s.upd.missing.filter (fun x => x != n) } }
    if s.upd.missing.isEmpty then
      setPhase { s with media := { s.media with reader := none } } .staged
    else s
  else askErase s (512 + n)

/-- The oldest buffered sector has been programmed, or its program failed (R432). -/
def sectorDone (s : State) (ok : Bool) : State :=
  match s.upd.bufs with
  | [] => s
  | (n, l) :: r =>
    let s := cryptoDrop { s with upd := { s.upd with bufs := r } } (fun f => f = .relay n)
    if !ok then askErase (s.flashWrite (stagingAt n) (l.take 32)) (512 + n)
    else
      let s := (flashAccess s 2).flashWrite (stagingAt n) l
      if n < 4 then judgeMeta s else judgeRecord s n

/-- The medium reader begins: a transfer of an earlier reading that still runs is stale (R422, R423). -/
def newReader (s : State) (a : ReadAt) : Reader :=
  { at_ := a, buf := [], meta_ := [], fails := 0, again := false, best := none, firstBad := none
    stale := s.ser.running = some .medium }

/-- The map after a boot: every needed sector in staging is checked again, and a missing one that is not erased is to be
erased again (R432, R433). -/
def rebuildMap (s : State) : State :=
  let ok := s.upd.metaSectors != 0 && metaProgrammed s && stagedMetaOk s
  let m := stagedMeta s
  let recs := ((upTo s.upd.blocks).map (· + 4)).filter (fun n => !(ok && blockOk m (n - 4) (stagedSector s n)))
  let missing := (if ok then [] else (upTo s.upd.metaSectors).map (· + 1)) ++ recs
  let again := missing.filter (fun n => !stagingErased s n)
  let s := { s with upd := { s.upd with metaOk := ok, missing, toErase := again, bufs := [] } }
  eachNo again (fun s n => askErase s (512 + n)) s

/-! ### Activation pauses (R302, R440, Table UPD-10) -/

/-- ACT_PAUSE for a part. -/
def postActPause (s : State) (p : Nat) (begin_ : Bool) : State := post s 0x62 (b2n begin_) (word p)

/-- The selector of a part takes the other bank (Table UPD-10 step 3). -/
def switchBank (s : State) (p : Nat) : State :=
  { s with upd := { s.upd with bank := setAt s.upd.bank (p - 1) (!activeBank s p) } }

/-- The unit of a FIELD or LINE part goes into its reset (Table UPD-10 steps 6 and 9). -/
def partReset (s : State) (p : Nat) : State :=
  if p == 2 then (if s.mode.fieldReset then s else fieldResetStart s)
  else if p == 3 then { s with mode := { s.mode with lineEngine := false }, time := { s.time with prev := none } }
  else s

/-- The pause of a part begins: trigger 6, ACT_PAUSE, the selector, and the reset of a FIELD or LINE part (Table
UPD-10). -/
def partPause (s : State) (p : Nat) : State := partReset (switchBank (postActPause (pauseBegin s) p true) p) p

/-- The unit of a FIELD or LINE part runs its image again (Table UPD-10 steps 7, 8 and 9). -/
def partStart (s : State) (p : Nat) : State :=
  if p == 2 then (if s.mode.fieldReset then fieldRestart s true true else s)
  else if p == 3 then { s with mode := { s.mode with lineEngine := true } }
  else s

/-- The pause of a part ends (Table UPD-10 step 10). -/
def partResume (s : State) (p : Nat) : State := postActPause (pauseEnd (partStart s p)) p false

/-! ### Confirmation and fallback (R441 to R443) -/

/-- The session awaits confirmation: 120 s from now, counts from 0 (R441). -/
def confirmBegin (s : State) : State :=
  let now := s.time.line
  setPhase { s with upd := { s.upd with deadline := some (now + 120000000000), vetoed := false, good := 0, expired := false,
                                         okT := if s.mode.bootOk then s.upd.okT else now } } .confirm

/-- A fallback is decided: the selectors of the switched parts are restored, in reverse order (R443); the FIELD and LINE
parts among them are still to be paused. -/
def fallDecide (s : State) (reason : Word) (atBoot : Bool) : State :=
  let parts := s.upd.switched.reverse
  let reset := atBoot || parts.contains 1
  let s := { s with upd := { s.upd with
    falling := some (reason, parts.filter (fun p => p != 1)), restored := parts, fallReset := reset, coreBoot := false,
    deadline := none } }
  if parts.contains 1 then switchBank s 1 else s

/-- The pause of the first FIELD or LINE part that the fallback restores begins. -/
def fallPause (s : State) : State :=
  match s.upd.falling with
  | some (_, p :: _) => partPause s p
  | _ => s

/-- The fallback is reported at the BOOT-OK of the restored image, or at its last pause's end when no core reset ends it:
REASON, FALLBACK, and the session in IDLE (R443). -/
def fallReport (s : State) : State :=
  match s.upd.falling with
  | some (reason, []) =>
    let s := { s with upd := { s.upd with fallback := true } }
    let s := eachNo s.upd.restored (fun s p => post s 0x64 p reason) (s.reason reason)
    sessionIdle { s with upd := { s.upd with falling := none, restored := [], oldFormat := none } }
  | _ => s

end Sys2Proof.Machine
end

