-- ==== Sys2Proof/Machine/Wdog.lean ====
section
/-! DEFINITION. Wdog: the two challenge watchdogs (chapter 16): the judgement of answers, errors, expiry and freezes. -/

namespace Sys2Proof.Machine

open Sys2Proof

/-! ### Cycles -/

/-- WDH_OPEN, ns. -/
def wdhOpen (s : State) : Nat := 1000000 * cfgF s 0xC 2 0 16

/-- WDH_PERIOD, ns. -/
def wdhPeriod (s : State) : Nat := 1000000 * cfgF s 0xC 1 0 16

/-- A cycle that ends unfrozen lets an erase source freeze the instance again (R402). -/
def Dog.endCycle (d : Dog) : Dog := { d with mayFreeze := d.mayFreeze || !d.touched }

/-- The next WDH cycle starts (R392, R394). -/
def wdhNext (s : State) : State :=
  let d := s.wdog.h.endCycle.cycle (cfgW s 0xC 4) s.time.line (wdhOpen s) (wdhPeriod s)
  { s with wdog := { s.wdog with h := d } }

/-- The next WDC cycle starts (R392, Table WDG-1). -/
def wdcNext (s : State) : State :=
  let d := s.wdog.c.endCycle.cycle s.wdog.wdcSeed s.time.line 100000000 200000000
  { s with wdog := { s.wdog with c := d } }

/-- A watchdog expiry since the end of the last activation pause bars the confirmation (18 R441). -/
def markExpiry (s : State) : State := { s with upd := { s.upd with expired := true } }

/-! ### WDH (R393, R395 to R397) -/

/-- WDH expires (R397): EXPIRED with ERRORS 3 and a new question, trigger 1 with REASON 0x0301, WDH_EXPIRED. The seed of
the shown question is that of the active set now: DEDUCED, log 10. The detail record follows Table HLT-7. -/
def wdhExpire (s : State) : State :=
  let s := thawH s
  let h := { s.wdog.h with st := .expired, errors := 3, q := nextQ s.wdog.h.q, seed := cfgW s 0xC 4, opened := false }
  let s := markExpiry { s with wdog := { s.wdog with h, hExpiries := sat16 s.wdog.hExpiries } }
  let s := triggerHw s 1 0x0301
  let s := post s 0x31 0 (wdhStatWord s)
  wake (detail s 0x31 (s.wdog.served + 65536 * (wdhQuestionWord s).toNat)) 0x03

/-- A WDH error of kind 1 early, 2 late or 3 wrong (R393). -/
def wdhError (s : State) (kind : Nat) : State :=
  let s := { s with wdog := { s.wdog with early := s.wdog.early || kind == 1, late := s.wdog.late || kind == 2,
                                           wrong := s.wdog.wrong || kind == 3 } }
  let s := { s with wdog := { s.wdog with h := s.wdog.h.endCycle } }
  if 2 ≤ s.wdog.h.errors then wdhExpire s
  else
    let s := wdhNext { s with wdog := { s.wdog with h := { s.wdog.h with errors := s.wdog.h.errors + 1 } } }
    post s 0x30 kind (wdhStatWord s)

/-- A served WDH answer (Table WDG-2). -/
def wdhServed (s : State) : State :=
  wdhNext { s with wdog := { s.wdog with
    served := (s.wdog.served + 1) % 256, h := { s.wdog.h with errors := s.wdog.h.errors - 1 } } }

/-- A period that has ended by now is decided first: its late error (R392, the first close finish). -/
def wdhLate (s : State) : State := if s.wdog.h.isOver s.time.line then wdhError s 2 else s

/-- A token written to WDH_ANSWER (R392, R396, R397). -/
def wdhAnswer (s : State) (w : Word) : State :=
  let s := wdhLate s
  let good := w == token s.wdog.h.q s.wdog.h.seed
  match s.wdog.h.st with
  | .off => s
  | .expired =>
    if good then
      let s := wdhNext { s with wdog := { s.wdog with h := { s.wdog.h with st := .run, errors := 0 } } }
      freezeCheck (releaseTrigger s 1)
    else { s with wdog := { s.wdog with wrong := true } }
  | .run => if !s.wdog.h.isOpen s.time.line then wdhError s 1 else if good then wdhServed s else wdhError s 3

/-- A write to WDH_ANSWER (R191, Table REG-13). -/
def writeWdhAnswer (s : State) (v : Acc) (w : Word) : Done := (wdhAnswer (beginWrite s v.path) w, 0)

/-- WDH_ANSWER: a path writes a token (R392). -/
def execWdhAnswer (via : Path) (w : Word) (s : State) : Result := .next (served s via (fun s v => writeWdhAnswer s v w))

/-- WDH_WINDOW_OPEN: the cycle timer reaches the open offset (R392); a frozen timer stands still (R401). -/
def execWdhWindowOpen (s : State) : Result :=
  let h := s.wdog.h
  if h.st == .run && !h.opened && h.frozen.isNone then
    let s := s.reach (h.startT + h.frozenNs + h.ofs)
    .next { s with wdog := { s.wdog with h := { h with opened := true } } }
  else .next s

/-- WDH_PERIOD_END: the period ends without a correct token, a late error (R392). -/
def execWdhPeriodEnd (s : State) : Result :=
  let h := s.wdog.h
  if h.st == .run && h.frozen.isNone then .next (wdhError (s.reach (h.startT + h.frozenNs + h.per)) 2) else .next s

/-! ### WDC (R399, R400) -/

/-- The profile of trigger 2 is applied, and a core reset is due after 50 µs (R400, R303); REASON takes the code that the
boot will find: DEDUCED, log 11. -/
def wdcTrigger (s : State) (fatal : Bool) : State :=
  let detail : Nat := if fatal then 3 else 2
  let s := trigger s 2 (word ((if s.mode.stable then 0x0300 else 0x0200) + detail))
  { s with wdog := { s.wdog with cReset := some fatal } }

/-- WDC expires (R400). -/
def wdcExpire (s : State) : State :=
  let s := thawC s
  let s := markExpiry { s with wdog := { s.wdog with
    c := { s.wdog.c with st := .expired, errors := 3, opened := false }, cExpiries := sat16 s.wdog.cExpiries } }
  wdcTrigger (post s 0x32 0 s.mode.reason) false

/-- A WDC error: counted in the status words, no event (R393). -/
def wdcError (s : State) : State :=
  let s := { s with wdog := { s.wdog with cErrs := sat16 s.wdog.cErrs, c := s.wdog.c.endCycle } }
  if 2 ≤ s.wdog.c.errors then wdcExpire s
  else wdcNext { s with wdog := { s.wdog with c := { s.wdog.c with errors := s.wdog.c.errors + 1 } } }

/-- A WDC period that has ended by now is decided first (R392). -/
def wdcLate (s : State) : State := if s.wdog.c.isOver s.time.line && !s.wdog.cRest then wdcError s else s

/-- WDC_ANSWER: the firmware writes its token, judged at the position of the cycle timer (R392). -/
def execWdcAnswer (w : Word) (s : State) : Result :=
  let s := wdcLate s
  let c := s.wdog.c
  if c.st != .run || !coreRuns s then .next s
  else if !c.isOpen s.time.line then .next (wdcError s)
  else if w == token c.q c.seed then
    .next (wdcNext { s with wdog := { s.wdog with c := { c with errors := c.errors - 1 } } })
  else .next (wdcError s)

/-- WDC_PERIOD_END: the 200 ms end without a correct token; the window opens at 100 ms of the same cycle (R392). -/
def execWdcPeriodEnd (s : State) : Result :=
  let c := s.wdog.c
  if c.st == .run && c.frozen.isNone && !s.wdog.cRest then .next (wdcError (s.reach (c.startT + c.frozenNs + c.per)))
  else .next s

/-- FATAL_EXCEPTION: the path of a WDC expiry at once (R400). -/
def execFatalException (s : State) : Result :=
  if s.mode.coreReset || s.mode.porst then .next s
  else .next (wdcTrigger (markExpiry (post s 0x32 0 s.mode.reason)) true)

/-- FREEZE_LIMIT: 200 ms after it began, a freeze by an erase source ends (R402). -/
def execFreezeLimit (core : Bool) (s : State) : Result :=
  let d := if core then s.wdog.c else s.wdog.h
  match d.frozen with
  | some f =>
    let s := s.reach (f + 200000000)
    .next (if core then thawC s else thawH s)
  | none => .next s

end Sys2Proof.Machine
end

