-- ==== Sys2Proof/Machine/Status.lean ====
section
/-! DEFINITION. Status: the status and port words of the configuration tables, which are windows onto live counters and
states and the same in both sets (R211, R276, R516). -/

namespace Sys2Proof.Machine

open Sys2Proof

/-- The low or high word of a 32-bit value. -/
def half32 (v k : Nat) : Word := word (v / 2 ^ (16 * k))

/-- NODE words 0x40 to 0x4F (Table CFG-6). -/
def nodeStatus (s : State) (w : Nat) : Word :=
  match w with
  | 0x40 => word s.cfg.format
  | 0x41 => pack [(b2n (nPending s), 0), (b2n s.cfg.storeMatch, 1), (b2n s.cfg.diffS, 2), (b2n s.cfg.diffN, 3)]
  | 0x42 => half32 s.cfg.lastSwapT 0
  | 0x43 => half32 s.cfg.lastSwapT 1
  | 0x44 => half32 s.cfg.lastSwapT 2
  | 0x45 => half32 s.cfg.lastSwapT 3
  | 0x46 => half32 ((s.cfg.armed.map (·.instant)).getD 0) 0
  | 0x47 => half32 ((s.cfg.armed.map (·.instant)).getD 0) 1
  | 0x48 => half32 ((s.cfg.armed.map (·.instant)).getD 0) 2
  | 0x49 => half32 ((s.cfg.armed.map (·.instant)).getD 0) 3
  | 0x4A => pack [(s.cfg.lastRef, 0), (s.cfg.refs, 8)]
  | 0x4B => half32 s.cfg.storeSeq 0
  | 0x4C => half32 s.cfg.storeSeq 1
  | _ => 0

/-- LINK words of one port, counted from its first (Table LNK-12). -/
def portStatus (l : LinkPort) (w : Nat) : Word :=
  match w with
  | 0 => half32 l.frames 0
  | 1 => half32 l.frames 1
  | 2 => half32 l.poisoned 0
  | 3 => half32 l.poisoned 1
  | 4 => half32 l.poisonIn 0
  | 5 => half32 l.poisonIn 1
  | 6 => half32 l.symErr 0
  | 7 => half32 l.symErr 1
  | 8 => word l.down
  | 9 => word l.loops
  | 10 => pack [((iword (l.taps.getD 0 0)).toNat % 256, 0), ((iword (l.taps.getD 1 0)).toNat % 256, 8)]
  | 11 => pack [((iword (l.taps.getD 2 0)).toNat % 256, 0)]
  | _ => 0

/-- LINK words 0x20 to 0x3F (Table LNK-12). -/
def linkStatus (s : State) (w : Nat) : Word :=
  if w == 0x2C then word s.link.discard
  else if w == 0x2D then word s.link.rsvdType
  else if w < 0x30 then portStatus s.link.a (w - 0x20)
  else portStatus s.link.b (w - 0x30)

/-- MAP words 0x60 to 0x6E (Table CYC-3). -/
def mapStatus (s : State) (w : Nat) : Word :=
  match w with
  | 0x60 => half32 s.cyc.applied 0
  | 0x61 => half32 s.cyc.applied 1
  | 0x62 => half32 s.cyc.accepted 0
  | 0x63 => half32 s.cyc.accepted 1
  | 0x64 => half32 s.cyc.missed 0
  | 0x65 => half32 s.cyc.missed 1
  | 0x66 => word s.cyc.late
  | 0x67 => word s.cyc.stale
  | 0x68 => word s.cyc.early
  | 0x69 => word s.cyc.dup
  | 0x6A => word s.cyc.hdrErr
  | 0x6B => word s.cyc.missRun
  | 0x6C => word s.cyc.losses
  | 0x6D => word s.cyc.snapLate
  | _ => word (b2n s.cyc.moving)

/-- CHAN words 0x200 to 0x29F (Tables CHN-10 and CHN-11): the snapshot of R274, live state, and the port words. -/
def chanStatus (s : State) (w : Nat) : Word :=
  let v := s.cyc.snap
  if 0x210 ≤ w && w < 0x220 then v.effVals.getD (w - 0x210) 0
  else if 0x220 ≤ w && w < 0x230 then v.cycVals.getD (w - 0x220) 0
  else if 0x230 ≤ w && w < 0x240 then v.sensedVals.getD (w - 0x230) 0
  else if 0x240 ≤ w && w < 0x260 then half32 (v.cnts.getD ((w - 0x240) / 2) 0).toNat (w % 2)
  else if 0x260 ≤ w && w < 0x280 then half32 (chan s ((w - 0x260) / 2)).pfSeq.toNat (w % 2)
  else if 0x280 ≤ w && w < 0x290 then slPend (chan s (w - 0x280))
  else
    match w with
    | 0x200 => half32 v.cycle 0
    | 0x201 => half32 v.cycle 1
    | 0x202 => v.effBits
    | 0x203 => v.cycBits
    | 0x204 => v.locBits
    | 0x205 => v.forceLvl
    | 0x206 => v.mismatch
    | 0x207 => word v.ignCyclic
    | 0x208 => word v.rangeClamp
    | 0x209 => word v.qepDir
    | 0x290 => s.field.pfSel
    | 0x291 => half32 s.field.pfEseq.toNat 0
    | 0x292 => half32 s.field.pfEseq.toNat 1
    | 0x293 => get64 s.field.pfT 0
    | 0x294 => get64 s.field.pfT 1
    | 0x295 => get64 s.field.pfT 2
    | 0x296 => get64 s.field.pfT 3
    | 0x298 => s.field.slSel
    | 0x299 => get64 s.field.slT 0
    | 0x29A => get64 s.field.slT 1
    | 0x29B => get64 s.field.slT 2
    | 0x29C => get64 s.field.slT 3
    | 0x29D => s.field.slVal
    | 0x29E => s.field.slCmd
    | _ => 0

/-- DIAG words 0x200 to 0x23F (Table DIA-7); ACTIVE and LATCHED show the snapshot (R285). -/
def diagStatus (s : State) (w : Nat) : Word :=
  if 0x210 ≤ w && w < 0x220 then
    let c := chan s (w - 0x210)
    pack [(activeCode c, 0), (c.latched, 8)]
  else if 0x220 ≤ w && w < 0x230 then word (chan s (w - 0x220)).retries
  else if 0x230 ≤ w && w < 0x240 then word (chan s (w - 0x230)).thermCnt
  else
    match w with
    | 0x200 => s.cyc.snap.active
    | 0x201 => s.cyc.snap.latched
    | 0x202 => supplyWord s
    | 0x203 => word s.supply.lpMv
    | 0x204 => word s.supply.lsMv
    | 0x205 => iword s.supply.dieTemp
    | _ => 0

/-- ADCSEQ words 0x80 to 0xA3 (Table ADC-10). -/
def adcStatus (s : State) (w : Nat) : Word :=
  let t := (roundHalfNs s.cfg.active + 1) / 2
  if 0x88 ≤ w && w < 0x8C then s.adc.injRes.getD (w - 0x88) 0x8000
  else if 0x90 ≤ w && w < 0xA0 then
    pack [(b2n (s.adc.filters.getD (w - 0x90) {}).out.isSome, 0), (s.adc.ovr.getD (w - 0x90) 0, 8)]
  else
    match w with
    | 0x80 => half32 t 0
    | 0x81 => half32 t 1
    | 0x82 => word s.adc.rounds
    | 0x83 => word s.adc.roundLate
    | 0x84 => word s.adc.roundSlip
    | 0x85 => word s.adc.injMissed
    | 0x86 => word s.adc.injSeq
    | 0x8C => half32 s.adc.injTime.toNat 0
    | 0x8D => half32 s.adc.injTime.toNat 1
    | 0x8E => word s.adc.calCause
    | 0xA0 => s.adc.failMap
    | 0xA1 => s.adc.margMap
    | 0xA2 => pack [(b2n s.adc.dac.isSome, 0), (s.adc.dacDone, 8)]
    | _ => 0

/-- WINDOW words 0x40 to 0x48 (R338). -/
def windowStatus (s : State) (w : Nat) : Word :=
  if w == 0x40 then pack [(winBits s, 0), (winKnown s, 8)] else word (s.adc.exits.getD (w - 0x41) 0)

/-- CSPSEL word 7 of code c (Table CSP-8). -/
def cspStatus (s : State) (c : Nat) : Word :=
  pack [(b2n (flagAt s.ser.cont c), 0), (b2n (flagAt s.ser.erasing c), 1), (b2n (flagAt s.ser.eraseLimit c), 2),
    (s.ser.readyTos.getD c 0, 8)]

/-- PANEL words 0x100 to 0x105 (Table PNL-9). -/
def panelStatus (s : State) (w : Nat) : Word :=
  match w with
  | 0x103 => pack [(s.panel.err0, 0), (s.panel.err1, 8)]
  | 0x104 => word s.panel.queue.length
  | 0x105 => pack [(s.panel.screen, 0), (s.panel.jogCh, 8), (b2n s.panel.jog.isSome, 15)]
  | w => word (s.panel.keys.toNat / 2 ^ (16 * (w - 0x100)))

/-- WDOG words 0x20 to 0x27 (Table WDG-5). -/
def wdogStatus (s : State) (w : Nat) : Word :=
  match w with
  | 0x20 => pack [(if s.wdog.c.st == .expired then 0 else dogCode s.wdog.c s.wdog.cRest, 0), (s.wdog.c.errors, 2)]
  | 0x21 => if s.wdog.h.st == .run then word (Nat.min 0xFFFF (s.wdog.h.elapsed s.time.line / 1000000)) else 0
  | 0x22 => word s.wdog.hExpiries
  | 0x23 => word s.wdog.cExpiries
  | 0x24 => word s.wdog.cErrs
  | 0x25 => word s.wdog.freezes
  | 0x26 => word s.wdog.freezeMax
  | _ => 0

/-- Whole seconds until an instant, rounded up. -/
def secondsTo (s : State) (t : Nat) : Nat := (t - s.time.line + 999999999) / 1000000000

/-- HEALTH words 0x80 to 0xC0 (Table HLT-10). -/
def healthStatus (s : State) (w : Nat) : Word :=
  if 0xA0 ≤ w && w < 0xC0 then half32 (s.health.thermTotal.getD ((w - 0xA0) / 2) 0) (w % 2)
  else
    match w with
    | 0x80 => word (sparesLeft s)
    | 0x81 => word s.health.barRate
    | 0x82 => word s.health.lnkRate
    | 0x83 => word s.health.holdCt
    | 0x84 => word s.health.pllMargin
    | 0x85 => word s.health.selftest.toNat
    | 0x86 => word s.trace.frozenDrops
    | 0x87 => word s.trace.dropped
    | 0x88 => half32 s.trace.tseq 0
    | 0x89 => half32 s.trace.tseq 1
    | 0x8A => half32 s.health.porCount 0
    | 0x8B => half32 s.health.porCount 1
    | 0x8C => word s.inj.done
    | 0x8D => word ((s.inj.armed.map (fun a => secondsTo s a.until_)).getD 0)
    | 0x8E =>
      match s.inj.sealedEnable with
      | some (t, ts) => pack [(secondsTo s t, 0), (ts, 12)]
      | none => 0
    | _ => 0

/-- A status or port word of a table, none for a configuration word (R211, R276). -/
def statusWord (s : State) (t w : Nat) : Option Word :=
  let within := fun (a b : Nat) => a ≤ w && w ≤ b
  match t with
  | 1 => if within 0x40 0x4F then some (nodeStatus s w) else none
  | 2 => if within 0x20 0x3F then some (linkStatus s w) else none
  | 3 => if within 0x60 0x6E then some (mapStatus s w) else none
  | 4 => if within 0x200 0x29F then some (chanStatus s w) else none
  | 5 => if within 0x200 0x23F then some (diagStatus s w) else none
  | 7 => if within 0x80 0xA3 then some (adcStatus s w) else none
  | 8 => if within 0x80 0x8F then some (filterWord (s.adc.filters.getD (w - 0x80) {})) else none
  | 9 => if within 0x40 0x48 then some (windowStatus s w) else none
  | 10 => if w % 8 == 7 then some (cspStatus s (w / 8)) else none
  | 11 => if within 0x100 0x105 then some (panelStatus s w) else none
  | 12 => if within 0x20 0x27 then some (wdogStatus s w) else none
  | 13 => if within 0x10 0x11 then some (if w == 0x10 then trigWord s else inForceWord s) else none
  | 14 => if within 0x80 0xC0 then some (healthStatus s w) else none
  | _ => none

/-- A port word, which accepts writes through the window (R276, R517). -/
def isPort (t w : Nat) : Bool := (t == 4 && 0x290 ≤ w && w ≤ 0x29F) || (t == 14 && w == 0xC0)

end Sys2Proof.Machine
end

