-- ==== Sys2Proof/Machine/Sets.lean ====
section
/-! DEFINITION. Sets: the configuration window, validation, copy, swap and commit (chapter 09). -/

namespace Sys2Proof.Machine

open Sys2Proof

/-! ### The window and the claim (R208, R212 to R214, Table CFG-3) -/

/-- A window access that Table CFG-3 denies: BUS_ERROR cause 6, or NOT_OWNER. -/
def notOwner (s : State) (p : Path) (addr : Nat) : Done :=
  match p with
  | .line => (s, 0x07)
  | _ => (busError s 6 addr, 0x07)

/-- An access to an invalid word: BUS_ERROR cause 6, or BAD_ADDR. -/
def badWord (s : State) (p : Path) (addr : Nat) : Done :=
  match p with
  | .line => (s, 0x04)
  | _ => (busError s 6 addr, 0x04)

/-- The path holds the claim. -/
def owns (s : State) (p : Path) : Bool := s.cfg.owner == some p

/-- The path holds the claim, or no path does. -/
def ownsOrFree (s : State) (p : Path) : Bool := owns s p || s.cfg.owner.isNone

/-- The owner has made a window access (R213). -/
def windowUse (s : State) (p : Path) : State :=
  if owns s p then { s with cfg := { s.cfg with ownerT := s.time.line } } else s

/-- The owner changes, and OWNER says so (R213). -/
def setOwner (s : State) (o : Option Path) : State :=
  if s.cfg.owner == o then s
  else post { s with cfg := { s.cfg with owner := o, ownerT := s.time.line } } 0xF5 ((o.map pathCode).getD 0) 0

/-- WORD steps to the next word after an accepted CFG_DATA access with AUTOINC (R214). -/
def stepWord (s : State) : State :=
  if s.cfg.autoinc then { s with cfg := { s.cfg with word := (s.cfg.word + 1) % 16384 } } else s

/-- CFG_SET as read. -/
def cfgSetWord (s : State) : Word := pack [(b2n s.cfg.selShadow, 0), (b2n s.cfg.autoinc, 1), (s.cfg.table, 8)]

/-- A write to CFG_SET (R212). -/
def regCfgSet (s : State) (v : Acc) (w : Word) : Done :=
  regWrite s v 0x1C false false (fun s =>
    if owns s v.path then
      let s := windowUse s v.path
      ({ s with cfg := { s.cfg with selShadow := bitOf w 0, autoinc := bitOf w 1, table := bitsOf w 8 8 } }, 0)
    else notOwner s v.path 0x1C)

/-- A write to CFG_ADDR (R212). -/
def regCfgAddr (s : State) (v : Acc) (w : Word) : Done :=
  regWrite s v 0x1E false false (fun s =>
    if owns s v.path then
      let s := windowUse s v.path
      ({ s with cfg := { s.cfg with word := bitsOf w 0 14 } }, 0)
    else notOwner s v.path 0x1E)

/-- The value of a valid table word: a status or port word, or the word of a set. -/
def tableWord (s : State) (shadow : Bool) (t w : Nat) : Word :=
  match statusWord s t w with
  | some x => x
  | none => setGet (if shadow then s.cfg.shadow else s.cfg.active) t w

/-- A read of CFG_DATA (R208, R214); in MINIMAL the register reads 0. -/
def readCfgData (s : State) (v : Acc) : State × Word × Nat :=
  if v.mode == .minimal then (s, 0, 0)
  else if !owns s v.path then
    let r := notOwner s v.path 0x20
    (r.1, 0xFFFF, r.2)
  else
    let s := windowUse s v.path
    if wordValid s.cfg.table s.cfg.word then
      (stepWord s, tableWord s s.cfg.selShadow s.cfg.table s.cfg.word, 0)
    else
      let r := badWord s v.path 0x20
      (r.1, 0xFFFF, r.2)

/-- A word is written in the shadow set by the owner: refused while BUSY or ARMED; status words take nothing; port words
act; any other word clears VALID (R211, R212, R215, R276, R517). -/
def shadowWrite (s : State) (p : Path) (t w : Nat) (x : Word) : Done :=
  if !wordValid t w || s.cfg.busy.isSome || s.cfg.armed.isSome then badWord s p 0x20
  else if t == 0xE && w == 0xC0 then
    if s.mode.mode == .setup || s.mode.mode == .safe then (replClr s x, 0) else badWord s p 0x20
  else if isPort t w then (chanPortWrite s w x, 0)
  else if (statusWord s t w).isSome then (s, 0)
  else ({ s with cfg := { s.cfg with shadow := setPut s.cfg.shadow t w x, valid := false } }, 0)

/-- A write to CFG_DATA (R208, R214, R215). -/
def regCfgData (s : State) (v : Acc) (x : Word) : Done :=
  regWrite s v 0x20 false false (fun s =>
    if !owns s v.path then notOwner s v.path 0x20
    else
      let s := windowUse s v.path
      if !s.cfg.selShadow then badWord s v.path 0x20
      else
        let r := shadowWrite s v.path s.cfg.table s.cfg.word x
        if r.2 == 0 then (stepWord r.1, 0) else r)

/-- A write to CFG_STAT clears the flags whose bits are set (Table REG-12). -/
def cfgStatClear (s : State) (w : Word) : State :=
  { s with cfg := { s.cfg with valFail := s.cfg.valFail && !bitOf w 4, swapped := s.cfg.swapped && !bitOf w 6,
                                swapRef := s.cfg.swapRef && !bitOf w 7, missedGun := s.cfg.missedGun && !bitOf w 8,
                                commitErr := s.cfg.commitErr && !bitOf w 9 } }

/-- A write to CFG_STAT. -/
def regCfgStat (s : State) (v : Acc) (w : Word) : Done :=
  regWrite s v 0x24 false false (fun s => (cfgStatClear s w, 0))

/-- A write to GUN_T0 to GUN_T3 (R198). -/
def regGunT (s : State) (v : Acc) (i : Nat) (w : Word) : Done :=
  regWrite s v (0x26 + 2 * i) false false (fun s => ({ s with cfg := { s.cfg with gun := put64 s.cfg.gun i w } }, 0))

/-! ### Validation and copy (R216, R217) -/

/-- VALIDATED with a word and a table (Table REG-11). -/
def postValidated (s : State) (table word_ : Nat) : State := post s 0xF3 table (word word_)

/-- The staging in the field die can succeed. -/
def stagingMay (s : State) : Bool := !s.supply.barrierDown && !s.mode.fieldReset

/-- The staging failed: VAL_FAIL, VALID clear, VALIDATED with 0xFFFE (R216, R217). -/
def stagingFailed (s : State) : State :=
  postValidated { s with cfg := { s.cfg with valid := false, valFail := true } } 0 0xFFFE

/-- VALIDATE_DONE: the validation ends (R216). -/
def execValidateDone (s : State) : Result :=
  if s.cfg.busy != some .validate || s.cfg.abandoned.isSome || !coreRuns s then .next s
  else
    let s := { s with cfg := { s.cfg with busy := none, diffS := setDiffers .s s.cfg.shadow s.cfg.active,
                                           diffN := setDiffers .n s.cfg.shadow s.cfg.active } }
    match firstFail s.cfg.shadow with
    | some (t, w) =>
      let s := { s with cfg := { s.cfg with valid := false, valFail := true, table := t, word := w } }
      .next (postValidated s t w)
    | none =>
      if stagingMay s then
        .next (postValidated { s with cfg := { s.cfg with valid := true, valFail := false, stagedShadow := true } } 0 0xFFFF)
      else .next (stagingFailed s)

/-- COPY_DONE: the copy and its staging end (R217). -/
def execCopyDone (s : State) : Result :=
  if s.cfg.busy != some .copy || s.cfg.abandoned.isSome || !coreRuns s then .next s
  else
    let s := { s with cfg := { s.cfg with busy := none, shadow := s.cfg.active, diffS := false, diffN := false } }
    if stagingMay s then .next { s with cfg := { s.cfg with valid := true, stagedShadow := true } }
    else .next (stagingFailed s)

/-! ### Commit (R227, R487) -/

/-- The newest store entry. -/
def newestEntry (l : List StoreEntry) : Option StoreEntry :=
  l.foldl (fun b e => match b with
    | some x => if x.seq < e.seq then some e else b
    | none => some e) none

/-- The slots that a commit may not take: that of the newest entry, and of the newest of the previous FORMAT while a CORE
part awaits confirmation (R487). -/
def keptSlots (s : State) : List Nat :=
  let newest := ((newestEntry s.cfg.store).map (·.slot)).toList
  match s.upd.oldFormat with
  | some f => newest ++ ((newestEntry (s.cfg.store.filter (fun e => e.format == f))).map (·.slot)).toList
  | none => newest

/-- The slot of the next commit (R487). -/
def commitSlot (s : State) : Nat :=
  let empty := (upTo 7).filter (fun i => !s.cfg.store.any (fun e => e.slot == i))
  let kept := keptSlots s
  match empty with
  | i :: _ => i
  | [] =>
    let old := s.cfg.store.filter (fun e => !kept.contains e.slot)
    ((old.foldl (fun b e => match b with
      | some x => if e.seq < x.seq then some e else b
      | none => some e) none).map (·.slot)).getD 0

/-- A commit starts: the active set is kept, the slot's nine sectors are erased (R227, R487). -/
def commitStart (s : State) : State :=
  let k := commitSlot s
  let s := { s with cfg := { s.cfg with busy := some (.commit s.cfg.active false),
                                         store := s.cfg.store.filter (fun e => e.slot != k) },
                    flash := { s.flash with commitBad := false, slot := k } }
  flashRun (eachNo ((upTo 9).map (fun i => 768 + 9 * k + i)) (fun s x => addErase s x 0) s)

/-- The end of a commit that failed (R227). -/
def commitFail (s : State) : State :=
  let s := { s with cfg := { s.cfg with busy := none, commitErr := true } }
  let s := if s.mode.pwrfail then s else s.reason 0x0702
  post s 0xF6 1 0

/-- An erase of the commit's slot has not ended. -/
def commitErasing (s : State) : Bool :=
  let mine := fun (x : Nat) => decide (768 + 9 * s.flash.slot ≤ x) && decide (x < 777 + 9 * s.flash.slot)
  s.flash.eraseQ.any (fun x => mine x.1) || (s.flash.begun.map (fun x => mine x.1)).getD false ||
    (s.flash.erase.map (fun e => mine e.sector)).getD false

/-- COMMIT_DONE: the commit ends; `ok` false for a program failure, a retry or a read-back mismatch (R227, R487). -/
def execCommitDone (ok : Bool) (s : State) : Result :=
  match s.cfg.busy with
  | some (.commit set swapped) =>
    if !coreRuns s || s.cfg.abandoned.isSome || commitErasing s then .next s
    else if !ok || s.flash.commitBad then .next (commitFail s)
    else
      let seq := s.cfg.storeSeq + 1
      let e : StoreEntry := { slot := s.flash.slot, seq, format := s.cfg.format, set }
      let s := { s with cfg := { s.cfg with busy := none, store := s.cfg.store ++ [e], storeSeq := seq % 2 ^ 32,
                                             storeMatch := !swapped || decide (s.cfg.active = set) } }
      .next (post s 0xF6 0 0)
  | _ => .next s

/-- A pending automatic commit starts once nothing runs and the core runs (R223). -/
def autoCommitStart (s : State) : State :=
  if s.cfg.autoCommit && s.cfg.busy.isNone && coreRuns s && !s.mode.pwrfail then
    commitStart { s with cfg := { s.cfg with autoCommit := false } }
  else s

/-- AUTO_COMMIT_START (R223). -/
def execAutoCommitStart (s : State) : Result := .next (autoCommitStart s)

/-! ### The swap request (R219, R220, Table CFG-4) -/

/-- A refusal under checks 3 to 8 or at the instant: SWAP_REF, or MISSED_GUN for code 5 (R219). -/
def swapRefuse (s : State) (code mode : Nat) : State :=
  let s := { s with cfg := { s.cfg with lastRef := code, refs := satAdd 255 s.cfg.refs 1 } }
  if code == 5 then post { s with cfg := { s.cfg with missedGun := true } } 0xF2 0 0
  else post { s with cfg := { s.cfg with swapRef := true } } 0xF1 mode (word code)

/-- The swap instant of a request made now (R220). -/
def swapInstantOf (s : State) (mode : Nat) : Nat :=
  let t := s.time.line + 16000
  match mode with
  | 1 => t
  | 2 => (t + periodNs s - 1) / periodNs s * periodNs s
  | _ => s.cfg.gun.toNat

/-- The code that Table CFG-4 gives a request, 0 when every check passes. -/
def swapCheck (s : State) (mode : Nat) : Nat :=
  let t := s.time.line
  let g := s.cfg.gun.toNat
  let lineTimed := s.mode.role == .node || s.mode.role == .anchor
  if s.cfg.armed.isSome then 2
  else if !s.cfg.valid then 1
  else if s.mode.mode == .run && s.cfg.diffS then 3
  else if mode != 1 && lineTimed && s.time.tstate == .unsync then 7
  else if mode == 3 && g < t + 2 * periodNs s then 5
  else if mode == 3 && t + 3600000000000 < g then 6
  else 0

/-- The request repeats the armed gun swap (check 3 of Table CFG-4). -/
def sameGun (s : State) (mode : Nat) : Bool :=
  mode == 3 && (s.cfg.armed.map (fun a => a.mode == 3 && a.instant == s.cfg.gun.toNat)).getD false

/-- A swap request that the window accepts (R219). -/
def swapRequest (s : State) (mode : Nat) : State :=
  if sameGun s mode then s
  else
    match swapCheck s mode with
    | 0 => { s with cfg := { s.cfg with armed := some { mode, instant := swapInstantOf s mode } } }
    | c => swapRefuse s c mode

/-! ### CFG_CTRL (R208, R212, Table CFG-3) -/

/-- The actions that a CFG_CTRL word requests. -/
def ctrlActions (w : Word) : Nat :=
  b2n (bitOf w 0) + b2n (bitOf w 1) + b2n (bitOf w 2) + b2n (bitOf w 3) + b2n (bitsOf w 4 2 != 0) + b2n (bitOf w 6) +
    b2n (bitOf w 7)

/-- One action of CFG_CTRL under the window rules of Table CFG-3. -/
def ctrlAct (s : State) (p : Path) (w : Word) : Done :=
  let denied := notOwner s p 0x22
  let still := s.cfg.busy.isSome || s.cfg.armed.isSome
  if bitOf w 0 then
    if !ownsOrFree s p then denied else (setOwner (windowUse s p) (some p), 0)
  else if bitOf w 1 then
    if !owns s p then denied else (setOwner s none, 0)
  else if bitOf w 2 then
    if !owns s p || still then denied
    else ({ windowUse s p with cfg := { (windowUse s p).cfg with busy := some .validate } }, 0)
  else if bitOf w 3 then
    if !owns s p || still then denied
    else ({ windowUse s p with cfg := { (windowUse s p).cfg with busy := some .copy, valid := false } }, 0)
  else if bitsOf w 4 2 != 0 then
    if !ownsOrFree s p then denied
    else if s.cfg.busy.isSome then badWord (windowUse s p) p 0x22
    else (swapRequest (windowUse s p) (bitsOf w 4 2), 0)
  else if bitOf w 6 then
    if !ownsOrFree s p then denied
    else ({ windowUse s p with cfg := { (windowUse s p).cfg with armed := none } }, 0)
  else if bitOf w 7 then
    if !ownsOrFree s p then denied
    else if s.cfg.busy.isSome then badWord (windowUse s p) p 0x22
    else (commitStart (windowUse s p), 0)
  else (s, 0)

/-- A write to CFG_CTRL: more than one action is refused before every other check (R208). -/
def regCfgCtrl (s : State) (v : Acc) (w : Word) : Done :=
  if 1 < ctrlActions w then
    let s := beginWrite s v.path
    match v.path with
    | .line => (s, 0x04)
    | _ => (busError s 7 0x22, 0x04)
  else regWrite s v 0x22 false (bitOf w 2 || bitOf w 3 || bitOf w 7) (fun s => ctrlAct s v.path w)

/-- A CFG_CTRL write of one action. -/
def ctrlBit (s : State) (via : Path) (w : Word) : State := served s via (fun s v => regCfgCtrl s v w)

/-- CLAIM (R213). -/
def execClaim (via : Path) (s : State) : Result := .next (ctrlBit s via 0x01)

/-- RELEASE (R213). -/
def execRelease (via : Path) (s : State) : Result := .next (ctrlBit s via 0x02)

/-- VALIDATE (R216). -/
def execValidate (via : Path) (s : State) : Result := .next (ctrlBit s via 0x04)

/-- COPY (R217). -/
def execCopy (via : Path) (s : State) : Result := .next (ctrlBit s via 0x08)

/-- SWAP_NOW (R220). -/
def execSwapNow (via : Path) (s : State) : Result := .next (ctrlBit s via 0x10)

/-- SWAP_CYCLE (R220). -/
def execSwapCycle (via : Path) (s : State) : Result := .next (ctrlBit s via 0x20)

/-- SWAP_GUN: G is GUN_T0 to GUN_T3 (R198, R219). -/
def execSwapGun (via : Path) (s : State) : Result := .next (ctrlBit s via 0x30)

/-- CANCEL (R225). -/
def execCancel (via : Path) (s : State) : Result := .next (ctrlBit s via 0x40)

/-- COMMIT (R227). -/
def execCommit (via : Path) (s : State) : Result := .next (ctrlBit s via 0x80)

/-- CFG_CTRL_MULTI: a CFG_CTRL write of a word (R208). -/
def execCfgCtrlMulti (via : Path) (w : Word) (s : State) : Result := .next (ctrlBit s via w)

/-- CLAIM_LAPSE: the owner has made no window access for CLAIM_IDLE (R213). -/
def execClaimLapse (s : State) : Result :=
  let idle := cfgF s 1 3 0 8
  if s.cfg.owner.isNone || idle == 0 then .next s
  else .next (setOwner (s.reach (s.cfg.ownerT + 100000000 * idle)) none)

/-! ### CFG_DATA and its port words -/

/-- CFG_DATA_READ (R214). -/
def execCfgDataRead (via : Path) (s : State) : Result :=
  .next (servedRead s via (fun s v => let r := readCfgData s v; (r.1, r.2.1)))

/-- CFG_DATA_WRITE (R215). -/
def execCfgDataWrite (via : Path) (w : Word) (s : State) : Result := .next (served s via (fun s v => regCfgData s v w))

/-- A write to a port word: through CFG_DATA when the window addresses it, or a TBL_WRITE of one word. -/
def portWrite (s : State) (via : Path) (t w : Nat) (x : Word) : State :=
  served s via (fun s v =>
    match via with
    | .line =>
      if v.mode == .minimal || !owns s .line then (s, 0x07) else shadowWrite (windowUse s .line) .line t w x
    | _ =>
      if s.cfg.selShadow && s.cfg.table == t && s.cfg.word == w then regCfgData s v x else (s, 0))

/-- SL_LOAD: SL_CMD takes LOAD (R264). -/
def execSlLoad (via : Path) (s : State) : Result := .next (portWrite s via 4 0x29E 1)

/-- SL_CANCEL (R265). -/
def execSlCancel (via : Path) (s : State) : Result := .next (portWrite s via 4 0x29E 2)

/-- SL_READ (R265). -/
def execSlRead (via : Path) (s : State) : Result := .next (portWrite s via 4 0x29E 3)

/-- PF_SEL_WRITE (R262). -/
def execPfSelWrite (via : Path) (w : Word) (s : State) : Result := .next (portWrite s via 4 0x290 w)

/-- REPL_CLR (R517). -/
def execReplClr (via : Path) (w : Word) (s : State) : Result := .next (portWrite s via 0xE 0xC0 w)

/-! ### TBL_READ, TBL_WRITE and CFG_OWN (R138, R213, R215) -/

/-- The bytes of `n` table words. -/
def tableBytes (s : State) (shadow : Bool) (t w n : Nat) : List Byte :=
  wordsToBytes ((upTo n).map (fun i => tableWord s shadow t (w + i)))

/-- TBL_READ (R138, Table ACY-8). -/
def tblRead (s : State) (t : Txn) : State :=
  let u := fun i => byteAt t.data i
  let w := fieldAt t.data 2 2
  let n := fieldAt t.data 4 2
  let fin := fun s status resp => endTxn s t.id status resp false
  if !owns s .line then fin s 0x07 []
  else
    let s := windowUse s .line
    if wordValid (u 1) w && wordValid (u 1) (w + n - 1) then fin s 0 (tableBytes s (u 0 == 1) (u 1) w n)
    else fin s 0x04 []

/-- TBL_READ: the execution of a held transaction. -/
def execTblRead (bcast anchor : Bool) (tag : Nat) (s : State) : Result := withTxn s bcast anchor tag 0x04 tblRead

/-- The words of a TBL_WRITE in order, up to the first that is refused: state, words written, status (R215). -/
def tblWords (s : State) (t w n : Nat) (l : List Word) : State × Nat × Nat :=
  match l with
  | [] => (s, n, 0)
  | x :: r =>
    let d := shadowWrite s .line t w x
    if d.2 == 0 then tblWords d.1 t (w + 1) (n + 1) r else (d.1, n, d.2)

/-- TBL_WRITE (R138, R215). -/
def tblWrite (s : State) (t : Txn) : State :=
  if !owns s .line then endTxn s t.id 0x07 [] false
  else
    let r := tblWords (windowUse s .line) (byteAt t.data 1) (fieldAt t.data 2 2) 0 (bytesToWords (t.data.drop 4))
    endTxn r.1 t.id r.2.2 (leBytes 2 r.2.1) (r.2.1 != 0)

/-- TBL_WRITE: the execution of a held transaction. -/
def execTblWrite (bcast anchor : Bool) (tag : Nat) (s : State) : Result := withTxn s bcast anchor tag 0x05 tblWrite

/-- CFG_OWN: claim, release or query; the response reports the owner after the action (R213). -/
def cfgOwn (s : State) (t : Txn) : State :=
  let act := byteAt t.data 0
  let ok := act == 2 || (act == 0 && ownsOrFree s .line) || (act == 1 && owns s .line)
  let s' := if !ok then s else if act == 0 then setOwner (windowUse s .line) (some .line)
    else if act == 1 then setOwner s none else s
  endTxn s' t.id (if ok then 0 else 0x07) [byte ((s'.cfg.owner.map pathCode).getD 0), 0]
    (ok && act != 2)

/-- CFG_OWN_QUERY: the execution of a held CFG_OWN transaction: a query, a claim or a release as its data say. -/
def execCfgOwnQuery (bcast anchor : Bool) (tag : Nat) (s : State) : Result := withTxn s bcast anchor tag 0x06 cfgOwn

/-! ### The swap (R221 to R223, R278, R296, R335, R355, R387) -/

/-- Some of `n` words from `w` of a table differ between two sets. -/
def wordsDiffer (a b : List WCell) (t w n : Nat) : Bool := (upTo n).any (fun i => setGet a t (w + i) != setGet b t (w + i))

/-- Some class-S field of a table differs between two sets. -/
def tableDiffers (t : Nat) (a b : List WCell) : Bool :=
  (setDiff a b).any (fun k => k / 4096 == t &&
    (let m := word (classMask .s t (k % 4096))
     (setGet a t (k % 4096) &&& m) != (setGet b t (k % 4096) &&& m)))

/-- The exchange of the sets: flags, counts and the store match (R223, R227). -/
def swapSets (s : State) : State :=
  let c := s.cfg
  let active := c.shadow
  let newest := newestEntry c.store
  { s with cfg := { c with
    active, shadow := c.active, stagedActive := c.stagedShadow, stagedShadow := c.stagedActive, armed := none
    swapped := true, swapSeq := (c.swapSeq + 1) % 16, lastSwapT := s.time.line
    storeMatch := (newest.map (fun e => decide (e.set = active))).getD false
    busy := c.busy.map (fun b => match b with
      | .commit set _ => .commit set true
      | b => b) } }

/-- A channel whose MODE the swap changes (R278). -/
def swapChan (s : State) (n : Nat) : State :=
  let s := discardChan s n
  let s := dropFaults s n
  let s := if s.panel.jog == some n then endJog s true else s
  s.onChan n (fun c => { c with modeOff := true, pwmT := 0, pwmPer := 0, pwmHigh := 0, cnt := 0, moves := [], ring := [], pfNew := 0, cyc := 0,
                                 loc := bitValue s n (bitOf s.field.chout n) })

/-- The KIND of a channel that the profile in force now holds and did not before captures its value (R296). -/
def swapKind2 (s : State) (old : List WCell) : State :=
  let w := fun (n : Nat) => 0x40 * s.safe.profile + 2 * n
  s.onChans (fun n c =>
    if s.safe.hold && s.safe.profile != 0 && setField old 6 (w n) 0 2 != 2 && cfgF s 6 (w n) 0 2 == 2 then
      { c with kind2 := c.eff }
    else c)

/-- A channel whose PF_EDGE the swap changes: its photo-finish ring is emptied, and PF_SEQ stays (R261). -/
def swapEdge (s : State) (n : Nat) : State := s.onChan n (fun c => { c with ring := [], pfNew := 0 })

/-- The channels and profiles after a swap. -/
def swapField (s : State) (old : List WCell) : State :=
  let changed := fun (n : Nat) => setField old 4 (16 * n) 0 4 != chMode s n
  let edge := fun (n : Nat) => setField old 4 (16 * n + 1) 4 2 != cfgF s 4 (16 * n + 1) 4 2
  let s := eachNo (chanNos.filter edge) swapEdge s
  swapKind2 (eachNo (chanNos.filter changed) swapChan s) old

/-- The swap changes the MODE, of class S, of a channel that an entry of the sequence reads (R335, and 13, Close finishes). -/
def seqModes (s : State) (old : List WCell) : Bool :=
  s.adc.running && (upTo (regLen s)).any (fun e =>
    let i := cfgF s 7 (0x10 + 2 * e) 0 6
    i < 0x20 && setField old 4 (16 * (i % 16)) 0 4 != chMode s (i % 16))

/-- The measurement subsystem after a swap (R323, R326, R335). -/
def swapAdc (s : State) (old : List WCell) : State :=
  let new := s.cfg.active
  let s := calAbortStep s
  let s := eachNo ((upTo 16).filter (fun e => wordsDiffer old new 8 (4 * e) 2)) restartFilter s
  let s := { s with adc := { s.adc with
    wins := mapFrom 0 (fun w st => if wordsDiffer old new 9 (8 * w) 4 then .unknown else st) s.adc.wins } }
  let s := if wordsDiffer old new 7 4 7 then injReindex s else s
  if tableDiffers 7 old new || seqModes s old then
    let s := captureCut { s with adc := { s.adc with injBusy := false, injA := [], injB := [] } }
    if s.adc.running then adcRestart s else restartFilters s
  else s

/-- Direct execution after a swap: a window whose code became device-class is disabled (R178). -/
def swapXip (s : State) : State :=
  if s.bus.xipEn && deviceClass s s.bus.xipSel then
    flushLines { s with bus := { s.bus with xipEn := false, xipRef := true } }
  else s

/-- The panel after a swap (R384, R387). -/
def swapPanel (s : State) (old : List WCell) : State :=
  let s := if wordsDiffer old s.cfg.active 0xB 0x10 3 then { s with panel := { s.panel with deaf := s.panel.keys, chord := false } } else s
  if cfgB s 0xB 0x13 0 then s else endJog s true

/-- The units take the new active set (R221, R222). -/
def swapUnits (s : State) (old : List WCell) : State :=
  let s := loadGeo s
  let s := applyEnables s
  let s := if wordsDiffer old s.cfg.active 3 5 6 then cycleRestart s else s
  let s := latchAtSwap s
  let s := swapField s old
  let s := swapAdc s old
  let s := swapPanel (swapXip s) old
  let s := healthEval (wdhCheck s)
  refresh (relCheck (relCheck s .a) .b)

/-- The swap instant of an armed swap (R221, R223). -/
def swapFire (s : State) : State :=
  match s.cfg.armed with
  | none => s
  | some a =>
    let clear := { s with cfg := { s.cfg with armed := none } }
    if s.mode.mode == .run && s.cfg.diffS then swapRefuse clear 3 a.mode
    else if s.mode.fieldReset || s.supply.barrierDown || s.safe.pause.isSome then swapRefuse clear 8 a.mode
    else
      let old := s.cfg.active
      let codes := (upTo 8).filter (fun c => wordsDiffer old s.cfg.shadow 0xA (8 * c) 7)
      let s := swapUnits (swapSets (eachNo codes askExit s)) old
      let s := post s 0xF0 a.mode (word s.cfg.swapSeq)
      let s := detail s 0xF0 (cfgF s 1 0 0 32 + 2 ^ 32 * s.cfg.swapSeq)
      if cfgB s 1 2 0 then autoCommitStart { s with cfg := { s.cfg with autoCommit := true } } else s

/-- SWAP_INSTANT: line time reaches the swap instant (R221). -/
def execSwapInstant (s : State) : Result :=
  match s.cfg.armed with
  | some a => if s.mode.porst then .next s else .next (swapFire (s.reach a.instant))
  | none => .next s

/-- An epoch change discards an armed swap (R225). -/
def discardArmed (s : State) : State :=
  match s.cfg.armed with
  | some a =>
    let s := { s with cfg := { s.cfg with armed := none, missedGun := s.cfg.missedGun || a.mode == 3 } }
    post s 0xF4 a.mode 0
  | none => s

end Sys2Proof.Machine
end

