-- ==== Sys2Proof/Machine/Boot.lean ====
section
/-! DEFINITION. Boot: the three resets that boot the device, the steps of a boot, the false-start count and the mode that a
boot enters (R236 to R243, Tables LIN-5, MOD-5 and MOD-7 to MOD-10). A field reset is in Diag. -/

namespace Sys2Proof.Machine

open Sys2Proof

/-! ### The kinds of boot (Table MOD-8) -/

/-- The reset domain of a cause: 0 power-on, 1 logic, 2 core. -/
def causeKind (c : ResetCause) : Nat :=
  match c with
  | .porst => 0
  | .lineSupply => 0
  | .logicSupply => 1
  | .bootTimer => 1
  | .imageCheck _ => 1
  | _ => 2

/-- A requested reset, which no boot counts as a false start. -/
def requested (c : ResetCause) : Bool :=
  match c with
  | .reboot => true
  | .goMinimal => true
  | .activation => true
  | .fallback => true
  | _ => false

/-- The steps of a boot (Table MOD-8); a core boot runs 6, 7, 9 and 10 as well when a wider boot before it did not get to
run them: DEDUCED, log 17. -/
def bootSteps (s : State) : List Nat :=
  match causeKind s.mode.cause with
  | 0 => [1, 2, 3, 4, 5, 6, 7, 8, 9, 10, 11, 12]
  | 1 => [3, 4, 5, 6, 7, 8, 9, 10, 11, 12]
  | _ => if s.mode.bootWide then [4, 5, 6, 7, 8, 9, 10, 11, 12] else [4, 5, 8, 11, 12]

/-! ### Entering the resets (Table LIN-5, R193, R242, R243) -/

/-- The session as its record keeps it across a reset (R444): what lives in SRAM alone goes. -/
def sessionReset (u : UpdState) : UpdState :=
  { u with cmd := 0, result := 0, refused := false, mediaWait := false, bufs := [], dist := none, toErase := [],
           startT := none, relayT := none }

/-- A reset interrupts the pauses of a fallback: the selectors still to be restored are restored, and the boot loads the
restored images (R443). -/
def fallSettle (s : State) : State :=
  match s.upd.falling with
  | some (r, _ :: rest) => let s := eachNo rest switchBank s; { s with upd := { s.upd with falling := some (r, []) } }
  | _ => s

/-- Power-on reset: every unit is reset; the flash, the supplies' pins and the boundary-scan port keep what they hold. A
pending binding is not kept (R152). -/
def porstEnter (s : State) (cause : ResetCause) : State :=
  let r := State.reset
  let s := fallSettle s
  { r with
    pending := s.pending, free := s.free
    time := { r.time with epochFlash := s.time.epochFlash }
    link := { r.link with pos := if s.link.posPending then none else s.link.pos }
    cfg := { r.cfg with store := s.cfg.store }
    mode := { r.mode with
      fs := s.mode.fs, pwrfailMark := s.mode.pwrfailMark, cause, safeReq := s.mode.safeReq, pwrfail := s.mode.pwrfail
      role := s.mode.role, crystal := s.mode.crystal, stable := s.mode.stable, modeBefore := s.mode.mode, porst := true }
    health := { r.health with summary := s.health.summary }
    trace := { r.trace with pages := s.trace.pages, nextPage := s.trace.nextPage, readySector := s.trace.readySector }
    adc := { r.adc with calStore := s.adc.calStore }
    panel := { r.panel with phase0 := s.panel.phase0, phase1 := s.panel.phase1 }
    media := { r.media with present := s.media.present, identDue := s.media.present }
    upd := { sessionReset s.upd with fallback := false }
    sec := { r.sec with owk := s.sec.owk, epoch := s.sec.epoch, floorS := s.sec.floorS, floorA := s.sec.floorA,
                        locked := s.sec.locked, secver := s.sec.secver, nbase := s.sec.nbase }
    flash := (flashReset s).flash
    tap := s.tap }

/-- One pointer after a logic reset: at the oldest record (R193, R504). -/
def oldestPtr (s : State) : TracePtr := { tseq := oldestTseq s }

/-- The port as a logic reset leaves it: the forwarding engine runs on, and a waiting LOOP_REL goes with LINK_CTRL (R22,
R193). -/
def portLogic (l : LinkPort) : LinkPort := { l with relPending := false }

/-- The channels at the logic reset: outputs at SLATE, forces and local views gone, no event (Table LIN-5, R272, R273). -/
def chanLogic (s : State) : State :=
  let s := clearForces { s with field := { s.field with chout := 0 } }
  s.onChans (fun n c => { c with loc := bitValue s n false, runHold := false })

/-- A logic reset: the units of its column in Table LIN-5 are reset; the others run on (R193, R242). -/
def logicEnter (s : State) (cause : ResetCause) : State :=
  let r := State.reset
  let before := s.mode.mode
  let longCut := s.adc.longBurst
  let s := setFreeze (thawCheck (flashReset (fallSettle s))) false
  let s := chanLogic s
  let p := oldestPtr s
  let s : State := { s with
    time := { meanRestart (holdTime s.time) with
      latch := 0, lseq := 0, presetRef := false, stepped := false, epochChg := false, lockLost := false, delayRange := false
      syncMiss := false, refRange := false, prev := none }
    cyc := { s.cyc with commits := [], frozen := none }
    evq := r.evq
    trace := { s.trace with dropped := 0, ptrHost := p, ptrSlave := p, ptrLine := p, persist := none }
    bus := r.bus
    cfg := { r.cfg with store := s.cfg.store, active := s.cfg.active, shadow := s.cfg.shadow, boot := s.cfg.boot,
                        stagedActive := s.cfg.stagedActive, format := s.cfg.format }
    mode := { s.mode with
      mode := .setup, modeBefore := before, rest := false, restPending := false, bootOk := false, cmd := 0, result := 0
      cause, booting := false, bootStep := 0, bootWide := true, runAtApply := false, rstout := true
      coreReset := true, logicReset := true, lineEngine := false, fwver := 0, coreHold := false }
    safe := r.safe
    health := { r.health with holdCt := s.health.holdCt, porCount := s.health.porCount, thermTotal := s.health.thermTotal,
                              summary := s.health.summary, summaryT := s.health.summaryT, loaded := s.health.loaded
                              porDue := s.health.porDue }
    inj := { r.inj with heldFrame := s.inj.heldFrame }
    adc := { s.adc with calZero := none, calStep := none, calRef := false, dac := none, dacFail := false, cmdRef := false,
                        fifo := [], fifoOvf := false, fifoDropped := false, capture := none, captured := 0,
                        longBurst := false }
    panel := { r.panel with phase0 := s.panel.phase0, phase1 := s.panel.phase1, keys := s.panel.keys,
                            heldOver := s.panel.keys }
    wdog := { r.wdog with hExpiries := s.wdog.hExpiries, cExpiries := s.wdog.cExpiries, cErrs := s.wdog.cErrs,
                          freezes := s.wdog.freezes, freezeMax := s.wdog.freezeMax }
    link := { s.link with a := portLogic s.link.a, b := portLogic s.link.b, loopForce := false, cntFreeze := false,
                          loopRelRef := false, disagree := false }
    txn := r.txn
    sta := { r.sta with
      plan := if s.mode.role == .starter then s.sta.plan else none, enumSeq := s.sta.enumSeq
      anchor := { r.sta.anchor with fineSeen := s.sta.anchor.fineSeen } }
    sec := { r.sec with owk := s.sec.owk, owkFresh := s.sec.owkFresh, otpKey := s.sec.otpKey, otpRefused := s.sec.otpRefused,
                        epoch := s.sec.epoch, floorS := s.sec.floorS, floorA := s.sec.floorA, locked := s.sec.locked,
                        secver := s.sec.secver, nbase := s.sec.nbase }
    ser := r.ser
    media := { r.media with present := s.media.present, identDue := s.media.present }
    upd := { sessionReset s.upd with fallback := false } }
  (if longCut then adcNext else id) (refresh s)

/-- A command of the starter in progress completes REFUSED with a code. -/
def refuseFor (s : State) (o : Option (Path × Descriptor)) (code : Nat) : State :=
  match o with
  | some (p, d) => complete s p d outRefused code
  | none => s

/-- A line start that waits, settles or counts is abandoned with a code. -/
def startAbandon (s : State) (code : Nat) : State :=
  if s.sta.stage == .settle || s.sta.stage == .count || s.sta.waiting.isSome then
    let s := refuseFor s s.sta.starting code
    { s with sta := { s.sta with stage := .idle, starting := none, waiting := none, counting := false, countDue := false } }
  else s

/-- Core-driven operations of the starter end with the core: REFUSED, 0x0422 (chapter 06, Failures). -/
def staCoreEnd (s : State) : State :=
  let s := startAbandon (refuseFor s s.sta.enumFor 0x0422) 0x0422
  let s := s.sta.enumWaits.foldl (fun s x => refuseFor s (some x) 0x0422) s
  let s := refuseFor s (s.sta.gun.bind (fun g => if g.cancelled then none else some (g.path, g.d))) 0x0422
  let s := refuseFor s (s.sta.pull.map (fun g => (g.path, g.d))) 0x0422
  { s with sta := { s.sta with
    enumFor := none, enumWaits := [], binds := [], gun := none, pull := none, counting := false, countDue := false, pings := []
    txns := s.sta.txns.filter (fun t => match t.for_ with
      | .host _ _ => true
      | _ => false) } }

/-- A starter in MINIMAL sends SYNC frames only (chapter 06, Failures). -/
def staMinimal (s : State) : State :=
  let s := refuseFor s s.sta.starting 0x0421
  let s := match s.sta.stopping with
    | some (p, d) => complete s p d outOk 0
    | none => s
  { s with sta := { s.sta with stage := .idle, starting := none, waiting := none, stopping := none, sampled := none
                               anchor := { s.sta.anchor with heats := false } } }

/-- FS of a stable boot is 0, but in a MINIMAL that three false starts chose, to which a power cycle returns (R238, R239; DEDUCED,
log 98); after PWRFAIL_N nothing is written (R248). -/
def stableFs (s : State) : State :=
  if s.mode.bootOk && s.mode.stable && !s.mode.pwrfail && !(s.mode.minimalImage && 3 ≤ s.mode.fstarts) then
    { s with mode := { s.mode with fs := 0 } }
  else s

/-- A core reset ends REST: the REST_EXIT record always, the event only when a safe trigger started the reset (chapter 10,
Close finishes). -/
def restEnd (s : State) (trig : Bool) : State :=
  if s.mode.rest then
    if trig then wake s 3
    else
      let secs := Nat.min 0xFFFFFF ((s.time.line - s.mode.restSince) / 1000000000)
      let s := putTrace s 0x0D 0x16 (Nat.min 0xFFFF s.trace.dropped + 16777216 * secs)
      adcRestart { s with mode := { s.mode with rest := false } }
  else s

/-- FS before a requested reset of a boot that is not stable (R238), and FS 2 before a REBOOT or a CORE activation in MINIMAL
(R239). -/
def requestedFs (s : State) (cause : ResetCause) : State :=
  if s.mode.mode == .minimal && (cause = .reboot || cause = .activation) then { s with mode := { s.mode with fs := 2 } }
  else if requested cause && !s.mode.stable && 4 ≤ s.mode.bootStep then
    { s with mode := { s.mode with fs := s.mode.fstarts } }
  else s

/-- What the outputs hold while the core is in reset (R27): a crash ends an activation pause, and the profile that trigger 2 put on
holds; the activation of a CORE part keeps its pause; any other core reset keeps the effective values. -/
def coreOutputs (s : State) (cause : ResetCause) : State :=
  let hold := fun (s : State) => { s with mode := { s.mode with coreHold := true } }
  match cause with
  | .wdc => hold (pauseEnd s)
  | .fatal => hold (pauseEnd s)
  | .activation => hold s
  | _ => pauseEnd (hold s)

/-- The validation, copy or commit in work is abandoned by a core reset: no result of it stands, and the boot reports it (R229). -/
def busyAbandon (s : State) : State :=
  { s with cfg := { s.cfg with abandoned := s.cfg.abandoned.or s.cfg.busy } }

/-- The CSP_XFERs that have not started complete REFUSED; one that runs goes on to its end (R359). -/
def xferAbandon (s : State) : State :=
  let out := s.ser.waiting.filterMap (fun j => match j with
    | .xfer _ _ _ _ _ f => some f
    | _ => none)
  let s := { s with ser := { s.ser with waiting := s.ser.waiting.filter (fun j => j.rank != 4) } }
  out.foldl (fun s f => srcRefuse s f 0x0914) s

/-- A core reset: the controller core and what runs in it stop; no register changes (R27, R194, R229, R242). -/
def coreEnter (s : State) (cause : ResetCause) : State :=
  let s := busyAbandon (coreOutputs (requestedFs s cause) cause)
  let s := restEnd (endJog s true) (cause = .wdc || cause = .fatal)
  let s := xferAbandon (staCoreEnd (wdcStop s))
  let s := cryptoDrop s (fun f => match f with
    | .relay _ => true
    | .prepare _ => true
    | _ => false)
  let s := { s with
    mode := { s.mode with
      modeBefore := s.mode.mode, cause, booting := false, bootOk := false, bootStep := 0, coreReset := true
      restPending := false, runAtApply := false }
    wdog := { s.wdog with cReset := none }
    panel := { s.panel with screen := 0xF, chord := false }
    media := { s.media with reader := none }
    upd := { s.upd with bufs := [], dist := none, startT := none }
    trace := { s.trace with persist := none } }
  refresh (wdhCheck s)

/-! ### False starts (R238 to R240) -/

/-- The REASON that step 4 writes, from the cause and FS; none for GO_MINIMAL, whose code is that of its entry (R240, Table
MOD-6). -/
def bootReason (cause : ResetCause) (fs : Nat) (marked stable : Bool) : Option Nat :=
  match cause with
  | .porst => some (if marked then 0x010A else if 0 < fs then 0x0204 else 0x0101)
  | .lineSupply => some (if marked then 0x010A else if 0 < fs then 0x0204 else 0x0102)
  | .logicSupply => some (if stable then 0x0103 else 0x0208)
  | .bootTimer => some 0x0201
  | .imageCheck k => some (0x0205 + k)
  | .wdc => some (if stable then 0x0302 else 0x0202)
  | .fatal => some (if stable then 0x0303 else 0x0203)
  | .reboot => some 0x0105
  | .goMinimal => none
  | .activation => some 0x0107
  | .fallback => some 0x0108

/-- A REASON of class 0x02: the evaluation counted the boot before. -/
def isFalseStart (r : Option Nat) : Bool :=
  match r with
  | some v => v / 256 == 2
  | none => false

/-- The evaluation of step 4 (R240), and whether it counted the boot before. -/
def evalStarts (s : State) : State × Bool :=
  let marked := causeKind s.mode.cause == 0 && s.mode.pwrfailMark
  let fs := if marked then s.mode.fs - 1 else s.mode.fs
  let r := bootReason s.mode.cause fs marked s.mode.stable
  let s := { s with mode := { s.mode with
    pwrfailMark := false, fstarts := fs, minimalImage := decide (3 ≤ fs) || s.mode.cause = .goMinimal
    fs := if 3 ≤ fs then fs else fs + 1, stable := false } }
  (match r with
    | some v => s.reason (word v)
    | none => s, isFalseStart r)

/-! ### The session at a boot (R443, R444, Table UPD-13) -/

/-- Every part of the lineup has its new bank. -/
def lineupDone (s : State) : Bool := (bdLineup (stagedMeta s)).all (fun p => s.upd.switched.contains p)

/-- The fallback that step 5 of a boot decides, if any (Table UPD-12). -/
def bootFallback (s : State) (false_ : Bool) : Option Word :=
  if s.upd.falling.isSome then none
  else
    match s.upd.phase with
    | .confirm => if false_ then some 0x0612 else none
    | .activate =>
      if s.upd.coreBoot && s.mode.cause = .activation then none
      else if s.upd.coreBoot && false_ then some 0x0612
      else if lineupDone s then none
      else some 0x0610
    | _ => none

/-- Step 5 decides a fallback: the selectors are restored; a core boot then pauses the FIELD and LINE parts, a wider boot
loads their restored images itself (R443); DEDUCED, log 18. -/
def fallBoot (s : State) (reason : Word) : State :=
  let s := fallDecide (pauseEnd s) reason true
  if s.mode.bootWide then
    let parts := s.upd.switched.reverse.filter (fun p => p != 1)
    let s := eachNo parts switchBank s
    coreEnter { s with upd := { s.upd with falling := some (reason, []) } } .fallback
  else if s.upd.falling = some (reason, []) then coreEnter s .fallback
  else fallPause s

/-- A READ session waits for its bundle after a boot: the medium is identified again, and 10 minutes run (R423, R444). -/
def reopenRead (s : State) : State :=
  { s with
    upd := { s.upd with mediaWait := true }
    media := { s.media with identDue := s.media.present, removedT := some s.time.line,
                            reader := some (newReader s (.find 0)) } }

/-- The session is opened again from its record (Table UPD-13). -/
def reopenSession (s : State) : State :=
  match s.upd.phase with
  | .read => reopenRead (if s.upd.metaSectors == 0 then s else rebuildMap s)
  | .pull =>
    let s := rebuildMap s
    if s.upd.missing.isEmpty && s.upd.metaSectors != 0 then setPhase s .staged else s
  | .receive =>
    let s := rebuildMap s
    if s.upd.missing.isEmpty then setPhase s .staged else s
  | .distribute => setPhase s .staged
  | .prepare => setPhase { s with upd := { s.upd with todo := [], prepared := 0 } } .staged
  | .activate =>
    if s.upd.falling.isSome || (s.upd.coreBoot && s.mode.cause = .activation) then s
    else
      let s := pauseEnd s
      confirmBegin { s with upd := { s.upd with todo := [], coreBoot := false } }
  | .confirm =>
    if s.upd.falling.isSome || causeKind s.mode.cause == 2 then s
    else { s with upd := { s.upd with deadline := some (s.time.line + 120000000000), okT := s.time.line } }
  | _ => s

/-- What BOOT-OK does to an activation or a fallback in progress (R440, R443): a CORE part's pause ends, and the next part's
begins, a CORE part's with its core reset (Table UPD-10), or the confirmation does. -/
def activateNext (s : State) : State :=
  match s.upd.todo with
  | [] => confirmBegin s
  | p :: _ =>
    let s := partPause s p
    let s := { s with upd := { s.upd with switched := s.upd.switched ++ [p] } }
    if p == 1 then coreEnter { s with upd := { s.upd with coreBoot := true, oldFormat := some s.cfg.format } } .activation
    else s

/-- The pause of the part in work ends (R440). -/
def partEnds (s : State) : State :=
  match s.upd.todo with
  | [] => s
  | p :: r =>
    activateNext (partResume { s with upd := { s.upd with todo := r, paused := s.upd.paused + 1, coreBoot := false } } p)

/-! ### The steps (Table MOD-7) -/

/-- Step 4: the keys and counters region: LOCK_STAT, the epoch, the windows, the false starts, and the starter's EPOCH_T (R50,
R240, R451, R456, R461). -/
def bootKeys (s : State) (e : BootEnv) : State × Bool :=
  let s := { s with sec := { s.sec with keysBad := !e.keysOk } }
  let (s, f) := if e.keysOk then evalStarts s
    else
      let (s', f) := evalStarts { s with mode := { s.mode with fs := 0, pwrfailMark := false } }
      ({ s' with mode := { s'.mode with fs := s.mode.fs, pwrfailMark := s.mode.pwrfailMark } }.reason 0x0706, f)
  let s := if e.keysOk then raiseEpoch s else s
  let s := { s with sec := { s.sec with winS := floorWindow s.sec.floorS, winA := floorWindow s.sec.floorA } }
  let s := if causeKind s.mode.cause == 0 && s.mode.role == .starter then
      let t := (s.time.epochFlash + 1) % 256
      { s with time := { s.time with epochFlash := t, epochT := t } }
    else s
  (s, f)

/-- The newest store entry whose format the CORE image accepts (R228). -/
def loadEntry (s : State) : Option StoreEntry :=
  let d := runningDesc s 1
  newestEntry (s.cfg.store.filter (fun x => descFormatMin d ≤ x.format && x.format ≤ descFormat d))

/-- Step 6: the store entry is loaded into both sets, or the defaults (R228), and with another schedule the instants are those from
now on (R97); the binding and the forwarding engine's copy (R20, R152), with which a power-on reset's boot sets the syntonisation
mode (R34). -/
def bootStore (s : State) : State :=
  let good := fun (x : StoreEntry) => (firstFail x.set).isNone
  let e := loadEntry s
  let set := match e with
    | some x => if good x then x.set else []
    | none => []
  let bad := (e.map (fun x => !good x)).getD false
  let seq := ((newestEntry s.cfg.store).map (·.seq)).getD 0
  let old := s.cfg.active
  let s := { s with cfg := { s.cfg with active := set, shadow := set, boot := set, valid := true, diffS := false,
                                         diffN := false, storeMatch := e.isSome && !bad, storeSeq := seq, armed := none } }
  let s := if bad then s.reason 0x0701 else s
  let s := loadGeo (if wordsDiffer old set 3 5 6 then cycleRestart s else s)
  if causeKind s.mode.cause == 0 then { s with time := { s.time with regen := wantRegen s } } else s

/-- Step 7: ports, BYPASS_N and RSTOUT_N (R15, R87, R188). -/
def bootPorts (s : State) : State :=
  let first := !s.link.enabled
  let s := applyEnables { s with link := { s.link with enabled := true }, mode := { s.mode with rstout := false } }
  if first then
    match bypassMode s with
    | 0 => bypassRelease s
    | 1 =>
      let ripe := s.mode.porT + 10000000 * setField s.cfg.boot 2 3 8 8 ≤ s.time.line
      bypassCheck { s with link := { s.link with bypassDue := true, bypassRipe := ripe } }
    | _ => s
  else bypassCheck s

/-- Entry into MINIMAL (R225, R232, R240, R267, R273, R326, Table MOD-2). -/
def enterMinimal (s : State) : State :=
  let s := s.reason (if s.mode.cause = .goMinimal then 0x0902 else 0x0210)
  let s := staMinimal (discardAll (clearForces (endJog (leaveSafe s) true)))
  let s := calAbortStep { s with
    cfg := { s.cfg with armed := none }
    cyc := { s.cyc with commits := [] }
    mode := { s.mode with coreHold := false } }
  let s := if s.mode.mode == .minimal then s else changeMode s .minimal
  refresh (post s 0x13 0 s.mode.reason)

/-- Step 8: the image starts through the inline decryptor; the minimal image enters MINIMAL and starts WDC (R236, R399). -/
def bootImage (s : State) : State :=
  let (seed, s) := s.takeFree
  let s := { s with wdog := { s.wdog with wdcSeed := seed } }
  if s.mode.minimalImage then wdcStart (enterMinimal s) else s

/-- Step 10 leaves the field die as it is: a logic reset finds its version, or the minimal image's boot finds no good FIELD image
(R237, Tables MOD-7 and MOD-8). -/
def fieldKept (s : State) (e : BootEnv) : Bool :=
  (causeKind s.mode.cause == 1 && e.fieldMatch && !s.mode.fieldReset) || (s.mode.minimalImage && !e.fieldOk)

/-- Step 10: the FIELD image; the field die starts with outputs SLATE and an empty start list, or is left as it is (R237, R267);
a barrier link that is down here is lost, and no FIELD image is loaded: the die that does not run one waits in its reset for the
link (R293, R528). -/
def bootField (s : State) (e : BootEnv) : State :=
  if !e.barrier then barrierLost (if fieldKept s e || s.mode.fieldReset then s else fieldResetStart s)
  else if fieldKept s e then s
  else
    let s := discardAll (if s.mode.fieldReset then s else fieldResetStart s)
    { s with mode := { s.mode with fieldReset := false } }

/-- SELFTEST of step 11: the barrier loopback and the FIELD image fail while the barrier link is down (R498, R528). -/
def selftestOf (s : State) (e : BootEnv) : Nat := (e.selftest % 64) ||| (if s.supply.barrierDown then 10 else 0)

/-- Step 11: staging, the sequence of a field die that has started, self-tests and the health reasons (R229, R313, R334, R495,
R498). -/
def bootTests (s : State) (e : BootEnv) : State :=
  let wide := s.mode.bootWide || causeKind s.mode.cause != 2
  let s := if !wide then s
    else if e.restage && !s.mode.fieldReset then
      let started := !s.cfg.stagedActive
      let s := { s with cfg := { s.cfg with stagedActive := true, stagedShadow := true } }
      let s := if s.supply.backDue then barrierBack s else s
      refresh (if started then adcFieldStart s else s)
    else if s.mode.fieldReset then s
    else State.reason { s with mode := { s.mode with fieldReset := true } } 0x0505
  let n := selftestOf s e
  let s := { s with health := { s.health with selftest := BitVec.ofNat 6 n } }
  healthBoot (putTrace s (softSource s) 0x04 n)

/-- What a core reset abandoned is reported before BOOT-OK, and BUSY clears (R229). -/
def reportAbandoned (s : State) : State :=
  let a := s.cfg.abandoned
  let s := { s with cfg := { s.cfg with abandoned := none } }
  match a with
  | some (.commit _ _) => commitFail s
  | some _ => postValidated { s with cfg := { s.cfg with busy := none, valid := false } } 0 0xFFFD
  | none => s

/-- The mode at BOOT-OK (R236, Table MOD-5), and the triggers that a pin or the barrier held through the boot (R299). -/
def bootMode (s : State) : State :=
  let before := s.mode.modeBefore
  let s := if s.mode.minimalImage then s
    else
      match causeKind s.mode.cause with
      | 0 =>
        if cfgBootB s 1 4 0 then
          if s.mode.role == .node then { s with mode := { s.mode with runAtApply := true } } else enterRun s
        else s
      | 1 => enterSafe (markTrigger s 2) 2 0 false s.mode.reason
      | _ =>
        if requested s.mode.cause then
          if s.mode.mode == .minimal then changeMode s .setup else s
        else if s.mode.mode == .safe then s
        else enterSafe (markTrigger s 2) 2 0 (before == .setup) s.mode.reason
  let s := if s.mode.safeReq then triggerHw s 3 0x0A01 else if s.mode.pwrfail then triggerHw s 3 0x0A02 else s
  if s.supply.barrierDown then triggerHw s 5 0x0501 else s

/-- The BOOT-OK that follows a power-on reset raises POR_COUNT and writes a summary page, but for a recognised PWRFAIL_N, after which
no flash operation starts (R248, R508). -/
def bootSummary (s : State) : State :=
  if s.health.porDue then
    let s := { s with health := { s.health with porDue := false, porCount := s.health.porCount + 1 } }
    if s.mode.pwrfail then s else writeSummary s
  else s

/-- Step 12: BOOT-OK (R236, R237). -/
def bootOk (s : State) : State :=
  let s := reportAbandoned s
  let s := { s with mode := { s.mode with bootOk := true, booting := false, bootWide := false, okT := s.time.line } }
  let s := post s 0x10 0 s.mode.fwver
  let s := bootMode s
  let s := refresh { s with mode := { s.mode with coreHold := false } }
  let s := if s.mode.minimalImage then s else wdcStart s
  let s := postRepaired (wdhCheck s)
  let s := bootSummary s
  let s := { s with panel := { s.panel with screen := 0, lastT := s.time.line }
                    trace := { s.trace with readySector := s.trace.readySector || !s.mode.pwrfail } }
  let s := fallReport (reopenSession s)
  let s := if s.upd.phase == .activate && s.upd.coreBoot && s.mode.cause = .activation then partEnds s else s
  flashRun (autoCommitStart s)

/-- Step 2: the PLL is locked to the crystal; a NODE or ANCHOR has no reference before its port A has signal (R31, Table
TIM-8). Without a crystal the PLL stays in ACQUIRE and REASON is 0x010B (R530). -/
def pllStart (s : State) : State :=
  if !s.mode.crystal then s.reason 0x010B
  else if lineRef s then { s with time := { s.time with pll := .free } }
  else withTimeOk s (fun s => { s with time := { s.time with pll := .locked, hasRatio := true } })

/-- Step 5 of Table MOD-12: the power-fail mark of a boot that is not stable, once it has run step 4, and the trace page of the 256
newest records where a sector is ready (R238, R506). -/
def lossWork (s : State) : State :=
  let s := if s.mode.stable || s.sec.keysBad then s else { s with mode := { s.mode with pwrfailMark := true } }
  let n := s.trace.ring.length
  let recs := s.trace.ring.drop (n - 256)
  if s.trace.readySector && !recs.isEmpty then
    addPage { s with trace := { s.trace with readySector := false } }
      { cause := 1, seq := 0, firstTseq := wrap32 s.trace.tseq (2 ^ 32 - recs.length), recs,
        por := ((s.health.summary.map (·.1)).getD 0), therm := [], hold := 0 }
  else s

/-- Step n of a boot. -/
def bootDo (s : State) (n : Nat) (e : BootEnv) : State :=
  let s := { s with mode := { s.mode with bootStep := n } }
  match n with
  | 2 =>
    pllStart { s with mode := { s.mode with coreReset := false } }
  | 3 => repairBoot { s with mode := { s.mode with coreReset := false } }
  | 4 =>
    let (s, f) := bootKeys { s with mode := { s.mode with coreReset := false } } e
    let s := if s.mode.pwrfail then lossWork s else s
    match bootFallback s f with
    | some r => { s with upd := { s.upd with falling := some (r, []), fallReset := true } }
    | none => s
  | 5 =>
    match s.upd.falling, s.upd.fallReset && s.mode.cause != .fallback && s.upd.restored.isEmpty with
    | some (r, _), true => fallBoot { s with upd := { s.upd with falling := none } } r
    | _, _ =>
      if s.mode.minimalImage then { s with mode := { s.mode with fwver := 0 } }
      else if !e.coreOk then logicEnter s (.imageCheck 0)
      else
        let d := runningDesc s 1
        { s with
          mode := { s.mode with fwver := word (descVersion d % 32768 + 32768 * b2n (activeBank s 1)) }
          cfg := { s.cfg with format := descFormat d } }
  | 6 => bootStore s
  | 7 => bootPorts s
  | 8 => bootImage s
  | 9 =>
    if !e.lineOk && !s.mode.minimalImage then logicEnter s (.imageCheck 2)
    else { s with mode := { s.mode with lineEngine := e.lineOk || s.mode.lineEngine } }
  | 10 => if e.barrier && !fieldKept s e && !e.fieldOk then logicEnter s (.imageCheck 1) else bootField s e
  | 11 => bootTests s e
  | 12 => bootOk s
  | _ => s

/-- A fallback pauses parts in the middle of a core boot. -/
def bootPaused (s : State) : Bool :=
  match s.upd.falling with
  | some (_, _ :: _) => true
  | _ => false

/-- The steps of a list, in order, up to the last that the command runs, while the boot runs. -/
def bootRun (l : List Nat) (e : BootEnv) (s : State) : State :=
  match l with
  | [] => s
  | n :: r => if !s.mode.booting || bootPaused s || e.upTo < n then s else bootRun r e (bootDo s n e)

/-- The release of a reset: the boot timer starts (R237). -/
def bootBegin (s : State) : State :=
  { s with mode := { s.mode with booting := true, bootStep := 0, bootT := s.time.line, bootOk := false, minimalImage := false,
                                  coreReset := true, logicReset := false, porst := false } }

/-- A boot runs its steps from the one after the last that it has done. -/
def bootGo (e : BootEnv) (s : State) : State :=
  bootRun ((bootSteps s).filter (fun n => s.mode.bootStep < n)) e s

/-! ### The commands -/

/-- PORST_ASSERT: PORST_N asserted, or a line-domain supply below its monitor threshold (R242, Table MOD-10). -/
def execPorstAssert (supply : Bool) (s : State) : Result :=
  if s.mode.porst then .next s else .next (porstEnter s (if supply then .lineSupply else .porst))

/-- The straps are sampled at the release of power-on reset, from which BYPASS_DELAY runs (R2, R87, Table MOD-7 step 1, 22
R530). -/
def sampleStraps (s : State) (role : Role) (crystal : Bool) : State :=
  refreshMode { s with mode := { s.mode with role, crystal, porT := s.time.line } }

/-- PORST_RELEASE: power-on reset is released, or the boot that it started goes on (R237). -/
def execPorstRelease (role : Role) (crystal : Bool) (e : BootEnv) (s : State) : Result :=
  if s.mode.booting then (if causeKind s.mode.cause == 0 then .next (bootGo e s) else .next s)
  else if s.mode.porst || (s.mode.logicReset && causeKind s.mode.cause == 0) then
    .next (bootGo e (sampleStraps (bootBegin s) role crystal))
  else .next s

/-- LOGIC_RESET: a logic reset is released and boots, or its boot goes on; with none in progress the logic supply monitor
causes one (R237, R242). -/
def execLogicReset (e : BootEnv) (s : State) : Result :=
  if s.mode.porst || (s.mode.logicReset && causeKind s.mode.cause == 0) then .next s
  else if s.mode.booting && causeKind s.mode.cause == 1 then .next (bootGo e s)
  else if s.mode.logicReset then .next (bootGo e (bootBegin s))
  else .next (bootGo e (bootBegin (logicEnter s .logicSupply)))

/-- CORE_RESET: a core reset in force is released and boots, or its boot goes on; the row that caused it began it (R242, Table
MOD-8). -/
def execCoreReset (e : BootEnv) (s : State) : Result :=
  if s.mode.porst || s.mode.logicReset || causeKind s.mode.cause != 2 then .next s
  else if s.mode.booting then .next (bootGo e s)
  else if s.mode.coreReset then .next (bootGo e (bootBegin s))
  else .next s

/-- BOOT_TIMER_EXPIRY: 3 s without BOOT-OK: a logic reset (R237). -/
def execBootTimerExpiry (s : State) : Result :=
  if s.mode.booting then .next (logicEnter (s.reach (s.mode.bootT + 3000000000)) .bootTimer) else .next s

/-- BOOT_STABLE: 120 s after BOOT-OK: FS is written 0 (R238, R239). -/
def execBootStable (s : State) : Result :=
  if s.mode.bootOk && !s.mode.stable then
    let s := s.reach (s.mode.okT + 120000000000)
    .next (stableFs { s with mode := { s.mode with stable := true } })
  else .next s

/-- SUPPLY_MONITOR_TRIP: a rail stays below its threshold: a line-domain rail causes power-on reset, a logic rail a logic reset
(R242, R542). -/
def execSupplyMonitorTrip (lineDomain : Bool) (s : State) : Result :=
  if s.mode.porst then .next s
  else if lineDomain then .next (porstEnter s .lineSupply)
  else if s.mode.logicReset then .next s
  else .next (logicEnter s .logicSupply)

/-- WDC_CORE_RESET: 50 µs after a WDC expiry or a fatal exception the controller core is reset (R400). -/
def execWdcCoreReset (s : State) : Result :=
  match s.wdog.cReset with
  | some fatal => .next (coreEnter s (if fatal then .fatal else .wdc))
  | none => .next s

end Sys2Proof.Machine
end

