-- ==== Sys2Proof/Machine/Instants.lean ====
section
/-! DEFINITION. Instants: the rows of the scheduled instants of line time, with the order that the spec gives those of one tick: an
armed swap first (R222), a sample before an apply (R256), an apply before start-list events (R266). -/

namespace Sys2Proof.Machine

open Sys2Proof

/-- An armed swap whose instant has come takes effect before anything else on the tick (R222). -/
def swapFirst (s : State) : State :=
  match s.cfg.armed with
  | some a => if a.instant ≤ s.time.line then swapFire s else s
  | none => s

/-- The sample instant fires if it has come. -/
def sampleIfDue (s : State) (readings : List Word) : State :=
  if sampleDue s ≤ s.time.line then fireSample s readings else s

/-- The apply instant fires if it has come. -/
def applyIfDue (s : State) : State := if applyDue s ≤ s.time.line then fireApply s else s

/-- SAMPLE_INSTANT: the instant of the next cycle's snapshot; `readings` are the field die's readings of the output
terminals, CH00 first: 0 or 1, the measured duty, or the readback code (R104, R222, R253). -/
def execSampleInstant (readings : List Word) (s : State) : Result :=
  if s.mode.porst then .next s else .next (sampleIfDue (swapFirst (s.reach (sampleDue s))) readings)

/-- SNAPSHOT_READY: the frozen snapshot reaches the forwarding engine (R104). -/
def execSnapshotReady (s : State) : Result := .next (snapshotReady s)

/-- APPLY_INSTANT: the apply instant of the next cycle (R109); a sample instant of the same tick comes first, with the readings
given (R222, R256). -/
def execApplyInstant (s : State) (readings : List Word := []) : Result :=
  if s.mode.porst then .next s
  else .next (applyIfDue (sampleIfDue (swapFirst (s.reach (applyDue s))) readings))

/-- SL_GATE: the gate time of an event: a swap and an apply instant of the same tick come first, then every event of the channel
that gates on the tick, in slot order (R222, R265, R266). -/
def execSlGate (n slot : Nat) (s : State) : Result :=
  match slEvent (chan s n) slot with
  | some e =>
    if !fieldRuns s then .next s
    else
      let g := gateTime s n e
      let s := swapFirst (s.reach (gateFrom s n g))
      let s := if applyDue s == g then applyIfDue s else s
      .next (refresh (slGateAll s n ((chan s n).sl.filter (fun x => gateTime s n x == g))))
  | none => .next s

end Sys2Proof.Machine
end

