-- ==== Sys2Proof/Machine/Time.lean ====
section
/-! DEFINITION. Time: steps and epochs of line time, the servo, the missed-SYNC count, the PLL's conditions and the LTIME
registers (chapter 02), as operations that the SYNC frames share, and the rows of the PLL and the registers. -/

namespace Sys2Proof.Machine

open Sys2Proof

/-! ### Steps (R38, R48 to R50) -/

/-- Line time moves by o, in 1/64 ns, as a step: it stands in `corr`, an edge after it carries the step flag, and a PWM period
in progress runs on (R48, R257, R261). -/
def moveTime (s : State) (o : Int) : State :=
  let t := slewStop s.time
  let u := (((lineUnits t : Int) + o) % (2 ^ 70 : Int)).toNat
  let moved := fun (x : Nat) => (((x : Int) + roundDiv o 64) % (2 ^ 64 : Int)).toNat
  { s with time := { setUnits t u with corr := t.corr + o, stepped := true } }.onChans
    (fun _ c => { c with stepFlag := true, pwmT := if c.pwmPer == 0 then c.pwmT else moved c.pwmT })

/-- TIME_STEP: the magnitude in whole µs rounded up, the direction, and the detail in ns (R49, Table REG-11, Table
HLT-7). The detail rounds the fraction of 1/64 ns to the nearest ns: DESIGN CHOICE, log 90. -/
def postStep (s : State) (o : Int) : State :=
  let us := Nat.min 0xFFFF ((o.natAbs + 63999) / 64000)
  detail (post s 0xB0 (b2n (decide (o < 0))) (word us)) 0xB0 (roundDiv o 64 % (2 ^ 48 : Int)).toNat

/-- The skipped sample, apply and gun instants fire at a forward step in time order: an armed swap before a sample or an apply of
the same instant (R49, R222). -/
def fireSkipped (n : Nat) (readings : List Word) (s : State) : State :=
  match n with
  | 0 => s
  | k + 1 =>
    let now := s.time.line
    let swap := match s.cfg.armed with
      | some a => decide (a.instant ≤ now && a.instant ≤ sampleDue s && a.instant ≤ applyDue s)
      | none => false
    if swap then fireSkipped k readings (swapFire s)
    else if sampleDue s ≤ now && sampleDue s ≤ applyDue s then fireSkipped k readings (fireSample s readings)
    else if applyDue s ≤ now then fireSkipped k readings (fireApply s)
    else s

/-- Start-list events that a forward step has passed gate at the step (R49, R267), where the field die runs. -/
def gateSkipped (s : State) : State := if fieldRuns s then refresh (eachNo chanNos slGateLate s) else s

/-- The INJ_T instants that a forward step has passed fire once each: all but the first while the injected sequence runs (R49,
R317). -/
def injSkipped (s : State) : State :=
  let n := injInstants s s.time.line - s.adc.injNext
  if injTimed s && n != 0 && injLen s != 0 then
    let s := injTrigger s
    { s with adc := { s.adc with injNext := s.adc.injNext + n, injMissed := satAdd 0xFFFF s.adc.injMissed (n - 1) } }
  else s

/-- What a forward step of o has skipped fires (R49). -/
def fireAll (o : Int) (readings : List Word) (s : State) : State :=
  gateSkipped (injSkipped (fireSkipped (o.natAbs / 64 / 50000 * 2 + 8) readings s))

/-- The instants after a backward step are those from line time on (R38). -/
def reindex (s : State) : State :=
  injReindex { s with cyc := { s.cyc with nextSample := nextFrom s (sampleOfs s), nextApply := nextFrom s (applyOfs s) } }

/-- A step of the servo: forward beyond +10 µs, or either way at the first accepted sample after power-on reset (R48, R49). -/
def stepTime (s : State) (o : Int) (readings : List Word) : State :=
  let s := postStep (moveTime s o) o
  if 0 ≤ o then fireAll o readings s else reindex s

/-- The step of an epoch change or a preset: skipped sample instants fire, and the exchange starts again at the present cycle, so
that no skipped apply instant does anything (R49, R50, R115). -/
def stepEpoch (s : State) (o : Int) (readings : List Word) : State :=
  let next := s.cyc.nextSample
  let s := cycleRestart (postStep (moveTime { s with time := { s.time with epochDue := false } } o) o)
  if 0 ≤ o then fireAll o readings { s with cyc := { s.cyc with nextSample := next } } else injReindex s

/-- Steps 1 to 4 of an epoch change (R50), with its event. -/
def epochDiscard (s : State) : State :=
  let s := discardArmed (discardAll s)
  let s := { s with time := { s.time with epochChg := true } }
  (post s 0xB1 0 (word s.time.epochT)).onChans (fun _ c => { c with stepFlag := true })

/-- A SYNC frame brings another EPOCH_T, or another origin outside R58 and R59 (R50): the discards now, and the step at the first
accepted sample (R48). -/
def epochChange (s : State) (e : Nat) : State :=
  withTimeOk s (fun s =>
    let t := slewStop s.time
    epochDiscard { s with time := { t with
      epochT := e, tstate := .unsync, offsets := [], restarting := false, syncN := none, missed := 0, epochDue := true
      starterHeard := false } })

/-! ### The servo (R43 to R48) -/

/-- The segment delay and the offset from the upstream fields and the own timestamps, all in 1/64 ns (R45). A delay half-way
between two units rounds away from zero: DESIGN CHOICE, log 90. -/
def delayOffset (dep rtt t2 t3 : Nat) : Int × Int :=
  let d := roundDiv ((rtt : Int) - ((t3 : Int) - (t2 : Int))) 2
  (d, (dep : Int) + d - (t2 : Int))

/-- d lies within 0 to 150 ns (R46). -/
def delayOk (d : Int) : Bool := 0 ≤ d && d ≤ 9600

/-- The mean of the stored offsets, less every correction applied since each was taken (R48), to the nearest 1/64 ns with a tie
away from zero: DESIGN CHOICE, log 90. -/
def meanOffset (t : TimeState) : Int :=
  roundDiv (t.offsets.foldl (fun a b => a + b) 0) t.offsets.length - (t.corr + slewDone t)

/-- A mean is applied: a forward step beyond +10 µs, which leaves no error, else a slew that replaces the one in progress (R48,
Table TIM-8). -/
def applyMean (s : State) (readings : List Word) : State :=
  seeFine <| withTimeOk s (fun s =>
    let m := meanOffset s.time
    if 640000 < m then stepTime { s with time := { s.time with tstate := .fine } } m readings
    else
      let t := slewStop s.time
      { s with time := { t with slew := m, tstate := if m.natAbs < 3200 then .fine else .coarse } })

/-- An accepted offset of a sample whose t2 had the corrections c (R48). Before 16 samples are held after the first step, the mean
is that of those it has: DESIGN CHOICE, log 91. -/
def servo (s : State) (o c : Int) (readings : List Word) : State :=
  if s.time.tstate == .unsync then
    let now := s.time.corr + slewDone s.time
    seeFine <| withTimeOk s (fun s =>
      let s := { s with time := { s.time with tstate := .fine, offsets := [o + c], restarting := false } }
      if s.time.epochDue then stepEpoch s (o + c - now) readings else stepTime s (o + c - now) readings)
  else
    let s := { s with time := { s.time with offsets := ((o + c) :: s.time.offsets).take 16 } }
    if s.time.restarting && s.time.offsets.length < 16 then s
    else applyMean { s with time := { s.time with restarting := false } } readings

/-- A sample whose delay is out of range is refused (R46); the others go to the servo. -/
def sample (s : State) (dep rtt : Nat) (t2 t3 : Nat) (c : Int) (readings : List Word) : State :=
  let (d, o) := delayOffset dep rtt t2 t3
  if delayOk d then servo { s with time := { s.time with lastD := some d.toNat } } o c readings
  else { s with time := { s.time with delayRange := true } }

/-! ### Missed SYNC frames (R44, Table TIM-9) -/

/-- One SYNC interval passes without a further frame: at the 8th, HOLD and SYNC_MISS; at the anchor also the takeover
trigger (R44, R54, R164). -/
def syncMiss (s : State) : State :=
  let n := s.time.missed + 1
  let s := { s with time := { s.time with missed := n, starterHeard := false } }
  if n == 8 then
    let s := withTimeOk s (fun s => { s with time := { holdTime s.time with syncMiss := true } })
    let s := post s 0xB4 0 (syncStatWord s)
    if s.mode.role == .anchor && s.sta.anchor.trigger.isNone then
      { s with sta := { s.sta with anchor := { s.sta.anchor with trigger := some 4096, triggerT := s.time.line } } }
    else s
  else s

/-- SYNC_MISS_INTERVAL: the running interval ends (R44). -/
def execSyncMissInterval (s : State) : Result :=
  match s.time.syncN with
  | some n =>
    if lineRef s && s.mode.lineEngine then
      let s := s.reach (s.time.syncT + n * periodNs s)
      .next (syncMiss (timeJudge { s with time := { s.time with syncT := s.time.line } }))
    else .next s
  | none => .next s

/-! ### The PLL (R35, R54, R563) -/

/-- The selected reference is present: the crystal, or the signal at the reference port (R31). -/
def refPresent (s : State) : Bool :=
  if lineRef s then
    match (lport s (refPort s)).st with
    | .off => false
    | .nosig => false
    | _ => true
  else s.mode.crystal

/-- PLL_LOCKED: the lock indication holds (R35); without a crystal the PLL stays in ACQUIRE (R530). -/
def execPllLocked (s : State) : Result :=
  if s.time.pll == .acquire && s.mode.crystal && refPresent s && !s.mode.porst then
    .next (withTimeOk s (fun s => { s with time := { s.time with pll := .locked, hasRatio := true } }))
  else .next s

/-- PHASE_ERROR: the device reacts as to a loss and reacquires the reference that is present (R54, Table TIM-9). -/
def execPhaseError (s : State) : Result :=
  if s.time.pll == .locked && refPresent s && !s.mode.porst then .next (refValid (refLost s)) else .next s

/-- REF_RANGE: the line reference has lain outside ±200 ppm for 10 ms (R32, R563). -/
def execRefRange (s : State) : Result :=
  if lineRef s && s.mode.crystal && refPresent s && !s.mode.porst then
    let s := withTimeOk s (fun s =>
      let was := s.time.pll == .locked
      let s := { s with time := { s.time with pll := .acquire, lockLost := s.time.lockLost || was } }
      if was then post s 0xB2 0 (syncStatWord s) else s)
    let s := { s with time := { s.time with refRange := true } }
    .next (post (s.reason 0x0408) 0xB5 0 (syncStatWord s))
  else .next s

/-! ### LTIME_LATCH, LTIME0 to LTIME3, SYNC_STAT (R37, R52, R53) -/

/-- R37 permits a preset. -/
def presetOk (s : State) (m : Mode) : Bool :=
  m == .setup && (s.mode.role == .bench || (s.mode.role == .starter && !s.time.firstSent))

/-- A preset: a new epoch, kept in flash by a starter, and the step to LTIME with bits [1:0] ignored (R37, R50, R52). What a skipped
sample instant reads at the outputs is free: log 92. -/
def preset (s : State) : State :=
  let e := (s.time.epochT + 1) % 256
  let s := { s with time := { s.time with
    epochT := e, epochFlash := if s.mode.role == .starter then e else s.time.epochFlash } }
  let s := epochDiscard s
  let target := s.time.latch.toNat / 4 * 4
  let (readings, s) := s.takeReadings
  stepEpoch s ((target * 64 : Nat) - (lineUnits s.time : Int)) readings

/-- A permitted write to LTIME_LATCH: clear PRESET_REF, then the preset, then the latch (R52). -/
def latchAct (s : State) (m : Mode) (w : Word) : State :=
  let s := if bitOf w 2 then { s with time := { s.time with presetRef := false } } else s
  let s := if bitOf w 1 then
      (if presetOk s m then preset s else { s with time := { s.time with presetRef := true } })
    else s
  if bitOf w 0 then
    { s with time := { s.time with latch := BitVec.ofNat 64 s.time.line, lseq := (s.time.lseq + 1) % 16 } }
  else s

/-- A write to LTIME_LATCH (R52). -/
def regLtimeLatch (s : State) (v : Acc) (w : Word) : Done :=
  regWrite s v 0x2E true false (fun s => (latchAct s v.mode w, 0))

/-- A write to LTIMEi replaces the latched copy (R52). -/
def regLtime (s : State) (v : Acc) (i : Nat) (w : Word) : Done :=
  regWrite s v (0x30 + 2 * i) true false (fun s =>
    ({ s with time := { s.time with latch := put64 s.time.latch i w } }, 0))

/-- A write to SYNC_STAT clears the sticky bits that it names (R53, Table TIM-8). -/
def regSyncStat (s : State) (v : Acc) (w : Word) : Done :=
  regWrite s v 0x38 true false (fun s =>
    let t := s.time
    ({ s with time := { t with
      stepped := t.stepped && !bitOf w 8, epochChg := t.epochChg && !bitOf w 9, lockLost := t.lockLost && !bitOf w 10
      delayRange := t.delayRange && !bitOf w 11, syncMiss := t.syncMiss && !bitOf w 12
      refRange := t.refRange && !bitOf w 13 } }, 0))

/-- LTIME_LATCH: a write of LATCH (R52). -/
def execLtimeLatch (via : Path) (s : State) : Result := .next (served s via (fun s v => regLtimeLatch s v 1))

/-- PRESET: a write of PRESET (R37, R52). -/
def execPreset (via : Path) (s : State) : Result := .next (served s via (fun s v => regLtimeLatch s v 2))

end Sys2Proof.Machine
end

