-- ==== Sys2Proof/Machine/Heat.lean ====
section
/-! DEFINITION. Heat: what a node does with a heat that it processes: the header checks, the IN slot inserted in passing,
the classification at EOF-good and the commit (R97 to R110, Tables CYC-2, CYC-6 and CYC-7). -/

namespace Sys2Proof.Machine

open Sys2Proof

/-- A 32-bit cycle number widened to the count k (R108). -/
def widen (c k : Nat) : Int := (k : Int) + (((c : Int) - k + 2 ^ 31) % 2 ^ 32) - 2 ^ 31

/-- The commit deadline of cycle c, ns (R97). -/
def commitDeadline (s : State) (c : Int) : Int := c * periodNs s + applyOfs s - 4000

/-- The classes of Table CYC-6 as the header gives them; `fits` is row 6 before EOF-good. -/
inductive HeatClass where
  | other | early | stale | dup | invalid | fits
deriving DecidableEq, Repr

/-- The node's slot geometry: the engine's copy, or before its first load the MAP's heat index alone (R20). -/
def geoIdx (s : State) : Nat :=
  match s.link.geo with
  | some g => g.heat
  | none => cfgF s 3 0 0 4

/-- The checks of R101 that make a heat invalid; `perm` says that R20 and R72 permit the exchange. -/
def headerOk101 (s : State) (perm : Bool) (b : List Byte) (c : Int) : Bool :=
  match s.link.geo with
  | none => false
  | some g =>
    let first := fieldAt b 8 2 % 4096
    let count := fieldAt b 10 2 % 8192
    let len := fieldAt b 12 2
    let pos := devPos s
    perm && byteAt b 0 == 1 && byteAt b 1 == 1 && byteAt b 14 / 8 == 0 && g.heat ≤ heatLast b &&
    byteAt b 3 == byteAt b 4 && fieldAt b 24 4 == cfgF s 3 0xB 0 32 &&
    decide ((fieldAt b 16 8 : Int) = c * periodNs s + applyOfs s) &&
    1 ≤ pos && pos ≤ 4094 && first ≤ pos && pos < first + count &&
    g.outOfs + g.outLen ≤ len && g.inOfs + g.inLen ≤ len

/-- The cycle number of a heat, widened to the node's own (R108). -/
def heatCycle (s : State) (b : List Byte) : Int := widen (fieldAt b 4 4) (cycleNow s)

/-- The class of a heat at its header, which passes at line time t; a header at or past the commit deadline fails the last check of
R101 (R101, Table CYC-6). -/
def heatClass (s : State) (perm : Bool) (b : List Byte) (t : Nat) : HeatClass :=
  let c := heatCycle s b
  if heatIdx b != geoIdx s then .other
  else if (t : Int) < (c - 1) * periodNs s then .early
  else if c ≤ widen (s.cyc.applied % 2 ^ 32) (cycleNow s) then .stale
  else if s.cyc.commits.any (fun m => decide ((m.cycle : Int) = c)) then .dup
  else if !headerOk101 s perm b c || commitDeadline s c ≤ t then .invalid
  else .fits

/-! ### The IN slot (R104 to R106) -/

/-- A state that Table LIN-5 marks STALE, an activation pause, or the barrier link down (Table CYC-7). -/
def staleState (s : State) : Bool :=
  s.mode.logicReset || s.mode.fieldReset || s.safe.pause.isSome || s.supply.barrierDown

/-- The IN status word for a heat of cycle c (Table CYC-7). -/
def inStatus (s : State) (c : Int) : Word :=
  let v := s.cyc.snap
  pack [(b2n (staleState s || decide ((v.cycle : Int) ≠ c % 2 ^ 32)), 0), (b2n (v.forced != 0), 1),
    (b2n (v.active != 0 && !v.lpOff), 2), (b2n v.lpOff, 3), (b2n s.cyc.outMiss, 4), (b2n (!s.evq.queue.isEmpty), 5),
    (b2n (s.health.replace != 0), 6), (b2n (timeOk s), 7), (modeCode s.mode.mode, 8), (b2n (loopHeld s), 10),
    (v.cycle % 16, 12)]

/-- The bytes of the IN slot (R105). -/
def inSlot (s : State) (c : Int) (len : Nat) : List Byte :=
  (wordsToBytes (inStatus s c :: (s.cyc.snap.inWords ++ List.replicate 31 0).take 31)).take len

/-- The heat as it leaves the node: its IN slot overwritten when the node exchanges (R101, R105). -/
def heatPass (s : State) (cls : HeatClass) (b : List Byte) : List Byte :=
  match cls, s.link.geo with
  | .fits, some g => overwrite b (32 + g.inOfs) (inSlot s (heatCycle s b) g.inLen)
  | _, _ => b

/-- The IN slot went out with an earlier snapshot than the heat's cycle (R105). -/
def snapWasLate (s : State) (b : List Byte) : Bool :=
  let g := s.link.geo.map (fun g => g.inLen)
  decide (widen s.cyc.snap.cycle (cycleNow s) < heatCycle s b) && decide (0 < g.getD 0)

/-! ### At EOF-good (R107, R108, R114) -/

/-- The OUT words of a heat with the items in force (R107, R115). -/
def outWords (s : State) (g : SlotGeo) (b : List Byte) : List (Word × Word) :=
  let ws := bytesToWords ((b.drop (32 + g.outOfs)).take g.outLen)
  (mapFrom 0 (fun j w => (cfgW s 3 (0x10 + j), w)) ws).filter (fun p => p.1 != 0)

/-- A commit enters the buffer of its parity (R107). -/
def addCommit (l : List Commit) (c : Commit) : List Commit := l.filter (fun x => x.cycle % 2 != c.cycle % 2) ++ [c]

/-- An accepted heat: MOVING follows it, and it is committed and counted unless a state of Table LIN-5 discards it (R23,
R107, R114). -/
def acceptHeat (s : State) (b : List Byte) (c : Nat) : State :=
  let s := { s with cyc := { s.cyc with moving := byteAt b 14 % 2 == 1, acceptT := some s.time.line } }
  if commitsDiscarded s then s
  else
    match s.link.geo with
    | none => s
    | some g =>
      let data := if natBits (byteAt b 14) 1 1 == 1 then none else some (outWords s g b)
      { s with cyc := { s.cyc with commits := addCommit s.cyc.commits { cycle := c, data }
                                   accepted := wrap32 s.cyc.accepted 1 } }

/-- A heat of class `cls` ended in EOF-good at the node now (Table CYC-6). -/
def heatEof (s : State) (cls : HeatClass) (late : Bool) (b : List Byte) : State :=
  let c := heatCycle s b
  let y := s.cyc
  match cls with
  | .other => s
  | .early => { s with cyc := { y with early := sat16 y.early } }
  | .stale => { s with cyc := { y with stale := sat16 y.stale } }
  | .dup => { s with cyc := { y with dup := sat16 y.dup } }
  | .invalid => { s with cyc := { y with hdrErr := sat16 y.hdrErr } }
  | .fits =>
    let s := if late then { s with cyc := { y with snapLate := sat16 y.snapLate } } else s
    if commitDeadline s c ≤ s.time.line then { s with cyc := { s.cyc with late := sat16 s.cyc.late } }
    else acceptHeat s b c.toNat

end Sys2Proof.Machine
end

