-- ==== Sys2Proof/Machine/Baton.lean ====
section
/-! DEFINITION. Baton: what a node or the anchor does with a baton that it processes: the header check, the walk of the
record region, the pockets filled in passing, and the records consumed at EOF-good (R117 to R125). -/

namespace Sys2Proof.Machine

open Sys2Proof

/-! ### Responses in pockets (R119, R123, R124) -/

/-- Length of a response in its pocket. -/
def responseLen (r : Response) : Nat := 8 + r.data.length + (if r.sealed_.isSome then 28 else 0)

/-- A ready response may still go at a line time: an EXPIRED response or a last-gasp notice, or one within its lifetime (R130). -/
def mayGo (now : Nat) (r : Response) : Bool := r.expired || r.unsol || decide (now ≤ r.deadline)

/-- The oldest ready response that a baton of an origin may take and that fits; a last-gasp notice goes into a baton of
either origin (R123, R124, R139). -/
def pickResponse (l : List Response) (anchor : Bool) (size : Nat) : Option Response :=
  l.find? (fun r => (r.unsol || r.anchor == anchor) && decide (responseLen r ≤ size))

/-- Fills pockets in the order they pass: `n` pockets left from offset `ofs`, `quota` fills left; the body and the
responses filled (R123, R124). -/
def fillPockets (n ofs size quota pos : Nat) (anchor : Bool) (ready : List Response) (b : List Byte) :
    List Byte × List Response :=
  match n with
  | 0 => (b, [])
  | k + 1 =>
    if quota == 0 || byteAt b ofs != 0xFF then fillPockets k (ofs + size) size quota pos anchor ready b
    else
      match pickResponse ready anchor size with
      | none => fillPockets k (ofs + size) size quota pos anchor ready b
      | some r =>
        let (b', l) := fillPockets k (ofs + size) size (quota - 1) pos anchor (dropResponse ready r)
          (overwrite b ofs (responseBytes pos r))
        (b', r :: l)

/-- QUOTA as a number of fills: 0 means no limit (Table ACY-2). -/
def quotaOf (b : List Byte) : Nat := if byteAt b 24 == 0 then 255 else byteAt b 24

/-! ### The passage (R120 to R123) -/

/-- What a device read from a baton in passing. -/
structure BatonView where
  /-- The body as it leaves. -/
  body : List Byte
  /-- Responses filled, first pocket first. -/
  filled : List Response
  /-- The header passed R120. -/
  headerOk : Bool
  /-- The walk met a fault (R121). -/
  walkFault : Bool
  /-- The records copied. -/
  recs : List (List Byte)
deriving DecidableEq, Repr

/-- The transaction engine works on batons (R25). -/
def batonEngine (s : State) : Bool := !s.mode.logicReset && s.mode.lineEngine

/-- The device reads a baton in passing; `perm` says that R20 and R72 permit it. The anchor copies broadcast records alone
and fills no pocket (R163, R165). -/
def batonPass (s : State) (perm : Bool) (b : List Byte) : BatonView :=
  let none_ : BatonView := { body := b, filled := [], headerOk := true, walkFault := false, recs := [] }
  if !batonEngine s || !perm then none_
  else if !batonHeaderOk b (cfgF s 3 0xB 0 32) then { none_ with headerOk := false }
  else
    let recLen := fieldAt b 8 2
    let (recs, fault) := walkRecords (byteAt b 4) ((b.drop 32).take recLen)
    let pos := devPos s
    let node := s.mode.role == .node
    let mine := recs.filter (fun r =>
      let d := fieldAt r 0 2 % 4096
      d == 4095 || (node && pos != 0xFFF && d == pos))
    let (body, filled) :=
      if node then
        fillPockets (byteAt b 6) (32 + recLen) (16 * byteAt b 5) (quotaOf b) pos (frameOrigin b)
        (s.txn.ready.filter (mayGo s.time.line)) b
      else (b, [])
    { body, filled, headerOk := true, walkFault := fault, recs := mine }

/-- BATON_ERR, at most once per cycle (R120, R121). -/
def batonErr (s : State) (b : List Byte) (argx : Nat) : State :=
  if s.txn.batonErr == some (cycleNow s) then s
  else post { s with txn := { s.txn with batonErr := some (cycleNow s) } } 0x46 argx (word (fieldAt b 2 2))

/-- The fills of a frame that left with EOF-good are sent (R125). -/
def sentAll (s : State) (l : List Response) : State :=
  match l with
  | [] => s
  | r :: q => sentAll (sentResponse s r) q

/-- The frame ended in EOF-good at the device: faults are reported and the copied records consumed in order (R120 to
R122). -/
def batonEof (s : State) (v : BatonView) (b : List Byte) : State :=
  if !v.headerOk then batonErr s b 1
  else
    let s := if v.walkFault then batonErr s b 2 else s
    consumeAll s (frameOrigin b) v.recs

end Sys2Proof.Machine
end

