-- ==== Sys2Proof/Machine/Line.lean ====
section
/-! DEFINITION. Line: the line transactions of a starter or an anchor (R160, R462): their records, tags and placement into
batons, and the list that holds them, as operations that every user of line transactions shares. -/

namespace Sys2Proof.Machine

open Sys2Proof

/-! ### The list (R160) -/

/-- The tag of a line transaction that has none yet. -/
def noTag : Nat := 256

/-- Outstanding line transactions that the role may hold (R160). -/
def lineLimit (s : State) : Nat := if s.mode.role == .anchor then 256 else 2048

/-- No more line transactions can be taken. -/
def lineFull (s : State) : Bool := decide (lineLimit s ≤ s.sta.txns.length)

/-- A line transaction before its first departure. -/
def newLine (for_ : LineTxnFor) (dest op life : Nat) (sealed : Bool) (data : List Byte) : LineTxn :=
  { for_, dest, tag := noTag, op, life, sealed, data, sealed_ := none, queued := true, sentT := none, lastT := 0, sends := 0 }

/-- A line transaction joins the list in post order. -/
def addLine (s : State) (t : LineTxn) : State := { s with sta := { s.sta with txns := s.sta.txns ++ [t] } }

/-- A line transaction of the device's own, where the list has room. -/
def askLine (s : State) (t : LineTxn) : State := if lineFull s then s else addLine s t

/-- The line transaction of a destination and tag. -/
def isLine (t : LineTxn) (dest tag : Nat) : Bool := t.dest == dest && t.tag == tag && tag != noTag

/-- The line transaction of a destination and tag, if one is outstanding. -/
def findLine (s : State) (dest tag : Nat) : Option LineTxn := s.sta.txns.find? (fun t => isLine t dest tag)

/-- Replaces the line transaction of a destination and tag. -/
def setLine (s : State) (n : LineTxn) : State :=
  { s with sta := { s.sta with txns := s.sta.txns.map (fun t => if isLine t n.dest n.tag then n else t) } }

/-- The line transaction of a destination and tag ends, and its tag is free (R160). -/
def endLine (s : State) (dest tag : Nat) : State :=
  { s with sta := { s.sta with txns := s.sta.txns.filter (fun t => !isLine t dest tag) } }

/-- The device has an outstanding line transaction of a use to a destination. -/
def asking (s : State) (for_ : LineTxnFor) (dest : Nat) : Bool :=
  s.sta.txns.any (fun t => t.for_ = for_ && t.dest == dest)

/-- The lowest tag that no outstanding transaction of the destination has (R160). -/
def freeTag (l : List LineTxn) (dest : Nat) : Option Nat :=
  (List.range 256).find? (fun g => !l.any (fun t => isLine t dest g))

/-! ### Records (Table ACY-3, R455) -/

/-- Bytes 0 to 7 of a record. -/
def lineHead (t : LineTxn) (retry : Bool) : List Byte :=
  leBytes 2 (t.dest + 4096 * b2n t.sealed + 8192 * b2n retry) ++ [byte t.tag, byte t.op] ++ leBytes 2 t.life ++
    leBytes 2 t.data.length

/-- A record with its pad byte: RETRY marks a unicast that was sent before (R126, R160). -/
def lineRecord (t : LineTxn) : List Byte :=
  let head := lineHead t (t.sends != 0 && t.dest != 4095)
  let b := match t.sealed_ with
    | some (nonce, gcm, ct) => head ++ nonce ++ ct ++ gcm
    | none => head ++ t.data
  b ++ List.replicate (b.length % 2) 0

/-- A record is sealed once, with the next nonce of this device; a retry repeats its bytes (R455, R456). -/
def sealLine (s : State) (t : LineTxn) : State × LineTxn :=
  if t.sealed && t.sealed_.isNone then
    let (nonce, s) := takeNonce s
    let (ct, gcm) := Config.gcmSeal (sealKey s) nonce (lineHead t false ++ lineIdBytes s) t.data
    (s, { t with sealed_ := some (nonce, gcm, ct) })
  else (s, t)

/-! ### Placement into a baton (R160) -/

/-- A baton under construction. -/
structure Filling where
  /-- The device. -/
  s : State
  /-- Records placed. -/
  count : Nat
  /-- Their bytes. -/
  bytes : List Byte
  /-- Destinations of the unicast records placed. -/
  uni : List Nat
  /-- A record did not fit, so no later one is placed. -/
  stop : Bool
deriving DecidableEq, Repr

/-- What a baton may hold: bytes of records, pockets, and the quota, 0 for none. -/
structure Room where
  /-- Bytes for records. -/
  bytes : Nat
  /-- Pockets. -/
  pockets : Nat
  /-- QUOTA. -/
  quota : Nat
deriving DecidableEq, Repr

/-- The resend of a record leaves at least P before the deadline measured from its first departure (R129, R160). -/
def retryFits (s : State) (t : LineTxn) : Bool :=
  match t.sentT with
  | some d => decide (s.time.line + periodNs s ≤ d + t.life * 100000)
  | none => false

/-- A unicast record of a gun schedule may leave: until G − 4·P (R161). -/
def gunInTime (s : State) : Bool :=
  match s.sta.gun with
  | some g => decide (s.time.line + 4 * periodNs s ≤ g.g)
  | none => false

/-- The transaction's record waits for this baton: not a sealed one while sealed traffic is suspended, a resend only in time, a gun
broadcast once in a cycle, and a read or write of a gun schedule only until its cut-off (R160, R161, R459). -/
def wantsBaton (s : State) (t : LineTxn) : Bool :=
  t.queued && !(t.sealed && sealedOff s && t.sealed_.isNone) && (t.dest == 4095 || t.sends == 0 || retryFits s t) &&
  (match t.for_ with
   | .gunBcast => t.sends == 0 || t.lastT / periodNs s < cycleNow s
   | .gunRead => gunInTime s
   | .gunWrite => gunInTime s
   | _ => true)

/-- The record fits beside those already placed (R160). -/
def lineFits (room : Room) (f : Filling) (t : LineTxn) : Bool :=
  decide (f.bytes.length + recordLen t.data.length t.sealed ≤ room.bytes) && decide (f.count < 255) &&
  (t.dest == 4095 ||
    (decide (f.uni.length < room.pockets) && (room.quota == 0 || decide ((f.uni.filter (fun d => d == t.dest)).length < room.quota))))

/-- The broadcast goes into every baton and does not end by its count (R161). -/
def isCancel (t : LineTxn) : Bool := t.for_ = .gunCancel

/-- The transaction after its record left: a broadcast waits on for 3 batons, a unicast for its response (R160). -/
def departed (s : State) (t : LineTxn) : LineTxn :=
  { t with sends := t.sends + 1, lastT := s.time.line, sentT := some (t.sentT.getD s.time.line)
           queued := t.dest == 4095 && (isCancel t || t.sends + 1 < 3) }

/-- One waiting transaction is placed, or the baton is closed to all later ones. -/
def placeLine (room : Room) (f : Filling) (t : LineTxn) : Filling :=
  if f.stop || !wantsBaton f.s t then f
  else if !lineFits room f t then { f with stop := true }
  else
    match (if t.tag == noTag then freeTag f.s.sta.txns t.dest else some t.tag) with
    | none => f
    | some g =>
      let (s, n) := sealLine f.s { t with tag := g }
      let rec_ := lineRecord n
      let l := s.sta.txns.map (fun x => if x = t then departed s n else x)
      { f with s := { s with sta := { s.sta with txns := l } }, count := f.count + 1, bytes := f.bytes ++ rec_
               uni := if t.dest == 4095 then f.uni else t.dest :: f.uni }

/-- The waiting transactions are placed in post order. -/
def placeAll (room : Room) (f : Filling) (l : List LineTxn) : Filling :=
  match l with
  | [] => f
  | t :: r => placeAll room (placeLine room f t) r

/-- The body of a baton (Table ACY-2). -/
def batonBody (s : State) (f : Filling) (size pockets quota : Nat) : List Byte :=
  [0x02, 0x01] ++ leBytes 2 s.sta.bseq ++
    [byte f.count, byte size, byte pockets, if s.mode.role == .anchor then 1 else 0] ++ leBytes 2 f.bytes.length ++
    leBytes 2 (32 + f.bytes.length) ++ lineIdBytes s ++ leBytes 8 s.time.line ++ [byte quota] ++ List.replicate 7 0 ++
    f.bytes ++ List.replicate (16 * size * pockets) 0xFF

/-! ### Responses (R119, R460, R462) -/

/-- A response in a returned pocket; none when the pocket is empty or corrupted (R119). -/
def pocketResponse (p : List Byte) : Option (List Byte) :=
  let len := fieldAt p 6 2
  let n := 8 + len + (if sealedBit (fieldAt p 2 2) then 28 else 0)
  if byteAt p 0 == 0xA5 && len ≤ 256 && n ≤ p.length then some (p.take n) else none

/-- The window of a responding position (R461). -/
def posWindow (s : State) (pos : Nat) : Window :=
  match s.sec.wins.find? (fun w => w.1 == pos) with
  | some w => w.2
  | none => { epoch := 0, ctr := 0, map := 0 }

/-- The state with the window of a position replaced. -/
def setPosWindow (s : State) (pos : Nat) (w : Window) : State :=
  { s with sec := { s.sec with wins := s.sec.wins.filter (fun x => x.1 != pos) ++ [(pos, w)] } }

/-- A sealed response is opened: its plain data, or none with the refusal of R460 reported (R460 to R463). -/
def openResponse (s : State) (t : LineTxn) (r : List Byte) : State × Option (List Byte) :=
  let src := fieldAt r 2 2 % 4096
  let len := fieldAt r 6 2
  let nonce := (r.drop 8).take 12
  let req := match t.sealed_ with
    | some (n, _, _) => n
    | none => []
  if nonceSender nonce != src then (sealFail s src 0x08, none)
  else
    match Config.gcmOpen (sealKey s) nonce (r.take 8 ++ req ++ lineIdBytes s) ((r.drop 20).take len) (r.drop (20 + len)) with
    | none => (sealFail s src 0x08, none)
    | some d =>
      let e := nonceEpoch nonce
      if e == 0 || e == 0xFFFFF then (sealFail s src 0x09, none)
      else
        match windowTake (posWindow s src) e (nonceCounter nonce) with
        | none => (sealFail s src 0x09, none)
        | some w => (setPosWindow s src w, some d)

/-- An unsealed status that a sealed request takes as a report (R462). -/
def reportStatus (st : Nat) : Bool := st == 0x08 || st == 0x09 || st == 0x0A || st == 0x10

/-- The plain data of a response to a line transaction, or none when it counts as not received (R462). -/
def responseData (s : State) (t : LineTxn) (r : List Byte) : State × Option (List Byte) :=
  let sealed := sealedBit (fieldAt r 2 2)
  if t.sealed then
    if sealed then openResponse s t r
    else if reportStatus (byteAt r 5) then (s, some (r.drop 8))
    else (s, none)
  else if sealed then (s, none)
  else (s, some (r.drop 8))

end Sys2Proof.Machine
end

