-- ==== Sys2Proof/Machine/Relay.lean ====
section
/-! DEFINITION. Relay: what the starter does to fetch and to hand on a bundle: the blocks of RELAY_PULL (R162) and the rounds
of a distribution (R438), as operations that batons, frames and update commands share; and the gap of a cycle in which
batons and RELAY frames leave (R99, R160). -/

namespace Sys2Proof.Machine

open Sys2Proof

/-! ### The gap of a cycle (R99, R160) -/

/-- The largest body whose terminator and gap end before the next cycle's launch (R160). -/
def gapRoom (s : State) : Nat :=
  if heatsRun s then Nat.min 8704 ((launchAt s (s.sta.cycle + 1) - s.time.line) / 8 - 16) else 0

/-! ### RELAY_PULL (R162, R432) -/

/-- RELAY_PULL ends with an outcome, and its reads are forgotten. -/
def pullEnd (s : State) (outcome result : Nat) : State :=
  match s.sta.pull with
  | none => s
  | some r =>
    let txns := s.sta.txns.filter (fun t => match t.for_ with
      | .pull _ _ => false
      | _ => true)
    complete { s with sta := { s.sta with pull := none, txns } } r.path r.d outcome result

/-- The bitmap of failed blocks in BUF1 (Table HBU-9). -/
def pullBitmap (r : PullRun) : List Byte :=
  (upTo 32).map (fun i => byte ((r.failed.filter (fun b => b / 8 == i)).foldl (fun a b => a + 2 ^ (b % 8)) 0))

/-- Every block has been pulled or has failed (Table STA-2). -/
def pullFinish (s : State) (r : PullRun) : State :=
  let s := if r.d.len1 == 32 then s.store (apertureBase + r.d.off1) (pullBitmap r) else s
  pullEnd { s with sta := { s.sta with pull := some r } } outOk (r.pulled + 65536 * r.failed.length)

/-- The pull goes on with its next block; `good` counts the present one as pulled, else it has failed. -/
def pullNext (s : State) (r : PullRun) : State :=
  let r := { r with block := r.block + 1, left := r.left - 1, tries := 0, parts := [], fails := [] }
  if r.left == 0 then pullFinish s r else { s with sta := { s.sta with pull := some r } }

/-- The bytes of an assembled block, none while parts are missing. -/
def pullBytes (r : PullRun) : Option (List Byte) :=
  let parts := (upTo 16).filterMap (fun i => (r.parts.find? (fun p => p.1 == i)).map (·.2))
  if parts.length == 16 then some (parts.flatMap id) else none

/-- The block check of a pulled block: records under the staged metadata; metadata sectors are judged together once they are
staged (R162, R432, Table UPD-7). -/
def pullGood (s : State) (r : PullRun) (b : List Byte) : Bool :=
  if r.block < 4 then r.block == 1 || s.upd.metaSectors != 0
  else s.upd.metaOk && blockOk (stagedMeta s) (r.block - 4) b

/-- The block waits for the metadata, which are pulled and not yet judged. -/
def pullWaits (s : State) (r : PullRun) : Bool :=
  4 ≤ r.block && s.upd.metaSectors != 0 && !s.upd.metaOk && !r.failed.any (fun b => b < 4)

/-- A block that fails is pulled again up to 3 times, and then reported as failed (R162). -/
def pullBad (s : State) (r : PullRun) : State :=
  if r.tries < 3 then
    { s with sta := { s.sta with pull := some { r with tries := r.tries + 1, parts := [], fails := [] } } }
  else pullNext s { r with failed := r.failed ++ [r.block] }

/-- Sector 1 of a bundle not yet known opens the staging by its header (R432). -/
def pullOpens (s : State) (r : PullRun) (b : List Byte) : State :=
  if r.block == 1 && s.upd.metaSectors == 0 then
    if 1 ≤ bdMeta b && bdMeta b ≤ 3 && 1 ≤ bdBlocks b && bdBlocks b ≤ 252 then openStaging s [] (bdMeta b) (bdBlocks b)
    else sessionFail s 0x0607
  else s

/-- The pull has no session any more (R434): it completes REFUSED with the REASON by which the session ended. -/
def pullOrphan (s : State) : State :=
  if s.sta.pull.isSome && s.upd.phase != .pull && s.upd.phase != .staged then pullEnd s outRefused s.upd.ended.toNat else s

/-- A read of the present block failed, or got no answer; the block is pulled again once every read of this pull has ended (R162). -/
def pullMissed (s : State) (block part : Nat) : State :=
  match s.sta.pull with
  | some r =>
    if r.block != block then s
    else { s with sta := { s.sta with pull := some { r with fails := part :: r.fails.filter (fun i => i != part) } } }
  | none => s

/-- Every read of the present pull of the block has ended, one of them at least without its part. -/
def pullFailed (r : PullRun) : Bool := !r.fails.isEmpty && r.parts.length + r.fails.length == 16

/-- The present block of the pull is looked at: skipped where the bundle does not need it or holds it already, taken into
staging once it is assembled and good, pulled again when it fails (R162). -/
def pullStep (s : State) : State :=
  match s.sta.pull with
  | none => s
  | some r =>
    let known := s.upd.metaSectors != 0
    let need := (neededSectors s.upd.metaSectors s.upd.blocks).contains r.block
    if (known && !need) || r.block == 0 || 255 < r.block then pullNext s r
    else if known && !s.upd.missing.contains r.block then pullNext s { r with pulled := r.pulled + 1 }
    else
      match pullBytes r with
      | none => if pullFailed r then pullBad s r else s
      | some b =>
        if pullWaits s r then s
        else if !pullGood s r b then pullBad s r
        else
          let s := pullOrphan (pullOpens s r b)
          if mayTake s r.block && s.sta.pull.isSome then
            pullNext (takeSector s r.block b) { r with pulled := r.pulled + 1 }
          else s

/-- The reads that the pull still needs for its block join the list; at most 192 are in flight (R162). -/
def pullAsk (s : State) : State :=
  match s.sta.pull, s.sta.plan with
  | some r, some v =>
    let todo := (upTo 16).filter (fun i =>
      !r.parts.any (fun p => p.1 == i) && !r.fails.contains i && !asking s (.pull r.block i) r.src)
    eachNo todo (fun s i =>
      askLine s (newLine (.pull r.block i) r.src 0x07 v.pingLife false
        (leBytes 4 (stagingAt r.block + 256 * i) ++ leBytes 2 256))) s
  | _, _ => s

/-- A part of the pulled block arrived (R162). -/
def pullPart (s : State) (block part : Nat) (d : List Byte) : State :=
  match s.sta.pull with
  | some r =>
    if r.block != block then s
    else pullStep { s with sta := { s.sta with pull := some { r with parts := r.parts ++ [(part, d)] } } }
  | none => s

/-! ### Distribution (R438) -/

/-- The distribution ends in STAGED (R438). -/
def distEnd (s : State) : State :=
  let txns := s.sta.txns.filter (fun t => t.for_ != .join && t.for_ != .map && t.for_ != .status)
  setPhase { s with upd := { s.upd with dist := none }, sta := { s.sta with txns } } .staged

/-- PRESENT positions neither complete nor refused. -/
def distOpen (s : State) (d : DistRun) : List Nat :=
  (posIn s 2).filter (fun p => !d.complete.contains p && !d.refused.contains p)

/-- A sweep begins, or the distribution ends because no position is left (R438). -/
def distSweep (s : State) (d : DistRun) : State :=
  match distOpen s d with
  | [] => distEnd s
  | l => { s with upd := { s.upd with dist := some { d with sweep := l, status := [], need := [] } } }

/-- The sweep has heard of every position: the next round's sectors are to be sent, metadata sectors first (R438). -/
def distRound (s : State) (d : DistRun) : State :=
  if (distOpen s d).isEmpty then distEnd s
  else
    let order := (upTo 256).filter (fun n => d.need.contains n)
    let d := { d with round := d.round + 1, toSend := order, need := [] }
    if order.isEmpty then distSweep s d else { s with upd := { s.upd with dist := some d } }

/-- A position of the sweep is done with. -/
def distHeard (s : State) (d : DistRun) (pos : Nat) : State :=
  let d := { d with sweep := d.sweep.filter (fun p => p != pos), status := d.status.filter (fun p => p != pos) }
  if d.sweep.isEmpty then distRound s d else { s with upd := { s.upd with dist := some d } }

/-- The sectors of a map of 32 bytes (R433). -/
def mapSectors (m : List Byte) : List Nat := (upTo 256).filter (fun n => natBits (byteAt m (n / 8)) (n % 8) 1 == 1)

/-- A MAP response of a position, or none when it gave no map (R438). -/
def distMap (s : State) (pos : Nat) (data : Option (List Byte)) : State :=
  match s.upd.dist with
  | none => s
  | some d =>
    match data with
    | none => distHeard s d pos
    | some m =>
      let state := byteAt m 2
      if state == 0 then { s with upd := { s.upd with dist := some { d with status := pos :: d.status } } }
      else if 4 ≤ state && fieldAt m 4 2 == 0 then distHeard s { d with complete := d.complete ++ [pos] } pos
      else distHeard s { d with need := d.need ++ mapSectors (m.drop 6) } pos

/-- A STATUS response of a position in IDLE: refused when it carries a REASON (R436, R438). -/
def distStatus (s : State) (pos : Nat) (data : Option (List Byte)) : State :=
  match s.upd.dist with
  | none => s
  | some d =>
    match data with
    | none => distHeard s d pos
    | some m =>
      if fieldAt m 6 2 != 0 then distHeard s { d with refused := d.refused ++ [pos] } pos else distHeard s d pos

/-- The records of a running sweep join the list: MAP, or STATUS of a position in IDLE (R438). -/
def distAsk (s : State) : State :=
  match s.upd.dist, s.sta.plan with
  | some d, some v =>
    let s := eachNo (d.sweep.filter (fun p => !d.status.contains p && !asking s .map p)) (fun s p =>
      askLine s (newLine .map p 0x0C v.pingLife false [1, 0])) s
    eachNo (d.status.filter (fun p => !asking s .status p)) (fun s p =>
      askLine s (newLine .status p 0x0C v.pingLife false [2, 0])) s
  | _, _ => s

/-- The sealed broadcast of RELAY_JOIN for the staged bundle (R427, R438). -/
def distJoin (s : State) : State :=
  let life := (s.sta.plan.map (fun v => v.pingLife)).getD 20
  let data : List Byte := [6, 0] ++ s.upd.ident ++ [byte s.upd.metaSectors, 0] ++ leBytes 2 s.upd.blocks
  let d : DistRun := { joinT := none, waiting := true, round := 0, toSend := [], need := [], sweep := [], status := [],
                       complete := [], refused := [] }
  setPhase (addLine { s with upd := { s.upd with dist := some d } } (newLine .join 4095 0x21 life true data)) .distribute

/-- The RELAY_JOIN has left in its third baton (R438). -/
def distJoined (s : State) : State :=
  match s.upd.dist with
  | some d => { s with upd := { s.upd with dist := some { d with joinT := some s.time.line } } }
  | none => s

/-- DISTRIBUTE_WAIT_END: 6 s after the RELAY_JOIN round 0 begins with every sector, or, for a bundle distributed before, the
maps are asked for first (R438). -/
def execDistributeWaitEnd (s : State) : Result :=
  match s.upd.dist with
  | some d =>
    match d.joinT with
    | some t =>
      if d.waiting && s.upd.phase == .distribute && coreRuns s then
        let s := s.reach (t + 6000000000)
        let d := { d with waiting := false }
        if s.upd.distOnce then .next (distSweep s d)
        else
          .next { s with upd := { s.upd with
            distOnce := true, dist := some { d with toSend := neededSectors s.upd.metaSectors s.upd.blocks } } }
      else .next s
    | none => .next s
  | none => .next s

/-- The body of a RELAY frame (Table UPD-8). -/
def relayBody (s : State) (sector round : Nat) : List Byte :=
  [0x05, 0x01] ++ leBytes 2 s.upd.rseq ++ lineIdBytes s ++ s.upd.ident.take 8 ++ leBytes 2 sector ++ leBytes 2 round ++
    List.replicate 12 0 ++ stagedSector s sector

/-- RELAY_SEND: the next sector of the round leaves in a RELAY frame, at most one in 5 ms and only where the gap holds it;
after the round's last one its sweep begins (R438). -/
def execRelaySend (s : State) : Result :=
  match s.upd.dist with
  | some d =>
    match d.toSend with
    | n :: r =>
      if s.upd.phase == .distribute && !d.waiting && coreRuns s then
        let now := match s.upd.relayT with
          | some t => s.reach (t + 5000000)
          | none => s
        if gapRoom now < 4128 then .next s
        else
          let s := now
          let s := emit s .b (relayBody s n d.round) none
          let d := { d with toSend := r }
          let s := { s with upd := { s.upd with rseq := (s.upd.rseq + 1) % 65536, relayT := some s.time.line, dist := some d } }
          .next (if r.isEmpty then distSweep s d else s)
      else .next s
    | [] => .next s
  | none => .next s

end Sys2Proof.Machine
end

