-- ==== Sys2Proof/Machine/Sync.lean ====
section
/-! DEFINITION. Sync: what a device does with a SYNC frame that it sends or that passes it (R40 to R46, R56 to R59), and the
declaration of a backwards node (R92). -/

namespace Sys2Proof.Machine

open Sys2Proof

/-! ### The body (Table TIM-5) -/

/-- A SYNC frame that a device acts on: length, VERSION and reserved flags (R41, R11). -/
def syncOk (b : List Byte) : Bool := b.length == 32 && byteAt b 0 == 4 && byteAt b 1 == 1 && byteAt b 4 < 4

/-- SEQ. -/
def syncSeq (b : List Byte) : Nat := fieldAt b 2 2

/-- ORIGIN is the anchor. -/
def syncAnchor (b : List Byte) : Bool := byteAt b 4 % 2 == 1

/-- TAKEOVER. -/
def syncTake (b : List Byte) : Bool := natBits (byteAt b 4) 1 1 == 1

/-- The fields of a writer without a valid HOP_RTT (R42). -/
def hopInvalid (s : State) : List Byte := leBytes 2 (devPos s) ++ leBytes 10 0 ++ leBytes 4 0xFFFFFFFF

/-- The fields HOP_POS to HOP_RTT of the writer for SYNC m, from what it holds of SYNC m − 1 (R42). In a takeover the anchor's
PLL is not LOCKED, so it writes an invalid HOP_RTT throughout: DEDUCED, log 93. -/
def hopFields (s : State) (seq : Nat) : List Byte :=
  let bad := hopInvalid s
  match s.time.prev with
  | none => bad
  | some m =>
    match m.t1, m.t4 with
    | some t1, some t4 =>
      if (m.seq + 1) % 65536 == seq && s.time.pll == .locked && s.mode.lineEngine && t1 ≤ t4 && t4 - t1 < 0xFFFFFFFF then
        leBytes 2 (devPos s) ++ leBytes 8 (t1 / 256 * 4) ++ leBytes 2 (t1 % 256) ++ leBytes 4 (t4 - t1)
      else bad
    | _, _ => bad

/-- The SYNC frame as it leaves a device that processes it; the terminating device, which turns it, writes an invalid HOP_RTT
(R42, R55). -/
def syncPass (s : State) (b : List Byte) (turned : Bool) : List Byte :=
  if byteAt b 1 == 1 then overwrite b 6 (if turned then hopInvalid s else hopFields s (syncSeq b)) else b

/-! ### A backwards node (R92) -/

/-- The node declares itself backwards (R92). -/
def declareBackwards (s : State) : State :=
  let s := { s with link := { s.link with backwards := true }, time := { s.time with refB := true, prev := none } }
  let s := reacquire (refreshMode s)
  let s := post (s.reason 0x0405) 0x43 3 (linkStatWord s)
  let body := noticeBody 0xFFF 3 false 3 s.time.line
  ownFrame (ownFrame s .a body) .b body

/-- A frame of a kind that only comes from the starter ended in EOF-good at port p: `seen` says that one has at port A
since it entered UP (R92). -/
def backwardsCheck (s : State) (p : Port) (seen : Bool) : State :=
  if p == .b && s.mode.role == .node && !s.link.backwards && !seen && s.mode.lineEngine then declareBackwards s else s

/-! ### At EOF-good (R43, R44, R58, R59) -/

/-- The sample of SYNC m, if the device holds SYNC m − 1 (R43, R45). -/
def trySample (s : State) (b : List Byte) (readings : List Word) : State :=
  match s.time.prev with
  | none => s
  | some m =>
    match m.t2, m.t3 with
    | some t2, some t3 =>
      if (m.seq + 1) % 65536 == syncSeq b && m.epoch == byteAt b 5 && m.anchor == syncAnchor b &&
          fieldAt b 18 4 != 0xFFFFFFFF then
        sample s (fieldAt b 8 8 * 64 + fieldAt b 16 2) (fieldAt b 18 4) t2 t3 m.corr readings
      else s
    | _, _ => s

/-- A SYNC frame of the time source ended in EOF-good on its outbound pass: epoch, interval, sample, and the timestamps
kept for the next one (R43, R44, R50). The first EPOCH_T heard since power-on reset is taken without an epoch change: DESIGN
CHOICE, log 94. -/
def syncUp (s : State) (b : List Byte) (f : LineFrame) (turned : Bool) (readings : List Word) : State :=
  let e := byteAt b 5
  let s := if e == s.time.epochT then s
    else if s.time.syncN.isNone && s.time.tstate == .unsync && !s.time.epochDue then { s with time := { s.time with epochT := e } }
    else epochChange s e
  let corr := s.time.corr + slewDone s.time
  let mark : SyncMark :=
    { seq := syncSeq b, epoch := e, anchor := syncAnchor b, t1 := if turned then none else some f.tout
      t2 := some f.tin, t3 := if turned then some f.tout else none, t4 := none, corr }
  let s := { s with time := { s.time with
    syncN := some (fieldAt b 22 2), syncT := s.time.line, missed := 0, starterHeard := !syncAnchor b } }
  let s := trySample s b readings
  { s with time := { s.time with prev := some mark } }

/-- The inbound pass of the same frame: t3 and t4 (R42). -/
def syncBack (s : State) (b : List Byte) (f : LineFrame) : State :=
  match s.time.prev with
  | some m =>
    if m.seq == syncSeq b && m.anchor == syncAnchor b && m.t3.isNone then
      { s with time := { s.time with prev := some { m with t3 := some f.tout, t4 := some f.tin } } }
    else s
  | none => s

/-- The own frame of a time source came back: t4, and the round trip (R40). -/
def syncOwn (s : State) (b : List Byte) (f : LineFrame) : State :=
  match s.time.prev with
  | some m =>
    match m.t1 with
    | some t1 =>
      if m.seq == syncSeq b && t1 ≤ f.tin then
        { s with time := { s.time with prev := some { m with t4 := some f.tin }, ownRtt := some (f.tin - t1) } }
      else s
    | none => s
  | none => s

/-- The time source changes between starter and anchor (R58, R59). -/
def sourceTo (s : State) (anchor : Bool) : State :=
  reacquire { s with time := { s.time with refB := anchor, originAnchor := anchor, prev := none } }

/-- The node receives the starter's SYNC frames: port A is UP and the running interval of the last one has not passed (R44,
R59). -/
def hearsStarter (s : State) : Bool :=
  s.time.starterHeard && isUp s .a &&
  (match s.time.syncN with
   | some n => decide (s.time.line < s.time.syncT + n * periodNs s)
   | none => false)

/-- A SYNC frame ended in EOF-good at a NODE, in port p (R43, R58, R59). An anchor's at port B is not used while the starter's
are heard; one without TAKEOVER that is used changes the origin outside R58, an epoch change (R50). -/
def syncNode (s : State) (p : Port) (f : LineFrame) (turned : Bool) (readings : List Word) : State :=
  let b := f.body
  match p, syncAnchor b with
  | .a, false =>
    let s := if s.time.originAnchor then sourceTo s false else s
    syncUp s b f turned readings
  | .b, true =>
    if !s.time.originAnchor && hearsStarter s then s
    else
      let s := if s.time.originAnchor then s
        else if syncTake b then sourceTo s true
        else epochChange (sourceTo s true) (byteAt b 5)
      syncUp s b f turned readings
  | .a, true => if s.time.originAnchor then syncBack s b f else s
  | .b, false => if s.time.originAnchor then s else syncBack s b f

/-- A SYNC frame ended in EOF-good at the anchor's port A (R44, R166). -/
def syncAtAnchor (s : State) (f : LineFrame) (readings : List Word) : State :=
  let b := f.body
  if syncAnchor b then syncOwn s b f
  else if s.sta.anchor.takeover then
    { s with sta := { s.sta with anchor := { s.sta.anchor with ending := true } } }
  else syncUp s b f true readings

/-- What a port saw of starter SYNC frames (R72, R92). -/
def syncSeenAt (s : State) (p : Port) (b : List Byte) : State :=
  if syncAnchor b then s
  else s.onPort p (fun l => { l with syncSeen := true, sync00Seen := l.sync00Seen || !syncTake b })

/-- A SYNC frame ended in EOF-good at port p of the device. -/
def syncEof (s : State) (p : Port) (f : LineFrame) (turned : Bool) (readings : List Word) : State :=
  let b := f.body
  if !syncOk b then s
  else
    let s := if !syncAnchor b && !syncTake b then backwardsCheck s p s.link.a.sync00Seen else s
    let s := syncSeenAt s p b
    if !s.mode.lineEngine || s.link.backwards then s
    else
      match s.mode.role with
      | .node => syncNode s p f turned readings
      | .anchor => syncAtAnchor s f readings
      | .starter => if syncAnchor b then s else syncOwn s b f
      | .bench => s

/-! ### The time source (R40, R41, R44, R56) -/

/-- n of R40. -/
def syncEvery (s : State) : Nat :=
  let need := Nat.max 1000000 ((s.time.ownRtt.map (fun r => (r + 63) / 64 + 50000)).getD 0)
  Nat.max 1 (Nat.min 65535 ((need + periodNs s - 1) / periodNs s))

/-- The device sends SYNC frames: the starter from its first LINE_START, the anchor in a takeover (R40, R56). -/
def isSource (s : State) : Bool :=
  s.mode.lineEngine && !s.mode.logicReset &&
  ((s.mode.role == .starter && s.time.sending) || (s.mode.role == .anchor && s.sta.anchor.takeover))

/-- SYNC_N that the source writes (R44). -/
def ownSyncN (s : State) : Nat := if s.mode.role == .starter then syncEvery s else s.time.syncN.getD 1

/-- The body of the source's next SYNC frame (R41). -/
def ownSync (s : State) : List Byte :=
  [0x04, 0x01] ++ leBytes 2 s.time.srcSeq ++ [if s.mode.role == .anchor then 3 else 0, byte s.time.epochT] ++
    hopFields s s.time.srcSeq ++ leBytes 2 (ownSyncN s) ++ leBytes 8 0

/-- Time on the wire of the first heat of a cycle with the shortest gap behind it, ns; 0 where no heats run (R40, R66). -/
def firstHeatNs (s : State) : Nat :=
  if heatsRun s then
    match (s.sta.plan.map (fun v => v.heats.find? (fun d => d.order == 0))).join with
    | some d => (d.len + 32 + 16) * 8
    | none => 0
  else 0

/-- The source has sent a SYNC frame from which n cycles are counted: the starter since power-on reset, the anchor in this
takeover (R40, R44). -/
def sentBefore (s : State) : Bool := if s.mode.role == .starter then s.time.firstSent else s.time.prev.isSome

/-- The cycle of the source's next SYNC frame: n after the last, and for the first the next whose launch instant has not
passed (R40). -/
def syncCycle (s : State) : Nat :=
  let p := periodNs s
  let l := launchAt s 0
  if sentBefore s then (s.time.syncT - l) / p + ownSyncN s else (s.time.line - l + p - 1) / p

/-- The instant at which the SYNC frame of its cycle departs: at k·P + L, or in the first gap behind the cycle's first heat
(R40). -/
def syncDue (s : State) : Nat := launchAt s (syncCycle s) + firstHeatNs s

/-- SYNC_SEND: the source's next SYNC frame leaves in its cycle (R40). Where HEAT_LAUNCH has carried line time behind the last heat,
its departure is still that of the first gap. -/
def execSyncSend (s : State) : Result :=
  if !isSource s then .next s
  else
    let due := syncDue s
    let s := s.reach due
    let t1 := if heatsRun s then due * 64 + s.time.frac else lineUnits s.time
    let out : Port := if s.mode.role == .starter then .b else .a
    let b := ownSync s
    let mark : SyncMark :=
      { seq := s.time.srcSeq, epoch := s.time.epochT, anchor := s.mode.role == .anchor, t1 := some t1
        t2 := none, t3 := none, t4 := none, corr := 0 }
    let s := { s with time := { s.time with
      srcSeq := (s.time.srcSeq + 1) % 65536, firstSent := true, syncT := t1 / 64 / 4 * 4, prev := some mark } }
    .next (emit s out b none)

end Sys2Proof.Machine
end

