-- ==== Sys2Proof/Machine/Starter.lean ====
section
/-! DEFINITION. Starter: what a starter or an anchor sends in a cycle and does with what comes back (R144 to R148, R154 to R160,
R163): the heats, the OUT publication, the IN images, the topology, the batons and their responses. -/

namespace Sys2Proof.Machine

open Sys2Proof

/-! ### The OUT publication (R145) -/

/-- The device launches heats: the starter once its line has started, the anchor in a takeover with heats (R149, R164). -/
def mayLaunch (s : State) : Bool :=
  heatsRun s || (s.mode.role == .starter && s.sta.stage = .first && s.mode.lineEngine && !s.mode.logicReset &&
    s.mode.mode != .minimal)

/-- The cycle whose launch, `lead` ns before it, comes next. -/
def nextCycle (s : State) (lead : Nat) : Nat :=
  let p := periodNs s
  let l := launchAt s 0
  match s.sta.sampled with
  | some k => k
  | none => Nat.max (s.sta.cycle + 1) ((s.time.line + lead + p - 1 - l) / p)

/-- OUT_PUB is sampled for cycle k: a changed sequence adopts the buffer named, else REPEAT_OUT sends the last again, else NO_OUT
is set (R145). -/
def samplePub (s : State) (k : Nat) : State :=
  let pub := outPub s
  let t := { s.sta with sampled := some k }
  if pub / 65536 != s.sta.pubSeq then
    { s with sta := { t with pubSeq := pub / 65536, outBuf := pub % 2, adopted := true, noOut := false } }
  else
    let again := (s.sta.plan.map (fun v => v.flags % 2 == 1)).getD false && s.sta.adopted
    { s with sta := { t with noOut := !again } }

/-- A LINE_STOP takes effect at the end of its cycle: heats and batons end (R149). -/
def stopDone (s : State) : State :=
  match s.sta.stopping with
  | some (p, d) =>
    let s := s.reach s.sta.stopT
    let s := match s.sta.starting with
      | some (q, e) => complete { s with sta := { s.sta with starting := none } } q e outRefused 0x0421
      | none => s
    complete { s with sta := { s.sta with stage := .idle, stopping := none, sampled := none } } p d outOk 0
  | none => s

/-- A LINE_STOP takes effect at or before an instant. -/
def stopBy (s : State) (t : Nat) : Bool := s.sta.stopping.isSome && decide (s.sta.stopT ≤ t)

/-- OUT_PUB_SAMPLE: 2 µs before the launch of the next cycle (R145). -/
def execOutPubSample (s : State) : Result :=
  if !mayLaunch s || s.sta.sampled.isSome then .next s
  else
    let k := nextCycle s 2000
    let t := launchAt s k - 2000
    if stopBy s t then .next (stopDone s) else .next (samplePub (s.reach t) k)

/-! ### Heats (R99, R144, Table CYC-2) -/

/-- The heats of a plan with their indices, in ascending ORDER. -/
def sendOrder (v : Plan) : List (Nat × HeatDesc) :=
  let l := mapFrom 0 (fun h d => (h, d)) v.heats
  (List.range l.length).filterMap (fun o => l.find? (fun x => x.2.order == o))

/-- The heats that this device sends: in a takeover only those with a position at or above the notifying node (R164). -/
def launchList (s : State) (v : Plan) : List (Nat × HeatDesc) :=
  match s.mode.role, s.sta.anchor.trigger with
  | .anchor, some q => (sendOrder v).filter (fun x => q == 4096 || q < x.2.first + x.2.count)
  | _, _ => sendOrder v

/-- The OUT bytes of a position in the adopted buffer; before any adoption they are open (log 3). -/
def outSlot (s : State) (v : Plan) (t : TopoSlot) : List Byte :=
  if s.sta.adopted then memBytes s.mem (outBufAt s.sta.outBuf (packedOut v t.pos)) t.outLen
  else (upTo t.outLen).map (fun i => Config.freeByte s.free (32 * t.pos + i))

/-- The payload of heat h (R145). -/
def heatPayload (s : State) (v : Plan) (h len : Nat) : List Byte :=
  (v.slots.filter (fun t => t.heat == h)).foldl
    (fun b t => overwrite (overwrite b t.outOfs (outSlot s v t)) t.inOfs (List.replicate t.inLen 0xFF))
    (List.replicate len 0)

/-- The body of heat h of cycle k (Table CYC-2, R144). -/
def heatBody (s : State) (v : Plan) (h : Nat) (d : HeatDesc) (k : Nat) : List Byte :=
  let flags := b2n (liveMoving s) + 2 * b2n s.sta.noOut + 4 * b2n (s.mode.role == .anchor)
  [0x01, 0x01, byte (h + 16 * (v.heats.length - 1)), byte k] ++ leBytes 4 k ++ leBytes 2 d.first ++ leBytes 2 d.count ++
    leBytes 2 d.len ++ [byte flags, 0] ++ leBytes 8 (k * periodNs s + applyOfs s) ++ lineIdBytes s ++ leBytes 4 0 ++
    heatPayload s v h d.len

/-- Time on the wire of heats, each with the gap of R99 behind it, ns. -/
def heatsNs (l : List (Nat × HeatDesc)) : Nat := l.foldl (fun n x => n + (x.2.len + 32 + 8 + 380) * 8) 0

/-- The port out of which the device sends (R15). -/
def sendPort (s : State) : Port := if s.mode.role == .anchor then .a else .b

/-- The cycle status words at a launch (Table STA-6). -/
def launchStatus (s : State) (k : Nat) : State :=
  let s := s.store 0xE0080 (leBytes 4 k ++ [byte (s.sta.outBuf + 128 * b2n s.sta.noOut)])
  s.store (0xE0088 + 8 * (k % 2)) (leBytes 4 k ++ leBytes 2 0)

/-- The IN buffer of a cycle's parity takes a new cycle. -/
def setIn (s : State) (c : InCyc) : State :=
  if c.cycle % 2 == 0 then { s with sta := { s.sta with in0 := some c } } else { s with sta := { s.sta with in1 := some c } }

/-- The IN buffer of a parity. -/
def inAt (s : State) (parity : Nat) : Option InCyc := if parity == 0 then s.sta.in0 else s.sta.in1

/-- The COUNT frame that is due leaves (R150, R155, Table STA-9). -/
def countBody (s : State) : List Byte :=
  let gaps := posIn s 1 ++ posIn s 4
  let bits := (upTo 512).map (fun i => byte ((gaps.filter (fun p => p / 8 == i)).foldl (fun a p => a + 2 ^ (p % 8)) 0))
  [0x03, 0x01, if s.sta.assign then 1 else 0, 0] ++ lineIdBytes s ++ leBytes 2 s.sta.enumSeq ++ List.replicate 22 0 ++ bits ++
    List.replicate 136 0

/-- A COUNT frame leaves port B (R150). -/
def countSend (s : State) : State :=
  let s := emitMore s .b (countBody s)
  { s with sta := { s.sta with countDue := false, counting := true, countT := s.time.line, enumSeq := (s.sta.enumSeq + 1) % 65536 } }

/-- A COUNT frame is to leave: in the gap behind the heats where heats run, else at once (R155, Table STA-9). -/
def countAsk (s : State) (assign : Bool) : State :=
  let s := { s with sta := { s.sta with assign, counting := true, countDue := true } }
  if heatsRun s || s.sta.stage = .first then s else countSend (s.onPort .b (fun q => { q with sent := [] }))

/-- A line start settles or counts: SYNC frames only, but for its own COUNT (Table STA-9). -/
def startsUp (s : State) : Bool := s.sta.stage = .settle || s.sta.stage = .count

/-- A VERIFY COUNT that is due is asked for: with the core running, no COUNT out, and no line start before its heats (R155, Table
STA-9). -/
def verifyCheck (s : State) : State :=
  if s.sta.verifyDue && !s.sta.counting && !startsUp s && coreRuns s && s.mode.role == .starter then
    countAsk { s with sta := { s.sta with verifyDue := false, countTries := 0 } } false
  else s

/-- The next ENUM that waits sends its COUNT, once none is out and no line start counts (Table STA-2, R150; log 51). -/
def enumNext (s : State) : State :=
  match s.sta.enumWaits with
  | (p, d) :: r =>
    if s.sta.counting || startsUp s || !coreRuns s then s
    else
      countAsk { s with sta := { s.sta with enumWaits := r, enumFor := some (p, d), countTries := 0 } } (d.sub % 2 == 1)
  | [] => s

/-- The OUT image of a launch that OUT_PUB_SAMPLE has not sampled yet. -/
def launchSample (s : State) (k : Nat) : State := if s.sta.sampled.isSome then s else samplePub s k

/-- The heats l of cycle k are sent, and the cycle is in flight (R144 to R147). -/
def launchHeats (s : State) (v : Plan) (k : Nat) (l : List (Nat × HeatDesc)) : State :=
  let s := launchStatus (emitAll s (sendPort s) (l.map (fun x => wholeFrame (heatBody s v x.1 x.2 k) none))) k
  let s := { s with free := s.free + b2n (!s.sta.adopted) }
  let s := setIn s { cycle := k, plan := v, back := [], sent := l.map (·.1), due := !l.isEmpty, mirrored := false }
  { s with sta := { s.sta with cycle := k, sampled := none, batons := 0,
                               stage := if s.sta.stage = LineStage.first then LineStage.running else s.sta.stage } }

/-- The LINE_START that waits for the first launch completes. -/
def launchAnswer (s : State) : State :=
  match s.sta.starting with
  | some (p, d) => complete { s with sta := { s.sta with starting := none } } p d outOk 0
  | none => s

/-- OUT_TAKEN of cycle k, and what waits for the end of its heats l: the check of the positions and a COUNT (R148). -/
def launchEnd (s : State) (k : Nat) (l : List (Nat × HeatDesc)) : State :=
  let s := s.reach (launchAt s k + heatsNs l - 3040)
  let s := if isUp s (sendPort s) && !l.isEmpty then post s 0xE0 (k / 65536) (word k) else s
  let s := verifyCheck (enumNext (s.reach (launchAt s k + heatsNs l)))
  if s.sta.countDue then countSend s else s

/-- The launch of cycle k, whole: its heats leave in ascending ORDER, OUT_TAKEN is posted behind the last, and LINE_START
completes at the first (R144, R148, Table STA-9). Line time ends behind the gap of the last heat. -/
def launch (s : State) (v : Plan) (k : Nat) : State :=
  let s := launchSample s k
  let l := launchList s v
  launchEnd (launchAnswer (launchHeats s v k l)) k l

/-- HEAT_LAUNCH: at k·P + L the heats of cycle k leave (R144). -/
def execHeatLaunch (s : State) : Result :=
  match s.sta.plan with
  | none => .next s
  | some v =>
    let k := nextCycle s 0
    if !mayLaunch s then .next s
    else if stopBy s (launchAt s k) then .next (stopDone s)
    else .next (launch (s.reach (launchAt s k)) v k)

/-! ### Pings (R157, R158) -/

/-- A ping run begins for a position that has none. -/
def pingStart (s : State) (pos : Nat) : State :=
  if s.sta.pings.any (fun r => r.pos == pos) then s
  else { s with sta := { s.sta with pings := s.sta.pings ++ [{ pos, tries := 0, outcome := none }] } }

/-- The state with the ping run of a position changed. -/
def onPing (s : State) (pos : Nat) (f : PingRun → PingRun) : State :=
  { s with sta := { s.sta with pings := s.sta.pings.map (fun r => if r.pos == pos then f r else r) } }

/-- A ping was lost: the next one follows, or the position does not answer (R157). -/
def pingLost (s : State) (pos : Nat) : State :=
  let limit := (s.sta.plan.map (fun v => v.pingTries)).getD 1
  onPing s pos (fun r => { r with tries := r.tries + 1, outcome := if limit ≤ r.tries + 1 then some false else r.outcome })

/-- The pings that runs still need join the list; a BEYOND position is not pinged (R159). -/
def pingAsk (s : State) : State :=
  let life := (s.sta.plan.map (fun v => v.pingLife)).getD 20
  eachNo ((s.sta.pings.filter (fun r => r.outcome.isNone && !asking s .ping r.pos && topoState s r.pos != 5)).map (·.pos))
    (fun s p => askLine s (newLine .ping p 0x01 life false [])) s

/-- IN_LEN of a position in the latched plan, 0 for a position without a slot. -/
def posInLen (s : State) (pos : Nat) : Nat :=
  ((s.sta.plan.bind (fun v => v.slots.find? (fun t => t.pos == pos))).map (fun t => t.inLen)).getD 0

/-- What the outcome of a ping does to a position (R157, R158). A position that a heat has settled meanwhile keeps its state. -/
def pingSettle (s : State) (pos : Nat) (ok : Bool) : State :=
  let slotless := posInLen s pos == 0
  match topoState s pos with
  | 3 => if ok then topoTo s pos 2 true (topoMiss s pos) else topoTo s pos 4 (topoNoslot s pos) (topoMiss s pos)
  | 4 => if ok then topoTo s pos 2 (!slotless || topoNoslot s pos) (topoMiss s pos) else s
  | 2 =>
    if !slotless then s
    else if ok then topoTo s pos 2 (topoNoslot s pos) 0
    else topoTo s pos 4 (topoNoslot s pos) (topoMiss s pos)
  | _ => s

/-- PING_OUTCOME: the ping of a position was answered, or its last one was lost; the core settles it (R157, R158). -/
def execPingOutcome (pos : Nat) (s : State) : Result :=
  match s.sta.pings.find? (fun r => r.pos == pos) with
  | some r =>
    match r.outcome with
    | some ok =>
      if coreRuns s then
        .next (pingSettle { s with sta := { s.sta with pings := s.sta.pings.filter (fun x => x.pos != pos) } } pos ok)
      else .next s
    | none => .next s
  | none => .next s

/-! ### IN images (R147, R148, R156, R163) -/

/-- IN_READY once every heat is back (R147). -/
def readyCheck (s : State) (c : InCyc) : State :=
  if c.due && c.sent.all (fun h => c.back.contains h) then
    post (setIn s { c with due := false }) 0xE1 (c.cycle % 2 + 2 * b2n c.mirrored) (word c.cycle)
  else setIn s c

/-- The heat's bit of IN_GOOD is set (R147). -/
def markIn (s : State) (c : InCyc) (h : Nat) : State :=
  let a := 0xE008C + 8 * (c.cycle % 2)
  s.store a (leBytes 2 (memNat s a 2 ||| 2 ^ h))

/-- The IN slots of a good heat are copied into the IN buffer, and its bit of IN_GOOD is set (R147). -/
def copyIn (s : State) (c : InCyc) (h : Nat) (b : List Byte) : State :=
  markIn ((c.plan.slots.filter (fun t => t.heat == h)).foldl
    (fun s t => s.store (inBufAt (c.cycle % 2) (packedIn c.plan t.pos)) ((b.drop (32 + t.inOfs)).take t.inLen)) s) c h

/-- The IN image of a lost heat's positions is filled with 0xFF (R147). -/
def fillIn (s : State) (c : InCyc) (h : Nat) : State :=
  (c.plan.slots.filter (fun t => t.heat == h)).foldl
    (fun s t => s.store (inBufAt (c.cycle % 2) (packedIn c.plan t.pos)) (List.replicate t.inLen 0xFF)) s

/-- HEAT_LOST (R148); a mirrored cycle posts none. -/
def heatLost (s : State) (c : InCyc) (h origin : Nat) : State :=
  let s := fillIn s c h
  if c.mirrored then s else post s 0xE2 h (word origin)

/-- MISS of a position grows, and as it reaches SILENT_LIMIT a position with a slot becomes SILENT and is pinged, one without is pinged (R156
to R158). -/
def topoMissed (s : State) (limit pos : Nat) (slot : Bool) : State :=
  let was := topoMiss s pos
  let n := satAdd 255 was 1
  let st := topoState s pos
  if slot then
    if st == 2 && was < limit && limit ≤ n then pingStart (topoTo s pos 3 (topoNoslot s pos) n) pos
    else topoPut s pos st (topoNoslot s pos) n
  else if st == 2 then
    let s := topoPut s pos st (topoNoslot s pos) n
    if limit ≤ n then pingStart s pos else s
  else s

/-- The topology follows a heat that returned good (R156, R158). -/
def topoHeat (s : State) (c : InCyc) (h : Nat) (b : List Byte) : State :=
  (c.plan.slots.filter (fun t => t.heat == h)).foldl
    (fun s t =>
      let st := topoState s t.pos
      if st != 2 && st != 3 && st != 4 then s
      else if t.inLen == 0 then topoMissed s c.plan.silent t.pos false
      else if natBits (fieldAt b (32 + t.inOfs) 2) 11 1 == 0 then topoTo s t.pos 2 false 0
      else topoMissed s c.plan.silent t.pos true) s

/-- The cycle a returned heat belongs to, with its heat index, if that heat is still awaited. -/
def heatOf (s : State) (b : List Byte) : Option (InCyc × Nat) :=
  match inAt s (fieldAt b 4 4 % 2) with
  | some c =>
    let h := heatIdx b
    if c.cycle % 2 ^ 32 == fieldAt b 4 4 && c.sent.contains h && !c.back.contains h then some (c, h) else none
  | none => none

/-- A heat that this device sent came back in EOF-good: its IN slots, IN_GOOD, the topology at the starter, the cycles counted in
CONFIRM, and IN_READY (R147, R156, 18 Table UPD-11). -/
def heatBack (s : State) (b : List Byte) : State :=
  match heatOf s b with
  | none => s
  | some (c, h) =>
    let s := copyIn s c h b
    let starter := s.mode.role == .starter
    let s := if starter then topoHeat s c h b else s
    let last := (c.plan.heats[h]?.map (fun d => d.order + 1 == c.plan.heats.length)).getD false
    let s := if starter && last && s.upd.phase == .confirm then { s with upd := { s.upd with good := s.upd.good + 1 } } else s
    readyCheck s { c with back := h :: c.back }

/-- The heats of a cycle that may still come back: those sent behind the last one accounted for. -/
def stillOut (c : InCyc) : List Nat :=
  match c.back with
  | [] => c.sent
  | h :: _ => (c.sent.dropWhile (fun x => x != h)).drop 1

/-- The heat that comes back next: heats come back in the order in which they were sent (R70), so no field of a poisoned one
is needed to tell which it is (R78; DEDUCED, log 50). -/
def nextHeat (s : State) : Option (InCyc × Nat) :=
  let l := (s.sta.in0.toList ++ s.sta.in1.toList).filter (fun c => c.due && !c.mirrored && !(stillOut c).isEmpty)
  let c := match l with
    | [a, b] => some (if a.cycle ≤ b.cycle then a else b)
    | _ => l.head?
  c.bind (fun c => (stillOut c).head?.map (fun h => (c, h)))

/-- A heat that this device sent came back poisoned (R147, R148); nothing of it is used but its poison origin (R78). -/
def heatPoisoned (s : State) (origin : Nat) : State :=
  match nextHeat s with
  | none => s
  | some (c, h) => readyCheck (heatLost s c h (origin % 65536)) { c with back := h :: c.back }

/-- IN buffer half of a cycle k that the anchor first sees a heat of: opened for that cycle, its number written and
no heat valid yet. -/
def mirrorOpen (s : State) (v : Plan) (k : Nat) : State :=
  if (inAt s (k % 2)).any (fun c => c.cycle == k) then s
  else
    (setIn s { cycle := k, plan := v, back := [], sent := (sendOrder v).map (·.1), due := true, mirrored := true }).store
      (0xE0088 + 8 * (k % 2)) (leBytes 4 k ++ leBytes 2 0)

/-- A starter heat ended in EOF-good at the anchor's turn: its IN slots are mirrored (R163). A plan latched at LINE_START says
where they lie. -/
def heatMirror (s : State) (b : List Byte) : State :=
  let s := { s with sta := { s.sta with anchor := { s.sta.anchor with lastHeat := some s.time.line } } }
  match s.sta.plan with
  | none => s
  | some v =>
    let s := mirrorOpen s v (widen (fieldAt b 4 4) (cycleNow s)).toNat
    match heatOf s b with
    | none => s
    | some (c, h) => if c.mirrored then readyCheck (copyIn s c h b) { c with back := h :: c.back } else s

/-- The older cycle whose IN_READY is due. -/
def oldestDue (s : State) : Option InCyc :=
  let l := (s.sta.in0.toList ++ s.sta.in1.toList).filter (fun c => c.due)
  match l with
  | [a, b] => some (if a.cycle ≤ b.cycle then a else b)
  | _ => l.head?

/-- IN_READY_DEADLINE: at (k + 1)·P + L the heats of cycle k that have not returned are filled with 0xFF and reported, and
IN_READY is posted (R147). -/
def execInReadyDeadline (s : State) : Result :=
  match oldestDue s with
  | none => .next (if stopBy s s.time.line then stopDone s else s)
  | some c =>
    if s.mode.logicReset then .next s
    else
      let s := s.reach ((c.cycle + 1) * periodNs s + c.plan.launch)
      let lost := c.sent.filter (fun h => !c.back.contains h)
      let s := eachNo lost (fun s h => heatLost s c h 0xFFFF) s
      let s := readyCheck s { c with back := lost ++ c.back }
      .next (if stopBy s s.time.line then stopDone s else s)

/-! ### Gun-time scheduling over the line (R161) -/

/-- Every PRESENT position that is not known to be armed. -/
def gunOpen (s : State) (g : GunRun) : List Nat := (posIn s 2).filter (fun p => !g.armed.contains p)

/-- The reads that the gun schedule still needs join the list: CFG_STAT of positions not known to be armed until G − 4·P, and
of the positions of the closing sweep (R161). -/
def gunAsk (s : State) : State :=
  match s.sta.gun, s.sta.plan with
  | some g, some v =>
    let read := fun (for_ : LineTxnFor) (s : State) (p : Nat) =>
      if asking s for_ p then s else askLine s (newLine for_ p 0x02 v.pingLife false [0x24])
    match g.closing with
    | some l => eachNo l (read .gunClose) s
    | none =>
      if g.cancelled || s.time.line + 4 * periodNs s > g.g || asking s .gunBcast 4095 then s
      else eachNo ((gunOpen s g).filter (fun p => !asking s .gunWrite p)) (read .gunRead) s
  | _, _ => s

/-- The entries of REG_WRITE that set GUN_T0 to GUN_T3 and ask for the gun swap (R161). -/
def gunWrites (g : Nat) : List Byte :=
  let e := fun (a v : Nat) => [byte a, 0] ++ leBytes 2 v
  e 0x26 g ++ e 0x28 (g / 65536) ++ e 0x2A (g / 2 ^ 32) ++ e 0x2C (g / 2 ^ 48) ++ e 0x22 0x0030

end Sys2Proof.Machine
end

