-- ==== Sys2Proof/Machine/Returns.lean ====
section
/-! DEFINITION. Returns: the batons of a starter or an anchor and what their responses do (R160, R161, R462): placement, retry,
loss, and the users of line transactions. -/

namespace Sys2Proof.Machine

open Sys2Proof

/-! ### The end of a gun schedule (R161) -/

/-- GUN_SCHEDULE ends: its records that wait are dropped but for a running cancel. -/
def gunEnd (s : State) (outcome result : Nat) : State :=
  match s.sta.gun with
  | none => s
  | some g =>
    let txns := s.sta.txns.filter (fun t =>
      t.for_ != .gunBcast && t.for_ != .gunRead && t.for_ != .gunWrite && t.for_ != .gunClose)
    complete { s with sta := { s.sta with gun := none, txns } } g.path g.d outcome result

/-- Numbers of positions swapped, refused and unanswered in BUF1, and the outcome (R161, Table HBU-9). -/
def gunFinish (s : State) (g : GunRun) : State :=
  let none_ := g.total - g.swapped - g.refused
  let s := s.store (apertureBase + g.d.off1) (leBytes 2 g.swapped ++ leBytes 2 g.refused ++ leBytes 2 none_)
  gunEnd { s with sta := { s.sta with gun := some g } } outOk g.swapped

/-- A position of the closing sweep has answered with CFG_STAT, or does not answer (R161). -/
def gunClosed (s : State) (pos : Nat) (stat : Option Nat) : State :=
  match s.sta.gun with
  | none => s
  | some g =>
    let left := (g.closing.getD []).filter (fun p => p != pos)
    let yes := match stat with
      | some w => natBits w 6 1 == 1
      | none => false
    let g := { g with closing := some left, swapped := g.swapped + b2n yes, refused := g.refused + b2n (stat.isSome && !yes) }
    if left.isEmpty then gunFinish s g else { s with sta := { s.sta with gun := some g } }

/-- A position has answered with CFG_STAT before the gun time: armed, or it gets the entries once more (R161). -/
def gunHeard (s : State) (pos stat : Nat) : State :=
  match s.sta.gun, s.sta.plan with
  | some g, some v =>
    if natBits stat 5 1 == 1 then { s with sta := { s.sta with gun := some { g with armed := pos :: g.armed } } }
    else if s.time.line + 4 * periodNs s ≤ g.g && !asking s .gunWrite pos then
      askLine s (newLine .gunWrite pos 0x03 v.pingLife false (gunWrites g.g))
    else s
  | _, _ => s

/-! ### Responses (R160, R162, R438, R462) -/

/-- POS_BIND of a pending position has its outcome (R154). -/
def bindHeard (s : State) (pos : Nat) (ok : Bool) : State :=
  if ok then
    let s := topoFlags s pos (natBits (topoW3 s pos) 12 1 == 1) false
    postTopo (topoPut s pos 2 (topoNoslot s pos) 0) pos
  else postTopo s pos

/-- A response as it is written into the response buffer: unsealed (R160). -/
def plainBytes (r data : List Byte) : List Byte :=
  [byte 0xA5, byte (byteAt r 1)] ++ leBytes 2 (fieldAt r 2 2 - 4096 * (fieldAt r 2 2 / 4096 % 2)) ++
    [byte (byteAt r 4), byte (byteAt r 5)] ++ leBytes 2 data.length ++ data

/-- The response to a line transaction goes to its user, with its status and its plain data. -/
def lineAnswered (s : State) (t : LineTxn) (r data : List Byte) : State :=
  let st := byteAt r 5
  let ok := fun (n : Nat) => if st == 0 && data.length == n then some data else none
  match t.for_ with
  | .host p d =>
    let b := plainBytes r data
    complete (s.store (apertureBase + d.off1) b) p d outOk (b.length + 65536 * st)
  | .ping => onPing s t.dest (fun q => { q with outcome := some true })
  | .bind => bindHeard s t.dest (st == 0)
  | .gunRead => if st == 0 && data.length == 2 then gunHeard s t.dest (leNat data) else s
  | .gunClose => gunClosed s t.dest ((ok 2).map leNat)
  | .pull block part =>
    match ok 256 with
    | some d => pullPart s block part d
    | none => pullStep (pullMissed s block part)
  | .map => distMap s t.dest (ok 38)
  | .status => distStatus s t.dest (ok 8)
  | _ => s

/-- A line transaction gets no response within the limit of R160. -/
def lineLost (s : State) (t : LineTxn) : State :=
  match t.for_ with
  | .host p d => complete s p d outLost 0
  | .ping => pingLost s t.dest
  | .bind => bindHeard s t.dest false
  | .gunClose => gunClosed s t.dest none
  | .pull block part => pullStep (pullMissed s block part)
  | .map => distMap s t.dest none
  | .status => distStatus s t.dest none
  | _ => s

/-- A filled pocket came back: it answers the transaction of its source and tag. DUP_TAG keeps that waiting; an unsolicited
response answers none (R129, R139, R160, R462). -/
def pocketBack (s : State) (r : List Byte) : State :=
  let w := fieldAt r 2 2
  if natBits w 13 1 == 1 || byteAt r 5 == 0x01 then s
  else
    match findLine s (w % 4096) (byteAt r 1) with
    | none => s
    | some t =>
      if t.op != byteAt r 4 then s
      else
        match responseData s t r with
        | (s, none) => s
        | (s, some data) => lineAnswered (endLine s t.dest t.tag) t r data

/-- The filled pockets of a region, in order. -/
def pocketsBack (n size : Nat) (region : List Byte) (s : State) : State :=
  match n with
  | 0 => s
  | k + 1 =>
    let s := match pocketResponse (region.take size) with
      | some r => pocketBack s r
      | none => s
    pocketsBack k size (region.drop size) s

/-- A baton that this device sent came back in EOF-good (R119, R160). -/
def batonBack (s : State) (b : List Byte) : State :=
  if batonHeaderOk b (cfgF s 3 0xB 0 32) then
    pullStep (pocketsBack (byteAt b 6) (16 * byteAt b 5) (b.drop (32 + fieldAt b 8 2)) s)
  else s

/-! ### The commands (R160) -/

/-- The POS_BIND of a consistent pending position joins the list, once there is room (R154). -/
def bindOne (s : State) (p : Nat) : State :=
  if lineFull s then s
  else
    let life := (s.sta.plan.map (fun v => v.pingLife)).getD 20
    let s := { s with sta := { s.sta with binds := s.sta.binds.filter (fun q => q != p) } }
    addLine s (newLine .bind p 0x22 life true ([0, 0] ++ leBytes 2 p))

/-- The POS_BINDs that wait join the list (R154). -/
def bindAsk (s : State) : State := eachNo s.sta.binds bindOne s

/-- The device's own line transactions join the list: pings, gun reads, blocks of a pull, maps (R157, R161, R162, R438). -/
def ownAsk (s : State) : State :=
  if coreRuns s then distAsk (pullAsk (pullStep (gunAsk (pingAsk (bindAsk s))))) else s

/-- Sealed records that can no longer be sealed complete REFUSED (R459). -/
def dropUnsealable (s : State) : State :=
  if sealedStopped s then
    let dead := s.sta.txns.filter (fun t => t.sealed && t.sealed_.isNone)
    let s := { s with sta := { s.sta with txns := s.sta.txns.filter (fun t => !(t.sealed && t.sealed_.isNone)) } }
    dead.foldl (fun s t => match t.for_ with
      | .host p d => complete s p d outRefused 0x0421
      | .bind => bindHeard s t.dest false
      | _ => s) s
  else s

/-- The cancel of a gun schedule ends at G − 2·P (R161). -/
def dropCancel (s : State) : State :=
  match s.sta.gun with
  | some g =>
    if g.cancelled && g.g ≤ s.time.line + 2 * periodNs s then
      { s with sta := { s.sta with gun := none, txns := s.sta.txns.filter (fun t => !isCancel t) } }
    else s
  | none => s

/-- Broadcasts that have left in their third baton end: SENT, or the wait of a distribution (R160, R438). -/
def bcastEnds (s : State) : State :=
  let done := s.sta.txns.filter (fun t => t.dest == 4095 && !t.queued)
  let s := { s with sta := { s.sta with txns := s.sta.txns.filter (fun t => !(t.dest == 4095 && !t.queued)) } }
  done.foldl (fun s t => match t.for_ with
    | .host p d => complete s p d outSent 0
    | .join => distJoined s
    | _ => s) s

/-- Pockets of a baton: as many of the plan's as leave room for the first record that waits (R117, R160). -/
def pocketCount (s : State) (v : Plan) (room : Nat) : Nat :=
  let first := ((s.sta.txns.find? (wantsBaton s)).map (fun t => recordLen t.data.length t.sealed)).getD 0
  let left := if 32 + first ≤ room then room - 32 - first else room - 32
  Nat.min v.pockets (left / (16 * Nat.max 1 v.pocketSize))

/-- A baton leaves in a gap of `room` bytes with the records that wait and empty pockets (R99, R160). -/
def sendBaton (s : State) (v : Plan) (room : Nat) : State :=
  let s := dropUnsealable (dropCancel (ownAsk s))
  let n := pocketCount s v room
  let lim : Room := { bytes := room - 32 - 16 * v.pocketSize * n, pockets := n, quota := v.quota }
  let f := placeAll lim { s, count := 0, bytes := [], uni := [], stop := false } s.sta.txns
  let s := emit f.s (sendPort s) (batonBody f.s f v.pocketSize n v.quota) none
  let s := { s with sta := { s.sta with bseq := (s.sta.bseq + 1) % 65536, batons := s.sta.batons + 1 } }
  bcastEnds s

/-- BATON_SEND: a baton leaves in the gap behind the heats with the records that wait and empty pockets (R99, R160). -/
def execBatonSend (s : State) : Result :=
  match s.sta.plan with
  | none => .next s
  | some v =>
    if !heatsRun s || v.batonMax ≤ s.sta.batons || gapRoom s < 32 then .next s else .next (sendBaton s v (gapRoom s))

/-- TXN_RETRY: a unicast record is unanswered at the end of the second cycle after its departure, and waits for a baton again
(R160). -/
def execTxnRetry (dest tag : Nat) (s : State) : Result :=
  match findLine s dest tag with
  | some t =>
    if t.queued || dest == 4095 || 4 ≤ t.sends || s.mode.logicReset then .next s
    else
      let s := s.reach ((t.lastT / periodNs s + 3) * periodNs s)
      if retryFits s t then .next (setLine s { t with queued := true }) else .next s
  | none => .next s

/-- TXN_LOST: no response by the first departure + LIFE × 100 µs + P (R160). -/
def execTxnLost (dest tag : Nat) (s : State) : Result :=
  match findLine s dest tag with
  | some t =>
    match t.sentT with
    | some d =>
      if dest == 4095 || s.mode.logicReset then .next s
      else
        let s := s.reach (d + t.life * 100000 + periodNs s)
        .next (lineLost (endLine s dest tag) t)
    | none => .next s
  | none => .next s

end Sys2Proof.Machine
end

