-- ==== Sys2Proof/Machine/Master.lean ====
section
/-! DEFINITION. Master: the commands of a starter's and an anchor's host (Table STA-2, R141): line start and stop, enumeration,
line transactions, gun schedules, relay pulls and takeovers, and the events that carry them on. -/

namespace Sys2Proof.Machine

open Sys2Proof

/-! ### Shared checks (R141, chapter 06 Failures) -/

/-- A command is not executed, with a code. -/
def denyCmd (s : State) (p : Path) (d : Descriptor) (code : Nat) : State := complete s p d outRefused code

/-- A command that the core drives: REFUSED in a core reset, and a wake in REST (chapter 06 Failures, Table MOD-11). -/
def coreTakes (s : State) (p : Path) (d : Descriptor) (f : State → State) : State :=
  if s.mode.coreReset then denyCmd s p d 0x0422 else f (wake s 6)

/-! ### Line start and stop (R149, Table STA-9) -/

/-- The starter's line stands idle: no start, stop or heats. -/
def lineIdle (s : State) : Bool :=
  s.sta.stage = .idle && s.sta.waiting.isNone && s.sta.starting.isNone && s.sta.stopping.isNone

/-- A COUNT frame that has not come back within two cycles is lost: a round trip keeps within P (R116), and the spec says nothing
more of it: DESIGN CHOICE, log 51. -/
def countLost (s : State) : Bool :=
  s.sta.counting && !s.sta.countDue && decide (s.sta.countT + 2 * periodNs s ≤ s.time.line)

/-- A lost COUNT is given up: its ENUM completes REFUSED, and so does the line start that waits for it; log 51. -/
def dropLost (s : State) : State :=
  if countLost s then
    let s := refuseFor { s with sta := { s.sta with counting := false } } s.sta.enumFor 0x0424
    let s := { s with sta := { s.sta with enumFor := none } }
    if s.sta.stage = .count then startAbandon s 0x0424 else s
  else s

/-- LINE_START at the starter: the plan is latched, SYNC frames start, and the line settles once port B is UP (R143, R149). -/
def starterStart (s : State) (p : Path) (d : Descriptor) : State :=
  let s := dropLost s
  if !lineIdle s then denyCmd s p d 0x0421
  else
    match latchPlan s with
    | none => denyCmd s p d 0x0420
    | some s =>
      let s := { s with time := { s.time with sending := true }
                        sta := { s.sta with starting := some (p, d), waiting := some (p, d) } }
      if isUp s .b then settleBegin s else s

/-- LINE_START: the posting of its descriptor (R141, R149). -/
def execLineStart (via : Path) (d : Descriptor) (s : State) : Result :=
  postFrom s via d 2 (fun d s =>
    match s.mode.role with
    | .starter => coreTakes s via d (fun s => starterStart s via d)
    | .anchor =>
      match latchPlan s with
      | none => denyCmd s via d 0x0420
      | some s => complete { s with sta := { s.sta with anchor := { s.sta.anchor with started := true } } } via d outOk 0
    | _ => denyCmd s via d 0x0421)

/-- LINE_START_SETTLE: SETTLE_MS after the start the COUNT frame leaves (Table STA-9). -/
def execLineStartSettle (s : State) : Result :=
  if s.sta.stage = .settle && !s.mode.logicReset then
    let s := dropLost (s.reach s.sta.settleT)
    let assign := (s.sta.starting.map (fun x => x.2.sub % 2 == 1)).getD false
    .next (countAsk { s with sta := { s.sta with stage := .count, countTries := 0 } } assign)
  else .next s

/-- The end of the present cycle (R97). -/
def cycleEnd (s : State) : Nat := (cycleNow s + 1) * periodNs s

/-- LINE_STOP: heats and batons end with the present cycle; a start that has not reached its heats is abandoned (R149). -/
def execLineStop (via : Path) (d : Descriptor) (s : State) : Result :=
  postFrom s via d 3 (fun d s =>
    match s.mode.role with
    | .starter =>
      let s := dropLost s
      if s.sta.stopping.isSome then denyCmd s via d 0x0421
      else if s.sta.stage = .first || s.sta.stage = .running then
        { s with sta := { s.sta with stopping := some (via, d), stopT := cycleEnd s } }
      else
        let s := enumNext (startAbandon s 0x0421)
        complete (s.reach (cycleEnd s)) via d outOk 0
    | .anchor =>
      let s := s.reach (cycleEnd s)
      complete { s with sta := { s.sta with anchor := { s.sta.anchor with heats := false } } } via d outOk 0
    | _ => denyCmd s via d 0x0421)

/-! ### Enumeration (R150, R154) -/

/-- ENUM: a COUNT frame leaves in the next gap, behind one that is out and behind that of a line start (R150, Table STA-2). -/
def execEnum (via : Path) (d : Descriptor) (s : State) : Result :=
  postFrom s via d 4 (fun d s =>
    if s.mode.role != .starter then denyCmd s via d 0x0421
    else
      coreTakes s via d (fun s =>
        let s := dropLost s
        enumNext { s with sta := { s.sta with enumWaits := s.sta.enumWaits ++ [(via, d)] } }))

/-- The reports of a returned COUNT: position, kind, status. -/
def reports (b : List Byte) : List (Nat × Nat × Nat) :=
  (upTo (Nat.min 32 (byteAt b 550))).map (fun i =>
    (fieldAt b (552 + 4 * i) 2 % 4096, byteAt b (554 + 4 * i), byteAt b (555 + 4 * i)))

/-- A counted position that no report names: PRESENT; one that the plan holds OPEN stays OPEN with its event (R154, chapter 06
Close finishes). -/
def tallyPos (s : State) (p : Nat) : State :=
  if topoState s p == 0 then postTopo s p else topoTo s p 2 (topoNoslot s p) 0

/-- What a report does (R154). -/
def tallyReport (s : State) (r : Nat × Nat × Nat) : State :=
  let (p, kind, status) := r
  if p == 0 || 4094 < p then s
  else
    match kind with
    | 1 =>
      let s := topoFlags s p true (natBits (topoW3 s p) 13 1 == 1)
      if topoState s p == 0 then postTopo s p else s
    | 2 =>
      let s := topoFlags s p (natBits (topoW3 s p) 12 1 == 1) true
      match s.sta.plan with
      | some v =>
        if natBits v.flags 1 1 == 1 && status ≤ 1 then
          { s with sta := { s.sta with binds := s.sta.binds.filter (fun q => q != p) ++ [p] } }
        else postTopo s p
      | none => postTopo s p
    | _ => s

/-- The runs of a tally: each bound node counts one on from its predecessor, but a node that disagrees goes on from its own
position (Table STA-11). For each run its first position less one, and the highest position that a report of it names. -/
def tallyRuns (base top : Nat) (rs : List (Nat × Nat × Nat)) : List (Nat × Nat) :=
  match rs with
  | [] => [(base, top)]
  | (p, kind, _) :: r => if kind == 1 then (base, top) :: tallyRuns p p r else tallyRuns base p r

/-- The positions of a run from its base to its top. -/
def runPos (x : Nat × Nat) : List Nat := (List.range (x.2 - x.1)).map (fun i => x.1 + 1 + i)

/-- The last run reaches LAST_POS. -/
def closeLast (l : List (Nat × Nat)) (last : Nat) : List (Nat × Nat) :=
  match l with
  | [] => []
  | [(b, t)] => [(b, Nat.max t last)]
  | x :: r => x :: closeLast r last

/-- The runs of a COUNT body, as far as it tells them: the last ends at LAST_POS, the first of two by the number of DEVICES; of more,
only what the reports name is known. With reports lost nothing more is known than they name: DEDUCED, log 51. -/
def countedRuns (b : List Byte) : List (Nat × Nat) :=
  let l := tallyRuns 0 0 (reports b)
  let last := Nat.min 4094 (fieldAt b 544 2 % 4096)
  if byteAt b 551 != 0 then l
  else
    match closeLast l last with
    | [(b0, t0), (b1, t1)] => [(b0, Nat.max t0 (fieldAt b 548 2 - 1 - (t1 - b1))), (b1, t1)]
    | l => l

/-- The tally of a COUNT frame that came back good (R154). -/
def tally (s : State) (b : List Byte) : State :=
  let s := eachNo (allPos.filter (fun p => 4096 ≤ topoW3 s p)) (fun s p => topoFlags s p false false) s
  let rs := reports b
  let bound := (countedRuns b).flatMap runPos
  let s := eachNo (bound.filter (fun p => p ≤ 4094 && !rs.any (fun r => r.1 == p))) tallyPos s
  rs.foldl tallyReport s

/-- The COUNT frame came back good: tally, ENUM_DONE, the ENUM command, and the next step of a line start (R154, R157, Table
STA-9). -/
def countBack (s : State) (b : List Byte) : State :=
  if !s.sta.counting || s.sta.countDue || (fieldAt b 8 2 + 1) % 65536 != s.sta.enumSeq then s
  else
    let devices := fieldAt b 548 2
    let reps := byteAt b 550
    let s := tally { s with sta := { s.sta with counting := false } } b
    let s := post s 0xE4 reps (word devices)
    let s := match s.sta.enumFor with
      | some (p, d) =>
        let s := if d.len1 == 136 then s.store (apertureBase + d.off1) ((b.drop 544).take 136) else s
        complete { s with sta := { s.sta with enumFor := none } } p d outOk (devices + 65536 * reps)
      | none => s
    let s := if s.sta.stage = .count then
        eachNo (posIn s 4) pingStart { s with sta := { s.sta with stage := .first, cycle := cycleNow s, sampled := none } }
      else s
    verifyCheck (enumNext s)

/-- The COUNT frame came back poisoned: sent again up to 3 times, and then REFUSED (R154). -/
def countPoisoned (s : State) : State :=
  if !s.sta.counting || s.sta.countDue then s
  else if s.sta.countTries < 3 then
    countAsk { s with sta := { s.sta with countTries := s.sta.countTries + 1 } } s.sta.assign
  else
    let s := refuseFor { s with sta := { s.sta with counting := false } } s.sta.enumFor 0x0424
    let s := { s with sta := { s.sta with enumFor := none } }
    verifyCheck (enumNext (if s.sta.stage = .count then startAbandon s 0x0424 else s))

/-! ### Line transactions (R160) -/

/-- A position can be reached: not OPEN and not BEYOND; 4095 is every device (R160). -/
def reachable (s : State) (dest : Nat) : Bool :=
  dest == 4095 || (dest != 0 && topoState s dest != 0 && topoState s dest != 5)

/-- LINE_TXN: the posting of a line transaction (R141, R160); LIFE 0 and a seal that sealed traffic stopped or suspended cannot give
are refused with 0x0421 of the line class: DESIGN CHOICE, log 51. -/
def execLineTxn (via : Path) (d : Descriptor) (s : State) : Result :=
  postFrom s via d 5 (fun d s =>
    let dest := d.arg0 % 4096
    let sealed := natBits d.arg0 12 1 == 1
    if !hasPlan s then denyCmd s via d 0x0421
    else if d.arg1 == 0 then denyCmd s via d 0x0421
    else if lineFull s then denyCmd s via d 0x0425
    else if !reachable s dest then complete s via d outUnreachable 0
    else if sealed && sealedOff s then denyCmd s via d 0x0421
    else
      addLine s (newLine (.host via d) dest d.sub d.arg1 sealed (memBytes s.mem (apertureBase + d.off0) d.len0)))

/-! ### Gun-time scheduling (R161) -/

/-- GUN_SCHEDULE at the starter: its own swap and the broadcast. -/
def gunStart (s : State) (v : Plan) (g : Nat) (p : Path) (d : Descriptor) : State :=
  let s := swapRequest { s with cfg := { s.cfg with gun := BitVec.ofNat 64 g } } 3
  let r : GunRun := { g, all := d.sub % 2 == 1, armed := [], cancelled := false, closing := none, total := 0, swapped := 0,
                      refused := 0, path := p, d }
  addLine { s with sta := { s.sta with gun := some r } } (newLine .gunBcast 4095 0x03 v.pingLife false (gunWrites g))

/-- GUN_SCHEDULE: the posting of its descriptor (R141, R161). -/
def execGunSchedule (via : Path) (d : Descriptor) (s : State) : Result :=
  postFrom s via d 6 (fun d s =>
    if s.mode.role != .starter || s.sta.gun.isSome then denyCmd s via d 0x0421
    else
      coreTakes s via d (fun s =>
        match s.sta.plan with
        | none => denyCmd s via d 0x0420
        | some v =>
          let g := memNat s (apertureBase + d.off0) 8
          if g < s.time.line + v.gunLead * periodNs s then denyCmd s via d 0x0423 else gunStart s v g via d))

/-- GUN_CUTOFF: at G − 4·P an ALL_OR_NONE schedule with a PRESENT position that is not armed is cancelled (R161). -/
def execGunCutoff (s : State) : Result :=
  match s.sta.gun, s.sta.plan with
  | some g, some v =>
    if g.cancelled || g.closing.isSome || g.g ≤ s.time.line || !coreRuns s then .next s
    else
      let s := s.reach (g.g - 4 * periodNs s)
      if g.all && !(gunOpen s g).isEmpty then
        let s := gunEnd { s with cfg := { s.cfg with armed := none } } outCancelled 0
        .next (addLine { s with sta := { s.sta with gun := some { g with cancelled := true } } }
          (newLine .gunCancel 4095 0x03 v.pingLife false [0x22, 0, 0x40, 0]))
      else .next s
  | _, _ => .next s

/-- GUN_CLOSING_SWEEP: after G every PRESENT position is asked for its CFG_STAT (R161). -/
def execGunClosingSweep (s : State) : Result :=
  match s.sta.gun with
  | some g =>
    if g.cancelled || g.closing.isSome || !coreRuns s then .next s
    else
      let s := s.reach g.g
      let l := posIn s 2
      let txns := s.sta.txns.filter (fun t => t.for_ != .gunRead && t.for_ != .gunWrite && t.for_ != .gunBcast)
      let g := { g with closing := some l, total := l.length }
      let s := { s with sta := { s.sta with gun := some g, txns } }
      .next (if l.isEmpty then gunFinish s g else s)
  | none => .next s

/-! ### Relay pull (R162, R431) -/

/-- The code with which a RELAY_PULL is refused, 0 when it is taken (R162, R426, R431). -/
def pullRefusal (s : State) : Nat :=
  let size := (s.sta.plan.map (fun v => v.pocketSize)).getD 0
  if s.mode.role != .starter || (s.mode.mode != .setup && s.mode.mode != .safe) then 0x0421
  else if size != 19 then 0x0420
  else if (s.upd.phase != .idle && s.upd.phase != .pull) || s.sta.pull.isSome then 0x0910
  else if lockEngaged s then 0x0601
  else if s.mode.holdLow then 0x0602
  else 0

/-- RELAY_PULL: the posting of its descriptor; it opens a PULL session, or goes on in one (R162, Table UPD-3). -/
def execRelayPull (via : Path) (d : Descriptor) (s : State) : Result :=
  postFrom s via d 7 (fun d s =>
    if s.mode.role != .starter then denyCmd s via d 0x0421
    else
      coreTakes s via d (fun s =>
        let code := pullRefusal s
        if code != 0 then denyCmd s via d code
        else if !reachable s (d.arg0 % 65536) || 4094 < d.arg0 then complete s via d outUnreachable 0
        else
          let r : PullRun := { src := d.arg0, block := d.sub, left := d.arg1, tries := 0, parts := [], fails := [], failed := [],
                               pulled := 0, path := via, d }
          let s := if s.upd.phase == .idle then setPhase { s with upd := { s.upd with ended := 0, source := 2 } } .pull else s
          pullStep { s with sta := { s.sta with pull := some r } }))

/-! ### The anchor's takeover (R56, R59, R164, R166) -/

/-- The notifying position as TAKEOVER shows it. -/
def takeoverPos (s : State) : Word :=
  match s.sta.anchor.trigger with
  | some q => if q == 4096 then 0xFFF else word q
  | none => 0xFFF

/-- The conditions of R164. -/
def takeoverMay (s : State) : Bool :=
  let flags := (s.sta.plan.map (fun v => v.flags)).getD 0
  s.mode.role == .anchor && !s.sta.anchor.takeover && !s.mode.logicReset && s.mode.lineEngine && natBits flags 3 1 == 1 &&
  (s.mode.mode == .run || s.mode.mode == .safe) && isUp s .a && s.sta.anchor.started && s.sta.anchor.fineSeen && s.sta.anchor.trigger.isSome

/-- A starter heat ended in EOF-good at the turn during the 8 cycles before the trigger (R164). -/
def heatsBefore (s : State) : Bool :=
  match s.sta.anchor.lastHeat with
  | some t => decide (s.sta.anchor.triggerT ≤ t + 8 * periodNs s)
  | none => false

/-- TAKEOVER_START: the cycle boundary at which the conditions of R164 hold: R56, the heats, and TAKEOVER. -/
def execTakeoverStart (s : State) : Result :=
  if !takeoverMay s then .next s
  else
    let s := refLost (s.reach (cycleEnd s))
    let a := { s.sta.anchor with takeover := true, heats := heatsBefore s, ending := false }
    let s := { s with sta := { s.sta with anchor := a, cycle := cycleNow s - 1, sampled := none }
                      time := { s.time with originAnchor := true, prev := none } }
    .next (post s 0xE6 1 (takeoverPos s))

/-- The takeover ends: own frames stop, the time source is the starter again, and TAKEOVER is posted (R59, R166). -/
def takeoverStop (s : State) : State :=
  let pos := takeoverPos s
  let a := { s.sta.anchor with takeover := false, heats := false, trigger := none, ending := false }
  let s := { s with sta := { s.sta with anchor := a, sampled := none }
                    time := { s.time with originAnchor := false, prev := none } }
  let s := post (reacquire s) 0xE6 0 pos
  match s.sta.endFor with
  | some (p, d) => complete { s with sta := { s.sta with endFor := none } } p d outOk 0
  | none => s

/-- TAKEOVER_END: the host ends the takeover at the next cycle boundary (R166, Table STA-2). -/
def execTakeoverEnd (via : Path) (d : Descriptor) (s : State) : Result :=
  postFrom s via d 8 (fun d s =>
    if s.mode.role != .anchor || !s.sta.anchor.takeover || s.sta.endFor.isSome then denyCmd s via d 0x0421
    else
      { s with sta := { s.sta with endFor := some (via, d), anchor := { s.sta.anchor with ending := true } } })

/-- TAKEOVER_AUTO_END: the cycle boundary at which a takeover that is to end does so (R166). -/
def execTakeoverAutoEnd (s : State) : Result :=
  if s.sta.anchor.takeover && s.sta.anchor.ending && !s.mode.logicReset then .next (takeoverStop (s.reach (cycleEnd s)))
  else .next s

/-! ### Notices (R83, R155, R159, R164) -/

/-- A position is pinged no more: its run ends, and a ping that waits leaves the list (R159). -/
def pingDrop (s : State) (p : Nat) : State :=
  { s with sta := { s.sta with
    pings := s.sta.pings.filter (fun r => r.pos != p)
    txns := s.sta.txns.filter (fun t => !(t.for_ = .ping && t.dest == p && t.queued)) } }

/-- Positions above q that are not OPEN become BEYOND, and are not pinged (R159). -/
def beyond (s : State) (q : Nat) : State :=
  eachNo (allPos.filter (fun p => q < p && topoState s p != 0))
    (fun s p => pingDrop (topoTo s p 5 (topoNoslot s p) (topoMiss s p)) p) s

/-- Positions above q that are BEYOND become SILENT and are pinged (R159). -/
def rejoin (s : State) (q : Nat) : State :=
  eachNo (allPos.filter (fun p => q < p && topoState s p == 5))
    (fun s p => pingStart (topoTo s p 3 (topoNoslot s p) (topoMiss s p)) p) s

/-- A notice at the starter: event 0 engaged, 1 released, 2 bypass inserted, 3 wiring; one from position 0xFFF changes no topology
entry (R155, R159). -/
def starterNotice (s : State) (pos : Nat) (portB : Bool) (event : Nat) : State :=
  let bound := pos != 0xFFF
  match event with
  | 0 => if portB && bound then beyond s pos else s
  | 1 =>
    let s := if portB && bound then rejoin s pos else s
    if natBits ((s.sta.plan.map (fun v => v.flags)).getD 0) 2 1 == 1 then
      let s := { s with sta := { s.sta with verifyDue := true } }
      if heatsRun s || s.sta.stage = .first then s else verifyCheck (dropLost s)
    else s
  | 2 =>
    if pos != 0 && pos ≤ 4094 && (topoState s pos == 3 || topoState s pos == 4) then
      pingStart (topoTo s pos 3 (topoNoslot s pos) 0) pos
    else s
  | _ => s

/-- LOOP_NOTICE (Table REG-11). -/
def postNotice (s : State) (pos : Nat) (portB engaged : Bool) (argx : Nat) : State :=
  post s 0xE5 argx (word (pos % 4096 + 4096 * b2n portB + 8192 * b2n engaged))

/-- A notice ordered set caused at port A triggers the anchor (R164). -/
def anchorNotice (s : State) (pos : Nat) (portB engaged : Bool) : State :=
  if engaged && !portB && s.sta.anchor.trigger.isNone then
    { s with sta := { s.sta with anchor := { s.sta.anchor with trigger := some pos, triggerT := s.time.line } } }
  else s

/-- A notice ordered set at port p: the starter and the anchor check it and act; a node that holds LOOP_B notes the time of an
engaged one (R83, R85, R159, R164). -/
def noticeSetIn (s : State) (p : Port) (n0 n1 n2 : Byte) : State :=
  let pos := n0.toNat + 256 * (n1.toNat % 16)
  let portB := natBits n1.toNat 4 1 == 1
  let engaged := natBits n1.toNat 5 1 == 1
  match s.mode.role with
  | .starter =>
    if p == .b && noticeValid n0 n1 n2 then
      starterNotice (postNotice s pos portB engaged 0xFF) pos portB (if engaged then 0 else 1)
    else s
  | .anchor =>
    if p == .a && noticeValid n0 n1 n2 then anchorNotice (postNotice s pos portB engaged 0xFF) pos portB engaged else s
  | .node =>
    if engaged && noticeValid n0 n1 n2 then
      let s := s.onPort p (fun l => { l with noticeT := some s.time.line })
      if p == .b then lapseRel s .b else s
    else s
  | .bench => s

/-- LOOPBACK_NOTICE_SET: a notice ordered set passes the device; it leaves by the other end of the device's stream (R82, R83). In a
logic reset the forwarding engine of a node still notes an engaged one (R22, R85). -/
def execLoopbackNoticeSet (p : Port) (n0 n1 n2 : Byte) (s : State) : Result :=
  if !isUp s p || s.mode.porst then .next s
  else
    let s := match route s p (s.time.line * 64) with
      | some (some q) => s.onPort q (fun l => { l with notice := [n0, n1, n2] })
      | _ => s
    .next (if s.mode.logicReset && s.mode.role != .node then s else noticeSetIn s p n0 n1 n2)

end Sys2Proof.Machine
end

