-- ==== Sys2Proof/Machine/Media.lean ====
section
/-! DEFINITION. Media: the removable medium (chapter 17): its identification, its file systems and candidates, the reader of a
session, and its removal. -/

namespace Sys2Proof.Machine

open Sys2Proof

/-! ### Identification (R413, R414, R419) -/

/-- MEDIA_STAT.KIND of an SD card by the steps of Table IMG-7; 7 when a step fails (R414). -/
def cardKind (a : SdAnswers) : Nat :=
  let v2 := a.cmd8 == 1 && a.echo == 0x1AA
  let v1 := natBits a.cmd8 2 1 == 1
  let ccs := natBits a.ocr 30 1 == 1
  let power := natBits a.ocr 31 1 == 1 && natBits a.ocr 20 2 == 3
  if a.locked || a.cmd0 != 1 || !(v2 || v1) || a.cmd59 != 1 || !a.acmd41 || !power ||
      !(a.csd == 1 || a.csd == 2) || (!v2 && ccs) then 7
  else if ccs then 2
  else if a.cmd16 == 0 then 1
  else 7

/-! ### FAT32 (R417, R418); the places of the fields are those of the FAT format: PRESUMED, log 21 -/

/-- The disk that an identification reads: sectors by number; a sector that did not read good is not there. -/
abbrev Disk := List (Nat × List Byte)

/-- A sector of the disk. -/
def diskSector (d : Disk) (n : Nat) : Option (List Byte) := (d.find? (fun x => x.1 == n)).map (·.2)

/-- A sector ends in 0x55, 0xAA. -/
def sectorSigned (b : List Byte) : Bool := byteAt b 510 == 0x55 && byteAt b 511 == 0xAA

/-- A volume as R417 accepts it. -/
structure Fat where
  /-- First sector of the first FAT. -/
  fat : Nat
  /-- First sector of the data clusters. -/
  data : Nat
  /-- Sectors per cluster. -/
  spc : Nat
  /-- Root cluster. -/
  root : Nat
deriving DecidableEq, Repr

/-- The data clusters of a volume whose first sector is b. -/
def dataClusters (b : List Byte) : Nat :=
  (fieldAt b 32 4 - (fieldAt b 14 2 + byteAt b 16 * fieldAt b 36 4)) / byteAt b 13

/-- The first sector of a partition meets R417. -/
def volumeOk (b : List Byte) : Bool :=
  sectorSigned b && fieldAt b 11 2 == 512 && [1, 2, 4, 8, 16, 32, 64, 128].contains (byteAt b 13) &&
  1 ≤ fieldAt b 14 2 && (byteAt b 16 == 1 || byteAt b 16 == 2) && fieldAt b 17 2 == 0 && fieldAt b 22 2 == 0 &&
  fieldAt b 36 4 != 0 && 2 ≤ fieldAt b 44 4 && 65525 ≤ dataClusters b

/-- The volume of a disk of a capacity in sectors, when R417 holds; `none` inside for a rule that fails, `none` for a sector
that did not read. -/
def fatOf (d : Disk) (capacity : Nat) : Option (Option Fat) := do
  let m ← diskSector d 0
  let start := fieldAt m 454 4
  let size := fieldAt m 458 4
  let type := byteAt m 450
  if !(sectorSigned m && (type == 0x0B || type == 0x0C) && start < capacity && start + size ≤ capacity) then some none
  else do
    let b ← diskSector d start
    if volumeOk b then
      let fat := start + fieldAt b 14 2
      some (some { fat, data := fat + byteAt b 16 * fieldAt b 36 4, spc := byteAt b 13, root := fieldAt b 44 4 })
    else some none

/-- The cluster that follows a cluster in the first FAT: `none` inside at the chain's end, `none` for a sector that did not
read. -/
def nextCluster (d : Disk) (v : Fat) (c : Nat) : Option (Option Nat) := do
  let b ← diskSector d (v.fat + c / 128)
  let n := fieldAt b (4 * (c % 128)) 4 % 2 ^ 28
  if 2 ≤ n && n < 0x0FFFFFF7 then some (some n) else some none

/-- What one directory entry is: the end of the directory, an entry to skip, or a candidate (R418). -/
inductive DirEntry where
  | stop
  | skip
  | file (f : MediaFile)
deriving DecidableEq, Repr

/-- A directory entry of 32 bytes (R418). -/
def dirEntry (e : List Byte) : DirEntry :=
  let attr := byteAt e 11
  let len := fieldAt e 28 4
  if byteAt e 0 == 0 then .stop
  else if byteAt e 0 == 0xE5 || attr % 64 == 0x0F || natBits attr 3 2 != 0 ||
      (e.drop 8).take 3 != [0x4D, 0x5A, 0x49] || len == 0 then .skip
  else .file { name := e.take 11, len, start := fieldAt e 26 2 + 65536 * fieldAt e 20 2 }

/-- The candidates among directory entries, and whether the directory stops there. -/
def dirFiles (l : List (List Byte)) : List MediaFile × Bool :=
  match l with
  | [] => ([], false)
  | e :: r =>
    match dirEntry e with
    | .stop => ([], true)
    | .skip => dirFiles r
    | .file f => let (g, stop) := dirFiles r; (f :: g, stop)

/-- The candidates of a directory from a sector of a cluster on, over at most `n` sectors of 16 entries; `none` when a sector
did not read (R418). -/
def dirWalk (d : Disk) (v : Fat) (n cluster sector : Nat) : Option (List MediaFile) :=
  match n with
  | 0 => some []
  | k + 1 => do
    let b ← diskSector d (v.data + (cluster - 2) * v.spc + sector)
    let (files, stop) := dirFiles (pieces 32 b)
    if stop then some files
    else if sector + 1 < v.spc then do
      let r ← dirWalk d v k cluster (sector + 1)
      some (files ++ r)
    else do
      let c ← nextCluster d v cluster
      match c with
      | none => some files
      | some c => do
        let r ← dirWalk d v k c 0
        some (files ++ r)

/-! ### The key directory (R420, Table IMG-10) -/

/-- The directory of a service key meets R420. -/
def keyDirOk (b : List Byte) : Bool :=
  b.take 4 == [0x4D, 0x5A, 0x4B, 0x44] && fieldAt b 4 2 == 1 && 1 ≤ fieldAt b 6 2 && fieldAt b 6 2 ≤ 8 &&
  fieldAt b 8 4 == crc32c ((b.drop 16).take 256)

/-- The candidates of a service key. -/
def keyFiles (b : List Byte) : List MediaFile :=
  ((upTo (fieldAt b 6 2)).map (fun i => (b.drop (16 + 32 * i)).take 32)).filterMap (fun e =>
    if (e.drop 8).take 3 == [0x4D, 0x5A, 0x49] && fieldAt e 16 4 != 0 then
      some { name := e.take 11, len := fieldAt e 16 4, start := fieldAt e 12 4 }
    else none)

/-- What an identification sets: KIND, FS_OK, the candidates, and whether a command or a read failed (R413 to R420). -/
def identOf (f : MediaFound) : Nat × Bool × List MediaFile × Bool :=
  match f with
  | .key false _ => (7, false, [], false)
  | .key true dir => if keyDirOk dir then (3, true, keyFiles dir, false) else (3, false, [], false)
  | .card a d =>
    match cardKind a with
    | 7 => (7, false, [], true)
    | k =>
      match fatOf d a.capacity with
      | none => (k, false, [], true)
      | some none => (k, false, [], false)
      | some (some v) =>
        match dirWalk d v 256 v.root 0 with
        | none => (k, true, [], true)
        | some l => (k, true, l.take 8, false)

/-! ### The reader (R421, R422) -/

/-- The state with the reader changed. -/
def State.setReader (s : State) (r : Reader) : State := { s with media := { s.media with reader := some r } }

/-- The next staging sector to read: needed, missing, erased, in no buffer; a record only behind the metadata's checks
(R435). -/
def nextSector (s : State) : Option Nat :=
  s.upd.missing.find? (fun n => (s.upd.metaOk || n < 4) && stagingErased s n && !s.upd.bufs.any (fun b => b.1 == n))

/-- Every needed unit of the session is read. -/
def allRead (s : State) : Bool := s.upd.missing.all (fun n => s.upd.bufs.any (fun b => b.1 == n))

/-- MEDIA_STAT.IN_USE (R422). -/
def mediaInUse (s : State) : Bool :=
  match s.media.reader with
  | none => false
  | some r =>
    match r.at_ with
    | .rest _ => !allRead s
    | _ => true

/-- MEDIA_STAT (Table REG-19). -/
def mediaStatWord (s : State) : Word :=
  let m := s.media
  pack [(b2n m.present, 0), (m.kind, 1), (b2n m.fsOk, 4), (b2n (mediaInUse s), 5), (b2n m.removed, 6), (b2n m.err, 7),
    (m.cands.length, 8)]

/-- The reader wants a sector of the medium now. -/
def readerWants (s : State) : Bool :=
  s.media.present && !s.media.identDue && coreRuns s && !s.mode.pwrfail &&
  (match s.media.reader with
    | none => false
    | some r =>
      match r.at_ with
      | .choose c => c < s.media.cands.length
      | .find c => c < s.media.cands.length
      | .sector _ _ => s.upd.toErase.isEmpty && s.upd.bufs.length < 4
      | .rest _ => false)

/-- The reader's transfer joins the work of the master port, at rank 3 (R349). -/
def readerAsk (s : State) : State :=
  if readerWants s && !s.ser.waiting.contains .medium && s.ser.running != some .medium then serAdd s .medium else s

/-- The reader goes on to the next unit that the session needs. -/
def readerNext (s : State) : State :=
  match s.media.reader with
  | some r =>
    match r.at_ with
    | .rest c =>
      match nextSector s with
      | some n => readerAsk (s.setReader { r with at_ := .sector c n, buf := [], fails := 0, again := false })
      | none => s
    | _ => readerAsk s
  | none => s

/-- The three-part name of the chosen candidate, its SEC_VERSION and identity [31:0] enter the trace (R421). -/
def traceChosen (s : State) (f : MediaFile) (m : List Byte) : State :=
  let part := fun (k v : Nat) (s : State) => putTrace s (softSource s) 0x02 (v + k * 2 ^ 40)
  part 3 (leNat ((bdIdent m).take 4)) (part 2 (byteAt f.name 10 + 256 * bdSecVersion m)
    (part 1 (fieldAt f.name 5 5) (part 0 (fieldAt f.name 0 5) s)))

/-- Every candidate is judged: the best is taken, or the session is refused (R421). -/
def chooseEnd (s : State) (r : Reader) : State :=
  match r.best with
  | none => sessionFail s ((r.firstBad.map BitVec.toNat).getD 0x060B)
  | some (c, _, m) =>
    let s := traceChosen s (s.media.cands.getD c { name := [], len := 0, start := 0 }) m
    let s := openStaging s (bdIdent m) (bdMeta m) (bdBlocks m)
    readerNext (s.setReader { newReader s (.rest c) with meta_ := m })

/-- The choice goes on behind a candidate (R421). -/
def chooseStep (s : State) (r : Reader) (c : Nat) : State :=
  if c + 1 < s.media.cands.length then readerAsk (s.setReader { r with at_ := .choose (c + 1), buf := [], meta_ := [], fails := 0 })
  else chooseEnd s r

/-- A candidate fails with a REASON (R421). -/
def chooseBad (s : State) (r : Reader) (c code : Nat) : State :=
  chooseStep s (if r.firstBad.isNone then { r with firstBad := some (word code) } else r) c

/-- A candidate's metadata area is read: its structural and signature checks (R421). -/
def chooseJudge (s : State) (r : Reader) (c len : Nat) (m : List Byte) : State :=
  if !(structuralOk m (some len) && signatureOk m) then chooseBad s r c 0x0607
  else
    let better := match r.best with
      | none => true
      | some (_, v, _) => v < bdSecVersion m
    chooseStep s (if better then { r with best := some (c, bdSecVersion m, m) } else r) c

/-- The search goes on behind a candidate; without the bundle, the identification of R422 fails the session, and a removal goes
on waiting (R422, R423). -/
def findStep (s : State) (r : Reader) (c : Nat) : State :=
  let r := { r with at_ := .find (c + 1), buf := [], meta_ := [], fails := 0 }
  if c + 1 < s.media.cands.length then readerAsk (s.setReader r)
  else if r.again then sessionFail s 0x0608
  else s.setReader r

/-- A candidate's metadata area is read in the search: the session's bundle resumes (R423). -/
def findJudge (s : State) (r : Reader) (c len : Nat) (m : List Byte) : State :=
  if structuralOk m (some len) && bdIdent m == s.upd.ident then
    let s := { s with upd := { s.upd with mediaWait := false }, media := { s.media with removedT := none } }
    match nextSector s with
    | some n => readerAsk (s.setReader { r with at_ := .sector c n, buf := [], meta_ := [], fails := 0 })
    | none => s.setReader { r with at_ := .rest c, buf := [], meta_ := [], fails := 0, again := false }
  else findStep s r c

/-- A whole unit of a candidate's metadata area is read; the area goes on, or is judged. -/
def metaUnit (s : State) (r : Reader) (len : Nat) (judge : List Byte → State) : State :=
  let m := r.meta_ ++ r.buf
  if 1 ≤ bdMeta m && bdMeta m ≤ 3 && len == (bdMeta m + bdBlocks m) * 4096 && m.length < 4096 * bdMeta m then
    readerAsk (s.setReader { r with buf := [], meta_ := m, fails := 0 })
  else judge m

/-- A unit's read failed: again up to 3 times; then the candidate fails, or the medium is identified again once; then the
session fails (R422). -/
def readerFail (s : State) (r : Reader) : State :=
  let r := { r with buf := [], fails := r.fails + 1 }
  match r.at_ with
  | .choose c => if r.fails < 4 then readerAsk (s.setReader r) else chooseBad s r c 0x0608
  | .find c => if r.fails < 4 then readerAsk (s.setReader r) else findStep s r c
  | .sector _ _ =>
    if r.again then sessionFail s 0x0608
    else if r.fails < 4 then readerAsk (s.setReader r)
    else (State.setReader { s with media := { s.media with identDue := true } } { r with again := true })
  | .rest _ => s

/-- The checks of a unit for a staging sector: a record's block and manifest checks (R422). -/
def unitOk (s : State) (n : Nat) (b : List Byte) : Bool :=
  n < 4 || (blockOk (stagedMeta s) (n - 4) b && manifestOk (stagedMeta s) (n - 4) b)

/-- A whole unit for a staging sector is read (R422, R432). -/
def sectorUnit (s : State) (r : Reader) (c n : Nat) : State :=
  if !unitOk s n r.buf then readerFail s r
  else
    let s' := s.setReader { r with at_ := .rest c, buf := [], fails := 0, again := false }
    readerNext (if mayTake s n then takeSector s' n r.buf else s')

/-- The candidate that the reader works on, and where its unit in work begins. -/
def readerUnit (s : State) (r : Reader) : Option (MediaFile × Nat) :=
  let at_ := fun c o => (s.media.cands[c]?).map (fun f => (f, o))
  match r.at_ with
  | .choose c => at_ c r.meta_.length
  | .find c => at_ c r.meta_.length
  | .sector c n => at_ c (4096 * (if n < 4 then n - 1 else s.upd.metaSectors + n - 4))
  | .rest _ => none

/-- A sector of 512 bytes is read good for the reader (R415, R421 to R423). -/
def readerTake (s : State) (r : Reader) (bytes : List Byte) : State :=
  match readerUnit s r with
  | none => s
  | some (f, o) =>
    let want := Nat.min 4096 (f.len - o)
    let r := { r with buf := (r.buf ++ padTo 512 bytes).take want }
    if r.buf.length < want then readerAsk (s.setReader r)
    else
      match r.at_ with
      | .choose c => metaUnit s r f.len (chooseJudge s r c f.len)
      | .find c => metaUnit s r f.len (findJudge s r c f.len)
      | .sector c n => sectorUnit s r c n
      | .rest _ => s

/-- The medium's transfer ends: its data go to the reader, unless a removal or a new session made them stale; a read that failed
sets ERR (R415, R423, R424). -/
def mediumEnd (s : State) (ok : Bool) (bytes : List Byte) : State :=
  let s := { s with ser := { s.ser with running := none }, media := { s.media with err := s.media.err || !ok } }
  let s := match s.media.reader with
    | none => s
    | some r =>
      if r.stale then readerAsk (s.setReader { r with stale := false })
      else if ok then readerTake s r bytes
      else readerFail s r
  serRun s

/-! ### The rows -/

/-- MEDIA_INSERT: the debounced assertion of MEDIA_DET_N; a wake cause in REST (R412). -/
def execMediaInsert (s : State) : Result :=
  if s.media.present then .next s
  else .next (wake { s with media := { s.media with present := true, identDue := true, identT := s.time.line + 10000000 } } 0x08)

/-- The identification in a READ session: the search for its bundle, or the choice when none was chosen (R422, R423). -/
def identSession (s : State) : State :=
  match s.media.reader with
  | none => s
  | some r =>
    if s.upd.mediaWait && s.upd.metaSectors == 0 then
      if s.media.cands.isEmpty then s
      else
        let s := { s with upd := { s.upd with mediaWait := false }, media := { s.media with removedT := none } }
        readerAsk (s.setReader { newReader s (.choose 0) with stale := r.stale })
    else if s.upd.mediaWait || r.again then
      if s.media.cands.isEmpty then (if s.upd.mediaWait then s else sessionFail s 0x0608)
      else readerAsk (s.setReader { r with at_ := .find 0, buf := [], meta_ := [], fails := 0 })
    else s

/-- MEDIA_IDENTIFY: 10 ms after the insertion, or for the reader, the medium is identified and its candidates are found (R413,
R422). -/
def execMediaIdentify (found : MediaFound) (s : State) : Result :=
  if !(s.media.present && s.media.identDue && coreRuns s) || s.ser.running = some .medium then .next s
  else
    let s := s.reach s.media.identT
    let (kind, fsOk, cands, bad) := identOf found
    .next (identSession { s with media := { s.media with
      kind, fsOk, cands, identDue := false, err := s.media.err || bad } })

/-- MEDIA_REMOVE: the debounced release of MEDIA_DET_N (R412, R423). -/
def execMediaRemove (s : State) : Result :=
  if !s.media.present then .next s
  else
    let use := mediaInUse s
    let m := { s.media with present := false, kind := 0, fsOk := false, cands := [], identDue := false }
    let s' := { s with media := m, ser := { s.ser with waiting := s.ser.waiting.filter (fun j => j != .medium) } }
    match use, s.media.reader with
    | true, some r =>
      .next { s' with
        upd := { s.upd with mediaWait := true }
        media := { m with
          removed := true
          removedT := if s.upd.mediaWait then m.removedT else some s.time.line
          reader := some { r with at_ := if s.upd.metaSectors == 0 then .choose 0 else .find 0, buf := [], meta_ := [],
                                  fails := 0, again := false, best := none, firstBad := none
                                  stale := r.stale || s.ser.running = some .medium } } }
    | _, _ => .next s'

/-- MEDIA_SECTOR_READ: a sector read of the medium completes with its bytes, or fails (R415); the transfer runs in its rank on
the master port (R349). -/
def execMediaSectorRead (ok : Bool) (bytes : List Byte) (s : State) : Result :=
  let s := readerAsk (readerNext s)
  if s.ser.running = some .medium then .next (mediumEnd s ok bytes) else .next s

/-- MEDIA_ABSENCE_TIMEOUT: 10 minutes from the removal without the session's bundle (R423). -/
def execMediaAbsenceTimeout (s : State) : Result :=
  match s.media.removedT with
  | some t => if s.upd.mediaWait then .next (sessionFail (s.reach (t + 600000000000)) 0x060B) else .next s
  | none => .next s

end Sys2Proof.Machine
end

