-- ==== Sys2Proof/Machine/Modes.lean ====
section
/-! DEFINITION. Modes: the mode commands (R200, R234, R235, Tables MOD-3 and MOD-4), the power states (R244, R245), the holdup
measurement (R246) and the power loss (R139, R248, R249, Table MOD-12). -/

namespace Sys2Proof.Machine

open Sys2Proof

/-! ### The mode commands (Tables REG-6 and MOD-4) -/

/-- CMD of a command word (Table REG-5). -/
def cmdCode (w : Word) : Nat := bitsOf w 0 4

/-- A command word that R200 takes: bits [15:6] 0 and a code of Table REG-6; [5:4] is RESULT, which a write leaves. -/
def modeCodeOk (w : Word) : Bool := 1 ≤ cmdCode w && cmdCode w ≤ 8 && bitsOf w 6 10 == 0

/-- A command that needs the core is outstanding on some path (R244): a descriptor, one of the line transactions `held` or
at the crypto engine, or a calibration step, test-DAC diagnosis or PERSIST that a register write began (R194). -/
def coreWork (s : State) (held : List Txn) : Bool :=
  let core := fun (c : Nat) => c == 4 || c == 6 || c == 7 || (0x10 ≤ c && c ≤ 0x12)
  (s.bus.cmdHost.outst ++ s.bus.cmdSlave.outst).any (fun d => core d.code) ||
    (held ++ s.txn.opening).any (fun t => opcodeCore t.op) ||
    s.adc.calStep.isSome || s.adc.dac.isSome || s.trace.persist.isSome

/-- The update session is past staging (Table UPD-2). -/
def pastStaging (s : State) : Bool :=
  s.upd.phase == .prepare || s.upd.phase == .prepared || s.upd.phase == .activate

/-- The detail code with which a command given in mode m is refused, 0 when it is taken; `held` are the transactions held
besides the one that carries it (R194, R244, Table MOD-4). -/
def modeRefusalIn (m : Mode) (held : List Txn) (s : State) (c : Nat) : Nat :=
  if s.mode.coreReset then 0x14
  else
    match c with
    | 1 => if m == .run || m == .safe then 0 else 0x10
    | 2 =>
      if m != .setup then 0x10
      else if !s.mode.bootOk then 0x16
      else if s.mode.safeReq || s.mode.pwrfail || s.wdog.h.st == .expired then 0x11
      else if s.supply.barrierDown || s.mode.fieldReset then 0x12
      else if pastStaging s then 0x15
      else 0
    | 3 => if m == .minimal then 0x10 else 0
    | 4 => if m != .safe then 0x10 else if resumeOk s then 0 else 0x11
    | 5 => if m == .setup || m == .safe then 0 else 0x10
    | 6 => if m == .run then 0x10 else 0
    | 7 =>
      if m == .minimal then 0x10
      else if !cfgB s 1 4 1 then 0x13
      else if !s.mode.bootOk then 0x16
      else if s.upd.phase != .idle then 0x15
      else if s.cfg.busy.isSome || coreWork s held then 0x13
      else 0
    | _ => 0

/-- The detail code with which a command that a register write gives is refused in the present mode, 0 when it is taken. -/
def modeRefusal (s : State) (c : Nat) : Nat := modeRefusalIn s.mode.mode s.txn.held s c

/-- The effect of a command that is taken (Table MOD-4). -/
def modeEffect (s : State) (c : Nat) : State :=
  match c with
  | 1 => refresh (changeMode (if s.mode.mode == .safe then leaveSafe s else s) .setup)
  | 2 => enterRun s
  | 3 => trigger s 4 0x0901
  | 4 => enterRun (leaveSafe s)
  | 5 => coreEnter s .goMinimal
  | 6 => coreEnter s .reboot
  | 7 => if s.mode.rest then s else { s with mode := { s.mode with restPending := true } }
  | _ => wake s 1

/-- A command of Table REG-6 is taken or refused (R235): RESULT, and MODECMD_REF for a refusal. -/
def modeCommandIn (m : Mode) (held : List Txn) (s : State) (c : Nat) : State × Nat :=
  let d := modeRefusalIn m held s c
  if d != 0 then
    (post { s with mode := { s.mode with cmd := c, result := 3 } } 0x14 c (word (0x0900 + d)), 0x0900 + d)
  else (modeEffect { s with mode := { s.mode with cmd := c, result := 2 } } c, 0)

/-- A command that a register write gives in mode m. -/
def modeCommand (m : Mode) (s : State) (c : Nat) : State := (modeCommandIn m s.txn.held s c).1

/-- What a write to MODECMD does at once (R194): in REST a command wakes the core, a WAKE with its own cause (Table MOD-11). -/
def modecmdTake (s : State) (v : Acc) (w : Word) : State :=
  let s := beginWrite s v.path
  if modeCodeOk w then wake s (if cmdCode w == 8 then 1 else 4) else s

/-- The commands of MODECMD writes, in order, judged in mode m (R137, R200). -/
def modecmdRun (m : Mode) (s : State) (l : List Word) : State :=
  l.foldl (fun s w => if modeCodeOk w then modeCommand m s (cmdCode w) else s) s

/-- A write to MODECMD (R194, R200). -/
def regModecmd (s : State) (v : Acc) (w : Word) : Done := (modecmdRun v.mode (modecmdTake s v w) [w], 0)

/-- MODE_CMD of a held transaction (Table ACY-8): the response is MODE after the command, or REFUSED with its code; a word that
is no command of Table REG-6 is refused with 0x0910: DEDUCED, log 19. -/
def modeLine (s : State) (t : Txn) : State :=
  let w := word (fieldAt t.data 0 2)
  if !modeCodeOk w then refuseTxn s t.id 0x0910
  else
    let (s, code) := modeCommandIn s.mode.mode (dropTxn s.txn.held t.id) s (cmdCode w)
    if code == 0 then endTxn s t.id 0 (wordsToBytes [modeWord s]) true
    else refuseTxn s t.id code

/-- A mode command by a register write, or of the held MODE_CMD transaction that carries it. -/
def modeRow (s : State) (via : Via) (c : Nat) : Result :=
  match via with
  | .reg p => .next (served s p (fun s v => regModecmd s v (word c)))
  | .line b a t =>
    withTxn s b a t 0x0D (fun s x =>
      let w := word (fieldAt x.data 0 2)
      if modeCodeOk w && cmdCode w != c then s else modeLine s x)

/-- GO_SETUP (R235). -/
def execGoSetup (via : Via) (s : State) : Result := modeRow s via 1

/-- GO_RUN (R234, R235). -/
def execGoRun (via : Via) (s : State) : Result := modeRow s via 2

/-- GO_SAFE (R235). -/
def execGoSafe (via : Via) (s : State) : Result := modeRow s via 3

/-- RESUME (R234, R235). -/
def execResume (via : Via) (s : State) : Result := modeRow s via 4

/-- GO_MINIMAL (R235). -/
def execGoMinimal (via : Via) (s : State) : Result := modeRow s via 5

/-- REBOOT (R235). -/
def execReboot (via : Via) (s : State) : Result := modeRow s via 6

/-- REST (R244). -/
def execRest (via : Via) (s : State) : Result := modeRow s via 7

/-- WAKE (R245). -/
def execWake (via : Via) (s : State) : Result := modeRow s via 8

/-! ### REST (R244, R502) -/

/-- The core is gated: the REST_ENTER record, DROPPED 0, the event, and the units that REST touches (R244, R333, R396, R399,
R502). -/
def restEnter (s : State) : State :=
  let s := putTrace s 0x0D 0x15 0
  let s := { s with
    trace := { s.trace with dropped := 0 }
    mode := { s.mode with rest := true, restPending := false, restSince := s.time.line }
    wdog := { s.wdog with cRest := s.wdog.c.st == .run } }
  adcRestart (wdhCheck (postQ s 0x15 0 0))

/-- REST_ENTRY: the core has finished its work after a REST command (R244). -/
def execRestEntry (s : State) : Result :=
  if s.mode.restPending && coreRuns s then .next (restEnter s) else .next s

/-! ### Holdup (R246) -/

/-- HOLD_SENSE_SAMPLE: a reading in mV, and the time since power-on reset in units of 100 ms, which the first reading at or above
HOLD_MIN leaves in HOLD_CT (R246, Table HLT-2). -/
def execHoldSenseSample (mv age : Nat) (s : State) : Result :=
  if s.mode.porst || s.mode.logicReset then .next s
  else
    let low := decide (mv < cfgF s 1 5 0 16)
    let s := { s with mode := { s.mode with holdMv := Nat.min 0xFFFF mv, holdLow := low } }
    if !low && s.health.holdCt == 0xFFFF then
      .next (healthHold { s with health := { s.health with holdCt := Nat.min 0xFFFE age } })
    else .next s

/-! ### Power loss (R139, R248, R249, R506) -/

/-- A flash operation is in progress. -/
def flashBusy (s : State) : Bool := s.flash.erase.isSome || s.flash.begun.isSome || s.flash.prog.isSome

/-- Flags of R139. -/
def lossFlags (s : State) : Nat := b2n (flashBusy s) + 2 * b2n s.mode.rest

/-- The last-gasp notice (R139). -/
def lastGasp (s : State) (flags : Nat) : Response :=
  let data := leBytes 2 s.mode.reason.toNat ++ leBytes 2 s.mode.holdMv ++ leBytes 8 s.time.line ++ leBytes 4 flags
  { plainResponse s.txn.serial false 0 0x7F 0 0 with data, plain := data, unsol := true }

/-- POWER_LOSS as the trace unit writes it (Table HLT-6). -/
def lossRecord (s : State) : State :=
  putTrace s 0x0D 0x01 (s.mode.holdMv + 65536 * lossFlags s + 2 ^ 24 * s.mode.reason.toNat)

/-- A running COMMIT is abandoned (R227, R248). -/
def lossCommit (s : State) : State :=
  match s.cfg.busy with
  | some (.commit _ _) => commitFail s
  | _ => s

/-- PWRFAIL_ASSERT: a recognised assertion of PWRFAIL_N: steps 1 to 5 of Table MOD-12 (R139, R248). -/
def execPwrfailAssert (s : State) : Result :=
  if s.mode.porst || s.mode.pwrfail then .next s
  else
    let flags := lossFlags s
    let s := lossRecord { s with mode := { s.mode with pwrfail := true, pwrT := s.time.line } }
    let s := if s.mode.logicReset || s.txn.gasped || s.mode.role != .node then s
      else { s with txn := { s.txn with ready := lastGasp s flags :: s.txn.ready, gasped := true } }
    let s := wake s 2
    let s := heldTrigger s 3 0x0A02
    let s := post s 0x17 0 (word s.mode.holdMv)
    let s := lossCommit { s with trace := { s.trace with persist := none } }
    .next (if coreRuns s && 4 ≤ s.mode.bootStep then lossWork s else s)

/-- PWRFAIL_RELEASE: the device stays in SAFE; trigger 3 is released with both pins, the next assertion forms a new notice, and the
flash works again (R87, R249, R506, Table DIA-11). -/
def execPwrfailRelease (s : State) : Result :=
  if s.mode.porst || !s.mode.pwrfail then .next s
  else
    let s := { s with mode := { s.mode with pwrfail := false }, txn := { s.txn with gasped := false }
                      trace := { s.trace with readySector := true } }
    let s := if s.mode.safeReq then s else releaseTrigger s 3
    .next (flashRun (autoCommitStart (stableFs (bypassCheck s))))

end Sys2Proof.Machine
end

