-- ==== Sys2Proof/Machine/Update.lean ====
section
/-! DEFINITION. Update: the commands of an update session, preparation, activation, confirmation and fallback, and the
distribution's responses (chapter 18). -/

namespace Sys2Proof.Machine

open Sys2Proof

/-! ### Refusals (R426, R428, R431) -/

/-- The parts of the staged bundle, in lineup order. -/
def bundleParts (s : State) : List Nat := bdLineup (stagedMeta s)

/-- A bank slot of a part of the bundle holds a retired sector with no spare left (Table UPD-5). -/
def slotsWorn (s : State) : Bool :=
  (bundleParts s).any (fun p => (slotSectors false p ++ slotSectors true p).any (fun k => s.flash.worn.contains k))

/-- The conditions of Table UPD-5 that START, RELAY_JOIN and PREPARE share: 0 for none. -/
def lockOrLow (s : State) : Nat := if lockEngaged s then 0x0601 else if s.mode.holdLow then 0x0602 else 0

/-- The session lies between READ and PREPARED, or distributes (Table UPD-3). -/
def abortable (s : State) : Bool :=
  match s.upd.phase with
  | .idle => false
  | .activate => false
  | .confirm => false
  | _ => true

/-- The code with which an update command is refused, 0 when it is taken: the state check, then Table UPD-5; `join` holds the
identity of a RELAY_JOIN that came by the line; a reserved code is refused (R11, R426, R428, R431). -/
def updRefusal (s : State) (cmd : Nat) (join : Option (List Byte)) : Nat :=
  let low := lockOrLow s
  let p := s.upd.phase
  match cmd with
  | 1 => if p != .idle then 0x0910 else if low != 0 then low else if !(s.media.present && s.media.fsOk) then 0x060B else 0
  | 2 => if abortable s then 0 else 0x0910
  | 3 => if p != .staged then 0x0910 else if low != 0 then low else if slotsWorn s then 0x0606 else 0
  | 4 =>
    if p != .prepared then 0x0910
    else if low != 0 then low
    else if s.mode.mode == .run then 0x0604
    else if isMoving s then 0x0603
    else if slotsWorn s then 0x0606
    else if !compatible s (stagedMeta s) then 0x0605
    else 0
  | 5 => if p == .confirm && s.upd.falling.isNone then 0 else 0x0910
  | 6 =>
    match join, s.mode.role with
    | none, .starter => if p != .staged then 0x0910 else low
    | none, _ => 0x0910
    | some id, .node => if p == .idle then low else if id != s.upd.ident then 0x0915
        else if p == .receive || p == .staged then low else 0x0910
    | some id, .anchor => if p == .idle then low else if id != s.upd.ident then 0x0915
        else if p == .receive || p == .staged then low else 0x0910
    | some _, _ => 0x0910
  | _ => 0x0910

/-! ### Preparation (R439) -/

/-- The slot of a part in the bank that is not active for it is erased, its descriptor sector first (R439, R488). -/
def eraseSlot (s : State) (p : Nat) : State :=
  let b := !activeBank s p
  eachNo (slotSectors b p).reverse askErase (s.setSlot b p none)

/-- The part in work is prepared: its slot's erase, and the engine at the rank of activation bulk work (R439, R467). -/
def prepareBegin (s : State) : State :=
  match s.upd.todo with
  | p :: _ => cryptoAsk (eraseSlot s p) 3 (.prepare p)
  | [] => setPhase s .prepared

/-- No erase of a slot's sectors waits or runs, and none of them is torn. -/
def slotReady (s : State) (b : Bool) (p : Nat) : Bool :=
  (slotSectors b p).all (fun k =>
    !s.flash.eraseQ.any (fun e => e.1 == k) && (s.flash.begun.map (·.1)) != some k &&
    (s.flash.erase.map (fun e => e.sector)) != some k && s.flash.torn != some k)

/-- The plaintext of records, each with its block, manifest and decryption checks; none when one fails (R439, R410). -/
def openRecords (s : State) (m : List Byte) (l : List Nat) : Option (List Byte) :=
  match l with
  | [] => some []
  | n :: r =>
    let rec_ := stagedSector s (4 + n)
    if blockOk m n rec_ && manifestOk m n rec_ then do
      let plain ← openRecord m n rec_
      let rest ← openRecords s m r
      some (plain.take (fieldAt rec_ 4 2) ++ rest)
    else none

/-- The image of a descriptor from the staged records, after the image check (R410, R439). -/
def openImage (s : State) (m d : List Byte) : Option (List Byte) := do
  let image ← openRecords s m ((upTo (descCnt d)).map (descFirst d + ·))
  if image.length == descLen d && Config.sha256 image == (d.drop 32).take 32 then some image else none

/-- The preparation of a part fails: its slot is erased, and the session ends with a code (R439). -/
def prepareFail (s : State) (p code : Nat) : State := sessionFail (eraseSlot s p) code

/-- The image goes into the slot, encrypted for its address, with its descriptor and the bundle identity (R439, R488). -/
def prepareWrite (s : State) (p : Nat) (m d image : List Byte) : State :=
  let b := !activeBank s p
  let a := bankBase b + slotOfs p
  let s := flashAccess (flashAccess s 2) (planeOf (sectorOf a))
  let s := s.flashWrite a ((Config.xtsEncrypt a image).take image.length)
  s.setSlot b p (some { desc := d, ident := bdIdent m })

/-- The part p in work is checked, decrypted and written; the next of `rest` follows, or the session is PREPARED (R439). -/
def prepareStep (s : State) (p : Nat) (rest : List Nat) : State :=
  let m := stagedMeta s
  let s := cryptoDrop s (fun f => f = .prepare p)
  if !signatureOk m then prepareFail s p 0x0607
  else
    match bdPartDesc m p with
    | none => prepareFail s p 0x0607
    | some d =>
      match openImage s m d with
      | none => prepareFail s p 0x0608
      | some image =>
        let s := prepareWrite s p m d image
        prepareBegin { s with upd := { s.upd with todo := rest, prepared := s.upd.prepared + descCnt d } }

/-- PREPARE_PART_DONE: the part in work has been erased, checked, decrypted and written; the next follows, or the session is
PREPARED (R439). -/
def execPreparePartDone (s : State) : Result :=
  match s.upd.phase, s.upd.todo with
  | .prepare, p :: rest =>
    if !coreRuns s || s.mode.pwrfail || !slotReady s (!activeBank s p) p then .next s else .next (prepareStep s p rest)
  | _, _ => .next s

/-! ### Activation (R431, R440) -/

/-- The activation begins: the first part's pause, in lineup order (R440). -/
def activateBegin (s : State) : State :=
  activateNext (setPhase { s with upd := { s.upd with
    startT := none, todo := bundleParts s, switched := [], paused := 0 } } .activate)

/-- A fallback is decided outside a boot: the pauses of the FIELD and LINE parts, then a core reset where CORE was switched
(R443). -/
def fallStart (s : State) (reason : Word) : State :=
  let s := fallDecide s reason false
  match s.upd.falling with
  | some (_, []) => coreEnter s .fallback
  | _ => fallPause s

/-- ACT_PAUSE_END: the pause of a FIELD or LINE part ends, in an activation or in a fallback; a CORE part's ends at BOOT-OK
(R440, R443). -/
def execActPauseEnd (s : State) : Result :=
  if !coreRuns s || s.mode.pwrfail then .next s
  else
    match s.upd.falling with
    | some (r, p :: rest) =>
      let s := partResume { s with upd := { s.upd with falling := some (r, rest) } } p
      .next (if !rest.isEmpty then fallPause s else if s.upd.fallReset then coreEnter s .fallback else fallReport s)
    | some (_, []) => .next s
    | none =>
      match s.upd.phase, s.upd.todo with
      | .activate, p :: _ => .next (if p == 1 then s else partEnds s)
      | _, _ => .next s

/-! ### Commands (R426 to R428) -/

/-- A READ session opens: the candidates of the medium are read (R421, R426). -/
def startRead (s : State) : State :=
  let s := setPhase { s with upd := { s.upd with ended := 0, source := 1 } } .read
  if s.media.cands.isEmpty then sessionFail s 0x060B
  else readerAsk (s.setReader (newReader s (.choose 0)))

/-- A RECEIVE session opens for an announced bundle; the session already open stands (R428). -/
def joinReceive (s : State) (id : List Byte) (metaN blocks : Nat) : State :=
  if s.upd.phase != .idle then s
  else
    let s := { s with upd := { s.upd with ended := 0, source := 3 } }
    openStaging (setPhase s .receive) id metaN blocks

/-- ABORT: a distribution returns to STAGED, any other session to IDLE; a pull that runs ends with it (R426, R438). -/
def abortSession (s : State) : State :=
  match s.upd.phase with
  | .distribute => distEnd s
  | _ => pullOrphan (sessionIdle s)

/-- PREPARE: the parts are prepared in lineup order; a starter that pulled the bundle applies the bundle checks now (R435,
R439). -/
def startPrepare (s : State) : State :=
  let code := if s.upd.source == 2 then bundleCheck s (stagedMeta s) else 0
  if code != 0 then sessionFail s code
  else prepareBegin (setPhase { s with upd := { s.upd with todo := bundleParts s, prepared := 0 } } .prepare)

/-- The effect of an update command that is taken; a start time counts for ACTIVATE, the announced bundle for RELAY_JOIN (R426 to
R431, R443). What would write a bank selector waits for the release of PWRFAIL_N (R248, R444). -/
def updEffect (s : State) (cmd start : Nat) (join : Option (List Byte × Nat × Nat)) : State :=
  match cmd with
  | 1 => startRead s
  | 2 => abortSession s
  | 3 => startPrepare s
  | 4 =>
    if start ≤ s.time.line && !s.mode.pwrfail then activateBegin s else { s with upd := { s.upd with startT := some start } }
  | 5 =>
    if s.mode.pwrfail then { s with upd := { s.upd with vetoed := true, deadline := some s.time.line } }
    else fallStart s 0x0611
  | _ =>
    match join with
    | some (id, metaN, blocks) => joinReceive s id metaN blocks
    | none => distJoin s

/-- An update command is taken or refused (R426, R445): UPD_CTRL, UPD_STAT.REFUSED and UPD_REFUSED, and its effect. -/
def updCommand (s : State) (cmd start : Nat) (join : Option (List Byte × Nat × Nat)) : State × Nat :=
  let code := if s.mode.coreReset then 0x0914 else updRefusal s cmd (join.map (·.1))
  if code != 0 then (postUpdRefused { s with upd := { s.upd with cmd, result := 3 } } code cmd, code)
  else (updEffect { s with upd := { s.upd with cmd, result := 2 } } cmd start join, 0)

/-- A write to UPD_CTRL (R11, R187, R194, R209, R445): a command needs the open key, and wakes the core in REST; the other bits are
ignored, and CMD 0 is no command: DESIGN CHOICE, log 36. -/
def regUpdCtrl (s : State) (v : Acc) (w : Word) : Done :=
  let opened := keyOpen s v.path
  let s := beginWrite s v.path
  if v.path = .line then (s, 0x04)
  else if bitsOf w 0 4 != 0 && !opened then keyViolation s v.path 0x62
  else if bitsOf w 0 4 == 0 then (s, 0)
  else ((updCommand (wake s 4) (bitsOf w 0 4) 0 none).1, 0)

/-- A device that the HEAT byte of an ACTIVATE excludes (Table UPD-4). -/
def heatExcludes (s : State) (h : Nat) : Bool := h != 0xFF && !(s.mode.role == .node && h == cfgF s 3 0 0 4)

/-- UPD_CTRL of a held transaction (R427): OK, or REFUSED, with the REASON code, UPD_STAT and UPD_PROG after the command; an
excluded device ignores the record. -/
def updLine (s : State) (t : Txn) : State :=
  let cmd := byteAt t.data 0
  if cmd == 4 && heatExcludes s (byteAt t.data 1) then
    { s with txn := { s.txn with held := dropTxn s.txn.held t.id } }
  else
    let start := if cmd == 4 then fieldAt t.data 2 8 else 0
    let join := if cmd == 6 then some ((t.data.drop 2).take 32, byteAt t.data 34, fieldAt t.data 36 2) else none
    let (s, code) := updCommand s cmd start join
    let resp := leBytes 2 code ++ wordsToBytes [updStatWord s, updProgWord s]
    endTxn s t.id (if code == 0 then 0 else 0x0F) resp (code == 0)

/-- An update command by a register write, or of the held UPD_CTRL transaction that carries it. -/
def updRow (s : State) (via : Via) (c : Nat) : Result :=
  match via with
  | .reg p => .next (served s p (fun s v => regUpdCtrl s v (word c)))
  | .line b a t => withTxn s b a t 0x21 (fun s x => if byteAt x.data 0 != c then s else updLine s x)

/-- START (R426). -/
def execStart (via : Via) (s : State) : Result := updRow s via 1

/-- ABORT (R426). -/
def execAbort (via : Via) (s : State) : Result := updRow s via 2

/-- PREPARE (R439). -/
def execPrepare (via : Via) (s : State) : Result := updRow s via 3

/-- ACTIVATE (R431). -/
def execActivate (via : Via) (s : State) : Result := updRow s via 4

/-- VETO (R443). -/
def execVeto (via : Via) (s : State) : Result := updRow s via 5

/-- RELAY_JOIN (R428). -/
def execRelayJoin (via : Via) (s : State) : Result := updRow s via 6

/-- ACTIVATE_START: the start time of an ACTIVATE arrives; a condition of Table UPD-5 that holds now leaves the session in
PREPARED (R431). -/
def execActivateStart (s : State) : Result :=
  match s.upd.startT with
  | none => .next s
  | some t =>
    if !coreRuns s || s.mode.pwrfail then .next s
    else
      let s := s.reach t
      let s := { s with upd := { s.upd with startT := none } }
      let code := updRefusal s 4 none
      .next (if code != 0 then postUpdRefused s code 4 else activateBegin s)

/-- The chord's START: the command of the panel, and what the panel shows and posts of its answer (R385). -/
def chordStart (s : State) : State :=
  let s := { s with panel := { s.panel with chord := false } }
  let x := updCommand s 1 0 none
  let show_ := fun (u : UpdShow) (s : State) => { s with panel := { s.panel with upd := u } }
  if x.2 == 0 then menuAction (show_ .go x.1) 0x0500
  else menuAction (show_ (.refused (x.2 % 256)) x.1) (0x0600 + x.2 % 256)

/-- CHORD_COMPLETE: the update chord has been held for CHORD_S, and the menu requests START; a countdown that a lock or the
medium's removal ended requests nothing (R385). -/
def execChordComplete (s : State) : Result :=
  if !s.panel.chord || !menuRuns s then .next s
  else if !updReady s then .next { s with panel := { s.panel with chord := false } }
  else .next (chordStart (s.reach (s.panel.chordT + cfgF s 0xB 0x15 0 4 * 1000000000)))

/-! ### Staging (R432) -/

/-- STAGING_SECTOR_DONE: the oldest buffered sector is programmed and read back, or its program failed; the map, the reader and
a pull go on (R432 to R434). -/
def execStagingSectorDone (ok : Bool) (s : State) : Result :=
  if s.mode.pwrfail || !coreRuns s then .next s else .next (readerNext (pullOrphan (sectorDone s ok)))

/-! ### Confirmation (R441) -/

/-- The criterion Run of Table UPD-11. -/
def confirmRun (s : State) : Bool :=
  let now := s.time.line
  match s.mode.role with
  | .starter => 1000 ≤ s.upd.good
  | .bench => s.upd.okT + 10000000000 ≤ now
  | _ =>
    match s.cyc.acceptT with
    | some t => if now ≤ t + 1000000000 then 1000 ≤ s.upd.good else s.upd.okT + 10000000000 ≤ now
    | none => s.upd.okT + 10000000000 ≤ now

/-- Every criterion of Table UPD-11 holds. -/
def confirmOk (s : State) : Bool :=
  let m := stagedMeta s
  s.mode.bootOk && s.health.selftest == 0 && !s.upd.expired && !s.upd.vetoed && confirmRun s &&
  (bundleParts s).all (fun p => runningVersion s p == descVersion ((bdPartDesc m p).getD []))

/-- The bundle's nonce base and identity as the newest pair of NBASE: a remembered pair of the same identity becomes the newest,
otherwise the new pair replaces the oldest of the 16 (R466). -/
def nbaseRecord (l : List (List Byte × List Byte)) (base ident : List Byte) : List (List Byte × List Byte) :=
  match l.find? (fun p => p.2 == ident) with
  | some p => l.filter (fun p => p.2 != ident) ++ [p]
  | none => (l ++ [(base, ident)]).drop (l.length + 1 - 16)

/-- CONFIRM_WRITE: every criterion holds, and the confirmation record and its seal are written (R441, R442, R465, R466). -/
def execConfirmWrite (s : State) : Result :=
  if s.upd.phase != .confirm || s.upd.falling.isSome || s.mode.pwrfail || !coreRuns s || !confirmOk s then .next s
  else
    let m := stagedMeta s
    let parts := bundleParts s
    let s := { s with
      sec := { s.sec with secver := Nat.max s.sec.secver (bdSecVersion m)
                          nbase := nbaseRecord s.sec.nbase (bdNonce m) (bdIdent m) }
      upd := { s.upd with oldFormat := none } }
    let s := eachNo parts (fun s p => post s 0x63 p s.mode.fwver) s
    .next (sessionIdle s)

/-- CONFIRM_DEADLINE: 120 s pass without a confirmation, and the device falls back (R443, Table UPD-12). -/
def execConfirmDeadline (s : State) : Result :=
  match s.upd.deadline with
  | some t =>
    if s.upd.phase != .confirm || s.upd.falling.isSome || s.mode.pwrfail || !coreRuns s then .next s
    else .next (fallStart (s.reach t) (if s.upd.vetoed then 0x0611 else 0x0610))
  | none => .next s

/-! ### RELAY_CTRL (R436) -/

/-- The missing-block map as 32 bytes: bit s at byte s/8, bit s mod 8 (R433, R436). -/
def mapBytes (l : List Nat) : List Byte :=
  (upTo 32).map (fun i => byte ((l.filter (fun n => n / 8 == i)).foldl (fun a n => a + 2 ^ (n % 8)) 0))

/-- RELAY_CTRL of a held transaction: MAP, STATUS, or REFUSED with 0x0910 for another sub-operation (R436). -/
def relayCtrl (s : State) (t : Txn) : State :=
  let miss := if s.upd.phase == .idle then [] else s.upd.missing
  match byteAt t.data 0 with
  | 1 => endTxn s t.id 0
      ([1, 0, byte (updCode s.upd.phase), 0] ++ leBytes 2 miss.length ++ mapBytes miss) false
  | 2 => endTxn s t.id 0
      ([2, 0] ++ wordsToBytes [updStatWord s, updProgWord s, if s.upd.phase == .idle then s.upd.ended else 0]) false
  | _ => refuseTxn s t.id 0x0910

/-- RELAY_CTRL_MAP: a held RELAY_CTRL whose sub-operation is MAP, or none of Table's (R436). -/
def execRelayCtrlMap (bcast anchor : Bool) (tag : Nat) (s : State) : Result :=
  withTxn s bcast anchor tag 0x0C (fun s t => if byteAt t.data 0 == 2 then s else relayCtrl s t)

/-- RELAY_CTRL_STATUS: a held RELAY_CTRL whose sub-operation is STATUS (R436). -/
def execRelayCtrlStatus (bcast anchor : Bool) (tag : Nat) (s : State) : Result :=
  withTxn s bcast anchor tag 0x0C (fun s t => if byteAt t.data 0 == 2 then relayCtrl s t else s)

end Sys2Proof.Machine
end

