-- ==== Sys2Proof/Machine/FlashRead.lean ====
section
/-! DEFINITION. FlashRead: FLASH_READ (R134, R473): the bytes as stored, with the regions that the model holds as records put
back into their layout. Bytes whose content the spec does not give are free values (log 3). -/

namespace Sys2Proof.Machine

open Sys2Proof

/-! ### Stored records as bytes -/

/-- A free byte for an address of the array, fresh for each FLASH_READ. -/
def openByte (s : State) (a : Nat) : Byte := Config.freeByte s.free a

/-- Free bytes from an address of the array. -/
def openBytes (s : State) (a n : Nat) : List Byte := (upTo n).map (fun i => openByte s (a + i))

/-- A short unit's last bytes: the CRC over its first 28. -/
def withCrc (b : List Byte) : List Byte := b ++ leBytes 4 (crc32c b)

/-- A byte of the configuration store (R486, Table FLS-8); the place of a table's words in the 32,768 bytes is not stated, so
they and SET_CRC are free. -/
def storeByte (s : State) (a : Nat) : Byte :=
  let k := sectorOf a - 768
  match s.cfg.store.find? (fun e => e.slot == k / 9) with
  | none => 0xFF
  | some e =>
    let o := a % 4096
    if k % 9 != 0 then openByte s a
    else if o < 32 then
      let head := [0x20, byte e.slot] ++ leBytes 2 e.format ++ leBytes 4 e.seq ++ leBytes 4 (setField e.set 1 0 0 32) ++
        openBytes s (a - o + 12) 4 ++ List.replicate 12 0
      (withCrc head).getD o 0
    else if o < 64 then
      let commit := [0x21, 0, 0, 0] ++ leBytes 4 e.seq ++ List.replicate 20 0
      (withCrc commit).getD (o - 32) 0
    else 0xFF

/-- A trace record as a field of 126 bits (R505). -/
def traceField (r : TraceRec) : Nat := r.lt / 4 + 2 ^ 62 * r.source.toNat + 2 ^ 70 * r.code.toNat + 2 ^ 78 * r.arg.toNat

/-- Fields of 126 bits, the first at the lowest bits. -/
def packFields (l : List Nat) : Nat :=
  match l with
  | [] => 0
  | x :: r => x + 2 ^ 126 * packFields r

/-- The 4,032 data bytes of a page in a sector that begins at an address (R505, R508); fields that hold no record are free. -/
def pageData (s : State) (a : Nat) (p : TracePage) : List Byte :=
  if p.cause == 2 then
    let b := leBytes 4 p.por ++ p.therm.flatMap (leBytes 4) ++ leBytes 2 p.hold
    b ++ List.replicate (4032 - b.length) 0
  else
    let free := (upTo (256 - p.recs.length)).map (fun i => leNat (openBytes s (a + 16 * i) 16) % 2 ^ 126)
    leBytes 4032 (packFields (p.recs.map traceField ++ free))

/-- The page header (Table HLT-8). -/
def pageHeader (p : TracePage) (data : List Byte) : List Byte :=
  shortUnit (if p.cause == 2 then 0x31 else 0x30) p.cause p.seq
    (leBytes 2 p.recs.length ++ [0, 0] ++ leBytes 4 p.firstTseq ++ leBytes 4 (crc32c data) ++ leBytes 4 p.por)

/-- A byte of the persistent trace (R505). -/
def traceByte (s : State) (a : Nat) : Byte :=
  let k := sectorOf a - 880
  let o := a % 4096
  match s.trace.pages.find? (fun p => p.seq % 64 == k) with
  | none => 0xFF
  | some p =>
    if o < 32 then openByte s a
    else
      let data := pageData s (a - o) p
      if o < 64 then (pageHeader p data).getD (o - 32) 0 else data.getD (o - 64) 0

/-- A byte of a bank's descriptor sector of a part (R488): the payload of its long record; the record's other fields are not
stated, so its first and last units are free. -/
def descByte (s : State) (a : Nat) (b : Bool) (p : Nat) : Byte :=
  match slotIn s b p with
  | none => 0xFF
  | some x =>
    let o := a % 4096
    if o < 32 || (128 ≤ o && o < 160) then openByte s a
    else if o < 128 then (x.desc ++ x.ident).getD (o - 32) (openByte s a)
    else 0xFF

/-- A byte of the flash as FLASH_READ returns it (R134, R473): a sector that an erase has left torn, the session record, and the
factory trim have no stated content. -/
def flashByte (s : State) (a : Nat) : Byte :=
  let k := sectorOf a
  let o := a % 0x100000
  if s.flash.torn == some k || (s.flash.erase.map (·.sector)) == some k then openByte s a
  else if k < 512 && 0xF8000 ≤ o && o < 0xFB000 then descByte s a (decide (256 ≤ k)) ((o - 0xF8000) / 4096 + 1)
  else if k == 512 || k == 832 || k == 833 then openByte s a
  else if 768 ≤ k && k < 832 then storeByte s a
  else if 880 ≤ k && k < 944 then traceByte s a
  else if 944 ≤ k then 0xFF
  else flashCell s a

/-- A read of flash bytes: it touches the planes of its range (R476), and takes a free value's number. -/
def flashRead (s : State) (a n : Nat) : State × List Byte :=
  let bytes := (upTo n).map (fun i => flashByte s (a + i))
  let s := flashAccess (flashAccess s (planeOf (sectorOf a))) (planeOf (sectorOf (a + n - 1)))
  ({ s with free := s.free + 1 }, bytes)

/-! ### The row -/

/-- FLASH_READ of a command queue: its bytes go into BUF1 (Table HBU-9); a range that is not served is refused. -/
def flashReadQueue (s : State) (p : Path) (d : Descriptor) : State :=
  let a := d.arg0 + 65536 * d.arg1
  if !flashRangeOk a d.len1 then complete s p d outRefused 0x0922
  else if s.mode.coreReset then complete s p d outRefused 0x0914
  else
    let r := flashRead (wake s 0x06) a d.len1
    complete (r.1.store (apertureBase + d.off1) r.2) p d outOk d.len1

/-- FLASH_READ of the line path (Table ACY-8). -/
def flashReadLine (s : State) (t : Txn) : State :=
  let a := fieldAt t.data 0 4
  let n := fieldAt t.data 4 2
  if !flashRangeOk a n then endTxn s t.id 0x04 [] false
  else
    let r := flashRead s a n
    endTxn r.1 t.id 0 r.2 true

/-- FLASH_READ: a descriptor is posted, or a held transaction executes (R134). -/
def execFlashRead (src : Source) (s : State) : Result :=
  match src with
  | .queue via d => postFrom s via d 0x12 (fun d s => flashReadQueue s via d)
  | .line b a t => withTxn s b a t 0x07 flashReadLine

end Sys2Proof.Machine
end

