-- ==== Sys2Proof/Machine/Count.lean ====
section
/-! DEFINITION. Count: what a node or the anchor does with a COUNT frame that it processes (R150 to R153, Tables STA-10 and
STA-11). -/

namespace Sys2Proof.Machine

open Sys2Proof

/-- What a node found out in passing. -/
inductive CountAct where
  /-- Nothing to do at EOF-good. -/
  | none_
  /-- Bound at the counted position. -/
  | agrees
  /-- Bound elsewhere. -/
  | disagrees
  /-- Takes the counted position. -/
  | binds
  /-- Takes the counted position as pending. -/
  | pends
  /-- Takes no position. -/
  | refused
deriving DecidableEq, Repr

/-- The frame is a COUNT that the device acts on: VERSION, MODE and LINE_ID (R151, R11). -/
def countOk (s : State) (b : List Byte) : Bool :=
  b.length == 680 && byteAt b 0 == 3 && byteAt b 1 == 1 && byteAt b 2 ≤ 1 && fieldAt b 4 4 == cfgF s 3 0xB 0 32

/-- Offset of the last PENDING entry among the first n reports. -/
def lastPending (b : List Byte) (n : Nat) : Option Nat :=
  match n with
  | 0 => none
  | k + 1 => if byteAt b (554 + 4 * k) == 2 then some (552 + 4 * k) else lastPending b k

/-- The status of the last PENDING entry is written when the predecessor is of kind 3 (after Table STA-11). -/
def markPending (b : List Byte) (status : Nat) : List Byte :=
  if byteAt b 546 == 3 then
    match lastPending b (Nat.min 32 (byteAt b 550)) with
    | some o => overwrite b (o + 3) [byte status]
    | none => b
  else b

/-- A report enters the list, or counts in REP_LOST when the list is full (Table STA-10). -/
def addReport (b : List Byte) (pos kind status : Nat) : List Byte :=
  let n := byteAt b 550
  if n < 32 then
    overwrite (overwrite b (552 + 4 * n) (leBytes 2 (Nat.min 0xFFF pos) ++ [byte kind, byte status])) 550 [byte (n + 1)]
  else overwrite b 551 [byte (satAdd 255 (byteAt b 551) 1)]

/-- The counted position of a COUNT (R150). -/
def counted (b : List Byte) : Nat := fieldAt b 544 2 % 4096 + 1

/-- GAPS bit of a position. -/
def gapBit (b : List Byte) (p : Nat) : Bool := p ≤ 4094 && natBits (byteAt b (32 + p / 8)) (p % 8) 1 == 1

/-- A node's decision (Table STA-11): a pending binding counts as none (R152). -/
def countAct (s : State) (b : List Byte) : CountAct :=
  let c := counted b
  let kind := byteAt b 546
  match (if s.link.posPending then none else s.link.pos) with
  | some p => if p == c then .agrees else .disagrees
  | none =>
    if gapBit b c && (if byteAt b 2 == 1 then decide (kind ≤ 2) else decide (kind ≤ 1)) then
      (if byteAt b 2 == 1 then .binds else .pends)
    else .refused

/-- The trailer as the node writes it (Table STA-11); a counted position beyond 12 bits is written as 0xFFF. -/
def countPass (s : State) (b : List Byte) : List Byte :=
  let c := counted b
  let act := countAct s b
  let bound := s.link.pos.getD 0
  let status := match act with
    | .agrees => 1
    | .disagrees => 2
    | _ => 3
  let b := markPending b status
  let (pos, kind) := match act with
    | .agrees => (bound, 1)
    | .disagrees => (bound, 1)
    | .binds => (c, 2)
    | .pends => (c, 3)
    | _ => (c, 4)
  let b' := overwrite b 544 (leBytes 2 (Nat.min 0xFFF pos) ++ [byte kind])
  let b' := overwrite b' 548 (leBytes 2 (fieldAt b 548 2 + 1))
  match act with
  | .disagrees => addReport b' bound 1 0
  | .pends => addReport b' c 2 0
  | .refused => addReport b' c 3 (if 4094 < c then 3 else if !gapBit b c then 1 else 2)
  | _ => b'

/-- The anchor at the turn: the status of a final PENDING entry becomes 0 (R151). -/
def countAnchor (b : List Byte) : List Byte := markPending b 0

/-- The line microcode engine binds a position: the forwarding engine loads its geometry (R20, R152). -/
def bindPos (s : State) (p : Nat) (pending : Bool) : State :=
  loadGeo { s with link := { s.link with pos := some p, posPending := pending } }

/-- No heat has been accepted for two cycles: a COUNT is taken for that of a line start, never one of a running cycle (Table
STA-9); a node has no other sign of a line start: DESIGN CHOICE, log 99. -/
def noCycles (s : State) : Bool :=
  match s.cyc.acceptT with
  | some t => t + 2 * periodNs s ≤ s.time.line
  | none => true

/-- The PLL takes the mode of its position at a line start, with the binding it had before (R34, 02 "Close finishes"). -/
def regenAtStart (s : State) : State :=
  if noCycles s && wantRegen s != s.time.regen && lineRef s && (s.time.pll == .locked || s.time.pll == .acquire) then reacquire s
  else s

/-- The COUNT ended in EOF-good at the node (R151, R152, R153). -/
def countEof (s : State) (act : CountAct) (c : Nat) : State :=
  let s := regenAtStart s
  let s := if s.link.posPending then { s with link := { s.link with pos := none, posPending := false } } else s
  let s := match act with
    | .binds => bindPos s c false
    | .pends => bindPos s c true
    | _ => s
  let s := { s with link := { s.link with disagree := act == .disagrees } }
  if act == .disagrees then post (s.reason 0x0406) 0x4A 0 (word c) else s

end Sys2Proof.Machine
end

