-- ==== Sys2Proof/Machine/Frames.lean ====
section
/-! DEFINITION. Frames: a frame that arrives at a port (R68, R70, R73 to R79, R512): the injector of the port, the checks, the
egress, and what each TYPE does at a node, an anchor and a starter. -/

namespace Sys2Proof.Machine

open Sys2Proof

/-! ### The passage of one frame -/

/-- Where a frame is: its port, the egress (none at the device that ends it), and what the device finds at its terminator. -/
structure Passage where
  /-- The input port. -/
  p : Port
  /-- The egress; none where the device is the frame's end. -/
  out : Option Port
  /-- The frame. -/
  f : LineFrame
  /-- What stands at its terminator. -/
  v : Verdict
  /-- Line time at which its header had passed, ns. -/
  tHead : Nat
deriving DecidableEq, Repr

/-- The frame ended in EOF-good. -/
def Passage.good (x : Passage) : Bool := x.v = .good

/-- The device turns the frame. -/
def Passage.turned (x : Passage) : Bool := x.out == some x.p

/-- EOF-poison origin with which the frame leaves; none for EOF-good (R75). -/
def leaveOrigin (s : State) (x : Passage) : Option Nat :=
  match x.v with
  | .good => none
  | .poisonIn o => some o
  | .fault c => some (poisonOrigin s x.p c)

/-- The bytes behind SOF of a frame that the engine ends early: at most 8,709 (R70, R76). -/
def earlyBytes (f : LineFrame) (body : List Byte) : List Byte :=
  match f.term with
  | .truncated => body.take 8709
  | .sofInside => body.take 8709
  | _ => (body ++ leBytes 4 f.crc).take 8709

/-- The frame leaves with a body and the CRC-32 over it, or as the bytes up to where the engine ends it (R74 to R76). -/
def leave (s : State) (x : Passage) (body : List Byte) : State :=
  match x.out with
  | some q =>
    if endedEarly x.f then emitAll s q [{ body := earlyBytes x.f body, origin := leaveOrigin s x, crc := none }]
    else emit s q body (leaveOrigin s x)
  | none => s

/-- A node's permission to exchange, claim and count: a SYNC of the starter at port A since it entered UP (R72); port B needs
none. -/
def r72 (s : State) (p : Port) : Bool := s.mode.role != .node || p == .b || s.link.a.syncSeen

/-- The device works on its line traffic: out of a logic reset. -/
def lineWorks (s : State) : Bool := !s.mode.logicReset

/-! ### HEAT (chapter 04, R147, R163) -/

/-- A heat at the anchor: its own comes back, or a starter heat is mirrored at the turn and ends a takeover (R147, R163, R166). -/
def heatAtAnchor (s : State) (x : Passage) : State :=
  let b := x.f.body
  if !lineWorks s then leave s x b
  else if heatOrigin b && s.sta.anchor.takeover then
    (if x.good then heatBack s b else heatPoisoned s ((leaveOrigin s x).getD 0))
  else
    let s := leave s x b
    if !x.good || heatOrigin b then s
    else
      let s := heatMirror s b
      if s.sta.anchor.takeover then
        { s with sta := { s.sta with anchor := { s.sta.anchor with ending := true } } }
      else s

/-- A heat at a node: its slots are exchanged in passing, and EOF-good classifies it (R101, R105 to R108). -/
def heatAtNode (s : State) (x : Passage) : State :=
  let b := x.f.body
  if !processes s x.p x.f then leave s x b
  else
    let cls := heatClass s (s.link.geo.isSome && r72 s x.p) b x.tHead
    let late := cls = .fits && snapWasLate s b
    let s := leave s x (heatPass s cls b)
    if x.good then heatEof s cls late b else s

/-- A heat arrives. -/
def heatFrame (s : State) (x : Passage) : State :=
  let b := x.f.body
  match s.mode.role with
  | .node => heatAtNode s x
  | .anchor => heatAtAnchor s x
  | .starter =>
    if !lineWorks s || heatOrigin b then s
    else if x.good then heatBack s b
    else heatPoisoned s ((leaveOrigin s x).getD 0)
  | .bench => s

/-! ### BATON (chapter 05) -/

/-- A baton passes a node or the anchor: pockets are filled in passing, and EOF-good consumes its records (R120 to R125). -/
def batonAtNode (s : State) (x : Passage) : State :=
  let b := x.f.body
  if !processes s x.p x.f then leave s x b
  else
    let view := batonPass s (s.mode.role == .anchor || (s.link.geo.isSome && r72 s x.p)) b
    let s := leave s x view.body
    if x.good then sentAll (batonEof s view b) view.filled else s

/-- A baton arrives: one that this device sent is at its end. -/
def batonFrame (s : State) (x : Passage) : State :=
  let b := x.f.body
  let own := match s.mode.role with
    | .starter => !frameOrigin b
    | .anchor => frameOrigin b && s.sta.anchor.takeover
    | _ => false
  match s.mode.role with
  | .bench => s
  | .starter => if own && x.good && lineWorks s then batonBack s b else s
  | _ =>
    if own then (if x.good && lineWorks s then batonBack s b else s)
    else batonAtNode s x

/-! ### COUNT (R151, R154) -/

/-- A COUNT frame ended in EOF-good at a port (R92). -/
def countSeenAt (s : State) (p : Port) : State := s.onPort p (fun l => { l with countSeen := true })

/-- A COUNT frame at a node (R92, R151). -/
def countAtNode (s : State) (x : Passage) : State :=
  let b := x.f.body
  let act := s.mode.lineEngine && processes s x.p x.f && r72 s x.p && countOk s b
  let s' := leave s x (if act then countPass s b else b)
  if !x.good then s'
  else
    let s' := countSeenAt (backwardsCheck s' x.p s'.link.a.countSeen) x.p
    if act && !s'.link.backwards then countEof s' (countAct s b) (counted b) else s'

/-- A COUNT frame arrives. -/
def countFrameIn (s : State) (x : Passage) : State :=
  let b := x.f.body
  match s.mode.role with
  | .node => countAtNode s x
  | .anchor => leave s x (if s.mode.lineEngine && countOk s b then countAnchor b else b)
  | .starter => if !lineWorks s then s else if x.good then countBack s b else countPoisoned s
  | .bench => s

/-! ### SYNC, RELAY, LOOPBACK NOTICE -/

/-- A SYNC frame arrives: its hop fields are overwritten on the pass away from the time source and at the turn, and EOF-good takes
its times (R42, R43, R55, R58). -/
def syncFrame (s : State) (x : Passage) (readings : List Word) : State :=
  let b := x.f.body
  let own := s.mode.role == .anchor && s.sta.anchor.takeover && syncAnchor b
  let fills := (s.mode.role == .node || s.mode.role == .anchor) && processes s x.p x.f
  let s := if own then s else leave s x (if fills then syncPass s b x.turned else b)
  if x.good then syncEof s x.p x.f x.turned readings else s

/-- The payload of a RELAY frame as a sector of the session: a record only behind the metadata, with its block and manifest checks
(R434, R435, Table UPD-7). -/
def relayOk (s : State) (n : Nat) (l : List Byte) : Bool :=
  n < 4 || (s.upd.metaOk && blockOk (stagedMeta s) (n - 4) l && manifestOk (stagedMeta s) (n - 4) l)

/-- A NODE or ANCHOR in RECEIVE takes a RELAY frame's sector (R436). -/
def relayTake (s : State) (b : List Byte) : State :=
  let n := fieldAt b 16 2
  if s.upd.phase == .receive && coreRuns s && b.length == 4128 && byteAt b 1 == 1 && fieldAt b 4 4 == cfgF s 3 0xB 0 32 &&
      (b.drop 8).take 8 == s.upd.ident.take 8 && relayOk s n (b.drop 32) && mayTake s n then
    takeSector s n (b.drop 32)
  else s

/-- A RELAY frame arrives (R436). -/
def relayFrame (s : State) (x : Passage) : State :=
  let b := x.f.body
  let s' := leave s x b
  if x.good && (s.mode.role == .node || s.mode.role == .anchor) && processes s x.p x.f && lineWorks s then relayTake s' b else s'

/-- A LOOPBACK NOTICE body whose fields are all of Table LNK-11. -/
def noticeFrameOk (b : List Byte) : Bool :=
  b.length == 16 && byteAt b 1 == 1 && fieldAt b 2 2 < 4096 && byteAt b 4 ≤ 3 && byteAt b 5 ≤ 1 && byteAt b 6 ≤ 3 && byteAt b 7 == 0

/-- A LOOPBACK NOTICE frame arrives: the starter and the anchor post LOOP_NOTICE, and the starter's topology follows (R82,
R159). -/
def noticeFrame (s : State) (x : Passage) : State :=
  let b := x.f.body
  let s := leave s x b
  if !x.good || !noticeFrameOk b || !lineWorks s then s
  else
    let pos := fieldAt b 2 2
    let portB := byteAt b 5 == 1
    let event := byteAt b 4
    match s.mode.role with
    | .starter => starterNotice (postNotice s pos portB (event == 0) event) pos portB event
    | .anchor => postNotice s pos portB (event == 0) event
    | _ => s

/-! ### The port input -/

/-- What a frame's TYPE does at the device (Table LNK-5); a reserved TYPE is only forwarded (R68). -/
def typedFrame (s : State) (x : Passage) (readings : List Word) : State :=
  match frameType x.f.body with
  | 1 => heatFrame s x
  | 2 => batonFrame s x
  | 3 => countFrameIn s x
  | 4 => syncFrame s x readings
  | 5 => relayFrame s x
  | 6 => noticeFrame s x
  | _ => leave s x x.f.body

/-- A frame that began inside another is discarded up to its terminator; its errors count (R76, R96). -/
def skipFrame (s : State) (p : Port) (f : LineFrame) : State :=
  gapErrors (s.onPort p (fun l => { l with skip := f.term = .sofInside })) p (invalidSymbols f + f.gapBad)

/-- A frame passes the forwarding engine behind the injector: counted, and discarded where the forwarding mode has no way for it
(R70, R71, R74, R75). A swap whose instant has come by its end takes effect first (R222). -/
def passFrame (s : State) (p : Port) (f : LineFrame) (readings : List Word) : State :=
  let s := swapFirst (timeJudge (s.reach (f.tin / 64 + (f.body.length + 8) * 8)))
  if (lport s p).skip then skipFrame s p f
  else
    let s := s.onPort p (fun l => { l with skip := f.term = .sofInside })
    match route s p f.tin with
    | none => countFrame s p f true
    | some out =>
      let head := s.time.line - (f.body.length + 8 - 33) * 8
      typedFrame (countFrame s p f false) { p, out, f, v := verdict f, tHead := head } readings

/-- A frame with one bit flipped by the injector, over the body and the CRC (Table HLT-9). -/
def corruptFrame (f : LineFrame) (ofs bit : Nat) : LineFrame :=
  let l := flipBit (f.body ++ leBytes 4 f.crc) ofs bit
  { f with body := l.take f.body.length, crc := leNat (l.drop f.body.length) }

/-- A held frame leaves in the gap behind a frame that is long enough (Table HLT-9). -/
def releaseHeld (s : State) (p : Port) (gap : Nat) (t : Nat) (readings : List Word) : State :=
  match s.inj.heldFrame with
  | some (q, h) =>
    if q == p && h.body.length + 8 + 16 ≤ gap then
      passFrame { s with inj := { s.inj with heldFrame := none } } p { h with tin := t, tout := t } readings
    else s
  | none => s

/-- A frame arrives at a port: ignored unless the port is UP (R70); the port's injector sees it first (R512, R513). -/
def frameIn (s : State) (p : Port) (f : LineFrame) (readings : List Word) : State :=
  if !isUp s p || s.mode.porst then s
  else
    let held := s.inj.heldFrame.isSome
    let (s, a) := injFrame s (portNo p) (frameType f.body)
    match a with
    | some a =>
      match a.action with
      | 0 => s
      | 1 => passFrame s p (corruptFrame f a.ofs a.bit) readings
      | _ => if held then passFrame s p f readings else { s with inj := { s.inj with heldFrame := some (p, f) } }
    | none =>
      let t := f.tin + (f.body.length + 16) * 512
      let s := passFrame s p f readings
      if held then releaseHeld s p f.gap t readings else s

/-- A frame of the TYPEs and roles of a row arrives; another frame is none of that row. -/
def rowFrame (ok : Bool) (p : Port) (f : LineFrame) (readings : List Word) (s : State) : Result :=
  if ok then .next (frameIn s p f readings) else .next s

/-- FRAME_FORWARD: a frame of any TYPE passes the device (R75). -/
def execFrameForward (p : Port) (f : LineFrame) (readings : List Word) (s : State) : Result := .next (frameIn s p f readings)

/-- RSVD_TYPE_FRAME: a frame with a reserved TYPE (R68). -/
def execRsvdTypeFrame (p : Port) (f : LineFrame) (s : State) : Result := rowFrame (rsvdType (frameType f.body)) p f [] s

/-- SYNC_FRAME: a SYNC frame passes the device (R42, R43); the readings are those of the sample instants that a forward step
fires. -/
def execSyncFrame (p : Port) (f : LineFrame) (readings : List Word) (s : State) : Result :=
  rowFrame (frameType f.body == 4) p f readings s

/-- HEAT_RECEIVE: a heat passes a node or the anchor (R101, R108, R163). -/
def execHeatReceive (p : Port) (f : LineFrame) (s : State) : Result :=
  rowFrame (frameType f.body == 1 && s.mode.role != .starter) p f [] s

/-- HEAT_RETURN: a heat comes back to the device that sent it (R147). -/
def execHeatReturn (p : Port) (f : LineFrame) (s : State) : Result :=
  rowFrame (frameType f.body == 1 && (s.mode.role == .starter || s.mode.role == .anchor)) p f [] s

/-- BATON_RECEIVE: a baton passes a node or the anchor (R120 to R125). -/
def execBatonReceive (p : Port) (f : LineFrame) (s : State) : Result :=
  rowFrame (frameType f.body == 2 && s.mode.role != .starter) p f [] s

/-- BATON_RETURN: a baton comes back to the device that sent it (R160). -/
def execBatonReturn (p : Port) (f : LineFrame) (s : State) : Result :=
  rowFrame (frameType f.body == 2 && (s.mode.role == .starter || s.mode.role == .anchor)) p f [] s

/-- COUNT_RECEIVE: a COUNT frame passes a node or the anchor (R151). -/
def execCountReceive (p : Port) (f : LineFrame) (s : State) : Result :=
  rowFrame (frameType f.body == 3 && s.mode.role != .starter) p f [] s

/-- COUNT_RETURN: the COUNT frame comes back to the starter (R154). -/
def execCountReturn (p : Port) (f : LineFrame) (s : State) : Result :=
  rowFrame (frameType f.body == 3 && s.mode.role == .starter) p f [] s

/-- LOOPBACK_NOTICE_FRAME: a LOOPBACK NOTICE frame (R82, R159). -/
def execLoopbackNoticeFrame (p : Port) (f : LineFrame) (s : State) : Result := rowFrame (frameType f.body == 6) p f [] s

/-- RELAY_RECEIVE: a RELAY frame (R436). -/
def execRelayReceive (p : Port) (f : LineFrame) (s : State) : Result := rowFrame (frameType f.body == 5) p f [] s

end Sys2Proof.Machine
end

