-- ==== Sys2Proof/Machine/Registers.lean ====
section
/-! DEFINITION. Registers: the sixty-four live registers (chapter 08) as one read and one write of a path, over the register
operations of the owning families; and the registers of the host bus unit itself (chapter 07). -/

namespace Sys2Proof.Machine

open Sys2Proof

/-! ### EVQ_DATA (R205) -/

/-- Word i of an entry (Table REG-9). -/
def eventWord (e : Event) (i : Nat) : Word :=
  match i with
  | 0 => word (e.code.toNat + 256 * e.argx.toNat)
  | 1 => e.arg
  | 2 => word e.lt.toNat
  | _ => word (e.lt.toNat / 65536)

/-- A read of EVQ_DATA (R205): the holder reads on, another path reads 0, and with no holder the reader becomes it. -/
def readEvq (s : State) (p : Path) : State × Word :=
  match s.evq.queue with
  | [] => (s, 0)
  | e :: r =>
    let i := s.evq.rptr
    match s.evq.holder with
    | none => ({ s with evq := { s.evq with holder := some p, rptr := 1, holdT := s.time.line } }, eventWord e 0)
    | some h =>
      if h != p then (s, 0)
      else if 3 ≤ i then ({ s with evq := { s.evq with queue := r, holder := none, rptr := 0 } }, eventWord e 3)
      else ({ s with evq := { s.evq with rptr := i + 1, holdT := s.time.line } }, eventWord e i)

/-! ### CPLQ_DATA (R183) -/

/-- A read of CPLQ_DATA (R183). -/
def readCplq (s : State) (p : Path) : State × Word :=
  let c := cmdPath s p
  match c.cplq with
  | [] => (s, 0)
  | e :: r =>
    let w := e.getD c.rptr 0
    if 3 ≤ c.rptr then (s.setCmd p { c with cplq := r, rptr := 0 }, w)
    else (s.setCmd p { c with rptr := c.rptr + 1 }, w)

/-! ### CHIN, CHFLT and CHFORCE (R198) -/

/-- The CHIN capture of a path; a line group reads all three registers from one snapshot (R198). -/
def chinOf (s : State) (p : Path) : ChinCapture :=
  match p with
  | .host => s.bus.chinHost
  | .slave => s.bus.chinSlave
  | .line => {}

/-- The state with the CHIN capture of a path replaced. -/
def State.setChin (s : State) (p : Path) (c : ChinCapture) : State :=
  match p with
  | .host => { s with bus := { s.bus with chinHost := c } }
  | .slave => { s with bus := { s.bus with chinSlave := c } }
  | .line => s

/-- A read of CHIN captures CHFLT and CHFORCE of its snapshot (R198). -/
def readChin (s : State) (p : Path) : State × Word :=
  (s.setChin p { chflt := some s.cyc.snap.faults, chforce := some s.cyc.snap.forced }, s.cyc.snap.sensed)

/-- A read of CHFLT: the captured value once, else the latest snapshot's (R198). -/
def readChflt (s : State) (p : Path) : State × Word :=
  match (chinOf s p).chflt with
  | some w => (s.setChin p { chinOf s p with chflt := none }, w)
  | none => (endCapture s p, s.cyc.snap.faults)

/-- A read of CHFORCE: the captured value once, else the latest snapshot's (R198). -/
def readChforce (s : State) (p : Path) : State × Word :=
  match (chinOf s p).chforce with
  | some w => (s.setChin p { chinOf s p with chforce := none }, w)
  | none => (endCapture s p, s.cyc.snap.forced)

/-! ### Words of the host bus and serial registers -/

/-- CSP_CTRL (Table REG-19). -/
def cspCtrlWord (s : State) : Word :=
  pack [(b2n s.ser.spEn, 0), (b2n s.ser.running.isSome, 2),
    (match s.ser.running with | some j => j.code % 8 | none => 0, 3), (b2n s.ser.spCrc, 6), (b2n s.ser.spLap, 7),
    (b2n s.ser.spLen, 8), (b2n s.ser.spPart, 9), (b2n s.ser.readyTo, 10)]

/-- XIP_SEL and XIP_BASE as written last (R178). -/
def xipFields (s : State) : Nat × Nat := s.ser.xipDue.getD (s.bus.xipSel, s.bus.xipBase)

/-- MWIN_CTRL (Table HBU-6). -/
def mwinCtrlWord (s : State) : Word :=
  pack [(b2n s.bus.xipEn, 0), ((xipFields s).1 % 8, 1), ((xipFields s).2 % 16, 4), (b2n s.bus.xipRef, 9),
    (b2n (s.ser.erase == some s.bus.xipSel), 10), (b2n s.bus.winErr, 11), (b2n s.bus.timeout, 12)]

/-! ### Reads (R190, R191, R195) -/

/-- The register is served in MINIMAL (Table REG-2). -/
def servedMin (a : Nat) : Bool :=
  !(decide (0x1C ≤ a && a ≤ 0x2C) || a == 0x48 || a == 0x4E || a == 0x50 || decide (0x54 ≤ a && a ≤ 0x60) || a == 0x6E)

/-- The value of a register whose read has no side effect, as a path sees it (Table REG-2). -/
def regWord (s : State) (p : Path) (a : Nat) : Word :=
  match a with
  | 0x00 => 0x4D16
  | 0x02 => 0x0110
  | 0x04 => s.mode.fwver
  | 0x06 => nodeposWord s
  | 0x08 => modeWord s
  | 0x0A => modecmdWord s
  | 0x0C => s.mode.reason
  | 0x0E => healthWord s
  | 0x10 => intaWord s
  | 0x12 => s.evq.intaEn
  | 0x14 => s.evq.intbStat
  | 0x16 => s.evq.intbEn
  | 0x1A => evqLevelWord s p
  | 0x1C => cfgSetWord s
  | 0x1E => word s.cfg.word
  | 0x24 => cfgStatWord s
  | 0x26 => get64 s.cfg.gun 0
  | 0x28 => get64 s.cfg.gun 1
  | 0x2A => get64 s.cfg.gun 2
  | 0x2C => get64 s.cfg.gun 3
  | 0x2E => ltimeLatchWord s
  | 0x30 => get64 s.time.latch 0
  | 0x32 => get64 s.time.latch 1
  | 0x34 => get64 s.time.latch 2
  | 0x36 => get64 s.time.latch 3
  | 0x38 => syncStatWord s
  | 0x3C => cmdqStatWord (cmdPath s p) p
  | 0x40 => cplqLevelWord (cmdPath s p)
  | 0x42 => wdhQuestionWord s
  | 0x46 => wdhStatWord s
  | 0x48 => s.field.chout
  | 0x52 => safestatWord s
  | 0x56 => adcFlevelWord s
  | 0x5A => adcStatWord s
  | 0x5E => panelCtrlWord s
  | 0x60 => encPosWord s
  | 0x62 => updCtrlWord s
  | 0x64 => updStatWord s
  | 0x66 => updProgWord s
  | 0x68 => lockStatWord s
  | 0x6C => traceCtrlWord s (tracePtr s p)
  | 0x6E => injCtrlWord s
  | 0x70 => cspCtrlWord s
  | 0x72 => mwinCtrlWord s
  | 0x74 => linkStatWord s
  | 0x76 => linkCtrlWord s
  | 0x78 => mediaStatWord s
  | 0x7A => s.bus.scratch
  | 0x7C => keyseqWord (keyOf s p)
  | 0x7E => buscfgWord s
  | _ => 0

/-- A read of the register at an even address by a path, with the status of the entry on the line path (R191, R195, R198). -/
def regRead (s : State) (v : Acc) (a : Nat) : State × Word × Nat :=
  let p := v.path
  let keep := endCapture s p
  if v.mode == .minimal && !servedMin a then (keep, 0, 0)
  else if p = .line && lineBars false a then (s, 0, 0x04)
  else
    match a with
    | 0x18 => let r := readEvq keep p; (r.1, r.2, 0)
    | 0x1C => (windowUse keep p, regWord keep p a, 0)
    | 0x1E => (windowUse keep p, regWord keep p a, 0)
    | 0x20 => readCfgData keep v
    | 0x38 => (timeJudge keep, regWord (timeJudge keep) p a, 0)
    | 0x3E => let r := readCplq keep p; (r.1, r.2, 0)
    | 0x4A => let r := readChin s p; (r.1, r.2, 0)
    | 0x4C => let r := readChflt s p; (r.1, r.2, 0)
    | 0x4E => let r := readChforce s p; (r.1, r.2, 0)
    | 0x54 => let r := readAdcFifo keep v; (r.1, r.2, 0)
    | 0x5C => let r := readPanelEvt keep v; (r.1, r.2, 0)
    | 0x6A => let r := readTraceData keep v; (r.1, r.2, 0)
    | _ => (keep, regWord keep p a, 0)

/-! ### CMDQ_DOOR and CMDQ_STAT (R179 to R181, Table HBU-11) -/

/-- The descriptor of eight words (Table HBU-7). -/
def wordsDesc (l : List Word) : Descriptor :=
  let w := fun i => (l.getD i 0).toNat
  let b0 := w 4 + 65536 * w 5
  let b1 := w 6 + 65536 * w 7
  { code := w 0 % 256, sub := w 0 / 256, word1 := w 1, arg0 := w 2, arg1 := w 3, off0 := natBits b0 0 20, len0 := natBits b0 20 12,
    off1 := natBits b1 0 20, len1 := natBits b1 20 12 }

/-- The command that a descriptor's CODE names, posted (Table HBU-9); a reserved CODE is refused at posting (R180). -/
def postCode (s : State) (p : Path) (d : Descriptor) : Result :=
  match d.code with
  | 0x01 => execNop p d s
  | 0x02 => execLineStart p d s
  | 0x03 => execLineStop p d s
  | 0x04 => execEnum p d s
  | 0x05 => execLineTxn p d s
  | 0x06 => execGunSchedule p d s
  | 0x07 => execRelayPull p d s
  | 0x08 => execTakeoverEnd p d s
  | 0x10 => execAdcCapt (.queue p d) s
  | 0x11 => execCspXfer (.queue p d) s
  | 0x12 => execFlashRead (.queue p d) s
  | _ => .next (postDesc s p d id)

/-- The state that a posting answers; a posting never stops. -/
def postState (s : State) (p : Path) (d : Descriptor) : State :=
  match postCode s p d with
  | .next t => t
  | _ => s

/-- A write to CMDQ_DOOR: a word of the assembly, and with the eighth the posting (R179). -/
def regCmdqDoor (s : State) (v : Acc) (w : Word) : Done :=
  let s := beginWrite s v.path
  let c := cmdPath s v.path
  let asm := c.asm ++ [w]
  if asm.length < 8 then (s.setCmd v.path { c with asm }, 0)
  else (postState (s.setCmd v.path { c with asm := [] }) v.path (wordsDesc asm), 0)

/-- A write to CMDQ_STAT (Table HBU-11). -/
def regCmdqStat (s : State) (v : Acc) (w : Word) : Done :=
  regWrite s v 0x3C true false (fun s =>
    let c := cmdPath s v.path
    (s.setCmd v.path { c with asm := if bitOf w 3 then [] else c.asm, drop := c.drop && !bitOf w 4 }, 0))

/-! ### KEYSEQ and BUSCFG (R186, R187, Table HBU-12) -/

/-- A write to KEYSEQ (R186). -/
def regKeyseq (s : State) (v : Acc) (w : Word) : Done :=
  let s := endCapture s v.path
  (s.setKey v.path (keyWrite (keyOf s v.path) w s.time.line), 0)

/-- A two-bit BUSCFG field after a write: 3 is ignored (Table HBU-12). -/
def busField (old new : Nat) : Nat := if new == 3 then old else new

/-- A write to BUSCFG: every field needs the key (R187, Table HBU-12). -/
def regBuscfg (s : State) (v : Acc) (w : Word) : Done :=
  let opened := keyOpen s v.path
  let s := beginWrite s v.path
  let b := { s.bus with intaOd := bitOf w 0, intbOd := bitOf w 1, xipWait := busField s.bus.xipWait (bitsOf w 2 2)
                        hdDrive := busField s.bus.hdDrive (bitsOf w 4 2) }
  if opened then ({ s with bus := b }, 0)
  else if b = s.bus then (s, 0)
  else keyViolation s v.path 0x7E

/-! ### MWIN_CTRL (R176 to R178, R355, Table HBU-6) -/

/-- A flush of the prefetch buffer: after a window read in progress (R178), with the exit burst of R355. -/
def xipFlush (s : State) : State :=
  if s.ser.hostRead.isSome then { s with ser := { s.ser with flushDue := true } }
  else flushLines (askExit s s.bus.xipSel)

/-- XIP_SEL and XIP_BASE take new values, after a window read in progress, with the exit burst and the flush (R178, R355). -/
def xipMove (s : State) (sel base : Nat) : State :=
  if xipFields s = (sel, base) then s
  else if s.ser.hostRead.isSome then { s with ser := { s.ser with xipDue := some (sel, base) } }
  else
    let s := flushLines (askExit s s.bus.xipSel)
    { s with bus := { s.bus with xipSel := sel, xipBase := base } }

/-- XIP_EN takes a value: refused for code 6 and a device-class code (R178); a change asks for the exit burst (R355). -/
def xipSet (s : State) (en : Bool) (sel : Nat) : State :=
  if en && deviceClass s sel then { s with bus := { s.bus with xipEn := false, xipRef := true } }
  else if en == s.bus.xipEn then s
  else if en then { s with bus := { s.bus with xipEn := true }, ser := { s.ser with exitOwed := true } }
  else
    let s := flushLines (askExit s s.bus.xipSel)
    { s with bus := { s.bus with xipEn := false } }

/-- The fields of MWIN_CTRL that need no key. -/
def mwinRest (s : State) (w : Word) : State :=
  let s := { s with bus := { s.bus with xipRef := s.bus.xipRef && !bitOf w 9, winErr := s.bus.winErr && !bitOf w 11
                                        timeout := s.bus.timeout && !bitOf w 12 } }
  if bitOf w 8 then xipFlush s else s

/-- A write to MWIN_CTRL (R178, R187). -/
def regMwinCtrl (s : State) (v : Acc) (w : Word) : Done :=
  let opened := keyOpen s v.path
  let s := beginWrite s v.path
  let en := bitOf w 0
  let sel := bitsOf w 1 3
  let base := bitsOf w 4 4
  if en == s.bus.xipEn && xipFields s = (sel, base) then (mwinRest s w, 0)
  else if opened then (xipSet (xipMove (mwinRest s w) sel base) en sel, 0)
  else
    let s := if en && !s.bus.xipEn then { s with bus := { s.bus with xipRef := true } } else s
    keyViolation s v.path 0x72

/-! ### CSP_CTRL (R363, R364, R370, Table REG-19) -/

/-- The slave port is disabled: a window claim that it holds is released (R213, R370). -/
def slaveOff (s : State) : State :=
  let s := { s with ser := { s.ser with spEn := false, spOffDue := false } }
  if s.cfg.owner == some .slave then setOwner s none else s

/-- The end of a slave frame: a write of SP_EN = 0 that the port itself made takes effect (R370). -/
def slaveEnd (s : State) : State := if s.ser.spOffDue then slaveOff s else s

/-- SP_EN takes a value (R364, R368, R370). -/
def setSpEn (s : State) (p : Path) (on : Bool) : State :=
  if on then
    if s.ser.spEn then { s with ser := { s.ser with spOffDue := false } }
    else { s with ser := { s.ser with spEn := true, lap := none } }
  else if p = .slave then { s with ser := { s.ser with spOffDue := s.ser.spEn } }
  else if s.ser.spEn then slaveOff s
  else s

/-- CM_ABORT ends a running CSP_XFER or medium transfer, and nothing else (R363). -/
def cmAbort (s : State) : State :=
  match s.ser.running with
  | some .medium => mediumEnd s false []
  | some (.xfer c l cmd w n f) => serRun (jobFail s (.xfer c l cmd w n f) 0x0103)
  | _ => s

/-- The fields of CSP_CTRL that are served in every mode. -/
def cspRest (s : State) (w : Word) : State :=
  let s := { s with ser := { s.ser with
    spCrc := s.ser.spCrc && !bitOf w 6, spLap := s.ser.spLap && !bitOf w 7, spLen := s.ser.spLen && !bitOf w 8
    spPart := s.ser.spPart && !bitOf w 9, readyTo := s.ser.readyTo && !bitOf w 10 } }
  if bitOf w 1 then cmAbort s else s

/-- A write to CSP_CTRL (R192): SP_EN changes in SETUP alone. -/
def regCspCtrl (s : State) (v : Acc) (w : Word) : Done :=
  let s := beginWrite s v.path
  let on := bitOf w 0
  let change := on != (s.ser.spEn && !s.ser.spOffDue)
  if change && v.mode != .setup then
    match v.path with
    | .line => (s, 0x05)
    | _ => denyWrite (cspRest s w) v.path 0x70 1
  else (setSpEn (cspRest s w) v.path on, 0)

/-! ### Writes (R190 to R195) -/

/-- A write of a path to the register at an even address (Table REG-2). -/
def regWriteTo (s : State) (v : Acc) (a : Nat) (w : Word) : Done :=
  let plain := fun (min : Bool) (f : State → State) => regWrite s v a min false (fun s => (f s, 0))
  if v.path = .line && lineBars true a then (s, 0x04)
  else
    match a with
    | 0x0A => regModecmd s v w
    | 0x10 => plain true (fun s => { s with evq := { s.evq with intaStat := s.evq.intaStat &&& ~~~(w &&& 0x7FFF) } })
    | 0x12 => plain true (fun s => { s with evq := { s.evq with intaEn := w } })
    | 0x14 => plain true (fun s => { s with evq := { s.evq with intbStat := s.evq.intbStat &&& ~~~w } })
    | 0x16 => plain true (fun s => { s with evq := { s.evq with intbEn := w &&& 0x3FFF } })
    | 0x1A => plain true (fun s => { s with evq := { s.evq with ovf := s.evq.ovf && !bitOf w 13 } })
    | 0x1C => regCfgSet s v w
    | 0x1E => regCfgAddr s v w
    | 0x20 => regCfgData s v w
    | 0x22 => regCfgCtrl s v w
    | 0x24 => regCfgStat s v w
    | 0x26 => regGunT s v 0 w
    | 0x28 => regGunT s v 1 w
    | 0x2A => regGunT s v 2 w
    | 0x2C => regGunT s v 3 w
    | 0x2E => regLtimeLatch s v w
    | 0x30 => regLtime s v 0 w
    | 0x32 => regLtime s v 1 w
    | 0x34 => regLtime s v 2 w
    | 0x36 => regLtime s v 3 w
    | 0x38 => regSyncStat s v w
    | 0x3A => regCmdqDoor s v w
    | 0x3C => regCmdqStat s v w
    | 0x44 => writeWdhAnswer s v w
    | 0x46 => plain true (fun s => { s with wdog := { s.wdog with
        early := s.wdog.early && !bitOf w 4, late := s.wdog.late && !bitOf w 5, wrong := s.wdog.wrong && !bitOf w 6 } })
    | 0x48 => regChout s v w
    | 0x4C => regChflt s v w
    | 0x4E => regChforce s v w
    | 0x50 => regSafecmd s v w
    | 0x56 => plain false (fun s => { s with adc := { s.adc with fifoOvf := s.adc.fifoOvf && !bitOf w 9 } })
    | 0x58 => regAdcCmd s v w
    | 0x5A => plain false (fun s => { s with adc := { s.adc with
        calRef := s.adc.calRef && !bitOf w 4, dacFail := s.adc.dacFail && !bitOf w 5, cmdRef := s.adc.cmdRef && !bitOf w 7 } })
    | 0x5E => regPanelCtrl s v w
    | 0x62 => regUpdCtrl s v w
    | 0x64 => plain true (fun s => { s with upd := { s.upd with
        fallback := s.upd.fallback && !bitOf w 8, refused := s.upd.refused && !bitOf w 9 } })
    | 0x6C => regTraceCtrl s v w
    | 0x6E => regInjCtrl s v w
    | 0x70 => regCspCtrl s v w
    | 0x72 => regMwinCtrl s v w
    | 0x74 => plain true (fun s => { s with link := { s.link with eqBound := s.link.eqBound && !bitOf w 14 } })
    | 0x76 => writeLinkCtrl s v w
    | 0x78 => plain true (fun s => { s with media := { s.media with
        removed := s.media.removed && !bitOf w 6, err := s.media.err && !bitOf w 7 } })
    | 0x7A => plain true (fun s => { s with bus := { s.bus with scratch := w } })
    | 0x7C => regKeyseq s v w
    | 0x7E => regBuscfg s v w
    | _ => plain (servedMin a) id

/-- The even byte address that a bus address selects: {HA[6:1], 0} (Table HBU-2). -/
def regAddr (a : Nat) : Nat := a % 128 / 2 * 2

/-- A register read of a command (R172, R174). -/
def regReadRow (s : State) (p : Path) (a : Nat) : State :=
  if pathOpen s p then
    let r := regRead (hostAccess s p) (accNow s p) (regAddr a)
    match p with
    | .host => { r.1 with bus := { r.1.bus with hd := r.2.1 } }
    | _ => r.1
  else s

/-- A register write of a command; one of the slave port is a frame of its own. -/
def regWriteRow (s : State) (p : Path) (a : Nat) (w : Word) : State :=
  slaveEnd (served s p (fun s v => regWriteTo s v (regAddr a) w))

/-! ### The rows -/

/-- REGISTER_WRITE: a write of a path to a register; a host write with one lane changes nothing and posts BUS_ERROR (R170,
R191). -/
def execRegisterWrite (via : Path) (addr : Nat) (w : Word) (both : Bool) (s : State) : Result :=
  if via = .host && !both then
    if pathOpen s .host then .next (busError (endCapture (hostAccess s .host) .host) 1 (regAddr addr)) else .next s
  else .next (regWriteRow s via addr w)

/-- EVQ_DATA_READ (R205). -/
def execEvqDataRead (via : Path) (s : State) : Result := .next (regReadRow s via 0x18)

/-- EVQ_HOLD_LAPSE: 10 µs after the holder's last read the hold lapses, and the entry stays (R205). -/
def execEvqHoldLapse (s : State) : Result :=
  if s.evq.holder.isNone then .next s
  else
    let s := s.reach (s.evq.holdT + 10000)
    .next { s with evq := { s.evq with holder := none, rptr := 0 } }

/-- CPLQ_DATA_READ (R183); the line path has no completion queue. -/
def execCplqDataRead (via : Path) (s : State) : Result := .next (regReadRow s via 0x3E)

/-- CHIN_READ (R198). -/
def execChinRead (via : Path) (s : State) : Result := .next (regReadRow s via 0x4A)

/-- KEYSEQ_WRITE (R186). -/
def execKeyseqWrite (via : Path) (w : Word) (s : State) : Result := .next (regWriteRow s via 0x7C w)

/-- KEY_LAPSE: an open key not consumed within 100 µs lapses (R186). -/
def execKeyLapse (via : Path) (s : State) : Result :=
  let k := keyOf s via
  if k.st != .opened then .next s
  else .next ((s.reach (k.openT + 100000)).setKey via { k with st := .idle })

/-- CMDQ_ASM_CLR: a write of CMDQ_STAT.ASM_CLR (R179). -/
def execCmdqAsmClr (via : Path) (s : State) : Result := .next (regWriteRow s via 0x3C 0x0008)

/-- XIP_ENABLE: a write of MWIN_CTRL's window fields (R178). -/
def execXipEnable (via : Path) (en : Bool) (sel base : Nat) (s : State) : Result :=
  .next (regWriteRow s via 0x72 (pack [(b2n en, 0), (sel % 8, 1), (base % 16, 4)]))

/-- XIP_FLUSH: a write of MWIN_CTRL.XIP_FLUSH that leaves the window fields (R178). -/
def execXipFlush (via : Path) (s : State) : Result :=
  .next (regWriteRow s via 0x72 (mwinCtrlWord s &&& 0x00FF ||| 0x0100))

/-- CM_ABORT: a write of CSP_CTRL.CM_ABORT that leaves SP_EN (R363). -/
def execCmAbort (via : Path) (s : State) : Result := .next (regWriteRow s via 0x70 (word (2 + b2n s.ser.spEn)))

/-- SP_ENABLE: a write of CSP_CTRL.SP_EN (R364, R370). -/
def execSpEnable (via : Path) (on : Bool) (s : State) : Result := .next (regWriteRow s via 0x70 (word (b2n on)))

end Sys2Proof.Machine
end

