-- ==== Sys2Proof/Machine/HostBus.lean ====
section
/-! DEFINITION. HostBus: the host's bus cycles (R169 to R177, R188, R189): decode errors, window accesses, and strobes raised
early. -/

namespace Sys2Proof.Machine

open Sys2Proof

/-! ### Window accesses (R174, R175, Table HBU-5) -/

/-- The even offset that a window cycle selects: {HA[23:1], 0} (Table HBU-2). -/
def winOfs (o : Nat) : Nat := o % 0x1000000 / 2 * 2

/-- A window access begins: what any other access ends (R174, R198). -/
def winBegin (s : State) : State := endCapture (hostAccess s .host) .host

/-- A reserved offset, or a write to a read-only one: WIN_ERR and BUS_ERROR (R175). -/
def winError (s : State) (ofs : Nat) : State := busError { s with bus := { s.bus with winErr := true } } 3 ofs

/-- The state with bytes of a word written to SRAM under the enabled lanes. -/
def storeLanes (s : State) (a : Nat) (w : Word) (upper lower : Bool) : State :=
  let s := if lower then s.store a [byte w.toNat] else s
  if upper then s.store (a + 1) [byte (w.toNat / 256)] else s

/-- A window write (R170, R174, R175). -/
def winWrite (s : State) (o : Nat) (w : Word) (upper lower : Bool) : State :=
  let x := winOfs o
  let a := apertureBase + x
  if upper && lower && x < 0x80000 then
    match s.bus.heldWrite with
    | some (h, l) =>
      if x % 4 == 2 && h + 2 == a then
        let s := s.store h (leBytes 2 l.toNat ++ leBytes 2 w.toNat)
        winBegin { s with bus := { s.bus with heldWrite := none } }
      else
        let s := winBegin s
        if x % 4 == 0 then { s with bus := { s.bus with heldWrite := some (a, w) } } else storeLanes s a w true true
    | none =>
      let s := winBegin s
      if x % 4 == 0 then { s with bus := { s.bus with heldWrite := some (a, w) } } else storeLanes s a w true true
  else
    let s := winBegin s
    if !upper && !lower then s
    else if x < 0x80000 then storeLanes s a w upper lower
    else winError s x

/-- HD after a read that drives the enabled lanes. -/
def driveLanes (old w : Word) (upper lower : Bool) : Word :=
  let h := if upper then w.toNat / 256 else old.toNat / 256
  let l := if lower then w.toNat % 256 else old.toNat % 256
  word (l + 256 * h)

/-- The SRAM address behind a window offset of the aperture or the capture view. -/
def winSram (x : Nat) : Nat := if x < 0x80000 then apertureBase + x else captureBase + (x - 0x80000)

/-- A window read (R170, R174 to R176). -/
def winRead (s : State) (o : Nat) (upper lower : Bool) : State :=
  let x := winOfs o
  let held := s.bus.heldRead
  let s := winBegin s
  if !upper && !lower then s
  else if 0x800000 ≤ x then windowRead s x
  else if 0x90000 ≤ x then
    let s := winError s x
    { s with bus := { s.bus with hd := driveLanes s.bus.hd 0xFFFF upper lower } }
  else
    let a := winSram x
    let now := word (memNat s a 2)
    let w := match held with
      | some (h, u) => if h == a then u else now
      | none => now
    let next := if x % 4 == 0 then some (a + 2, word (memNat s (a + 2) 2)) else none
    { s with bus := { s.bus with hd := driveLanes s.bus.hd w upper lower, heldRead := next } }

/-! ### The rows -/

/-- BUS_DECODE_ERROR: both selects or both strobes are asserted (R170). -/
def execBusDecodeError (read : Bool) (addr : Nat) (s : State) : Result :=
  if pathOpen s .host then
    let s := winBegin s
    let s := if read then { s with bus := { s.bus with hd := 0xFFFF } } else s
    .next (busError s 2 addr)
  else .next s

/-- APERTURE_WRITE: a window write (R174). -/
def execApertureWrite (ofs : Nat) (w : Word) (upper lower : Bool) (s : State) : Result :=
  if pathOpen s .host then .next (winWrite s ofs w upper lower) else .next s

/-- APERTURE_READ: a window read below the direct-execution window (R174). -/
def execApertureRead (ofs : Nat) (upper lower : Bool) (s : State) : Result :=
  if pathOpen s .host then .next (winRead s (ofs % 0x800000) upper lower) else .next s

/-- XIP_READ: a read at an offset within the direct-execution window (R176, R351). -/
def execXipRead (ofs : Nat) (s : State) : Result :=
  if pathOpen s .host then .next (winRead s (0x800000 + ofs % 0x800000) true true) else .next s

/-- An access as the device completes it after an early strobe: a read's data are lost; a write acts where HD had been captured
(R189). -/
def earlyAccess (s : State) (a : HostAccess) (captured : Bool) : State :=
  let lost := fun (t : State) => { t with bus := { t.bus with hd := s.bus.hd } }
  match a with
  | .regRead n => lost (regReadRow s .host n)
  | .regWrite n w both =>
    if !captured then winBegin s
    else if both then regWriteRow s .host n w
    else busError (winBegin s) 1 (regAddr n)
  | .winRead o u l =>
    let t := lost (winRead s o u l)
    { t with ser := { t.ser with hostGone := t.ser.hostRead.isSome } }
  | .winWrite o w u l => if captured then winWrite s o w u l else winBegin s

/-- The address that BUS_ERROR names for an access (Table REG-11). -/
def accessAddr (a : HostAccess) : Nat :=
  match a with
  | .regRead n => regAddr n
  | .regWrite n _ _ => regAddr n
  | .winRead o _ _ => winOfs o
  | .winWrite o _ _ _ => winOfs o

/-- HOST_STROBE_EARLY: the host raises the strobe while HWAIT_N is asserted, in a waiting window read or in an access of its
own (R189). -/
def execHostStrobeEarly (a : HostAccess) (captured : Bool) (s : State) : Result :=
  if s.ser.hostRead.isSome && !s.ser.hostGone then
    .next (busError { s with ser := { s.ser with hostGone := true } } 5 (s.ser.hostRead.getD 0))
  else if pathOpen s .host then .next (busError (earlyAccess s a captured) 5 (accessAddr a))
  else .next s

end Sys2Proof.Machine
end

