-- ==== Sys2Proof/Machine/Opcodes.lean ====
section
/-! DEFINITION. Opcodes: PING, REG_READ and REG_WRITE of the line path (R134, R136, R137, Table ACY-8). -/

namespace Sys2Proof.Machine

open Sys2Proof

/-- The identity and status block of PING (Table ACY-8). -/
def pingBlock (s : State) : List Byte :=
  wordsToBytes ([0x00, 0x04, 0x06, 0x08, 0x0C, 0x0E, 0x74, 0x38].map (regWord s .line))

/-- PING (R134). -/
def pingLine (s : State) (t : Txn) : State := endTxn s t.id 0 (pingBlock s ++ t.data) true

/-- The entries of a REG_READ in order, up to the first refused one: the state, the values read, and the status (R136). -/
def readGroup (s : State) (v : Acc) (l : List Byte) : State × List Word × Nat :=
  match l with
  | [] => (s, [], 0)
  | a :: r =>
    let x := regRead s v a.toNat
    if x.2.2 != 0 then (x.1, [], x.2.2)
    else
      let y := readGroup x.1 v r
      (y.1, x.2.1 :: y.2.1, y.2.2)

/-- REG_READ: one group in the mode at its start (R136, R137). -/
def regReadLine (s : State) (t : Txn) : State :=
  if t.data.any (fun b => lineBars false b.toNat) then endTxn s t.id 0x04 [] false
  else
    let g := readGroup s (accNow s .line) t.data
    endTxn g.1 t.id g.2.2 (wordsToBytes g.2.1) true

/-- The entries of a REG_WRITE. -/
def writeEntries (n : Nat) (l : List Byte) : List (Nat × Word) :=
  match n with
  | 0 => []
  | k + 1 => if l.length < 4 then [] else (byteAt l 0, word (fieldAt l 2 2)) :: writeEntries k (l.drop 4)

/-- One entry of a REG_WRITE runs; the command of a MODECMD entry waits for the end of the group (R137). -/
def writeEntry (s : State) (v : Acc) (a : Nat) (w : Word) : Done :=
  if a == 0x0A then (modecmdTake s v w, 0) else regWriteTo s v a w

/-- The entries of a REG_WRITE in order, up to the first refused one: the state, the entries executed, and the status (R136). -/
def writeGroup (s : State) (v : Acc) (n : Nat) (l : List (Nat × Word)) : State × Nat × Nat :=
  match l with
  | [] => (s, n, 0)
  | (a, w) :: r =>
    let x := writeEntry s v a w
    if x.2 != 0 then (x.1, n, x.2) else writeGroup x.1 v (n + 1) r

/-- The mode commands that the executed entries of a group gave, after the group, judged in the mode at its start (R137, and
05, Close finishes). -/
def groupModes (m : Mode) (s : State) (l : List (Nat × Word)) : State :=
  modecmdRun m s ((l.filter (fun e => e.1 == 0x0A)).map (·.2))

/-- REG_WRITE: one group in the mode at its start (R136, R137). -/
def regWriteLine (s : State) (t : Txn) : State :=
  let l := writeEntries 8 t.data
  if l.any (fun e => lineBars true e.1) then endTxn s t.id 0x04 [] false
  else
    let v := accNow s .line
    let g := writeGroup s v 0 l
    endTxn (groupModes v.mode g.1 (l.take g.2.1)) t.id g.2.2 [byte g.2.1, 0] true

/-- PING: a held transaction executes (R134). -/
def execPing (bcast anchor : Bool) (tag : Nat) (s : State) : Result := withTxn s bcast anchor tag 0x01 pingLine

/-- REG_READ: a held transaction executes (R136). -/
def execRegRead (bcast anchor : Bool) (tag : Nat) (s : State) : Result := withTxn s bcast anchor tag 0x02 regReadLine

/-- REG_WRITE: a held transaction executes (R136). -/
def execRegWrite (bcast anchor : Bool) (tag : Nat) (s : State) : Result := withTxn s bcast anchor tag 0x03 regWriteLine

end Sys2Proof.Machine
end

