-- ==== Sys2Proof/Machine/Security.lean ====
section
/-! DEFINITION. Security: the ends of the crypto engine's operations, the floors of the replay windows, and the sealed opcodes
of the owner lock, the epoch and the bindings (chapter 19, R152, R153). -/

namespace Sys2Proof.Machine

open Sys2Proof

/-! ### Opening a sealed record (R460, R461) -/

/-- The sender of an origin: 0 in a starter baton, 0xFFE in an anchor baton (R460). -/
def originSender (anchor : Bool) : Nat := if anchor then 0xFFE else 0

/-- The state with the window of an origin replaced. -/
def setRecWindow (s : State) (anchor : Bool) (w : Window) : State :=
  if anchor then { s with sec := { s.sec with winA := w } } else { s with sec := { s.sec with winS := w } }

/-- Removes the first transaction equal to t. -/
def dropSame (l : List Txn) (t : Txn) : List Txn :=
  match l with
  | [] => []
  | x :: r => if x = t then r else x :: dropSame r t

/-- A record that fails check 1 or 2 of R460: SEAL_FAIL whatever its tag state, and a tag that it does not own. -/
def sealBad (s : State) (t : Txn) : State :=
  let s := sealFail s (originSender t.anchor) 0x08
  if t.bcast then post s 0x49 t.op (word (t.tag % 256)) else statusOnly s t 0x08

/-- An opened record joins the held transactions; its status ends it where it has one. -/
def openedTxn (s : State) (t : Txn) (status : Nat) : State :=
  let s := { s with txn := { s.txn with held := s.txn.held ++ [t] } }
  if status != 0 then finishTxn s { t with status } else admitPlain s t

/-- Check 3 of R460 on a new transaction: the window takes the nonce; one that raises H is held until its floor is written, and
with PWRFAIL_N asserted no floor is written (R459, R461). -/
def openNew (s : State) (t : Txn) : State :=
  let e := nonceEpoch t.nonce
  let c := nonceCounter t.nonce
  let replay := openedTxn (sealFail s (originSender t.anchor) 0x09) t 0x09
  if e == 0 || e == 0xFFFFF then replay
  else
    match windowTake (recWindow s t.anchor) e c with
    | none => replay
    | some w =>
      if !raisesH (recWindow s t.anchor) e c then openedTxn (setRecWindow s t.anchor w) t 0
      else if s.mode.pwrfail then openedTxn s t 0x10
      else { s with txn := { s.txn with held := s.txn.held ++ [{ t with phase := .floor }] } }

/-- The engine has opened a record: checks 1 and 2 of R460, then Table ACY-7, which a broadcast has passed in its own form. -/
def openDone (s : State) (t : Txn) : State :=
  if nonceSender t.nonce != originSender t.anchor then sealBad s t
  else
    match Config.gcmOpen (sealKey s) t.nonce (t.head ++ lineIdBytes s) t.data t.gcmTag with
    | none => sealBad s t
    | some p => if t.bcast then openNew s { t with data := p } else judgeTagWith openNew s { t with data := p }

/-- The engine has sealed a response: it is ready, in the order of readiness (R455, R456, Table SEC-5). -/
def sealDone (s : State) (t : Txn) : State :=
  let r := sealedWith s (responseOf t) t.sealNonce
  let s := { s with txn := { s.txn with held := dropTxn s.txn.held t.id } }
  makeReady s r

/-- The engine has sealed a status-only response (R119). -/
def noteDone (s : State) (r : Response) : State :=
  makeReady { s with txn := { s.txn with sealing := dropResponse s.txn.sealing r } }
    (sealedWith s r ((r.sealed_.getD ([], [])).1))

/-- CRYPTO_OP_DONE: the operation that the engine runs completes and releases its context (R468); a digest or a preparation
gives its result under the row of its user. -/
def execCryptoOpDone (s : State) : Result :=
  if s.mode.logicReset then .next s
  else
    match cryptoRunning s.sec.ops with
    | none => .next s
    | some o =>
      let s := cryptoEnd s o
      match o.for_ with
      | .openTxn id =>
        match s.txn.opening.find? (fun x => x.id == id) with
        | some x => .next (openDone { s with txn := { s.txn with opening := dropSame s.txn.opening x } } x)
        | none => .next s
      | .sealTxn id =>
        match txnOf s id with
        | some x => if x.phase == .sealing then .next (sealDone s x) else .next s
        | none => .next s
      | .sealNote id =>
        match s.txn.sealing.find? (fun r => r.id == id) with
        | some r => .next (noteDone s r)
        | none => .next s
      | _ => .next s

/-- The window and the floor of an origin take a nonce (R461). -/
def floorTake (s : State) (anchor : Bool) (e c : Nat) (w : Window) : State :=
  let s := setRecWindow s anchor w
  if anchor then { s with sec := { s.sec with floorA := (e, c) } } else { s with sec := { s.sec with floorS := (e, c) } }

/-- FLOOR_WRITE_DONE: the floor record of the oldest request that waits for one is written, and the request may execute; a write
that failed refuses it with 0x0706 and leaves H unchanged (R461). -/
def execFloorWriteDone (ok : Bool) (s : State) : Result :=
  match s.txn.held.find? (fun t => t.phase == .floor) with
  | none => .next s
  | some t =>
    if s.mode.logicReset then .next s
    else
      let e := nonceEpoch t.nonce
      let c := nonceCounter t.nonce
      let s := { s with txn := { s.txn with held := dropSame s.txn.held t } }
      if !ok then .next (openedTxn s { t with phase := .held, resp := leBytes 2 0x0706 } 0x0F)
      else
        match windowTake (recWindow s t.anchor) e c with
        | none => .next (openedTxn (sealFail s (originSender t.anchor) 0x09) t 0x09)
        | some w =>
          let s := if raisesH (recWindow s t.anchor) e c then floorTake s t.anchor e c w else setRecWindow s t.anchor w
          .next (openedTxn s t 0)

/-! ### The sealed opcodes -/

/-- The owner lock takes a state: a change writes REASON and posts LOCK_CHANGED; LOCK_STAT answers either way (R470). -/
def lockTo (s : State) (t : Txn) (b : Bool) : State :=
  let changed := s.sec.locked != b
  let s := if changed then
      let s := { s with sec := { s.sec with locked := b } }
      let s := s.reason (if b then 0x0803 else 0x0804)
      post s 0x83 0 (lockStatWord s)
    else s
  endTxn s t.id 0 (wordsToBytes [lockStatWord s]) changed

/-- A held sealed transaction whose record in the keys region needs flash: not begun while PWRFAIL_N is asserted (R248). -/
def withFlashTxn (s : State) (b a : Bool) (t op action : Nat) (f : State → Txn → State) : Result :=
  withTxn s b a t op (fun s x => if s.mode.pwrfail || (op != 0x24 && byteAt x.data 0 != action) then s else f s x)

/-- OWNER_LOCK_SET: a sealed OWNER_LOCK with action 1 (R470). -/
def execOwnerLockSet (bcast anchor : Bool) (tag : Nat) (s : State) : Result :=
  withFlashTxn s bcast anchor tag 0x20 1 (fun s t => lockTo s t true)

/-- OWNER_LOCK_CLEAR: a sealed OWNER_LOCK with action 0 (R470). -/
def execOwnerLockClear (bcast anchor : Bool) (tag : Nat) (s : State) : Result :=
  withFlashTxn s bcast anchor tag 0x20 0 (fun s t => lockTo s t false)

/-- POS_BIND: action bind makes the position that it names the node's final binding (R152, R153). -/
def execPosBind (bcast anchor : Bool) (tag : Nat) (s : State) : Result :=
  withFlashTxn s bcast anchor tag 0x22 0 (fun s t =>
    let s := bindPos s (fieldAt t.data 2 2) false
    endTxn s t.id 0 (wordsToBytes [nodeposWord s]) true)

/-- POS_UNBIND: action unbind removes the node's binding (R153); without a position it seals no response (R457). -/
def execPosUnbind (bcast anchor : Bool) (tag : Nat) (s : State) : Result :=
  withFlashTxn s bcast anchor tag 0x22 1 (fun s t =>
    let s := loadGeo { s with link := { s.link with pos := none, posPending := false } }
    endTxn s t.id 0 (wordsToBytes [nodeposWord s]) true)

/-- REKEY: the node's epoch rises, and the response carries the new one; at 0xFFFFF it goes unsealed with SEALED_OFF (R458). -/
def execRekey (bcast anchor : Bool) (tag : Nat) (s : State) : Result :=
  withFlashTxn s bcast anchor tag 0x24 0 (fun s t =>
    let s := raiseEpoch s
    endTxn s t.id (if s.sec.epoch == 0xFFFFF then 0x10 else 0) (leBytes 4 s.sec.epoch) true)

end Sys2Proof.Machine
end

