-- ==== Sys2Proof/Machine/SlavePort.lean ====
section
/-! DEFINITION. SlavePort: frames of the slave serial port (R364 to R370): the request's checks, its register accesses, the
reply, and replay. -/

namespace Sys2Proof.Machine

open Sys2Proof

/-! ### The request (R365, Table CSP-10) -/

/-- OP of a request. -/
def reqOp (b : List Byte) : Nat := byteAt b 0 % 4

/-- FIXED of a request. -/
def reqFixed (b : List Byte) : Bool := natBits (byteAt b 0) 2 1 == 1

/-- Bytes of a request, CRC included. -/
def reqLen (b : List Byte) : Nat := (if reqOp b == 2 then 4 + byteAt b 3 else 4) + 2

/-- A bad header (R365); ADDR lies within 0x00 to 0x7E with FIXED too: DEDUCED from Table CSP-10, log 23. -/
def badHeader (b : List Byte) : Bool :=
  let addr := byteAt b 2
  let len := byteAt b 3
  let lenOk := if reqOp b == 3 then len == 0 else decide (2 ≤ len) && decide (len ≤ 32) && len % 2 == 0
  reqOp b == 0 || byteAt b 0 / 16 != 0 || addr % 2 == 1 || !lenOk ||
    (if reqFixed b then decide (0x7E < addr) else decide (0x80 < addr + len))

/-- What a request comes to (R365, R368, R370): ignored with a bit of FLAGS [3:0], replayed, or executed, with RESYNC. -/
inductive SlaveVerdict where
  | ignored (bit : Nat)
  | replay
  | run (resync : Bool)
deriving DecidableEq, Repr

/-- The judgement of a request that SP_SEL_N has not cut off (R365, R368). -/
def slaveJudge (s : State) (b : List Byte) : SlaveVerdict :=
  let n := reqLen b
  if b.length < 4 then .ignored 2
  else if badHeader b || b.length < n then .ignored 2
  else if fieldAt b (n - 2) 2 != crc16 (b.take (n - 2)) then .ignored 0
  else
    let lap := byteAt b 1
    match s.ser.lap with
    | none => .run true
    | some l =>
      if natBits (byteAt b 0) 3 1 == 1 then .run true
      else if lap == (l + 1) % 256 then .run false
      else if lap == l && fieldAt b (n - 2) 2 == s.ser.reqCrc then .replay
      else .ignored 1

/-- An ignored request sets its flag and its sticky bit, and the port drives 0xFF (R367, R369). -/
def slaveIgnore (s : State) (bit : Nat) : State :=
  { s with ser := { s.ser with
    flags := s.ser.flags ||| 2 ^ bit, reply := [], spCrc := s.ser.spCrc || bit == 0, spLap := s.ser.spLap || bit == 1
    spLen := s.ser.spLen || bit == 2, spPart := s.ser.spPart || bit == 3 } }

/-! ### Execution (R366) -/

/-- The register addresses of a request, in order. -/
def reqAddrs (b : List Byte) : List Nat :=
  (upTo (byteAt b 3 / 2)).map (fun i => if reqFixed b then byteAt b 2 else byteAt b 2 + 2 * i)

/-- The reads of a frame, each a single access in the mode of its own time. -/
def slaveReads (s : State) (l : List Nat) : State × List Word :=
  match l with
  | [] => (s, [])
  | a :: r =>
    let x := regRead s (accNow s .slave) a
    let y := slaveReads x.1 r
    (y.1, x.2.1 :: y.2)

/-- The writes of a frame; a refused write leaves the others to run. -/
def slaveWrites (s : State) (l : List (Nat × Word)) : State :=
  match l with
  | [] => s
  | (a, w) :: r => slaveWrites (regWriteTo s (accNow s .slave) a w).1 r

/-! ### The reply (Tables CSP-11 and CSP-12) -/

/-- FLAGS of a reply formed now. -/
def replyFlags (s : State) (resync : Bool) : Nat :=
  s.ser.flags % 16 + 16 * b2n (!s.evq.queue.isEmpty) + 32 * b2n (hinta s) + 64 * b2n (hintb s) + 128 * b2n resync

/-- A reply's bytes. -/
def replyBytes (status flags lap : Nat) (data : List Byte) : List Byte :=
  let b := [0x5A, byte status, byte flags, byte lap, byte data.length] ++ data
  b ++ leBytes 2 (crc16 b)

/-- The reply of an executed request is formed and stored, and FLAGS [3:0] clear (R368, R369). -/
def slaveReply (s : State) (b : List Byte) (resync : Bool) (data : List Byte) : State :=
  let r := replyBytes 0 (replyFlags s resync) (byteAt b 1) data
  { s with ser := { s.ser with
    lap := some (byteAt b 1), reqCrc := fieldAt b (reqLen b - 2) 2, stored := r, reply := r, flags := 0 } }

/-- An executed request (R366). -/
def slaveRun (s : State) (b : List Byte) (resync : Bool) : State :=
  match reqOp b with
  | 1 =>
    let x := slaveReads s (reqAddrs b)
    slaveReply x.1 b resync (wordsToBytes x.2)
  | 2 =>
    let l := (reqAddrs b).zip (bytesToWords ((b.drop 4).take (byteAt b 3)))
    slaveReply (slaveWrites s l) b resync []
  | _ => slaveReply s b resync []

/-- The stored reply goes out with STATUS 0x01 and the FLAGS of now (R368). -/
def slaveReplay (s : State) : State :=
  let d := (s.ser.stored.drop 5).take (byteAt s.ser.stored 4)
  { s with ser := { s.ser with
    reply := replyBytes 1 (replyFlags s false) (byteAt s.ser.stored 3) d, flags := 0 } }

/-- Bytes clocked behind a request that lowers SP_RDY, before its reply is ready, are discarded, and the frame counts as a short
request (R370). -/
def slaveExtra (s : State) (b : List Byte) : State :=
  if reqLen b < b.length then
    { s with ser := { s.ser with flags := s.ser.flags ||| 4, spLen := true } }
  else s

/-- A request as the port judges it, up to the end of its frame. -/
def slaveAct (s : State) (b : List Byte) : State :=
  match slaveJudge s b with
  | .ignored bit => slaveIgnore s bit
  | .replay => slaveExtra (slaveReplay s) b
  | .run resync => slaveEnd (slaveExtra (slaveRun s b resync) b)

/-- The port takes requests (R364). -/
def slaveServed (s : State) : Bool := pathOpen s .slave

/-- A request arrives: the injector of the slave port may drop it or flip a bit of it (Table HLT-9). -/
def slaveFrame (s : State) (b : List Byte) : State :=
  let r := injFrame s 3 0
  match r.2 with
  | some a =>
    if a.action == 0 then { r.1 with ser := { r.1.ser with reply := [] } }
    else slaveAct r.1 (flipBit b a.ofs a.bit)
  | none => slaveAct r.1 b

/-- A request of an operation of Table CSP-10. -/
def slaveRow (s : State) (op : Nat) (b : List Byte) : Result :=
  if slaveServed s && reqOp b == op then .next (slaveFrame s b) else .next s

/-! ### The rows -/

/-- SLAVE_READ: a READ request, with its bytes as clocked (R366). -/
def execSlaveRead (bytes : List Byte) (s : State) : Result := slaveRow s 1 bytes

/-- SLAVE_WRITE: a WRITE request, with its bytes as clocked (R366). -/
def execSlaveWrite (bytes : List Byte) (s : State) : Result := slaveRow s 2 bytes

/-- SLAVE_NOP: a NOP request, with its bytes as clocked (R366). -/
def execSlaveNop (bytes : List Byte) (s : State) : Result := slaveRow s 3 bytes

/-- SLAVE_FRAME_IGNORED: a request that fails its header, CRC or lap check (R365, R368, R369). -/
def execSlaveFrameIgnored (bytes : List Byte) (s : State) : Result :=
  match slaveJudge s bytes with
  | .ignored _ => if slaveServed s then .next (slaveFrame s bytes) else .next s
  | _ => .next s

/-- SLAVE_FRAME_ABORT: SP_SEL_N rises before the request is complete, within a byte or between two (R365, R369, R370). -/
def execSlaveFrameAbort (bytes : List Byte) (midByte : Bool) (s : State) : Result :=
  if !slaveServed s then .next s
  else if 4 ≤ bytes.length && badHeader bytes then .next (slaveIgnore s 2)
  else if reqLen bytes ≤ bytes.length then .next s
  else .next (slaveIgnore s (if midByte then 3 else 2))

end Sys2Proof.Machine
end

