-- ==== Sys2Proof/Machine/Tap.lean ====
section
/-! DEFINITION. Tap: the output balls that the control and host pins show, the boundary-scan instructions, and the provisioning of
the owner key (R448, R497, R522, R523, R536 to R539). -/

namespace Sys2Proof.Machine

open Sys2Proof

/-! ### Output balls (Tables BAL-5 to BAL-7, R184, R185, R523) -/

/-- FAULT_N asserted: SAFE or MINIMAL, an active or latched diagnostic, the barrier link down, or no BOOT-OK yet (R523). -/
def faultN (s : State) : Bool :=
  s.mode.mode == .safe || s.mode.mode == .minimal || s.supply.barrierDown || s.mode.porst || s.mode.logicReset ||
  !s.mode.bootOk || chanNos.any (fun n => !(chan s n).faults.isEmpty || (chan s n).latched != 0)

/-- An interrupt pin's level and whether it drives: push-pull always, open-drain only low; high-impedance in power-on reset,
released in logic reset (R184, R185). -/
def intPin (s : State) (asserted od : Bool) : Bool × Bool :=
  let low := asserted && !s.mode.rstout
  (!low, !s.mode.porst && (low || !od))

/-- The output and control cells that the functional state of the control, interrupt, host bus and serial pins gives: cell, value
(Table BAL-13). HD and HWAIT_N are in high impedance while RSTOUT_N is asserted, and HD is driven only in a read that waits (R188,
Table HBU-3); CM_CLK is low and CM_DQ in high impedance while no transfer runs (R340); SP_DO is in high impedance between frames and
SP_RDY shows the slave port (R364). -/
def outputCells (s : State) : List (Nat × Bool) :=
  let (a, ae) := intPin s (hinta s) s.bus.intaOd
  let (b, be) := intPin s (hintb s) s.bus.intbOd
  let reset := s.mode.porst || s.mode.logicReset
  let on := s.ser.running.isSome && !reset
  let sel := if reset then 0 else s.ser.sel
  let waits := s.ser.hostRead.isSome && !s.ser.hostGone && !s.mode.rstout
  (if on then [] else [(99, false)]) ++
  (upTo 16).map (fun k => (3 * k + 2, waits)) ++ (if on then [] else (upTo 8).map (fun k => (103 + 3 * k, false))) ++
  [(77, !waits), (78, !s.mode.rstout), (100, true), (138, false), (140, s.ser.spEn && !s.mode.rstout), (141, true),
    (79, a), (80, ae), (81, b), (82, be), (84, !s.mode.rstout), (85, true), (89, !faultN s), (90, true),
    (91, !replaceN s), (92, true), (95, !s.link.bypass), (96, true), (98, true),
    (126, natBits sel 0 1 == 1), (127, true), (128, natBits sel 1 1 == 1), (129, true), (130, natBits sel 2 1 == 1),
    (131, true), (132, !on), (133, true)]

/-- A ball's level as its driver makes it, none for high impedance: the cells under EXTEST and CLAMP, none under HIGHZ, else its
function (R537, R538). -/
def ballLevel (s : State) (out ctl : Nat) (f : Bool) : Option Bool :=
  match s.tap.ins with
  | .extest => if s.tap.cells.getLsbD ctl then some (s.tap.cells.getLsbD out) else none
  | .clamp => if s.tap.cells.getLsbD ctl then some (s.tap.cells.getLsbD out) else none
  | .highz => none
  | _ => some f

/-! ### The instructions (R537, R538) -/

/-- An instruction marked "BENCH only" acts as BYPASS in any other role (R537). -/
def tapIns (s : State) (i : TapIns) : TapIns := if s.mode.role == .bench then i else .bypass

/-- The state with an instruction in force. -/
def setTapIns (s : State) (i : TapIns) : State := { s with tap := { s.tap with ins := i } }

/-- Replaces a bit of the boundary-scan register. -/
def putCell (c : BitVec 182) (x : Nat × Bool) : BitVec 182 :=
  let m : BitVec 182 := BitVec.ofNat 182 (2 ^ x.1)
  if x.2 then c ||| m else c &&& ~~~m

/-- Capture-DR of the boundary-scan register: the balls' levels as given, and the functional outputs (R538). -/
def captureCells (s : State) (levels : BitVec 182) : BitVec 182 := (outputCells s).foldl putCell levels

/-- The boundary-scan register is selected: its capture, and the cells shifted in at Update-DR. -/
def scanCells (s : State) (levels shifted : BitVec 182) : State :=
  { s with tap := { s.tap with captured := captureCells s levels, cells := shifted } }

/-- EXTEST: the cells drive the chained balls in BENCH (R537); the internal logic keeps running. -/
def execExtest (levels shifted : BitVec 182) (s : State) : Result :=
  match tapIns s .extest with
  | .extest => .next (scanCells (setTapIns s .extest) levels shifted)
  | i => .next (setTapIns s i)

/-- SAMPLE_PRELOAD: the register is captured and preloaded; no ball changes (R537). -/
def execSamplePreload (levels shifted : BitVec 182) (s : State) : Result :=
  .next (scanCells (setTapIns s .sample) levels shifted)

/-- HIGHZ: every chained output goes into high impedance in BENCH (R537). -/
def execHighz (s : State) : Result := .next (setTapIns s (tapIns s .highz))

/-- CLAMP: the outputs follow the cells with bypass selected, in BENCH (R537). -/
def execClamp (s : State) : Result := .next (setTapIns s (tapIns s .clamp))

/-- BYPASS: the bypass register, also for a reserved code (R537). -/
def execBypass (s : State) : Result := .next (setTapIns s .bypass)

/-- TAP_RESET: Test-Logic-Reset selects BYPASS (R536, R539). -/
def execTapReset (s : State) : Result := .next (setTapIns s .bypass)

/-! ### The owner key (R448) -/

/-- `n` bytes of a number from byte k. -/
def numBytes (v k n : Nat) : List Byte := (upTo n).map (fun i => byte (v / 256 ^ (k + i)))

/-- Capture-DR of the OTP owner register: OWNER_KEY, refused, programming (R448). -/
def otpCapture (s : State) : Nat := b2n s.sec.owk.isSome + 2 * b2n s.sec.otpRefused + 4 * b2n s.sec.otpKey.isSome

/-- Update-DR of the OTP owner register: the key is programmed when the role is BENCH, OWNER_KEY is 0 and the CRC matches (R448). -/
def otpUpdate (s : State) (data : BitVec 288) : State :=
  let key := numBytes data.toNat 0 32
  if s.sec.owk.isNone && s.sec.otpKey.isNone && crc32c key == data.toNat / 2 ^ 256 then
    { s with sec := { s.sec with otpKey := some key, otpRefused := false } }
  else { s with sec := { s.sec with otpRefused := true } }

/-- OTP_OWNER: Capture-DR, then Update-DR with the bits shifted in; BYPASS outside BENCH (R448, R537). -/
def execOtpOwner (data : BitVec 288) (s : State) : Result :=
  match tapIns s .otpOwner with
  | .otpOwner =>
    let s := setTapIns s .otpOwner
    .next (otpUpdate { s with tap := { s.tap with otp := otpCapture s } } data)
  | i => .next (setTapIns s i)

/-- OTP_PROGRAM_DONE: OWNER_KEY reads 1; sealed traffic uses the key from the next power-on reset (R448, R459). -/
def execOtpProgramDone (s : State) : Result :=
  match s.sec.otpKey with
  | some k => .next { s with sec := { s.sec with owk := some k, owkFresh := true, otpKey := none } }
  | none => .next s

end Sys2Proof.Machine
end

