-- ==== Sys2Proof/Machine/Dispatch.lean ====
section
/-! DEFINITION. Dispatch: one arm per command, each one direct call of that command's meaning. -/

namespace Sys2Proof.Machine

def exec (i : Instr) (s : State) : Host.Outcome State Fault Refusal :=
  match i with
  | .porstAssert supply => Sys2Proof.Machine.execPorstAssert supply s
  | .porstRelease role crystal e => Sys2Proof.Machine.execPorstRelease role crystal e s
  | .bootTimerExpiry => Sys2Proof.Machine.execBootTimerExpiry s
  | .logicReset e => Sys2Proof.Machine.execLogicReset e s
  | .coreReset e => Sys2Proof.Machine.execCoreReset e s
  | .fieldReset active shadow => Sys2Proof.Machine.execFieldReset active s shadow
  | .fieldDieFault => Sys2Proof.Machine.execFieldDieFault s
  | .supplyMonitorTrip lineDomain => Sys2Proof.Machine.execSupplyMonitorTrip lineDomain s
  | .bootStable => Sys2Proof.Machine.execBootStable s
  | .fatalException => Sys2Proof.Machine.execFatalException s
  | .syncSend => Sys2Proof.Machine.execSyncSend s
  | .syncFrame p f readings => Sys2Proof.Machine.execSyncFrame p f readings s
  | .syncMissInterval => Sys2Proof.Machine.execSyncMissInterval s
  | .pllLocked => Sys2Proof.Machine.execPllLocked s
  | .phaseError => Sys2Proof.Machine.execPhaseError s
  | .refRange => Sys2Proof.Machine.execRefRange s
  | .ltimeLatch via => Sys2Proof.Machine.execLtimeLatch via s
  | .preset via => Sys2Proof.Machine.execPreset via s
  | .sampleInstant readings => Sys2Proof.Machine.execSampleInstant readings s
  | .snapshotReady => Sys2Proof.Machine.execSnapshotReady s
  | .applyInstant readings => Sys2Proof.Machine.execApplyInstant s readings
  | .signalDetect p => Sys2Proof.Machine.execSignalDetect p s
  | .trainComplete p t1 t2 t3 => Sys2Proof.Machine.execTrainComplete p t1 t2 t3 s
  | .alignUp p inverted => Sys2Proof.Machine.execAlignUp p inverted s
  | .alignTimeout p => Sys2Proof.Machine.execAlignTimeout p s
  | .lossOfSync p bad => Sys2Proof.Machine.execLossOfSync p s bad
  | .lossOfSignal p => Sys2Proof.Machine.execLossOfSignal p s
  | .retrain via p => Sys2Proof.Machine.execRetrain via p s
  | .crossedPairs p => Sys2Proof.Machine.execCrossedPairs p s
  | .frameForward p f readings => Sys2Proof.Machine.execFrameForward p f readings s
  | .rsvdTypeFrame p f => Sys2Proof.Machine.execRsvdTypeFrame p f s
  | .loopEngage p => Sys2Proof.Machine.execLoopEngage p s
  | .ownFrameSend p => Sys2Proof.Machine.execOwnFrameSend p s
  | .loopbackNoticeSet p n0 n1 n2 => Sys2Proof.Machine.execLoopbackNoticeSet p n0 n1 n2 s
  | .loopbackNoticeFrame p f => Sys2Proof.Machine.execLoopbackNoticeFrame p f s
  | .loopRel via => Sys2Proof.Machine.execLoopRel via s
  | .loopRelease p => Sys2Proof.Machine.execLoopRelease p s
  | .loopForce via => Sys2Proof.Machine.execLoopForce via s
  | .bypassDelayExpiry => Sys2Proof.Machine.execBypassDelayExpiry s
  | .bypassInsert via => Sys2Proof.Machine.execBypassInsert via s
  | .bypassDrop via => Sys2Proof.Machine.execBypassDrop via s
  | .bypassPwrfailDrop => Sys2Proof.Machine.execBypassPwrfailDrop s
  | .bypassNotice p => Sys2Proof.Machine.execBypassNotice p s
  | .linkCntClr via => Sys2Proof.Machine.execLinkCntClr via s
  | .linkCntFreeze via on => Sys2Proof.Machine.execLinkCntFreeze via on s
  | .heatLaunch => Sys2Proof.Machine.execHeatLaunch s
  | .outPubSample => Sys2Proof.Machine.execOutPubSample s
  | .heatReceive p f => Sys2Proof.Machine.execHeatReceive p f s
  | .heatReturn p f => Sys2Proof.Machine.execHeatReturn p f s
  | .pingOutcome pos => Sys2Proof.Machine.execPingOutcome pos s
  | .inReadyDeadline => Sys2Proof.Machine.execInReadyDeadline s
  | .batonSend => Sys2Proof.Machine.execBatonSend s
  | .batonReceive p f => Sys2Proof.Machine.execBatonReceive p f s
  | .batonReturn p f => Sys2Proof.Machine.execBatonReturn p f s
  | .txnExpiry bcast anchor tag => Sys2Proof.Machine.execTxnExpiry bcast anchor tag s
  | .expiredDiscard anchor tag => Sys2Proof.Machine.execExpiredDiscard anchor tag s
  | .doneEntryLapse anchor tag => Sys2Proof.Machine.execDoneEntryLapse anchor tag s
  | .bcastDrop anchor tag => Sys2Proof.Machine.execBcastDrop anchor tag s
  | .txnRetry dest tag => Sys2Proof.Machine.execTxnRetry dest tag s
  | .txnLost dest tag => Sys2Proof.Machine.execTxnLost dest tag s
  | .cryptoOpDone => Sys2Proof.Machine.execCryptoOpDone s
  | .floorWriteDone ok => Sys2Proof.Machine.execFloorWriteDone ok s
  | .ping bcast anchor tag => Sys2Proof.Machine.execPing bcast anchor tag s
  | .regRead bcast anchor tag => Sys2Proof.Machine.execRegRead bcast anchor tag s
  | .regWrite bcast anchor tag => Sys2Proof.Machine.execRegWrite bcast anchor tag s
  | .tblRead bcast anchor tag => Sys2Proof.Machine.execTblRead bcast anchor tag s
  | .tblWrite bcast anchor tag => Sys2Proof.Machine.execTblWrite bcast anchor tag s
  | .cfgOwnQuery bcast anchor tag => Sys2Proof.Machine.execCfgOwnQuery bcast anchor tag s
  | .flashRead src => Sys2Proof.Machine.execFlashRead src s
  | .traceRead bcast anchor tag => Sys2Proof.Machine.execTraceRead bcast anchor tag s
  | .cspXfer src => Sys2Proof.Machine.execCspXfer src s
  | .adcCapt src => Sys2Proof.Machine.execAdcCapt src s
  | .captRead bcast anchor tag => Sys2Proof.Machine.execCaptRead bcast anchor tag s
  | .relayCtrlMap bcast anchor tag => Sys2Proof.Machine.execRelayCtrlMap bcast anchor tag s
  | .relayCtrlStatus bcast anchor tag => Sys2Proof.Machine.execRelayCtrlStatus bcast anchor tag s
  | .ownerLockSet bcast anchor tag => Sys2Proof.Machine.execOwnerLockSet bcast anchor tag s
  | .ownerLockClear bcast anchor tag => Sys2Proof.Machine.execOwnerLockClear bcast anchor tag s
  | .posBind bcast anchor tag => Sys2Proof.Machine.execPosBind bcast anchor tag s
  | .posUnbind bcast anchor tag => Sys2Proof.Machine.execPosUnbind bcast anchor tag s
  | .injEnable bcast anchor tag => Sys2Proof.Machine.execInjEnable bcast anchor tag s
  | .rekey bcast anchor tag => Sys2Proof.Machine.execRekey bcast anchor tag s
  | .lineStart via d => Sys2Proof.Machine.execLineStart via d s
  | .lineStartSettle => Sys2Proof.Machine.execLineStartSettle s
  | .lineStop via d => Sys2Proof.Machine.execLineStop via d s
  | .enum via d => Sys2Proof.Machine.execEnum via d s
  | .countReceive p f => Sys2Proof.Machine.execCountReceive p f s
  | .countReturn p f => Sys2Proof.Machine.execCountReturn p f s
  | .lineTxn via d => Sys2Proof.Machine.execLineTxn via d s
  | .gunSchedule via d => Sys2Proof.Machine.execGunSchedule via d s
  | .gunCutoff => Sys2Proof.Machine.execGunCutoff s
  | .gunClosingSweep => Sys2Proof.Machine.execGunClosingSweep s
  | .relayPull via d => Sys2Proof.Machine.execRelayPull via d s
  | .takeoverStart => Sys2Proof.Machine.execTakeoverStart s
  | .takeoverEnd via d => Sys2Proof.Machine.execTakeoverEnd via d s
  | .takeoverAutoEnd => Sys2Proof.Machine.execTakeoverAutoEnd s
  | .nop via d => Sys2Proof.Machine.execNop via d s
  | .busDecodeError read addr => Sys2Proof.Machine.execBusDecodeError read addr s
  | .hostStrobeEarly a captured => Sys2Proof.Machine.execHostStrobeEarly a captured s
  | .apertureWrite ofs w upper lower => Sys2Proof.Machine.execApertureWrite ofs w upper lower s
  | .apertureRead ofs upper lower => Sys2Proof.Machine.execApertureRead ofs upper lower s
  | .xipRead ofs => Sys2Proof.Machine.execXipRead ofs s
  | .xipTimeout read => Sys2Proof.Machine.execXipTimeout s read
  | .xipEnable via en sel base => Sys2Proof.Machine.execXipEnable via en sel base s
  | .xipFlush via => Sys2Proof.Machine.execXipFlush via s
  | .keyseqWrite via w => Sys2Proof.Machine.execKeyseqWrite via w s
  | .keyLapse via => Sys2Proof.Machine.execKeyLapse via s
  | .cmdqAsmClr via => Sys2Proof.Machine.execCmdqAsmClr via s
  | .cplqDataRead via => Sys2Proof.Machine.execCplqDataRead via s
  | .registerWrite via addr w both => Sys2Proof.Machine.execRegisterWrite via addr w both s
  | .evqDataRead via => Sys2Proof.Machine.execEvqDataRead via s
  | .evqHoldLapse => Sys2Proof.Machine.execEvqHoldLapse s
  | .chinRead via => Sys2Proof.Machine.execChinRead via s
  | .cfgDataRead via => Sys2Proof.Machine.execCfgDataRead via s
  | .cfgDataWrite via w => Sys2Proof.Machine.execCfgDataWrite via w s
  | .claim via => Sys2Proof.Machine.execClaim via s
  | .release via => Sys2Proof.Machine.execRelease via s
  | .claimLapse => Sys2Proof.Machine.execClaimLapse s
  | .validate via => Sys2Proof.Machine.execValidate via s
  | .validateDone => Sys2Proof.Machine.execValidateDone s
  | .copy via => Sys2Proof.Machine.execCopy via s
  | .copyDone => Sys2Proof.Machine.execCopyDone s
  | .swapNow via => Sys2Proof.Machine.execSwapNow via s
  | .swapCycle via => Sys2Proof.Machine.execSwapCycle via s
  | .swapGun via => Sys2Proof.Machine.execSwapGun via s
  | .cancel via => Sys2Proof.Machine.execCancel via s
  | .commit via => Sys2Proof.Machine.execCommit via s
  | .commitDone ok => Sys2Proof.Machine.execCommitDone ok s
  | .autoCommitStart => Sys2Proof.Machine.execAutoCommitStart s
  | .cfgCtrlMulti via w => Sys2Proof.Machine.execCfgCtrlMulti via w s
  | .swapInstant => Sys2Proof.Machine.execSwapInstant s
  | .goSetup via => Sys2Proof.Machine.execGoSetup via s
  | .goRun via => Sys2Proof.Machine.execGoRun via s
  | .goSafe via => Sys2Proof.Machine.execGoSafe via s
  | .resume via => Sys2Proof.Machine.execResume via s
  | .goMinimal via => Sys2Proof.Machine.execGoMinimal via s
  | .reboot via => Sys2Proof.Machine.execReboot via s
  | .rest via => Sys2Proof.Machine.execRest via s
  | .restEntry => Sys2Proof.Machine.execRestEntry s
  | .wake via => Sys2Proof.Machine.execWake via s
  | .holdSenseSample mv age => Sys2Proof.Machine.execHoldSenseSample mv age s
  | .pwrfailAssert => Sys2Proof.Machine.execPwrfailAssert s
  | .pwrfailRelease => Sys2Proof.Machine.execPwrfailRelease s
  | .safecmdEnter via => Sys2Proof.Machine.execSafecmdEnter via s
  | .ackAll via => Sys2Proof.Machine.execAckAll via s
  | .chfltAck via w => Sys2Proof.Machine.execChfltAck via w s
  | .safeReqAssert => Sys2Proof.Machine.execSafeReqAssert s
  | .safeReqRelease => Sys2Proof.Machine.execSafeReqRelease s
  | .barrierLoss => Sys2Proof.Machine.execBarrierLoss s
  | .barrierReturn => Sys2Proof.Machine.execBarrierReturn s
  | .lpOff mv => Sys2Proof.Machine.execLpOff mv s
  | .lpOvervoltage mv => Sys2Proof.Machine.execLpOvervoltage mv s
  | .lpReversed => Sys2Proof.Machine.execLpReversed s
  | .lpBack mv => Sys2Proof.Machine.execLpBack mv s
  | .lsFault mv => Sys2Proof.Machine.execLsFault mv s
  | .lsOk mv => Sys2Proof.Machine.execLsOk mv s
  | .lsBrownout mv => Sys2Proof.Machine.execLsBrownout mv s
  | .dieOvertemp temp => Sys2Proof.Machine.execDieOvertemp temp s
  | .dieCool temp => Sys2Proof.Machine.execDieCool temp s
  | .channelFaultDetect n code => Sys2Proof.Machine.execChannelFaultDetect n code s
  | .channelFaultClear n code => Sys2Proof.Machine.execChannelFaultClear n code s
  | .faultRetry n => Sys2Proof.Machine.execFaultRetry n s
  | .retryCountReset n => Sys2Proof.Machine.execRetryCountReset n s
  | .inputEdge n level both t => Sys2Proof.Machine.execInputEdge n level both t s
  | .pwmPeriodStart n => Sys2Proof.Machine.execPwmPeriodStart n s
  | .slLoad via => Sys2Proof.Machine.execSlLoad via s
  | .slCancel via => Sys2Proof.Machine.execSlCancel via s
  | .slRead via => Sys2Proof.Machine.execSlRead via s
  | .slIssue n slot => Sys2Proof.Machine.execSlIssue n slot s
  | .slGate n slot => Sys2Proof.Machine.execSlGate n slot s
  | .pfSelWrite via w => Sys2Proof.Machine.execPfSelWrite via w s
  | .choutWrite via w => Sys2Proof.Machine.execChoutWrite via w s
  | .forceSet via n level => Sys2Proof.Machine.execForceSet via n level s
  | .forceRemove via n => Sys2Proof.Machine.execForceRemove via n s
  | .forceClearAll via => Sys2Proof.Machine.execForceClearAll via s
  | .modeOffEnd n => Sys2Proof.Machine.execModeOffEnd n s
  | .regStart via => Sys2Proof.Machine.execRegStart via s
  | .regStop via => Sys2Proof.Machine.execRegStop via s
  | .injTrig via => Sys2Proof.Machine.execInjTrig via s
  | .injTimeTrigger => Sys2Proof.Machine.execInjTimeTrigger s
  | .calZero via e => Sys2Proof.Machine.execCalZero via e s
  | .calFull via e => Sys2Proof.Machine.execCalFull via e s
  | .calAbort via e => Sys2Proof.Machine.execCalAbort via e s
  | .calStepDone => Sys2Proof.Machine.execCalStepDone s
  | .calTimeout => Sys2Proof.Machine.execCalTimeout s
  | .fifoClr via => Sys2Proof.Machine.execFifoClr via s
  | .dacTest via => Sys2Proof.Machine.execDacTest via s
  | .dacTestDone => Sys2Proof.Machine.execDacTestDone s
  | .roundStart => Sys2Proof.Machine.execRoundStart s
  | .conversionEnd convB x t => Sys2Proof.Machine.execConversionEnd convB x t s
  | .captureDone => Sys2Proof.Machine.execCaptureDone s
  | .aoReadbackSample n code => Sys2Proof.Machine.execAoReadbackSample n code s
  | .adcFifoRead via => Sys2Proof.Machine.execAdcFifoRead via s
  | .cspTransferEnd read => Sys2Proof.Machine.execCspTransferEnd read s
  | .readyTimeout sent read => Sys2Proof.Machine.execReadyTimeout sent s read
  | .dqsTimeout read => Sys2Proof.Machine.execDqsTimeout s read
  | .cmAbort via => Sys2Proof.Machine.execCmAbort via s
  | .prefetchStart => Sys2Proof.Machine.execPrefetchStart s
  | .erasePoll => Sys2Proof.Machine.execErasePoll s
  | .eraseTrackLimit => Sys2Proof.Machine.execEraseTrackLimit s
  | .slaveRead bytes => Sys2Proof.Machine.execSlaveRead bytes s
  | .slaveWrite bytes => Sys2Proof.Machine.execSlaveWrite bytes s
  | .slaveNop bytes => Sys2Proof.Machine.execSlaveNop bytes s
  | .slaveFrameIgnored bytes => Sys2Proof.Machine.execSlaveFrameIgnored bytes s
  | .slaveFrameAbort bytes midByte => Sys2Proof.Machine.execSlaveFrameAbort bytes midByte s
  | .spEnable via on => Sys2Proof.Machine.execSpEnable via on s
  | .panelFrame => Sys2Proof.Machine.execPanelFrame s
  | .keyPress k first => Sys2Proof.Machine.execKeyPress k first s
  | .keyRelease k => Sys2Proof.Machine.execKeyRelease k s
  | .keyRepeat => Sys2Proof.Machine.execKeyRepeat s
  | .encTransition e a b => Sys2Proof.Machine.execEncTransition e a b s
  | .menuRefresh => Sys2Proof.Machine.execMenuRefresh s
  | .menuIdle => Sys2Proof.Machine.execMenuIdle s
  | .jogTimeout => Sys2Proof.Machine.execJogTimeout s
  | .chordComplete => Sys2Proof.Machine.execChordComplete s
  | .panelEvtRead via => Sys2Proof.Machine.execPanelEvtRead via s
  | .panelHostChange via host => Sys2Proof.Machine.execPanelHostChange via host s
  | .panelClr via => Sys2Proof.Machine.execPanelClr via s
  | .wdhAnswer via w => Sys2Proof.Machine.execWdhAnswer via w s
  | .wdhWindowOpen => Sys2Proof.Machine.execWdhWindowOpen s
  | .wdhPeriodEnd => Sys2Proof.Machine.execWdhPeriodEnd s
  | .wdcAnswer w => Sys2Proof.Machine.execWdcAnswer w s
  | .wdcPeriodEnd => Sys2Proof.Machine.execWdcPeriodEnd s
  | .wdcCoreReset => Sys2Proof.Machine.execWdcCoreReset s
  | .freezeLimit core => Sys2Proof.Machine.execFreezeLimit core s
  | .mediaInsert => Sys2Proof.Machine.execMediaInsert s
  | .mediaIdentify found => Sys2Proof.Machine.execMediaIdentify found s
  | .mediaRemove => Sys2Proof.Machine.execMediaRemove s
  | .mediaSectorRead ok bytes => Sys2Proof.Machine.execMediaSectorRead ok bytes s
  | .mediaAbsenceTimeout => Sys2Proof.Machine.execMediaAbsenceTimeout s
  | .start via => Sys2Proof.Machine.execStart via s
  | .abort via => Sys2Proof.Machine.execAbort via s
  | .prepare via => Sys2Proof.Machine.execPrepare via s
  | .preparePartDone => Sys2Proof.Machine.execPreparePartDone s
  | .activate via => Sys2Proof.Machine.execActivate via s
  | .activateStart => Sys2Proof.Machine.execActivateStart s
  | .actPauseEnd => Sys2Proof.Machine.execActPauseEnd s
  | .veto via => Sys2Proof.Machine.execVeto via s
  | .relayJoin via => Sys2Proof.Machine.execRelayJoin via s
  | .stagingSectorDone ok => Sys2Proof.Machine.execStagingSectorDone ok s
  | .relaySend => Sys2Proof.Machine.execRelaySend s
  | .relayReceive p f => Sys2Proof.Machine.execRelayReceive p f s
  | .distributeWaitEnd => Sys2Proof.Machine.execDistributeWaitEnd s
  | .confirmWrite => Sys2Proof.Machine.execConfirmWrite s
  | .confirmDeadline => Sys2Proof.Machine.execConfirmDeadline s
  | .otpOwner data => Sys2Proof.Machine.execOtpOwner data s
  | .otpProgramDone => Sys2Proof.Machine.execOtpProgramDone s
  | .extest levels shifted => Sys2Proof.Machine.execExtest levels shifted s
  | .samplePreload levels shifted => Sys2Proof.Machine.execSamplePreload levels shifted s
  | .highz => Sys2Proof.Machine.execHighz s
  | .clamp => Sys2Proof.Machine.execClamp s
  | .bypass => Sys2Proof.Machine.execBypass s
  | .tapReset => Sys2Proof.Machine.execTapReset s
  | .injEnableExpiry => Sys2Proof.Machine.execInjEnableExpiry s
  | .flashEraseEnd t => Sys2Proof.Machine.execFlashEraseEnd t s
  | .flashEraseAbort => Sys2Proof.Machine.execFlashEraseAbort s
  | .eraseCutoff => Sys2Proof.Machine.execEraseCutoff s
  | .eraseResume => Sys2Proof.Machine.execEraseResume s
  | .flashProgramDone outcome => Sys2Proof.Machine.execFlashProgramDone outcome s
  | .healthInterval => Sys2Proof.Machine.execHealthInterval s
  | .pllHeadroomSample pct => Sys2Proof.Machine.execPllHeadroomSample pct s
  | .holdReplExpiry => Sys2Proof.Machine.execHoldReplExpiry s
  | .summaryPage => Sys2Proof.Machine.execSummaryPage s
  | .replClr via w => Sys2Proof.Machine.execReplClr via w s
  | .traceDataRead via => Sys2Proof.Machine.execTraceDataRead via s
  | .traceFreeze via => Sys2Proof.Machine.execTraceFreeze via s
  | .traceUnfreeze via => Sys2Proof.Machine.execTraceUnfreeze via s
  | .traceRdOldest via => Sys2Proof.Machine.execTraceRdOldest via s
  | .traceRdNewest via => Sys2Proof.Machine.execTraceRdNewest via s
  | .persist via => Sys2Proof.Machine.execPersist via s
  | .persistDone => Sys2Proof.Machine.execPersistDone s
  | .injArm via target action once => Sys2Proof.Machine.execInjArm via target action once s
  | .injDisarm via => Sys2Proof.Machine.execInjDisarm via s
  | .injTimeout => Sys2Proof.Machine.execInjTimeout s
  | .injReorderDrop => Sys2Proof.Machine.execInjReorderDrop s
  | .junctionCooled n => Sys2Proof.Machine.execJunctionCooled n s
  | .reverseFeedEnd n => Sys2Proof.Machine.execReverseFeedEnd n s
  | .holdWarnExpiry => Sys2Proof.Machine.execHoldWarnExpiry s
  | .roleConflict => Sys2Proof.Machine.execRoleConflict s
  | .longBurstStart => Sys2Proof.Machine.execLongBurstStart s

end Sys2Proof.Machine
end

