-- ==== Sys2Proof/Safety.lean ====
section
/-! DEFINITION. Safety: the bounds and canonical forms that every state of the block keeps, the parts of the state, and the
words in which the statements about the commands are written. -/

namespace Sys2Proof.Machine

open Sys2Proof

/-- The well-formed states: SRAM in canonical form within 1 MB; the event queue within 256 entries (R203), the trace ring within
2,048 records (R499), and the ADC result FIFO within 256 words (R328). -/
structure State.Wf (s : State) : Prop where
  mem : memWf s.mem = true
  queue : s.evq.queue.length ≤ 256
  ring : s.trace.ring.length ≤ 2048
  fifo : s.adc.fifo.length ≤ 256

/-- The parts of a state beside the queue of commands; the straps, the role and the crystal that power-on found (R2), are of
the mode's part and are named once more by themselves. -/
inductive Part where
  | free | mem | time | cyc | evq | trace | bus | cfg | mode | safe | supply | field | health |
  inj | adc | panel | wdog | link | txn | sta | sec | ser | media | upd | flash | tap | straps
  deriving DecidableEq, Repr

/-- The part of that name is the same in both states. -/
def Part.Same (p : Part) (s t : State) : Prop :=
  match p with
  | .free => t.free = s.free
  | .mem => t.mem = s.mem
  | .time => t.time = s.time
  | .cyc => t.cyc = s.cyc
  | .evq => t.evq = s.evq
  | .trace => t.trace = s.trace
  | .bus => t.bus = s.bus
  | .cfg => t.cfg = s.cfg
  | .mode => t.mode = s.mode
  | .safe => t.safe = s.safe
  | .supply => t.supply = s.supply
  | .field => t.field = s.field
  | .health => t.health = s.health
  | .inj => t.inj = s.inj
  | .adc => t.adc = s.adc
  | .panel => t.panel = s.panel
  | .wdog => t.wdog = s.wdog
  | .link => t.link = s.link
  | .txn => t.txn = s.txn
  | .sta => t.sta = s.sta
  | .sec => t.sec = s.sec
  | .ser => t.ser = s.ser
  | .media => t.media = s.media
  | .upd => t.upd = s.upd
  | .flash => t.flash = s.flash
  | .tap => t.tap = s.tap
  | .straps => t.mode.role = s.mode.role ∧ t.mode.crystal = s.mode.crystal

/-- Every part. -/
def Part.all : List Part :=
  [.free, .mem, .time, .cyc, .evq, .trace, .bus, .cfg, .mode, .safe, .supply, .field, .health, .inj,
   .adc, .panel, .wdog, .link, .txn, .sta, .sec, .ser, .media, .upd, .flash, .tap, .straps]

/-- The footprint of each command: the parts of the state that it can change, read off the meanings. A part that is not listed
stays, whatever the operands and the state. -/
def touches (c : Instr) : List Part :=
  match c with
  | .porstAssert _ => [.mem, .time, .cyc, .evq, .trace, .bus, .cfg, .mode, .safe, .supply, .field, .health, .inj,
      .adc, .panel, .wdog, .link, .txn, .sta, .sec, .ser, .media, .upd, .flash]
  | .porstRelease _ _ _ => [.free, .time, .cyc, .evq, .trace, .bus, .cfg, .mode, .safe, .supply, .field, .health,
      .inj, .adc, .panel, .wdog, .link, .txn, .sta, .sec, .ser, .media, .upd, .flash, .straps]
  | .bootTimerExpiry => [.time, .cyc, .evq, .trace, .bus, .cfg, .mode, .safe, .field, .health, .inj, .adc, .panel,
      .wdog, .link, .txn, .sta, .sec, .ser, .media, .upd, .flash]
  | .logicReset _ => [.free, .time, .cyc, .evq, .trace, .bus, .cfg, .mode, .safe, .supply, .field, .health, .inj,
      .adc, .panel, .wdog, .link, .txn, .sta, .sec, .ser, .media, .upd, .flash]
  | .coreReset _ => [.free, .time, .cyc, .evq, .trace, .bus, .cfg, .mode, .safe, .supply, .field, .health, .inj, .adc,
      .panel, .wdog, .link, .txn, .sta, .sec, .ser, .media, .upd, .flash]
  | .fieldReset _ _ => [.cyc, .evq, .trace, .cfg, .mode, .supply, .field, .adc, .panel]
  | .fieldDieFault => [.cyc, .evq, .trace, .cfg, .mode, .field, .adc, .panel]
  | .supplyMonitorTrip _ => [.mem, .time, .cyc, .evq, .trace, .bus, .cfg, .mode, .safe, .supply, .field, .health,
      .inj, .adc, .panel, .wdog, .link, .txn, .sta, .sec, .ser, .media, .upd, .flash]
  | .bootStable => [.time, .mode]
  | .fatalException => [.evq, .trace, .mode, .safe, .field, .inj, .adc, .panel, .wdog, .link, .upd]
  | .syncSend => [.time, .link]
  | .syncFrame _ _ _ => [.mem, .time, .cyc, .evq, .trace, .bus, .cfg, .mode, .safe, .field, .health, .inj, .adc,
      .panel, .wdog, .link, .txn, .sta, .sec, .ser, .media, .upd, .flash]
  | .syncMissInterval => [.time, .evq, .trace, .sta]
  | .pllLocked => [.time, .evq, .trace]
  | .phaseError => [.time, .evq, .trace]
  | .refRange => [.time, .evq, .trace, .mode]
  | .ltimeLatch _ => [.free, .mem, .time, .cyc, .evq, .trace, .bus, .cfg, .mode, .safe, .field, .health, .inj, .adc,
      .panel, .wdog, .link, .txn, .sta, .ser, .upd, .flash]
  | .preset _ => [.free, .mem, .time, .cyc, .evq, .trace, .bus, .cfg, .mode, .safe, .field, .health, .inj, .adc,
      .panel, .wdog, .link, .txn, .sta, .ser, .upd, .flash]
  | .sampleInstant _ => [.time, .cyc, .evq, .trace, .bus, .cfg, .mode, .safe, .field, .health, .adc, .panel, .wdog,
      .link, .txn, .sta, .ser, .flash]
  | .snapshotReady => [.cyc]
  | .applyInstant _ => [.time, .cyc, .evq, .trace, .bus, .cfg, .mode, .safe, .field, .health, .inj, .adc, .panel,
      .wdog, .link, .txn, .sta, .ser, .upd, .flash]
  | .signalDetect _ => [.time, .evq, .trace, .health, .link]
  | .trainComplete _ _ _ _ => [.evq, .trace, .mode, .health, .link]
  | .alignUp _ _ => [.time, .evq, .trace, .mode, .health, .link, .sta]
  | .alignTimeout _ => [.evq, .trace, .health, .link]
  | .lossOfSync _ _ => [.time, .evq, .trace, .health, .link]
  | .lossOfSignal _ => [.time, .evq, .trace, .health, .link]
  | .retrain _ _ => [.mem, .evq, .trace, .bus, .health, .link]
  | .crossedPairs _ => [.evq, .trace, .mode, .link]
  | .frameForward _ _ _ => [.mem, .time, .cyc, .evq, .trace, .bus, .cfg, .mode, .safe, .field, .health, .inj, .adc,
      .panel, .wdog, .link, .txn, .sta, .sec, .ser, .media, .upd, .flash]
  | .rsvdTypeFrame _ _ => [.mem, .time, .cyc, .evq, .trace, .bus, .cfg, .mode, .safe, .field, .health, .inj, .adc,
      .panel, .wdog, .link, .txn, .sta, .sec, .ser, .media, .upd, .flash]
  | .loopEngage _ => [.evq, .trace, .link]
  | .ownFrameSend _ => [.link]
  | .loopbackNoticeSet _ _ _ _ => [.mem, .evq, .trace, .bus, .link, .sta]
  | .loopbackNoticeFrame _ _ => [.mem, .time, .cyc, .evq, .trace, .bus, .cfg, .mode, .safe, .field, .health, .inj,
      .adc, .panel, .wdog, .link, .txn, .sta, .sec, .ser, .media, .upd, .flash]
  | .loopRel _ => [.mem, .evq, .trace, .bus, .health, .link]
  | .loopRelease _ => [.time, .evq, .trace, .link]
  | .loopForce _ => [.mem, .evq, .trace, .bus, .health, .link]
  | .bypassDelayExpiry => [.link]
  | .bypassInsert _ => [.mem, .evq, .trace, .bus, .health, .link]
  | .bypassDrop _ => [.mem, .evq, .trace, .bus, .health, .link]
  | .bypassPwrfailDrop => [.link]
  | .bypassNotice _ => [.time, .link]
  | .linkCntClr _ => [.mem, .evq, .trace, .bus, .health, .link]
  | .linkCntFreeze _ _ => [.mem, .evq, .trace, .bus, .health, .link]
  | .heatLaunch => [.free, .mem, .time, .evq, .trace, .bus, .link, .sta]
  | .outPubSample => [.time, .evq, .bus, .sta]
  | .heatReceive _ _ => [.mem, .time, .cyc, .evq, .trace, .bus, .cfg, .mode, .safe, .field, .health, .inj, .adc,
      .panel, .wdog, .link, .txn, .sta, .sec, .ser, .media, .upd, .flash]
  | .heatReturn _ _ => [.mem, .time, .cyc, .evq, .trace, .bus, .cfg, .mode, .safe, .field, .health, .inj, .adc,
      .panel, .wdog, .link, .txn, .sta, .sec, .ser, .media, .upd, .flash]
  | .pingOutcome _ => [.mem, .evq, .trace, .sta]
  | .inReadyDeadline => [.mem, .time, .evq, .trace, .bus, .sta]
  | .batonSend => [.mem, .evq, .trace, .bus, .mode, .safe, .health, .adc, .wdog, .link, .sta, .sec, .media, .upd,
      .flash]
  | .batonReceive _ _ => [.mem, .time, .cyc, .evq, .trace, .bus, .cfg, .mode, .safe, .field, .health, .inj, .adc,
      .panel, .wdog, .link, .txn, .sta, .sec, .ser, .media, .upd, .flash]
  | .batonReturn _ _ => [.mem, .time, .cyc, .evq, .trace, .bus, .cfg, .mode, .safe, .field, .health, .inj, .adc,
      .panel, .wdog, .link, .txn, .sta, .sec, .ser, .media, .upd, .flash]
  | .txnExpiry _ _ _ => [.time, .evq, .trace, .mode, .safe, .health, .adc, .wdog, .txn, .sec, .ser]
  | .expiredDiscard _ _ => [.time, .evq, .trace, .txn, .sec]
  | .doneEntryLapse _ _ => [.time, .txn]
  | .bcastDrop _ _ => [.time, .evq, .trace, .mode, .safe, .health, .adc, .wdog, .txn, .sec, .ser]
  | .txnRetry _ _ => [.time, .sta]
  | .txnLost _ _ => [.mem, .time, .evq, .trace, .bus, .sta, .sec, .media, .upd, .flash]
  | .cryptoOpDone => [.evq, .trace, .mode, .safe, .health, .adc, .wdog, .txn, .sec]
  | .floorWriteDone _ => [.evq, .trace, .mode, .safe, .health, .adc, .wdog, .txn, .sec]
  | .ping _ _ _ => [.evq, .trace, .mode, .safe, .health, .adc, .wdog, .txn, .sec, .ser]
  | .regRead _ _ _ => [.time, .evq, .trace, .bus, .cfg, .mode, .safe, .health, .adc, .panel, .wdog, .txn, .sta, .sec,
      .ser]
  | .regWrite _ _ _ => [.free, .mem, .time, .cyc, .evq, .trace, .bus, .cfg, .mode, .safe, .field, .health, .inj, .adc,
      .panel, .wdog, .link, .txn, .sta, .sec, .ser, .media, .upd, .flash]
  | .tblRead _ _ _ => [.evq, .trace, .cfg, .mode, .safe, .health, .adc, .wdog, .txn, .sec, .ser]
  | .tblWrite _ _ _ => [.evq, .trace, .cfg, .mode, .safe, .field, .health, .adc, .wdog, .txn, .sec, .ser]
  | .cfgOwnQuery _ _ _ => [.evq, .trace, .cfg, .mode, .safe, .health, .adc, .wdog, .txn, .sec, .ser]
  | .flashRead _ => [.free, .mem, .evq, .trace, .bus, .mode, .safe, .health, .adc, .wdog, .txn, .sec, .ser, .flash]
  | .traceRead _ _ _ => [.evq, .trace, .mode, .safe, .health, .adc, .wdog, .txn, .sec, .ser]
  | .cspXfer _ => [.mem, .evq, .trace, .bus, .mode, .safe, .health, .adc, .wdog, .txn, .sec, .ser]
  | .adcCapt _ => [.mem, .evq, .trace, .bus, .mode, .safe, .health, .adc, .wdog, .txn, .sec, .ser]
  | .captRead _ _ _ => [.evq, .trace, .mode, .safe, .health, .adc, .wdog, .txn, .sec, .ser]
  | .relayCtrlMap _ _ _ => [.evq, .trace, .mode, .safe, .health, .adc, .wdog, .txn, .sec, .ser]
  | .relayCtrlStatus _ _ _ => [.evq, .trace, .mode, .safe, .health, .adc, .wdog, .txn, .sec, .ser]
  | .ownerLockSet _ _ _ => [.evq, .trace, .mode, .safe, .health, .adc, .wdog, .txn, .sec, .ser]
  | .ownerLockClear _ _ _ => [.evq, .trace, .mode, .safe, .health, .adc, .wdog, .txn, .sec, .ser]
  | .posBind _ _ _ => [.evq, .trace, .mode, .safe, .health, .adc, .wdog, .link, .txn, .sec, .ser]
  | .posUnbind _ _ _ => [.evq, .trace, .mode, .safe, .health, .adc, .wdog, .link, .txn, .sec, .ser]
  | .injEnable _ _ _ => [.evq, .trace, .mode, .safe, .health, .inj, .adc, .wdog, .txn, .sec, .ser]
  | .rekey _ _ _ => [.evq, .trace, .mode, .safe, .health, .adc, .wdog, .txn, .sec, .ser]
  | .lineStart _ _ => [.mem, .time, .evq, .trace, .bus, .mode, .safe, .adc, .wdog, .sta]
  | .lineStartSettle => [.time, .evq, .bus, .link, .sta]
  | .lineStop _ _ => [.mem, .time, .evq, .bus, .link, .sta]
  | .enum _ _ => [.mem, .evq, .trace, .bus, .mode, .safe, .adc, .wdog, .link, .sta]
  | .countReceive _ _ => [.mem, .time, .cyc, .evq, .trace, .bus, .cfg, .mode, .safe, .field, .health, .inj, .adc,
      .panel, .wdog, .link, .txn, .sta, .sec, .ser, .media, .upd, .flash]
  | .countReturn _ _ => [.mem, .time, .cyc, .evq, .trace, .bus, .cfg, .mode, .safe, .field, .health, .inj, .adc,
      .panel, .wdog, .link, .txn, .sta, .sec, .ser, .media, .upd, .flash]
  | .lineTxn _ _ => [.mem, .evq, .bus, .sta]
  | .gunSchedule _ _ => [.mem, .evq, .trace, .bus, .cfg, .mode, .safe, .adc, .wdog, .sta]
  | .gunCutoff => [.time, .evq, .bus, .cfg, .sta]
  | .gunClosingSweep => [.mem, .time, .evq, .bus, .sta]
  | .relayPull _ _ => [.mem, .evq, .trace, .bus, .mode, .safe, .adc, .wdog, .sta, .sec, .media, .upd, .flash]
  | .takeoverStart => [.time, .evq, .trace, .sta]
  | .takeoverEnd _ _ => [.mem, .evq, .bus, .sta]
  | .takeoverAutoEnd => [.time, .evq, .trace, .bus, .sta]
  | .nop _ _ => [.mem, .evq, .bus]
  | .busDecodeError _ _ => [.mem, .evq, .trace, .bus]
  | .hostStrobeEarly _ _ => [.free, .mem, .time, .cyc, .evq, .trace, .bus, .cfg, .mode, .safe, .field, .health, .inj,
      .adc, .panel, .wdog, .link, .txn, .sta, .sec, .ser, .media, .upd, .flash]
  | .apertureWrite _ _ _ _ => [.mem, .evq, .trace, .bus]
  | .apertureRead _ _ _ => [.mem, .evq, .trace, .bus, .txn, .ser]
  | .xipRead _ => [.mem, .evq, .trace, .bus, .txn, .ser]
  | .xipTimeout _ => [.time, .evq, .trace, .bus, .txn, .ser]
  | .xipEnable _ _ _ _ => [.free, .mem, .time, .cyc, .evq, .trace, .bus, .cfg, .mode, .safe, .field, .health, .inj,
      .adc, .panel, .wdog, .link, .txn, .sta, .sec, .ser, .media, .upd, .flash]
  | .xipFlush _ => [.free, .mem, .time, .cyc, .evq, .trace, .bus, .cfg, .mode, .safe, .field, .health, .inj, .adc,
      .panel, .wdog, .link, .txn, .sta, .sec, .ser, .media, .upd, .flash]
  | .keyseqWrite _ _ => [.free, .mem, .time, .cyc, .evq, .trace, .bus, .cfg, .mode, .safe, .field, .health, .inj,
      .adc, .panel, .wdog, .link, .txn, .sta, .sec, .ser, .media, .upd, .flash]
  | .keyLapse _ => [.time, .bus]
  | .cmdqAsmClr _ => [.free, .mem, .time, .cyc, .evq, .trace, .bus, .cfg, .mode, .safe, .field, .health, .inj, .adc,
      .panel, .wdog, .link, .txn, .sta, .sec, .ser, .media, .upd, .flash]
  | .cplqDataRead _ => [.mem, .time, .evq, .trace, .bus, .cfg, .adc, .panel, .sta]
  | .registerWrite _ _ _ _ => [.free, .mem, .time, .cyc, .evq, .trace, .bus, .cfg, .mode, .safe, .field, .health,
      .inj, .adc, .panel, .wdog, .link, .txn, .sta, .sec, .ser, .media, .upd, .flash]
  | .evqDataRead _ => [.mem, .time, .evq, .trace, .bus, .cfg, .adc, .panel, .sta]
  | .evqHoldLapse => [.time, .evq]
  | .chinRead _ => [.mem, .time, .evq, .trace, .bus, .cfg, .adc, .panel, .sta]
  | .cfgDataRead _ => [.mem, .evq, .trace, .bus, .cfg]
  | .cfgDataWrite _ _ => [.mem, .evq, .trace, .bus, .cfg, .mode, .safe, .field, .health, .adc, .wdog]
  | .claim _ => [.mem, .evq, .trace, .bus, .cfg, .mode, .safe, .adc, .wdog, .flash]
  | .release _ => [.mem, .evq, .trace, .bus, .cfg, .mode, .safe, .adc, .wdog, .flash]
  | .claimLapse => [.time, .evq, .trace, .cfg]
  | .validate _ => [.mem, .evq, .trace, .bus, .cfg, .mode, .safe, .adc, .wdog, .flash]
  | .validateDone => [.evq, .trace, .cfg]
  | .copy _ => [.mem, .evq, .trace, .bus, .cfg, .mode, .safe, .adc, .wdog, .flash]
  | .copyDone => [.evq, .trace, .cfg]
  | .swapNow _ => [.mem, .evq, .trace, .bus, .cfg, .mode, .safe, .adc, .wdog, .flash]
  | .swapCycle _ => [.mem, .evq, .trace, .bus, .cfg, .mode, .safe, .adc, .wdog, .flash]
  | .swapGun _ => [.mem, .evq, .trace, .bus, .cfg, .mode, .safe, .adc, .wdog, .flash]
  | .cancel _ => [.mem, .evq, .trace, .bus, .cfg, .mode, .safe, .adc, .wdog, .flash]
  | .commit _ => [.mem, .evq, .trace, .bus, .cfg, .mode, .safe, .adc, .wdog, .flash]
  | .commitDone _ => [.evq, .trace, .cfg, .mode]
  | .autoCommitStart => [.cfg, .flash]
  | .cfgCtrlMulti _ _ => [.mem, .evq, .trace, .bus, .cfg, .mode, .safe, .adc, .wdog, .flash]
  | .swapInstant => [.time, .cyc, .evq, .trace, .bus, .cfg, .mode, .safe, .field, .health, .adc, .panel, .wdog, .link,
      .txn, .sta, .ser, .flash]
  | .goSetup _ => [.mem, .cyc, .evq, .trace, .bus, .cfg, .mode, .safe, .field, .health, .inj, .adc, .panel, .wdog,
      .link, .txn, .sta, .sec, .ser, .media, .upd]
  | .goRun _ => [.mem, .cyc, .evq, .trace, .bus, .cfg, .mode, .safe, .field, .health, .inj, .adc, .panel, .wdog,
      .link, .txn, .sta, .sec, .ser, .media, .upd]
  | .goSafe _ => [.mem, .cyc, .evq, .trace, .bus, .cfg, .mode, .safe, .field, .health, .inj, .adc, .panel, .wdog,
      .link, .txn, .sta, .sec, .ser, .media, .upd]
  | .resume _ => [.mem, .cyc, .evq, .trace, .bus, .cfg, .mode, .safe, .field, .health, .inj, .adc, .panel, .wdog,
      .link, .txn, .sta, .sec, .ser, .media, .upd]
  | .goMinimal _ => [.mem, .cyc, .evq, .trace, .bus, .cfg, .mode, .safe, .field, .health, .inj, .adc, .panel, .wdog,
      .link, .txn, .sta, .sec, .ser, .media, .upd]
  | .reboot _ => [.mem, .cyc, .evq, .trace, .bus, .cfg, .mode, .safe, .field, .health, .inj, .adc, .panel, .wdog,
      .link, .txn, .sta, .sec, .ser, .media, .upd]
  | .rest _ => [.mem, .cyc, .evq, .trace, .bus, .cfg, .mode, .safe, .field, .health, .inj, .adc, .panel, .wdog, .link,
      .txn, .sta, .sec, .ser, .media, .upd]
  | .restEntry => [.evq, .trace, .mode, .safe, .adc, .wdog]
  | .wake _ => [.mem, .cyc, .evq, .trace, .bus, .cfg, .mode, .safe, .field, .health, .inj, .adc, .panel, .wdog, .link,
      .txn, .sta, .sec, .ser, .media, .upd]
  | .holdSenseSample _ _ => [.evq, .trace, .mode, .safe, .health, .adc, .wdog]
  | .pwrfailAssert => [.evq, .trace, .cfg, .mode, .safe, .field, .inj, .adc, .panel, .wdog, .link, .txn]
  | .pwrfailRelease => [.trace, .cfg, .mode, .safe, .link, .txn, .flash]
  | .safecmdEnter _ => [.mem, .evq, .trace, .bus, .mode, .safe, .field, .inj, .adc, .panel, .wdog, .link]
  | .ackAll _ => [.mem, .evq, .trace, .bus, .mode, .safe, .field, .inj, .adc, .panel, .wdog, .link]
  | .chfltAck _ _ => [.mem, .evq, .trace, .bus, .mode, .safe, .field, .adc, .wdog]
  | .safeReqAssert => [.evq, .trace, .mode, .safe, .field, .inj, .adc, .panel, .wdog, .link]
  | .safeReqRelease => [.evq, .trace, .mode, .safe, .adc, .wdog]
  | .barrierLoss => [.cyc, .evq, .trace, .mode, .safe, .supply, .field, .health, .inj, .adc, .panel, .wdog, .link]
  | .barrierReturn => [.cyc, .evq, .trace, .cfg, .mode, .safe, .supply, .field, .adc, .panel]
  | .lpOff _ => [.evq, .trace, .supply]
  | .lpOvervoltage _ => [.evq, .trace, .supply]
  | .lpReversed => [.evq, .trace, .supply]
  | .lpBack _ => [.evq, .trace, .supply]
  | .lsFault _ => [.free, .evq, .trace, .mode, .safe, .supply, .adc, .wdog]
  | .lsOk _ => [.evq, .trace, .supply]
  | .lsBrownout _ => [.cyc, .evq, .trace, .cfg, .mode, .safe, .supply, .field, .health, .inj, .adc, .panel, .wdog,
      .link]
  | .dieOvertemp _ => [.free, .evq, .trace, .mode, .safe, .supply, .adc, .wdog]
  | .dieCool _ => [.evq, .trace, .supply]
  | .channelFaultDetect _ _ => [.free, .evq, .trace, .mode, .safe, .field, .health, .adc, .wdog]
  | .channelFaultClear _ _ => [.evq, .trace, .field]
  | .faultRetry _ => [.time, .field]
  | .retryCountReset _ => [.time, .field]
  | .inputEdge _ _ _ _ => [.time, .evq, .trace, .field, .adc]
  | .pwmPeriodStart _ => [.time, .field]
  | .slLoad _ => [.mem, .evq, .trace, .bus, .cfg, .mode, .safe, .field, .health, .adc, .wdog]
  | .slCancel _ => [.mem, .evq, .trace, .bus, .cfg, .mode, .safe, .field, .health, .adc, .wdog]
  | .slRead _ => [.mem, .evq, .trace, .bus, .cfg, .mode, .safe, .field, .health, .adc, .wdog]
  | .slIssue _ _ => [.time, .field]
  | .slGate _ _ => [.time, .cyc, .evq, .trace, .bus, .cfg, .mode, .safe, .field, .health, .inj, .adc, .panel, .wdog,
      .link, .txn, .sta, .ser, .upd, .flash]
  | .pfSelWrite _ _ => [.mem, .evq, .trace, .bus, .cfg, .mode, .safe, .field, .health, .adc, .wdog]
  | .choutWrite _ _ => [.mem, .evq, .trace, .bus, .mode, .safe, .field, .adc, .wdog]
  | .forceSet _ _ _ => [.mem, .cyc, .evq, .trace, .bus, .mode, .safe, .field, .inj, .adc, .panel, .wdog, .link, .upd]
  | .forceRemove _ _ => [.mem, .cyc, .evq, .trace, .bus, .mode, .safe, .field, .inj, .adc, .panel, .wdog, .link, .upd]
  | .forceClearAll _ => [.mem, .cyc, .evq, .trace, .bus, .mode, .safe, .field, .inj, .adc, .panel, .wdog, .link, .upd]
  | .modeOffEnd _ => [.time, .field, .adc]
  | .regStart _ => [.mem, .evq, .trace, .bus, .mode, .safe, .adc, .wdog]
  | .regStop _ => [.mem, .evq, .trace, .bus, .mode, .safe, .adc, .wdog]
  | .injTrig _ => [.mem, .evq, .trace, .bus, .mode, .safe, .adc, .wdog]
  | .injTimeTrigger => [.time, .adc]
  | .calZero _ _ => [.mem, .evq, .trace, .bus, .mode, .safe, .adc, .wdog]
  | .calFull _ _ => [.mem, .evq, .trace, .bus, .mode, .safe, .adc, .wdog]
  | .calAbort _ _ => [.mem, .evq, .trace, .bus, .mode, .safe, .adc, .wdog]
  | .calStepDone => [.evq, .trace, .adc, .flash]
  | .calTimeout => [.time, .evq, .trace, .adc]
  | .fifoClr _ => [.mem, .evq, .trace, .bus, .mode, .safe, .adc, .wdog]
  | .dacTest _ => [.mem, .evq, .trace, .bus, .mode, .safe, .adc, .wdog]
  | .dacTestDone => [.adc]
  | .roundStart => [.time, .adc]
  | .conversionEnd _ _ _ => [.mem, .time, .evq, .trace, .adc]
  | .captureDone => [.mem, .evq, .trace, .bus, .mode, .safe, .health, .adc, .wdog, .txn, .sec]
  | .aoReadbackSample _ _ => [.field]
  | .adcFifoRead _ => [.mem, .bus, .adc]
  | .cspTransferEnd _ => [.mem, .evq, .trace, .bus, .mode, .safe, .health, .adc, .wdog, .txn, .sec, .ser]
  | .readyTimeout _ _ => [.evq, .trace, .bus, .mode, .safe, .health, .adc, .wdog, .txn, .sec, .ser]
  | .dqsTimeout _ => [.evq, .trace, .bus, .mode, .safe, .health, .adc, .wdog, .txn, .sec, .ser]
  | .cmAbort _ => [.free, .mem, .time, .cyc, .evq, .trace, .bus, .cfg, .mode, .safe, .field, .health, .inj, .adc,
      .panel, .wdog, .link, .txn, .sta, .sec, .ser, .media, .upd, .flash]
  | .prefetchStart => [.txn, .ser]
  | .erasePoll => [.txn, .ser]
  | .eraseTrackLimit => [.time, .bus, .wdog, .txn, .ser]
  | .slaveRead _ => [.free, .mem, .time, .cyc, .evq, .trace, .bus, .cfg, .mode, .safe, .field, .health, .inj, .adc,
      .panel, .wdog, .link, .txn, .sta, .sec, .ser, .media, .upd, .flash]
  | .slaveWrite _ => [.free, .mem, .time, .cyc, .evq, .trace, .bus, .cfg, .mode, .safe, .field, .health, .inj, .adc,
      .panel, .wdog, .link, .txn, .sta, .sec, .ser, .media, .upd, .flash]
  | .slaveNop _ => [.free, .mem, .time, .cyc, .evq, .trace, .bus, .cfg, .mode, .safe, .field, .health, .inj, .adc,
      .panel, .wdog, .link, .txn, .sta, .sec, .ser, .media, .upd, .flash]
  | .slaveFrameIgnored _ => [.free, .mem, .time, .cyc, .evq, .trace, .bus, .cfg, .mode, .safe, .field, .health, .inj,
      .adc, .panel, .wdog, .link, .txn, .sta, .sec, .ser, .media, .upd, .flash]
  | .slaveFrameAbort _ _ => [.ser]
  | .spEnable _ _ => [.free, .mem, .time, .cyc, .evq, .trace, .bus, .cfg, .mode, .safe, .field, .health, .inj, .adc,
      .panel, .wdog, .link, .txn, .sta, .sec, .ser, .media, .upd, .flash]
  | .panelFrame => [.evq, .trace, .field, .panel]
  | .keyPress _ _ => [.evq, .trace, .mode, .safe, .field, .adc, .panel, .wdog]
  | .keyRelease _ => [.evq, .trace, .mode, .safe, .field, .adc, .panel, .wdog]
  | .keyRepeat => [.time, .evq, .trace, .mode, .safe, .field, .adc, .panel, .wdog]
  | .encTransition _ _ _ => [.evq, .trace, .mode, .safe, .field, .adc, .panel, .wdog]
  | .menuRefresh => [.evq, .trace, .field, .panel]
  | .menuIdle => [.time, .evq, .trace, .field, .panel]
  | .jogTimeout => [.time, .evq, .trace, .field, .panel]
  | .chordComplete => [.time, .cyc, .evq, .trace, .bus, .cfg, .mode, .safe, .field, .health, .adc, .panel, .wdog,
      .txn, .sta, .sec, .ser, .media, .upd, .flash]
  | .panelEvtRead _ => [.mem, .bus, .panel]
  | .panelHostChange _ _ => [.mem, .evq, .trace, .bus, .mode, .safe, .field, .adc, .panel, .wdog]
  | .panelClr _ => [.mem, .evq, .trace, .bus, .mode, .safe, .field, .adc, .panel, .wdog]
  | .wdhAnswer _ _ => [.mem, .evq, .trace, .bus, .mode, .safe, .field, .inj, .adc, .panel, .wdog, .link, .upd]
  | .wdhWindowOpen => [.time, .wdog]
  | .wdhPeriodEnd => [.time, .evq, .trace, .mode, .safe, .field, .inj, .adc, .panel, .wdog, .link, .upd]
  | .wdcAnswer _ => [.evq, .trace, .mode, .safe, .field, .inj, .adc, .panel, .wdog, .link, .upd]
  | .wdcPeriodEnd => [.time, .evq, .trace, .mode, .safe, .field, .inj, .adc, .panel, .wdog, .link, .upd]
  | .wdcCoreReset => [.evq, .trace, .bus, .cfg, .mode, .safe, .field, .health, .adc, .panel, .wdog, .txn, .sta, .sec,
      .ser, .media, .upd]
  | .freezeLimit _ => [.time, .wdog]
  | .mediaInsert => [.evq, .trace, .mode, .safe, .adc, .wdog, .media]
  | .mediaIdentify _ => [.time, .evq, .trace, .txn, .sec, .ser, .media, .upd]
  | .mediaRemove => [.ser, .media, .upd]
  | .mediaSectorRead _ _ => [.evq, .trace, .txn, .sec, .ser, .media, .upd, .flash]
  | .mediaAbsenceTimeout => [.time, .evq, .trace, .sec, .media, .upd]
  | .start _ => [.mem, .time, .cyc, .evq, .trace, .bus, .cfg, .mode, .safe, .field, .health, .adc, .panel, .wdog,
      .txn, .sta, .sec, .ser, .media, .upd, .flash]
  | .abort _ => [.mem, .time, .cyc, .evq, .trace, .bus, .cfg, .mode, .safe, .field, .health, .adc, .panel, .wdog,
      .txn, .sta, .sec, .ser, .media, .upd, .flash]
  | .prepare _ => [.mem, .time, .cyc, .evq, .trace, .bus, .cfg, .mode, .safe, .field, .health, .adc, .panel, .wdog,
      .txn, .sta, .sec, .ser, .media, .upd, .flash]
  | .preparePartDone => [.evq, .trace, .sec, .media, .upd, .flash]
  | .activate _ => [.mem, .time, .cyc, .evq, .trace, .bus, .cfg, .mode, .safe, .field, .health, .adc, .panel, .wdog,
      .txn, .sta, .sec, .ser, .media, .upd, .flash]
  | .activateStart => [.time, .cyc, .evq, .trace, .bus, .cfg, .mode, .safe, .field, .health, .adc, .panel, .wdog,
      .txn, .sta, .sec, .ser, .media, .upd]
  | .actPauseEnd => [.time, .cyc, .evq, .trace, .bus, .cfg, .mode, .safe, .supply, .field, .health, .adc, .panel,
      .wdog, .txn, .sta, .sec, .ser, .media, .upd]
  | .veto _ => [.mem, .time, .cyc, .evq, .trace, .bus, .cfg, .mode, .safe, .field, .health, .adc, .panel, .wdog, .txn,
      .sta, .sec, .ser, .media, .upd, .flash]
  | .relayJoin _ => [.mem, .time, .cyc, .evq, .trace, .bus, .cfg, .mode, .safe, .field, .health, .adc, .panel, .wdog,
      .txn, .sta, .sec, .ser, .media, .upd, .flash]
  | .stagingSectorDone _ => [.evq, .trace, .bus, .txn, .sta, .sec, .ser, .media, .upd, .flash]
  | .relaySend => [.time, .evq, .trace, .link, .sta, .upd]
  | .relayReceive _ _ => [.mem, .time, .cyc, .evq, .trace, .bus, .cfg, .mode, .safe, .field, .health, .inj, .adc,
      .panel, .wdog, .link, .txn, .sta, .sec, .ser, .media, .upd, .flash]
  | .distributeWaitEnd => [.time, .evq, .trace, .sta, .upd]
  | .confirmWrite => [.evq, .trace, .sec, .media, .upd]
  | .confirmDeadline => [.time, .cyc, .evq, .trace, .bus, .cfg, .mode, .safe, .field, .health, .adc, .panel, .wdog,
      .txn, .sta, .sec, .ser, .media, .upd]
  | .otpOwner _ => [.sec, .tap]
  | .otpProgramDone => [.sec]
  | .extest _ _ => [.tap]
  | .samplePreload _ _ => [.tap]
  | .highz => [.tap]
  | .clamp => [.tap]
  | .bypass => [.tap]
  | .tapReset => [.tap]
  | .injEnableExpiry => [.time, .inj]
  | .flashEraseEnd _ => [.time, .wdog, .flash]
  | .flashEraseAbort => [.time, .wdog, .flash]
  | .eraseCutoff => [.time, .wdog, .flash]
  | .eraseResume => [.time, .flash]
  | .flashProgramDone _ => [.free, .evq, .trace, .mode, .safe, .health, .adc, .wdog, .upd, .flash]
  | .healthInterval => [.time, .evq, .trace, .mode, .safe, .health, .adc, .wdog]
  | .pllHeadroomSample _ => [.health]
  | .holdReplExpiry => [.time, .evq, .trace, .mode, .safe, .health, .adc, .wdog]
  | .summaryPage => [.time, .trace, .health]
  | .replClr _ _ => [.mem, .evq, .trace, .bus, .cfg, .mode, .safe, .field, .health, .adc, .wdog]
  | .traceDataRead _ => [.mem, .trace, .bus]
  | .traceFreeze _ => [.mem, .evq, .trace, .bus, .mode, .safe, .adc, .wdog]
  | .traceUnfreeze _ => [.mem, .evq, .trace, .bus, .mode, .safe, .adc, .wdog]
  | .traceRdOldest _ => [.mem, .evq, .trace, .bus, .mode, .safe, .adc, .wdog]
  | .traceRdNewest _ => [.mem, .evq, .trace, .bus, .mode, .safe, .adc, .wdog]
  | .persist _ => [.mem, .evq, .trace, .bus, .mode, .safe, .adc, .wdog]
  | .persistDone => [.trace, .health]
  | .injArm _ _ _ _ => [.mem, .evq, .trace, .bus, .mode, .safe, .health, .inj, .adc, .wdog]
  | .injDisarm _ => [.mem, .evq, .trace, .bus, .mode, .safe, .health, .inj, .adc, .wdog]
  | .injTimeout => [.time, .inj]
  | .injReorderDrop => [.time, .inj]
  | .junctionCooled _ => [.field]
  | .reverseFeedEnd _ => [.evq, .trace, .field]
  | .holdWarnExpiry => [.time, .evq, .trace, .mode, .safe, .health, .adc, .wdog]
  | .roleConflict => [.evq, .trace, .mode]
  | .longBurstStart => [.time, .adc]

/-- The command is run to its end: exec answers a next state, and P holds of it. -/
def Completes (c : Instr) (s : State) (P : State → Prop) : Prop := ∃ t : State, exec c s = .next t ∧ P t

/-- So many steps, one after the other. -/
def runSteps (n : Nat) (s : State) : Result :=
  match n with
  | 0 => .next s
  | n + 1 =>
    match step s with
    | .next t => runSteps n t
    | r => r

/-- The commands run one after the other, whatever the queue. -/
def execAll (cs : List Instr) (s : State) : Result :=
  match cs with
  | [] => .next s
  | c :: r =>
    match exec c { s with pending := r } with
    | .next t => execAll r t
    | a => a

/-- The state at the instant of a frame's last symbol: a configuration swap whose instant has come has taken effect (R222). -/
def atEnd (s : State) (f : LineFrame) : State := swapFirst (timeJudge (s.reach (f.tin / 64 + (f.body.length + 8) * 8)))

/-- The state in which a frame has passed the input of a port; one that an SOF inside it ends leaves the port to skip the frame
that the SOF begins (R76). -/
def arrived (s : State) (p : Port) (f : LineFrame) : State :=
  (atEnd s f).onPort p (fun l => { l with skip := f.term = .sofInside })

/-- The frame is counted at its port, and not as discarded. -/
def takenIn (s : State) (p : Port) (f : LineFrame) : State := countFrame (arrived s p f) p f false

/-- The passage of a frame from port p to the egress out. -/
def passageOf (s : State) (p : Port) (f : LineFrame) (out : Option Port) : Passage :=
  { p, out, f, v := verdict f, tHead := (arrived s p f).time.line - (f.body.length + 8 - 33) * 8 }

/-- The port is UP and passes the frame to the egress out; the frame did not begin inside another, and no injector acts on it. -/
structure Passes (s : State) (p : Port) (f : LineFrame) (out : Option Port) : Prop where
  up : isUp s p = true
  awake : s.mode.porst = false
  plain : s.inj.armed = none
  noneHeld : s.inj.heldFrame = none
  begun : (lport (atEnd s f) p).skip = false
  way : route (arrived s p f) p f.tin = some out

/-- A consumed line transaction with that opcode waits for its execution, which nothing holds up: the logic units run, so does
the core where the opcode needs it, and its lifetime has not ended (R130). -/
structure Held (s : State) (bcast anchor : Bool) (tag op : Nat) (t : Txn) : Prop where
  found : findHeld s bcast anchor tag op = some t
  awake : s.mode.logicReset = false
  core : opcodeCore op = true → coreRuns s = true
  live : s.time.line ≤ t.deadline

/-- The state in which a write of a path acts: the access of the path has begun (R170, R186, R198). -/
def acting (s : State) (p : Path) : State := beginWrite (hostAccess s p) p

/-- The state in which a read of a path acts: a host read gives up a held half of a window access (R174). -/
def reading (s : State) (p : Path) : State := hostAccess s p

/-- A descriptor that a path posts passes every check of R181 and Table HBU-8, and is outstanding. -/
structure Accepted (s : State) (p : Path) (d : Descriptor) : Prop where
  served : pathOpen s p = true
  local_ : p ≠ .line
  room : cplFull (acting s p) p = false
  code : codeOk d.code = true
  mode : s.mode.mode ≠ .minimal ∨ d.code = 1
  fields : descOk d = true
  fresh : tagInFlight (acting s p) p d = false
  below : limitReached (acting s p) p d = false

/-- The state in which an accepted descriptor acts. -/
def posted (s : State) (p : Path) (d : Descriptor) : State := outstand (acting s p) p d

/-- The nonces, as pairs of epoch and counter, that a replay window accepts of those it is shown, in order (R461). -/
def accepted (w : Window) (l : List (Nat × Nat)) : List (Nat × Nat) :=
  match l with
  | [] => []
  | p :: r =>
    match windowTake w p.1 p.2 with
    | some w' => p :: accepted w' r
    | none => accepted w r

end Sys2Proof.Machine
end

