-- ==== Sys2Proof/Certificates/Slice0/Obligations.lean ====
section
/-! DEFINITION. Obligations: the statements about the block, for the provers. Each says what it formalises of the spec. -/

open Sys2Proof Sys2Proof.Machine

/-- A step takes the command at the front of the queue and runs it with the queue's rest. For every command c, queue r
and state s whose queue is c followed by r, step of s is exec of c on s with the queue r: the same outcome, and the
command has left the queue. Taking the front command is the form the model's cut gives a block; it is no rule of the
spec. (95_what_each_step_holds.md) -/
def Obligations.StepRunsFrontCommand : Prop :=
  ∀ (c : Instr) (r : List Instr) (s : State), s.pending = c :: r → step s = exec c { s with pending := r }

/-- With no command waiting a step is one 4 ns tick of line time (model's choice, log 1). On an empty queue: in
power-on reset step answers the same state. Outside it, with no slew left to do, TSTATE other than COARSE, line time a
multiple of 4 ns and a fraction below 256, step answers the state with line time 4 ns on modulo 2^64 and the slew's
clock 4 ns on, and nothing else changed. Outside it, with a fraction below 256 and line time at least 8 ns below 2^64,
step answers a next state with the queue empty, line time in units of 1/64 ns on by 256 units (4 ns) plus the part of
the slew done in this tick, which is at most one unit, the slew's clock 4 ns on, and SRAM, the cycle engine, modes,
field die, link and transactions unchanged. That an empty queue ticks is the model's choice (log 1), no rule of the
spec. The model's own choices and readings that it rests on: logs 1, 56. (02_line_time.md) -/
def Obligations.EmptyQueueTicks : Prop :=
  ∀ s : State, s.pending = [] →
      (s.mode.porst = true → step s = .next s) ∧
      (s.mode.porst = false → s.time.slew = 0 → s.time.tstate ≠ .coarse → s.time.line % 4 = 0 → s.time.frac < 256 →
        step s = .next { s with time := { s.time with
          line := (s.time.line + 4) % 2 ^ 64, slewN := s.time.slewN + 4 } }) ∧
      (s.mode.porst = false → s.time.frac < 256 → s.time.line + 8 < 2 ^ 64 →
        ∃ t : State, step s = .next t ∧ t.pending = [] ∧
          (lineUnits t.time : Int) = lineUnits s.time + 256 + (slewDone t.time - slewDone s.time) ∧
          (slewDone t.time - slewDone s.time).natAbs ≤ 1 ∧ t.time.slewN = s.time.slewN + 4 ∧
          t.mem = s.mem ∧ t.cyc = s.cyc ∧ t.mode = s.mode ∧ t.field = s.field ∧ t.link = s.link ∧ t.txn = s.txn)

/-- The state at reset is well-formed, and no command waits. State.reset meets State.Wf (SRAM in canonical form, event
queue, trace ring and ADC FIFO within 256, 2,048 and 256 entries); its queue of commands, event queue, trace ring, ADC
FIFO and the list of SRAM bytes are empty. That SRAM lists nothing, so that every byte reads 0x00, is the model's
choice (log 6). The model's own choices and readings that it rests on: log 6. (07_host_bus.md, 08_live_registers.md,
13_measurement.md, 21_health_trace_injection.md) -/
def Obligations.ResetIsWellFormed : Prop :=
  State.reset.Wf ∧ State.reset.pending = [] ∧ State.reset.evq.queue = [] ∧ State.reset.trace.ring = [] ∧
      State.reset.adc.fifo = [] ∧ State.reset.mem = []

/-- Every step, of whatever command, keeps SRAM canonical and the event queue, trace ring and ADC FIFO within their
sizes. For every state s that meets State.Wf (SRAM's listed bytes strictly rising within 1 MB with none equal to the
default; at most 256 events, 2,048 trace records and 256 ADC FIFO words) and every next state t that step answers,
whatever command stands at the front of the queue or if none does, t meets State.Wf too. The canonical form is the
model's own way to hold memory (log 6); the sizes are the spec's. The model's own choices and readings that it rests
on: log 6. (07_host_bus.md, 08_live_registers.md, 13_measurement.md, 21_health_trace_injection.md) -/
def Obligations.StepKeepsWellFormed : Prop :=
  ∀ s t : State, s.Wf → step s = .next t → t.Wf

/-- No command changes a part of the device outside its footprint, nor the queue of commands. For every command c and
states s and t, where exec c s answers next t: the queue of commands is unchanged, and every part of the state that
the footprint of c (Safety.lean: touches) does not list is the same in t as in s. The footprints are read off the
meanings; the straps (role and crystal) are listed for PORST_RELEASE alone. (95_what_each_step_holds.md) -/
def Obligations.CommandsKeepToTheirParts : Prop :=
  ∀ (c : Instr) (s t : State), exec c s = .next t →
      t.pending = s.pending ∧ ∀ p : Part, p ∉ touches c → p.Same s t

/-- No command stops the device: every command, on every state, answers a next state. For every command c and state s
there is a t with exec c s = next t: none ends in a fault or a refusal. A command whose conditions do not hold has the
effect that the spec gives it then, or none. The model's own choices and readings that it rests on: log 25.
(00_scope.md) -/
def Obligations.NoCommandStops : Prop :=
  ∀ (c : Instr) (s : State), ∃ t : State, exec c s = .next t

/-- A queue of n commands is run in n steps, in order, and then stands empty. For every state s there is a t that as
many steps as s has commands waiting reach, whose queue is empty, and which is the state that running those commands
one after another, first in first out, on s with an empty queue gives. (95_what_each_step_holds.md) -/
def Obligations.QueueDrainsInOrder : Prop :=
  ∀ s : State, ∃ t : State, runSteps s.pending.length s = .next t ∧ t.pending = [] ∧
      execAll s.pending { s with pending := [] } = .next t

/-- The table of operations gives no row any bits, so no word spells a command (model's choice, log 2). For every
nbits, w and s: decodeTableWord answers none and withFetchWord leaves s as it is, since every row of the table has an
empty list of fields (log 2). The model's own choices and readings that it rests on: log 2.
(95_what_each_step_holds.md) -/
def Obligations.NoWordSpellsACommand : Prop :=
  ∀ (nbits w : Nat) (s : State), decodeTableWord nbits w = none ∧ s.withFetchWord nbits w = s

/-- Each reset cause puts its domain into reset with the state that the reset leaves, and each release begins or runs
the boot. PORST_ASSERT and SUPPLY_MONITOR_TRIP of the line domain, outside power-on reset, complete in power-on reset
with their CAUSE, SETUP, no BOOT-OK, SRAM unlisted, event queue and transactions at reset, line time 0, EPOCH kept,
and are the same but for the operand. SUPPLY_MONITOR_TRIP of the logic domain, outside both resets, completes in logic
and core reset with RSTOUT_N low, CAUSE, SETUP, no BOOT-OK, event queue and transactions at reset and no window claim.
BOOT_TIMER_EXPIRY of a running boot completes in logic reset with CAUSE boot timer, the boot ended, the mode before
kept, and line time reached 3 s after the boot began. BOOT_STABLE after BOOT-OK completes with STABLE set at 120 s; FS
becomes 0 outside PWRFAIL_N unless the minimal image runs after three or more false starts, and is kept otherwise.
WDC_CORE_RESET, where one is due, completes in core reset with the CAUSE of its kind, SRAM and link kept.
PORST_RELEASE in power-on reset with no boot running is bootGo of the boot begun with the sampled straps; run to step
0 it completes with role, crystal and the boot's start; run to step 2 without a crystal, with a power-on cause and no
fallback under way, it completes at step 2 with REASON 0x010B. LOGIC_RESET and CORE_RESET after their kinds of CAUSE
are bootGo of the boot begun; run to step 0 they complete with the boot begun. BootEnv, and that one row may run a
part of the boot, are the model's choice (log 67). The model's own choices and readings that it rests on: logs 6, 17,
18, 25, 67, 98. (10_modes_power.md, 02_line_time.md, 06_starter_anchor.md) -/
def Obligations.ResetsAndBoots : Prop :=
  (∀ (supply : Bool) (s : State), s.mode.porst = false →
     Completes (.porstAssert supply) s (fun t =>
       t.mode.porst = true ∧ t.mode.cause = (if supply then .lineSupply else .porst) ∧ t.mode.mode = .setup ∧
       t.mode.bootOk = false ∧ t.mem = [] ∧ t.evq = State.reset.evq ∧ t.txn = State.reset.txn ∧ t.time.line = 0 ∧
       t.sec.epoch = s.sec.epoch ∧ t.pending = s.pending)) ∧
  (∀ s : State, s.mode.porst = false →
     exec (.supplyMonitorTrip true) s = exec (.porstAssert true) s ∧
     Completes (.supplyMonitorTrip true) s (fun t =>
       t.mode.porst = true ∧ t.mode.cause = .lineSupply ∧ t.mem = [] ∧ t.time.line = 0)) ∧
  (∀ s : State, s.mode.porst = false → s.mode.logicReset = false →
     Completes (.supplyMonitorTrip false) s (fun t =>
       t.mode.logicReset = true ∧ t.mode.coreReset = true ∧ t.mode.rstout = true ∧ t.mode.cause = .logicSupply ∧
       t.mode.mode = .setup ∧ t.mode.bootOk = false ∧ t.evq = State.reset.evq ∧ t.txn = State.reset.txn ∧
       t.cfg.owner = none)) ∧
  (∀ s : State, s.mode.booting = true →
     Completes .bootTimerExpiry s (fun t =>
       t.mode.logicReset = true ∧ t.mode.cause = .bootTimer ∧ t.mode.booting = false ∧ t.mode.rstout = true ∧
       t.mode.modeBefore = s.mode.mode ∧ t.time.line = reachLine s.time.line (s.mode.bootT + 3000000000))) ∧
  (∀ s : State, s.mode.bootOk = true → s.mode.stable = false →
     Completes .bootStable s (fun t =>
       t.mode.stable = true ∧ t.time.line = reachLine s.time.line (s.mode.okT + 120000000000) ∧
       (s.mode.pwrfail = false → s.mode.minimalImage = false ∨ s.mode.fstarts < 3 → t.mode.fs = 0) ∧
       (s.mode.pwrfail = true ∨ (s.mode.minimalImage = true ∧ 3 ≤ s.mode.fstarts) → t.mode.fs = s.mode.fs))) ∧
  (∀ (s : State) (fatal : Bool), s.wdog.cReset = some fatal →
     Completes .wdcCoreReset s (fun t =>
       t.mode.coreReset = true ∧ t.mode.cause = (if fatal then .fatal else .wdc) ∧ t.mode.bootOk = false ∧
       t.wdog.cReset = none ∧ t.mem = s.mem ∧ t.link = s.link)) ∧
  (∀ (role : Role) (crystal : Bool) (e : BootEnv) (s : State), s.mode.porst = true → s.mode.booting = false →
     exec (.porstRelease role crystal e) s = .next (bootGo e (sampleStraps (bootBegin s) role crystal)) ∧
     (e.upTo = 0 → Completes (.porstRelease role crystal e) s (fun t =>
       t.mode.porst = false ∧ t.mode.booting = true ∧ t.mode.role = role ∧ t.mode.crystal = crystal ∧
       t.mode.bootT = s.time.line)) ∧
     (e.upTo = 2 → crystal = false → causeKind s.mode.cause = 0 → s.upd.falling = none → Completes (.porstRelease role crystal e) s (fun t =>
       t.mode.bootStep = 2 ∧ t.mode.coreReset = false ∧ t.mode.reason = 0x010B))) ∧
  (∀ (e : BootEnv) (s : State), s.mode.porst = false → s.mode.logicReset = true → s.mode.booting = false →
     causeKind s.mode.cause = 1 →
     exec (.logicReset e) s = .next (bootGo e (bootBegin s)) ∧
     (e.upTo = 0 → Completes (.logicReset e) s (fun t =>
       t.mode.logicReset = false ∧ t.mode.booting = true ∧ t.mode.bootT = s.time.line ∧ t.mode.coreReset = true))) ∧
  (∀ (e : BootEnv) (s : State), s.mode.porst = false → s.mode.logicReset = false → s.mode.coreReset = true →
     s.mode.booting = false → causeKind s.mode.cause = 2 →
     exec (.coreReset e) s = .next (bootGo e (bootBegin s)) ∧
     (e.upTo = 0 → Completes (.coreReset e) s (fun t =>
       t.mode.booting = true ∧ t.mode.bootT = s.time.line ∧ t.mode.bootStep = 0)))

/-- Field-die faults, barrier loss and brownout reset the field die, and its restart and the barrier's return end it.
FIELD_DIE_FAULT of a running field die completes in field reset with REASON 0x0504, neither set staged and no frozen
snapshot. FIELD_RESET of a die in reset, outside a boot and the other resets, completes by its operands: active
restaged and shadow restaged end the reset with both staged (the shadow where it was VALID); a failed shadow ends it
with VALID 0, and with REASON 0x0505 where VALID was 1; a failed active set leaves it in reset with REASON 0x0505 and
VALID 0. FIELD_RESET of a running die is the same after the reset's start. BARRIER_LOSS with the link up completes
with the link down since now, no frozen snapshot and trigger 5 ACTIVE. BARRIER_RETURN within 1 ms with the die running
completes with the link up, no restart due and trigger 5 not ACTIVE; later, or with the die in reset, with the link
up, a restart due and the die in reset with nothing staged where it was not in reset before. LS_BROWNOUT below 13 V
outside power-on reset completes with LS_UV, the voltage, the field die in reset, nothing staged where it was running,
and the barrier link down outside logic reset. Restaging outcomes come as operands (log 82). The model's own choices
and readings that it rests on: logs 15, 25, 82. (10_modes_power.md, 12_diagnostics_safe.md, 09_configuration_sets.md)
-/
def Obligations.FieldDieResetsAndReturns : Prop :=
  (∀ s : State, fieldRuns s = true →
     Completes .fieldDieFault s (fun t =>
       t.mode.fieldReset = true ∧ t.mode.reason = 0x0504 ∧ t.cfg.stagedActive = false ∧ t.cfg.stagedShadow = false ∧
       t.cyc.frozen = none)) ∧
  (∀ s : State, s.mode.porst = false → s.mode.booting = false → s.mode.logicReset = false → s.mode.fieldReset = true →
     Completes (.fieldReset true true) s (fun t =>
       t.mode.fieldReset = false ∧ t.cfg.stagedActive = true ∧ t.mem = s.mem ∧ t.cfg.valid = s.cfg.valid ∧
       (s.cfg.valid = true → t.cfg.stagedShadow = true)) ∧
     Completes (.fieldReset true false) s (fun t =>
       t.mode.fieldReset = false ∧ t.cfg.stagedActive = true ∧ t.mem = s.mem ∧ t.cfg.valid = false ∧
       (s.cfg.valid = true → t.mode.reason = 0x0505)) ∧
     (∀ b : Bool, Completes (.fieldReset false b) s (fun t =>
       t.mode.fieldReset = true ∧ t.mode.reason = 0x0505 ∧ t.cfg.valid = false))) ∧
  (∀ (a b : Bool) (s : State), s.mode.porst = false → s.mode.booting = false → s.mode.logicReset = false →
     s.mode.fieldReset = false → exec (.fieldReset a b) s = exec (.fieldReset a b) (fieldResetStart s)) ∧
  (∀ s : State, s.mode.porst = false → s.mode.logicReset = false → s.supply.barrierDown = false →
     Completes .barrierLoss s (fun t =>
       t.supply.barrierDown = true ∧ t.supply.barrierT = s.time.line ∧ t.cyc.frozen = none ∧
       t.safe.active &&& 0x20#7 = 0x20#7)) ∧
  (∀ s : State, s.mode.porst = false → s.mode.logicReset = false → s.supply.barrierDown = true →
     (s.time.line ≤ s.supply.barrierT + 1000000 → s.mode.fieldReset = false → Completes .barrierReturn s (fun t =>
       t.supply.barrierDown = false ∧ t.supply.backDue = false ∧ t.mode.fieldReset = false ∧
       t.safe.active = s.safe.active &&& ~~~0x20#7)) ∧
     (s.supply.barrierT + 1000000 < s.time.line ∨ s.mode.fieldReset = true → Completes .barrierReturn s (fun t =>
       t.supply.barrierDown = false ∧ t.supply.backDue = true ∧ t.mode.fieldReset = true ∧
       (s.mode.fieldReset = false → t.cfg.stagedActive = false)))) ∧
  (∀ (mv : Nat) (s : State), s.mode.porst = false → mv < 13000 →
     Completes (.lsBrownout mv) s (fun t => t.supply.lsUv = true ∧ t.supply.lsOv = false ∧ t.supply.lsMv = mv ∧
       t.mode.fieldReset = true ∧ (s.mode.fieldReset = false → t.cfg.stagedActive = false) ∧
       (s.mode.logicReset = false → t.supply.barrierDown = true)))

/-- Each supply and die temperature condition is recorded and posted at its limits. With the field die running: LP_OFF
at 16.5 V or less, LP_OVERVOLTAGE above 33 V and LP_REVERSED record the condition, the voltage and LP_OFF, and post
event 0x52 once per condition; LP_BACK between 17 V and 32 V with LP off clears them, records the instant and posts
0x53; LS_FAULT outside 18 V to 30 V records which limit and the voltage, and where none stood before sets REASON
0x0502, posts CH_FAULT 0x41 with pseudo-channel 0x00FF and wakes with 9; LS_OK inside it, where one stood, clears it
and posts CH_CLEAR 0x41 unless the die is hot; DIE_OVERTEMP at 150 degrees C (300 half degrees) or more, once, records
it with REASON 0x0503, posts CH_FAULT 0x40 and wakes with 9; DIE_COOL below 135 degrees C clears it and posts CH_CLEAR
0x40 unless an LS fault stands. Each conclusion is the whole next state. The model's own choices and readings that it
rests on: logs 24, 72. (12_diagnostics_safe.md) -/
def Obligations.SuppliesAreReported : Prop :=
  (∀ (mv : Nat) (s v : State), fieldRuns s = true → mv ≤ 16500 →
     v = { s with supply := { s.supply with
       lpUv := true, lpOv := false, lpRev := false, lpOff := true, lpMv := mv, lpBackT := none } } →
     exec (.lpOff mv) s = .next (if s.supply.lpUv then v else post v 0x52 0 (word mv))) ∧
  (∀ (mv : Nat) (s v : State), fieldRuns s = true → 33000 < mv →
     v = { s with supply := { s.supply with
       lpOv := true, lpUv := false, lpRev := false, lpOff := true, lpMv := mv, lpBackT := none } } →
     exec (.lpOvervoltage mv) s = .next (if s.supply.lpOv then v else post v 0x52 0 (word mv))) ∧
  (∀ s v : State, fieldRuns s = true →
     v = { s with supply := { s.supply with lpRev := true, lpOv := false, lpOff := true, lpMv := 0, lpBackT := none } } →
     exec .lpReversed s = .next (if s.supply.lpRev then v else post v 0x52 0 0)) ∧
  (∀ (mv : Nat) (s : State), fieldRuns s = true → s.supply.lpOff = true → 17000 ≤ mv → mv ≤ 32000 →
     exec (.lpBack mv) s =
       .next (post { s with supply := { s.supply with
         lpOff := false, lpUv := false, lpOv := false, lpRev := false, lpMv := mv, lpBackT := some s.time.line } }
         0x53 0 (word mv))) ∧
  (∀ (mv : Nat) (s v : State), fieldRuns s = true → mv < 18000 ∨ 30000 < mv →
     v = { s with supply := { s.supply with
       lsUv := decide (mv < 18000), lsOv := decide (30000 < mv), lsMv := mv } } →
     exec (.lsFault mv) s = .next (if s.supply.lsUv || s.supply.lsOv then v
       else wake (postChFault (v.reason 0x0502) 0x41 0x00FF) 9)) ∧
  (∀ (mv : Nat) (s v : State), fieldRuns s = true → s.supply.lsUv = true ∨ s.supply.lsOv = true →
     18000 ≤ mv → mv ≤ 30000 →
     v = { s with supply := { s.supply with lsUv := false, lsOv := false, lsMv := mv } } →
     exec (.lsOk mv) s = .next (if s.supply.dieHot then v else post v 0x51 0x41 0x00FF)) ∧
  (∀ (temp : Int) (s : State), fieldRuns s = true → s.supply.dieHot = false → 300 ≤ temp →
     exec (.dieOvertemp temp) s =
       .next (wake (postChFault { s with
         supply := { s.supply with dieHot := true, dieTemp := temp }
         mode := { s.mode with reason := 0x0503 } } 0x40 0x00FF) 9)) ∧
  (∀ (temp : Int) (s v : State), fieldRuns s = true → s.supply.dieHot = true → temp < 270 →
     v = { s with supply := { s.supply with dieHot := false, dieTemp := temp } } →
     exec (.dieCool temp) s = .next (if s.supply.lsUv || s.supply.lsOv then v else post v 0x51 0x40 0x00FF))

/-- Channel faults are recorded, trips turn the driver off, retries and cooling turn it on again, and acknowledgements
act. CHANNEL_FAULT_DETECT of a code that applies and is not active, with the field die running and the barrier up,
answers the state with the code active, CH_FAULT posted and a wake with 9; a trip code with the driver on also trips
it (tripFault), and then on an existing channel the driver is off with that code since now. CHANNEL_FAULT_CLEAR of an
active code that can be judged and is not the code that keeps the driver off takes it from the active codes and clears
it (faultCleared). FAULT_RETRY of a tripped, unlatched channel not waiting to cool and not off by reverse feed
completes at the trip's instant plus RETRY_MS (in units of 10 ms): the driver on, or waiting to cool where the trip
was thermal and the junction is hot. JUNCTION_COOLED of a channel waiting to cool turns it on and posts nothing.
RETRY_COUNT_RESET after a recent trip clears the count at 10 s. REVERSE_FEED_END of an unlatched reverse-feed trip
with LP on turns the driver on and clears code 9. CHFLT_ACK, ACK_ALL and SAFECMD_ENTER by a path that is served,
outside MINIMAL, answer the operations ackMask of the word, ackMask of all channels, and trigger 4 with REASON 0x0901,
after the host's access; SAFECMD_ENTER in RUN completes in SAFE. Terminal voltage and current in a detail record are
free values (log 3); the acknowledgement while LP is off is log 14. The model's own choices and readings that it rests
on: logs 3, 14, 25, 72. (12_diagnostics_safe.md, 08_live_registers.md) -/
def Obligations.ChannelFaultsTripAndClear : Prop :=
  (∀ (n code : Nat) (s v : State), fieldRuns s = true → s.supply.barrierDown = false → codeApplies s n code = true →
     (chan s n).faults.contains code = false →
     v = wake (postChFault (s.onChan n (fun c => { c with faults := c.faults ++ [code] })) code (word n)) 9 →
     (isTrip (diagMode s n) code = false ∨ (chan s n).tripOff = true → exec (.channelFaultDetect n code) s = .next v) ∧
     (isTrip (diagMode s n) code = true → (chan s n).tripOff = false →
       exec (.channelFaultDetect n code) s = .next (tripFault v n code) ∧
       (n < s.field.chans.length → Completes (.channelFaultDetect n code) s (fun t =>
         (chan t n).tripOff = true ∧ (chan t n).lastTrip = code ∧ (chan t n).tripT = s.time.line)))) ∧
  (∀ (n code : Nat) (s : State), fieldRuns s = true → s.supply.barrierDown = false →
     (chan s n).faults.contains code = true → codeJudged s code = true →
     code ≠ (chan s n).lastTrip ∨ (chan s n).tripOff = false ∨ (chan s n).latched ≠ 0 →
     exec (.channelFaultClear n code) s =
       .next (faultCleared (s.onChan n (fun c => { c with faults := c.faults.filter (fun x => x != code) })) n code)) ∧
  (∀ (n : Nat) (s : State), n < s.field.chans.length → (chan s n).tripOff = true → (chan s n).latched = 0 →
     (chan s n).lastTrip ≠ 9 → (chan s n).waitCool = false →
     Completes (.faultRetry n) s (fun t =>
       t.time.line = reachLine s.time.line ((chan s n).tripT + 10000000 * cfgF s 5 (16 * n + 2) 0 8) ∧
       ((chan s n).lastTrip ≠ 5 ∨ (chan s n).cooled = true → (chan t n).tripOff = false) ∧
       ((chan s n).lastTrip = 5 → (chan s n).cooled = false →
         (chan t n).tripOff = true ∧ (chan t n).waitCool = true))) ∧
  (∀ (n : Nat) (s : State), n < s.field.chans.length → (chan s n).waitCool = true →
     Completes (.junctionCooled n) s (fun t =>
       (chan t n).cooled = true ∧ (chan t n).tripOff = false ∧ (chan t n).waitCool = false ∧ t.evq = s.evq)) ∧
  (∀ (n : Nat) (s : State), (chan s n).recentTrip = true →
     exec (.retryCountReset n) s =
       .next ((s.reach ((chan s n).tripT + 10000000000)).onChan n (fun c => { c with retries := 0, recentTrip := false }))) ∧
  (∀ (n : Nat) (s : State), (chan s n).lastTrip = 9 → (chan s n).tripOff = true → (chan s n).latched = 0 →
     s.supply.lpOff = false →
     exec (.reverseFeedEnd n) s =
       .next (faultCleared (s.onChan n (fun c =>
         { c with tripOff := false, faults := c.faults.filter (fun x => x != 9) })) n 9)) ∧
  (∀ (via : Path) (w : Word) (s : State), pathOpen s via = true → s.mode.mode ≠ .minimal →
     exec (.chfltAck via w) s = .next (ackMask (beginWrite (hostAccess s via) via) w) ∧
     exec (.ackAll via) s = .next (ackMask (beginWrite (hostAccess s via) via) 0xFFFF) ∧
     exec (.safecmdEnter via) s = .next (trigger (beginWrite (hostAccess s via) via) 4 0x0901) ∧
     (s.mode.mode = .run → Completes (.safecmdEnter via) s (fun t => t.mode.mode = .safe ∧ t.mode.reason = 0x0901)))

/-- The watchdogs serve a correct token, count early, late and wrong ones, expire at the third error, and freeze no
longer than 200 ms. WDH_ANSWER by a path that is served, before the period's end: in the open window the token serves
(SERVED and question on, one error less, a new cycle from now, no event); another word counts WRONG, and a word before
the window EARLY, each with one error more, the next question and the watchdog running while fewer than two errors
stood; in EXPIRED the token runs it again with no errors and releases trigger 2. WDH_WINDOW_OPEN opens the window at
its instant. WDH_PERIOD_END counts LATE and an error with fewer than two errors, else expires (wdhExpire) with LATE
set. WDC_ANSWER of the token in the open window starts the next cycle with one error less. WDC_PERIOD_END outside REST
with fewer than two errors counts one, saturating WDC_ERRS, and posts nothing. FATAL_EXCEPTION outside core and
power-on reset posts 0x32 with REASON, marks the expiry and triggers the core's reset (wdcTrigger). FREEZE_LIMIT thaws
a frozen watchdog 200 ms after its freeze began. The seed in EXPIRED is log 10; that a fatal exception posts the
expiry is log 60. The model's own choices and readings that it rests on: logs 10, 11, 25, 60. (16_watchdogs.md) -/
def Obligations.WatchdogsJudgeAnswers : Prop :=
  (∀ (via : Path) (w : Word) (s : State), pathOpen s via = true → s.wdog.h.isOver s.time.line = false →
     (s.wdog.h.isOpen s.time.line = true → w = token s.wdog.h.q s.wdog.h.seed →
       Completes (.wdhAnswer via w) s (fun t =>
         t.wdog.served = (s.wdog.served + 1) % 256 ∧ t.wdog.h.errors = s.wdog.h.errors - 1 ∧ t.wdog.h.st = .run ∧
         t.wdog.h.q = nextQ s.wdog.h.q ∧ t.wdog.h.startT = s.time.line ∧ t.evq = s.evq)) ∧
     (s.wdog.h.isOpen s.time.line = true → w ≠ token s.wdog.h.q s.wdog.h.seed → s.wdog.h.errors < 2 →
       Completes (.wdhAnswer via w) s (fun t => t.wdog.wrong = true ∧ t.wdog.h.errors = s.wdog.h.errors + 1 ∧
         t.wdog.h.st = .run ∧ t.wdog.h.q = nextQ s.wdog.h.q)) ∧
     (s.wdog.h.st = .run → s.wdog.h.isOpen s.time.line = false → s.wdog.h.errors < 2 →
       Completes (.wdhAnswer via w) s (fun t => t.wdog.early = true ∧ t.wdog.h.errors = s.wdog.h.errors + 1 ∧
         t.wdog.h.st = .run ∧ t.wdog.h.q = nextQ s.wdog.h.q)) ∧
     (s.wdog.h.st = .expired → w = token s.wdog.h.q s.wdog.h.seed →
       Completes (.wdhAnswer via w) s (fun t => t.wdog.h.st = .run ∧ t.wdog.h.errors = 0 ∧
         t.wdog.h.q = nextQ s.wdog.h.q ∧ t.safe.active = s.safe.active &&& ~~~0x02#7))) ∧
  (∀ s : State, s.wdog.h.st = .run → s.wdog.h.opened = false → s.wdog.h.frozen = none →
     exec .wdhWindowOpen s =
       .next { s.reach (s.wdog.h.startT + s.wdog.h.frozenNs + s.wdog.h.ofs) with
         wdog := { s.wdog with h := { s.wdog.h with opened := true } } }) ∧
  (∀ s : State, s.wdog.h.st = .run → s.wdog.h.frozen = none →
     (s.wdog.h.errors < 2 → Completes .wdhPeriodEnd s (fun t =>
       t.wdog.late = true ∧ t.wdog.h.errors = s.wdog.h.errors + 1 ∧ t.wdog.h.st = .run ∧
       t.wdog.h.q = nextQ s.wdog.h.q)) ∧
     (2 ≤ s.wdog.h.errors →
       exec .wdhPeriodEnd s = .next (wdhExpire { s.reach (s.wdog.h.startT + s.wdog.h.frozenNs + s.wdog.h.per) with
         wdog := { s.wdog with late := true, h := s.wdog.h.endCycle } }))) ∧
  (∀ (w : Word) (s : State), coreRuns s = true →
     s.wdog.c.isOver s.time.line = false ∨ s.wdog.cRest = true → s.wdog.c.isOpen s.time.line = true →
     w = token s.wdog.c.q s.wdog.c.seed →
     exec (.wdcAnswer w) s =
       .next (wdcNext { s with wdog := { s.wdog with c := { s.wdog.c with errors := s.wdog.c.errors - 1 } } })) ∧
  (∀ s : State, s.wdog.c.st = .run → s.wdog.c.frozen = none → s.wdog.cRest = false → s.wdog.c.errors < 2 →
     Completes .wdcPeriodEnd s (fun t =>
       t.wdog.c.errors = s.wdog.c.errors + 1 ∧ t.wdog.cErrs = sat16 s.wdog.cErrs ∧ t.wdog.c.q = nextQ s.wdog.c.q ∧
       t.evq = s.evq)) ∧
  (∀ s : State, s.mode.coreReset = false → s.mode.porst = false →
     Completes .fatalException s (fun t => t.wdog.cReset = some true ∧ t.mem = s.mem ∧ t.txn = s.txn) ∧
     exec .fatalException s = .next (wdcTrigger (markExpiry (post s 0x32 0 s.mode.reason)) true)) ∧
  (∀ (f : Nat) (s : State),
     (s.wdog.h.frozen = some f → exec (.freezeLimit false) s = .next (thawH (s.reach (f + 200000000)))) ∧
     (s.wdog.c.frozen = some f → exec (.freezeLimit true) s = .next (thawC (s.reach (f + 200000000)))))

/-- The eight mode commands take effect where nothing refuses them, by a register and by the line, and REST begins
when the core is done. By a path that is served and outside REST: GO_SETUP, GO_RUN and REST complete where the model's
modeRefusal is 0; GO_SAFE in RUN or SETUP, RESUME in SAFE where resumeOk holds, GO_MINIMAL in SETUP or SAFE, REBOOT
outside RUN and WAKE complete with the core running. The next state has the mode (SETUP, RUN with MISS_RUN 0, SAFE
with REASON 0x0901, RUN), the core reset with its CAUSE and no BOOT-OK (GO_MINIMAL, REBOOT), REST pending, or REST
off, and CMD and RESULT where the clause names them. REST_ENTRY of a pending REST with the core running completes in
REST since now with DROPPED 0 and WDC's rest mark. By the line, a held MODE_CMD whose word is c and that is not
refused answers, by the row of c, the end of that transaction with RESULT done and the mode's word on the state that
modeEffect of c gives. That the row acts on the held transaction is log 83; that the core takes a command within the
row is log 61. The model's own choices and readings that it rests on: logs 61, 66, 83, 84. (08_live_registers.md,
10_modes_power.md, 05_tagged_transactions.md) -/
def Obligations.ModeCommandsTakeEffect : Prop :=
  (∀ (p : Path) (s : State), pathOpen s p = true → s.mode.rest = false → modeRefusal s 1 = 0 →
     Completes (.goSetup (.reg p)) s (fun t => t.mode.mode = .setup ∧ t.mode.cmd = 1 ∧ t.mode.result = 2)) ∧
  (∀ (p : Path) (s : State), pathOpen s p = true → s.mode.rest = false → modeRefusal s 2 = 0 →
     Completes (.goRun (.reg p)) s (fun t => t.mode.mode = .run ∧ t.mode.cmd = 2 ∧ t.mode.result = 2 ∧ t.cyc.missRun = 0)) ∧
  (∀ (p : Path) (s : State), pathOpen s p = true → s.mode.rest = false → s.mode.mode = .run ∨ s.mode.mode = .setup →
     s.mode.coreReset = false →
     Completes (.goSafe (.reg p)) s (fun t =>
       t.mode.mode = .safe ∧ t.mode.reason = 0x0901 ∧ t.mode.cmd = 3 ∧ t.mode.result = 2)) ∧
  (∀ (p : Path) (s : State), pathOpen s p = true → s.mode.rest = false → s.mode.mode = .safe →
     s.mode.coreReset = false → resumeOk s = true →
     Completes (.resume (.reg p)) s (fun t => t.mode.mode = .run ∧ t.mode.cmd = 4 ∧ t.mode.result = 2)) ∧
  (∀ (p : Path) (s : State), pathOpen s p = true → s.mode.rest = false →
     s.mode.mode = .setup ∨ s.mode.mode = .safe → s.mode.coreReset = false →
     Completes (.goMinimal (.reg p)) s (fun t =>
       t.mode.coreReset = true ∧ t.mode.cause = .goMinimal ∧ t.mode.bootOk = false ∧ t.mode.modeBefore = s.mode.mode)) ∧
  (∀ (p : Path) (s : State), pathOpen s p = true → s.mode.rest = false → s.mode.mode ≠ .run →
     s.mode.coreReset = false →
     Completes (.reboot (.reg p)) s (fun t => t.mode.coreReset = true ∧ t.mode.cause = .reboot ∧ t.mode.bootOk = false)) ∧
  (∀ (p : Path) (s : State), pathOpen s p = true → s.mode.rest = false → modeRefusal s 7 = 0 →
     Completes (.rest (.reg p)) s (fun t =>
       t.mode.restPending = true ∧ t.mode.rest = false ∧ t.mode.cmd = 7 ∧ t.mode.mode = s.mode.mode)) ∧
  (∀ (p : Path) (s : State), pathOpen s p = true → s.mode.rest = false → s.mode.coreReset = false →
     Completes (.wake (.reg p)) s (fun t => t.mode.rest = false ∧ t.mode.cmd = 8 ∧ t.mode.result = 2)) ∧
  (∀ s : State, s.mode.restPending = true → coreRuns s = true →
     Completes .restEntry s (fun t =>
       t.mode.rest = true ∧ t.mode.restPending = false ∧ t.mode.restSince = s.time.line ∧ t.trace.dropped = 0 ∧
       t.wdog.cRest = (s.wdog.c.st == .run))) ∧
  (∀ (b a : Bool) (tag c : Nat) (t : Txn) (s u v : State), Held s b a tag 0x0D t → fieldAt t.data 0 2 = c →
     modeRefusalIn s.mode.mode (dropTxn s.txn.held t.id) s c = 0 →
     u = modeEffect { s with mode := { s.mode with cmd := c, result := 2 } } c →
     v = endTxn u t.id 0 (wordsToBytes [modeWord u]) true →
     (c = 1 → exec (.goSetup (.line b a tag)) s = .next v) ∧
     (c = 2 → exec (.goRun (.line b a tag)) s = .next v) ∧
     (c = 3 → exec (.goSafe (.line b a tag)) s = .next v) ∧
     (c = 4 → exec (.resume (.line b a tag)) s = .next v) ∧
     (c = 5 → exec (.goMinimal (.line b a tag)) s = .next v) ∧
     (c = 6 → exec (.reboot (.line b a tag)) s = .next v) ∧
     (c = 7 → exec (.rest (.line b a tag)) s = .next v) ∧
     (c = 8 → exec (.wake (.line b a tag)) s = .next v))

/-- Holdup samples, PWRFAIL_N, SAFE_REQ_N and the holdup's ages take their effect. HOLD_SENSE_SAMPLE outside power-on
and logic reset records the voltage (at most 0xFFFF) and whether it lies below the limit, and HOLD_CT from its operand
where none was held and the voltage is not low, else keeps it. PWRFAIL_ASSERT and PWRFAIL_RELEASE, on a change,
complete with PWRFAIL set since now and no trace persisting, or cleared with the last gasp rearmed and the mode kept.
SAFE_REQ_ASSERT, on a change, takes trigger 3 with REASON 0x0A01 (during a boot that holds it, marks it) and posts
0xA0; SAFE_REQ_RELEASE wakes with 3, releases trigger 3 outside PWRFAIL_N and posts 0xA0. HOLD_WARN_EXPIRY, with no
charge time measured, outside REST and with the warning clear, completes with warning bit 4 at power-on plus its
seconds; HOLD_REPL_EXPIRY, with no charge time measured, raises REPLACE bit 4 at its instant. The model's own choices
and readings that it rests on: logs 25, 82. (10_modes_power.md, 12_diagnostics_safe.md, 21_health_trace_injection.md)
-/
def Obligations.HoldupPinsAreServed : Prop :=
  (∀ (mv age : Nat) (s : State), s.mode.porst = false → s.mode.logicReset = false →
     Completes (.holdSenseSample mv age) s (fun t =>
       t.mode.holdMv = Nat.min 0xFFFF mv ∧ t.mode.holdLow = decide (mv < cfgF s 1 5 0 16) ∧
       (s.health.holdCt = 0xFFFF → cfgF s 1 5 0 16 ≤ mv → t.health.holdCt = Nat.min 0xFFFE age) ∧
       (s.health.holdCt ≠ 0xFFFF ∨ mv < cfgF s 1 5 0 16 → t.health.holdCt = s.health.holdCt))) ∧
  (∀ s : State, s.mode.porst = false → s.mode.pwrfail = false →
     Completes .pwrfailAssert s (fun t => t.mode.pwrfail = true ∧ t.mode.pwrT = s.time.line ∧ t.trace.persist = none)) ∧
  (∀ s : State, s.mode.porst = false → s.mode.pwrfail = true →
     Completes .pwrfailRelease s (fun t => t.mode.pwrfail = false ∧ t.txn.gasped = false ∧ t.mode.mode = s.mode.mode)) ∧
  (∀ s v : State, s.mode.porst = false → s.mode.safeReq = false →
     v = { s with mode := { s.mode with safeReq := true } } →
     exec .safeReqAssert s =
       .next (post (if bootHolds s then markTrigger v 3 else trigger v 3 0x0A01) 0xA0 1 0)) ∧
  (∀ s v : State, s.mode.porst = false → s.mode.safeReq = true →
     v = wake { s with mode := { s.mode with safeReq := false } } 3 →
     exec .safeReqRelease s = .next (post (if v.mode.pwrfail then v else releaseTrigger v 3) 0xA0 0 0)) ∧
  (∀ s : State, s.mode.porst = false → s.health.holdCt = 0xFFFF → s.mode.rest = false →
     s.health.warn.toNat / 2 ^ 4 % 2 = 0 →
     Completes .holdWarnExpiry s (fun t =>
       t.health.warn = s.health.warn ||| 0x10 ∧ t.health.replace = s.health.replace ∧ t.mode = s.mode ∧
       t.time.line = reachLine s.time.line (s.mode.porT + 1000000000 * cfgF s 0xE 6 0 10))) ∧
  (∀ s : State, s.mode.porst = false → s.health.holdCt = 0xFFFF →
     exec .holdReplExpiry s =
       .next (replaceRaise (s.reach (s.mode.porT + 1000000000 * cfgF s 0xE 7 0 10)) 4 false) ∧
     Completes .holdReplExpiry s (fun t => t.health.replace.getLsbD 4 = true))

/-- A frame that a port takes is dispatched by its TYPE and the role; a refused, skipped or discarded one is not.
FRAME_FORWARD at a port that is not UP, or in power-on reset, answers the same state; at an UP port with no injector
at work, a frame begun inside another is skipped (skipFrame), and one that the forwarding mode discards is counted
only. Where the frame passes (Passes: the port takes it, counted in the state takenIn), FRAME_FORWARD answers
typedFrame, and the rows of the types act each on its own: COUNT_RECEIVE at a node and at an anchor (which completes
the count where the line engine is on and the frame holds good), COUNT_RETURN at a starter (countBack or
countPoisoned), SYNC_FRAME, RELAY_RECEIVE, LOOPBACK_NOTICE_FRAME (the operations syncFrame, relayFrame and
noticeFrame), and RSVD_TYPE_FRAME, which leaves unchanged: at an UP egress, of a frame not ended early, the frame sent
is its body with its CRC-32. That frames come whole is log 66. The model's own choices and readings that it rests on:
logs 55, 58, 66, 82, 89. (03_relay_link.md, 04_heats_cycles.md, 05_tagged_transactions.md, 06_starter_anchor.md,
02_line_time.md) -/
def Obligations.FramesDoWhatTheirTypeSays : Prop :=
  (∀ (p : Port) (f : LineFrame) (r : List Word) (s : State),
     (isUp s p = false ∨ s.mode.porst = true → exec (.frameForward p f r) s = .next s) ∧
     (isUp s p = true → s.mode.porst = false → s.inj.armed = none → s.inj.heldFrame = none →
       ((lport (atEnd s f) p).skip = true → exec (.frameForward p f r) s = .next (skipFrame (atEnd s f) p f)) ∧
       ((lport (atEnd s f) p).skip = false → route (arrived s p f) p f.tin = none →
         exec (.frameForward p f r) s = .next (countFrame (arrived s p f) p f true))) ∧
     (∀ out : Option Port, Passes s p f out →
       exec (.frameForward p f r) s = .next (typedFrame (takenIn s p f) (passageOf s p f out) r))) ∧
  (∀ (p : Port) (f : LineFrame) (out : Option Port) (s : State), Passes s p f out → frameType f.body = 3 →
     (s.mode.role = .node → exec (.countReceive p f) s = .next (countAtNode (takenIn s p f) (passageOf s p f out))) ∧
     (s.mode.role = .anchor → exec (.countReceive p f) s = .next (leave (takenIn s p f) (passageOf s p f out)
       (if (takenIn s p f).mode.lineEngine && countOk (takenIn s p f) f.body then countAnchor f.body else f.body))) ∧
     (s.mode.role = .starter → (takenIn s p f).mode.logicReset = false →
       exec (.countReturn p f) s = .next (if verdict f = .good then countBack (takenIn s p f) f.body
         else countPoisoned (takenIn s p f)))) ∧
  (∀ (p : Port) (f : LineFrame) (r : List Word) (out : Option Port) (s : State), Passes s p f out →
     (frameType f.body = 4 →
       exec (.syncFrame p f r) s = .next (syncFrame (takenIn s p f) (passageOf s p f out) r)) ∧
     (frameType f.body = 5 → exec (.relayReceive p f) s = .next (relayFrame (takenIn s p f) (passageOf s p f out))) ∧
     (frameType f.body = 6 →
       exec (.loopbackNoticeFrame p f) s = .next (noticeFrame (takenIn s p f) (passageOf s p f out)))) ∧
  (∀ (p : Port) (f : LineFrame) (out : Option Port) (s : State), Passes s p f out → rsvdType (frameType f.body) = true →
     exec (.rsvdTypeFrame p f) s = .next (leave (takenIn s p f) (passageOf s p f out) f.body) ∧
     (∀ q : Port, out = some q → endedEarly f = false → isUp (takenIn s p f) q = true →
       Completes (.rsvdTypeFrame p f) s (fun t => (lport t q).sent =
         [{ body := f.body, origin := leaveOrigin (takenIn s p f) (passageOf s p f out), crc := some (crc32 f.body) }])))

/-- A heat or a baton acts at a node, at an anchor, and at the starter it comes back to, as its role says. For a frame
that passes (Passes) of TYPE 1: HEAT_RECEIVE at a node answers heatAtNode; HEAT_RECEIVE and HEAT_RETURN at an anchor
answer heatAtAnchor; HEAT_RETURN at a starter outside logic reset of a heat of its own origin answers heatBack for a
good frame and heatPoisoned, by the order of the heats sent, for another. Of TYPE 2: BATON_RECEIVE at a node answers
batonAtNode; BATON_RECEIVE and BATON_RETURN at an anchor answer batonFrame; BATON_RETURN at a starter of a baton of
its own origin answers batonBack for a good frame outside logic reset and otherwise only takes the frame. Each is the
model's operation of that name on the state with the frame taken in. The model's own choices and readings that it
rests on: logs 20, 50, 58, 66. (04_heats_cycles.md, 05_tagged_transactions.md, 06_starter_anchor.md, 03_relay_link.md)
-/
def Obligations.HeatsAndBatonsPassOrReturn : Prop :=
  (∀ (p : Port) (f : LineFrame) (out : Option Port) (s : State), Passes s p f out → frameType f.body = 1 →
     (s.mode.role = .node → exec (.heatReceive p f) s = .next (heatAtNode (takenIn s p f) (passageOf s p f out))) ∧
     (s.mode.role = .anchor →
       exec (.heatReceive p f) s = .next (heatAtAnchor (takenIn s p f) (passageOf s p f out)) ∧
       exec (.heatReturn p f) s = .next (heatAtAnchor (takenIn s p f) (passageOf s p f out))) ∧
     (s.mode.role = .starter → (takenIn s p f).mode.logicReset = false → heatOrigin f.body = false →
       (verdict f = .good → exec (.heatReturn p f) s = .next (heatBack (takenIn s p f) f.body)) ∧
       (verdict f ≠ .good → exec (.heatReturn p f) s = .next (heatPoisoned (takenIn s p f)
         ((leaveOrigin (takenIn s p f) (passageOf s p f out)).getD 0))))) ∧
  (∀ (p : Port) (f : LineFrame) (out : Option Port) (s : State), Passes s p f out → frameType f.body = 2 →
     (s.mode.role = .node → exec (.batonReceive p f) s = .next (batonAtNode (takenIn s p f) (passageOf s p f out))) ∧
     (s.mode.role = .anchor →
       exec (.batonReceive p f) s = .next (batonFrame (takenIn s p f) (passageOf s p f out)) ∧
       exec (.batonReturn p f) s = .next (batonFrame (takenIn s p f) (passageOf s p f out))) ∧
     (s.mode.role = .starter → frameOrigin f.body = false →
       ((takenIn s p f).mode.logicReset = false → verdict f = .good →
         exec (.batonReturn p f) s = .next (batonBack (takenIn s p f) f.body)) ∧
       ((takenIn s p f).mode.logicReset = true ∨ verdict f ≠ .good → exec (.batonReturn p f) s = .next (takenIn s p f))))

/-- The SYNC source sends, a missing interval counts, and the PLL locks, loses lock and falls to its crystal.
SYNC_SEND of a time source completes at the launch of its cycle plus the first heat's offset, with SRC_SEQ one on
modulo 65,536, the first frame sent, the sent frame remembered with its sequence, EPOCH_T kept, and its own SYNC frame
sent at port B by a starter, at port A by another, where that port is UP. SYNC_MISS_INTERVAL of a line engine with a
line reference completes with one more missed at the interval's end; the eighth sets SYNC_MISS and leaves TSTATE HOLD
or UNSYNC. PLL_LOCKED in ACQUIRE with a crystal and a reference locks it and holds a ratio. PHASE_ERROR in LOCKED is
the loss of the reference followed by its return: LOCK_LOST, and with a crystal ACQUIRE without samples. REF_RANGE
with a line reference present and a crystal sets REF_RANGE, REASON 0x0408 and ACQUIRE, and LOCK_LOST where it was
LOCKED. The model's own choices and readings that it rests on: logs 25, 56, 57. (02_line_time.md) -/
def Obligations.LineTimeRowsTakeEffect : Prop :=
  (∀ s : State, isSource s = true →
     Completes .syncSend s (fun t =>
       t.time.line = reachLine s.time.line (launchAt s (syncCycle s) + firstHeatNs s) ∧
       t.time.srcSeq = (s.time.srcSeq + 1) % 65536 ∧ t.time.firstSent = true ∧
       t.time.prev.map (fun m => m.seq) = some s.time.srcSeq ∧ t.time.epochT = s.time.epochT ∧
       (s.mode.role = .starter → isUp s .b = true →
         (lport t .b).sent = [wholeFrame (ownSync (s.reach (syncDue s))) none]) ∧
       (s.mode.role ≠ .starter → isUp s .a = true →
         (lport t .a).sent = [wholeFrame (ownSync (s.reach (syncDue s))) none]))) ∧
  (∀ (n : Nat) (s : State), s.time.syncN = some n → lineRef s = true → s.mode.lineEngine = true →
     Completes .syncMissInterval s (fun t => t.time.missed = s.time.missed + 1 ∧ t.time.starterHeard = false ∧
       t.time.line = reachLine s.time.line (s.time.syncT + n * periodNs s) ∧ t.time.syncT = t.time.line ∧
       (s.time.missed = 7 → t.time.syncMiss = true ∧ (t.time.tstate = .hold ∨ t.time.tstate = .unsync)))) ∧
  (∀ s : State, s.time.pll = .acquire → s.mode.crystal = true → refPresent s = true → s.mode.porst = false →
     Completes .pllLocked s (fun t => t.time.pll = .locked ∧ t.time.hasRatio = true ∧ t.time.line = s.time.line)) ∧
  (∀ s : State, s.time.pll = .locked → refPresent s = true → s.mode.porst = false →
     exec .phaseError s = .next (refValid (refLost s)) ∧
     Completes .phaseError s (fun t => t.time.lockLost = true ∧ t.time.line = s.time.line ∧
       (s.mode.crystal = true → t.time.pll = .acquire ∧ t.time.offsets = []))) ∧
  (∀ s : State, lineRef s = true → s.mode.crystal = true → refPresent s = true → s.mode.porst = false →
     Completes .refRange s (fun t => t.time.pll = .acquire ∧ t.time.refRange = true ∧ t.mode.reason = 0x0408 ∧
       (s.time.pll = .locked → t.time.lockLost = true)))

/-- LTIME is latched, and a preset acts or is refused. By a path that is served: LTIME_LATCH completes with the latch
at the present line time, LSEQ one on modulo 16, line time, modes and field die unchanged; PRESET where the model's
presetOk does not hold completes with PRESET_REF set and nothing else of line time changed, modes unchanged; where it
holds, it answers the operation preset after the path's access. The model's own choices and readings that it rests on:
logs 56, 92. (02_line_time.md, 08_live_registers.md) -/
def Obligations.LineTimeRegistersAct : Prop :=
  (∀ (p : Path) (s : State), pathOpen s p = true →
     Completes (.ltimeLatch p) s (fun t =>
       t.time.latch = BitVec.ofNat 64 s.time.line ∧ t.time.lseq = (s.time.lseq + 1) % 16 ∧ t.time.line = s.time.line ∧
       t.mode = s.mode ∧ t.field = s.field)) ∧
  (∀ (p : Path) (s : State), pathOpen s p = true → presetOk s s.mode.mode = false →
     Completes (.preset p) s (fun t => t.time = { s.time with presetRef := true } ∧ t.mode = s.mode)) ∧
  (∀ (p : Path) (s : State), pathOpen s p = true → presetOk s s.mode.mode = true →
     exec (.preset p) s = .next (preset (acting s p)))

/-- The cycle engine freezes and publishes the snapshot and applies the commit; the starter samples, launches and
gives up heats at their instants. SAMPLE_INSTANT and APPLY_INSTANT outside power-on reset reach their instants, let a
due swap go first, and sample (and then apply) if due. SAMPLE_INSTANT with field die, logic and barrier up, no swap
due before it and no wrap of line time completes with the next sample index, line time at the instant, the frozen
snapshot of that cycle and the published snapshot kept. SNAPSHOT_READY publishes the frozen one where the barrier link
carries, else drops it. APPLY_INSTANT at a node with no sample or swap due first and no wrap answers applyCommit of
the commit held for its cycle, or a missed run of one where none is held or commits are discarded. OUT_PUB_SAMPLE
2,000 ns before the next launch completes with that cycle sampled and a newly published buffer adopted. HEAT_LAUNCH
answers launch of the next cycle at its instant. IN_READY_DEADLINE of the oldest due IN buffer completes at the
cycle's end plus the launch offset with that buffer no longer due. The model's own choices and readings that it rests
on: logs 25, 46, 63, 69, 85. (04_heats_cycles.md, 06_starter_anchor.md, 02_line_time.md, 09_configuration_sets.md) -/
def Obligations.CycleInstantsTakeEffect : Prop :=
  (∀ (r : List Word) (s : State), s.mode.porst = false →
     exec (.sampleInstant r) s = .next (sampleIfDue (swapFirst (s.reach (sampleDue s))) r) ∧
     (s.mode.fieldReset = false → s.mode.logicReset = false → s.supply.barrierDown = false → sampleDue s + 4 ≤ 2 ^ 64 →
       (∀ a : ArmedSwap, s.cfg.armed = some a → reachLine s.time.line (sampleDue s) < a.instant) →
       Completes (.sampleInstant r) s (fun t =>
         t.cyc.nextSample = s.cyc.nextSample + 1 ∧ t.time.line = reachLine s.time.line (sampleDue s) ∧
         t.cyc.frozen.map (·.cycle) = some (s.cyc.nextSample % 2 ^ 32) ∧ t.cyc.snap = s.cyc.snap))) ∧
  (∀ (v : Snapshot) (s : State), s.cyc.frozen = some v →
     Completes .snapshotReady s (fun t => t.cyc.frozen = none ∧ (linkCarries s = true → t.cyc.snap = v) ∧
       (linkCarries s = false → t.cyc.snap = s.cyc.snap))) ∧
  (∀ (r : List Word) (s : State), s.mode.porst = false →
     exec (.applyInstant r) s = .next (applyIfDue (sampleIfDue (swapFirst (s.reach (applyDue s))) r)) ∧
     (s.mode.role = .node → s.cyc.applied < s.cyc.nextApply → applyDue s + 4 ≤ 2 ^ 64 →
       reachLine s.time.line (applyDue s) < sampleDue s →
       (∀ a : ArmedSwap, s.cfg.armed = some a → reachLine s.time.line (applyDue s) < a.instant) →
       (∀ c : Commit, commitsDiscarded s = false → s.cyc.commits.find? (fun x => x.cycle == s.cyc.nextApply) = some c →
         exec (.applyInstant r) s =
           .next (applyCommit { s.reach (applyDue s) with cyc := { s.cyc with
             nextApply := s.cyc.nextApply + 1
             commits := s.cyc.commits.filter (fun x => decide (s.cyc.nextApply < x.cycle)) } } c)) ∧
       (commitsDiscarded s = true ∨ s.cyc.commits.find? (fun x => x.cycle == s.cyc.nextApply) = none →
         exec (.applyInstant r) s =
           .next (missRun { s.reach (applyDue s) with cyc := { s.cyc with
             nextApply := s.cyc.nextApply + 1
             commits := s.cyc.commits.filter (fun x => decide (s.cyc.nextApply < x.cycle)) } } 1)))) ∧
  (∀ s : State, mayLaunch s = true → s.sta.sampled = none → s.sta.stopping = none →
     exec .outPubSample s = .next (samplePub (s.reach (launchAt s (nextCycle s 2000) - 2000)) (nextCycle s 2000)) ∧
     Completes .outPubSample s (fun t =>
       t.sta.sampled = some (nextCycle s 2000) ∧
       (outPub s / 65536 ≠ s.sta.pubSeq → t.sta.outBuf = outPub s % 2 ∧ t.sta.noOut = false ∧ t.sta.adopted = true))) ∧
  (∀ (v : Plan) (s : State), s.sta.plan = some v → mayLaunch s = true → s.sta.stopping = none →
     exec .heatLaunch s = .next (launch (s.reach (launchAt s (nextCycle s 0))) v (nextCycle s 0))) ∧
  (∀ (c : InCyc) (s : State), oldestDue s = some c → s.mode.logicReset = false → s.sta.stopping = none →
     Completes .inReadyDeadline s (fun t =>
       t.time.line = reachLine s.time.line ((c.cycle + 1) * periodNs s + c.plan.launch) ∧
       (c.cycle % 2 = 0 → t.sta.in0.map (·.due) = some false) ∧ (c.cycle % 2 = 1 → t.sta.in1.map (·.due) = some false)))

/-- Each port event moves the port to the state that the link state table names. SIGNAL_DETECT in NOSIG completes in
TRAIN with the configured length class and its CTLE boost taken, the other port unchanged; CROSSED_PAIRS in NOSIG
completes with CROSS and REASON 0x0404 in NOSIG. TRAIN_COMPLETE in TRAIN completes in ALIGN with the three taps held
inside the window of the class taken. ALIGN_UP in ALIGN completes UP since now with no SYNC seen, POL set where the
pair is inverted; ALIGN_TIMEOUT in ALIGN completes in TRAIN. LOSS_OF_SYNC in UP completes in ALIGN with, unless
counters are frozen, DOWN and SYMERR counted, both saturating. LOSS_OF_SIGNAL in UP, ALIGN or TRAIN completes in
NOSIG. ROLE_CONFLICT at a starter or an anchor outside power-on reset sets REASON 0x0402 and posts 0x4B. Rounding the
windows inwards is log 70. The model's own choices and readings that it rests on: logs 25, 70, 82. (03_relay_link.md,
01_line_architecture.md) -/
def Obligations.PortsTrainAndFall : Prop :=
  (∀ (p : Port) (s : State), (lport s p).st = .nosig →
     Completes (.signalDetect p) s (fun t => (lport t p).st = .train ∧ (lport t p).lenClass = lenClass s p ∧
       (lport t p).boost = ctleBoost (lenClass s p) ∧ (lport t (otherPort p)) = lport s (otherPort p)) ∧
     Completes (.crossedPairs p) s (fun t =>
       (lport t p).cross = true ∧ (lport t p).st = .nosig ∧ t.mode.reason = 0x0404)) ∧
  (∀ (p : Port) (t1 t2 t3 : Int) (s : State), (lport s p).st = .train →
     Completes (.trainComplete p t1 t2 t3) s (fun t => (lport t p).st = .align ∧ (lport t p).taps =
       [clampInt 0 (tapWindow (lport s p).lenClass).1 t1,
        clampInt (-((tapWindow (lport s p).lenClass).2 : Int)) (tapWindow (lport s p).lenClass).2 t2,
        clampInt (-((tapWindow (lport s p).lenClass).2 : Int)) (tapWindow (lport s p).lenClass).2 t3])) ∧
  (∀ (p : Port) (inv : Bool) (s : State), (lport s p).st = .align →
     Completes (.alignUp p inv) s (fun t =>
       (lport t p).st = .up ∧ (lport t p).upT = s.time.line ∧ (lport t p).syncSeen = false ∧
       (inv = true → (lport t p).pol = true)) ∧
     Completes (.alignTimeout p) s (fun t => (lport t p).st = .train)) ∧
  (∀ (p : Port) (bad : Nat) (s : State), (lport s p).st = .up →
     Completes (.lossOfSync p bad) s (fun t => (lport t p).st = .align ∧
       (s.link.cntFreeze = false → (lport t p).down = sat16 (lport s p).down ∧
         (lport t p).symErr = satAdd 0xFFFFFFFF (lport s p).symErr bad))) ∧
  (∀ (p : Port) (s : State), (lport s p).st = .up ∨ (lport s p).st = .align ∨ (lport s p).st = .train →
     Completes (.lossOfSignal p) s (fun t => (lport t p).st = .nosig)) ∧
  (∀ s : State, s.mode.role = .starter ∨ s.mode.role = .anchor → s.mode.porst = false →
     exec .roleConflict s =
       .next (post (s.reason 0x0402) 0x4B 0 (linkStatWord (s.reason 0x0402))))

/-- Loops engage and release, and the bypass closes, opens and reports itself. LOOP_ENGAGE where the loop can engage
(loopCan: a node, not backwards, the other port UP, this one not) completes with the loop held, LOOP_A or LOOP_B as
the forwarding mode and, unless counters are frozen, one more loop counted. LOOP_RELEASE where it may be released
completes at the release time with the loop and its pending command cleared. BYPASS_DELAY_EXPIRY of a delay that runs,
enabled and outside logic reset and PWRFAIL_N, completes with the bypass open. BYPASS_PWRFAIL_DROP in PWRFAIL_N closes
it, modes unchanged. BYPASS_NOTICE of an UP port that owes it completes with the notice frame added to the port's own
frames at UP plus the loop's hold. The model's own choices and readings that it rests on: logs 25, 55, 88.
(03_relay_link.md) -/
def Obligations.LoopsAndBypassFollowTheirConditions : Prop :=
  (∀ (p : Port) (s : State), loopCan s p = true →
     exec (.loopEngage p) s = .next (engageLoop s p (loopCause (lport s p))) ∧
     Completes (.loopEngage p) s (fun t => (lport t p).loop = true ∧ t.link.mode = (if p = .b then .loopB else .loopA) ∧
       (s.link.cntFreeze = false → (lport t p).loops = sat16 (lport s p).loops))) ∧
  (∀ (p : Port) (s : State), relMay s p = true →
     exec (.loopRelease p) s = .next (releaseLoop (s.reach (relTime s p)) p) ∧
     Completes (.loopRelease p) s (fun t => (lport t p).loop = false ∧ (lport t p).relPending = false ∧
       t.time.line = reachLine s.time.line (relTime s p))) ∧
  (∀ s : State, s.link.bypassDue = true →
     exec .bypassDelayExpiry s = .next (bypassCheck { s with link := { s.link with bypassRipe := true } }) ∧
     (s.link.enabled = true → s.mode.logicReset = false → s.mode.pwrfail = false →
       Completes .bypassDelayExpiry s (fun t => t.link.bypass = false ∧ t.link.bypassDue = false))) ∧
  (∀ s : State, s.mode.pwrfail = true → s.link.bypass = false →
     Completes .bypassPwrfailDrop s (fun t => t.link.bypass = true ∧ t.link.bypassDue = false ∧ t.mode = s.mode)) ∧
  (∀ (p : Port) (s u : State), (lport s p).bypassDue = true → (lport s p).st = .up →
     u = (s.reach ((lport s p).upT + loopHold s)).onPort p (fun l => { l with bypassDue := false }) →
     exec (.bypassNotice p) s = .next (ownFrame u p
       (noticeBody (devPos u) 2 false 3 (reachLine s.time.line ((lport s p).upT + loopHold s)))) ∧
     Completes (.bypassNotice p) s (fun t => (lport t p).bypassDue = false ∧ (lport t p).own = (lport s p).own ++
       [noticeBody (devPos s) 2 false 3 (reachLine s.time.line ((lport s p).upT + loopHold s))]))

/-- Own frames and queued notice sets leave, and a notice set received passes on and acts at starter and anchor.
OWN_FRAME_SEND at an UP port sends the oldest of the port's own frames whole where no notice set waits, else the next
notice set (one set per gap), the own frames waiting. LOOPBACK_NOTICE_SET at a node's UP port posts nothing and passes
on by the port's route; a valid one with bit 5 of its second byte set is remembered with its instant. At a starter's
port B outside logic reset with no egress, and at an anchor's port A that turns it, a valid set posts its notice and
acts (starterNotice, anchorNotice). That an own frame waits behind notice sets is the model's choice (log 88). The
model's own choices and readings that it rests on: logs 55, 82, 88. (03_relay_link.md, 06_starter_anchor.md) -/
def Obligations.NoticeSetsAndOwnFramesLeave : Prop :=
  (∀ (p : Port) (b x : List Byte) (r : List (List Byte)) (s : State), isUp s p = true →
     ((lport s p).noticeQ = [] → (lport s p).own = b :: r →
       Completes (.ownFrameSend p) s (fun t => (lport t p).sent = [wholeFrame b none] ∧ (lport t p).own = r)) ∧
     ((lport s p).noticeQ = x :: r →
       Completes (.ownFrameSend p) s (fun t => (lport t p).notice = x ∧ (lport t p).noticeQ = r ∧
         (lport t p).own = (lport s p).own ∧ (lport t p).sent = (lport s p).sent))) ∧
  (∀ (p : Port) (n0 n1 n2 : Byte) (s : State), isUp s p = true → s.mode.porst = false → s.mode.role = .node →
     Completes (.loopbackNoticeSet p n0 n1 n2) s (fun t => t.evq = s.evq ∧
       (∀ q : Port, route s p (s.time.line * 64) = some (some q) → (lport t q).notice = [n0, n1, n2]) ∧
       (noticeValid n0 n1 n2 = true → natBits n1.toNat 5 1 = 1 → (lport t p).noticeT = some s.time.line))) ∧
  (∀ (n0 n1 n2 : Byte) (s u : State), s.mode.porst = false → s.mode.logicReset = false → noticeValid n0 n1 n2 = true →
     (s.mode.role = .starter → isUp s .b = true → route s .b (s.time.line * 64) = some none →
       exec (.loopbackNoticeSet .b n0 n1 n2) s =
         .next (starterNotice (postNotice s (n0.toNat + 256 * (n1.toNat % 16)) (natBits n1.toNat 4 1 == 1)
             (natBits n1.toNat 5 1 == 1) 0xFF)
           (n0.toNat + 256 * (n1.toNat % 16)) (natBits n1.toNat 4 1 == 1) (if natBits n1.toNat 5 1 == 1 then 0 else 1))) ∧
     (s.mode.role = .anchor → isUp s .a = true → route s .a (s.time.line * 64) = some (some .a) →
       u = s.onPort .a (fun l => { l with notice := [n0, n1, n2] }) →
       exec (.loopbackNoticeSet .a n0 n1 n2) s =
         .next (anchorNotice (postNotice u (n0.toNat + 256 * (n1.toNat % 16)) (natBits n1.toNat 4 1 == 1)
             (natBits n1.toNat 5 1 == 1) 0xFF)
           (n0.toNat + 256 * (n1.toNat % 16)) (natBits n1.toNat 4 1 == 1) (natBits n1.toNat 5 1 == 1))))

/-- Each LINK_CTRL bit does its work when a path that is served writes it. By a path that is served: in SETUP, RETRAIN
of a port with a signal completes in TRAIN with the configured length class; LOOP_FORCE of a node that holds no forced
loop nor one at port B completes with both. LOOP_REL with no loop held and none forced completes with LOOP_REL_REF
set, the mode kept; outside SETUP with none forced it answers loopRel after the path's access. In SETUP, or with no
loop forced: BYPASS_INSERT of a closed, enabled bypass opens it; BYPASS_DROP with the key open closes it;
LINK_CNT_FREEZE sets CNT_FREEZE to its operand; LINK_CNT_CLR clears the six counters of both ports, DISCARD and
RSVD_TYPE. The model's own choices and readings that it rests on: logs 25, 55. (03_relay_link.md,
08_live_registers.md) -/
def Obligations.LinkControlActs : Prop :=
  (∀ (v : Path) (q : Port) (s : State), pathOpen s v = true → s.mode.mode = .setup →
     (lport s q).st = .up ∨ (lport s q).st = .align ∨ (lport s q).st = .train →
     Completes (.retrain v q) s (fun t => (lport t q).st = .train ∧ (lport t q).lenClass = lenClass s q)) ∧
  (∀ (v : Path) (s : State), pathOpen s v = true → s.mode.mode = .setup → s.mode.role = .node →
     s.link.backwards = false → s.link.loopForce = false → s.link.b.loop = false →
     Completes (.loopForce v) s (fun t => t.link.loopForce = true ∧ t.link.b.loop = true)) ∧
  (∀ (v : Path) (s : State), pathOpen s v = true → s.link.loopForce = false →
     s.link.a.loop = false → s.link.b.loop = false →
     Completes (.loopRel v) s (fun t => t.link.loopRelRef = true ∧ t.link.mode = s.link.mode)) ∧
  (∀ (v : Path) (s : State), pathOpen s v = true → s.mode.mode ≠ .setup → s.link.loopForce = false →
     exec (.loopRel v) s = .next (loopRel (acting s v))) ∧
  (∀ (v : Path) (s : State), pathOpen s v = true → s.mode.mode = .setup ∨ s.link.loopForce = false →
     (s.link.bypass = true → s.link.enabled = true → Completes (.bypassInsert v) s (fun t => t.link.bypass = false)) ∧
     (keyOpen (hostAccess s v) v = true →
       Completes (.bypassDrop v) s (fun t => t.link.bypass = true ∧ t.link.bypassDue = false)) ∧
     (∀ on : Bool, Completes (.linkCntFreeze v on) s (fun t => t.link.cntFreeze = on)) ∧
     Completes (.linkCntClr v) s (fun t =>
       t.link.a.frames = 0 ∧ t.link.a.poisoned = 0 ∧ t.link.a.poisonIn = 0 ∧ t.link.a.symErr = 0 ∧ t.link.a.down = 0 ∧
       t.link.a.loops = 0 ∧ t.link.b.frames = 0 ∧ t.link.b.poisoned = 0 ∧ t.link.b.poisonIn = 0 ∧ t.link.b.symErr = 0 ∧
       t.link.b.down = 0 ∧ t.link.b.loops = 0 ∧ t.link.discard = 0 ∧ t.link.rsvdType = 0))

/-- PING, REG_READ, REG_WRITE, TBL_READ, TBL_WRITE and CFG_OWN execute a held transaction of their own and end it with
its response. For a transaction that the node holds for the row (Held): PING ends it with status 0 and the ping block
before its data; an unsealed unicast one completes with that response ready and the transaction gone. REG_READ and
REG_WRITE with a register that the line is barred from end it with 0x04 and nothing done; otherwise they end it with
what readGroup and writeGroup give, a write group's mode changes taken after the group. TBL_READ and TBL_WRITE of a
line that does not own the window end it with 0x07; of the owner, a read in range ends it with the table's bytes and a
write with the count and status that tblWords gives, each as a window access. CFG_OWN answers the owner: action 2
asks, action 1 releases an owner's claim, action 0 claims a window that is free or owned by the line. The model's own
choices and readings that it rests on: logs 66, 79, 83. (05_tagged_transactions.md, 09_configuration_sets.md,
08_live_registers.md) -/
def Obligations.HeldTransactionsExecute : Prop :=
  (∀ (b a : Bool) (tag : Nat) (t : Txn) (s : State), Held s b a tag 0x01 t →
     exec (.ping b a tag) s = .next (endTxn s t.id 0 (pingBlock s ++ t.data) true) ∧
     (b = false → t.sealed = false → txnOf s t.id = some t →
       Completes (.ping b a tag) s (fun u =>
         u.txn.ready = s.txn.ready ++ [responseOf { t with status := 0, resp := pingBlock s ++ t.data, effect := true }] ∧
         u.txn.held = dropTxn s.txn.held t.id))) ∧
  (∀ (b a : Bool) (tag : Nat) (t : Txn) (s g : State) (v : List Word) (st : Nat), Held s b a tag 0x02 t →
     (t.data.any (fun x => lineBars false x.toNat) = true →
       exec (.regRead b a tag) s = .next (endTxn s t.id 0x04 [] false)) ∧
     (t.data.any (fun x => lineBars false x.toNat) = false → readGroup s (accNow s .line) t.data = (g, v, st) →
       exec (.regRead b a tag) s = .next (endTxn g t.id st (wordsToBytes v) true))) ∧
  (∀ (b a : Bool) (tag : Nat) (t : Txn) (s g : State) (l : List (Nat × Word)) (n st : Nat), Held s b a tag 0x03 t →
     l = writeEntries 8 t.data →
     (l.any (fun e => lineBars true e.1) = true → exec (.regWrite b a tag) s = .next (endTxn s t.id 0x04 [] false)) ∧
     (l.any (fun e => lineBars true e.1) = false → writeGroup s (accNow s .line) 0 l = (g, n, st) →
       exec (.regWrite b a tag) s =
         .next (endTxn (groupModes s.mode.mode g (l.take n)) t.id st [byte n, 0] true))) ∧
  (∀ (b a : Bool) (tag : Nat) (t : Txn) (s : State),
     (Held s b a tag 0x04 t → owns s .line = false → exec (.tblRead b a tag) s = .next (endTxn s t.id 0x07 [] false)) ∧
     (Held s b a tag 0x04 t → owns s .line = true → wordValid (byteAt t.data 1) (fieldAt t.data 2 2) = true →
       wordValid (byteAt t.data 1) (fieldAt t.data 2 2 + fieldAt t.data 4 2 - 1) = true →
       exec (.tblRead b a tag) s =
         .next (endTxn (windowUse s .line) t.id 0
           (tableBytes (windowUse s .line) (byteAt t.data 0 == 1) (byteAt t.data 1) (fieldAt t.data 2 2) (fieldAt t.data 4 2))
           false)) ∧
     (Held s b a tag 0x05 t → owns s .line = false → exec (.tblWrite b a tag) s = .next (endTxn s t.id 0x07 [] false)) ∧
     (∀ (u : State) (n st : Nat), Held s b a tag 0x05 t → owns s .line = true →
       tblWords (windowUse s .line) (byteAt t.data 1) (fieldAt t.data 2 2) 0 (bytesToWords (t.data.drop 4)) = (u, n, st) →
       exec (.tblWrite b a tag) s = .next (endTxn u t.id st (leBytes 2 n) (n != 0))) ∧
     (Held s b a tag 0x06 t → byteAt t.data 0 = 2 →
       exec (.cfgOwnQuery b a tag) s =
         .next (endTxn s t.id 0 [byte ((s.cfg.owner.map pathCode).getD 0), 0] false)) ∧
     (Held s b a tag 0x06 t → byteAt t.data 0 = 1 → owns s .line = true →
       exec (.cfgOwnQuery b a tag) s =
         .next (endTxn (setOwner s none) t.id 0
           [byte (((setOwner s none).cfg.owner.map pathCode).getD 0), 0] true)) ∧
     (∀ u : State, Held s b a tag 0x06 t → byteAt t.data 0 = 0 → ownsOrFree s .line = true →
       u = setOwner (windowUse s .line) (some .line) →
       exec (.cfgOwnQuery b a tag) s = .next (endTxn u t.id 0 [byte ((u.cfg.owner.map pathCode).getD 0), 0] true)))

/-- FLASH_READ, TRACE_READ, CSP_XFER, ADC_CAPT and CAPT_READ execute a held transaction of their own. For a
transaction that the node holds for the row (Held): FLASH_READ in range ends it with the bytes that flashRead gives,
out of range with 0x04. TRACE_READ answers traceRead; of source 0 it ends it with the first number and the records of
the ring from that number. CSP_XFER posts the transfer where xferCheck is 0, and ends it with 0x05 or 0x04 where it is
1 or 2. ADC_CAPT answers captStart for the line. CAPT_READ inside the 32,768 samples ends it with those bytes of the
capture buffer, beyond them with 0x04. Bytes whose content the spec does not give are free values (log 31). The
model's own choices and readings that it rests on: logs 3, 31, 66, 73, 76. (05_tagged_transactions.md,
13_measurement.md, 14_serial_ports.md, 20_flash.md, 21_health_trace_injection.md) -/
def Obligations.HeldReadsAndTransfersExecute : Prop :=
  (∀ (b a : Bool) (tag : Nat) (t : Txn) (s : State), Held s b a tag 0x07 t →
     (flashRangeOk (fieldAt t.data 0 4) (fieldAt t.data 4 2) = true →
       exec (.flashRead (.line b a tag)) s =
         .next (endTxn (flashRead s (fieldAt t.data 0 4) (fieldAt t.data 4 2)).1 t.id 0
           (flashRead s (fieldAt t.data 0 4) (fieldAt t.data 4 2)).2 true)) ∧
     (flashRangeOk (fieldAt t.data 0 4) (fieldAt t.data 4 2) = false →
       exec (.flashRead (.line b a tag)) s = .next (endTxn s t.id 0x04 [] false))) ∧
  (∀ (b a : Bool) (tag : Nat) (t : Txn) (s : State), Held s b a tag 0x08 t →
     exec (.traceRead b a tag) s = .next (traceRead s t) ∧
     (byteAt t.data 0 = 0 → exec (.traceRead b a tag) s =
       .next (endTxn s t.id 0 (leBytes 4 (ringFrom s (fieldAt t.data 4 4) (byteAt t.data 1)).1 ++
         (ringFrom s (fieldAt t.data 4 4) (byteAt t.data 1)).2.flatMap traceBytes) false))) ∧
  (∀ (b a : Bool) (tag n : Nat) (t : Txn) (s : State), Held s b a tag 0x09 t → n = byteAt t.data 2 →
     (xferCheck s (byteAt t.data 0) (byteAt t.data 1) n ((t.data.drop 6).length - n) (fieldAt t.data 4 2) = 0 →
       exec (.cspXfer (.line b a tag)) s = .next (xferPost s (byteAt t.data 0) (byteAt t.data 1)
         ((t.data.drop 6).take n) ((t.data.drop 6).drop n) (fieldAt t.data 4 2) (.line t.id))) ∧
     (xferCheck s (byteAt t.data 0) (byteAt t.data 1) n ((t.data.drop 6).length - n) (fieldAt t.data 4 2) = 1 →
       exec (.cspXfer (.line b a tag)) s = .next (endTxn s t.id 0x05 [] false)) ∧
     (xferCheck s (byteAt t.data 0) (byteAt t.data 1) n ((t.data.drop 6).length - n) (fieldAt t.data 4 2) = 2 →
       exec (.cspXfer (.line b a tag)) s = .next (endTxn s t.id 0x04 [] false))) ∧
  (∀ (b a : Bool) (tag : Nat) (t : Txn) (s : State),
     (Held s b a tag 0x0A t → exec (.adcCapt (.line b a tag)) s = .next (captStart s (byteAt t.data 0) (byteAt t.data 1)
       (fieldAt t.data 2 2) (fieldAt t.data 4 8) (.line t.id))) ∧
     (Held s b a tag 0x0B t → fieldAt t.data 0 2 + fieldAt t.data 2 2 ≤ 32768 →
       exec (.captRead b a tag) s =
         .next (endTxn s t.id 0 (memBytes s.mem (captureBase + 2 * fieldAt t.data 0 2) (2 * fieldAt t.data 2 2)) false)) ∧
     (Held s b a tag 0x0B t → 32768 < fieldAt t.data 0 2 + fieldAt t.data 2 2 →
       exec (.captRead b a tag) s = .next (endTxn s t.id 0x04 [] false)))

/-- The relay and the sealed opcodes execute: owner lock, position binding, injection enable, rekey, relay control.
For a transaction that the node holds for the row (Held): OWNER_LOCK set and clear outside PWRFAIL_N end it with
LOCK_STAT, changing the lock with REASON 0x0803 or 0x0804 and event 0x83 where it was the other, else changing
nothing. POS_BIND completes with the position, bound at once, and the active set's slot geometry; POS_UNBIND completes
unbound. REKEY ends it with the EPOCH that raiseEpoch gives, one on and the counter 0 below 0xFFFFF, and with status
0x10 at 0xFFFFF. INJ_ENABLE with seconds sets the sealed enable to now plus them with REASON 0x0805, with none clears
it, and answers INJ_CTRL. RELAY_CTRL status answers the three update words; map answers the phase, the missing count
and the missing map, zeros in IDLE; another action ends it with 0x0F and 0x0910. The model's own choices and readings
that it rests on: logs 43, 44, 54, 66. (05_tagged_transactions.md, 06_starter_anchor.md, 18_update_sessions.md,
19_security.md, 21_health_trace_injection.md) -/
def Obligations.SealedTransactionsExecute : Prop :=
  (∀ (b a : Bool) (tag : Nat) (t : Txn) (s u v : State), Held s b a tag 0x20 t → s.mode.pwrfail = false →
     (u = State.reason { s with sec := { s.sec with locked := true } } 0x0803 → v = post u 0x83 0 (lockStatWord u) →
       byteAt t.data 0 = 1 →
       (s.sec.locked = false → exec (.ownerLockSet b a tag) s =
         .next (endTxn v t.id 0 (wordsToBytes [lockStatWord v]) true)) ∧
       (s.sec.locked = true → exec (.ownerLockSet b a tag) s =
         .next (endTxn s t.id 0 (wordsToBytes [lockStatWord s]) false))) ∧
     (u = State.reason { s with sec := { s.sec with locked := false } } 0x0804 → v = post u 0x83 0 (lockStatWord u) →
       byteAt t.data 0 = 0 →
       (s.sec.locked = true → exec (.ownerLockClear b a tag) s =
         .next (endTxn v t.id 0 (wordsToBytes [lockStatWord v]) true)) ∧
       (s.sec.locked = false → exec (.ownerLockClear b a tag) s =
         .next (endTxn s t.id 0 (wordsToBytes [lockStatWord s]) false)))) ∧
  (∀ (b a : Bool) (tag : Nat) (t : Txn) (s : State), Held s b a tag 0x22 t → s.mode.pwrfail = false →
     (byteAt t.data 0 = 0 → Completes (.posBind b a tag) s (fun u =>
       u.link.pos = some (fieldAt t.data 2 2) ∧ u.link.posPending = false ∧ u.link.geo = some (setGeo s))) ∧
     (byteAt t.data 0 = 1 → Completes (.posUnbind b a tag) s (fun u => u.link.pos = none ∧ u.link.posPending = false))) ∧
  (∀ (b a : Bool) (tag : Nat) (t : Txn) (s : State), Held s b a tag 0x24 t → s.mode.pwrfail = false →
     exec (.rekey b a tag) s =
       .next (endTxn (raiseEpoch s) t.id (if (raiseEpoch s).sec.epoch == 0xFFFFF then 0x10 else 0)
         (leBytes 4 (raiseEpoch s).sec.epoch) true) ∧
     (s.sec.epoch < 0xFFFFF → (raiseEpoch s).sec.epoch = s.sec.epoch + 1 ∧ (raiseEpoch s).sec.counter = 0)) ∧
  (∀ (b a : Bool) (tag : Nat) (t : Txn) (s u : State), Held s b a tag 0x23 t →
     (fieldAt t.data 0 2 ≠ 0 → u = injCheck (State.reason { s with inj := { s.inj with
         sealedEnable := some (s.time.line + 1000000000 * fieldAt t.data 0 2, byteAt t.data 2 % 16) } } 0x0805) →
       exec (.injEnable b a tag) s = .next (endTxn u t.id 0 (leBytes 2 (injCtrlWord u).toNat) true)) ∧
     (fieldAt t.data 0 2 = 0 → u = injCheck { s with inj := { s.inj with sealedEnable := none } } →
       exec (.injEnable b a tag) s = .next (endTxn u t.id 0 (leBytes 2 (injCtrlWord u).toNat) true))) ∧
  (∀ (b a : Bool) (tag : Nat) (t : Txn) (s : State), Held s b a tag 0x0C t →
     (byteAt t.data 0 = 2 →
       exec (.relayCtrlStatus b a tag) s =
         .next (endTxn s t.id 0
           ([2, 0] ++ wordsToBytes [updStatWord s, updProgWord s, if s.upd.phase == .idle then s.upd.ended else 0]) false)) ∧
     (byteAt t.data 0 = 1 →
       (s.upd.phase ≠ .idle → exec (.relayCtrlMap b a tag) s =
         .next (endTxn s t.id 0
           ([1, 0, byte (updCode s.upd.phase), 0] ++ leBytes 2 s.upd.missing.length ++ mapBytes s.upd.missing) false)) ∧
       (s.upd.phase = .idle → exec (.relayCtrlMap b a tag) s =
         .next (endTxn s t.id 0 ([1, 0, 0, 0] ++ leBytes 2 0 ++ mapBytes []) false))) ∧
     (byteAt t.data 0 ≠ 1 → byteAt t.data 0 ≠ 2 →
       exec (.relayCtrlMap b a tag) s = .next (endTxn s t.id 0x0F (leBytes 2 0x0910) false)))

/-- Lifetimes, DONE entries, the crypto engine and the replay floor do their work on transactions. TXN_EXPIRY of a
held or opening transaction outside logic reset completes at its deadline with it gone from the held ones and, for an
unsealed unicast, an EXPIRED response ready; BCAST_DROP of a broadcast completes with it gone and no response.
EXPIRED_DISCARD of an EXPIRED response completes 1 s after its deadline with it gone. DONE_ENTRY_LAPSE drops the DONE
entry at its deadline. CRYPTO_OP_DONE outside logic reset ends the running operation: an opening goes on (openDone); a
transaction's seal leaves its response, sealed with its nonce, ready and the transaction gone; a seal of a response
alone answers noteDone. FLOOR_WRITE_DONE outside logic reset of the transaction that waits for its floor ends it with
0x0F and 0x0706 on a failure, and takes floor and window and executes it on success where the window takes the nonce
and the floor rises. AES-GCM is an opaque function (log 9); a seal that expires while it is opened is log 22. The
model's own choices and readings that it rests on: logs 9, 22, 25, 43, 71. (05_tagged_transactions.md, 19_security.md)
-/
def Obligations.TransactionsRunOutAndSealsComplete : Prop :=
  (∀ (b a : Bool) (tag : Nat) (t : Txn) (s : State), findDue s b a tag = some t → s.mode.logicReset = false →
     exec (.txnExpiry b a tag) s = .next (expireHeld (s.reach t.deadline) t) ∧
     Completes (.txnExpiry b a tag) s (fun u => u.txn.held = dropTxn s.txn.held t.id ∧
       u.time.line = reachLine s.time.line t.deadline ∧
       (t.bcast = false → t.sealed = false → u.txn.ready = s.txn.ready ++
         [expiredResponse t.id t.anchor t.tag t.op t.nonce t.deadline t.effect]))) ∧
  (∀ (a : Bool) (tag : Nat) (t : Txn) (s : State), findDue s true a tag = some t → t.bcast = true →
     exec (.bcastDrop a tag) s = .next (expireHeld (s.reach t.deadline) t) ∧
     Completes (.bcastDrop a tag) s (fun u => u.txn.held = dropTxn s.txn.held t.id ∧ u.txn.ready = s.txn.ready)) ∧
  (∀ (a : Bool) (tag : Nat) (r : Response) (s : State),
     (s.txn.ready ++ s.txn.sealing).find? (fun x => ownsTag x a tag) = some r → r.expired = true →
     exec (.expiredDiscard a tag) s = .next (discardExpired (s.reach (r.deadline + 1000000000)) r) ∧
     Completes (.expiredDiscard a tag) s (fun u => u.txn.ready = dropResponse s.txn.ready r ∧
       u.txn.sealing = dropResponse s.txn.sealing r ∧ u.time.line = reachLine s.time.line (r.deadline + 1000000000))) ∧
  (∀ (a : Bool) (tag : Nat) (d : DoneEntry) (s : State), s.txn.done.find? (fun x => isDone x a tag) = some d →
     exec (.doneEntryLapse a tag) s =
       .next { s.reach d.deadline with txn := { s.txn with done := s.txn.done.filter (fun x => !isDone x a tag) } }) ∧
  (∀ (o : CryptoOp) (id : Nat) (s : State), s.mode.logicReset = false → cryptoRunning s.sec.ops = some o →
     (∀ t : Txn, o.for_ = .openTxn id → s.txn.opening.find? (fun x => x.id == id) = some t →
       exec .cryptoOpDone s =
         .next (openDone { cryptoEnd s o with txn := { s.txn with opening := dropSame s.txn.opening t } } t)) ∧
     (∀ t : Txn, o.for_ = .sealTxn id → txnOf s id = some t → t.phase = .sealing →
       exec .cryptoOpDone s = .next (sealDone (cryptoEnd s o) t) ∧
       Completes .cryptoOpDone s (fun u => u.txn.held = dropTxn s.txn.held t.id ∧
         u.txn.ready = s.txn.ready ++ [sealedWith s (responseOf t) t.sealNonce])) ∧
     (∀ r : Response, o.for_ = .sealNote id → s.txn.sealing.find? (fun x => x.id == id) = some r →
       exec .cryptoOpDone s = .next (noteDone (cryptoEnd s o) r))) ∧
  (∀ (t : Txn) (s : State), s.txn.held.find? (fun x => x.phase == .floor) = some t → s.mode.logicReset = false →
     exec (.floorWriteDone false) s =
       .next (openedTxn { s with txn := { s.txn with held := dropSame s.txn.held t } }
         { t with phase := .held, resp := leBytes 2 0x0706 } 0x0F) ∧
     (∀ w : Window, windowTake (recWindow s t.anchor) (nonceEpoch t.nonce) (nonceCounter t.nonce) = some w →
       raisesH (recWindow s t.anchor) (nonceEpoch t.nonce) (nonceCounter t.nonce) = true →
       exec (.floorWriteDone true) s =
         .next (openedTxn (floorTake { s with txn := { s.txn with held := dropSame s.txn.held t } } t.anchor
           (nonceEpoch t.nonce) (nonceCounter t.nonce) w) t 0)))

/-- The posting of an accepted descriptor makes its command outstanding and starts what the command does. For a
descriptor that the queue accepts (Accepted): NOP with nothing outstanding completes at once with its completion entry
and its path's bit of INTA_STAT. LINE_START at an idle starter with the core running, no lost COUNT and a valid plan
latches the plan and starts it (starterStart: plan, descriptor and SYNC sending held); at an anchor it latches the
plan and completes. LINE_STOP at a starter that runs stops at the cycle's end; before that it abandons the start with
0x0421 and completes at the cycle's end; at an anchor it ends the anchor's heats at the cycle's end. ENUM at a starter
with the core running waits in turn, and with no count or start at work begins at once. LINE_TXN with a plan, a
lifetime, room, a reachable position and, if sealed, sealing on adds the record with its data. GUN_SCHEDULE at a
starter with no gun whose instant leaves the lead time starts that gun; RELAY_PULL that nothing refuses starts the
pull of its device's blocks; TAKEOVER_END in a takeover begins its end. The model's own choices and readings that it
rests on: logs 47, 48, 49, 51, 53, 54, 61, 80, 84, 101. (06_starter_anchor.md, 07_host_bus.md) -/
def Obligations.PostedCommandsStart : Prop :=
  (∀ (p : Path) (d : Descriptor) (s : State), Accepted s p { d with code := 1 } → (cmdPath (acting s p) p).outst = [] →
     Completes (.nop p d) s (fun u => (cmdPath u p).outst = [] ∧
       (cmdPath u p).cplq = (cmdPath (acting s p) p).cplq ++ [cplEntry p { d with code := 1 } 0 0] ∧
       u.evq.intaStat = setBit s.evq.intaStat (if p == .slave then 1 else 0) true)) ∧
  (∀ (p : Path) (d : Descriptor) (s w : State), Accepted s p { d with code := 2 } →
     w = wake (posted s p { d with code := 2 }) 6 →
     (s.mode.role = .starter → s.mode.coreReset = false → countLost w = false → lineIdle w = true →
       ∀ v : State, latchPlan w = some v →
       exec (.lineStart p d) s = .next (starterStart w p { d with code := 2 }) ∧
       (starterStart w p { d with code := 2 }).sta.plan = v.sta.plan ∧
       (starterStart w p { d with code := 2 }).sta.starting = some (p, { d with code := 2 }) ∧
       (starterStart w p { d with code := 2 }).time.sending = true) ∧
     (s.mode.role = .anchor → ∀ v : State, latchPlan (posted s p { d with code := 2 }) = some v →
       exec (.lineStart p d) s = .next (complete { v with
         sta := { v.sta with anchor := { v.sta.anchor with started := true } } } p { d with code := 2 } 0 0))) ∧
  (∀ (p : Path) (d : Descriptor) (s q : State), Accepted s p { d with code := 3 } → q = posted s p { d with code := 3 } →
     (s.mode.role = .starter → countLost s = false → s.sta.stopping = none → s.sta.stage = .running ∨ s.sta.stage = .first →
       exec (.lineStop p d) s = .next { q with sta := { q.sta with
         stopping := some (p, { d with code := 3 }), stopT := cycleEnd q } }) ∧
     (∀ v : State, s.mode.role = .starter → countLost s = false → s.sta.stopping = none → s.sta.stage ≠ .running →
       s.sta.stage ≠ .first → v = enumNext (startAbandon q 0x0421) →
       exec (.lineStop p d) s = .next (complete (v.reach (cycleEnd v)) p { d with code := 3 } 0 0)) ∧
     (s.mode.role = .anchor → Completes (.lineStop p d) s (fun u => u.sta.anchor.heats = false ∧
       u.time.line = reachLine s.time.line (cycleEnd s)))) ∧
  (∀ (p : Path) (d : Descriptor) (s w : State), Accepted s p { d with code := 4 } →
     w = wake (posted s p { d with code := 4 }) 6 → s.mode.role = .starter → s.mode.coreReset = false →
     countLost w = false →
     exec (.enum p d) s =
       .next (enumNext { w with sta := { w.sta with enumWaits := s.sta.enumWaits ++ [(p, { d with code := 4 })] } }) ∧
     (s.sta.counting = false → startsUp s = false → coreRuns w = true → s.sta.enumWaits = [] →
       Completes (.enum p d) s (fun u => u.sta.assign = (d.sub % 2 == 1) ∧ u.sta.counting = true ∧
         u.sta.enumFor = some (p, { d with code := 4 }) ∧ u.sta.enumWaits = [])) ∧
     (s.sta.counting = true → Completes (.enum p d) s (fun u =>
       u.sta.enumWaits = s.sta.enumWaits ++ [(p, { d with code := 4 })] ∧ u.sta.enumFor = s.sta.enumFor))) ∧
  (∀ (p : Path) (d : Descriptor) (s q : State), Accepted s p { d with code := 5 } → q = posted s p { d with code := 5 } →
     hasPlan s = true → d.arg1 ≠ 0 → lineFull q = false → reachable q (d.arg0 % 4096) = true →
     (natBits d.arg0 12 1 = 1 → sealedOff q = false) →
     exec (.lineTxn p d) s =
       .next (addLine q (newLine (.host p { d with code := 5 }) (d.arg0 % 4096) d.sub d.arg1 (natBits d.arg0 12 1 == 1)
         (memBytes q.mem (apertureBase + d.off0) d.len0)))) ∧
  (∀ (p : Path) (d : Descriptor) (s w : State) (v : Plan), Accepted s p { d with code := 6 } →
     w = wake (posted s p { d with code := 6 }) 6 → s.mode.role = .starter → s.mode.coreReset = false → s.sta.gun = none →
     s.sta.plan = some v → w.time.line + v.gunLead * periodNs w ≤ memNat w (apertureBase + d.off0) 8 →
     exec (.gunSchedule p d) s = .next (gunStart w v (memNat w (apertureBase + d.off0) 8) p { d with code := 6 }) ∧
     (gunStart w v (memNat w (apertureBase + d.off0) 8) p { d with code := 6 }).sta.gun = some
       { g := memNat w (apertureBase + d.off0) 8, all := d.sub % 2 == 1, armed := [], cancelled := false, closing := none,
         total := 0, swapped := 0, refused := 0, path := p, d := { d with code := 6 } }) ∧
  (∀ (p : Path) (d : Descriptor) (s w x : State), Accepted s p { d with code := 7 } →
     w = wake (posted s p { d with code := 7 }) 6 → s.mode.role = .starter → s.mode.coreReset = false → pullRefusal w = 0 →
     reachable w (d.arg0 % 65536) = true → d.arg0 ≤ 4094 →
     x = (if w.upd.phase == .idle then setPhase { w with upd := { w.upd with ended := 0, source := 2 } } .pull else w) →
     exec (.relayPull p d) s =
       .next (pullStep { x with
         sta := { x.sta with
           pull := some { src := d.arg0, block := d.sub, left := d.arg1, tries := 0, parts := [], fails := [], failed := [],
                          pulled := 0, path := p, d := { d with code := 7 } } } })) ∧
  (∀ (p : Path) (d : Descriptor) (s q : State), Accepted s p { d with code := 8 } → q = posted s p { d with code := 8 } →
     s.mode.role = .anchor → s.sta.anchor.takeover = true → s.sta.endFor = none →
     exec (.takeoverEnd p d) s = .next { q with sta := { q.sta with
       endFor := some (p, { d with code := 8 }), anchor := { q.sta.anchor with ending := true } } })

/-- The starter settles its start, sends batons, retries and gives up records, and settles its pings.
LINE_START_SETTLE in the settling stage outside logic reset, with no COUNT lost, completes at the settle's end with
the count asked for, ASSIGN as the start's descriptor has it. BATON_SEND with a plan, heats running, batons left and
room in the gap answers sendBaton. TXN_RETRY of a sent unicast record not queued, with sends left and time enough
before its deadline, queues it again at three cycles behind its last; TXN_LOST gives it up (lineLost) at its lifetime
and a cycle behind its first sending. PING_OUTCOME of a run that has its outcome, with the core running, answers
pingSettle; a failed ping of a SILENT position makes that position's topology word BEYOND with its other fields kept.
The model's own choices and readings that it rests on: logs 25, 47, 51, 99. (06_starter_anchor.md,
05_tagged_transactions.md) -/
def Obligations.LineMasterKeepsItsInstants : Prop :=
  (∀ s : State, s.sta.stage = .settle → s.mode.logicReset = false → countLost (s.reach s.sta.settleT) = false →
     exec .lineStartSettle s = .next (countAsk { s.reach s.sta.settleT with
       sta := { s.sta with stage := .count, countTries := 0 } } ((s.sta.starting.map (fun x => x.2.sub % 2 == 1)).getD false)) ∧
     Completes .lineStartSettle s (fun u => u.sta.stage = .count ∧ u.sta.counting = true ∧
       u.time.line = reachLine s.time.line s.sta.settleT)) ∧
  (∀ (v : Plan) (s : State), s.sta.plan = some v → heatsRun s = true → s.sta.batons < v.batonMax → 32 ≤ gapRoom s →
     exec .batonSend s = .next (sendBaton s v (gapRoom s))) ∧
  (∀ (dest tag d : Nat) (t : LineTxn) (s : State), findLine s dest tag = some t → dest ≠ 4095 → s.mode.logicReset = false →
     t.sentT = some d →
     (t.queued = false → t.sends < 4 →
       retryFits (s.reach ((t.lastT / periodNs s + 3) * periodNs s)) t = true →
       exec (.txnRetry dest tag) s =
         .next (setLine (s.reach ((t.lastT / periodNs s + 3) * periodNs s)) { t with queued := true })) ∧
     exec (.txnLost dest tag) s =
       .next (lineLost (endLine (s.reach (d + t.life * 100000 + periodNs s)) dest tag) t)) ∧
  (∀ (pos : Nat) (r : PingRun) (ok : Bool) (s : State), s.sta.pings.find? (fun r => r.pos == pos) = some r →
     r.outcome = some ok → coreRuns s = true →
     exec (.pingOutcome pos) s =
       .next (pingSettle { s with sta := { s.sta with pings := s.sta.pings.filter (fun x => x.pos != pos) } } pos ok) ∧
     (ok = false → topoState s pos = 3 → Completes (.pingOutcome pos) s (fun u =>
       u.mem = (topoPut s pos 4 (topoNoslot s pos) (topoMiss s pos)).mem)))

/-- The starting gun closes, the anchor takes over and gives back, and a distribution sends its sectors. With the core
running and a gun that is neither cancelled nor closing: GUN_CUTOFF before the gun's time, of an all-or-none schedule
with devices not armed, completes 4 cycles before that time with the swap disarmed and the gun cancelled;
GUN_CLOSING_SWEEP completes at that time with the present positions counted and asked, or, with none, answers
gunFinish. TAKEOVER_START of an anchor that may take over completes at the cycle's end with the takeover on, line
time's origin its own and the heats of the latched plan; TAKEOVER_AUTO_END of an ending one outside logic reset
completes at the cycle's end with takeover, heats and origin given up. With a distribution at work and the core
running, DISTRIBUTE_WAIT_END completes 6 s behind the first join with the sectors to send those that any part needs;
RELAY_SEND with more than one sector left, the relay's pace kept and room in the gap completes with RSEQ one on, the
sector taken and, where port B is UP, its RELAY frame sent. The model's own choices and readings that it rests on:
logs 25, 49, 53, 54. (06_starter_anchor.md, 18_update_sessions.md) -/
def Obligations.GunsTakeoversAndDistributionsGoOn : Prop :=
  (∀ (g : GunRun) (v : Plan) (s : State), s.sta.gun = some g → g.cancelled = false → g.closing = none → coreRuns s = true →
     (s.sta.plan = some v → s.time.line < g.g → g.all = true → gunOpen s g ≠ [] →
       Completes .gunCutoff s (fun u => u.cfg.armed = none ∧ u.sta.gun = some { g with cancelled := true } ∧
         u.time.line = reachLine s.time.line (g.g - 4 * periodNs s))) ∧
     (posIn s 2 ≠ [] → Completes .gunClosingSweep s (fun u =>
       u.sta.gun = some { g with closing := some (posIn s 2), total := (posIn s 2).length } ∧
       u.time.line = reachLine s.time.line g.g)) ∧
     (posIn s 2 = [] → exec .gunClosingSweep s =
       .next (gunFinish { s.reach g.g with
         sta := { s.sta with
           gun := some { g with closing := some [], total := 0 }
           txns := s.sta.txns.filter (fun t => t.for_ != .gunRead && t.for_ != .gunWrite && t.for_ != .gunBcast) } }
         { g with closing := some [], total := 0 }))) ∧
  (∀ s : State, takeoverMay s = true →
     Completes .takeoverStart s (fun u => u.sta.anchor.takeover = true ∧ u.time.originAnchor = true ∧
       u.sta.anchor.heats = heatsBefore s ∧ u.time.line = reachLine s.time.line (cycleEnd s))) ∧
  (∀ s : State, s.sta.anchor.takeover = true → s.sta.anchor.ending = true → s.mode.logicReset = false →
     Completes .takeoverAutoEnd s (fun u => u.sta.anchor.takeover = false ∧ u.sta.anchor.heats = false ∧
       u.sta.anchor.trigger = none ∧ u.time.originAnchor = false ∧ u.time.line = reachLine s.time.line (cycleEnd s))) ∧
  (∀ (t : Nat) (d : DistRun) (s : State), s.upd.dist = some d → s.upd.phase = .distribute → coreRuns s = true →
     (d.waiting = true → d.joinT = some t → s.upd.distOnce = false →
       Completes .distributeWaitEnd s (fun u => u.upd.distOnce = true ∧ u.time.line = reachLine s.time.line (t + 6000000000) ∧
         u.upd.dist = some { d with waiting := false, toSend := neededSectors s.upd.metaSectors s.upd.blocks })) ∧
     (d.waiting = false → ∀ (n m : Nat) (r : List Nat), d.toSend = n :: m :: r → s.upd.relayT = none → 4128 ≤ gapRoom s →
       Completes .relaySend s (fun u => u.upd.rseq = (s.upd.rseq + 1) % 65536 ∧ u.upd.relayT = some s.time.line ∧
         u.upd.dist = some { d with toSend := m :: r } ∧
         (isUp s .b = true → (lport u .b).sent = [wholeFrame (relayBody s n d.round) none]))))

/-- Host bus cycles: decode errors, aperture writes and reads, the direct-execution window, its timeout, and early
strobes. With the host served: BUS_DECODE_ERROR posts BUS_ERROR 2, a read giving 0xFFFF. APERTURE_WRITE below 0x80000
of the whole low half holds it, of the whole high half stores both halves together (or its own alone where no such
half is held), of one lane stores that byte, each after a half held before; with no lane it only begins; above 0x80000
it sets WIN_ERR and posts BUS_ERROR 3. APERTURE_READ below 0x90000 drives the enabled lanes with the word and captures
the other half, a held one being used; above, 0xFFFF and WIN_ERR. XIP_READ with XIP_EN 0 or beyond the device drives
0xFFFF with WIN_ERR; behind a tracked erase it waits; a line in the buffer answers it at once; a running prefetch of
its line becomes its demand; else a demand of its line is added. HOST_STROBE_EARLY posts BUS_ERROR 5: a waiting window
read is given up, another access acts as earlyAccess says. XIP_TIMEOUT with a host word still waiting after the bytes
read so far sets TIMEOUT and ends the wait, HD 0xFFFF unless the read was given up. Which bytes were read so far comes
as an operand (log 102); an access while a window read waits is log 100. The model's own choices and readings that it
rests on: logs 25, 27, 84, 100, 102. (07_host_bus.md, 14_serial_ports.md) -/
def Obligations.HostBusCyclesAct : Prop :=
  (∀ (addr : Nat) (s : State), pathOpen s .host = true →
     exec (.busDecodeError true addr) s =
       .next (post { winBegin s with bus := { (winBegin s).bus with hd := 0xFFFF } } 0x90 2 (word addr)) ∧
     exec (.busDecodeError false addr) s = .next (post (winBegin s) 0x90 2 (word addr))) ∧
  (∀ (o a : Nat) (w : Word) (up low : Bool) (s : State), pathOpen s .host = true → a = apertureBase + winOfs o →
     (winOfs o < 0x80000 → winOfs o % 4 = 0 →
       Completes (.apertureWrite o w true true) s (fun u => u.bus.heldWrite = some (a, w) ∧ u.mem = (commitHalf s).mem)) ∧
     (winOfs o < 0x80000 → winOfs o % 4 = 2 →
       (∀ l : Word, s.bus.heldWrite = some (a - 2, l) →
         Completes (.apertureWrite o w true true) s (fun u => u.bus.heldWrite = none ∧
           u.mem = (s.store (a - 2) (leBytes 2 l.toNat ++ leBytes 2 w.toNat)).mem)) ∧
       ((∀ l : Word, s.bus.heldWrite ≠ some (a - 2, l)) →
         Completes (.apertureWrite o w true true) s (fun u => u.bus.heldWrite = none ∧
           u.mem = (((commitHalf s).store a [byte w.toNat]).store (a + 1) [byte (w.toNat / 256)]).mem))) ∧
     (winOfs o < 0x80000 →
       Completes (.apertureWrite o w true false) s (fun u => u.mem = ((commitHalf s).store (a + 1) [byte (w.toNat / 256)]).mem) ∧
       Completes (.apertureWrite o w false true) s (fun u => u.mem = ((commitHalf s).store a [byte w.toNat]).mem)) ∧
     exec (.apertureWrite o w false false) s = .next (winBegin s) ∧
     (0x80000 ≤ winOfs o → (up || low) = true →
       exec (.apertureWrite o w up low) s =
         .next (post { winBegin s with bus := { (winBegin s).bus with winErr := true } } 0x90 3 (word (winOfs o))))) ∧
  (∀ (o x : Nat) (w : Word) (up low : Bool) (s : State), pathOpen s .host = true → x = winOfs (o % 0x800000) →
     (x < 0x90000 → (up || low) = true → s.bus.heldRead = none →
       Completes (.apertureRead o up low) s (fun u =>
         u.bus.hd = driveLanes s.bus.hd (word (memNat (commitHalf s) (winSram x) 2)) up low ∧
         u.mem = (commitHalf s).mem ∧ (x % 4 = 2 → u.bus.heldRead = none) ∧
         (x % 4 = 0 → u.bus.heldRead = some (winSram x + 2, word (memNat (commitHalf s) (winSram x + 2) 2))))) ∧
     (x < 0x90000 → (up || low) = true → s.bus.heldRead = some (winSram x, w) →
       Completes (.apertureRead o up low) s (fun u => u.bus.hd = driveLanes s.bus.hd w up low)) ∧
     (0x90000 ≤ x → (up || low) = true →
       Completes (.apertureRead o up low) s (fun u => u.bus.hd = driveLanes s.bus.hd 0xFFFF up low ∧ u.bus.winErr = true)) ∧
     exec (.apertureRead o false false) s = .next (winBegin s)) ∧
  (∀ (o x a : Nat) (b : List Byte) (s : State), pathOpen s .host = true →
     x = winOfs (0x800000 + o % 0x800000) → a = s.bus.xipBase * 0x800000 + (x - 0x800000) →
     (s.bus.xipEn = false ∨ 2 ^ csel s s.bus.xipSel 0 11 5 ≤ a →
       Completes (.xipRead o) s (fun u => u.bus.hd = 0xFFFF ∧ u.bus.winErr = true ∧ u.ser = s.ser)) ∧
     (s.bus.xipEn = true → a < 2 ^ csel s s.bus.xipSel 0 11 5 →
       (s.ser.erase = some s.bus.xipSel → Completes (.xipRead o) s (fun u => u.bus.hd = s.bus.hd ∧
         u.ser = { s.ser with hostRead := some a, hostT := s.time.line })) ∧
       (s.ser.erase ≠ some s.bus.xipSel →
         (s.ser.lines.find? (fun x => x.1 == lineOf a) = some (lineOf a, b) → s.ser.hostGone = false →
           Completes (.xipRead o) s (fun u => u.bus.hd = lineWord b (a - lineOf a) ∧ u.ser.hostRead = none)) ∧
         (s.ser.lines.find? (fun x => x.1 == lineOf a) = none → s.ser.running = some (.prefetch s.bus.xipSel (lineOf a)) →
           s.ser.stale = false → Completes (.xipRead o) s (fun u => u.bus.hd = s.bus.hd ∧ u.ser.hostRead = some a ∧
             u.ser.running = some (.demand s.bus.xipSel (lineOf a) (some (a - lineOf a))))) ∧
         (s.ser.lines.find? (fun x => x.1 == lineOf a) = none → s.ser.running ≠ some (.prefetch s.bus.xipSel (lineOf a)) →
           exec (.xipRead o) s = .next (serAdd
             { winBegin s with ser := { s.ser with hostRead := some a, hostT := s.time.line } }
             (.demand s.bus.xipSel (lineOf a) (some (a - lineOf a)))))))) ∧
  (∀ (ha : HostAccess) (captured : Bool) (a : Nat) (s : State),
     (s.ser.hostRead = some a → s.ser.hostGone = false →
       exec (.hostStrobeEarly ha captured) s =
         .next (post { s with ser := { s.ser with hostGone := true } } 0x90 5 (word a))) ∧
     (pathOpen s .host = true →
       exec (.hostStrobeEarly ha captured) s =
         .next (post (earlyAccess s ha captured) 0x90 5 (word (accessAddr ha))))) ∧
  (∀ (read : List Byte) (a : Nat) (v s : State), v = hostWord s read →
     (v.ser.hostRead = none → exec (.xipTimeout read) s = .next v) ∧
     (v.ser.hostRead = some a → Completes (.xipTimeout read) s (fun u => u.bus.timeout = true ∧ u.ser.hostRead = none ∧
       (v.ser.hostGone = false → u.bus.hd = 0xFFFF) ∧ (v.ser.hostGone = true → u.bus.hd = v.bus.hd))))

/-- The register commands act: writes by path, queue and snapshot reads, keys, assemblies, MWIN_CTRL, CM_ABORT and
SP_EN. By a path that is served: REGISTER_WRITE answers regWriteTo after the access, and one with a single lane of the
host bus posts BUS_ERROR 1 only. EVQ_DATA_READ and CPLQ_DATA_READ outside MINIMAL give the oldest entry's words in
turn, hold or step through it, take it away with its last word, give 0 from an empty queue, and, for the event queue,
0 while another path holds it; the line has no completion queue. EVQ_HOLD_LAPSE frees a hold at 10 us. CHIN_READ gives
the snapshot's sensed word and captures faults and forces for the path's next reads. KEYSEQ_WRITE moves the path's key
as keyWrite says; KEY_LAPSE ends an open one at 100 us. CMDQ_ASM_CLR empties the path's assembly. XIP_ENABLE with the
key, no window read waiting and no move due sets or clears XIP_EN with the selection, and is refused for a code of the
device class. XIP_FLUSH empties the lines at once, or after the read that waits. CM_ABORT ends a medium's or a
transfer's job, with 0x0103 for a transfer, and does nothing where none runs. SP_ENABLE in SETUP sets SP_EN. The
model's own choices and readings that it rests on: logs 26, 28, 29, 30, 34, 35. (07_host_bus.md, 08_live_registers.md,
14_serial_ports.md) -/
def Obligations.RegisterCommandsAct : Prop :=
  (∀ (p : Path) (addr : Nat) (w : Word) (both : Bool) (s : State), pathOpen s p = true →
     (p ≠ .host ∨ both = true →
       exec (.registerWrite p addr w both) s =
         .next (slaveEnd (regWriteTo (hostAccess s p) (accNow s p) (regAddr addr) w).1)) ∧
     (p = .host → exec (.registerWrite p addr w false) s = .next (post (winBegin s) 0x90 1 (word (regAddr addr))))) ∧
  (∀ (p q : Path) (e : Event) (r : List Event) (s : State), pathOpen s p = true → s.mode.mode ≠ .minimal →
     (s.evq.queue = [] → Completes (.evqDataRead p) s (fun u => u.evq = s.evq ∧ (p = .host → u.bus.hd = 0))) ∧
     (s.evq.queue = e :: r →
       (s.evq.holder = none → Completes (.evqDataRead p) s (fun u => (p = .host → u.bus.hd = eventWord e 0) ∧
         u.evq = { s.evq with holder := some p, rptr := 1, holdT := s.time.line })) ∧
       (s.evq.holder = some p → s.evq.rptr < 3 → Completes (.evqDataRead p) s (fun u =>
         (p = .host → u.bus.hd = eventWord e s.evq.rptr) ∧
         u.evq = { s.evq with rptr := s.evq.rptr + 1, holdT := s.time.line })) ∧
       (s.evq.holder = some p → 3 ≤ s.evq.rptr → Completes (.evqDataRead p) s (fun u =>
         (p = .host → u.bus.hd = eventWord e 3) ∧ u.evq = { s.evq with queue := r, holder := none, rptr := 0 })) ∧
       (s.evq.holder = some q → p ≠ q → Completes (.evqDataRead p) s (fun u =>
         (p = .host → u.bus.hd = 0) ∧ u.evq = s.evq)))) ∧
  (∀ s : State, s.evq.holder ≠ none → Completes .evqHoldLapse s (fun u => u.evq = { s.evq with holder := none, rptr := 0 } ∧
     u.time.line = reachLine s.time.line (s.evq.holdT + 10000))) ∧
  (∀ (p : Path) (e : List Word) (r : List (List Word)) (s : State), pathOpen s p = true → s.mode.mode ≠ .minimal →
     (p ≠ .line → (cmdPath s p).cplq = e :: r →
       ((cmdPath s p).rptr < 3 → Completes (.cplqDataRead p) s (fun u =>
         (p = .host → u.bus.hd = e.getD (cmdPath s p).rptr 0) ∧
         cmdPath u p = { cmdPath s p with rptr := (cmdPath s p).rptr + 1 })) ∧
       (3 ≤ (cmdPath s p).rptr → Completes (.cplqDataRead p) s (fun u =>
         (p = .host → u.bus.hd = e.getD (cmdPath s p).rptr 0) ∧
         cmdPath u p = { cmdPath s p with cplq := r, rptr := 0 }))) ∧
     (p ≠ .line → (cmdPath s p).cplq = [] → Completes (.cplqDataRead p) s (fun u =>
       (p = .host → u.bus.hd = 0) ∧ cmdPath u p = cmdPath s p)) ∧
     Completes (.cplqDataRead .line) s (fun u => u.bus.cmdHost = s.bus.cmdHost ∧ u.bus.cmdSlave = s.bus.cmdSlave) ∧
     Completes (.chinRead p) s (fun u => (p = .host → u.bus.hd = s.cyc.snap.sensed) ∧
       (p ≠ .line → chinOf u p = { chflt := some s.cyc.snap.faults, chforce := some s.cyc.snap.forced }))) ∧
  (∀ (p : Path) (w : Word) (s : State), pathOpen s p = true → s.ser.spOffDue = false →
     Completes (.keyseqWrite p w) s (fun u => keyOf u p = keyWrite (keyOf s p) w s.time.line)) ∧
  (∀ (p : Path) (s : State), (keyOf s p).st = .opened →
     Completes (.keyLapse p) s (fun u => keyOf u p = { keyOf s p with st := .idle } ∧
       u.time.line = reachLine s.time.line ((keyOf s p).openT + 100000))) ∧
  (∀ (p : Path) (s : State), pathOpen s p = true → s.ser.spOffDue = false → p ≠ .line →
     Completes (.cmdqAsmClr p) s (fun u => cmdPath u p = { cmdPath s p with asm := [] })) ∧
  (∀ (p : Path) (sel base : Nat) (s : State), pathOpen s p = true → s.ser.spOffDue = false → keyOpen (hostAccess s p) p = true →
     sel < 8 → base < 16 → s.ser.hostRead = none → s.ser.xipDue = none →
     (deviceClass s sel = false →
       Completes (.xipEnable p true sel base) s (fun u => u.bus.xipEn = true ∧ u.bus.xipSel = sel ∧ u.bus.xipBase = base)) ∧
     (deviceClass s sel = true → s.bus.xipEn = false →
       Completes (.xipEnable p true sel base) s (fun u => u.bus.xipEn = false ∧ u.bus.xipRef = true)) ∧
     Completes (.xipEnable p false sel base) s (fun u => u.bus.xipEn = false ∧ u.bus.xipSel = sel ∧ u.bus.xipBase = base)) ∧
  (∀ (p : Path) (s : State), pathOpen s p = true → s.ser.spOffDue = false →
     s.bus.xipSel < 8 → s.bus.xipBase < 16 → s.ser.xipDue = none →
     (s.ser.hostRead = none → Completes (.xipFlush p) s (fun u => u.ser.lines = [] ∧ u.ser.prefDue = none)) ∧
     (s.ser.hostRead ≠ none → Completes (.xipFlush p) s (fun u => u.ser = { s.ser with flushDue := true }))) ∧
  (∀ (p : Path) (s v : State), pathOpen s p = true → s.ser.spOffDue = false → v = acting s p →
     (s.ser.running = some .medium →
       exec (.cmAbort p) s = .next (slaveEnd (setSpEn (mediumEnd v false []) p s.ser.spEn))) ∧
     (∀ (c l n : Nat) (cmd w : List Byte) (f : Requester), s.ser.running = some (.xfer c l cmd w n f) →
       exec (.cmAbort p) s =
         .next (slaveEnd (setSpEn (serRun (jobFail v (.xfer c l cmd w n f) 0x0103)) p s.ser.spEn))) ∧
     (s.ser.running = none → Completes (.cmAbort p) s (fun u => u.ser = s.ser)) ∧
     (s.mode.mode = .setup →
       Completes (.spEnable p true) s (fun u => u.ser.spEn = true) ∧
       Completes (.spEnable p false) s (fun u => u.ser.spEn = false)))

/-- The configuration window is claimed, released and lapses, and the actions of CFG_CTRL begin or are refused. By a
path that is served, outside MINIMAL: CLAIM of a free or own window takes it since now and CANCEL by it disarms a
swap, owner kept; another's claim or release changes nothing; RELEASE of an own one frees it. VALIDATE and COPY by the
owner with nothing busy or armed and the core running begin (COPY with VALID 0); COMMIT answers commitStart. SWAP_NOW,
SWAP_CYCLE and SWAP_GUN with nothing busy and no refusal of swapCheck arm a swap for 16 us from now, for the first
cycle start from then on, and for the gun's time; a refused SWAP_GUN keeps what was armed and shows its code in
LAST_REF. CFG_CTRL_MULTI with more than one action does nothing but, off the line, post BUS_ERROR 7; with the word of
one action it is that action's row. CLAIM_LAPSE of a claimed window with a limit frees it at the limit (in units of
100 ms) behind its last use. The model's own choices and readings that it rests on: logs 25, 61, 78, 84.
(09_configuration_sets.md, 08_live_registers.md) -/
def Obligations.WindowClaimsAndConfigActions : Prop :=
  (∀ (p : Path) (s : State), pathOpen s p = true → s.mode.mode ≠ .minimal →
     (s.cfg.owner = none ∨ s.cfg.owner = some p →
       Completes (.claim p) s (fun u => u.cfg.owner = some p ∧ u.cfg.ownerT = s.time.line) ∧
       Completes (.cancel p) s (fun u => u.cfg.armed = none ∧ u.cfg.owner = s.cfg.owner)) ∧
     (∀ q : Path, s.cfg.owner = some q → p ≠ q → Completes (.claim p) s (fun u => u.cfg = s.cfg) ∧
       Completes (.release p) s (fun u => u.cfg = s.cfg)) ∧
     (s.cfg.owner = some p → Completes (.release p) s (fun u => u.cfg.owner = none)) ∧
     (s.cfg.owner = some p → s.cfg.busy = none → s.cfg.armed = none → s.mode.coreReset = false →
       Completes (.validate p) s (fun u => u.cfg.busy = some .validate ∧ u.cfg.shadow = s.cfg.shadow) ∧
       Completes (.copy p) s (fun u => u.cfg.busy = some .copy ∧ u.cfg.valid = false)) ∧
     (s.cfg.owner = none ∨ s.cfg.owner = some p → s.cfg.busy = none → s.mode.coreReset = false →
       exec (.commit p) s = .next (commitStart (windowUse (wake (acting s p) 4) p)))) ∧
  (∀ (p : Path) (s : State), pathOpen s p = true → s.mode.mode ≠ .minimal →
     s.cfg.owner = none ∨ s.cfg.owner = some p → s.cfg.busy = none →
     (swapCheck s 1 = 0 → Completes (.swapNow p) s (fun u => u.cfg.armed = some { mode := 1, instant := s.time.line + 16000 })) ∧
     (swapCheck s 2 = 0 → Completes (.swapCycle p) s (fun u => u.cfg.armed = some
       { mode := 2, instant := (s.time.line + 16000 + periodNs s - 1) / periodNs s * periodNs s })) ∧
     (swapCheck s 3 = 0 → Completes (.swapGun p) s (fun u => u.cfg.armed = some { mode := 3, instant := s.cfg.gun.toNat })) ∧
     (∀ c : Nat, swapCheck s 3 = c → c ≠ 0 → sameGun s 3 = false →
       Completes (.swapGun p) s (fun u => u.cfg.armed = s.cfg.armed ∧ u.cfg.lastRef = c))) ∧
  (∀ (p : Path) (w : Word) (s : State),
     (pathOpen s p = true → 1 < ctrlActions w → exec (.cfgCtrlMulti p w) s =
       .next (if p = .line then acting s p else post (acting s p) 0x90 7 (word 0x22))) ∧
     exec (.cfgCtrlMulti p 0x01) s = exec (.claim p) s ∧ exec (.cfgCtrlMulti p 0x02) s = exec (.release p) s ∧
     exec (.cfgCtrlMulti p 0x04) s = exec (.validate p) s ∧ exec (.cfgCtrlMulti p 0x08) s = exec (.copy p) s ∧
     exec (.cfgCtrlMulti p 0x10) s = exec (.swapNow p) s ∧ exec (.cfgCtrlMulti p 0x20) s = exec (.swapCycle p) s ∧
     exec (.cfgCtrlMulti p 0x30) s = exec (.swapGun p) s ∧ exec (.cfgCtrlMulti p 0x40) s = exec (.cancel p) s ∧
     exec (.cfgCtrlMulti p 0x80) s = exec (.commit p) s) ∧
  (∀ (p : Path) (s : State), s.cfg.owner = some p → cfgF s 1 3 0 8 ≠ 0 →
     Completes .claimLapse s (fun u => u.cfg.owner = none ∧
       u.time.line = reachLine s.time.line (s.cfg.ownerT + 100000000 * cfgF s 1 3 0 8)))

/-- Window data is read and written by the owner, and validation, copy and commit end with their results. By a path
that is served, outside MINIMAL: CFG_DATA_READ gives the addressed word of the selected set to the owner, the address
stepping with AUTOINC, and 0xFFFF to another or for a word the table does not hold; CFG_DATA_WRITE by the owner, of a
plain word of the shadow with nothing busy or armed, writes it, clears VALID and steps, and by another changes
nothing; of a word outside the table it leaves shadow and VALID. With the core running and the action not abandoned:
VALIDATE_DONE sets VALID and the S and N differences where every rule holds and staging may run, and VAL_FAIL without
VALID where it may not, or where a rule fails, table and word then naming the first failure. COPY_DONE makes the
shadow the active set, VALID where staging may run. COMMIT_DONE, its erase done, adds the entry to the store, or sets
COMMIT_ERR for a bad write or a failed one. AUTO_COMMIT_START with nothing busy, outside PWRFAIL_N, answers
commitStart. The model's own choices and readings that it rests on: logs 31, 61, 78. (09_configuration_sets.md,
20_flash.md) -/
def Obligations.WindowDataAndConfigWorkEnd : Prop :=
  (∀ (p : Path) (x : Word) (s v : State), pathOpen s p = true → s.mode.mode ≠ .minimal →
     v = windowUse (endCapture (hostAccess s p) p) p →
     (s.cfg.owner ≠ some p → Completes (.cfgDataRead p) s (fun u => u.cfg = s.cfg ∧ (p = .host → u.bus.hd = 0xFFFF)) ∧
       Completes (.cfgDataWrite p x) s (fun u => u.cfg = s.cfg)) ∧
     (s.cfg.owner = some p → wordValid s.cfg.table s.cfg.word = true →
       Completes (.cfgDataRead p) s (fun u => u.cfg.active = s.cfg.active ∧ u.cfg.shadow = s.cfg.shadow ∧
         u.cfg.word = (if s.cfg.autoinc then (s.cfg.word + 1) % 16384 else s.cfg.word) ∧
         (p = .host → u.bus.hd = tableWord v s.cfg.selShadow s.cfg.table s.cfg.word)) ∧
       (s.cfg.selShadow = true → s.cfg.busy = none → s.cfg.armed = none → isPort s.cfg.table s.cfg.word = false →
         statusWord (windowUse (acting s p) p) s.cfg.table s.cfg.word = none →
         Completes (.cfgDataWrite p x) s (fun u =>
           u.cfg.shadow = setPut s.cfg.shadow s.cfg.table s.cfg.word x ∧ u.cfg.valid = false ∧
           u.cfg.word = (if s.cfg.autoinc then (s.cfg.word + 1) % 16384 else s.cfg.word)))) ∧
     (s.cfg.owner = some p → wordValid s.cfg.table s.cfg.word = false →
       Completes (.cfgDataRead p) s (fun u => u.cfg.word = s.cfg.word ∧ (p = .host → u.bus.hd = 0xFFFF)) ∧
       Completes (.cfgDataWrite p x) s (fun u => u.cfg.shadow = s.cfg.shadow ∧ u.cfg.valid = s.cfg.valid))) ∧
  (∀ s : State, s.cfg.busy = some .validate → s.cfg.abandoned = none → coreRuns s = true →
     (firstFail s.cfg.shadow = none →
       (stagingMay s = true →
         Completes .validateDone s (fun u => u.cfg.busy = none ∧ u.cfg.valid = true ∧ u.cfg.valFail = false ∧
           u.cfg.diffS = setDiffers .s s.cfg.shadow s.cfg.active ∧ u.cfg.diffN = setDiffers .n s.cfg.shadow s.cfg.active)) ∧
       (stagingMay s = false →
         Completes .validateDone s (fun u => u.cfg.busy = none ∧ u.cfg.valid = false ∧ u.cfg.valFail = true))) ∧
     (∀ t w : Nat, firstFail s.cfg.shadow = some (t, w) →
       Completes .validateDone s (fun u => u.cfg.busy = none ∧ u.cfg.valid = false ∧ u.cfg.valFail = true ∧
         u.cfg.table = t ∧ u.cfg.word = w))) ∧
  (∀ s : State, s.cfg.busy = some .copy → s.cfg.abandoned = none → coreRuns s = true →
     (stagingMay s = true →
       Completes .copyDone s (fun u => u.cfg.busy = none ∧ u.cfg.shadow = s.cfg.active ∧ u.cfg.valid = true)) ∧
     (stagingMay s = false →
       Completes .copyDone s (fun u => u.cfg.busy = none ∧ u.cfg.shadow = s.cfg.active ∧ u.cfg.valid = false ∧
         u.cfg.valFail = true))) ∧
  (∀ (set : List WCell) (b : Bool) (s : State), s.cfg.busy = some (.commit set b) → s.cfg.abandoned = none →
     coreRuns s = true → commitErasing s = false →
     (s.flash.commitBad = false → Completes (.commitDone true) s (fun u => u.cfg.busy = none ∧
       u.cfg.store = s.cfg.store ++ [{ slot := s.flash.slot, seq := s.cfg.storeSeq + 1, format := s.cfg.format, set }])) ∧
     (s.flash.commitBad = true → Completes (.commitDone true) s (fun u => u.cfg.busy = none ∧ u.cfg.commitErr = true ∧
       u.cfg.store = s.cfg.store)) ∧
     Completes (.commitDone false) s (fun u => u.cfg.busy = none ∧ u.cfg.commitErr = true ∧ u.cfg.store = s.cfg.store)) ∧
  (∀ s : State, s.cfg.autoCommit = true → s.cfg.busy = none → coreRuns s = true → s.mode.pwrfail = false →
     exec .autoCommitStart s = .next (commitStart { s with cfg := { s.cfg with autoCommit := false } }))

/-- At its instant a swap exchanges active and shadow, or is refused with a code. SWAP_INSTANT of an armed swap
outside power-on reset: where no class-S word differs or the mode is not RUN, with the field die running, the barrier
up and no pause, it completes with active and shadow exchanged and nothing armed; in RUN with a class-S difference
with LAST_REF 3, and with the field die in reset, the barrier down or a pause with LAST_REF 8, both with nothing armed
and the sets as they were. The model's own choices and readings that it rests on: log 25. (09_configuration_sets.md)
-/
def Obligations.SwapsExchangeTheSets : Prop :=
  ∀ (a : ArmedSwap) (s : State), s.cfg.armed = some a → s.mode.porst = false →
    (s.mode.mode ≠ .run ∨ s.cfg.diffS = false → s.mode.fieldReset = false → s.supply.barrierDown = false →
      s.safe.pause = none →
      Completes .swapInstant s (fun u => u.cfg.active = s.cfg.shadow ∧ u.cfg.shadow = s.cfg.active ∧ u.cfg.armed = none)) ∧
    (s.mode.mode = .run → s.cfg.diffS = true →
      Completes .swapInstant s (fun u => u.cfg.armed = none ∧ u.cfg.lastRef = 3 ∧ u.cfg.active = s.cfg.active ∧
        u.cfg.shadow = s.cfg.shadow)) ∧
    (s.mode.mode ≠ .run ∨ s.cfg.diffS = false →
      s.mode.fieldReset = true ∨ s.supply.barrierDown = true ∨ s.safe.pause.isSome = true →
      Completes .swapInstant s (fun u => u.cfg.armed = none ∧ u.cfg.lastRef = 8 ∧ u.cfg.active = s.cfg.active ∧
        u.cfg.shadow = s.cfg.shadow))

/-- Channels: CHOUT, forces, edges, PWM periods and the end of mode-off. By a path that is served, outside MINIMAL:
CHOUT_WRITE answers writeChout behind the gates due, with CHOUT the word. With the key open, FORCE_SET, FORCE_REMOVE
and FORCE_CLEAR_ALL answer setForce and clearForces behind an apply and the gates due on the tick; a force set or
removed is that channel's force, clearing leaves no force and no jog, and a force on a digital output in RUN with no
hold makes its effective value 1 or 0. INPUT_EDGE of a digital input that is no repetition answers inputEdge at its
filtered instant, the polarity applied; in counter mode, with the edge's rate kept and the edge selected, the filtered
level turns and the count is one on. PWM_PERIOD_START takes the effective value as duty, the period and floor(duty x
PWM_PERIOD / 65,536) units of 8 ns as high time, at the period's start. MODE_OFF_END ends the interval 100 us behind
the swap with the effective value that effOf gives. The model's own choices and readings that it rests on: logs 12,
25, 72, 95. (11_field_channels.md, 08_live_registers.md) -/
def Obligations.ChannelCommandsAct : Prop :=
  (∀ (p : Path) (w : Word) (n : Nat) (level : Bool) (s v : State), pathOpen s p = true → s.mode.mode ≠ .minimal →
     exec (.choutWrite p w) s = .next (writeChout (gateFirst (acting s p)) w) ∧
     Completes (.choutWrite p w) s (fun u => u.field.chout = w) ∧
     (keyOpen (hostAccess s p) p = true → n < 16 →
       v = gateFirst (if applyDue s == s.time.line && fieldRuns s then fireApply (acting s p) else acting s p) →
       exec (.forceSet p n level) s = .next (setForce v n (some level)) ∧
       exec (.forceRemove p n) s = .next (setForce v n none) ∧
       exec (.forceClearAll p) s = .next (refresh (clearForces (endJog v true))))) ∧
  (∀ (n k : Nat) (level : Bool) (f : Option Bool) (v : State), n < v.field.chans.length →
     (chan (setForce v n f) n).force = f ∧
     (k < v.field.chans.length → (chan (refresh (clearForces (endJog v true))) k).force = none ∧
       (chan (refresh (clearForces (endJog v true))) k).jog = none) ∧
     (chMode v n = 5 → v.mode.mode = .run → v.mode.fieldReset = false → v.mode.coreHold = false → v.safe.hold = false →
       (chan v n).modeOff = false → (chan (setForce v n (some level)) n).eff = if level then 1 else 0)) ∧
  (∀ (n t : Nat) (both : Bool) (s v : State), fieldRuns s = true → isDigitalIn (chMode s n) = true →
     (chan s n).modeOff = false → v = s.reach (t + filterNs (cfgF s 4 (16 * n + 1) 0 4)) →
     exec (.inputEdge n ((!(chan s n).filt) != cfgB s 4 (16 * n) 6) both t) s =
       .next (inputEdge v n (t - 600) (!(chan s n).filt) both) ∧
     (n < s.field.chans.length → chMode s n = 3 → edgeFits v n = true →
       cntSelects (cfgF s 4 (16 * n + 1) 6 2) (!(chan s n).filt) = true →
       Completes (.inputEdge n ((!(chan s n).filt) != cfgB s 4 (16 * n) 6) both t) s (fun u =>
         (chan u n).filt = (!(chan s n).filt) ∧ (chan u n).cnt = (chan s n).cnt + 1))) ∧
  (∀ (n : Nat) (s : State), fieldRuns s = true → isPwm s n = true → pwmPeriod s n ≠ 0 → n < s.field.chans.length →
     Completes (.pwmPeriodStart n) s (fun u => (chan u n).pwm = (chan s n).eff ∧ (chan u n).pwmT = pwmStart s n ∧
       (chan u n).pwmPer = 8 * pwmPeriod s n ∧ (chan u n).pwmHigh = (chan s n).eff.toNat * pwmPeriod s n / 65536 * 8 ∧
       u.time.line = reachLine s.time.line (pwmStart s n))) ∧
  (∀ (n : Nat) (s : State), (chan s n).modeOff = true → n < s.field.chans.length →
     Completes (.modeOffEnd n) s (fun u => (chan u n).modeOff = false ∧
       u.time.line = reachLine s.time.line (s.cfg.lastSwapT + 100000) ∧
       (chan u n).eff = effOf u n (chan u n)))

/-- Start-list events are issued and gated at their times, and the port words load, cancel, read, select and clear.
With the field die running and an event pending: SL_ISSUE marks it issued 1 us before its gate time; SL_GATE at the
gate's time answers the gates of all the channel's events of that time, behind a swap due and, where the apply falls
on that tick, the apply; a gated event gives its value to the locally owned or the cyclic level of a channel other
than an analogue output and is gone. By the window's owner, on a path that is served, outside MINIMAL, with nothing
busy or armed: SL_LOAD, SL_CANCEL, SL_READ, PF_SEL_WRITE and REPL_CLR (in SETUP or SAFE) answer their operations, by
the line at once, by the other paths where the window addresses their port word, which then steps. With 16 channels: a
load shows its result code and, with code 0, inserts the event; a cancel of a pending event not issued, die and
barrier up, drops it with code 0, of an issued one answers code 8, of none code 7; a read gives the event's time and
value, or code 7. The model's own choices and readings that it rests on: logs 25, 79, 95. (11_field_channels.md,
09_configuration_sets.md, 21_health_trace_injection.md) -/
def Obligations.StartListsAndPortWordsAct : Prop :=
  (∀ (n slot g : Nat) (e : SlEvent) (s v : State), fieldRuns s = true → slEvent (chan s n) slot = some e →
     g = gateTime s n e →
     (n < s.field.chans.length → Completes (.slIssue n slot) s (fun u =>
       (chan u n).sl = slInsert (slDrop (chan s n) slot).sl { e with issued := true } ∧
       u.time.line = reachLine s.time.line (g - 1000))) ∧
     (v = swapFirst (s.reach (gateFrom s n g)) → applyDue v ≠ g →
       exec (.slGate n slot) s = .next (refresh (slGateAll v n ((chan v n).sl.filter (fun x => gateTime v n x == g))))) ∧
     (v = applyIfDue (swapFirst (s.reach (gateFrom s n g))) → applyDue (swapFirst (s.reach (gateFrom s n g))) = g →
       exec (.slGate n slot) s = .next (refresh (slGateAll v n ((chan v n).sl.filter (fun x => gateTime v n x == g)))))) ∧
  (∀ (n : Nat) (e : SlEvent) (v : State), n < v.field.chans.length →
     (isLocal v n = true → chMode v n ≠ 10 → (chan (slGateOne v n e) n).loc = e.val ∧
       slEvent (chan (slGateOne v n e) n) e.slot = none) ∧
     (isLocal v n = false → chMode v n ≠ 10 → (chan (slGateOne v n e) n).cyc = e.val ∧
       slEvent (chan (slGateOne v n e) n) e.slot = none)) ∧
  (∀ (p : Path) (w : Word) (s v : State), pathOpen s p = true → s.mode.mode ≠ .minimal → s.cfg.owner = some p →
     s.cfg.busy = none → s.cfg.armed = none → v = windowUse (if p = .line then s else acting s p) p →
     (p = .line →
       exec (.slLoad p) s = .next (slLoad v) ∧ exec (.slCancel p) s = .next (slCancel v) ∧
       exec (.slRead p) s = .next (slRead v) ∧ exec (.pfSelWrite p w) s = .next (pfSelect v w) ∧
       (s.mode.mode = .setup ∨ s.mode.mode = .safe → exec (.replClr p w) s = .next (replClr v w))) ∧
     (p ≠ .line → s.cfg.selShadow = true → s.cfg.table = 4 → s.cfg.word = 0x29E →
       exec (.slLoad p) s = .next (stepWord (slLoad v)) ∧ exec (.slCancel p) s = .next (stepWord (slCancel v)) ∧
       exec (.slRead p) s = .next (stepWord (slRead v))) ∧
     (p ≠ .line → s.cfg.selShadow = true → s.cfg.table = 4 → s.cfg.word = 0x290 →
       exec (.pfSelWrite p w) s = .next (stepWord (pfSelect v w))) ∧
     (p ≠ .line → s.cfg.selShadow = true → s.cfg.table = 0xE → s.cfg.word = 0xC0 →
       s.mode.mode = .setup ∨ s.mode.mode = .safe → exec (.replClr p w) s = .next (stepWord (replClr v w)))) ∧
  (∀ (n k r : Nat) (e : SlEvent) (v : State), n = bitsOf v.field.slSel 0 4 → k = bitsOf v.field.slSel 4 4 →
     v.field.chans.length = 16 →
     (r = slLoadCheck v n k v.field.slT.toNat v.field.slVal →
       (slLoad v).field.slCmd = pack [(1, 0), (1, 3), (r, 4)] ∧
       (r = 0 → (chan (slLoad v) n).sl =
         slInsert (chan v n).sl { slot := k, time := v.field.slT.toNat, val := v.field.slVal, issued := false }) ∧
       (r ≠ 0 → (slLoad v).field.chans = v.field.chans)) ∧
     (isOutput (chMode v n) = true → slEvent (chan v n) k = some e →
       (slIssued v n e = true → (slCancel v).field.slCmd = pack [(2, 0), (1, 3), (8, 4)] ∧
         (slCancel v).field.chans = v.field.chans) ∧
       (slIssued v n e = false → v.mode.fieldReset = false → v.supply.barrierDown = false →
         (slCancel v).field.slCmd = pack [(2, 0), (1, 3), (0, 4)] ∧ slEvent (chan (slCancel v) n) k = none) ∧
       (v.mode.fieldReset = false → v.supply.barrierDown = false →
         (slRead v).field.slT = BitVec.ofNat 64 e.time ∧ (slRead v).field.slVal = e.val)) ∧
     (isOutput (chMode v n) = true → slEvent (chan v n) k = none →
       (slCancel v).field.slCmd = pack [(2, 0), (1, 3), (7, 4)] ∧
       (slRead v).field.slCmd = pack [(3, 0), (1, 3), (7, 4)]))

/-- Each ADC_CMD code does its own work, ADC_FIFO hands out its oldest word, and a queued capture starts or is
refused. By a path that is served, outside MINIMAL: REG_START and REG_STOP answer regStart and regStop, so that a
sequence with entries runs, the field die up, and a running one stops; INJ_TRIG answers injTrigger, or sets CMD_REF
where no entry is injected; FIFO_CLR empties the FIFO. With the core running: CAL_ZERO and CAL_FULL answer calStart,
and in SETUP or SAFE for a running entry that can be calibrated begin a step of 16 samples (FULL after the entry's
ZERO); CAL_ABORT of the entry under calibration ends step and zero; DAC_TEST with none running begins with the outputs
to test. ADC_FIFO_READ gives and takes the oldest word, or 0 from an empty FIFO. An accepted ADC_CAPT descriptor with
valid arguments starts its capture where captCheck is 0 and completes in error with its code otherwise. The model's
own choices and readings that it rests on: logs 73, 84, 97. (13_measurement.md, 08_live_registers.md) -/
def Obligations.ConverterCommandsAct : Prop :=
  (∀ (p : Path) (e : Nat) (s w : State), pathOpen s p = true → s.mode.mode ≠ .minimal → e < 16 →
     w = wake (acting s p) 4 →
     (exec (.regStart p) s = .next (regStart (acting s p)) ∧ exec (.regStop p) s = .next (regStop (acting s p)) ∧
       (injLen s ≠ 0 → s.mode.fieldReset = false → exec (.injTrig p) s = .next (injTrigger (acting s p))) ∧
       (injLen s = 0 → Completes (.injTrig p) s (fun u => u.adc = { s.adc with cmdRef := true })) ∧
       Completes (.fifoClr p) s (fun u => u.adc = { s.adc with fifo := [] })) ∧
     (s.mode.fieldReset = false → regLen s ≠ 0 → Completes (.regStart p) s (fun u => u.adc.running = true)) ∧
     (s.adc.running = true → Completes (.regStop p) s (fun u => u.adc.running = false ∧ u.adc.inRound = false)) ∧
     (s.mode.coreReset = false →
       exec (.calZero p e) s = .next (calStart w false e) ∧ exec (.calFull p e) s = .next (calStart w true e) ∧
       exec (.calAbort p e) s = .next (calAbort w e) ∧ exec (.dacTest p) s = .next (dacStart w) ∧
       (s.mode.mode = .setup ∨ s.mode.mode = .safe → e < regLen s → (calKind s (entF s e 0 6)).isSome = true →
         s.adc.running = true →
         Completes (.calZero p e) s (fun u => u.adc.calZero = none ∧
           u.adc.calStep = some { entry := e, full := false, sum := 0, n := 0, startT := s.time.line }) ∧
         (∀ x : Int, s.adc.calZero = some (e, x) → Completes (.calFull p e) s (fun u => u.adc.calZero = some (e, x) ∧
           u.adc.calStep = some { entry := e, full := true, sum := 0, n := 0, startT := s.time.line }))) ∧
       (s.adc.calStep.map (fun c => c.entry) = some e →
         Completes (.calAbort p e) s (fun u => u.adc.calStep = none ∧ u.adc.calZero = none)) ∧
       (s.adc.dac = none → dacEntries s ≠ [] → Completes (.dacTest p) s (fun u =>
         u.adc.dac = some { step := 0, todo := dacEntries s, settleT := s.time.line + 4000 })))) ∧
  (∀ (p : Path) (x : Word) (r : List Word) (s : State), pathOpen s p = true → s.mode.mode ≠ .minimal →
     (s.adc.fifo = x :: r →
       Completes (.adcFifoRead p) s (fun u => (p = .host → u.bus.hd = x) ∧ u.adc = { s.adc with fifo := r })) ∧
     (s.adc.fifo = [] → Completes (.adcFifoRead p) s (fun u => (p = .host → u.bus.hd = 0) ∧ u.adc = s.adc))) ∧
  (∀ (p : Path) (d : Descriptor) (start : Nat) (s w : State), Accepted s p { d with code := 0x10 } →
     w = wake (posted s p { d with code := 0x10 }) 6 → s.mode.coreReset = false → d.sub ≤ 15 → d.arg0 ≤ 2 → d.arg1 ≠ 0 →
     d.arg1 ≤ 32768 → start = (if d.len0 = 0 then 0 else memNat w (apertureBase + d.off0) 8) →
     (captCheck w d.sub d.arg0 = 0 → Completes (.adcCapt (.queue p d)) s (fun u => u.adc.captured = 0 ∧
       u.adc.capture = some { entry := d.sub, kind := d.arg0, want := d.arg1, got := 0, start, firstT := none,
                              for_ := .queue p { d with code := 0x10 } })) ∧
     (captCheck w d.sub d.arg0 ≠ 0 → exec (.adcCapt (.queue p d)) s =
       .next (complete w p { d with code := 0x10 } outError (captCheck w d.sub d.arg0))))

/-- The converters' own events: rounds, conversions, readbacks, injections, captures, calibration, the DAC test, flash
programs. ROUND_START of a running sequence with a period, field die up, begins the round of its instant where the
converters are idle, and counts it late where not. CONVERSION_END 375 ns behind its sample answers the result of the
long burst, of the injected entry, of the phase's entry or of the burst, whichever runs. AO_READBACK_SAMPLE of an
analogue output takes the sensed word. INJ_TIME_TRIGGER at its time answers injTrigger. LONG_BURST_START of a capture
of kind 2 starts it; CAPTURE_DONE of a full one completes its command or ends its transaction, its first time stored
where asked. CAL_TIMEOUT ends a step that got no sample at 10 s with cause 9. CAL_STEP_DONE of a full zero step keeps
the zero within its limit and refuses it beyond with cause 4; a full step without a pair is refused with cause 6, and
with one answers calProgram. DAC_TEST_DONE ends the test and counts it. FLASH_PROGRAM_DONE of the running program
writes its data, retires its sector where it was slow, and where it failed leaves the free value of a bad unit, then
answers its owner's end. The raw sample comes as an operand and the factory trim is opaque (log 69). The model's own
choices and readings that it rests on: logs 3, 25, 69, 73, 74, 82. (13_measurement.md, 20_flash.md,
11_field_channels.md, 05_tagged_transactions.md) -/
def Obligations.ConverterEventsAct : Prop :=
  (∀ (t per : Nat) (s v : State), s.adc.running = true → per = 4 * cfgF s 7 1 0 32 → per ≠ 0 → s.mode.fieldReset = false →
     s.mode.porst = false → t = (s.time.line + per - 1) / per * per →
     v = s.reach (if s.adc.roundT = some t then t + per else t) →
     (adcIdle s = true →
       exec .roundStart s = .next (beginRound { v with adc := { s.adc with roundT := some v.time.line } })) ∧
     (adcIdle s = false → Completes .roundStart s (fun u => u.adc.delayed = true ∧ u.adc.roundLate = sat16 s.adc.roundLate ∧
       u.adc.roundT = some v.time.line))) ∧
  (∀ (b : Bool) (x : Int) (e t : Nat) (r : List Nat) (s v : State), s.mode.fieldReset = false → s.mode.porst = false →
     v = s.reach (t + 375) →
     (s.adc.longBurst = true → exec (.conversionEnd b x t) s = .next (longResult v b x t)) ∧
     (s.adc.longBurst = false → injHolds v b (t + 375) = true → (if b then s.adc.injB else s.adc.injA) = e :: r →
       exec (.conversionEnd b x t) s = .next (injResult v b e x t)) ∧
     (s.adc.longBurst = false → s.adc.injBusy = false → (if b then s.adc.phaseB else s.adc.phaseA) = e :: r →
       exec (.conversionEnd b x t) s = .next (phaseResult v b e x t)) ∧
     (s.adc.longBurst = false → s.adc.injBusy = false → s.adc.phaseA = [] → s.adc.phaseB = [] → s.adc.bursts = e :: r →
       exec (.conversionEnd b x t) s = .next (burstResult v b e x t))) ∧
  (∀ (n t : Nat) (w : Word) (s : State),
     (s.mode.fieldReset = false → s.mode.porst = false → chMode s n = 10 → n < s.field.chans.length →
       Completes (.aoReadbackSample n w) s (fun u => (chan u n).sensed = w)) ∧
     (injTimed s = true → injDue s = some t → exec .injTimeTrigger s =
       .next (injTrigger { s.reach t with adc := { s.adc with injNext := s.adc.injNext + 1 } }))) ∧
  (∀ (c : Capture) (s v : State), s.adc.capture = some c →
     v = { s with adc := { s.adc with capture := none, captured := c.got } } →
     (c.kind = 2 → adcIdle s = true → c.got < c.want → c.start + 4 ≤ 2 ^ 64 →
       Completes .longBurstStart s (fun u => u.adc.longBurst = true)) ∧
     (∀ (p : Path) (d : Descriptor), c.want ≤ c.got → c.for_ = .queue p d →
       exec .captureDone s = .next (complete (if srcAlive v (.queue p d) && d.len1 == 8 then
         v.store (apertureBase + d.off1) (leBytes 8 (c.firstT.getD 0)) else v) p d 0 c.got)) ∧
     (∀ id : Nat, c.want ≤ c.got → c.for_ = .line id →
       exec .captureDone s = .next (endTxn v id 0 (leBytes 2 c.got ++ [0, 0] ++ leBytes 8 (c.firstT.getD 0)) true))) ∧
  (∀ (c : CalStep) (s : State), s.adc.calStep = some c → coreRuns s = true →
     (c.n = 0 → Completes .calTimeout s (fun u => u.adc.calStep = none ∧ u.adc.calRef = true ∧ u.adc.calCause = 9 ∧
       u.time.line = reachLine s.time.line (c.startT + 10000000000))) ∧
     (c.n = 16 → s.flash.progQ.any (fun p => p.owner = .cal) = false →
       (s.flash.prog.map (fun p => decide (p.owner = .cal))).getD false = false →
       (∀ k : Nat, c.full = false → calKind s (entF s c.entry 0 6) = some k →
         ((c.sum.natAbs : Int) ≤ 16 * (calTarget k).2 → Completes .calStepDone s (fun u => u.adc.calStep = none ∧
           u.adc.calZero = some (c.entry, c.sum))) ∧
         (16 * (calTarget k).2 < (c.sum.natAbs : Int) → Completes .calStepDone s (fun u => u.adc.calStep = none ∧
           u.adc.calZero = s.adc.calZero ∧ u.adc.calRef = true ∧ u.adc.calCause = 4))) ∧
       (c.full = true → calNewPair s c = none → Completes .calStepDone s (fun u => u.adc.calStep = none ∧
         u.adc.calRef = true ∧ u.adc.calCause = 6)) ∧
       (∀ k : CalPair, c.full = true → calNewPair s c = some k → exec .calStepDone s = .next (calProgram s k)))) ∧
  (∀ (d : DacRun) (s : State), s.adc.dac = some d → d.step = 3 → d.todo = [] →
     Completes .dacTestDone s (fun u => u.adc.dac = none ∧ u.adc.dacDone = (s.adc.dacDone + 1) % 256)) ∧
  (∀ (p : Program) (s v x : State), (flashRun s).flash.prog = some p →
     v = { flashRun s with flash := { (flashRun s).flash with prog := none } } → x = v.flashWrite p.addr p.data →
     (p.owner ≠ .cal →
       exec (.flashProgramDone 0) s = .next (flashRun (programDone x p)) ∧
       exec (.flashProgramDone 1) s = .next (flashRun (programDone (retire x (sectorOf p.addr) 1) p)) ∧
       exec (.flashProgramDone 2) s = .next (flashRun (programFailed
         (retire (State.flashWrite { v with free := v.free + 1 } p.addr (badUnit v.free)) (sectorOf p.addr) 1) p))) ∧
     (p.owner = .cal →
       exec (.flashProgramDone 0) s = .next (flashRun (calWritten x true)) ∧
       exec (.flashProgramDone 1) s = .next (flashRun (calWritten (retire x (sectorOf p.addr) 1) true)) ∧
       exec (.flashProgramDone 2) s = .next (flashRun (calWritten
         (retire (State.flashWrite { v with free := v.free + 1 } p.addr (badUnit v.free)) (sectorOf p.addr) 1) false))))

/-- Slave port frames: a good request runs and forms its reply, a bad one is ignored, a short one is aborted. With the
slave port served, a request row of the frame's own opcode answers slaveFrame; unserved, each answers the same state.
With no injection armed: a request that runs reads or writes its registers and forms the reply with its words; a NOP's
reply, last request number and flags are stated in full; a repetition answers the kept reply. An ignored frame sets
its flag with no reply and the last number kept; an aborted one sets flag 2 or 3 (bad header: 2) with no reply. Extra
bytes and SP_EN cleared by the request take effect behind it (log 30). The model's own choices and readings that it
rests on: logs 23, 30, 66. (14_serial_ports.md) -/
def Obligations.SlavePortFramesAct : Prop :=
  (∀ (b : List Byte) (s : State),
     (pathOpen s .slave = true → reqOp b = 1 → exec (.slaveRead b) s = .next (slaveFrame s b)) ∧
     (pathOpen s .slave = true → reqOp b = 2 → exec (.slaveWrite b) s = .next (slaveFrame s b)) ∧
     (pathOpen s .slave = true → reqOp b = 3 → exec (.slaveNop b) s = .next (slaveFrame s b)) ∧
     (pathOpen s .slave = false → exec (.slaveRead b) s = .next s ∧ exec (.slaveWrite b) s = .next s ∧
       exec (.slaveNop b) s = .next s ∧ exec (.slaveFrameIgnored b) s = .next s)) ∧
  (∀ (b : List Byte) (rs : Bool) (s : State), pathOpen s .slave = true → s.inj.armed = none →
     (slaveJudge s b = .run rs →
       (reqOp b = 1 → exec (.slaveRead b) s = .next (slaveEnd (slaveExtra (slaveReply (slaveReads s (reqAddrs b)).1 b rs
         (wordsToBytes (slaveReads s (reqAddrs b)).2)) b))) ∧
       (reqOp b = 2 → exec (.slaveWrite b) s = .next (slaveEnd (slaveExtra (slaveReply
         (slaveWrites s ((reqAddrs b).zip (bytesToWords ((b.drop 4).take (byteAt b 3))))) b rs []) b))) ∧
       (reqOp b = 3 → s.ser.spOffDue = false → Completes (.slaveNop b) s (fun u => u.ser.lap = some (byteAt b 1) ∧
         u.ser.flags = (if reqLen b < b.length then 4 else 0) ∧
         u.ser.reply = replyBytes 0 (replyFlags s rs) (byteAt b 1) []))) ∧
     (slaveJudge s b = .replay → (reqOp b = 1 → exec (.slaveRead b) s = .next (slaveExtra (slaveReplay s) b)) ∧
       (reqOp b = 2 → exec (.slaveWrite b) s = .next (slaveExtra (slaveReplay s) b)) ∧
       (reqOp b = 3 → exec (.slaveNop b) s = .next (slaveExtra (slaveReplay s) b)))) ∧
  (∀ (b : List Byte) (bit : Nat) (mid : Bool) (s : State), pathOpen s .slave = true →
     (s.inj.armed = none → slaveJudge s b = .ignored bit →
       Completes (.slaveFrameIgnored b) s (fun u => u.ser.flags = s.ser.flags ||| 2 ^ bit ∧
         u.ser.reply = [] ∧ u.ser.lap = s.ser.lap)) ∧
     (b.length < reqLen b → b.length < 4 ∨ badHeader b = false →
       Completes (.slaveFrameAbort b mid) s (fun u => u.ser.flags = s.ser.flags ||| 2 ^ (if mid then 3 else 2) ∧
         u.ser.reply = [])) ∧
     (4 ≤ b.length → badHeader b = true →
       Completes (.slaveFrameAbort b mid) s (fun u => u.ser.flags = s.ser.flags ||| 4 ∧ u.ser.reply = [])))

/-- The serial master: transfers end, time out or lose their strobe, lines are prefetched, erases polled, queued
transfers begin. Of a running job that is not the medium's: CSP_TRANSFER_END answers jobDone and the next job;
READY_TIMEOUT of a code with READY answers the cut with 0x0101, of another nothing; DQS_TIMEOUT of an x8 job that
reads answers the cut with 0x0102, of another nothing. A cut transfer fails with its detail and the next job runs; a
cut demand that has read past the host's word gives that word. PREFETCH_START behind a demand, of a code that
prefetches, inside the device, its line not held and nothing waiting or running, starts that prefetch, and otherwise
lapses. ERASE_POLL of a tracked erase adds a poll where none waits or runs; ERASE_TRACK_LIMIT ends the tracking at 200
ms with that code's limit flag. An accepted CSP_XFER descriptor is posted, or refused with 0x0910 or 0x0922 as
xferCheck says. That the head goes out as the job starts, and the bytes read so far, are log 102. The model's own
choices and readings that it rests on: logs 25, 62, 82, 102. (14_serial_ports.md, 07_host_bus.md) -/
def Obligations.MasterPortEventsAct : Prop :=
  (∀ (j : SerJob) (read : List Byte) (sent : Nat) (s : State), s.ser.running = some j → j ≠ .medium →
     exec (.cspTransferEnd read) s = .next (serRun (jobDone s j read)) ∧
     (csel s j.code 0 4 1 ≠ 0 →
       exec (.readyTimeout sent read) s = .next (jobCut (headCut (countReadyTo s j.code) j sent) read 0x0101)) ∧
     (csel s j.code 0 4 1 = 0 → exec (.readyTimeout sent read) s = .next s) ∧
     (j.mode s = 3 → j.reads = true → exec (.dqsTimeout read) s = .next (jobCut s read 0x0102)) ∧
     (j.mode s ≠ 3 ∨ j.reads = false → exec (.dqsTimeout read) s = .next s)) ∧
  (∀ (c m n detail : Nat) (cmd w read : List Byte) (f : Requester) (s : State),
     (s.ser.running = some (.xfer c m cmd w n f) →
       jobCut s read detail = serRun (jobFail s (.xfer c m cmd w n f) detail)) ∧
     (∀ o : Nat, s.ser.running = some (.demand c m (some o)) → o + 2 ≤ read.length → s.ser.hostGone = false →
       s.ser.hostRead ≠ none → (hostWord s read).bus.hd = lineWord read o ∧ (hostWord s read).ser.hostRead = none)) ∧
  (∀ (l c : Nat) (s : State), s.ser.prefDue = some l → c = s.bus.xipSel →
     (csel s c 0 6 1 = 1 → deviceClass s c = false →
       s.bus.xipEn = true → l + 64 < 2 ^ csel s c 0 11 5 → s.ser.lines.any (fun x => x.1 == l + 64) = false →
       s.ser.waiting = [] → s.ser.running = none →
       Completes .prefetchStart s (fun u => u.ser.running = some (.prefetch c (l + 64)) ∧ u.ser.prefDue = none)) ∧
     (csel s c 0 6 1 = 0 ∨ deviceClass s c = true ∨ s.bus.xipEn = false ∨ s.ser.waiting ≠ [] ∨ s.ser.running ≠ none →
       Completes .prefetchStart s (fun u => u.ser = { s.ser with prefDue := none }))) ∧
  (∀ (c : Nat) (s : State), s.ser.erase = some c →
     (s.ser.waiting.any (fun j => j.rank == 5) = false → s.ser.running.map SerJob.rank ≠ some 5 →
       exec .erasePoll s = .next (serAdd s (.poll c))) ∧
     exec .eraseTrackLimit s = .next (eraseDone (s.reach (s.ser.eraseT + 200000000)) true) ∧
     (s.ser.hostRead = none → Completes .eraseTrackLimit s (fun u => u.ser.erase = none ∧
       u.ser.eraseLimit = setAt s.ser.eraseLimit c true))) ∧
  (∀ (p : Path) (d : Descriptor) (s q : State), Accepted s p { d with code := 0x11 } →
     q = posted s p { d with code := 0x11 } →
     (xferCheck q d.sub d.arg0 (d.arg1 % 16) (d.len0 - d.arg1 % 16) d.len1 = 0 →
       exec (.cspXfer (.queue p d)) s = .next (xferPost q d.sub d.arg0
         ((memBytes q.mem (apertureBase + d.off0) d.len0).take (d.arg1 % 16))
         ((memBytes q.mem (apertureBase + d.off0) d.len0).drop (d.arg1 % 16)) d.len1 (.queue p { d with code := 0x11 }))) ∧
     (xferCheck q d.sub d.arg0 (d.arg1 % 16) (d.len0 - d.arg1 % 16) d.len1 = 1 →
       exec (.cspXfer (.queue p d)) s = .next (complete q p { d with code := 0x11 } outRefused 0x0910)) ∧
     (xferCheck q d.sub d.arg0 (d.arg1 % 16) (d.len0 - d.arg1 % 16) d.len1 = 2 →
       exec (.cspXfer (.queue p d)) s = .next (complete q p { d with code := 0x11 } outRefused 0x0922)))

/-- A flash erase ends verified, slow, aborted or cut off, a suspended one resumes, and a queued FLASH_READ reads. Of
a running erase: FLASH_ERASE_END, not suspended, answers its end, slow above 60 ms of active time, and suspended
nothing; FLASH_ERASE_ABORT ends it at 200 ms as aborted; ERASE_CUTOFF in PWRFAIL_N ends it at 20 ms as cut off;
ERASE_RESUME resumes a suspended one 2 us behind the last access or 20 us behind the suspension, whichever is first,
with the suspended time added and no new suspension for 20 us. Each end leaves no erase running, and one that is
verified or slow every byte of its sector 0xFF. An accepted FLASH_READ descriptor in range with the core running
stores the bytes and completes with their count, and out of range is refused with 0x0922. Bytes whose content the spec
does not give are free values (log 31). The model's own choices and readings that it rests on: logs 3, 25, 31, 33, 74.
(20_flash.md, 07_host_bus.md) -/
def Obligations.FlashErasesEnd : Prop :=
  (∀ (e : EraseRun) (t : Nat) (s : State), s.flash.erase = some e →
     (e.susp = none → exec (.flashEraseEnd t) s =
       .next (flashRun (eraseEnd (s.reach t) e (if 60000000 < activeNs (s.reach t) e then 1 else 0)))) ∧
     (e.susp ≠ none → exec (.flashEraseEnd t) s = .next s) ∧
     exec .flashEraseAbort s = .next (flashRun (eraseEnd (s.reach (e.startT + 200000000)) e 2)) ∧
     (s.mode.pwrfail = true →
       exec .eraseCutoff s = .next (flashRun (eraseEnd (s.reach (s.mode.pwrT + 20000000)) e 3))) ∧
     (∀ u v : Nat, e.susp = some u → v = reachLine s.time.line (Nat.min (e.lastAcc + 2000) (u + 20000)) →
       exec .eraseResume s = .next (flashRun { s.reach (Nat.min (e.lastAcc + 2000) (u + 20000)) with
         flash := { s.flash with
           erase := some { e with susp := none, suspNs := e.suspNs + (v - u), noSusp := v + 20000 } } }))) ∧
  (∀ (e : EraseRun) (st : Nat) (v : State), (eraseEnd v e st).flash.erase = none ∧
     (st < 2 → ∀ a : Nat, a / 4096 = e.sector → flashCell (eraseEnd v e st) a = 0xFF)) ∧
  (∀ (p : Path) (d : Descriptor) (s w : State), Accepted s p { d with code := 0x12 } →
     w = wake (posted s p { d with code := 0x12 }) 6 →
     (s.mode.coreReset = false → flashRangeOk (d.arg0 + 65536 * d.arg1) d.len1 = true →
       exec (.flashRead (.queue p d)) s =
         .next (complete ((flashRead w (d.arg0 + 65536 * d.arg1) d.len1).1.store (apertureBase + d.off1)
           (flashRead w (d.arg0 + 65536 * d.arg1) d.len1).2) p { d with code := 0x12 } 0 d.len1)) ∧
     (flashRangeOk (d.arg0 + 65536 * d.arg1) d.len1 = false → exec (.flashRead (.queue p d)) s =
       .next (complete (posted s p { d with code := 0x12 }) p { d with code := 0x12 } outRefused 0x0922)))

/-- The TAP instructions act on cells and pins, and the owner key is provisioned once. EXTEST, HIGHZ and CLAMP take
effect in BENCH and select BYPASS in another role, where OTP_OWNER does too and leaves the keys; EXTEST and
SAMPLE_PRELOAD take the cells and capture the levels at the balls. BYPASS and TAP_RESET select BYPASS only. OTP_OWNER
in BENCH captures its status; with a key already held or being programmed it is refused and the key stays; with none
it takes the 32 bytes where their CRC-32C agrees and is refused where it does not. OTP_PROGRAM_DONE makes the key the
owner key. The model's own choices and readings that it rests on: logs 44, 45. (22_balls_supplies.md, 19_security.md)
-/
def Obligations.BoundaryScanActs : Prop :=
  (∀ (l c : BitVec 182) (s : State),
     (s.mode.role = .bench →
       Completes (.extest l c) s (fun u => u.tap.ins = .extest ∧ u.tap.cells = c ∧
         u.tap.captured = captureCells (setTapIns s .extest) l) ∧
       Completes .highz s (fun u => u.tap.ins = .highz) ∧ Completes .clamp s (fun u => u.tap.ins = .clamp)) ∧
     (s.mode.role ≠ .bench →
       Completes (.extest l c) s (fun u => u.tap = { s.tap with ins := .bypass }) ∧
       Completes .highz s (fun u => u.tap.ins = .bypass) ∧ Completes .clamp s (fun u => u.tap.ins = .bypass) ∧
       (∀ data : BitVec 288, Completes (.otpOwner data) s (fun u => u.tap.ins = .bypass ∧ u.sec = s.sec))) ∧
     Completes (.samplePreload l c) s (fun u => u.tap.ins = .sample ∧ u.tap.cells = c ∧
       u.tap.captured = captureCells (setTapIns s .sample) l) ∧
     Completes .bypass s (fun u => u.tap = { s.tap with ins := .bypass }) ∧
     Completes .tapReset s (fun u => u.tap = { s.tap with ins := .bypass })) ∧
  (∀ (data : BitVec 288) (s : State), s.mode.role = .bench → s.sec.owk ≠ none ∨ s.sec.otpKey ≠ none →
     Completes (.otpOwner data) s (fun u => u.sec = { s.sec with otpRefused := true } ∧ u.sec.otpKey = s.sec.otpKey ∧
       u.tap.otp = otpCapture s)) ∧
  (∀ (data : BitVec 288) (s : State), s.mode.role = .bench → s.sec.owk = none → s.sec.otpKey = none →
     (crc32c (numBytes data.toNat 0 32) = data.toNat / 2 ^ 256 → Completes (.otpOwner data) s (fun u =>
       u.sec.otpKey = some (numBytes data.toNat 0 32) ∧ u.sec.otpRefused = false ∧ u.tap.otp = otpCapture s)) ∧
     (crc32c (numBytes data.toNat 0 32) ≠ data.toNat / 2 ^ 256 → Completes (.otpOwner data) s (fun u =>
       u.sec.otpKey = none ∧ u.sec.otpRefused = true ∧ u.tap.otp = otpCapture s))) ∧
  (∀ (k : List Byte) (s : State), s.sec.otpKey = some k →
     Completes .otpProgramDone s (fun u => u.sec.owk = some k ∧ u.sec.owkFresh = true ∧ u.sec.otpKey = none))

/-- The operator panel: key presses, releases and repeats, and encoder transitions. While the panel scans: KEY_PRESS
of a released key of the 48 with the hold-over mark only marks it; without, to the host it queues the press (dropping
it with OVF where more than 23 wait) and arms the repeat, to the menu it is the menu's press. KEY_RELEASE to the host
queues the release of a key not held over, of a held-over one clears the mark, and of the jog key ends a jog.
KEY_REPEAT at its due time queues the repeat to the host, or steps the menu's value for the + key. ENC_TRANSITION to
the same phase does nothing, to the opposite phase counts an error and clears the part-count, else adds a step by the
configured sense, and at the configured steps per detent counts a detent; what encSet and encCount change of each
encoder is stated. Menu behaviour the spec leaves open is log 16. The model's own choices and readings that it rests
on: logs 16, 25. (15_service_panel.md) -/
def Obligations.PanelCommandsAct : Prop :=
  (∀ (k : Nat) (s v : State), scans s = true → k < 48 → keyBit s.panel.keys k = false →
     v = armRepeat { s with panel := { s.panel with keys := putKey s.panel.keys k true } } k →
     Completes (.keyPress k true) s (fun u => u.panel.keys = putKey s.panel.keys k true ∧
       u.panel.heldOver = putKey s.panel.heldOver k true ∧ u.panel.queue = s.panel.queue) ∧
     (s.panel.host = true →
       (s.panel.queue.length ≤ 23 → Completes (.keyPress k false) s (fun u => u.panel.keys = putKey s.panel.keys k true ∧
         u.panel.repKey = some k ∧ u.panel.queue = s.panel.queue ++ [(1, (k : Int))])) ∧
       (23 < s.panel.queue.length → Completes (.keyPress k false) s (fun u => u.panel.keys = putKey s.panel.keys k true ∧
         u.panel.queue = s.panel.queue ∧ u.panel.ovf = true))) ∧
     (s.panel.host = false → exec (.keyPress k false) s = .next (menuEvent v true (fun x => menuPress x k)))) ∧
  (∀ (k : Nat) (s : State), scans s = true → k < 48 → keyBit s.panel.keys k = true →
     (s.panel.host = true → keyBit s.panel.heldOver k = false → s.panel.queue.length ≤ 31 →
       Completes (.keyRelease k) s (fun u => u.panel.keys = putKey s.panel.keys k false ∧
         u.panel.queue = s.panel.queue ++ [(3, (k : Int))])) ∧
     (keyBit s.panel.heldOver k = true →
       Completes (.keyRelease k) s (fun u => u.panel.keys = putKey s.panel.keys k false ∧
         u.panel.heldOver = putKey s.panel.heldOver k false ∧ u.panel.queue = s.panel.queue)) ∧
     (s.panel.jog.isSome = true → s.panel.jogKey = k → keyBit s.panel.heldOver k = true ∨ s.mode.bootOk = false →
       Completes (.keyRelease k) s (fun u => u.panel.keys = putKey s.panel.keys k false ∧ u.panel.jog = none))) ∧
  (∀ (k : Nat) (s v : State), s.panel.repKey = some k → scans s = true → repeats s k = true →
     v = { s.reach (repDue s) with panel := { s.panel with repT := repDue s, repOn := true } } →
     (s.panel.host = true → s.panel.queue.length ≤ 23 → Completes .keyRepeat s (fun u =>
       u.panel.queue = s.panel.queue ++ [(2, (k : Int))] ∧ u.panel.repT = repDue s ∧
       u.time.line = reachLine s.time.line (repDue s))) ∧
     (s.panel.host = false → k ≠ keyAt s 0x10 8 → exec .keyRepeat s = .next (menuEvent v false (fun x => x))) ∧
     (s.panel.host = false → k = keyAt s 0x10 8 → keyHeld s k = true →
       s.panel.screen = 4 ∨ s.panel.screen = 5 ∨ s.panel.screen = 6 →
       exec .keyRepeat s = .next (menuEvent v false (fun x => menuStep x true)))) ∧
  (∀ (e new ph d : Nat) (t : Int) (up a b : Bool) (s : State), scans s = true → e < 2 → new = 2 * b2n a + b2n b →
     ph = (if e = 0 then s.panel.phase0 else s.panel.phase1) → d = (phasePlace new + 4 - phasePlace ph) % 4 →
     up = ((d == 1) != cfgB s 0xB 6 (2 + 8 * e)) →
     t = (if e = 0 then s.panel.t0 else s.panel.t1) + (if up then 1 else -1) →
     (new = ph → exec (.encTransition e a b) s = .next s) ∧
     (new ≠ ph → d = 2 → exec (.encTransition e a b) s = .next (encSet s e new 0 true)) ∧
     (new ≠ ph → d ≠ 2 → t = encTpd s e →
       exec (.encTransition e a b) s = .next (encCount (encSet s e new 0 false) e true)) ∧
     (new ≠ ph → d ≠ 2 → t ≠ encTpd s e → t = -encTpd s e →
       exec (.encTransition e a b) s = .next (encCount (encSet s e new 0 false) e false)) ∧
     (new ≠ ph → d ≠ 2 → t ≠ encTpd s e → t ≠ -encTpd s e →
       exec (.encTransition e a b) s = .next (encSet s e new t false))) ∧
  (∀ (ph : Nat) (t : Int) (up err : Bool) (v : State),
     (encSet v 0 ph t err).panel.phase0 = ph ∧ (encSet v 0 ph t err).panel.t0 = t ∧
     (encSet v 0 ph t err).panel.err0 = Nat.min 255 (v.panel.err0 + b2n err) ∧
     (encSet v 1 ph t err).panel.phase1 = ph ∧ (encSet v 1 ph t err).panel.t1 = t ∧
     (encSet v 1 ph t err).panel.err1 = Nat.min 255 (v.panel.err1 + b2n err) ∧
     (v.panel.host = true →
       (encCount v 0 up).panel.pos0 = (v.panel.pos0 + (if up then 1 else 255)) % 256 ∧
       (encCount v 1 up).panel.pos1 = (v.panel.pos1 + (if up then 1 else 255)) % 256))

/-- The panel's frames, registers, menu times and jog limit act. PANEL_FRAME while the panel scans: to the host shows
the six digits and the blinking that SRAM holds, lit as blanking and blinking say; to the menu shows the boot pattern
before BOOT-OK, and what it showed after it; each with the segments' time on from the brightness; a change of the
panel's user at the frame clears queue and repeat. By a path that is served, outside MINIMAL: PANEL_HOST_CHANGE asks
for the change, PANEL_CLR empties the queue, PANEL_EVT_READ gives and takes the oldest entry in host use, 0 from an
empty queue or in menu use. MENU_IDLE returns to the first screen at its seconds; MENU_REFRESH shows the present
item's digits, blinking in SAFE on the first screen. JOG_TIMEOUT ends a jog at its seconds. The model's own choices
and readings that it rests on: logs 16, 25. (15_service_panel.md, 08_live_registers.md) -/
def Obligations.PanelScreenAndRegistersAct : Prop :=
  (∀ s : State, scans s = true →
     (s.panel.host = true → s.panel.hostReq = true → s.mode.mode ≠ .minimal → Completes .panelFrame s (fun u =>
       u.panel.digits = (memBytes s.mem (apertureBase + cfgF s 0xB 9 0 19) 8).take 6 ∧
       u.panel.blink = byteAt (memBytes s.mem (apertureBase + cfgF s 0xB 9 0 19) 8) 6 % 64 ∧
       u.panel.onTime = (brightNow s + 1) * 15 ∧
       u.panel.lit = mapFrom 0 (fun d b => if s.panel.blank || blinkDark u d then 0 else b) u.panel.digits)) ∧
     (s.panel.host = false → s.panel.hostReq = false ∨ s.mode.mode = .minimal → s.mode.bootOk = false →
       Completes .panelFrame s (fun u => u.panel.digits = segBoot ∧ u.panel.blink = 0 ∧
         u.panel.onTime = (brightNow s + 1) * 15)) ∧
     (s.panel.host = false → s.panel.hostReq = false ∨ s.mode.mode = .minimal → s.mode.bootOk = true →
       Completes .panelFrame s (fun u => u.panel.digits = s.panel.digits ∧ u.panel.blink = s.panel.blink ∧
         u.panel.onTime = (brightNow s + 1) * 15)) ∧
     (s.panel.host = false → s.panel.hostReq = true → s.mode.mode ≠ .minimal → Completes .panelFrame s (fun u =>
       u.panel.host = true ∧ u.panel.queue = [] ∧ u.panel.repKey = none ∧ u.panel.t0 = 0 ∧ u.panel.t1 = 0)) ∧
     (s.panel.host = true → s.panel.hostReq = false ∨ s.mode.mode = .minimal → Completes .panelFrame s (fun u =>
       u.panel.host = false ∧ u.panel.queue = [] ∧ u.panel.repKey = none ∧
       u.panel.screen = (if s.mode.bootOk then 0 else 0xF)))) ∧
  (∀ (p : Path) (host : Bool) (k : Nat) (d : Int) (r : List (Nat × Int)) (s : State), pathOpen s p = true →
     s.mode.mode ≠ .minimal →
     Completes (.panelHostChange p host) s (fun u => u.panel.hostReq = host ∧ u.panel.queue = s.panel.queue) ∧
     Completes (.panelClr p) s (fun u => u.panel.queue = [] ∧ u.panel.hostReq = s.panel.hostReq) ∧
     (s.panel.host = true → s.panel.queue = (k, d) :: r → Completes (.panelEvtRead p) s (fun u =>
       (p = .host → u.bus.hd = pack [((iword d).toNat % 64, 0), (k, 8)]) ∧ u.panel.queue = r)) ∧
     (s.panel.host = true → s.panel.queue = [] → Completes (.panelEvtRead p) s (fun u =>
       (p = .host → u.bus.hd = 0) ∧ u.panel.queue = [])) ∧
     (s.panel.host = false → Completes (.panelEvtRead p) s (fun u =>
       (p = .host → u.bus.hd = 0) ∧ u.panel.queue = s.panel.queue))) ∧
  (∀ s v : State, menuRuns s = true →
     v = { menuCheck s with panel := { (menuCheck s).panel with chord := (menuCheck s).panel.chord && updReady (menuCheck s) } } →
     Completes .menuIdle s (fun u => u.panel.screen = 0 ∧ u.panel.sel = 0 ∧
       u.time.line = reachLine s.time.line (s.panel.lastT + 1000000000 * cfgF s 0xB 0x14 0 8)) ∧
     Completes .menuRefresh s (fun u => u.panel.screen = (menuCheck s).panel.screen ∧ u.panel.digits = menuDigits v ∧
       u.panel.blink = (if (menuCheck s).panel.screen = 0 ∧ s.mode.mode = .safe then 0x30 else 0))) ∧
  (∀ s : State, s.panel.jog.isSome = true → Completes .jogTimeout s (fun u => u.panel.jog = none ∧
     u.time.line = reachLine s.time.line (s.panel.jogT + 1000000000 * cfgF s 0xB 0x13 8 8)))

/-- The trace is read by each path, frozen, rewound and persisted. By a path that is served: TRACE_DATA_READ at a
record's first word gives 0 where nothing newer is held, captures the record that the pointer names and gives its
first word, or, where that record has left the ring, the oldest with LOST set; it gives the captured record's other
words in turn and steps to the next number with the last. TRACE_FREEZE, TRACE_UNFREEZE, TRACE_RD_OLDEST and
TRACE_RD_NEWEST set FREEZE and the pointer. PERSIST with the core running, none at work and outside PWRFAIL_N takes
the ring and its first number, and otherwise leaves what is at work. PERSIST_DONE writes the pages and their trace
record with the core running, outside PWRFAIL_N and logic reset, and else does nothing. The model's own choices and
readings that it rests on: logs 7, 32, 59. (21_health_trace_injection.md) -/
def Obligations.HealthAndTraceAct : Prop :=
  (∀ (d : Nat) (p : Path) (r : TraceRec) (t : TracePtr) (s : State), pathOpen s p = true → t = tracePtr s p →
     d = wrap32 s.trace.tseq (2 ^ 32 - t.tseq) →
     (t.idx = 0 → d = 0 → Completes (.traceDataRead p) s (fun u => (p = .host → u.bus.hd = 0) ∧ u.trace = s.trace)) ∧
     (t.idx = 0 → d ≠ 0 → d ≤ s.trace.ring.length → ringRec s d = some r →
       Completes (.traceDataRead p) s (fun u => (p = .host → u.bus.hd = traceWord r 0) ∧
         tracePtr u p = { t with idx := 1, capture := some r })) ∧
     (t.idx = 0 → s.trace.ring.length < d → ringRec s s.trace.ring.length = some r →
       Completes (.traceDataRead p) s (fun u => (p = .host → u.bus.hd = traceWord r 0) ∧
         tracePtr u p = { tseq := oldestTseq s, idx := 1, capture := some r, lost := true })) ∧
     (t.idx ≠ 0 → t.idx < 7 → t.capture = some r →
       Completes (.traceDataRead p) s (fun u => (p = .host → u.bus.hd = traceWord r t.idx) ∧
         tracePtr u p = { t with idx := t.idx + 1 })) ∧
     (t.idx = 7 → t.capture = some r →
       Completes (.traceDataRead p) s (fun u => (p = .host → u.bus.hd = traceWord r 7) ∧
         tracePtr u p = { t with tseq := wrap32 t.tseq 1, idx := 0, capture := none }))) ∧
  (∀ (p : Path) (s : State), pathOpen s p = true →
     Completes (.traceFreeze p) s (fun u => u.trace.freeze = true ∧ u.trace.ring = s.trace.ring) ∧
     Completes (.traceUnfreeze p) s (fun u => u.trace.freeze = false) ∧
     Completes (.traceRdOldest p) s (fun u => (tracePtr u p).tseq = oldestTseq s ∧ (tracePtr u p).idx = 0 ∧
       (tracePtr u p).capture = none) ∧
     (s.trace.ring ≠ [] → Completes (.traceRdNewest p) s (fun u =>
       (tracePtr u p).tseq = wrap32 s.trace.tseq (2 ^ 32 - 1) ∧ (tracePtr u p).idx = 0)) ∧
     (s.trace.ring = [] → Completes (.traceRdNewest p) s (fun u =>
       (tracePtr u p).tseq = s.trace.tseq ∧ (tracePtr u p).idx = 0)) ∧
     (s.mode.coreReset = false → s.mode.rest = false → s.trace.persist = none → s.mode.pwrfail = false →
       Completes (.persist p) s (fun u =>
         u.trace.persist = some (s.trace.ring, wrap32 s.trace.tseq (2 ^ 32 - s.trace.ring.length)))) ∧
     (s.mode.coreReset = false → s.mode.rest = false → s.trace.persist.isSome = true ∨ s.mode.pwrfail = true →
       Completes (.persist p) s (fun u => u.trace.persist = s.trace.persist))) ∧
  (∀ (l : List TraceRec) (f : Nat) (s v : State), s.trace.persist = some (l, f) →
     (s.mode.pwrfail = false → s.mode.logicReset = false → coreRuns s = true →
       v = tracePages { s with trace := { s.trace with persist := none, readySector := true } } 8 f l →
       exec .persistDone s = .next (putTrace v (softSource v) 0x06
         (s.trace.nextPage % 2 ^ 32 + 2 ^ 32 * (v.trace.nextPage - s.trace.nextPage)))) ∧
     (s.mode.pwrfail = true ∨ s.mode.logicReset = true ∨ coreRuns s = false → exec .persistDone s = .next s))

/-- Health intervals and summary pages, and the injector's arming and ends. HEALTH_INTERVAL outside power-on and logic
reset answers healthJudge at the minute's end, the counts of the interval cleared and the rates taken where not
excluded. PLL_HEADROOM_SAMPLE in LOCKED keeps the least percentage, and otherwise does nothing. SUMMARY_PAGE outside
PWRFAIL_N and logic reset answers writeSummary at the hour, where none was written and a thermal time is not 0, or the
thermal times differ from those written; it holds the counts written, the time and one page more. By a path that is
served, outside MINIMAL: INJ_ARM that armRefused does not refuse arms with its operands, the configured numbers and
its limit, DONE 0; a refused one sets REF; INJ_DISARM disarms. INJ_TIMEOUT disarms at the limit, INJ_REORDER_DROP
drops the held frame at 10 ms, and INJ_ENABLE_EXPIRY ends the sealed enable, and an injection that only it permitted,
at its time. The model's own choices and readings that it rests on: logs 25, 32, 75, 77.
(21_health_trace_injection.md) -/
def Obligations.HealthIntervalsAndInjectionAct : Prop :=
  (∀ (pct : Nat) (s v : State), s.mode.porst = false →
     (s.mode.logicReset = false → v = s.reach ((s.time.line + 59999999999) / 60000000000 * 60000000000) →
       exec .healthInterval s = .next (healthJudge v) ∧
       Completes .healthInterval s (fun u => u.health.barCount = 0 ∧ u.health.lnkCountA = 0 ∧ u.health.lnkCountB = 0 ∧
         u.health.pllMin = none ∧
         (s.health.exclBar = false → u.health.barRate = Nat.min 0xFFFF s.health.barCount) ∧
         (s.health.exclLnk = false →
           u.health.lnkRate = Nat.min 0xFFFF (Nat.max s.health.lnkCountA s.health.lnkCountB)))) ∧
     (s.time.pll = .locked → Completes (.pllHeadroomSample pct) s (fun u =>
       u.health.pllMin = some (Nat.min (Nat.min 100 pct) (s.health.pllMin.getD (Nat.min 100 pct))))) ∧
     (s.time.pll ≠ .locked → exec (.pllHeadroomSample pct) s = .next s) ∧
     (s.mode.logicReset = false → s.mode.pwrfail = false → s.health.summary = none →
       s.health.thermTotal.any (fun x => x != 0) = true →
       exec .summaryPage s = .next (writeSummary (s.reach (s.health.summaryT + 3600000000000)))) ∧
     (s.mode.logicReset = false → s.mode.pwrfail = false →
       ∀ (n m : Nat) (l : List Nat), s.health.summary = some (n, l, m) → l ≠ s.health.thermTotal →
       exec .summaryPage s = .next (writeSummary (s.reach (s.health.summaryT + 3600000000000))))) ∧
  (∀ v : State, (writeSummary v).health.summary = some (v.health.porCount, v.health.thermTotal, v.health.holdCt) ∧
     (writeSummary v).health.summaryT = v.time.line ∧ (writeSummary v).trace.nextPage = v.trace.nextPage + 1) ∧
  (∀ (p : Path) (target action : Nat) (once : Bool) (s : State), pathOpen s p = true → s.mode.mode ≠ .minimal →
     target < 4 → action < 4 →
     (armRefused s target action = false → Completes (.injArm p target action once) s (fun u =>
       u.inj.armed.map (fun a => (a.target, a.action, a.once, a.eligible)) = some (target, action, once, 0) ∧
       u.inj.armed.map (fun a => (a.n, a.ofs, a.bit, a.type, a.count)) =
         some (cfgF s 0xE 0x10 0 16, cfgF s 0xE 0x11 0 14, cfgF s 0xE 0x12 0 3, cfgF s 0xE 0x12 8 8, cfgF s 0xE 0x13 0 16) ∧
       u.inj.armed.map (fun a => a.until_) = some (s.time.line + 1000000000 * cfgF s 0xE 0x14 0 12) ∧ u.inj.done = 0)) ∧
     (armRefused s target action = true → Completes (.injArm p target action once) s (fun u =>
       u.inj.armed = s.inj.armed ∧ u.inj.ref = true)) ∧
     Completes (.injDisarm p) s (fun u => u.inj.armed = none)) ∧
  (∀ s : State,
     (∀ a : Armed, s.inj.armed = some a → Completes .injTimeout s (fun u => u.inj.armed = none ∧
       u.time.line = reachLine s.time.line a.until_)) ∧
     (∀ (p : Port) (f : LineFrame), s.inj.heldFrame = some (p, f) → Completes .injReorderDrop s (fun u =>
       u.inj.heldFrame = none ∧ u.time.line = reachLine s.time.line (f.tin / 64 + 10000000))) ∧
     (∀ t n : Nat, s.inj.sealedEnable = some (t, n) → Completes .injEnableExpiry s (fun u => u.inj.sealedEnable = none ∧
       u.time.line = reachLine s.time.line t ∧
       (∀ a : Armed, s.inj.armed = some a → a.sealed = true → injPermitted { s with inj := { s.inj with sealedEnable := none } } a.target = false →
         u.inj.armed = none))))

/-- Update commands by register and by line: each of the six takes its effect when nothing refuses it. By a path that
is served, other than the line, with the key open and the core running: where updRefusal is 0 the row of each command
records it with RESULT done and answers its operation: START reads (phase READ where candidates are known), ABORT,
PREPARE, ACTIVATE (in PWRFAIL_N it waits), VETO (in PWRFAIL_N it waits, its deadline now) and RELAY_JOIN. With the
core in reset or a refusal, the phase stays, RESULT is refused and REFUSED is set; without the key, or by the line's
register, nothing of the update unit changes. By the line, a held UPD_CTRL of that command ends with the code and the
update words on the command's effect, or with 0x0F on the refusal, unless an ACTIVATE that this device's heat
excludes, which changes nothing of the update unit and ends the transaction. That the core takes a command within the
row is log 61. The model's own choices and readings that it rests on: logs 36, 41, 61, 66, 83, 84.
(18_update_sessions.md, 05_tagged_transactions.md) -/
def Obligations.UpdateCommandsAct : Prop :=
  (∀ (p : Path) (s w : State), pathOpen s p = true → p ≠ .line → keyOpen (hostAccess s p) p = true →
     s.mode.coreReset = false → w = wake (acting s p) 4 →
     (updRefusal w 1 none = 0 →
       exec (.start (.reg p)) s = .next (startRead { w with upd := { w.upd with cmd := 1, result := 2 } }) ∧
       (s.media.cands ≠ [] → Completes (.start (.reg p)) s (fun u => u.upd.phase = .read ∧ u.upd.source = 1))) ∧
     (updRefusal w 2 none = 0 →
       exec (.abort (.reg p)) s = .next (abortSession { w with upd := { w.upd with cmd := 2, result := 2 } })) ∧
     (updRefusal w 3 none = 0 →
       exec (.prepare (.reg p)) s = .next (startPrepare { w with upd := { w.upd with cmd := 3, result := 2 } })) ∧
     (updRefusal w 4 none = 0 → s.mode.pwrfail = false →
       exec (.activate (.reg p)) s = .next (activateBegin { w with upd := { w.upd with cmd := 4, result := 2 } })) ∧
     (updRefusal w 4 none = 0 → s.mode.pwrfail = true → Completes (.activate (.reg p)) s (fun u => u.upd.startT = some 0)) ∧
     (updRefusal w 5 none = 0 → s.mode.pwrfail = false →
       exec (.veto (.reg p)) s = .next (fallStart { w with upd := { w.upd with cmd := 5, result := 2 } } 0x0611)) ∧
     (updRefusal w 5 none = 0 → s.mode.pwrfail = true → Completes (.veto (.reg p)) s (fun u => u.upd.vetoed = true ∧
       u.upd.deadline = some s.time.line)) ∧
     (updRefusal w 6 none = 0 →
       exec (.relayJoin (.reg p)) s = .next (distJoin { w with upd := { w.upd with cmd := 6, result := 2 } }))) ∧
  (∀ (p : Path) (cmd : Nat) (row : Via → Instr) (s : State), pathOpen s p = true →
     (cmd, row) ∈ [(1, Instr.start), (2, Instr.abort), (3, Instr.prepare), (4, Instr.activate), (5, Instr.veto),
       (6, Instr.relayJoin)] →
     (p ≠ .line → keyOpen (hostAccess s p) p = true →
       s.mode.coreReset = true ∨ updRefusal (wake (acting s p) 4) cmd none ≠ 0 →
       Completes (row (.reg p)) s (fun u => u.upd.phase = s.upd.phase ∧ u.upd.cmd = cmd ∧ u.upd.result = 3 ∧
         u.upd.refused = true)) ∧
     (p ≠ .line → keyOpen (hostAccess s p) p = false →
       Completes (row (.reg p)) s (fun u => u.upd = s.upd)) ∧
     Completes (row (.reg .line)) s (fun u => u.upd = s.upd)) ∧
  (∀ (b a : Bool) (tag cmd start code : Nat) (row : Via → Instr) (t : Txn) (s u v : State)
     (join : Option (List Byte × Nat × Nat)), Held s b a tag 0x21 t → s.mode.coreReset = false →
     (cmd, row) ∈ [(1, Instr.start), (2, Instr.abort), (3, Instr.prepare), (4, Instr.activate), (5, Instr.veto),
       (6, Instr.relayJoin)] → byteAt t.data 0 = cmd →
     code = updRefusal s cmd (join.map (fun x => x.1)) → start = (if cmd = 4 then fieldAt t.data 2 8 else 0) →
     join = (if cmd = 6 then some ((t.data.drop 2).take 32, byteAt t.data 34, fieldAt t.data 36 2) else none) →
     u = updEffect { s with upd := { s.upd with cmd, result := 2 } } cmd start join →
     v = postUpdRefused { s with upd := { s.upd with cmd, result := 3 } } code cmd →
     ((cmd = 4 → heatExcludes s (byteAt t.data 1) = false) →
       (code = 0 → exec (row (.line b a tag)) s =
         .next (endTxn u t.id 0 (leBytes 2 0 ++ wordsToBytes [updStatWord u, updProgWord u]) true)) ∧
       (code ≠ 0 → exec (row (.line b a tag)) s =
         .next (endTxn v t.id 0x0F (leBytes 2 code ++ wordsToBytes [updStatWord v, updProgWord v]) false))) ∧
     (cmd = 4 → heatExcludes s (byteAt t.data 1) = true → Completes (row (.line b a tag)) s (fun x =>
       x.upd = s.upd ∧ x.txn.held = dropTxn s.txn.held t.id)))

/-- An update session goes on: sectors staged, parts prepared, an activation begun, confirmed or fallen back from.
With the core running and outside PWRFAIL_N: STAGING_SECTOR_DONE answers sectorDone and the reader's next.
PREPARE_PART_DONE of a part whose slot is erased answers prepareStep: with a good signature and an image that opens,
that part is prepared and taken from the list; with a bad signature the session ends with 0x0607. ACTIVATE_START at
its time begins the activation, or, refused, drops the time with REFUSED set and the phase kept. ACT_PAUSE_END ends
the pause of the activation's part other than the controller core's own, resumes the next part of a fallback, and
after its last part resets the core or reports. CONFIRM_WRITE with every criterion met ends the session with the
security version raised and the bundle remembered, and else does nothing; CONFIRM_DEADLINE at its time falls back,
with 0x0611 for a veto and 0x0610 else. CHORD_COMPLETE of a held chord while the menu runs starts the update where it
is ready, and else only ends the chord. Signatures and images are opaque functions (log 9). The model's own choices
and readings that it rests on: logs 9, 25, 39, 40, 42, 68, 86. (18_update_sessions.md, 15_service_panel.md,
19_security.md) -/
def Obligations.UpdateSessionsProgress : Prop :=
  (∀ (ok : Bool) (p : Nat) (rest : List Nat) (s : State), s.mode.pwrfail = false → coreRuns s = true →
     exec (.stagingSectorDone ok) s = .next (readerNext (pullOrphan (sectorDone s ok))) ∧
     (s.upd.phase = .prepare → s.upd.todo = p :: rest → slotReady s (!activeBank s p) p = true →
       exec .preparePartDone s = .next (prepareStep s p rest) ∧
       (∀ d image : List Byte, signatureOk (stagedMeta s) = true → bdPartDesc (stagedMeta s) p = some d →
         openImage (cryptoDrop s (fun f => f = .prepare p)) (stagedMeta s) d = some image →
         (prepareStep s p rest).upd.prepared = s.upd.prepared + descCnt d ∧ (prepareStep s p rest).upd.todo = rest) ∧
       (signatureOk (stagedMeta s) = false → (prepareStep s p rest).upd.phase = .idle ∧
         (prepareStep s p rest).upd.ended = 0x0607))) ∧
  (∀ (t : Nat) (s : State), s.upd.startT = some t → coreRuns s = true → s.mode.pwrfail = false →
     (updRefusal { s.reach t with upd := { s.upd with startT := none } } 4 none = 0 →
       exec .activateStart s = .next (activateBegin { s.reach t with upd := { s.upd with startT := none } })) ∧
     (updRefusal { s.reach t with upd := { s.upd with startT := none } } 4 none ≠ 0 →
       Completes .activateStart s (fun u => u.upd.startT = none ∧ u.upd.phase = s.upd.phase ∧ u.upd.refused = true))) ∧
  (∀ (p : Nat) (rest : List Nat) (r : Word) (s : State), coreRuns s = true → s.mode.pwrfail = false →
     (s.upd.falling = none → s.upd.phase = .activate → s.upd.todo = p :: rest →
       (p ≠ 1 → exec .actPauseEnd s = .next (partEnds s)) ∧ (p = 1 → exec .actPauseEnd s = .next s)) ∧
     (s.upd.falling = some (r, p :: rest) → rest ≠ [] → exec .actPauseEnd s =
       .next (fallPause (partResume { s with upd := { s.upd with falling := some (r, rest) } } p))) ∧
     (∀ v : State, s.upd.falling = some (r, [p]) → v = partResume { s with upd := { s.upd with falling := some (r, []) } } p →
       (v.upd.fallReset = true → exec .actPauseEnd s = .next (coreEnter v .fallback)) ∧
       (v.upd.fallReset = false → exec .actPauseEnd s = .next (fallReport v)))) ∧
  (∀ s : State, s.upd.phase = .confirm → s.upd.falling = none → coreRuns s = true → s.mode.pwrfail = false →
     (confirmOk s = true → Completes .confirmWrite s (fun u => u.upd.phase = .idle ∧
       u.sec.secver = Nat.max s.sec.secver (bdSecVersion (stagedMeta s)) ∧
       u.sec.nbase = nbaseRecord s.sec.nbase (bdNonce (stagedMeta s)) (bdIdent (stagedMeta s)) ∧ u.upd.oldFormat = none)) ∧
     (confirmOk s = false → exec .confirmWrite s = .next s) ∧
     (∀ t : Nat, s.upd.deadline = some t →
       exec .confirmDeadline s = .next (fallStart (s.reach t) (if s.upd.vetoed then 0x0611 else 0x0610)))) ∧
  (∀ s : State, s.panel.chord = true → menuRuns s = true →
     (updReady s = true →
       exec .chordComplete s = .next (chordStart (s.reach (s.panel.chordT + cfgF s 0xB 0x15 0 4 * 1000000000)))) ∧
     (updReady s = false → Completes .chordComplete s (fun u => u.panel.chord = false ∧ u.upd = s.upd)))

/-- The service medium: insertion, identification, removal, sector reads and the absence limit. MEDIA_INSERT of an
absent medium completes with it present and due for identification in 10 ms, of a present one does nothing.
MEDIA_IDENTIFY of a present one that is due, with the core running and the port free, answers the session's use of
what the sectors show; where no session reads, kind, file system and candidates are held at the due time; not due, it
does nothing. MEDIA_REMOVE of an absent medium does nothing, of an unused one completes with no medium and the session
unchanged, of one in use by a reader completes with the session waiting since the first removal. MEDIA_SECTOR_READ
gives the sector to the reader's transfer, and does nothing more where none runs. MEDIA_ABSENCE_TIMEOUT of a waiting
session ends it with 0x060B at 10 minutes. The sectors come as operands (log 38); FAT32's layout is log 21. The
model's own choices and readings that it rests on: logs 21, 25, 37, 38, 39. (17_images_medium.md,
18_update_sessions.md) -/
def Obligations.MediumEventsAct : Prop :=
  (∀ s : State,
     (s.media.present = false → Completes .mediaInsert s (fun u => u.media.present = true ∧ u.media.identDue = true ∧
       u.media.identT = s.time.line + 10000000)) ∧
     (s.media.present = true → exec .mediaInsert s = .next s)) ∧
  (∀ (f : MediaFound) (k : Nat) (fs bad : Bool) (c : List MediaFile) (s : State), identOf f = (k, fs, c, bad) →
     (s.media.present = true → s.media.identDue = true → coreRuns s = true → s.ser.running ≠ some .medium →
       exec (.mediaIdentify f) s = .next (identSession { s.reach s.media.identT with
         media := { s.media with kind := k, fsOk := fs, cands := c, identDue := false, err := s.media.err || bad } }) ∧
       (s.media.reader = none → Completes (.mediaIdentify f) s (fun u => u.media.kind = k ∧ u.media.fsOk = fs ∧
         u.media.cands = c ∧ u.media.identDue = false ∧ u.time.line = reachLine s.time.line s.media.identT))) ∧
     (s.media.present = false ∨ s.media.identDue = false ∨ coreRuns s = false → exec (.mediaIdentify f) s = .next s)) ∧
  (∀ s : State,
     (s.media.present = false → exec .mediaRemove s = .next s) ∧
     (s.media.present = true → mediaInUse s = false → Completes .mediaRemove s (fun u => u.media.present = false ∧
       u.media.kind = 0 ∧ u.media.cands = [] ∧ u.media.removed = s.media.removed ∧ u.upd = s.upd)) ∧
     (∀ r : Reader, s.media.present = true → s.media.reader = some r → mediaInUse s = true →
       Completes .mediaRemove s (fun u => u.media.present = false ∧ u.media.removed = true ∧ u.upd.mediaWait = true ∧
         u.media.removedT = (if s.upd.mediaWait then s.media.removedT else some s.time.line)))) ∧
  (∀ (ok : Bool) (b : List Byte) (t : Nat) (s v : State), v = readerAsk (readerNext s) →
     (v.ser.running = some .medium → exec (.mediaSectorRead ok b) s = .next (mediumEnd v ok b)) ∧
     (v.ser.running ≠ some .medium → exec (.mediaSectorRead ok b) s = .next v) ∧
     (s.media.removedT = some t → s.upd.mediaWait = true →
       exec .mediaAbsenceTimeout s = .next (sessionFail (s.reach (t + 600000000000)) 0x060B) ∧
       Completes .mediaAbsenceTimeout s (fun u => u.upd.ended = 0x060B ∧ u.upd.phase = .idle)))

/-- The role is sampled at the release of power-on reset, and no other command ever changes it. In power-on reset with
no boot in progress, PORST_RELEASE completes with the role that its straps give. Outside power-on reset, with no logic
reset or a boot in progress, PORST_RELEASE leaves the role. No other command, on any state and with any operands,
changes the role. (R2) -/
def Obligations.RoleHoldsUntilPowerOnReset : Prop :=
  (∀ (role : Role) (crystal : Bool) (e : BootEnv) (s : State), s.mode.porst = true → s.mode.booting = false →
     Completes (.porstRelease role crystal e) s (fun t => t.mode.role = role)) ∧
  (∀ (role : Role) (crystal : Bool) (e : BootEnv) (s t : State), s.mode.porst = false →
     s.mode.logicReset = false ∨ s.mode.booting = true → exec (.porstRelease role crystal e) s = .next t →
     t.mode.role = s.mode.role) ∧
  (∀ (c : Instr) (s t : State), (∀ (role : Role) (crystal : Bool) (e : BootEnv), c ≠ .porstRelease role crystal e) →
     exec c s = .next t → t.mode.role = s.mode.role)

/-- NOP completes when every command that its path posted earlier has completed; other commands complete in any order.
An accepted NOP with no command of its path outstanding completes at its posting, with one completion entry and
nothing left outstanding; behind an outstanding command it stays outstanding, last, with no entry. When the last
command before a NOP completes, its entry is followed by the NOP's, and both leave the outstanding list; while an
earlier command is outstanding the completion of a later one, whichever it is, leaves the earlier ones and every NOP
behind them outstanding. (R182) -/
def Obligations.NopWaitsForItsPath : Prop :=
  (∀ (p : Path) (d : Descriptor) (s : State), Accepted s p { d with code := 1 } →
     ((cmdPath (acting s p) p).outst = [] →
       Completes (.nop p d) s (fun t => (cmdPath t p).outst = [] ∧
         (cmdPath t p).cplq = (cmdPath (acting s p) p).cplq ++ [cplEntry p { d with code := 1 } 0 0])) ∧
     (∀ (x : Descriptor) (r : List Descriptor), (cmdPath (acting s p) p).outst = x :: r → x.code ≠ 1 →
       Completes (.nop p d) s (fun t => (cmdPath t p).outst = x :: r ++ [{ d with code := 1 }] ∧
         (cmdPath t p).cplq = (cmdPath (acting s p) p).cplq))) ∧
  (∀ (s : State) (p : Path) (d n : Descriptor) (r : List Descriptor) (outcome result : Nat), p ≠ .line →
     (cmdPath s p).outst = d :: n :: r → n.code = 1 → (∀ x ∈ r.head?, x.code ≠ 1) →
     (cmdPath (complete s p d outcome result) p).outst = r ∧
     (cmdPath (complete s p d outcome result) p).cplq =
       (cmdPath s p).cplq ++ [cplEntry p d outcome result, cplEntry p n 0 0]) ∧
  (∀ (s : State) (p : Path) (x d : Descriptor) (r : List Descriptor) (outcome result : Nat), p ≠ .line →
     (cmdPath s p).outst = x :: r → x.code ≠ 1 → x ≠ d → d ∈ r →
     (cmdPath (complete s p d outcome result) p).outst = x :: dropDesc r d ∧
     (cmdPath (complete s p d outcome result) p).cplq = (cmdPath s p).cplq ++ [cplEntry p d outcome result])

/-- An event that finds the queue full is dropped, unless it is urgent and displaces the oldest entry that is not.
Outside a logic reset, where the queue holds nothing: posting any event on a queue of 256 entries, an event that is
not urgent leaves the entries as they are; an urgent one, where no path holds an entry, displaces the oldest entry
that is not urgent, or is dropped where every entry is urgent; every such posting sets EVQ_LEVEL.OVF and
INTA_STAT.EVQ_OVF (bit 14). A held entry stays at the front whatever is posted, and behind it the oldest entry that is
not urgent is the one displaced. Below 256 entries the event enters last and OVF keeps its value. That the posting
that displaces an entry also counts as a drop and sets OVF is the model's reading (log 64). The model's own choices
and readings that it rests on: log 64. (R204) -/
def Obligations.FullQueueDropsOrDisplaces : Prop :=
  (∀ (s : State) (code argx : Nat) (arg : Word), s.mode.logicReset = false → s.evq.queue.length < 256 →
     (post s code argx arg).evq.queue = s.evq.queue ++
       [{ code := byte code, argx := byte argx, arg, lt := BitVec.ofNat 32 s.time.line }] ∧
     (post s code argx arg).evq.ovf = s.evq.ovf) ∧
  (∀ (s : State) (code argx : Nat) (arg : Word), s.mode.logicReset = false → s.evq.queue.length = 256 →
     code < 256 →
     (post s code argx arg).evq.ovf = true ∧ bitOf (post s code argx arg).evq.intaStat 14 = true ∧
     (urgent code = false → (post s code argx arg).evq.queue = s.evq.queue) ∧
     (urgent code = true → (∀ x ∈ s.evq.queue, urgent x.code.toNat = true) →
       (post s code argx arg).evq.queue = s.evq.queue) ∧
     (∀ (a b : List Event) (x : Event), urgent code = true → s.evq.holder = none → s.evq.queue = a ++ x :: b →
       (∀ y ∈ a, urgent y.code.toNat = true) → urgent x.code.toNat = false →
       (post s code argx arg).evq.queue = a ++ b ++
         [{ code := byte code, argx := byte argx, arg, lt := BitVec.ofNat 32 s.time.line }])) ∧
  (∀ (s : State) (code argx : Nat) (arg : Word) (p : Path) (h : Event) (r : List Event), s.mode.logicReset = false →
     code < 256 →
     s.evq.queue = h :: r → s.evq.holder = some p →
     (∃ r' : List Event, (post s code argx arg).evq.queue = h :: r') ∧
     (∀ (a b : List Event) (x : Event), (h :: r).length = 256 → urgent code = true → r = a ++ x :: b →
       (∀ y ∈ a, urgent y.code.toNat = true) → urgent x.code.toNat = false →
       (post s code argx arg).evq.queue = h :: (a ++ b ++
         [{ code := byte code, argx := byte argx, arg, lt := BitVec.ofNat 32 s.time.line }])))

/-- FIFO_LEVEL is posted once, when the FIFO's level rises from below FIFO_THR to FIFO_THR or above. Whatever the
converters put into the result FIFO (one result, with the mark of a drop before it, or nothing): if LEVEL was below
FIFO_THR and is at FIFO_THR or above afterwards, exactly one event enters, FIFO_LEVEL (0xC2) with ADC_FLEVEL; in every
other case the events stay as they were. (R329) -/
def Obligations.FifoLevelIsPostedOnce : Prop :=
  ∀ (s : State) (header value : Word),
    (s.adc.fifo.length < cfgF s 7 3 0 9 → cfgF s 7 3 0 9 ≤ (fifoPut s header value).adc.fifo.length →
      ∃ u : State, u.evq = s.evq ∧ u.adc = (fifoPut s header value).adc ∧
        fifoPut s header value = post u 0xC2 0 (adcFlevelWord u)) ∧
    (¬ (s.adc.fifo.length < cfgF s 7 3 0 9 ∧ cfgF s 7 3 0 9 ≤ (fifoPut s header value).adc.fifo.length) →
      (fifoPut s header value).evq = s.evq)

/-- A confirmation makes the bundle's nonce base and identity the newest of the 16 pairs of NBASE. For CONFIRM_WRITE
with every criterion of confirmation met: a remembered pair with the bundle's identity, the only one with it, moves to
the end, the newest place, and the other pairs stay in order; with no such pair, the bundle's pair is added at the
end, and of 16 pairs the oldest leaves. That a remembered pair moves as it stands is the model's reading (log 86). The
model's own choices and readings that it rests on: logs 42, 86. (R466) -/
def Obligations.ConfirmationRemembersTheBundle : Prop :=
  ∀ s : State, s.upd.phase = .confirm → s.upd.falling = none → coreRuns s = true → s.mode.pwrfail = false →
    confirmOk s = true →
    (∀ p ∈ s.sec.nbase, p.2 = bdIdent (stagedMeta s) →
      (∀ q ∈ s.sec.nbase, q.2 = bdIdent (stagedMeta s) → q = p) →
      Completes .confirmWrite s (fun t =>
        t.sec.nbase = s.sec.nbase.filter (fun q => q.2 != bdIdent (stagedMeta s)) ++ [p])) ∧
    ((∀ p ∈ s.sec.nbase, p.2 ≠ bdIdent (stagedMeta s)) →
      (s.sec.nbase.length < 16 → Completes .confirmWrite s (fun t =>
        t.sec.nbase = s.sec.nbase ++ [(bdNonce (stagedMeta s), bdIdent (stagedMeta s))])) ∧
      (s.sec.nbase.length = 16 → Completes .confirmWrite s (fun t =>
        t.sec.nbase = s.sec.nbase.tail ++ [(bdNonce (stagedMeta s), bdIdent (stagedMeta s))])))

/-- While FREEZE is 1 no record enters the ring and each counts in FROZEN_DROPS; the unfreeze reports the count and
clears it. While TRACE_CTRL.FREEZE is 1, a record of any source leaves the ring as it was and adds 1 to FROZEN_DROPS
(below 65,535, the most the count holds, log 81); a detail record that the core cannot write because it is in reset or
in REST adds 1 to DROPPED. TRACE_UNFREEZE with FREEZE at 1 enters one record, TRACE_GAP, whose argument is the count,
behind the ring's own (below 2,048 records), and the count is then 0. The model's own choices and readings that it
rests on: log 81. (R503) -/
def Obligations.FreezeStopsTheTrace : Prop :=
  (∀ (s : State) (source code : Byte) (arg : Nat), s.trace.freeze = true →
     (putTrace s source code arg).trace.ring = s.trace.ring ∧
     (s.trace.frozenDrops < 65535 → (putTrace s source code arg).trace.frozenDrops = s.trace.frozenDrops + 1)) ∧
  (∀ (s : State) (code arg : Nat), s.trace.freeze = true → coreRuns s = false → s.trace.dropped < 65535 →
     (detail s code arg).trace.dropped = s.trace.dropped + 1) ∧
  (∀ (p : Path) (s : State), pathOpen s p = true → s.trace.freeze = true → s.trace.ring.length < 2048 →
     Completes (.traceUnfreeze p) s (fun t => t.trace.freeze = false ∧ t.trace.frozenDrops = 0 ∧
       t.trace.ring = s.trace.ring ++
         [{ lt := s.time.line, source := 0x0D, code := 0x05, arg := BitVec.ofNat 48 s.trace.frozenDrops }]))

/-- The key of a path goes from IDLE to HALF to OPEN by the two key words, and falls back with any other write or by
time. For every path that is served, KEYSEQ_WRITE completes: 0x5A3C makes the path's key HALF with the failures kept;
0xC3A5 in HALF makes it OPEN with them kept; any other value, or 0xC3A5 elsewhere, makes it IDLE and counts a failure
modulo 16; the other paths' keys stay. The model's operation acting, which every other register write of a path runs
first, makes a HALF key IDLE with a failure and an OPEN key IDLE without one, leaves an IDLE key, and leaves the other
paths' keys. KEY_LAPSE of an OPEN key completes 100 us after it was opened with the key IDLE and no failure. That a
key lapses by its row is log 26. The model's own choices and readings that it rests on: log 26. (07_host_bus.md) -/
def Obligations.KeyStatesFollowTheWrites : Prop :=
  (∀ (p : Path) (w : Word) (s : State), pathOpen s p = true → s.ser.spOffDue = false →
     Completes (.keyseqWrite p w) s (fun t =>
       (w = 0x5A3C → (keyOf t p).st = .half ∧ (keyOf t p).fails = (keyOf s p).fails) ∧
       (w = 0xC3A5 → (keyOf s p).st = .half → (keyOf t p).st = .opened ∧ (keyOf t p).fails = (keyOf s p).fails) ∧
       (w ≠ 0x5A3C → (w ≠ 0xC3A5 ∨ (keyOf s p).st ≠ .half) →
         (keyOf t p).st = .idle ∧ (keyOf t p).fails = ((keyOf s p).fails + 1) % 16) ∧
       ∀ q : Path, q ≠ p → keyOf t q = keyOf s q)) ∧
  (∀ (p : Path) (s : State),
     ((keyOf s p).st = .half → (keyOf (acting s p) p).st = .idle ∧
       (keyOf (acting s p) p).fails = ((keyOf s p).fails + 1) % 16) ∧
     ((keyOf s p).st = .opened → (keyOf (acting s p) p).st = .idle ∧ (keyOf (acting s p) p).fails = (keyOf s p).fails) ∧
     ((keyOf s p).st = .idle → keyOf (acting s p) p = keyOf s p) ∧
     (∀ q : Path, q ≠ p → keyOf (acting s p) q = keyOf s q) ∧
     ((keyOf s p).st = .opened → Completes (.keyLapse p) s (fun t => (keyOf t p).st = .idle ∧
       (keyOf t p).fails = (keyOf s p).fails ∧ t.time.line = reachLine s.time.line ((keyOf s p).openT + 100000))))

/-- A replay window never accepts the same nonce twice, whatever order the nonces come in. For every replay window and
every sequence of nonces (pairs of epoch and counter) shown to it, the nonces that it accepts are all different; and
the nonces accepted by a window started at a floor, with every bit of its map set, all stand above that floor.
(19_security.md) -/
def Obligations.NoNonceIsTakenTwice : Prop :=
  (∀ (w : Window) (l : List (Nat × Nat)), (accepted w l).Nodup) ∧
  (∀ (e c : Nat) (l : List (Nat × Nat)), ∀ p ∈ accepted { epoch := e, ctr := c, map := BitVec.allOnes 64 } l,
     e < p.1 ∨ (p.1 = e ∧ c < p.2))

/-- The watchdog question's advance is one to one and gives 0 from 0 alone, and the spec's worked tokens come out. The
advance of the question state sends no state but 0 to 0 and no two states to one; both questions are 1 at reset; and
with WDH_SEED 0x5C2E the tokens of the questions 0x3A7C, 0x74F8 and 0xE9F1, which follow one another and are followed
by 0xD3E2, are 0x83A6, 0x73EB and 0xCE7C, as in the spec's worked example. (16_watchdogs.md) -/
def Obligations.QuestionsAndTokensFollowTheirRules : Prop :=
  (∀ q r : Word, (nextQ q = 0 → q = 0) ∧ (nextQ q = nextQ r → q = r)) ∧
  (token 0x3A7C 0x5C2E = 0x83A6 ∧ nextQ 0x3A7C = 0x74F8 ∧ token 0x74F8 0x5C2E = 0x73EB ∧ nextQ 0x74F8 = 0xE9F1 ∧
     token 0xE9F1 0x5C2E = 0xCE7C ∧ nextQ 0xE9F1 = 0xD3E2 ∧ State.reset.wdog.h.q = 1 ∧ State.reset.wdog.c.q = 1)
end

