-- ==== Sys2Proof/Laws/Events.lean ====
section
/-! SUPPORT. Events: what the entry of an event into the queue can do (R203, R204). -/

namespace Sys2Proof.Machine

open Sys2Proof

/-- The oldest entry that is not urgent leaves one place. -/
theorem dropOldest_length {q r : List Event} (h : dropOldest q = some r) : q.length = r.length + 1 := by
  induction q generalizing r with
  | nil => simp [dropOldest] at h
  | cons x q ih =>
    unfold dropOldest at h
    split at h
    · cases hq : dropOldest q with
      | none => simp [hq] at h
      | some t =>
        simp [hq] at h
        subst h
        simp [ih hq]
    · simp at h
      subst h
      simp

/-- An entry enters within 256 entries (R203, R204). -/
theorem enter_length (e : EventState) (x : Event) (h : e.queue.length ≤ 256) : (e.enter x).queue.length ≤ 256 := by
  unfold EventState.enter
  split
  · simp; omega
  · dsimp only
    split
    · split
      · next hq =>
        split
        · next hd => have := dropOldest_length hd; simp [hq] at h ⊢; omega
        · exact h
      · next hq =>
        split
        · next hd => have := dropOldest_length hd; simp at h ⊢; omega
        · exact h
    · exact h

/-- A source bit changes no entry. -/
@[simp] theorem raise_queue (e : EventState) (code : Nat) : (e.raise code).queue = e.queue := by
  unfold EventState.raise
  split <;> rfl

end Sys2Proof.Machine
end

