-- ==== Sys2Proof/Laws/Memory.lean ====
section
/-! SUPPORT. Memory: SRAM as a list of cells: every operation keeps the canonical form, and a read sees the last write. -/

namespace Sys2Proof.Machine

open Sys2Proof

/-! ### The canonical form -/

theorem memWf_tail {c : Host.Cell} {r : List Host.Cell} (h : memWf (c :: r) = true) : memWf r = true := by
  cases r with
  | nil => rfl
  | cons d q => simp [memWf] at h; exact h.2

/-- The first cell of a canonical list differs from the default and lies within 1 MB. -/
theorem memWf_head {k : Nat} {v : Byte} {r : List Host.Cell} (h : memWf ((k, v) :: r) = true) :
    v ≠ memDefault ∧ k < 0x100000 := by
  induction r generalizing k v with
  | nil => simpa [memWf] using h
  | cons d q ih =>
    obtain ⟨k', v'⟩ := d
    simp [memWf] at h
    exact ⟨h.1.1, by have := (ih h.2).2; omega⟩

/-- The keys of a canonical list rise. -/
theorem memWf_lt {k k' : Nat} {v v' : Byte} {r : List Host.Cell} (h : memWf ((k, v) :: (k', v') :: r) = true) : k < k' := by
  simp [memWf] at h
  exact h.1.2

/-- A cell may stand before a canonical list whose first key is greater. -/
theorem memWf_cons {a : Nat} {b : Byte} {r : List Host.Cell} (hb : b ≠ memDefault) (ha : a < 0x100000)
    (hr : memWf r = true) (hlt : ∀ c ∈ r.head?, a < c.1) : memWf ((a, b) :: r) = true := by
  cases r with
  | nil => simp [memWf, hb, ha]
  | cons c q =>
    obtain ⟨k, v⟩ := c
    have : a < k := hlt (k, v) (by simp)
    simp [memWf, hb, this, hr]

/-- The first key of a list with a cell written is the smaller of its first key and the cell's. -/
theorem memPut_head (m : List Host.Cell) (a : Nat) (b : Byte) (n : Nat) (ha : n < a) (hm : ∀ c ∈ m.head?, n < c.1)
    (hw : memWf m = true) : ∀ c ∈ (memPut m a b).head?, n < c.1 := by
  cases m with
  | nil => unfold memPut cellsPut; split <;> simp [ha]
  | cons d r =>
    obtain ⟨k, v⟩ := d
    have hk : n < k := hm (k, v) (by simp)
    unfold memPut cellsPut
    split
    · split <;> simp [hk, ha]
    · split
      · split
        · cases r with
          | nil => simp
          | cons e q =>
            obtain ⟨k', v'⟩ := e
            have := memWf_lt hw
            simp
            omega
        · simp [ha]
      · simp [hk]

/-- A byte written within 1 MB keeps the canonical form. -/
theorem memPut_wf (m : List Host.Cell) (a : Nat) (b : Byte) (ha : a < 0x100000) (hm : memWf m = true) :
    memWf (memPut m a b) = true := by
  induction m with
  | nil =>
    unfold memPut cellsPut
    split
    · rfl
    · next hb => exact memWf_cons hb ha rfl (by simp)
  | cons d r ih =>
    obtain ⟨k, v⟩ := d
    have hr := memWf_tail hm
    have hd := memWf_head hm
    unfold memPut cellsPut
    split
    · next hlt =>
      split
      · exact hm
      · next hb => exact memWf_cons hb ha hm (by simpa using hlt)
    · split
      · next he =>
        subst he
        split
        · exact hr
        · next hb =>
          refine memWf_cons hb ha hr (fun c hc => ?_)
          cases r with
          | nil => simp at hc
          | cons e q => simp at hc; subst hc; exact memWf_lt hm
      · next h1 h2 =>
        refine memWf_cons hd.1 hd.2 (ih hr) ?_
        refine memPut_head r a b k (by omega) (fun c hc => ?_) hr
        cases r with
        | nil => simp at hc
        | cons e q => simp at hc; subst hc; exact memWf_lt hm

/-- Bytes written from an address keep the canonical form. -/
theorem memPuts_wf (m : List Host.Cell) (a : Nat) (l : List Byte) (hm : memWf m = true) : memWf (memPuts m a l) = true := by
  induction l generalizing m a with
  | nil => exact hm
  | cons b r ih =>
    unfold memPuts
    refine ih _ _ ?_
    split
    · next h => exact memPut_wf m a b h hm
    · exact hm

/-! ### Reads and writes -/

/-- A list of cells whose keys all exceed an address reads as the default there. -/
theorem memByte_below (m : List Host.Cell) (a : Nat) (hw : memWf m = true) (h : ∀ c ∈ m.head?, a < c.1) :
    memByte m a = memDefault := by
  induction m with
  | nil => rfl
  | cons d r ih =>
    obtain ⟨k, v⟩ := d
    have hk : a < k := h (k, v) (by simp)
    unfold memByte cellsGet
    rw [if_neg (by omega)]
    refine ih (memWf_tail hw) (fun c hc => ?_)
    cases r with
    | nil => simp at hc
    | cons e q => simp at hc; subst hc; have := memWf_lt hw; simp; omega

/-- A read after a write of one byte sees it at its address, and the old byte at every other. -/
theorem memByte_memPut (m : List Host.Cell) (a x : Nat) (b : Byte) (hw : memWf m = true) :
    memByte (memPut m a b) x = if x = a then b else memByte m x := by
  induction m with
  | nil =>
    unfold memPut cellsPut memByte
    by_cases hb : b = memDefault <;> by_cases hx : x = a <;> simp [hb, hx, cellsGet, eq_comm (a := a)]
  | cons d r ih =>
    obtain ⟨k, v⟩ := d
    have hr := memWf_tail hw
    have hlt : ∀ c ∈ r.head?, k < c.1 := fun c hc => by
      cases r with
      | nil => simp at hc
      | cons e q => simp at hc; subst hc; exact memWf_lt hw
    have ih' : cellsGet (cellsPut r a b memDefault) x memDefault = if x = a then b else cellsGet r x memDefault := ih hr
    have low : cellsGet r k memDefault = memDefault := memByte_below r k hr hlt
    unfold memPut cellsPut memByte
    by_cases h1 : a < k
    · rw [if_pos h1]
      have lowa : cellsGet ((k, v) :: r) a memDefault = memDefault :=
        memByte_below _ a hw (by simpa using h1)
      split
      · next hb => split
                   · next hx => subst hx; rw [lowa, hb]
                   · rfl
      · rw [cellsGet]
        simp only [eq_comm]
    · rw [if_neg h1]
      by_cases h2 : a = k
      · rw [if_pos h2]
        subst h2
        split
        · next hb =>
          by_cases hx : x = a
          · subst hx; rw [if_pos rfl, low, hb]
          · rw [if_neg hx]; simp [cellsGet, Ne.symm hx]
        · by_cases hx : x = a
          · subst hx; simp [cellsGet]
          · simp [cellsGet, hx, Ne.symm hx]
      · rw [if_neg h2]
        rw [cellsGet, cellsGet, ih']
        by_cases hx : k = x
        · subst hx; simp [Ne.symm h2]
        · simp [hx]

/-- Bytes written from an address read back, and every byte outside them is unchanged. -/
theorem memByte_memPuts (m : List Host.Cell) (a x : Nat) (l : List Byte) (hw : memWf m = true)
    (ha : a + l.length ≤ 0x100000) :
    memByte (memPuts m a l) x = if a ≤ x ∧ x < a + l.length then l.getD (x - a) 0 else memByte m x := by
  induction l generalizing m a with
  | nil => simp [memPuts] <;> omega
  | cons b r ih =>
    simp only [List.length_cons] at ha
    unfold memPuts
    rw [if_pos (by omega), ih _ _ (memPut_wf m a b (by omega) hw) (by omega), memByte_memPut m a x b hw]
    by_cases hx : x = a
    · subst hx
      rw [if_neg (by omega), if_pos rfl, if_pos (by simp)]
      simp
    · by_cases h2 : a + 1 ≤ x ∧ x < a + 1 + r.length
      · have e : x - a = (x - (a + 1)) + 1 := by omega
        rw [if_pos h2, if_pos (by simp; omega), e]
        simp
      · rw [if_neg h2, if_neg hx, if_neg (by simp; omega)]

end Sys2Proof.Machine
end

