-- ==== Sys2Proof/Laws/Kept.lean ====
section
/-! SUPPORT. Kept: the relation between a state and one that an operation has made of it, which every operation of the model
keeps: the queue of waiting commands untouched, well-formedness, and the parts of the state that the operation does not
touch. -/

namespace Sys2Proof.Machine

open Sys2Proof

/-- x is y, where the part they are of is to stay. -/
def Fixed {α : Type} (b : Bool) (x y : α) : Prop := b = true → x = y

@[simp] theorem fixed_self {α : Type} (b : Bool) (x : α) : Fixed b x x := fun _ => rfl

@[simp] theorem fixed_false {α : Type} (x y : α) : Fixed false x y := fun h => absurd h (by decide)

/-- The list y is no longer than n entries where x is no longer. -/
def Within {α : Type} (n : Nat) (x y : List α) : Prop := x.length ≤ n → y.length ≤ n

@[simp] theorem within_self {α : Type} (n : Nat) (x : List α) : Within n x x := fun h => h

@[simp] theorem within_nil {α : Type} (n : Nat) (x : List α) : Within n x [] := fun _ => Nat.zero_le n

/-- The memory y is canonical where x is. -/
def MemKept (x y : List Host.Cell) : Prop := memWf x = true → memWf y = true

@[simp] theorem memKept_self (x : List Host.Cell) : MemKept x x := fun h => h

@[simp] theorem memKept_nil (x : List Host.Cell) : MemKept x [] := fun _ => rfl

theorem Fixed.trans {α : Type} {b : Bool} {x y z : α} (h : Fixed b x y) (g : Fixed b y z) : Fixed b x z :=
  fun e => (h e).trans (g e)

/-- What Kept says of the parts of a state. -/
def KeptC (kp : Part → Bool) (s0 : State) (pending : List Instr)
    (free : Nat) (mem : List Host.Cell) (time : TimeState) (cyc : CycState) (evq : EventState) (trace : TraceState)
    (bus : BusState) (cfg : CfgState) (mode : ModeState) (safe : SafeState) (supply : SupplyState) (field :
    FieldState) (health : HealthState) (inj : InjState) (adc : AdcState) (panel : PanelState) (wdog : WdogState) (link
    : LinkState) (txn : TxnState) (sta : StaState) (sec : SecState) (ser : SerState) (media : MediaState) (upd :
    UpdState) (flash : FlashState) (tap : TapState) : Prop :=
  pending = s0.pending ∧
    (s0.Wf → memWf mem = true ∧ evq.queue.length ≤ 256 ∧ trace.ring.length ≤ 2048 ∧ adc.fifo.length ≤ 256) ∧
    Fixed (kp .free) free s0.free ∧ Fixed (kp .mem) mem s0.mem ∧ Fixed (kp .time) time s0.time ∧ Fixed (kp .cyc) cyc
    s0.cyc ∧ Fixed (kp .evq) evq s0.evq ∧ Fixed (kp .trace) trace s0.trace ∧ Fixed (kp .bus) bus s0.bus ∧ Fixed (kp
    .cfg) cfg s0.cfg ∧ Fixed (kp .mode) mode s0.mode ∧ Fixed (kp .safe) safe s0.safe ∧ Fixed (kp .supply) supply
    s0.supply ∧ Fixed (kp .field) field s0.field ∧ Fixed (kp .health) health s0.health ∧ Fixed (kp .inj) inj s0.inj ∧
    Fixed (kp .adc) adc s0.adc ∧ Fixed (kp .panel) panel s0.panel ∧ Fixed (kp .wdog) wdog s0.wdog ∧ Fixed (kp .link)
    link s0.link ∧ Fixed (kp .txn) txn s0.txn ∧ Fixed (kp .sta) sta s0.sta ∧ Fixed (kp .sec) sec s0.sec ∧ Fixed (kp
    .ser) ser s0.ser ∧ Fixed (kp .media) media s0.media ∧ Fixed (kp .upd) upd s0.upd ∧ Fixed (kp .flash) flash
    s0.flash ∧ Fixed (kp .tap) tap s0.tap ∧
    Fixed (kp .straps) (mode.role, mode.crystal) (s0.mode.role, s0.mode.crystal)

/-- From s0 to s the queue of commands is untouched, well-formedness is kept, and every part that kp names stays. -/
def Kept (kp : Part → Bool) (s0 s : State) : Prop :=
  KeptC kp s0 s.pending
    s.free s.mem s.time s.cyc s.evq s.trace s.bus s.cfg s.mode s.safe s.supply s.field s.health s.inj s.adc s.panel
    s.wdog s.link s.txn s.sta s.sec s.ser s.media s.upd s.flash s.tap

/-- A command's answer is kept. -/
def KeptR (kp : Part → Bool) (s0 : State) (r : Result) : Prop :=
  match r with
  | .next t => Kept kp s0 t
  | _ => True

theorem Kept.refl (kp : Part → Bool) (s : State) : Kept kp s s :=
  ⟨rfl, fun h => ⟨h.mem, h.queue, h.ring, h.fifo⟩,
    fixed_self _ _, fixed_self _ _, fixed_self _ _, fixed_self _ _, fixed_self _ _, fixed_self _ _, fixed_self _ _,
    fixed_self _ _, fixed_self _ _, fixed_self _ _, fixed_self _ _, fixed_self _ _, fixed_self _ _, fixed_self _ _,
    fixed_self _ _, fixed_self _ _, fixed_self _ _, fixed_self _ _, fixed_self _ _, fixed_self _ _, fixed_self _ _,
    fixed_self _ _, fixed_self _ _, fixed_self _ _, fixed_self _ _, fixed_self _ _, fixed_self _ _⟩

theorem Kept.pending {kp : Part → Bool} {s0 s : State} (h : Kept kp s0 s) : s.pending = s0.pending := h.1

theorem Kept.wf {kp : Part → Bool} {s0 s : State} (h : Kept kp s0 s) (w : s0.Wf) : s.Wf :=
  ⟨(h.2.1 w).1, (h.2.1 w).2.1, (h.2.1 w).2.2.1, (h.2.1 w).2.2.2⟩

/-- Each part that kp names is the same. -/
theorem Kept.same {kp : Part → Bool} {s0 s : State} (h : Kept kp s0 s) (p : Part) (k : kp p = true) : p.Same s0 s := by
  obtain ⟨-, -, g⟩ := h
  simp only [Fixed] at g
  cases p <;> simp_all [Part.Same]

@[simp] theorem kept_mk (kp : Part → Bool) (s0 : State) (pending : List Instr)
    (free : Nat) (mem : List Host.Cell) (time : TimeState) (cyc : CycState) (evq : EventState) (trace : TraceState)
    (bus : BusState) (cfg : CfgState) (mode : ModeState) (safe : SafeState) (supply : SupplyState) (field :
    FieldState) (health : HealthState) (inj : InjState) (adc : AdcState) (panel : PanelState) (wdog : WdogState) (link
    : LinkState) (txn : TxnState) (sta : StaState) (sec : SecState) (ser : SerState) (media : MediaState) (upd :
    UpdState) (flash : FlashState) (tap : TapState) :
    Kept kp s0 (State.mk pending
      free mem time cyc evq trace bus cfg mode safe supply field health inj adc panel wdog link txn sta sec ser media
      upd flash tap) =
    KeptC kp s0 pending
      free mem time cyc evq trace bus cfg mode safe supply field health inj adc panel wdog link txn sta sec ser media
      upd flash tap := propext Iff.rfl

@[simp] theorem keptC_eta (kp : Part → Bool) (s0 s : State) :
    KeptC kp s0 s.pending
      s.free s.mem s.time s.cyc s.evq s.trace s.bus s.cfg s.mode s.safe s.supply s.field s.health s.inj s.adc s.panel
      s.wdog s.link s.txn s.sta s.sec s.ser s.media s.upd s.flash s.tap = Kept kp s0 s := propext Iff.rfl

@[simp] theorem keptR_next (kp : Part → Bool) (s0 s : State) : KeptR kp s0 (.next s) = Kept kp s0 s := propext Iff.rfl

theorem Kept.cut {kp : Part → Bool} {s0 x : State} {p : Prop} (h : Kept kp s0 x) (f : Kept kp s0 x → p) : p := f h

/-- Parts of a kept state change: those that kp does not name, within the bounds of well-formedness. -/
@[simp] theorem keptC_upd {kp : Part → Bool} {s0 s : State} (h : Kept kp s0 s)
    (free : Nat) (mem : List Host.Cell) (time : TimeState) (cyc : CycState) (evq : EventState) (trace : TraceState)
    (bus : BusState) (cfg : CfgState) (mode : ModeState) (safe : SafeState) (supply : SupplyState) (field :
    FieldState) (health : HealthState) (inj : InjState) (adc : AdcState) (panel : PanelState) (wdog : WdogState) (link
    : LinkState) (txn : TxnState) (sta : StaState) (sec : SecState) (ser : SerState) (media : MediaState) (upd :
    UpdState) (flash : FlashState) (tap : TapState)
    (hm : MemKept s.mem mem) (hq : Within 256 s.evq.queue evq.queue) (hr : Within 2048 s.trace.ring trace.ring)
    (hf : Within 256 s.adc.fifo adc.fifo)
    (f0 : Fixed (kp .free) free s.free) (f1 : Fixed (kp .mem) mem s.mem) (f2 : Fixed (kp .time) time s.time) (f3 :
    Fixed (kp .cyc) cyc s.cyc) (f4 : Fixed (kp .evq) evq s.evq) (f5 : Fixed (kp .trace) trace s.trace) (f6 : Fixed (kp
    .bus) bus s.bus) (f7 : Fixed (kp .cfg) cfg s.cfg) (f8 : Fixed (kp .mode) mode s.mode) (f9 : Fixed (kp .safe) safe
    s.safe) (f10 : Fixed (kp .supply) supply s.supply) (f11 : Fixed (kp .field) field s.field) (f12 : Fixed (kp
    .health) health s.health) (f13 : Fixed (kp .inj) inj s.inj) (f14 : Fixed (kp .adc) adc s.adc) (f15 : Fixed (kp
    .panel) panel s.panel) (f16 : Fixed (kp .wdog) wdog s.wdog) (f17 : Fixed (kp .link) link s.link) (f18 : Fixed (kp
    .txn) txn s.txn) (f19 : Fixed (kp .sta) sta s.sta) (f20 : Fixed (kp .sec) sec s.sec) (f21 : Fixed (kp .ser) ser
    s.ser) (f22 : Fixed (kp .media) media s.media) (f23 : Fixed (kp .upd) upd s.upd) (f24 : Fixed (kp .flash) flash
    s.flash) (f25 : Fixed (kp .tap) tap s.tap)
    (f26 : Fixed (kp .straps) (mode.role, mode.crystal) (s.mode.role, s.mode.crystal)) :
    KeptC kp s0 s.pending
      free mem time cyc evq trace bus cfg mode safe supply field health inj adc panel wdog link txn sta sec ser media
      upd flash tap := by
  obtain ⟨hp, hw, g0, g1, g2, g3, g4, g5, g6, g7, g8, g9, g10, g11, g12, g13, g14, g15, g16, g17, g18, g19, g20, g21, g22, g23, g24, g25, g26⟩ := h
  exact ⟨hp, fun w => ⟨hm (hw w).1, hq (hw w).2.1, hr (hw w).2.2.1, hf (hw w).2.2.2⟩,
    f0.trans g0, f1.trans g1, f2.trans g2, f3.trans g3, f4.trans g4, f5.trans g5, f6.trans g6, f7.trans g7, f8.trans
    g8, f9.trans g9, f10.trans g10, f11.trans g11, f12.trans g12, f13.trans g13, f14.trans g14, f15.trans g15,
    f16.trans g16, f17.trans g17, f18.trans g18, f19.trans g19, f20.trans g20, f21.trans g21, f22.trans g22, f23.trans
    g23, f24.trans g24, f25.trans g25, f26.trans g26⟩

/-- The events change, the event queue within its length. -/
theorem Kept.withEvq {kp : Part → Bool} {s0 s : State} (h : Kept kp s0 s) (e : EventState)
    (hq : Within 256 s.evq.queue e.queue) (hk : kp .evq = false := by assumption) :
    Kept kp s0 { s with evq := e } := by
  simp [h, hk, hq]

/-- The trace changes, its ring within its length. -/
theorem Kept.withTrace {kp : Part → Bool} {s0 s : State} (h : Kept kp s0 s) (e : TraceState)
    (hr : Within 2048 s.trace.ring e.ring) (hk : kp .trace = false := by assumption) :
    Kept kp s0 { s with trace := e } := by
  simp [h, hk, hr]

/-- The converters change, their FIFO within its length. -/
theorem Kept.withAdc {kp : Part → Bool} {s0 s : State} (h : Kept kp s0 s) (e : AdcState)
    (hf : Within 256 s.adc.fifo e.fifo) (hk : kp .adc = false := by assumption) :
    Kept kp s0 { s with adc := e } := by
  simp [h, hk, hf]

/-- SRAM changes, into a canonical form. -/
theorem Kept.withMem {kp : Part → Bool} {s0 s : State} (h : Kept kp s0 s) (m : List Host.Cell)
    (hm : MemKept s.mem m) (hk : kp .mem = false := by assumption) : Kept kp s0 { s with mem := m } := by
  simp [h, hk, hm]

/-- A choice of two kept states is kept. -/
theorem Kept.ite {kp : Part → Bool} {s0 a b : State} {c : Prop} [Decidable c] (ha : Kept kp s0 a) (hb : Kept kp s0 b) :
    Kept kp s0 (if c then a else b) := by
  split
  · exact ha
  · exact hb

/-- A choice of two answers whose states are kept. -/
theorem Kept.iteFst {kp : Part → Bool} {s0 : State} {α : Type} {a b : State × α} {c : Prop} [Decidable c]
    (ha : Kept kp s0 a.1) (hb : Kept kp s0 b.1) : Kept kp s0 (if c then a else b).1 := by
  split
  · exact ha
  · exact hb

/-- A sequence of kept operations is kept. -/
theorem Kept.foldl {kp : Part → Bool} {s0 : State} {α : Type} (f : State → α → State) (l : List α) (s : State)
    (hf : ∀ s, Kept kp s0 s → ∀ x, Kept kp s0 (f s x)) (h : Kept kp s0 s) : Kept kp s0 (l.foldl f s) := by
  induction l generalizing s with
  | nil => exact h
  | cons x r ih => exact ih _ (hf _ h x)

/-- A sequence of kept operations that carry a value along is kept. -/
theorem Kept.foldlFst {kp : Part → Bool} {s0 : State} {α β : Type} (f : State × β → α → State × β) (l : List α)
    (p : State × β) (hf : ∀ p, Kept kp s0 p.1 → ∀ x, Kept kp s0 (f p x).1) (h : Kept kp s0 p.1) :
    Kept kp s0 (l.foldl f p).1 := by
  induction l generalizing p with
  | nil => exact h
  | cons x r ih => exact ih _ (hf _ h x)

end Sys2Proof.Machine
end

