-- ==== Sys2Proof/Laws/KeptShared.lean ====
section
/-! SUPPORT. KeptShared: every operation that answers a state keeps Kept, one lemma for each, named after it.
The shared operations, the ports, the queues and the held transactions. -/

namespace Sys2Proof.Machine

open Sys2Proof

-- One proof at a time: in the package as one text, proofs checked side by side ask for too many threads.
set_option Elab.async false

/-! ### Ops -/

@[simp] theorem State.store_kept {kp : Part → Bool} {s0 : State} (s : State) (a : Nat) (l : List Byte)
    (h : Kept kp s0 s)
    (m_mem : kp .mem = false := by assumption) :
    Kept kp s0 (State.store s a l) := by
  have := h.withMem _ (memPuts_wf s.mem a l)
  exact this

@[simp] theorem State.reach_kept {kp : Part → Bool} {s0 : State} (s : State) (t : Nat) (hk0 : Kept kp s0 s)
    (m_time : kp .time = false := by assumption) :
    Kept kp s0 (State.reach s t) := by
  unfold State.reach
  repeat' split
  all_goals simp_all

@[simp] theorem State.reason_kept {kp : Part → Bool} {s0 : State} (s : State) (r : Word) (hk0 : Kept kp s0 s)
    (m_mode : kp .mode = false := by assumption) :
    Kept kp s0 (State.reason s r) := by
  unfold State.reason
  simp_all

@[simp] theorem State.takeFree_kept {kp : Part → Bool} {s0 : State} (s : State) (hk0 : Kept kp s0 s)
    (m_free : kp .free = false := by assumption) :
    Kept kp s0 (State.takeFree s).2 := by
  unfold State.takeFree
  simp_all

@[simp] theorem State.takeReadings_kept {kp : Part → Bool} {s0 : State} (s : State)
    (hk0 : Kept kp s0 s)
    (m_free : kp .free = false := by assumption) :
    Kept kp s0 (State.takeReadings s).2 := by
  unfold State.takeReadings
  try dsimp only
  repeat' split
  all_goals simp_all (maxDischargeDepth := 9)

@[simp] theorem putTrace_kept {kp : Part → Bool} {s0 : State} (s : State) (source : Byte) (code : Byte) (arg : Nat)
    (h : Kept kp s0 s)
    (m_trace : kp .trace = false := by assumption) :
    Kept kp s0 (putTrace s source code arg) := by
  unfold putTrace
  split
  · simp_all
  · refine h.withTrace _ (fun hr => ?_)
    simp only
    split <;> simp_all <;> omega

@[simp] theorem postQ_kept {kp : Part → Bool} {s0 : State} (s : State) (code : Nat) (argx : Nat) (arg : Word)
    (h : Kept kp s0 s)
    (m_evq : kp .evq = false := by assumption) :
    Kept kp s0 (postQ s code argx arg) := by
  unfold postQ
  split
  · exact h
  · refine h.withEvq _ (fun hq => ?_)
    simpa using enter_length s.evq _ hq

@[simp] theorem post_kept {kp : Part → Bool} {s0 : State} (s : State) (code : Nat) (argx : Nat) (arg : Word)
    (hk0 : Kept kp s0 s)
    (m_evq : kp .evq = false := by assumption) (m_trace : kp .trace = false := by assumption) :
    Kept kp s0 (post s code argx arg) := by
  unfold post
  simp_all

@[simp] theorem detail_kept {kp : Part → Bool} {s0 : State} (s : State) (code : Nat) (arg48 : Nat) (hk0 : Kept kp s0 s)
    (m_trace : kp .trace = false := by assumption) :
    Kept kp s0 (detail s code arg48) := by
  unfold detail
  repeat' split
  all_goals simp_all

@[simp] theorem State.setChan_kept {kp : Part → Bool} {s0 : State} (s : State) (n : Nat) (c : Chan) (hk0 : Kept kp s0 s)
    (m_field : kp .field = false := by assumption) :
    Kept kp s0 (State.setChan s n c) := by
  unfold State.setChan
  simp_all

@[simp] theorem State.onChan_kept {kp : Part → Bool} {s0 : State} (s : State) (n : Nat) (f : Chan → Chan)
    (hk0 : Kept kp s0 s)
    (m_field : kp .field = false := by assumption) :
    Kept kp s0 (State.onChan s n f) := by
  unfold State.onChan
  simp_all

@[simp] theorem State.onChans_kept {kp : Part → Bool} {s0 : State} (s : State) (f : Nat → Chan → Chan)
    (hk0 : Kept kp s0 s)
    (m_field : kp .field = false := by assumption) :
    Kept kp s0 (State.onChans s f) := by
  unfold State.onChans
  simp_all

@[simp] theorem eachNo_kept {kp : Part → Bool} {s0 : State} (l : List Nat) (f : State → Nat → State) (s : State)
    (hf : ∀ s, Kept kp s0 s → ∀ n, Kept kp s0 (f s n)) (h : Kept kp s0 s) :
    Kept kp s0 (eachNo l f s) := by
  induction l generalizing s with
  | nil => exact h
  | cons n r ih => exact ih _ (hf _ h _)

/-! ### Flags -/

@[simp] theorem withTimeOk_kept {kp : Part → Bool} {s0 : State} (s : State) (f : State → State)
    (hf : ∀ s, Kept kp s0 s → Kept kp s0 (f s)) (h : Kept kp s0 s)
    (m_evq : kp .evq = false := by assumption) (m_trace : kp .trace = false := by assumption) :
    Kept kp s0 (withTimeOk s f) := by
  unfold withTimeOk
  dsimp only
  split
  · exact post_kept _ _ _ _ (hf _ h)
  · exact hf _ h

@[simp] theorem seeFine_kept {kp : Part → Bool} {s0 : State} (s : State) (hk0 : Kept kp s0 s)
    (m_sta : kp .sta = false := by assumption) :
    Kept kp s0 (seeFine s) := by
  unfold seeFine
  repeat' split
  all_goals simp_all

@[simp] theorem timeJudge_kept {kp : Part → Bool} {s0 : State} (s : State)
    (hk0 : Kept kp s0 s)
    (m_time : kp .time = false := by assumption) (m_evq : kp .evq = false := by assumption)
    (m_trace : kp .trace = false := by assumption) (m_sta : kp .sta = false := by assumption) :
    Kept kp s0 (timeJudge s) := by
  unfold timeJudge
  try dsimp only
  repeat' split
  all_goals simp_all (maxDischargeDepth := 9)

@[simp] theorem tick_kept {kp : Part → Bool} {s0 : State} (s : State) (hk0 : Kept kp s0 s)
    (m_time : kp .time = false := by assumption) (m_evq : kp .evq = false := by assumption)
    (m_trace : kp .trace = false := by assumption) (m_sta : kp .sta = false := by assumption) :
    Kept kp s0 (tick s) := by
  unfold tick
  repeat' split
  all_goals simp_all

/-! ### Channels -/

@[simp] theorem refresh_kept {kp : Part → Bool} {s0 : State} (s : State) (hk0 : Kept kp s0 s)
    (m_field : kp .field = false := by assumption) :
    Kept kp s0 (refresh s) := by
  unfold refresh
  simp_all

@[simp] theorem captureKind2_kept {kp : Part → Bool} {s0 : State} (s : State) (hk0 : Kept kp s0 s)
    (m_field : kp .field = false := by assumption) :
    Kept kp s0 (captureKind2 s) := by
  unfold captureKind2
  simp_all

@[simp] theorem writeLocal_kept {kp : Part → Bool} {s0 : State} (s : State) (n : Nat) (v : Word) (hk0 : Kept kp s0 s)
    (m_field : kp .field = false := by assumption) :
    Kept kp s0 (writeLocal s n v) := by
  unfold writeLocal
  simp_all

@[simp] theorem writeChout_kept {kp : Part → Bool} {s0 : State} (s : State) (w : Word) (hk0 : Kept kp s0 s)
    (m_field : kp .field = false := by assumption) :
    Kept kp s0 (writeChout s w) := by
  unfold writeChout
  simp_all (maxDischargeDepth := 9)

@[simp] theorem clearForces_kept {kp : Part → Bool} {s0 : State} (s : State) (hk0 : Kept kp s0 s)
    (m_field : kp .field = false := by assumption) :
    Kept kp s0 (clearForces s) := by
  unfold clearForces
  simp_all

@[simp] theorem endJog_kept {kp : Part → Bool} {s0 : State} (s : State) (posts : Bool) (hk0 : Kept kp s0 s)
    (m_evq : kp .evq = false := by assumption) (m_trace : kp .trace = false := by assumption)
    (m_field : kp .field = false := by assumption) (m_panel : kp .panel = false := by assumption) :
    Kept kp s0 (endJog s posts) := by
  unfold endJog
  dsimp only
  repeat' split
  all_goals simp_all (maxDischargeDepth := 9)

@[simp] theorem postStartList_kept {kp : Part → Bool} {s0 : State} (s : State) (n : Nat) (argx : Nat)
    (slots : List Nat) (hk0 : Kept kp s0 s)
    (m_evq : kp .evq = false := by assumption) (m_trace : kp .trace = false := by assumption) :
    Kept kp s0 (postStartList s n argx slots) := by
  unfold postStartList
  simp_all

@[simp] theorem discardChan_kept {kp : Part → Bool} {s0 : State} (s : State) (n : Nat) (hk0 : Kept kp s0 s)
    (m_evq : kp .evq = false := by assumption) (m_trace : kp .trace = false := by assumption)
    (m_field : kp .field = false := by assumption) :
    Kept kp s0 (discardChan s n) := by
  unfold discardChan
  simp_all

@[simp] theorem discardAll_kept {kp : Part → Bool} {s0 : State} (s : State) (hk0 : Kept kp s0 s)
    (m_evq : kp .evq = false := by assumption) (m_trace : kp .trace = false := by assumption)
    (m_field : kp .field = false := by assumption) :
    Kept kp s0 (discardAll s) := by
  unfold discardAll
  simp_all

/-! ### Power -/

@[simp] theorem freezeCheck_kept {kp : Part → Bool} {s0 : State} (s : State) (hk0 : Kept kp s0 s)
    (m_wdog : kp .wdog = false := by assumption) :
    Kept kp s0 (freezeCheck s) := by
  unfold freezeCheck
  simp_all

@[simp] theorem thawH_kept {kp : Part → Bool} {s0 : State} (s : State) (hk0 : Kept kp s0 s)
    (m_wdog : kp .wdog = false := by assumption) :
    Kept kp s0 (thawH s) := by
  unfold thawH
  simp_all

@[simp] theorem thawC_kept {kp : Part → Bool} {s0 : State} (s : State) (hk0 : Kept kp s0 s)
    (m_wdog : kp .wdog = false := by assumption) :
    Kept kp s0 (thawC s) := by
  unfold thawC
  simp_all

@[simp] theorem thawCheck_kept {kp : Part → Bool} {s0 : State} (s : State) (hk0 : Kept kp s0 s)
    (m_wdog : kp .wdog = false := by assumption) :
    Kept kp s0 (thawCheck s) := by
  unfold thawCheck
  dsimp only
  repeat' split
  all_goals simp_all

@[simp] theorem wdhCheck_kept {kp : Part → Bool} {s0 : State} (s : State) (hk0 : Kept kp s0 s)
    (m_safe : kp .safe = false := by assumption) (m_wdog : kp .wdog = false := by assumption) :
    Kept kp s0 (wdhCheck s) := by
  unfold wdhCheck
  repeat' split
  all_goals simp_all

@[simp] theorem wdcStart_kept {kp : Part → Bool} {s0 : State} (s : State) (hk0 : Kept kp s0 s)
    (m_wdog : kp .wdog = false := by assumption) :
    Kept kp s0 (wdcStart s) := by
  unfold wdcStart
  simp_all

@[simp] theorem wdcStop_kept {kp : Part → Bool} {s0 : State} (s : State) (hk0 : Kept kp s0 s)
    (m_wdog : kp .wdog = false := by assumption) :
    Kept kp s0 (wdcStop s) := by
  unfold wdcStop
  simp_all

@[simp] theorem restartFilter_kept {kp : Part → Bool} {s0 : State} (s : State) (e : Nat) (hk0 : Kept kp s0 s)
    (m_adc : kp .adc = false := by assumption) :
    Kept kp s0 (restartFilter s e) := by
  unfold restartFilter
  simp_all

@[simp] theorem restartFilters_kept {kp : Part → Bool} {s0 : State} (s : State) (hk0 : Kept kp s0 s)
    (m_adc : kp .adc = false := by assumption) :
    Kept kp s0 (restartFilters s) := by
  unfold restartFilters
  simp_all

@[simp] theorem beginRound_kept {kp : Part → Bool} {s0 : State} (s : State) (hk0 : Kept kp s0 s)
    (m_adc : kp .adc = false := by assumption) :
    Kept kp s0 (beginRound s) := by
  unfold beginRound
  simp_all

@[simp] theorem abortRound_kept {kp : Part → Bool} {s0 : State} (s : State) (hk0 : Kept kp s0 s)
    (m_adc : kp .adc = false := by assumption) :
    Kept kp s0 (abortRound s) := by
  unfold abortRound
  simp_all

@[simp] theorem adcRestart_kept {kp : Part → Bool} {s0 : State} (s : State) (hk0 : Kept kp s0 s)
    (m_adc : kp .adc = false := by assumption) :
    Kept kp s0 (adcRestart s) := by
  unfold adcRestart
  dsimp only
  repeat' split
  all_goals simp_all (maxDischargeDepth := 9)

@[simp] theorem calAbortStep_kept {kp : Part → Bool} {s0 : State} (s : State) (hk0 : Kept kp s0 s)
    (m_evq : kp .evq = false := by assumption) (m_trace : kp .trace = false := by assumption)
    (m_adc : kp .adc = false := by assumption) :
    Kept kp s0 (calAbortStep s) := by
  unfold calAbortStep
  repeat' split
  all_goals simp_all

@[simp] theorem captureCut_kept {kp : Part → Bool} {s0 : State} (s : State) (hk0 : Kept kp s0 s)
    (m_adc : kp .adc = false := by assumption) :
    Kept kp s0 (captureCut s) := by
  unfold captureCut
  simp_all

@[simp] theorem injTrigger_kept {kp : Part → Bool} {s0 : State} (s : State) (hk0 : Kept kp s0 s)
    (m_adc : kp .adc = false := by assumption) :
    Kept kp s0 (injTrigger s) := by
  unfold injTrigger
  repeat' split
  all_goals simp_all

@[simp] theorem injReindex_kept {kp : Part → Bool} {s0 : State} (s : State)
    (hk0 : Kept kp s0 s)
    (m_adc : kp .adc = false := by assumption) :
    Kept kp s0 (injReindex s) := by
  unfold injReindex
  try dsimp only
  repeat' split
  all_goals simp_all (maxDischargeDepth := 9)

@[simp] theorem injDisarm_kept {kp : Part → Bool} {s0 : State} (s : State) (hk0 : Kept kp s0 s)
    (m_inj : kp .inj = false := by assumption) :
    Kept kp s0 (injDisarm s) := by
  unfold injDisarm
  simp_all

@[simp] theorem injCheck_kept {kp : Part → Bool} {s0 : State} (s : State) (hk0 : Kept kp s0 s)
    (m_inj : kp .inj = false := by assumption) :
    Kept kp s0 (injCheck s) := by
  unfold injCheck
  dsimp only
  repeat' split
  all_goals simp_all

@[simp] theorem wake_kept {kp : Part → Bool} {s0 : State} (s : State) (cause : Nat) (hk0 : Kept kp s0 s)
    (m_evq : kp .evq = false := by assumption) (m_trace : kp .trace = false := by assumption)
    (m_mode : kp .mode = false := by assumption) (m_safe : kp .safe = false := by assumption)
    (m_adc : kp .adc = false := by assumption) (m_wdog : kp .wdog = false := by assumption) :
    Kept kp s0 (wake s cause) := by
  unfold wake
  dsimp only
  repeat' split
  all_goals simp_all (maxDischargeDepth := 9)

@[simp] theorem warnRaise_kept {kp : Part → Bool} {s0 : State} (s : State) (r : Nat) (hk0 : Kept kp s0 s)
    (m_evq : kp .evq = false := by assumption) (m_trace : kp .trace = false := by assumption)
    (m_mode : kp .mode = false := by assumption) (m_safe : kp .safe = false := by assumption)
    (m_health : kp .health = false := by assumption) (m_adc : kp .adc = false := by assumption)
    (m_wdog : kp .wdog = false := by assumption) :
    Kept kp s0 (warnRaise s r) := by
  unfold warnRaise
  dsimp only
  repeat' split
  all_goals simp_all (maxDischargeDepth := 9)

@[simp] theorem warnClear_kept {kp : Part → Bool} {s0 : State} (s : State) (r : Nat) (hk0 : Kept kp s0 s)
    (m_health : kp .health = false := by assumption) :
    Kept kp s0 (warnClear s r) := by
  unfold warnClear
  simp_all

@[simp] theorem warnFollow_kept {kp : Part → Bool} {s0 : State} (s : State) (r : Nat) (c : Bool) (hk0 : Kept kp s0 s)
    (m_evq : kp .evq = false := by assumption) (m_trace : kp .trace = false := by assumption)
    (m_mode : kp .mode = false := by assumption) (m_safe : kp .safe = false := by assumption)
    (m_health : kp .health = false := by assumption) (m_adc : kp .adc = false := by assumption)
    (m_wdog : kp .wdog = false := by assumption) :
    Kept kp s0 (warnFollow s r c) := by
  unfold warnFollow
  repeat' split
  all_goals simp_all

@[simp] theorem replaceRaise_kept {kp : Part → Bool} {s0 : State} (s : State) (r : Nat) (keysBad : Bool)
    (hk0 : Kept kp s0 s)
    (m_evq : kp .evq = false := by assumption) (m_trace : kp .trace = false := by assumption)
    (m_mode : kp .mode = false := by assumption) (m_safe : kp .safe = false := by assumption)
    (m_health : kp .health = false := by assumption) (m_adc : kp .adc = false := by assumption)
    (m_wdog : kp .wdog = false := by assumption) :
    Kept kp s0 (replaceRaise s r keysBad) := by
  unfold replaceRaise
  dsimp only
  repeat' split
  all_goals simp_all (maxDischargeDepth := 9)

/-! ### Safe -/

@[simp] theorem afterMode_kept {kp : Part → Bool} {s0 : State} (s : State) (hk0 : Kept kp s0 s)
    (m_evq : kp .evq = false := by assumption) (m_trace : kp .trace = false := by assumption)
    (m_safe : kp .safe = false := by assumption) (m_field : kp .field = false := by assumption)
    (m_inj : kp .inj = false := by assumption) (m_panel : kp .panel = false := by assumption)
    (m_wdog : kp .wdog = false := by assumption) (m_link : kp .link = false := by assumption) :
    Kept kp s0 (afterMode s) := by
  unfold afterMode
  dsimp only
  repeat' split
  all_goals simp_all (maxDischargeDepth := 9)

@[simp] theorem changeMode_kept {kp : Part → Bool} {s0 : State} (s : State) (m : Mode) (hk0 : Kept kp s0 s)
    (m_evq : kp .evq = false := by assumption) (m_trace : kp .trace = false := by assumption)
    (m_mode : kp .mode = false := by assumption) (m_safe : kp .safe = false := by assumption)
    (m_field : kp .field = false := by assumption) (m_inj : kp .inj = false := by assumption)
    (m_panel : kp .panel = false := by assumption) (m_wdog : kp .wdog = false := by assumption)
    (m_link : kp .link = false := by assumption) :
    Kept kp s0 (changeMode s m) := by
  unfold changeMode
  simp_all (maxDischargeDepth := 9)

@[simp] theorem postSafeEnter_kept {kp : Part → Bool} {s0 : State} (s : State) (t : Nat) (hk0 : Kept kp s0 s)
    (m_evq : kp .evq = false := by assumption) (m_trace : kp .trace = false := by assumption) :
    Kept kp s0 (postSafeEnter s t) := by
  unfold postSafeEnter
  simp_all

@[simp] theorem takeProfile_kept {kp : Part → Bool} {s0 : State} (s : State) (p : Nat) (hk0 : Kept kp s0 s)
    (m_safe : kp .safe = false := by assumption) (m_field : kp .field = false := by assumption) :
    Kept kp s0 (takeProfile s p) := by
  unfold takeProfile
  simp_all (maxDischargeDepth := 9)

@[simp] theorem setInForce_kept {kp : Part → Bool} {s0 : State} (s : State) (t : Nat) (p : Nat) (hk0 : Kept kp s0 s)
    (m_safe : kp .safe = false := by assumption) (m_field : kp .field = false := by assumption) :
    Kept kp s0 (setInForce s t p) := by
  unfold setInForce
  repeat' split
  all_goals simp_all

@[simp] theorem enterSafe_kept {kp : Part → Bool} {s0 : State} (s : State) (t : Nat) (p : Nat) (fromSetup : Bool)
    (reason : Word) (hk0 : Kept kp s0 s)
    (m_evq : kp .evq = false := by assumption) (m_trace : kp .trace = false := by assumption)
    (m_mode : kp .mode = false := by assumption) (m_safe : kp .safe = false := by assumption)
    (m_field : kp .field = false := by assumption) (m_inj : kp .inj = false := by assumption)
    (m_panel : kp .panel = false := by assumption) (m_wdog : kp .wdog = false := by assumption)
    (m_link : kp .link = false := by assumption) :
    Kept kp s0 (enterSafe s t p fromSetup reason) := by
  unfold enterSafe
  simp_all (maxDischargeDepth := 9)

@[simp] theorem markTrigger_kept {kp : Part → Bool} {s0 : State} (s : State) (t : Nat) (hk0 : Kept kp s0 s)
    (m_safe : kp .safe = false := by assumption) :
    Kept kp s0 (markTrigger s t) := by
  unfold markTrigger
  simp_all

@[simp] theorem triggerHw_kept {kp : Part → Bool} {s0 : State} (s : State) (t : Nat) (reason : Word)
    (hk0 : Kept kp s0 s)
    (m_evq : kp .evq = false := by assumption) (m_trace : kp .trace = false := by assumption)
    (m_mode : kp .mode = false := by assumption) (m_safe : kp .safe = false := by assumption)
    (m_field : kp .field = false := by assumption) (m_inj : kp .inj = false := by assumption)
    (m_panel : kp .panel = false := by assumption) (m_wdog : kp .wdog = false := by assumption)
    (m_link : kp .link = false := by assumption) :
    Kept kp s0 (triggerHw s t reason) := by
  unfold triggerHw
  dsimp only
  repeat' split
  all_goals simp_all (maxDischargeDepth := 9)

@[simp] theorem trigger_kept {kp : Part → Bool} {s0 : State} (s : State) (t : Nat) (reason : Word) (hk0 : Kept kp s0 s)
    (m_evq : kp .evq = false := by assumption) (m_trace : kp .trace = false := by assumption)
    (m_mode : kp .mode = false := by assumption) (m_safe : kp .safe = false := by assumption)
    (m_field : kp .field = false := by assumption) (m_inj : kp .inj = false := by assumption)
    (m_adc : kp .adc = false := by assumption) (m_panel : kp .panel = false := by assumption)
    (m_wdog : kp .wdog = false := by assumption) (m_link : kp .link = false := by assumption) :
    Kept kp s0 (trigger s t reason) := by
  unfold trigger
  simp_all

@[simp] theorem releaseTrigger_kept {kp : Part → Bool} {s0 : State} (s : State) (t : Nat) (hk0 : Kept kp s0 s)
    (m_safe : kp .safe = false := by assumption) :
    Kept kp s0 (releaseTrigger s t) := by
  unfold releaseTrigger
  simp_all

@[simp] theorem leaveSafe_kept {kp : Part → Bool} {s0 : State} (s : State) (hk0 : Kept kp s0 s)
    (m_safe : kp .safe = false := by assumption) :
    Kept kp s0 (leaveSafe s) := by
  unfold leaveSafe
  simp_all

@[simp] theorem enterRun_kept {kp : Part → Bool} {s0 : State} (s : State) (hk0 : Kept kp s0 s)
    (m_cyc : kp .cyc = false := by assumption) (m_evq : kp .evq = false := by assumption)
    (m_trace : kp .trace = false := by assumption) (m_mode : kp .mode = false := by assumption)
    (m_safe : kp .safe = false := by assumption) (m_field : kp .field = false := by assumption)
    (m_inj : kp .inj = false := by assumption) (m_adc : kp .adc = false := by assumption)
    (m_panel : kp .panel = false := by assumption) (m_wdog : kp .wdog = false := by assumption)
    (m_link : kp .link = false := by assumption) :
    Kept kp s0 (enterRun s) := by
  unfold enterRun
  simp_all (maxDischargeDepth := 9)

@[simp] theorem endRunHold_kept {kp : Part → Bool} {s0 : State} (s : State) (hk0 : Kept kp s0 s)
    (m_field : kp .field = false := by assumption) :
    Kept kp s0 (endRunHold s) := by
  unfold endRunHold
  simp_all

@[simp] theorem pauseBegin_kept {kp : Part → Bool} {s0 : State} (s : State) (hk0 : Kept kp s0 s)
    (m_mode : kp .mode = false := by assumption) (m_safe : kp .safe = false := by assumption)
    (m_field : kp .field = false := by assumption) :
    Kept kp s0 (pauseBegin s) := by
  unfold pauseBegin
  simp_all (maxDischargeDepth := 9)

@[simp] theorem pauseEnd_kept {kp : Part → Bool} {s0 : State} (s : State) (hk0 : Kept kp s0 s)
    (m_safe : kp .safe = false := by assumption) (m_field : kp .field = false := by assumption) :
    Kept kp s0 (pauseEnd s) := by
  unfold pauseEnd
  dsimp only
  repeat' split
  all_goals simp_all (maxDischargeDepth := 9)

/-! ### Cycle -/

@[simp] theorem sampleAt_kept {kp : Part → Bool} {s0 : State} (s : State) (k : Nat) (readings : List Word)
    (hk0 : Kept kp s0 s)
    (m_cyc : kp .cyc = false := by assumption) (m_field : kp .field = false := by assumption) :
    Kept kp s0 (sampleAt s k readings) := by
  unfold sampleAt
  dsimp only
  repeat' split
  all_goals simp_all (maxDischargeDepth := 9)

@[simp] theorem snapshotReady_kept {kp : Part → Bool} {s0 : State} (s : State) (hk0 : Kept kp s0 s)
    (m_cyc : kp .cyc = false := by assumption) :
    Kept kp s0 (snapshotReady s) := by
  unfold snapshotReady
  repeat' split
  all_goals simp_all

@[simp] theorem postLineLoss_kept {kp : Part → Bool} {s0 : State} (s : State) (hk0 : Kept kp s0 s)
    (m_evq : kp .evq = false := by assumption) (m_trace : kp .trace = false := by assumption) :
    Kept kp s0 (postLineLoss s) := by
  unfold postLineLoss
  simp_all

@[simp] theorem lineLoss_kept {kp : Part → Bool} {s0 : State} (s : State) (hk0 : Kept kp s0 s)
    (m_cyc : kp .cyc = false := by assumption) (m_evq : kp .evq = false := by assumption)
    (m_trace : kp .trace = false := by assumption) (m_mode : kp .mode = false := by assumption)
    (m_safe : kp .safe = false := by assumption) (m_field : kp .field = false := by assumption)
    (m_inj : kp .inj = false := by assumption) (m_adc : kp .adc = false := by assumption)
    (m_panel : kp .panel = false := by assumption) (m_wdog : kp .wdog = false := by assumption)
    (m_link : kp .link = false := by assumption) :
    Kept kp s0 (lineLoss s) := by
  unfold lineLoss
  dsimp only
  repeat' split
  all_goals simp_all (maxDischargeDepth := 9)

@[simp] theorem missRun_kept {kp : Part → Bool} {s0 : State} (s : State) (n : Nat) (hk0 : Kept kp s0 s)
    (m_cyc : kp .cyc = false := by assumption) (m_evq : kp .evq = false := by assumption)
    (m_trace : kp .trace = false := by assumption) (m_mode : kp .mode = false := by assumption)
    (m_safe : kp .safe = false := by assumption) (m_field : kp .field = false := by assumption)
    (m_inj : kp .inj = false := by assumption) (m_adc : kp .adc = false := by assumption)
    (m_panel : kp .panel = false := by assumption) (m_wdog : kp .wdog = false := by assumption)
    (m_link : kp .link = false := by assumption) :
    Kept kp s0 (missRun s n) := by
  unfold missRun
  dsimp only
  repeat' split
  all_goals simp_all

@[simp] theorem clampAo_kept {kp : Part → Bool} {s0 : State} (s : State) (n : Nat) (v : Word) (hk0 : Kept kp s0 s)
    (m_field : kp .field = false := by assumption) :
    Kept kp s0 (clampAo s n v).2 := by
  unfold clampAo
  repeat' split
  all_goals simp_all

@[simp] theorem writeCyc_kept {kp : Part → Bool} {s0 : State} (s : State) (n : Nat) (v : Word) (hk0 : Kept kp s0 s)
    (m_field : kp .field = false := by assumption) :
    Kept kp s0 (writeCyc s n v) := by
  unfold writeCyc
  simp_all

@[simp] theorem applyItem_kept {kp : Part → Bool} {s0 : State} (s : State) (item : Word) (w : Word) (hk0 : Kept kp s0 s)
    (m_field : kp .field = false := by assumption) :
    Kept kp s0 (applyItem s item w).1 := by
  unfold applyItem
  dsimp only
  split
  · refine Kept.foldlFst _ _ _ (fun p hp n => ?_) hk0
    repeat' split
    all_goals first | exact hp | exact writeCyc_kept _ _ _ hp
  · split
    · exact writeCyc_kept _ _ _ hk0
    · exact hk0
  · split
    · exact writeCyc_kept _ _ _ hk0
    · exact hk0
  · refine Kept.foldlFst _ _ _ (fun p hp n => ?_) hk0
    split
    · exact hp
    · split
      · exact State.onChan_kept _ _ _ hp
      · exact State.onChan_kept _ _ _ (State.onChan_kept _ _ _ hp)
      · exact hp
  · exact hk0

@[simp] theorem applyItems_kept {kp : Part → Bool} {s0 : State} (s : State) (l : List (Word × Word))
    (hk0 : Kept kp s0 s)
    (m_field : kp .field = false := by assumption) :
    Kept kp s0 (applyItems s l) := by
  induction l generalizing s with
  | nil => simp_all [applyItems]
  | cons x r ih =>
    unfold applyItems
    have h := applyItem_kept s x.1 x.2 hk0
    generalize applyItem s x.1 x.2 = y at h
    refine ih _ ?_
    simp_all

@[simp] theorem applyCommit_kept {kp : Part → Bool} {s0 : State} (s : State) (c : Commit) (hk0 : Kept kp s0 s)
    (m_cyc : kp .cyc = false := by assumption) (m_evq : kp .evq = false := by assumption)
    (m_trace : kp .trace = false := by assumption) (m_mode : kp .mode = false := by assumption)
    (m_safe : kp .safe = false := by assumption) (m_field : kp .field = false := by assumption)
    (m_inj : kp .inj = false := by assumption) (m_adc : kp .adc = false := by assumption)
    (m_panel : kp .panel = false := by assumption) (m_wdog : kp .wdog = false := by assumption)
    (m_link : kp .link = false := by assumption) (m_upd : kp .upd = false := by assumption) :
    Kept kp s0 (applyCommit s c) := by
  unfold applyCommit
  dsimp only
  repeat' split
  all_goals simp_all (maxDischargeDepth := 9)

@[simp] theorem applyAt_kept {kp : Part → Bool} {s0 : State} (s : State) (k : Nat) (hk0 : Kept kp s0 s)
    (m_cyc : kp .cyc = false := by assumption) (m_evq : kp .evq = false := by assumption)
    (m_trace : kp .trace = false := by assumption) (m_mode : kp .mode = false := by assumption)
    (m_safe : kp .safe = false := by assumption) (m_field : kp .field = false := by assumption)
    (m_inj : kp .inj = false := by assumption) (m_adc : kp .adc = false := by assumption)
    (m_panel : kp .panel = false := by assumption) (m_wdog : kp .wdog = false := by assumption)
    (m_link : kp .link = false := by assumption) (m_upd : kp .upd = false := by assumption) :
    Kept kp s0 (applyAt s k) := by
  unfold applyAt
  dsimp only
  repeat' split
  all_goals simp_all

@[simp] theorem cycleRestart_kept {kp : Part → Bool} {s0 : State} (s : State) (hk0 : Kept kp s0 s)
    (m_cyc : kp .cyc = false := by assumption) :
    Kept kp s0 (cycleRestart s) := by
  unfold cycleRestart
  simp_all

@[simp] theorem fireApply_kept {kp : Part → Bool} {s0 : State} (s : State) (hk0 : Kept kp s0 s)
    (m_cyc : kp .cyc = false := by assumption) (m_evq : kp .evq = false := by assumption)
    (m_trace : kp .trace = false := by assumption) (m_mode : kp .mode = false := by assumption)
    (m_safe : kp .safe = false := by assumption) (m_field : kp .field = false := by assumption)
    (m_inj : kp .inj = false := by assumption) (m_adc : kp .adc = false := by assumption)
    (m_panel : kp .panel = false := by assumption) (m_wdog : kp .wdog = false := by assumption)
    (m_link : kp .link = false := by assumption) (m_upd : kp .upd = false := by assumption) :
    Kept kp s0 (fireApply s) := by
  unfold fireApply
  simp_all

@[simp] theorem fireSample_kept {kp : Part → Bool} {s0 : State} (s : State) (readings : List Word) (hk0 : Kept kp s0 s)
    (m_cyc : kp .cyc = false := by assumption) (m_field : kp .field = false := by assumption)
    (m_adc : kp .adc = false := by assumption) :
    Kept kp s0 (fireSample s readings) := by
  unfold fireSample
  dsimp only
  repeat' split
  all_goals simp_all (maxDischargeDepth := 9)

/-! ### Link -/

@[simp] theorem State.setPort_kept {kp : Part → Bool} {s0 : State} (s : State) (p : Port) (l : LinkPort)
    (hk0 : Kept kp s0 s)
    (m_link : kp .link = false := by assumption) :
    Kept kp s0 (State.setPort s p l) := by
  unfold State.setPort
  repeat' split
  all_goals simp_all

@[simp] theorem State.onPort_kept {kp : Part → Bool} {s0 : State} (s : State) (p : Port) (f : LinkPort → LinkPort)
    (hk0 : Kept kp s0 s)
    (m_link : kp .link = false := by assumption) :
    Kept kp s0 (State.onPort s p f) := by
  unfold State.onPort
  simp_all

@[simp] theorem loadGeo_kept {kp : Part → Bool} {s0 : State} (s : State) (hk0 : Kept kp s0 s)
    (m_link : kp .link = false := by assumption) :
    Kept kp s0 (loadGeo s) := by
  unfold loadGeo
  simp_all

@[simp] theorem counting_kept {kp : Part → Bool} {s0 : State} (s : State) (f : State → State)
    (hf : ∀ s, Kept kp s0 s → Kept kp s0 (f s)) (h : Kept kp s0 s) :
    Kept kp s0 (counting s f) := by
  unfold counting
  split
  · exact h
  · exact hf _ h

@[simp] theorem lnkErrors_kept {kp : Part → Bool} {s0 : State} (s : State) (p : Port) (n : Nat) (hk0 : Kept kp s0 s)
    (m_health : kp .health = false := by assumption) :
    Kept kp s0 (lnkErrors s p n) := by
  unfold lnkErrors
  repeat' split
  all_goals simp_all

@[simp] theorem refreshMode_kept {kp : Part → Bool} {s0 : State} (s : State) (hk0 : Kept kp s0 s)
    (m_link : kp .link = false := by assumption) :
    Kept kp s0 (refreshMode s) := by
  unfold refreshMode
  split <;> simp_all

@[simp] theorem ownFrame_kept {kp : Part → Bool} {s0 : State} (s : State) (p : Port) (body : List Byte)
    (hk0 : Kept kp s0 s)
    (m_link : kp .link = false := by assumption) :
    Kept kp s0 (ownFrame s p body) := by
  unfold ownFrame
  simp_all

@[simp] theorem sendNotices_kept {kp : Part → Bool} {s0 : State} (s : State) (p : Port) (engaged : Bool)
    (cause : Nat) (hk0 : Kept kp s0 s)
    (m_link : kp .link = false := by assumption) :
    Kept kp s0 (sendNotices s p engaged cause) := by
  unfold sendNotices
  dsimp only
  repeat' split
  all_goals simp_all

@[simp] theorem engageLoop_kept {kp : Part → Bool} {s0 : State} (s : State) (p : Port) (cause : Nat)
    (hk0 : Kept kp s0 s)
    (m_evq : kp .evq = false := by assumption) (m_trace : kp .trace = false := by assumption)
    (m_link : kp .link = false := by assumption) :
    Kept kp s0 (engageLoop s p cause) := by
  unfold engageLoop
  simp_all (maxDischargeDepth := 9)

@[simp] theorem releaseLoop_kept {kp : Part → Bool} {s0 : State} (s : State) (p : Port) (hk0 : Kept kp s0 s)
    (m_evq : kp .evq = false := by assumption) (m_trace : kp .trace = false := by assumption)
    (m_link : kp .link = false := by assumption) :
    Kept kp s0 (releaseLoop s p) := by
  unfold releaseLoop
  simp_all (maxDischargeDepth := 9)

@[simp] theorem lapseRel_kept {kp : Part → Bool} {s0 : State} (s : State) (p : Port) (hk0 : Kept kp s0 s)
    (m_link : kp .link = false := by assumption) :
    Kept kp s0 (lapseRel s p) := by
  unfold lapseRel
  repeat' split
  all_goals simp_all

@[simp] theorem refLost_kept {kp : Part → Bool} {s0 : State} (s : State) (hk0 : Kept kp s0 s)
    (m_time : kp .time = false := by assumption) (m_evq : kp .evq = false := by assumption)
    (m_trace : kp .trace = false := by assumption) :
    Kept kp s0 (refLost s) := by
  unfold refLost
  repeat' first
    | intro x
    | lift_lets
    | (with_reducible refine withTimeOk_kept _ _ ?_ ?_)
    | split
  all_goals first | (simp_all; done) | (simp_all +zetaDelta; done)

@[simp] theorem refValid_kept {kp : Part → Bool} {s0 : State} (s : State) (hk0 : Kept kp s0 s)
    (m_time : kp .time = false := by assumption) :
    Kept kp s0 (refValid s) := by
  unfold refValid
  repeat' split
  all_goals simp_all

@[simp] theorem reacquire_kept {kp : Part → Bool} {s0 : State} (s : State) (hk0 : Kept kp s0 s)
    (m_time : kp .time = false := by assumption) (m_evq : kp .evq = false := by assumption)
    (m_trace : kp .trace = false := by assumption) :
    Kept kp s0 (reacquire s) := by
  unfold reacquire
  repeat' first
    | intro x
    | lift_lets
    | (with_reducible refine withTimeOk_kept _ _ ?_ ?_)
    | split
  all_goals first | (simp_all; done) | (simp_all +zetaDelta; done)

@[simp] theorem latchTrain_kept {kp : Part → Bool} {s0 : State} (s : State) (p : Port)
    (hk0 : Kept kp s0 s)
    (m_link : kp .link = false := by assumption) :
    Kept kp s0 (latchTrain s p) := by
  unfold latchTrain
  try dsimp only
  repeat' split
  all_goals simp_all (maxDischargeDepth := 9)

@[simp] theorem setPortState_kept {kp : Part → Bool} {s0 : State} (s : State) (p : Port) (new : PortState)
    (forced : Bool) (hk0 : Kept kp s0 s)
    (m_evq : kp .evq = false := by assumption) (m_trace : kp .trace = false := by assumption)
    (m_health : kp .health = false := by assumption) (m_link : kp .link = false := by assumption) :
    Kept kp s0 (setPortState s p new forced) := by
  unfold setPortState
  dsimp only
  repeat' split
  all_goals simp_all (maxDischargeDepth := 9)

@[simp] theorem applyEnables_kept {kp : Part → Bool} {s0 : State} (s : State) (hk0 : Kept kp s0 s)
    (m_evq : kp .evq = false := by assumption) (m_trace : kp .trace = false := by assumption)
    (m_health : kp .health = false := by assumption) (m_link : kp .link = false := by assumption) :
    Kept kp s0 (applyEnables s) := by
  unfold applyEnables
  dsimp only
  repeat' split
  all_goals simp_all

@[simp] theorem settleBegin_kept {kp : Part → Bool} {s0 : State} (s : State) (hk0 : Kept kp s0 s)
    (m_sta : kp .sta = false := by assumption) :
    Kept kp s0 (settleBegin s) := by
  unfold settleBegin
  repeat' split
  all_goals simp_all

@[simp] theorem bypassRelease_kept {kp : Part → Bool} {s0 : State} (s : State) (hk0 : Kept kp s0 s)
    (m_link : kp .link = false := by assumption) :
    Kept kp s0 (bypassRelease s) := by
  unfold bypassRelease
  simp_all (maxDischargeDepth := 9)

@[simp] theorem bypassAssert_kept {kp : Part → Bool} {s0 : State} (s : State) (hk0 : Kept kp s0 s)
    (m_link : kp .link = false := by assumption) :
    Kept kp s0 (bypassAssert s) := by
  unfold bypassAssert
  simp_all (maxDischargeDepth := 9)

@[simp] theorem bypassCheck_kept {kp : Part → Bool} {s0 : State} (s : State) (hk0 : Kept kp s0 s)
    (m_link : kp .link = false := by assumption) :
    Kept kp s0 (bypassCheck s) := by
  unfold bypassCheck
  repeat' split
  all_goals simp_all

@[simp] theorem emitAll_kept {kp : Part → Bool} {s0 : State} (s : State) (p : Port) (l : List SentFrame)
    (hk0 : Kept kp s0 s)
    (m_link : kp .link = false := by assumption) :
    Kept kp s0 (emitAll s p l) := by
  unfold emitAll
  repeat' split
  all_goals simp_all

@[simp] theorem emit_kept {kp : Part → Bool} {s0 : State} (s : State) (p : Port) (body : List Byte)
    (origin : Option Nat) (hk0 : Kept kp s0 s)
    (m_link : kp .link = false := by assumption) :
    Kept kp s0 (emit s p body origin) := by
  unfold emit
  simp_all

@[simp] theorem emitMore_kept {kp : Part → Bool} {s0 : State} (s : State) (p : Port) (body : List Byte)
    (hk0 : Kept kp s0 s)
    (m_link : kp .link = false := by assumption) :
    Kept kp s0 (emitMore s p body) := by
  unfold emitMore
  repeat' split
  all_goals simp_all

@[simp] theorem countFrame_kept {kp : Part → Bool} {s0 : State} (s : State) (p : Port) (f : LineFrame)
    (discarded : Bool) (hk0 : Kept kp s0 s)
    (m_health : kp .health = false := by assumption) (m_link : kp .link = false := by assumption) :
    Kept kp s0 (countFrame s p f discarded) := by
  unfold countFrame
  dsimp only
  repeat' split
  all_goals simp_all (maxDischargeDepth := 9)

/-! ### Access -/

@[simp] theorem State.setKey_kept {kp : Part → Bool} {s0 : State} (s : State) (p : Path) (k : PathKey)
    (hk0 : Kept kp s0 s)
    (m_bus : kp .bus = false := by assumption) :
    Kept kp s0 (State.setKey s p k) := by
  unfold State.setKey
  repeat' split
  all_goals simp_all

@[simp] theorem endCapture_kept {kp : Part → Bool} {s0 : State} (s : State) (p : Path) (hk0 : Kept kp s0 s)
    (m_bus : kp .bus = false := by assumption) :
    Kept kp s0 (endCapture s p) := by
  unfold endCapture
  repeat' split
  all_goals simp_all

@[simp] theorem beginWrite_kept {kp : Part → Bool} {s0 : State} (s : State) (p : Path) (hk0 : Kept kp s0 s)
    (m_bus : kp .bus = false := by assumption) :
    Kept kp s0 (beginWrite s p) := by
  unfold beginWrite
  simp_all

@[simp] theorem denyWrite_kept {kp : Part → Bool} {s0 : State} (s : State) (p : Path) (addr : Nat) (cause : Nat)
    (hk0 : Kept kp s0 s)
    (m_evq : kp .evq = false := by assumption) (m_trace : kp .trace = false := by assumption) :
    Kept kp s0 (denyWrite s p addr cause).1 := by
  unfold denyWrite
  repeat' split
  all_goals simp_all

@[simp] theorem keyViolation_kept {kp : Part → Bool} {s0 : State} (s : State) (p : Path) (addr : Nat)
    (hk0 : Kept kp s0 s)
    (m_evq : kp .evq = false := by assumption) (m_trace : kp .trace = false := by assumption) :
    Kept kp s0 (keyViolation s p addr).1 := by
  unfold keyViolation
  repeat' split
  all_goals simp_all

@[simp] theorem regWrite_kept {kp : Part → Bool} {s0 : State} (s : State) (v : Acc) (addr : Nat) (min : Bool)
    (core : Bool) (f : State → Done) (hf : ∀ s, Kept kp s0 s → Kept kp s0 (f s).1) (h : Kept kp s0 s)
    (m_evq : kp .evq = false := by assumption) (m_trace : kp .trace = false := by assumption)
    (m_bus : kp .bus = false := by assumption) (m_mode : kp .mode = false := by assumption)
    (m_safe : kp .safe = false := by assumption) (m_adc : kp .adc = false := by assumption)
    (m_wdog : kp .wdog = false := by assumption) :
    Kept kp s0 (regWrite s v addr min core f).1 := by
  have hb := beginWrite_kept s v.path h
  unfold regWrite
  generalize beginWrite s v.path = t at *
  dsimp only
  repeat' split
  all_goals first | (simp_all; done) | (refine hf _ ?_; simp_all)

@[simp] theorem commitHalf_kept {kp : Part → Bool} {s0 : State} (s : State) (hk0 : Kept kp s0 s)
    (m_mem : kp .mem = false := by assumption) (m_bus : kp .bus = false := by assumption) :
    Kept kp s0 (commitHalf s) := by
  unfold commitHalf
  repeat' split
  all_goals simp_all

@[simp] theorem hostAccess_kept {kp : Part → Bool} {s0 : State} (s : State) (p : Path) (hk0 : Kept kp s0 s)
    (m_mem : kp .mem = false := by assumption) (m_bus : kp .bus = false := by assumption) :
    Kept kp s0 (hostAccess s p) := by
  unfold hostAccess
  repeat' split
  all_goals simp_all

@[simp] theorem served_kept {kp : Part → Bool} {s0 : State} (s : State) (p : Path) (f : State → Acc → Done)
    (hf : ∀ s, Kept kp s0 s → ∀ v, Kept kp s0 (f s v).1) (h : Kept kp s0 s)
    (m_mem : kp .mem = false := by assumption) (m_bus : kp .bus = false := by assumption) :
    Kept kp s0 (served s p f) := by
  unfold served
  split
  · exact hf _ (hostAccess_kept _ _ h) _
  · exact h

@[simp] theorem servedRead_kept {kp : Part → Bool} {s0 : State} (s : State) (p : Path)
    (f : State → Acc → State × Word) (hf : ∀ s, Kept kp s0 s → ∀ v, Kept kp s0 (f s v).1) (h : Kept kp s0 s)
    (m_mem : kp .mem = false := by assumption) (m_bus : kp .bus = false := by assumption) :
    Kept kp s0 (servedRead s p f) := by
  unfold servedRead
  have hx := hf _ (endCapture_kept _ p (hostAccess_kept _ p h)) (accNow s p)
  split
  · generalize f (endCapture (hostAccess s p) p) (accNow s p) = x at *
    obtain ⟨t, w⟩ := x
    cases p <;> simp_all
  · exact h

/-! ### Ports -/

@[simp] theorem tapClamped_kept {kp : Part → Bool} {s0 : State} (s : State) (p : Port) (tap : Nat) (hk0 : Kept kp s0 s)
    (m_evq : kp .evq = false := by assumption) (m_trace : kp .trace = false := by assumption)
    (m_mode : kp .mode = false := by assumption) (m_link : kp .link = false := by assumption) :
    Kept kp s0 (tapClamped s p tap) := by
  unfold tapClamped
  simp_all (maxDischargeDepth := 9)

@[simp] theorem setTaps_kept {kp : Part → Bool} {s0 : State} (s : State) (p : Port) (t1 : Int) (t2 : Int) (t3 : Int)
    (hk0 : Kept kp s0 s)
    (m_evq : kp .evq = false := by assumption) (m_trace : kp .trace = false := by assumption)
    (m_mode : kp .mode = false := by assumption) (m_link : kp .link = false := by assumption) :
    Kept kp s0 (setTaps s p t1 t2 t3) := by
  unfold setTaps
  dsimp only
  repeat' split
  all_goals simp_all (maxDischargeDepth := 9)

@[simp] theorem execSignalDetect_kept {kp : Part → Bool} {s0 : State} (p : Port) (s : State) (hk0 : Kept kp s0 s)
    (m_time : kp .time = false := by assumption) (m_evq : kp .evq = false := by assumption)
    (m_trace : kp .trace = false := by assumption) (m_health : kp .health = false := by assumption)
    (m_link : kp .link = false := by assumption) :
    KeptR kp s0 (execSignalDetect p s) := by
  unfold execSignalDetect
  dsimp only
  repeat' split
  all_goals simp_all

@[simp] theorem execTrainComplete_kept {kp : Part → Bool} {s0 : State} (p : Port) (t1 : Int) (t2 : Int) (t3 : Int)
    (s : State) (hk0 : Kept kp s0 s)
    (m_evq : kp .evq = false := by assumption) (m_trace : kp .trace = false := by assumption)
    (m_mode : kp .mode = false := by assumption) (m_health : kp .health = false := by assumption)
    (m_link : kp .link = false := by assumption) :
    KeptR kp s0 (execTrainComplete p t1 t2 t3 s) := by
  unfold execTrainComplete
  repeat' split
  all_goals simp_all

@[simp] theorem execAlignUp_kept {kp : Part → Bool} {s0 : State} (p : Port) (inverted : Bool) (s : State)
    (hk0 : Kept kp s0 s)
    (m_time : kp .time = false := by assumption) (m_evq : kp .evq = false := by assumption)
    (m_trace : kp .trace = false := by assumption) (m_mode : kp .mode = false := by assumption)
    (m_health : kp .health = false := by assumption) (m_link : kp .link = false := by assumption)
    (m_sta : kp .sta = false := by assumption) :
    KeptR kp s0 (execAlignUp p inverted s) := by
  unfold execAlignUp
  dsimp only
  repeat' split
  all_goals simp_all (maxDischargeDepth := 9)

@[simp] theorem execAlignTimeout_kept {kp : Part → Bool} {s0 : State} (p : Port) (s : State) (hk0 : Kept kp s0 s)
    (m_evq : kp .evq = false := by assumption) (m_trace : kp .trace = false := by assumption)
    (m_health : kp .health = false := by assumption) (m_link : kp .link = false := by assumption) :
    KeptR kp s0 (execAlignTimeout p s) := by
  unfold execAlignTimeout
  repeat' split
  all_goals simp_all

@[simp] theorem gapErrors_kept {kp : Part → Bool} {s0 : State} (s : State) (p : Port) (n : Nat)
    (hk0 : Kept kp s0 s)
    (m_health : kp .health = false := by assumption) (m_link : kp .link = false := by assumption) :
    Kept kp s0 (gapErrors s p n) := by
  unfold gapErrors
  try dsimp only
  repeat' split
  all_goals simp_all (maxDischargeDepth := 9)

@[simp] theorem execLossOfSync_kept {kp : Part → Bool} {s0 : State} (p : Port) (bad : Nat) (s : State)
    (hk0 : Kept kp s0 s)
    (m_time : kp .time = false := by assumption) (m_evq : kp .evq = false := by assumption)
    (m_trace : kp .trace = false := by assumption) (m_health : kp .health = false := by assumption)
    (m_link : kp .link = false := by assumption) :
    KeptR kp s0 (execLossOfSync p s bad) := by
  unfold execLossOfSync
  try dsimp only
  repeat' split
  all_goals simp_all (maxDischargeDepth := 9)

@[simp] theorem execLossOfSignal_kept {kp : Part → Bool} {s0 : State} (p : Port) (s : State) (hk0 : Kept kp s0 s)
    (m_time : kp .time = false := by assumption) (m_evq : kp .evq = false := by assumption)
    (m_trace : kp .trace = false := by assumption) (m_health : kp .health = false := by assumption)
    (m_link : kp .link = false := by assumption) :
    KeptR kp s0 (execLossOfSignal p s) := by
  unfold execLossOfSignal
  dsimp only
  repeat' split
  all_goals simp_all

@[simp] theorem retrain_kept {kp : Part → Bool} {s0 : State} (s : State) (p : Port) (hk0 : Kept kp s0 s)
    (m_evq : kp .evq = false := by assumption) (m_trace : kp .trace = false := by assumption)
    (m_health : kp .health = false := by assumption) (m_link : kp .link = false := by assumption) :
    Kept kp s0 (retrain s p) := by
  unfold retrain
  repeat' split
  all_goals simp_all

@[simp] theorem execCrossedPairs_kept {kp : Part → Bool} {s0 : State} (p : Port) (s : State) (hk0 : Kept kp s0 s)
    (m_evq : kp .evq = false := by assumption) (m_trace : kp .trace = false := by assumption)
    (m_mode : kp .mode = false := by assumption) (m_link : kp .link = false := by assumption) :
    KeptR kp s0 (execCrossedPairs p s) := by
  unfold execCrossedPairs
  dsimp only
  repeat' split
  all_goals simp_all (maxDischargeDepth := 9)

@[simp] theorem execRoleConflict_kept {kp : Part → Bool} {s0 : State} (s : State) (hk0 : Kept kp s0 s)
    (m_evq : kp .evq = false := by assumption) (m_trace : kp .trace = false := by assumption)
    (m_mode : kp .mode = false := by assumption) :
    KeptR kp s0 (execRoleConflict s) := by
  unfold execRoleConflict
  repeat' split
  all_goals simp_all

@[simp] theorem execLoopEngage_kept {kp : Part → Bool} {s0 : State} (p : Port) (s : State) (hk0 : Kept kp s0 s)
    (m_evq : kp .evq = false := by assumption) (m_trace : kp .trace = false := by assumption)
    (m_link : kp .link = false := by assumption) :
    KeptR kp s0 (execLoopEngage p s) := by
  unfold execLoopEngage
  repeat' split
  all_goals simp_all

@[simp] theorem relCheck_kept {kp : Part → Bool} {s0 : State} (s : State) (p : Port) (hk0 : Kept kp s0 s)
    (m_evq : kp .evq = false := by assumption) (m_trace : kp .trace = false := by assumption)
    (m_link : kp .link = false := by assumption) :
    Kept kp s0 (relCheck s p) := by
  unfold relCheck
  repeat' split
  all_goals simp_all

@[simp] theorem execLoopRelease_kept {kp : Part → Bool} {s0 : State} (p : Port) (s : State) (hk0 : Kept kp s0 s)
    (m_time : kp .time = false := by assumption) (m_evq : kp .evq = false := by assumption)
    (m_trace : kp .trace = false := by assumption) (m_link : kp .link = false := by assumption) :
    KeptR kp s0 (execLoopRelease p s) := by
  unfold execLoopRelease
  repeat' split
  all_goals simp_all

@[simp] theorem relRefuse_kept {kp : Part → Bool} {s0 : State} (s : State) (hk0 : Kept kp s0 s)
    (m_link : kp .link = false := by assumption) :
    Kept kp s0 (relRefuse s) := by
  unfold relRefuse
  simp_all

@[simp] theorem loopRel_kept {kp : Part → Bool} {s0 : State} (s : State) (hk0 : Kept kp s0 s)
    (m_evq : kp .evq = false := by assumption) (m_trace : kp .trace = false := by assumption)
    (m_link : kp .link = false := by assumption) :
    Kept kp s0 (loopRel s) := by
  unfold loopRel
  dsimp only
  repeat' split
  all_goals simp_all

@[simp] theorem loopForce_kept {kp : Part → Bool} {s0 : State} (s : State) (hk0 : Kept kp s0 s)
    (m_evq : kp .evq = false := by assumption) (m_trace : kp .trace = false := by assumption)
    (m_link : kp .link = false := by assumption) :
    Kept kp s0 (loopForce s) := by
  unfold loopForce
  dsimp only
  repeat' split
  all_goals simp_all

@[simp] theorem execBypassDelayExpiry_kept {kp : Part → Bool} {s0 : State} (s : State) (hk0 : Kept kp s0 s)
    (m_link : kp .link = false := by assumption) :
    KeptR kp s0 (execBypassDelayExpiry s) := by
  unfold execBypassDelayExpiry
  repeat' split
  all_goals simp_all

@[simp] theorem bypassInsert_kept {kp : Part → Bool} {s0 : State} (s : State) (hk0 : Kept kp s0 s)
    (m_link : kp .link = false := by assumption) :
    Kept kp s0 (bypassInsert s) := by
  unfold bypassInsert
  repeat' split
  all_goals simp_all

@[simp] theorem execBypassPwrfailDrop_kept {kp : Part → Bool} {s0 : State} (s : State) (hk0 : Kept kp s0 s)
    (m_link : kp .link = false := by assumption) :
    KeptR kp s0 (execBypassPwrfailDrop s) := by
  unfold execBypassPwrfailDrop
  repeat' split
  all_goals simp_all

@[simp] theorem execBypassNotice_kept {kp : Part → Bool} {s0 : State} (p : Port) (s : State) (hk0 : Kept kp s0 s)
    (m_time : kp .time = false := by assumption) (m_link : kp .link = false := by assumption) :
    KeptR kp s0 (execBypassNotice p s) := by
  unfold execBypassNotice
  dsimp only
  repeat' split
  all_goals simp_all (maxDischargeDepth := 9)

@[simp] theorem execOwnFrameSend_kept {kp : Part → Bool} {s0 : State} (p : Port) (s : State) (hk0 : Kept kp s0 s)
    (m_link : kp .link = false := by assumption) :
    KeptR kp s0 (execOwnFrameSend p s) := by
  unfold execOwnFrameSend
  repeat' split
  all_goals simp_all

@[simp] theorem clearLinkCounters_kept {kp : Part → Bool} {s0 : State} (s : State) (hk0 : Kept kp s0 s)
    (m_link : kp .link = false := by assumption) :
    Kept kp s0 (clearLinkCounters s) := by
  unfold clearLinkCounters
  simp_all

@[simp] theorem linkCtrlAct_kept {kp : Part → Bool} {s0 : State} (s : State) (w : Word) (setup : Bool)
    (hk0 : Kept kp s0 s)
    (m_evq : kp .evq = false := by assumption) (m_trace : kp .trace = false := by assumption)
    (m_health : kp .health = false := by assumption) (m_link : kp .link = false := by assumption) :
    Kept kp s0 (linkCtrlAct s w setup) := by
  unfold linkCtrlAct
  repeat' first
    | (intro x; refine Kept.cut (kp := kp) (s0 := s0) (x := x) ?_ ?_; subst x; rotate_left; clear_value x; intro hx; rotate_right)
    | intro x
    | lift_lets
    | split
  all_goals simp_all

@[simp] theorem writeLinkCtrl_kept {kp : Part → Bool} {s0 : State} (s : State) (v : Acc) (w : Word) (hk0 : Kept kp s0 s)
    (m_evq : kp .evq = false := by assumption) (m_trace : kp .trace = false := by assumption)
    (m_bus : kp .bus = false := by assumption) (m_health : kp .health = false := by assumption)
    (m_link : kp .link = false := by assumption) :
    Kept kp s0 (writeLinkCtrl s v w).1 := by
  unfold writeLinkCtrl
  dsimp only
  repeat' split
  all_goals simp_all (maxDischargeDepth := 9)

@[simp] theorem linkCtrlBit_kept {kp : Part → Bool} {s0 : State} (s : State) (via : Path) (n : Nat) (hk0 : Kept kp s0 s)
    (m_mem : kp .mem = false := by assumption) (m_evq : kp .evq = false := by assumption)
    (m_trace : kp .trace = false := by assumption) (m_bus : kp .bus = false := by assumption)
    (m_health : kp .health = false := by assumption) (m_link : kp .link = false := by assumption) :
    Kept kp s0 (linkCtrlBit s via n) := by
  unfold linkCtrlBit
  simp_all

@[simp] theorem execRetrain_kept {kp : Part → Bool} {s0 : State} (via : Path) (p : Port) (s : State)
    (hk0 : Kept kp s0 s)
    (m_mem : kp .mem = false := by assumption) (m_evq : kp .evq = false := by assumption)
    (m_trace : kp .trace = false := by assumption) (m_bus : kp .bus = false := by assumption)
    (m_health : kp .health = false := by assumption) (m_link : kp .link = false := by assumption) :
    KeptR kp s0 (execRetrain via p s) := by
  unfold execRetrain
  simp_all

@[simp] theorem execLoopRel_kept {kp : Part → Bool} {s0 : State} (via : Path) (s : State) (hk0 : Kept kp s0 s)
    (m_mem : kp .mem = false := by assumption) (m_evq : kp .evq = false := by assumption)
    (m_trace : kp .trace = false := by assumption) (m_bus : kp .bus = false := by assumption)
    (m_health : kp .health = false := by assumption) (m_link : kp .link = false := by assumption) :
    KeptR kp s0 (execLoopRel via s) := by
  unfold execLoopRel
  simp_all

@[simp] theorem execLoopForce_kept {kp : Part → Bool} {s0 : State} (via : Path) (s : State) (hk0 : Kept kp s0 s)
    (m_mem : kp .mem = false := by assumption) (m_evq : kp .evq = false := by assumption)
    (m_trace : kp .trace = false := by assumption) (m_bus : kp .bus = false := by assumption)
    (m_health : kp .health = false := by assumption) (m_link : kp .link = false := by assumption) :
    KeptR kp s0 (execLoopForce via s) := by
  unfold execLoopForce
  simp_all

@[simp] theorem execBypassInsert_kept {kp : Part → Bool} {s0 : State} (via : Path) (s : State) (hk0 : Kept kp s0 s)
    (m_mem : kp .mem = false := by assumption) (m_evq : kp .evq = false := by assumption)
    (m_trace : kp .trace = false := by assumption) (m_bus : kp .bus = false := by assumption)
    (m_health : kp .health = false := by assumption) (m_link : kp .link = false := by assumption) :
    KeptR kp s0 (execBypassInsert via s) := by
  unfold execBypassInsert
  simp_all

@[simp] theorem execBypassDrop_kept {kp : Part → Bool} {s0 : State} (via : Path) (s : State) (hk0 : Kept kp s0 s)
    (m_mem : kp .mem = false := by assumption) (m_evq : kp .evq = false := by assumption)
    (m_trace : kp .trace = false := by assumption) (m_bus : kp .bus = false := by assumption)
    (m_health : kp .health = false := by assumption) (m_link : kp .link = false := by assumption) :
    KeptR kp s0 (execBypassDrop via s) := by
  unfold execBypassDrop
  simp_all

@[simp] theorem execLinkCntClr_kept {kp : Part → Bool} {s0 : State} (via : Path) (s : State) (hk0 : Kept kp s0 s)
    (m_mem : kp .mem = false := by assumption) (m_evq : kp .evq = false := by assumption)
    (m_trace : kp .trace = false := by assumption) (m_bus : kp .bus = false := by assumption)
    (m_health : kp .health = false := by assumption) (m_link : kp .link = false := by assumption) :
    KeptR kp s0 (execLinkCntClr via s) := by
  unfold execLinkCntClr
  simp_all

@[simp] theorem execLinkCntFreeze_kept {kp : Part → Bool} {s0 : State} (via : Path) (on : Bool) (s : State)
    (hk0 : Kept kp s0 s)
    (m_mem : kp .mem = false := by assumption) (m_evq : kp .evq = false := by assumption)
    (m_trace : kp .trace = false := by assumption) (m_bus : kp .bus = false := by assumption)
    (m_health : kp .health = false := by assumption) (m_link : kp .link = false := by assumption) :
    KeptR kp s0 (execLinkCntFreeze via on s) := by
  unfold execLinkCntFreeze
  simp_all

/-! ### CmdQ -/

@[simp] theorem State.setCmd_kept {kp : Part → Bool} {s0 : State} (s : State) (p : Path) (c : CmdPath)
    (hk0 : Kept kp s0 s)
    (m_bus : kp .bus = false := by assumption) :
    Kept kp s0 (State.setCmd s p c) := by
  unfold State.setCmd
  repeat' split
  all_goals simp_all

@[simp] theorem pushCpl_kept {kp : Part → Bool} {s0 : State} (s : State) (p : Path) (d : Descriptor) (outcome : Nat)
    (result : Nat) (hk0 : Kept kp s0 s)
    (m_evq : kp .evq = false := by assumption) (m_bus : kp .bus = false := by assumption) :
    Kept kp s0 (pushCpl s p d outcome result) := by
  unfold pushCpl
  simp_all

@[simp] theorem drainNops_kept {kp : Part → Bool} {s0 : State} (s : State) (p : Path) (l : List Descriptor)
    (hk0 : Kept kp s0 s)
    (m_evq : kp .evq = false := by assumption) (m_bus : kp .bus = false := by assumption) :
    Kept kp s0 (drainNops s p l) := by
  induction l generalizing s with
  | nil => simp_all [drainNops]
  | cons d r ih =>
    unfold drainNops
    split
    · exact ih _ (pushCpl_kept _ _ _ _ _ hk0)
    · exact State.setCmd_kept _ _ _ hk0

@[simp] theorem complete_kept {kp : Part → Bool} {s0 : State} (s : State) (p : Path) (d : Descriptor) (outcome : Nat)
    (result : Nat) (hk0 : Kept kp s0 s)
    (m_evq : kp .evq = false := by assumption) (m_bus : kp .bus = false := by assumption) :
    Kept kp s0 (complete s p d outcome result) := by
  unfold complete
  dsimp only
  repeat' split
  all_goals simp_all

@[simp] theorem outstand_kept {kp : Part → Bool} {s0 : State} (s : State) (p : Path) (d : Descriptor)
    (hk0 : Kept kp s0 s)
    (m_bus : kp .bus = false := by assumption) :
    Kept kp s0 (outstand s p d) := by
  unfold outstand
  simp_all

@[simp] theorem postDesc_kept {kp : Part → Bool} {s0 : State} (s : State) (p : Path) (d : Descriptor)
    (run : State → State) (hf : ∀ s, Kept kp s0 s → Kept kp s0 (run s)) (h : Kept kp s0 s)
    (m_evq : kp .evq = false := by assumption) (m_bus : kp .bus = false := by assumption) :
    Kept kp s0 (postDesc s p d run) := by
  unfold postDesc
  lift_lets
  intro c
  repeat' split
  all_goals first | (exact hf _ (outstand_kept _ _ _ h)) | simp_all

@[simp] theorem postFrom_kept {kp : Part → Bool} {s0 : State} (s : State) (via : Path) (d : Descriptor) (code : Nat)
    (run : Descriptor → State → State) (hf : ∀ s, Kept kp s0 s → ∀ d, Kept kp s0 (run d s)) (h : Kept kp s0 s)
    (m_mem : kp .mem = false := by assumption) (m_evq : kp .evq = false := by assumption)
    (m_bus : kp .bus = false := by assumption) :
    KeptR kp s0 (postFrom s via d code run) := by
  unfold postFrom
  split
  · exact postDesc_kept _ _ _ _ (fun s hs => hf s hs _) (beginWrite_kept _ _ (hostAccess_kept _ _ h))
  · exact h

@[simp] theorem execNop_kept {kp : Part → Bool} {s0 : State} (via : Path) (d : Descriptor) (s : State)
    (hk0 : Kept kp s0 s)
    (m_mem : kp .mem = false := by assumption) (m_evq : kp .evq = false := by assumption)
    (m_bus : kp .bus = false := by assumption) :
    KeptR kp s0 (execNop via d s) := by
  unfold execNop
  simp_all

/-! ### Seal -/

@[simp] theorem epochHealth_kept {kp : Part → Bool} {s0 : State} (s : State) (hk0 : Kept kp s0 s)
    (m_evq : kp .evq = false := by assumption) (m_trace : kp .trace = false := by assumption)
    (m_mode : kp .mode = false := by assumption) (m_safe : kp .safe = false := by assumption)
    (m_health : kp .health = false := by assumption) (m_adc : kp .adc = false := by assumption)
    (m_wdog : kp .wdog = false := by assumption) :
    Kept kp s0 (epochHealth s) := by
  unfold epochHealth
  dsimp only
  repeat' split
  all_goals simp_all

@[simp] theorem raiseEpoch_kept {kp : Part → Bool} {s0 : State} (s : State) (hk0 : Kept kp s0 s)
    (m_evq : kp .evq = false := by assumption) (m_trace : kp .trace = false := by assumption)
    (m_mode : kp .mode = false := by assumption) (m_safe : kp .safe = false := by assumption)
    (m_health : kp .health = false := by assumption) (m_adc : kp .adc = false := by assumption)
    (m_wdog : kp .wdog = false := by assumption) (m_sec : kp .sec = false := by assumption) :
    Kept kp s0 (raiseEpoch s) := by
  unfold raiseEpoch
  dsimp only
  repeat' split
  all_goals simp_all (maxDischargeDepth := 9)

@[simp] theorem takeNonce_kept {kp : Part → Bool} {s0 : State} (s : State) (hk0 : Kept kp s0 s)
    (m_evq : kp .evq = false := by assumption) (m_trace : kp .trace = false := by assumption)
    (m_mode : kp .mode = false := by assumption) (m_safe : kp .safe = false := by assumption)
    (m_health : kp .health = false := by assumption) (m_adc : kp .adc = false := by assumption)
    (m_wdog : kp .wdog = false := by assumption) (m_sec : kp .sec = false := by assumption) :
    Kept kp s0 (takeNonce s).2 := by
  unfold takeNonce
  repeat' split
  all_goals simp_all

@[simp] theorem sealFail_kept {kp : Part → Bool} {s0 : State} (s : State) (sender : Nat) (status : Nat)
    (hk0 : Kept kp s0 s)
    (m_evq : kp .evq = false := by assumption) (m_trace : kp .trace = false := by assumption)
    (m_mode : kp .mode = false := by assumption) (m_sec : kp .sec = false := by assumption) :
    Kept kp s0 (sealFail s sender status) := by
  unfold sealFail
  dsimp only
  repeat' split
  all_goals simp_all (maxDischargeDepth := 9)

@[simp] theorem cryptoAsk_kept {kp : Part → Bool} {s0 : State} (s : State) (rank : Nat) (f : CryptoFor)
    (hk0 : Kept kp s0 s)
    (m_sec : kp .sec = false := by assumption) :
    Kept kp s0 (cryptoAsk s rank f) := by
  unfold cryptoAsk
  simp_all

@[simp] theorem cryptoEnd_kept {kp : Part → Bool} {s0 : State} (s : State) (o : CryptoOp) (hk0 : Kept kp s0 s)
    (m_sec : kp .sec = false := by assumption) :
    Kept kp s0 (cryptoEnd s o) := by
  unfold cryptoEnd
  simp_all

@[simp] theorem cryptoDrop_kept {kp : Part → Bool} {s0 : State} (s : State) (f : CryptoFor → Bool) (hk0 : Kept kp s0 s)
    (m_sec : kp .sec = false := by assumption) :
    Kept kp s0 (cryptoDrop s f) := by
  unfold cryptoDrop
  simp_all

/-! ### Txn -/

@[simp] theorem State.setTxn_kept {kp : Part → Bool} {s0 : State} (s : State) (t : Txn) (hk0 : Kept kp s0 s)
    (m_txn : kp .txn = false := by assumption) :
    Kept kp s0 (State.setTxn s t) := by
  unfold State.setTxn
  simp_all

@[simp] theorem makeReady_kept {kp : Part → Bool} {s0 : State} (s : State) (r : Response) (hk0 : Kept kp s0 s)
    (m_txn : kp .txn = false := by assumption) :
    Kept kp s0 (makeReady s r) := by
  unfold makeReady
  simp_all

@[simp] theorem askSeal_kept {kp : Part → Bool} {s0 : State} (out : State) (s : State) (t : Txn)
    (ho : Kept kp s0 out) (hk0 : Kept kp s0 s)
    (m_evq : kp .evq = false := by assumption) (m_trace : kp .trace = false := by assumption)
    (m_mode : kp .mode = false := by assumption) (m_safe : kp .safe = false := by assumption)
    (m_health : kp .health = false := by assumption) (m_adc : kp .adc = false := by assumption)
    (m_wdog : kp .wdog = false := by assumption) (m_txn : kp .txn = false := by assumption)
    (m_sec : kp .sec = false := by assumption) :
    Kept kp s0 (askSeal out s t) := by
  have h := takeNonce_kept s hk0
  unfold askSeal
  split
  · exact ho
  · generalize takeNonce s = x at h
    obtain ⟨n, u⟩ := x
    dsimp only
    split
    · simp_all
    · exact cryptoAsk_kept _ _ _ (State.setTxn_kept _ _ h)

@[simp] theorem answer_kept {kp : Part → Bool} {s0 : State} (s : State) (sealIt : Bool) (r : Response)
    (hk0 : Kept kp s0 s)
    (m_evq : kp .evq = false := by assumption) (m_trace : kp .trace = false := by assumption)
    (m_mode : kp .mode = false := by assumption) (m_safe : kp .safe = false := by assumption)
    (m_health : kp .health = false := by assumption) (m_adc : kp .adc = false := by assumption)
    (m_wdog : kp .wdog = false := by assumption) (m_txn : kp .txn = false := by assumption)
    (m_sec : kp .sec = false := by assumption) :
    Kept kp s0 (answer s sealIt r) := by
  unfold answer
  try dsimp only
  repeat' split
  all_goals simp_all (maxDischargeDepth := 9)

@[simp] theorem finishTxn_kept {kp : Part → Bool} {s0 : State} (s : State) (t : Txn) (hk0 : Kept kp s0 s)
    (m_evq : kp .evq = false := by assumption) (m_trace : kp .trace = false := by assumption)
    (m_mode : kp .mode = false := by assumption) (m_safe : kp .safe = false := by assumption)
    (m_health : kp .health = false := by assumption) (m_adc : kp .adc = false := by assumption)
    (m_wdog : kp .wdog = false := by assumption) (m_txn : kp .txn = false := by assumption)
    (m_sec : kp .sec = false := by assumption) :
    Kept kp s0 (finishTxn s t) := by
  unfold finishTxn
  repeat' split
  all_goals simp_all

@[simp] theorem endTxn_kept {kp : Part → Bool} {s0 : State} (s : State) (id status : Nat) (resp : List Byte)
    (effect : Bool)
    (hk0 : Kept kp s0 s)
    (m_evq : kp .evq = false := by assumption) (m_trace : kp .trace = false := by assumption)
    (m_mode : kp .mode = false := by assumption) (m_safe : kp .safe = false := by assumption)
    (m_health : kp .health = false := by assumption) (m_adc : kp .adc = false := by assumption)
    (m_wdog : kp .wdog = false := by assumption) (m_txn : kp .txn = false := by assumption)
    (m_sec : kp .sec = false := by assumption) :
    Kept kp s0 (endTxn s id status resp effect) := by
  unfold endTxn
  try dsimp only
  repeat' split
  all_goals simp_all (maxDischargeDepth := 9)

@[simp] theorem refuseTxn_kept {kp : Part → Bool} {s0 : State} (s : State) (id code : Nat)
    (hk0 : Kept kp s0 s)
    (m_evq : kp .evq = false := by assumption) (m_trace : kp .trace = false := by assumption)
    (m_mode : kp .mode = false := by assumption) (m_safe : kp .safe = false := by assumption)
    (m_health : kp .health = false := by assumption) (m_adc : kp .adc = false := by assumption)
    (m_wdog : kp .wdog = false := by assumption) (m_txn : kp .txn = false := by assumption)
    (m_sec : kp .sec = false := by assumption) :
    Kept kp s0 (refuseTxn s id code) := by
  unfold refuseTxn
  try dsimp only
  repeat' split
  all_goals simp_all (maxDischargeDepth := 9)

@[simp] theorem postExpired_kept {kp : Part → Bool} {s0 : State} (s : State) (code : Nat) (anchor : Bool) (tag : Nat)
    (op : Nat) (done : Bool) (hk0 : Kept kp s0 s)
    (m_evq : kp .evq = false := by assumption) (m_trace : kp .trace = false := by assumption) :
    Kept kp s0 (postExpired s code anchor tag op done) := by
  unfold postExpired
  simp_all

@[simp] theorem expireHeld_kept {kp : Part → Bool} {s0 : State} (s : State) (t : Txn) (hk0 : Kept kp s0 s)
    (m_evq : kp .evq = false := by assumption) (m_trace : kp .trace = false := by assumption)
    (m_mode : kp .mode = false := by assumption) (m_safe : kp .safe = false := by assumption)
    (m_health : kp .health = false := by assumption) (m_adc : kp .adc = false := by assumption)
    (m_wdog : kp .wdog = false := by assumption) (m_txn : kp .txn = false := by assumption)
    (m_sec : kp .sec = false := by assumption) (m_ser : kp .ser = false := by assumption) :
    Kept kp s0 (expireHeld s t) := by
  unfold expireHeld
  dsimp only
  repeat' split
  all_goals simp_all (maxDischargeDepth := 9)

@[simp] theorem expireReady_kept {kp : Part → Bool} {s0 : State} (s : State) (r : Response)
    (hk0 : Kept kp s0 s)
    (m_evq : kp .evq = false := by assumption) (m_trace : kp .trace = false := by assumption)
    (m_mode : kp .mode = false := by assumption) (m_safe : kp .safe = false := by assumption)
    (m_health : kp .health = false := by assumption) (m_adc : kp .adc = false := by assumption)
    (m_wdog : kp .wdog = false := by assumption) (m_txn : kp .txn = false := by assumption)
    (m_sec : kp .sec = false := by assumption) :
    Kept kp s0 (expireReady s r) := by
  unfold expireReady
  try dsimp only
  repeat' split
  all_goals simp_all (maxDischargeDepth := 9)

@[simp] theorem forgetDone_kept {kp : Part → Bool} {s0 : State} (s : State) (anchor : Bool) (tag : Nat)
    (hk0 : Kept kp s0 s)
    (m_txn : kp .txn = false := by assumption) :
    Kept kp s0 (forgetDone s anchor tag) := by
  unfold forgetDone
  try dsimp only
  repeat' split
  all_goals simp_all (maxDischargeDepth := 9)

@[simp] theorem expireOpening_kept {kp : Part → Bool} {s0 : State} (s : State) (t : Txn) (hk0 : Kept kp s0 s)
    (m_evq : kp .evq = false := by assumption) (m_trace : kp .trace = false := by assumption)
    (m_mode : kp .mode = false := by assumption) (m_safe : kp .safe = false := by assumption)
    (m_health : kp .health = false := by assumption) (m_adc : kp .adc = false := by assumption)
    (m_wdog : kp .wdog = false := by assumption) (m_txn : kp .txn = false := by assumption)
    (m_sec : kp .sec = false := by assumption) :
    Kept kp s0 (expireOpening s t) := by
  unfold expireOpening
  dsimp only
  repeat' split
  all_goals simp_all (maxDischargeDepth := 9)

@[simp] theorem execTxnExpiry_kept {kp : Part → Bool} {s0 : State} (bcast : Bool) (anchor : Bool) (tag : Nat)
    (s : State) (hk0 : Kept kp s0 s)
    (m_time : kp .time = false := by assumption) (m_evq : kp .evq = false := by assumption)
    (m_trace : kp .trace = false := by assumption) (m_mode : kp .mode = false := by assumption)
    (m_safe : kp .safe = false := by assumption) (m_health : kp .health = false := by assumption)
    (m_adc : kp .adc = false := by assumption) (m_wdog : kp .wdog = false := by assumption)
    (m_txn : kp .txn = false := by assumption) (m_sec : kp .sec = false := by assumption)
    (m_ser : kp .ser = false := by assumption) :
    KeptR kp s0 (execTxnExpiry bcast anchor tag s) := by
  unfold execTxnExpiry
  try dsimp only
  repeat' split
  all_goals simp_all (maxDischargeDepth := 9)

@[simp] theorem discardExpired_kept {kp : Part → Bool} {s0 : State} (s : State) (r : Response)
    (hk0 : Kept kp s0 s)
    (m_evq : kp .evq = false := by assumption) (m_trace : kp .trace = false := by assumption)
    (m_txn : kp .txn = false := by assumption) (m_sec : kp .sec = false := by assumption) :
    Kept kp s0 (discardExpired s r) := by
  unfold discardExpired
  try dsimp only
  repeat' split
  all_goals simp_all (maxDischargeDepth := 9)

@[simp] theorem execExpiredDiscard_kept {kp : Part → Bool} {s0 : State} (anchor : Bool) (tag : Nat) (s : State)
    (hk0 : Kept kp s0 s)
    (m_time : kp .time = false := by assumption) (m_evq : kp .evq = false := by assumption)
    (m_trace : kp .trace = false := by assumption) (m_txn : kp .txn = false := by assumption)
    (m_sec : kp .sec = false := by assumption) :
    KeptR kp s0 (execExpiredDiscard anchor tag s) := by
  unfold execExpiredDiscard
  try dsimp only
  repeat' split
  all_goals simp_all (maxDischargeDepth := 9)

@[simp] theorem execDoneEntryLapse_kept {kp : Part → Bool} {s0 : State} (anchor : Bool) (tag : Nat) (s : State)
    (hk0 : Kept kp s0 s)
    (m_time : kp .time = false := by assumption) (m_txn : kp .txn = false := by assumption) :
    KeptR kp s0 (execDoneEntryLapse anchor tag s) := by
  unfold execDoneEntryLapse
  repeat' split
  all_goals simp_all

@[simp] theorem execBcastDrop_kept {kp : Part → Bool} {s0 : State} (anchor : Bool) (tag : Nat) (s : State)
    (hk0 : Kept kp s0 s)
    (m_time : kp .time = false := by assumption) (m_evq : kp .evq = false := by assumption)
    (m_trace : kp .trace = false := by assumption) (m_mode : kp .mode = false := by assumption)
    (m_safe : kp .safe = false := by assumption) (m_health : kp .health = false := by assumption)
    (m_adc : kp .adc = false := by assumption) (m_wdog : kp .wdog = false := by assumption)
    (m_txn : kp .txn = false := by assumption) (m_sec : kp .sec = false := by assumption)
    (m_ser : kp .ser = false := by assumption) :
    KeptR kp s0 (execBcastDrop anchor tag s) := by
  unfold execBcastDrop
  repeat' split
  all_goals simp_all

@[simp] theorem sentResponse_kept {kp : Part → Bool} {s0 : State} (s : State) (r : Response) (hk0 : Kept kp s0 s)
    (m_txn : kp .txn = false := by assumption) :
    Kept kp s0 (sentResponse s r) := by
  unfold sentResponse forgetDone
  dsimp only
  repeat' split
  all_goals simp_all

@[simp] theorem admitPlain_kept {kp : Part → Bool} {s0 : State} (s : State) (t : Txn) (hk0 : Kept kp s0 s)
    (m_evq : kp .evq = false := by assumption) (m_trace : kp .trace = false := by assumption)
    (m_mode : kp .mode = false := by assumption) (m_safe : kp .safe = false := by assumption)
    (m_health : kp .health = false := by assumption) (m_adc : kp .adc = false := by assumption)
    (m_wdog : kp .wdog = false := by assumption) (m_txn : kp .txn = false := by assumption)
    (m_sec : kp .sec = false := by assumption) :
    Kept kp s0 (admitPlain s t) := by
  unfold admitPlain
  dsimp only
  repeat' split
  all_goals simp_all

@[simp] theorem openAsk_kept {kp : Part → Bool} {s0 : State} (s : State) (t : Txn) (hk0 : Kept kp s0 s)
    (m_txn : kp .txn = false := by assumption) (m_sec : kp .sec = false := by assumption) :
    Kept kp s0 (openAsk s t) := by
  unfold openAsk
  simp_all

@[simp] theorem enterTxn_kept {kp : Part → Bool} {s0 : State} (s : State) (t : Txn) (hk0 : Kept kp s0 s)
    (m_evq : kp .evq = false := by assumption) (m_trace : kp .trace = false := by assumption)
    (m_mode : kp .mode = false := by assumption) (m_safe : kp .safe = false := by assumption)
    (m_health : kp .health = false := by assumption) (m_adc : kp .adc = false := by assumption)
    (m_wdog : kp .wdog = false := by assumption) (m_txn : kp .txn = false := by assumption)
    (m_sec : kp .sec = false := by assumption) :
    Kept kp s0 (enterTxn s t) := by
  unfold enterTxn
  dsimp only
  repeat' split
  all_goals simp_all

@[simp] theorem replayTxn_kept {kp : Part → Bool} {s0 : State} (s : State) (t : Txn) (d : DoneEntry)
    (hk0 : Kept kp s0 s)
    (m_evq : kp .evq = false := by assumption) (m_trace : kp .trace = false := by assumption)
    (m_mode : kp .mode = false := by assumption) (m_safe : kp .safe = false := by assumption)
    (m_health : kp .health = false := by assumption) (m_adc : kp .adc = false := by assumption)
    (m_wdog : kp .wdog = false := by assumption) (m_txn : kp .txn = false := by assumption)
    (m_sec : kp .sec = false := by assumption) :
    Kept kp s0 (replayTxn s t d) := by
  unfold replayTxn forgetDone
  dsimp only
  repeat' split
  all_goals simp_all

@[simp] theorem statusOnly_kept {kp : Part → Bool} {s0 : State} (s : State) (t : Txn) (status : Nat)
    (hk0 : Kept kp s0 s)
    (m_evq : kp .evq = false := by assumption) (m_trace : kp .trace = false := by assumption)
    (m_mode : kp .mode = false := by assumption) (m_safe : kp .safe = false := by assumption)
    (m_health : kp .health = false := by assumption) (m_adc : kp .adc = false := by assumption)
    (m_wdog : kp .wdog = false := by assumption) (m_txn : kp .txn = false := by assumption)
    (m_sec : kp .sec = false := by assumption) :
    Kept kp s0 (statusOnly s t status) := by
  unfold statusOnly
  simp_all

@[simp] theorem judgeTagWith_kept {kp : Part → Bool} {s0 : State} (enter : State → Txn → State) (s : State) (t : Txn)
    (hf : ∀ s, Kept kp s0 s → ∀ t, Kept kp s0 (enter s t)) (h : Kept kp s0 s)
    (m_evq : kp .evq = false := by assumption) (m_trace : kp .trace = false := by assumption)
    (m_mode : kp .mode = false := by assumption) (m_safe : kp .safe = false := by assumption)
    (m_health : kp .health = false := by assumption) (m_adc : kp .adc = false := by assumption)
    (m_wdog : kp .wdog = false := by assumption) (m_txn : kp .txn = false := by assumption)
    (m_sec : kp .sec = false := by assumption) :
    Kept kp s0 (judgeTagWith enter s t) := by
  unfold judgeTagWith
  have he := hf { s with txn := { s.txn with done := s.txn.done.filter (fun d => !isDone d t.anchor t.tag) } }
    (by simp_all) t
  dsimp only
  repeat' split
  all_goals first | assumption | (simp_all; done)

@[simp] theorem judgeTag_kept {kp : Part → Bool} {s0 : State} (s : State) (t : Txn) (hk0 : Kept kp s0 s)
    (m_evq : kp .evq = false := by assumption) (m_trace : kp .trace = false := by assumption)
    (m_mode : kp .mode = false := by assumption) (m_safe : kp .safe = false := by assumption)
    (m_health : kp .health = false := by assumption) (m_adc : kp .adc = false := by assumption)
    (m_wdog : kp .wdog = false := by assumption) (m_txn : kp .txn = false := by assumption)
    (m_sec : kp .sec = false := by assumption) :
    Kept kp s0 (judgeTag s t) := by
  unfold judgeTag
  simp_all

@[simp] theorem judgeBcast_kept {kp : Part → Bool} {s0 : State} (s : State) (t : Txn) (hk0 : Kept kp s0 s)
    (m_evq : kp .evq = false := by assumption) (m_trace : kp .trace = false := by assumption)
    (m_mode : kp .mode = false := by assumption) (m_safe : kp .safe = false := by assumption)
    (m_health : kp .health = false := by assumption) (m_adc : kp .adc = false := by assumption)
    (m_wdog : kp .wdog = false := by assumption) (m_txn : kp .txn = false := by assumption)
    (m_sec : kp .sec = false := by assumption) :
    Kept kp s0 (judgeBcast s t) := by
  unfold judgeBcast
  repeat' split
  all_goals simp_all

@[simp] theorem consume_kept {kp : Part → Bool} {s0 : State} (s : State) (anchor : Bool) (r : List Byte)
    (hk0 : Kept kp s0 s)
    (m_evq : kp .evq = false := by assumption) (m_trace : kp .trace = false := by assumption)
    (m_mode : kp .mode = false := by assumption) (m_safe : kp .safe = false := by assumption)
    (m_health : kp .health = false := by assumption) (m_adc : kp .adc = false := by assumption)
    (m_wdog : kp .wdog = false := by assumption) (m_txn : kp .txn = false := by assumption)
    (m_sec : kp .sec = false := by assumption) :
    Kept kp s0 (consume s anchor r) := by
  unfold consume
  dsimp only
  repeat' split
  all_goals simp_all

@[simp] theorem consumeAll_kept {kp : Part → Bool} {s0 : State} (s : State) (anchor : Bool) (l : List (List Byte))
    (hk0 : Kept kp s0 s)
    (m_evq : kp .evq = false := by assumption) (m_trace : kp .trace = false := by assumption)
    (m_mode : kp .mode = false := by assumption) (m_safe : kp .safe = false := by assumption)
    (m_health : kp .health = false := by assumption) (m_adc : kp .adc = false := by assumption)
    (m_wdog : kp .wdog = false := by assumption) (m_txn : kp .txn = false := by assumption)
    (m_sec : kp .sec = false := by assumption) :
    Kept kp s0 (consumeAll s anchor l) := by
  induction l generalizing s with
  | nil => exact hk0
  | cons r q ih => exact ih _ (consume_kept _ _ _ hk0)

@[simp] theorem withTxn_kept {kp : Part → Bool} {s0 : State} (s : State) (bcast : Bool) (anchor : Bool) (tag : Nat)
    (op : Nat) (f : State → Txn → State) (hf : ∀ s, Kept kp s0 s → ∀ t, Kept kp s0 (f s t)) (h : Kept kp s0 s)
    (m_evq : kp .evq = false := by assumption) (m_trace : kp .trace = false := by assumption)
    (m_mode : kp .mode = false := by assumption) (m_safe : kp .safe = false := by assumption)
    (m_health : kp .health = false := by assumption) (m_adc : kp .adc = false := by assumption)
    (m_wdog : kp .wdog = false := by assumption) (m_txn : kp .txn = false := by assumption)
    (m_sec : kp .sec = false := by assumption) (m_ser : kp .ser = false := by assumption) :
    KeptR kp s0 (withTxn s bcast anchor tag op f) := by
  unfold withTxn
  split
  · exact h
  · repeat' split
    all_goals first | (exact hf _ h _) | (exact h) | (exact expireHeld_kept _ _ h)

end Sys2Proof.Machine
end

