-- ==== Sys2Proof/Laws/KeptUnits.lean ====
section
/-! SUPPORT. KeptUnits: every operation that answers a state keeps Kept, one lemma for each, named after it.
The serial port, flash, the converters, the channels, the panel, health, the sets and time. -/

namespace Sys2Proof.Machine

open Sys2Proof

-- One proof at a time: in the package as one text, proofs checked side by side ask for too many threads.
set_option Elab.async false

/-! ### Serial -/

@[simp] theorem srcEnd_kept {kp : Part → Bool} {s0 : State} (s : State) (f : Requester) (outcome result status : Nat)
    (resp : List Byte)
    (hk0 : Kept kp s0 s)
    (m_evq : kp .evq = false := by assumption) (m_trace : kp .trace = false := by assumption)
    (m_bus : kp .bus = false := by assumption) (m_mode : kp .mode = false := by assumption)
    (m_safe : kp .safe = false := by assumption) (m_health : kp .health = false := by assumption)
    (m_adc : kp .adc = false := by assumption) (m_wdog : kp .wdog = false := by assumption)
    (m_txn : kp .txn = false := by assumption) (m_sec : kp .sec = false := by assumption) :
    Kept kp s0 (srcEnd s f outcome result status resp) := by
  unfold srcEnd
  try dsimp only
  repeat' split
  all_goals simp_all (maxDischargeDepth := 9)

@[simp] theorem srcRefuse_kept {kp : Part → Bool} {s0 : State} (s : State) (f : Requester) (code : Nat)
    (hk0 : Kept kp s0 s)
    (m_evq : kp .evq = false := by assumption) (m_trace : kp .trace = false := by assumption)
    (m_bus : kp .bus = false := by assumption) (m_mode : kp .mode = false := by assumption)
    (m_safe : kp .safe = false := by assumption) (m_health : kp .health = false := by assumption)
    (m_adc : kp .adc = false := by assumption) (m_wdog : kp .wdog = false := by assumption)
    (m_txn : kp .txn = false := by assumption) (m_sec : kp .sec = false := by assumption) :
    Kept kp s0 (srcRefuse s f code) := by
  unfold srcRefuse
  try dsimp only
  repeat' split
  all_goals simp_all (maxDischargeDepth := 9)

@[simp] theorem srcBegin_kept {kp : Part → Bool} {s0 : State} (s : State) (f : Requester)
    (hk0 : Kept kp s0 s)
    (m_txn : kp .txn = false := by assumption) :
    Kept kp s0 (srcBegin s f) := by
  unfold srcBegin
  try dsimp only
  repeat' split
  all_goals simp_all (maxDischargeDepth := 9)

@[simp] theorem srcHold_kept {kp : Part → Bool} {s0 : State} (s : State) (f : Requester)
    (hk0 : Kept kp s0 s)
    (m_txn : kp .txn = false := by assumption) :
    Kept kp s0 (srcHold s f) := by
  unfold srcHold
  try dsimp only
  repeat' split
  all_goals simp_all (maxDischargeDepth := 9)

@[simp] theorem markCont_kept {kp : Part → Bool} {s0 : State} (s : State) (j : SerJob)
    (hk0 : Kept kp s0 s)
    (m_ser : kp .ser = false := by assumption) :
    Kept kp s0 (markCont s j) := by
  unfold markCont
  try dsimp only
  repeat' split
  all_goals simp_all (maxDischargeDepth := 9)

@[simp] theorem startJob_kept {kp : Part → Bool} {s0 : State} (s : State) (j : SerJob) (hk0 : Kept kp s0 s)
    (m_txn : kp .txn = false := by assumption) (m_ser : kp .ser = false := by assumption) :
    Kept kp s0 (startJob s j) := by
  unfold startJob
  try dsimp only
  repeat' split
  all_goals simp_all (maxDischargeDepth := 15)

@[simp] theorem serRun_kept {kp : Part → Bool} {s0 : State} (s : State) (hk0 : Kept kp s0 s)
    (m_txn : kp .txn = false := by assumption) (m_ser : kp .ser = false := by assumption) :
    Kept kp s0 (serRun s) := by
  unfold serRun
  repeat' split
  all_goals simp_all

@[simp] theorem cancelPrefetch_kept {kp : Part → Bool} {s0 : State} (s : State) (hk0 : Kept kp s0 s)
    (m_ser : kp .ser = false := by assumption) :
    Kept kp s0 (cancelPrefetch s) := by
  unfold cancelPrefetch
  repeat' split
  all_goals simp_all

@[simp] theorem serAdd_kept {kp : Part → Bool} {s0 : State} (s : State) (j : SerJob) (hk0 : Kept kp s0 s)
    (m_txn : kp .txn = false := by assumption) (m_ser : kp .ser = false := by assumption) :
    Kept kp s0 (serAdd s j) := by
  unfold serAdd
  simp_all (maxDischargeDepth := 9)

@[simp] theorem putLine_kept {kp : Part → Bool} {s0 : State} (s : State) (a : Nat) (b : List Byte) (hk0 : Kept kp s0 s)
    (m_ser : kp .ser = false := by assumption) :
    Kept kp s0 (putLine s a b) := by
  unfold putLine
  simp_all

@[simp] theorem flushLines_kept {kp : Part → Bool} {s0 : State} (s : State) (hk0 : Kept kp s0 s)
    (m_ser : kp .ser = false := by assumption) :
    Kept kp s0 (flushLines s) := by
  unfold flushLines
  simp_all

@[simp] theorem askExit_kept {kp : Part → Bool} {s0 : State} (s : State) (c : Nat) (hk0 : Kept kp s0 s)
    (m_txn : kp .txn = false := by assumption) (m_ser : kp .ser = false := by assumption) :
    Kept kp s0 (askExit s c) := by
  unfold askExit
  repeat' split
  all_goals simp_all

@[simp] theorem afterRead_kept {kp : Part → Bool} {s0 : State} (s : State) (hk0 : Kept kp s0 s)
    (m_bus : kp .bus = false := by assumption) (m_txn : kp .txn = false := by assumption)
    (m_ser : kp .ser = false := by assumption) :
    Kept kp s0 (afterRead s) := by
  unfold afterRead
  dsimp only
  repeat' split
  all_goals simp_all (maxDischargeDepth := 9)

@[simp] theorem endRead_kept {kp : Part → Bool} {s0 : State} (s : State) (w : Word) (hk0 : Kept kp s0 s)
    (m_bus : kp .bus = false := by assumption) (m_txn : kp .txn = false := by assumption)
    (m_ser : kp .ser = false := by assumption) :
    Kept kp s0 (endRead s w) := by
  unfold endRead
  simp_all

@[simp] theorem busError_kept {kp : Part → Bool} {s0 : State} (s : State) (cause : Nat) (addr : Nat)
    (hk0 : Kept kp s0 s)
    (m_evq : kp .evq = false := by assumption) (m_trace : kp .trace = false := by assumption) :
    Kept kp s0 (busError s cause addr) := by
  unfold busError
  simp_all

@[simp] theorem failRead_kept {kp : Part → Bool} {s0 : State} (s : State) (hk0 : Kept kp s0 s)
    (m_evq : kp .evq = false := by assumption) (m_trace : kp .trace = false := by assumption)
    (m_bus : kp .bus = false := by assumption) (m_txn : kp .txn = false := by assumption)
    (m_ser : kp .ser = false := by assumption) :
    Kept kp s0 (failRead s) := by
  unfold failRead
  dsimp only
  repeat' split
  all_goals simp_all (maxDischargeDepth := 9)

@[simp] theorem serveRead_kept {kp : Part → Bool} {s0 : State} (s : State) (a : Nat) (hk0 : Kept kp s0 s)
    (m_bus : kp .bus = false := by assumption) (m_txn : kp .txn = false := by assumption)
    (m_ser : kp .ser = false := by assumption) :
    Kept kp s0 (serveRead s a) := by
  unfold serveRead
  dsimp only
  repeat' split
  all_goals simp_all

@[simp] theorem blindRead_kept {kp : Part → Bool} {s0 : State} (s : State) (hk0 : Kept kp s0 s)
    (m_ser : kp .ser = false := by assumption) :
    Kept kp s0 (blindRead s) := by
  unfold blindRead
  simp_all

@[simp] theorem windowRead_kept {kp : Part → Bool} {s0 : State} (s : State) (x : Nat) (hk0 : Kept kp s0 s)
    (m_bus : kp .bus = false := by assumption) (m_txn : kp .txn = false := by assumption)
    (m_ser : kp .ser = false := by assumption) :
    Kept kp s0 (windowRead s x) := by
  unfold windowRead
  dsimp only
  repeat' split
  all_goals simp_all

@[simp] theorem eraseDone_kept {kp : Part → Bool} {s0 : State} (s : State) (limit : Bool) (hk0 : Kept kp s0 s)
    (m_bus : kp .bus = false := by assumption) (m_wdog : kp .wdog = false := by assumption)
    (m_txn : kp .txn = false := by assumption) (m_ser : kp .ser = false := by assumption) :
    Kept kp s0 (eraseDone s limit) := by
  unfold eraseDone
  dsimp only
  repeat' split
  all_goals simp_all (maxDischargeDepth := 9)

@[simp] theorem afterXfer_kept {kp : Part → Bool} {s0 : State} (s : State) (c : Nat) (cmd : List Byte)
    (write : List Byte) (hk0 : Kept kp s0 s)
    (m_wdog : kp .wdog = false := by assumption) (m_ser : kp .ser = false := by assumption) :
    Kept kp s0 (afterXfer s c cmd write) := by
  unfold afterXfer
  dsimp only
  repeat' split
  all_goals simp_all (maxDischargeDepth := 9)

@[simp] theorem xferOk_kept {kp : Part → Bool} {s0 : State} (s : State) (f : Requester) (l : List Byte)
    (hk0 : Kept kp s0 s)
    (m_mem : kp .mem = false := by assumption) (m_evq : kp .evq = false := by assumption)
    (m_trace : kp .trace = false := by assumption) (m_bus : kp .bus = false := by assumption)
    (m_mode : kp .mode = false := by assumption) (m_safe : kp .safe = false := by assumption)
    (m_health : kp .health = false := by assumption) (m_adc : kp .adc = false := by assumption)
    (m_wdog : kp .wdog = false := by assumption) (m_txn : kp .txn = false := by assumption)
    (m_sec : kp .sec = false := by assumption) :
    Kept kp s0 (xferOk s f l) := by
  unfold xferOk
  try dsimp only
  repeat' split
  all_goals simp_all (maxDischargeDepth := 9)

@[simp] theorem xferErr_kept {kp : Part → Bool} {s0 : State} (s : State) (f : Requester) (detail : Nat)
    (hk0 : Kept kp s0 s)
    (m_evq : kp .evq = false := by assumption) (m_trace : kp .trace = false := by assumption)
    (m_bus : kp .bus = false := by assumption) (m_mode : kp .mode = false := by assumption)
    (m_safe : kp .safe = false := by assumption) (m_health : kp .health = false := by assumption)
    (m_adc : kp .adc = false := by assumption) (m_wdog : kp .wdog = false := by assumption)
    (m_txn : kp .txn = false := by assumption) (m_sec : kp .sec = false := by assumption) :
    Kept kp s0 (xferErr s f detail) := by
  unfold xferErr
  try dsimp only
  repeat' split
  all_goals simp_all (maxDischargeDepth := 9)

@[simp] theorem serFree_kept {kp : Part → Bool} {s0 : State} (s : State) (hk0 : Kept kp s0 s)
    (m_txn : kp .txn = false := by assumption) (m_ser : kp .ser = false := by assumption) :
    Kept kp s0 (serFree s) := by
  unfold serFree
  simp_all

@[simp] theorem enterLine_kept {kp : Part → Bool} {s0 : State} (s : State) (c a : Nat) (l : List Byte)
    (hk0 : Kept kp s0 s)
    (m_ser : kp .ser = false := by assumption) :
    Kept kp s0 (enterLine s c a l) := by
  unfold enterLine
  try dsimp only
  repeat' split
  all_goals simp_all (maxDischargeDepth := 9)

@[simp] theorem hostWord_kept {kp : Part → Bool} {s0 : State} (s : State) (l : List Byte)
    (hk0 : Kept kp s0 s)
    (m_bus : kp .bus = false := by assumption) (m_txn : kp .txn = false := by assumption)
    (m_ser : kp .ser = false := by assumption) :
    Kept kp s0 (hostWord s l) := by
  unfold hostWord
  try dsimp only
  repeat' split
  all_goals simp_all (maxDischargeDepth := 9)

@[simp] theorem jobDone_kept {kp : Part → Bool} {s0 : State} (s : State) (j : SerJob) (l : List Byte)
    (hk0 : Kept kp s0 s)
    (m_mem : kp .mem = false := by assumption) (m_evq : kp .evq = false := by assumption)
    (m_trace : kp .trace = false := by assumption) (m_bus : kp .bus = false := by assumption)
    (m_mode : kp .mode = false := by assumption) (m_safe : kp .safe = false := by assumption)
    (m_health : kp .health = false := by assumption) (m_adc : kp .adc = false := by assumption)
    (m_wdog : kp .wdog = false := by assumption) (m_txn : kp .txn = false := by assumption)
    (m_sec : kp .sec = false := by assumption) (m_ser : kp .ser = false := by assumption) :
    Kept kp s0 (jobDone s j l) := by
  unfold jobDone
  cases j with
  | demand c a w =>
    have h := enterLine_kept (hostWord s (padTo 64 l)) c a l (hostWord_kept _ _ hk0)
    simp [h, m_ser]
  | prefetch c a =>
    have h := enterLine_kept s c a l hk0
    simp [h, m_ser]
  | exit c a b => simp [hk0, m_ser]
  | xfer c a cmd w n f =>
    dsimp only
    refine afterXfer_kept _ _ _ _ (xferOk_kept _ _ _ ?_)
    simp [hk0, m_ser]
  | poll n =>
    dsimp only
    split
    · refine eraseDone_kept _ _ ?_
      simp [hk0, m_ser]
    · simp [hk0, m_ser]
  | medium => exact hk0

@[simp] theorem jobFail_kept {kp : Part → Bool} {s0 : State} (s : State) (j : SerJob) (detail : Nat)
    (hk0 : Kept kp s0 s)
    (m_evq : kp .evq = false := by assumption) (m_trace : kp .trace = false := by assumption)
    (m_bus : kp .bus = false := by assumption) (m_mode : kp .mode = false := by assumption)
    (m_safe : kp .safe = false := by assumption) (m_health : kp .health = false := by assumption)
    (m_adc : kp .adc = false := by assumption) (m_wdog : kp .wdog = false := by assumption)
    (m_txn : kp .txn = false := by assumption) (m_sec : kp .sec = false := by assumption)
    (m_ser : kp .ser = false := by assumption) :
    Kept kp s0 (jobFail s j detail) := by
  unfold jobFail
  dsimp only
  repeat' split
  all_goals simp_all (maxDischargeDepth := 9)

@[simp] theorem jobCut_kept {kp : Part → Bool} {s0 : State} (s : State) (l : List Byte) (detail : Nat)
    (hk0 : Kept kp s0 s)
    (m_evq : kp .evq = false := by assumption) (m_trace : kp .trace = false := by assumption)
    (m_bus : kp .bus = false := by assumption) (m_mode : kp .mode = false := by assumption)
    (m_safe : kp .safe = false := by assumption) (m_health : kp .health = false := by assumption)
    (m_adc : kp .adc = false := by assumption) (m_wdog : kp .wdog = false := by assumption)
    (m_txn : kp .txn = false := by assumption) (m_sec : kp .sec = false := by assumption)
    (m_ser : kp .ser = false := by assumption) :
    Kept kp s0 (jobCut s l detail) := by
  unfold jobCut
  try dsimp only
  repeat' split
  all_goals simp_all (maxDischargeDepth := 9)

@[simp] theorem execCspTransferEnd_kept {kp : Part → Bool} {s0 : State} (read : List Byte) (s : State)
    (hk0 : Kept kp s0 s)
    (m_mem : kp .mem = false := by assumption) (m_evq : kp .evq = false := by assumption)
    (m_trace : kp .trace = false := by assumption) (m_bus : kp .bus = false := by assumption)
    (m_mode : kp .mode = false := by assumption) (m_safe : kp .safe = false := by assumption)
    (m_health : kp .health = false := by assumption) (m_adc : kp .adc = false := by assumption)
    (m_wdog : kp .wdog = false := by assumption) (m_txn : kp .txn = false := by assumption)
    (m_sec : kp .sec = false := by assumption) (m_ser : kp .ser = false := by assumption) :
    KeptR kp s0 (execCspTransferEnd read s) := by
  unfold execCspTransferEnd
  repeat' split
  all_goals simp_all

@[simp] theorem countReadyTo_kept {kp : Part → Bool} {s0 : State} (s : State) (c : Nat) (hk0 : Kept kp s0 s)
    (m_ser : kp .ser = false := by assumption) :
    Kept kp s0 (countReadyTo s c) := by
  unfold countReadyTo
  simp_all

@[simp] theorem headCut_kept {kp : Part → Bool} {s0 : State} (s : State) (j : SerJob) (sent : Nat)
    (hk0 : Kept kp s0 s)
    (m_ser : kp .ser = false := by assumption) :
    Kept kp s0 (headCut s j sent) := by
  unfold headCut
  try dsimp only
  repeat' split
  all_goals simp_all (maxDischargeDepth := 9)

@[simp] theorem execReadyTimeout_kept {kp : Part → Bool} {s0 : State} (sent : Nat) (read : List Byte) (s : State)
    (hk0 : Kept kp s0 s)
    (m_evq : kp .evq = false := by assumption) (m_trace : kp .trace = false := by assumption)
    (m_bus : kp .bus = false := by assumption) (m_mode : kp .mode = false := by assumption)
    (m_safe : kp .safe = false := by assumption) (m_health : kp .health = false := by assumption)
    (m_adc : kp .adc = false := by assumption) (m_wdog : kp .wdog = false := by assumption)
    (m_txn : kp .txn = false := by assumption) (m_sec : kp .sec = false := by assumption)
    (m_ser : kp .ser = false := by assumption) :
    KeptR kp s0 (execReadyTimeout sent s read) := by
  unfold execReadyTimeout
  try dsimp only
  repeat' split
  all_goals simp_all (maxDischargeDepth := 9)

@[simp] theorem execDqsTimeout_kept {kp : Part → Bool} {s0 : State} (read : List Byte) (s : State)
    (hk0 : Kept kp s0 s)
    (m_evq : kp .evq = false := by assumption) (m_trace : kp .trace = false := by assumption)
    (m_bus : kp .bus = false := by assumption) (m_mode : kp .mode = false := by assumption)
    (m_safe : kp .safe = false := by assumption) (m_health : kp .health = false := by assumption)
    (m_adc : kp .adc = false := by assumption) (m_wdog : kp .wdog = false := by assumption)
    (m_txn : kp .txn = false := by assumption) (m_sec : kp .sec = false := by assumption)
    (m_ser : kp .ser = false := by assumption) :
    KeptR kp s0 (execDqsTimeout s read) := by
  unfold execDqsTimeout
  try dsimp only
  repeat' split
  all_goals simp_all (maxDischargeDepth := 9)

@[simp] theorem execPrefetchStart_kept {kp : Part → Bool} {s0 : State} (s : State) (hk0 : Kept kp s0 s)
    (m_txn : kp .txn = false := by assumption) (m_ser : kp .ser = false := by assumption) :
    KeptR kp s0 (execPrefetchStart s) := by
  unfold execPrefetchStart
  dsimp only
  repeat' split
  all_goals simp_all

@[simp] theorem execErasePoll_kept {kp : Part → Bool} {s0 : State} (s : State) (hk0 : Kept kp s0 s)
    (m_txn : kp .txn = false := by assumption) (m_ser : kp .ser = false := by assumption) :
    KeptR kp s0 (execErasePoll s) := by
  unfold execErasePoll
  repeat' split
  all_goals simp_all

@[simp] theorem execEraseTrackLimit_kept {kp : Part → Bool} {s0 : State} (s : State) (hk0 : Kept kp s0 s)
    (m_time : kp .time = false := by assumption) (m_bus : kp .bus = false := by assumption)
    (m_wdog : kp .wdog = false := by assumption) (m_txn : kp .txn = false := by assumption)
    (m_ser : kp .ser = false := by assumption) :
    KeptR kp s0 (execEraseTrackLimit s) := by
  unfold execEraseTrackLimit
  repeat' split
  all_goals simp_all

@[simp] theorem execXipTimeout_kept {kp : Part → Bool} {s0 : State} (read : List Byte) (s : State)
    (hk0 : Kept kp s0 s)
    (m_time : kp .time = false := by assumption) (m_evq : kp .evq = false := by assumption)
    (m_trace : kp .trace = false := by assumption) (m_bus : kp .bus = false := by assumption)
    (m_txn : kp .txn = false := by assumption) (m_ser : kp .ser = false := by assumption) :
    KeptR kp s0 (execXipTimeout s read) := by
  unfold execXipTimeout
  try dsimp only
  repeat' split
  all_goals simp_all (maxDischargeDepth := 9)

@[simp] theorem xferPost_kept {kp : Part → Bool} {s0 : State} (s : State) (c lane : Nat) (cmd write : List Byte)
    (len : Nat) (f : Requester)
    (hk0 : Kept kp s0 s)
    (m_evq : kp .evq = false := by assumption) (m_trace : kp .trace = false := by assumption)
    (m_bus : kp .bus = false := by assumption) (m_mode : kp .mode = false := by assumption)
    (m_safe : kp .safe = false := by assumption) (m_health : kp .health = false := by assumption)
    (m_adc : kp .adc = false := by assumption) (m_wdog : kp .wdog = false := by assumption)
    (m_txn : kp .txn = false := by assumption) (m_sec : kp .sec = false := by assumption)
    (m_ser : kp .ser = false := by assumption) :
    Kept kp s0 (xferPost s c lane cmd write len f) := by
  unfold xferPost
  try dsimp only
  repeat' split
  all_goals simp_all (maxDischargeDepth := 9)

@[simp] theorem xferQueue_kept {kp : Part → Bool} {s0 : State} (s : State) (p : Path) (d : Descriptor)
    (hk0 : Kept kp s0 s)
    (m_evq : kp .evq = false := by assumption) (m_trace : kp .trace = false := by assumption)
    (m_bus : kp .bus = false := by assumption) (m_mode : kp .mode = false := by assumption)
    (m_safe : kp .safe = false := by assumption) (m_health : kp .health = false := by assumption)
    (m_adc : kp .adc = false := by assumption) (m_wdog : kp .wdog = false := by assumption)
    (m_txn : kp .txn = false := by assumption) (m_sec : kp .sec = false := by assumption)
    (m_ser : kp .ser = false := by assumption) :
    Kept kp s0 (xferQueue s p d) := by
  unfold xferQueue
  dsimp only
  repeat' split
  all_goals simp_all

@[simp] theorem xferLine_kept {kp : Part → Bool} {s0 : State} (s : State) (t : Txn) (hk0 : Kept kp s0 s)
    (m_evq : kp .evq = false := by assumption) (m_trace : kp .trace = false := by assumption)
    (m_bus : kp .bus = false := by assumption) (m_mode : kp .mode = false := by assumption)
    (m_safe : kp .safe = false := by assumption) (m_health : kp .health = false := by assumption)
    (m_adc : kp .adc = false := by assumption) (m_wdog : kp .wdog = false := by assumption)
    (m_txn : kp .txn = false := by assumption) (m_sec : kp .sec = false := by assumption)
    (m_ser : kp .ser = false := by assumption) :
    Kept kp s0 (xferLine s t) := by
  unfold xferLine
  dsimp only
  repeat' split
  all_goals simp_all

@[simp] theorem execCspXfer_kept {kp : Part → Bool} {s0 : State} (src : Source) (s : State) (hk0 : Kept kp s0 s)
    (m_mem : kp .mem = false := by assumption) (m_evq : kp .evq = false := by assumption)
    (m_trace : kp .trace = false := by assumption) (m_bus : kp .bus = false := by assumption)
    (m_mode : kp .mode = false := by assumption) (m_safe : kp .safe = false := by assumption)
    (m_health : kp .health = false := by assumption) (m_adc : kp .adc = false := by assumption)
    (m_wdog : kp .wdog = false := by assumption) (m_txn : kp .txn = false := by assumption)
    (m_sec : kp .sec = false := by assumption) (m_ser : kp .ser = false := by assumption) :
    KeptR kp s0 (execCspXfer src s) := by
  unfold execCspXfer
  repeat' split
  all_goals simp_all

/-! ### Flash -/

@[simp] theorem State.flashWrite_kept {kp : Part → Bool} {s0 : State} (s : State) (a : Nat) (l : List Byte)
    (hk0 : Kept kp s0 s)
    (m_flash : kp .flash = false := by assumption) :
    Kept kp s0 (State.flashWrite s a l) := by
  unfold State.flashWrite
  simp_all

@[simp] theorem State.flashClear_kept {kp : Part → Bool} {s0 : State} (s : State) (sector : Nat) (hk0 : Kept kp s0 s)
    (m_flash : kp .flash = false := by assumption) :
    Kept kp s0 (State.flashClear s sector) := by
  unfold State.flashClear
  simp_all

@[simp] theorem addProgram_kept {kp : Part → Bool} {s0 : State} (s : State) (owner : ProgOwner) (rank : Nat)
    (addr : Nat) (data : List Byte) (hk0 : Kept kp s0 s)
    (m_flash : kp .flash = false := by assumption) :
    Kept kp s0 (addProgram s owner rank addr data) := by
  unfold addProgram
  simp_all

@[simp] theorem addErase_kept {kp : Part → Bool} {s0 : State} (s : State) (sector : Nat) (cause : Nat)
    (hk0 : Kept kp s0 s)
    (m_flash : kp .flash = false := by assumption) :
    Kept kp s0 (addErase s sector cause) := by
  unfold addErase
  simp_all

@[simp] theorem addUnits_kept {kp : Part → Bool} {s0 : State} (s : State) (addr : Nat) (l : List (List Byte))
    (hk0 : Kept kp s0 s)
    (m_flash : kp .flash = false := by assumption) :
    Kept kp s0 (addUnits s addr l) := by
  induction l generalizing s addr with
  | nil => exact hk0
  | cons u r ih => exact ih _ _ (addProgram_kept _ _ _ _ _ hk0)

@[simp] theorem openJournal_kept {kp : Part → Bool} {s0 : State} (s : State) (hk0 : Kept kp s0 s)
    (m_flash : kp .flash = false := by assumption) :
    Kept kp s0 (openJournal s) := by
  unfold openJournal
  simp_all

@[simp] theorem journal_kept {kp : Part → Bool} {s0 : State} (s : State) (owner : ProgOwner) (kind : Nat)
    (payload : List Byte) (hk0 : Kept kp s0 s)
    (m_flash : kp .flash = false := by assumption) :
    Kept kp s0 (journal s owner kind payload) := by
  unfold journal
  dsimp only
  repeat' split
  all_goals simp_all (maxDischargeDepth := 9)

@[simp] theorem spareHealth_kept {kp : Part → Bool} {s0 : State} (s : State) (hk0 : Kept kp s0 s)
    (m_evq : kp .evq = false := by assumption) (m_trace : kp .trace = false := by assumption)
    (m_mode : kp .mode = false := by assumption) (m_safe : kp .safe = false := by assumption)
    (m_health : kp .health = false := by assumption) (m_adc : kp .adc = false := by assumption)
    (m_wdog : kp .wdog = false := by assumption) :
    Kept kp s0 (spareHealth s) := by
  unfold spareHealth
  dsimp only
  repeat' split
  all_goals simp_all

@[simp] theorem sectorDead_kept {kp : Part → Bool} {s0 : State} (s : State) (sector : Nat) (hk0 : Kept kp s0 s)
    (m_flash : kp .flash = false := by assumption) :
    Kept kp s0 (sectorDead s sector) := by
  unfold sectorDead
  simp_all

@[simp] theorem unspared_kept {kp : Part → Bool} {s0 : State} (s : State) (sector cause : Nat)
    (hk0 : Kept kp s0 s)
    (m_evq : kp .evq = false := by assumption) (m_trace : kp .trace = false := by assumption)
    (m_mode : kp .mode = false := by assumption) (m_safe : kp .safe = false := by assumption)
    (m_health : kp .health = false := by assumption) (m_adc : kp .adc = false := by assumption)
    (m_wdog : kp .wdog = false := by assumption) (m_flash : kp .flash = false := by assumption) :
    Kept kp s0 (unspared s sector cause) := by
  unfold unspared
  try dsimp only
  repeat' split
  all_goals simp_all (maxDischargeDepth := 9)

@[simp] theorem retireNext_kept {kp : Part → Bool} {s0 : State} (s : State)
    (hk0 : Kept kp s0 s)
    (m_evq : kp .evq = false := by assumption) (m_trace : kp .trace = false := by assumption)
    (m_mode : kp .mode = false := by assumption) (m_safe : kp .safe = false := by assumption)
    (m_health : kp .health = false := by assumption) (m_adc : kp .adc = false := by assumption)
    (m_wdog : kp .wdog = false := by assumption) (m_flash : kp .flash = false := by assumption) :
    Kept kp s0 (retireNext s) := by
  unfold retireNext
  split
  · exact hk0
  · split
    · refine Kept.foldl _ _ _ (fun u hu x => unspared_kept _ _ _ hu) ?_
      simp [hk0, m_flash]
    · split
      · exact addErase_kept _ _ _ hk0
      · refine journal_kept _ _ _ _ ?_
        simp [hk0, m_flash]

@[simp] theorem retire_kept {kp : Part → Bool} {s0 : State} (s : State) (sector : Nat) (cause : Nat)
    (hk0 : Kept kp s0 s)
    (m_evq : kp .evq = false := by assumption) (m_trace : kp .trace = false := by assumption)
    (m_mode : kp .mode = false := by assumption) (m_safe : kp .safe = false := by assumption)
    (m_health : kp .health = false := by assumption) (m_adc : kp .adc = false := by assumption)
    (m_wdog : kp .wdog = false := by assumption) (m_flash : kp .flash = false := by assumption) :
    Kept kp s0 (retire s sector cause) := by
  unfold retire
  dsimp only
  repeat' split
  all_goals simp_all (maxDischargeDepth := 9)

@[simp] theorem retired_kept {kp : Part → Bool} {s0 : State} (s : State) (sector i : Nat)
    (hk0 : Kept kp s0 s)
    (m_evq : kp .evq = false := by assumption) (m_trace : kp .trace = false := by assumption)
    (m_mode : kp .mode = false := by assumption) (m_safe : kp .safe = false := by assumption)
    (m_health : kp .health = false := by assumption) (m_adc : kp .adc = false := by assumption)
    (m_wdog : kp .wdog = false := by assumption) (m_flash : kp .flash = false := by assumption) :
    Kept kp s0 (retired s sector i) := by
  unfold retired
  try dsimp only
  repeat' split
  all_goals simp_all (maxDischargeDepth := 9)

@[simp] theorem spareDead_kept {kp : Part → Bool} {s0 : State} (s : State) (i : Nat)
    (hk0 : Kept kp s0 s)
    (m_evq : kp .evq = false := by assumption) (m_trace : kp .trace = false := by assumption)
    (m_mode : kp .mode = false := by assumption) (m_safe : kp .safe = false := by assumption)
    (m_health : kp .health = false := by assumption) (m_adc : kp .adc = false := by assumption)
    (m_wdog : kp .wdog = false := by assumption) (m_flash : kp .flash = false := by assumption) :
    Kept kp s0 (spareDead s i) := by
  unfold spareDead
  try dsimp only
  repeat' split
  all_goals simp_all (maxDischargeDepth := 9)

@[simp] theorem flashAccess_kept {kp : Part → Bool} {s0 : State} (s : State) (plane : Nat) (hk0 : Kept kp s0 s)
    (m_flash : kp .flash = false := by assumption) :
    Kept kp s0 (flashAccess s plane) := by
  unfold flashAccess
  repeat' split
  all_goals simp_all

@[simp] theorem flashRun_kept {kp : Part → Bool} {s0 : State} (s : State) (hk0 : Kept kp s0 s)
    (m_flash : kp .flash = false := by assumption) :
    Kept kp s0 (flashRun s) := by
  unfold flashRun
  dsimp only
  repeat' split
  all_goals simp_all (maxDischargeDepth := 9)

@[simp] theorem askErase_kept {kp : Part → Bool} {s0 : State} (s : State) (sector : Nat) (hk0 : Kept kp s0 s)
    (m_flash : kp .flash = false := by assumption) :
    Kept kp s0 (askErase s sector) := by
  unfold askErase
  simp_all

@[simp] theorem eraseNotify_kept {kp : Part → Bool} {s0 : State} (s : State) (sector : Nat) (ok : Bool)
    (hk0 : Kept kp s0 s)
    (m_upd : kp .upd = false := by assumption) (m_flash : kp .flash = false := by assumption) :
    Kept kp s0 (eraseNotify s sector ok) := by
  unfold eraseNotify
  simp_all

@[simp] theorem eraseEnd_kept {kp : Part → Bool} {s0 : State} (s : State) (e : EraseRun) (status : Nat)
    (hk0 : Kept kp s0 s)
    (m_wdog : kp .wdog = false := by assumption) (m_flash : kp .flash = false := by assumption) :
    Kept kp s0 (eraseEnd s e status) := by
  unfold eraseEnd
  dsimp only
  repeat' split
  all_goals simp_all (maxDischargeDepth := 9)

@[simp] theorem execFlashEraseEnd_kept {kp : Part → Bool} {s0 : State} (t : Nat) (s : State) (hk0 : Kept kp s0 s)
    (m_time : kp .time = false := by assumption) (m_wdog : kp .wdog = false := by assumption)
    (m_flash : kp .flash = false := by assumption) :
    KeptR kp s0 (execFlashEraseEnd t s) := by
  unfold execFlashEraseEnd
  dsimp only
  repeat' split
  all_goals simp_all (maxDischargeDepth := 9)

@[simp] theorem execFlashEraseAbort_kept {kp : Part → Bool} {s0 : State} (s : State) (hk0 : Kept kp s0 s)
    (m_time : kp .time = false := by assumption) (m_wdog : kp .wdog = false := by assumption)
    (m_flash : kp .flash = false := by assumption) :
    KeptR kp s0 (execFlashEraseAbort s) := by
  unfold execFlashEraseAbort
  repeat' first
    | (with_reducible assumption)
    | simp only [keptR_next]
    | (with_reducible refine State.reach_kept _ _ ?_)
    | (with_reducible refine eraseEnd_kept _ _ _ ?_)
    | (with_reducible refine flashRun_kept _ ?_)
    | split

@[simp] theorem execEraseCutoff_kept {kp : Part → Bool} {s0 : State} (s : State) (hk0 : Kept kp s0 s)
    (m_time : kp .time = false := by assumption) (m_wdog : kp .wdog = false := by assumption)
    (m_flash : kp .flash = false := by assumption) :
    KeptR kp s0 (execEraseCutoff s) := by
  unfold execEraseCutoff
  try dsimp only
  repeat' split
  all_goals simp_all (maxDischargeDepth := 15)

@[simp] theorem execEraseResume_kept {kp : Part → Bool} {s0 : State} (s : State) (hk0 : Kept kp s0 s)
    (m_time : kp .time = false := by assumption) (m_flash : kp .flash = false := by assumption) :
    KeptR kp s0 (execEraseResume s) := by
  unfold execEraseResume
  dsimp only
  repeat' split
  all_goals simp_all (maxDischargeDepth := 9)

@[simp] theorem sectorErased_kept {kp : Part → Bool} {s0 : State} (s : State) (sector : Nat)
    (hk0 : Kept kp s0 s)
    (m_evq : kp .evq = false := by assumption) (m_trace : kp .trace = false := by assumption)
    (m_mode : kp .mode = false := by assumption) (m_safe : kp .safe = false := by assumption)
    (m_health : kp .health = false := by assumption) (m_adc : kp .adc = false := by assumption)
    (m_wdog : kp .wdog = false := by assumption) (m_upd : kp .upd = false := by assumption)
    (m_flash : kp .flash = false := by assumption) :
    Kept kp s0 (sectorErased s sector) := by
  unfold sectorErased
  try dsimp only
  repeat' split
  all_goals simp_all (maxDischargeDepth := 9)

@[simp] theorem slowErase_kept {kp : Part → Bool} {s0 : State} (s : State) (sector : Nat)
    (hk0 : Kept kp s0 s)
    (m_evq : kp .evq = false := by assumption) (m_trace : kp .trace = false := by assumption)
    (m_mode : kp .mode = false := by assumption) (m_safe : kp .safe = false := by assumption)
    (m_health : kp .health = false := by assumption) (m_adc : kp .adc = false := by assumption)
    (m_wdog : kp .wdog = false := by assumption) (m_flash : kp .flash = false := by assumption) :
    Kept kp s0 (slowErase s sector) := by
  unfold slowErase
  try dsimp only
  repeat' split
  all_goals simp_all (maxDischargeDepth := 9)

@[simp] theorem eraseDoneUnit_kept {kp : Part → Bool} {s0 : State} (s : State) (sector : Nat) (status : Nat)
    (hk0 : Kept kp s0 s)
    (m_evq : kp .evq = false := by assumption) (m_trace : kp .trace = false := by assumption)
    (m_mode : kp .mode = false := by assumption) (m_safe : kp .safe = false := by assumption)
    (m_health : kp .health = false := by assumption) (m_adc : kp .adc = false := by assumption)
    (m_wdog : kp .wdog = false := by assumption) (m_upd : kp .upd = false := by assumption)
    (m_flash : kp .flash = false := by assumption) :
    Kept kp s0 (eraseDoneUnit s sector status) := by
  unfold eraseDoneUnit
  split
  · exact sectorErased_kept _ _ hk0
  · exact sectorErased_kept _ _ (slowErase_kept _ _ hk0)
  · split
    · exact spareDead_kept _ _ hk0
    · exact eraseNotify_kept _ _ _ (retire_kept _ _ _ (State.flashClear_kept _ _ hk0))
  · exact hk0

@[simp] theorem programDone_kept {kp : Part → Bool} {s0 : State} (s : State) (p : Program) (hk0 : Kept kp s0 s)
    (m_evq : kp .evq = false := by assumption) (m_trace : kp .trace = false := by assumption)
    (m_mode : kp .mode = false := by assumption) (m_safe : kp .safe = false := by assumption)
    (m_health : kp .health = false := by assumption) (m_adc : kp .adc = false := by assumption)
    (m_wdog : kp .wdog = false := by assumption) (m_upd : kp .upd = false := by assumption)
    (m_flash : kp .flash = false := by assumption) :
    Kept kp s0 (programDone s p) := by
  unfold programDone
  repeat' split
  all_goals simp_all

@[simp] theorem programFailed_kept {kp : Part → Bool} {s0 : State} (s : State) (p : Program) (hk0 : Kept kp s0 s)
    (m_flash : kp .flash = false := by assumption) :
    Kept kp s0 (programFailed s p) := by
  unfold programFailed
  repeat' split
  all_goals simp_all

@[simp] theorem flashReset_kept {kp : Part → Bool} {s0 : State} (s : State) (hk0 : Kept kp s0 s)
    (m_flash : kp .flash = false := by assumption) :
    Kept kp s0 (flashReset s) := by
  unfold flashReset
  simp_all

@[simp] theorem flashFlush_kept {kp : Part → Bool} {s0 : State} (s : State) (l : List Program) (hk0 : Kept kp s0 s)
    (m_flash : kp .flash = false := by assumption) :
    Kept kp s0 (flashFlush s l) := by
  induction l generalizing s with
  | nil => simp_all [flashFlush]
  | cons u r ih => exact ih _ (State.flashWrite_kept _ _ _ hk0)

@[simp] theorem repairBoot_kept {kp : Part → Bool} {s0 : State} (s : State) (hk0 : Kept kp s0 s)
    (m_mode : kp .mode = false := by assumption) (m_flash : kp .flash = false := by assumption) :
    Kept kp s0 (repairBoot s) := by
  unfold repairBoot
  dsimp only
  repeat' split
  all_goals simp_all (maxDischargeDepth := 9)

@[simp] theorem postRepaired_kept {kp : Part → Bool} {s0 : State} (s : State) (hk0 : Kept kp s0 s)
    (m_evq : kp .evq = false := by assumption) (m_trace : kp .trace = false := by assumption)
    (m_flash : kp .flash = false := by assumption) :
    Kept kp s0 (postRepaired s) := by
  unfold postRepaired
  simp_all (maxDischargeDepth := 9)

@[simp] theorem calCopies_kept {kp : Part → Bool} {s0 : State} (s : State) (addr : Nat) (l : List CalPair)
    (hk0 : Kept kp s0 s)
    (m_flash : kp .flash = false := by assumption) :
    Kept kp s0 (calCopies s addr l) := by
  induction l generalizing s addr with
  | nil => exact hk0
  | cons u r ih => 
    have h := addProgram_kept s .journal 4 addr (calUnit s u) hk0
    unfold calCopies
    refine ih _ _ ?_
    simp_all

@[simp] theorem calOpen_kept {kp : Part → Bool} {s0 : State} (s : State) (k : Nat) (hk0 : Kept kp s0 s)
    (m_flash : kp .flash = false := by assumption) :
    Kept kp s0 (calOpen s k) := by
  unfold calOpen
  simp_all (maxDischargeDepth := 9)

@[simp] theorem calProgram_kept {kp : Part → Bool} {s0 : State} (s : State) (p : CalPair) (hk0 : Kept kp s0 s)
    (m_flash : kp .flash = false := by assumption) :
    Kept kp s0 (calProgram s p) := by
  unfold calProgram
  dsimp only
  repeat' split
  all_goals simp_all (maxDischargeDepth := 9)

/-! ### Adc -/

@[simp] theorem adcPost_kept {kp : Part → Bool} {s0 : State} (s : State) (code argx : Nat) (v : Int)
    (hk0 : Kept kp s0 s)
    (m_evq : kp .evq = false := by assumption) (m_trace : kp .trace = false := by assumption) :
    Kept kp s0 (adcPost s code argx v) := by
  unfold adcPost
  try dsimp only
  repeat' split
  all_goals simp_all (maxDischargeDepth := 9)

theorem fifoAdd_kept {kp : Part → Bool} {s0 : State} (s : State) (l : List Word)
    (hl : s.adc.fifo.length + l.length ≤ 256)
    (hk0 : Kept kp s0 s)
    (m_evq : kp .evq = false := by assumption) (m_trace : kp .trace = false := by assumption)
    (m_adc : kp .adc = false := by assumption) :
    Kept kp s0 (fifoAdd s l) := by
  have h := hk0.withAdc { s.adc with fifo := s.adc.fifo ++ l } (fun _ => by simpa using hl)
  unfold fifoAdd
  dsimp only
  split
  · exact post_kept _ _ _ _ h
  · exact h

@[simp] theorem fifoPut_kept {kp : Part → Bool} {s0 : State} (s : State) (header : Word) (value : Word)
    (hk0 : Kept kp s0 s)
    (m_evq : kp .evq = false := by assumption) (m_trace : kp .trace = false := by assumption)
    (m_adc : kp .adc = false := by assumption) :
    Kept kp s0 (fifoPut s header value) := by
  unfold fifoPut
  dsimp only
  cases hd : s.adc.fifoDropped
  all_goals
    split
    · exact hk0
    · simp only [if_true, Bool.false_eq_true, if_false]
      split
      · simp_all
      · exact fifoAdd_kept _ _ (by simp; omega) (by simp_all)

@[simp] theorem fifoMarker_kept {kp : Part → Bool} {s0 : State} (s : State) (value : Word) (hk0 : Kept kp s0 s)
    (m_evq : kp .evq = false := by assumption) (m_trace : kp .trace = false := by assumption)
    (m_adc : kp .adc = false := by assumption) :
    Kept kp s0 (fifoMarker s value) := by
  unfold fifoMarker
  simp_all

@[simp] theorem captureSample_kept {kp : Part → Bool} {s0 : State} (s : State) (v : Int) (t : Nat) (hk0 : Kept kp s0 s)
    (m_mem : kp .mem = false := by assumption) (m_adc : kp .adc = false := by assumption) :
    Kept kp s0 (captureSample s v t) := by
  unfold captureSample
  repeat' split
  all_goals simp_all

@[simp] theorem captureOf_kept {kp : Part → Bool} {s0 : State} (s : State) (kind : Nat) (e : Nat) (v : Int) (t : Nat)
    (hk0 : Kept kp s0 s)
    (m_mem : kp .mem = false := by assumption) (m_adc : kp .adc = false := by assumption) :
    Kept kp s0 (captureOf s kind e v t) := by
  unfold captureOf
  repeat' split
  all_goals simp_all

@[simp] theorem longStart_kept {kp : Part → Bool} {s0 : State} (s : State) (hk0 : Kept kp s0 s)
    (m_adc : kp .adc = false := by assumption) :
    Kept kp s0 (longStart s) := by
  unfold longStart
  repeat' split
  all_goals simp_all

@[simp] theorem rawOf_kept {kp : Part → Bool} {s0 : State} (s : State) (convB : Bool) (e : Nat) (x : Int)
    (hk0 : Kept kp s0 s)
    (m_adc : kp .adc = false := by assumption) :
    Kept kp s0 (rawOf s convB e x).2 := by
  unfold rawOf
  try dsimp only
  repeat' split
  all_goals simp_all (maxDischargeDepth := 9)

@[simp] theorem winExit_kept {kp : Part → Bool} {s0 : State} (s : State) (w : Nat) (v : Int) (hk0 : Kept kp s0 s)
    (m_evq : kp .evq = false := by assumption) (m_trace : kp .trace = false := by assumption)
    (m_adc : kp .adc = false := by assumption) :
    Kept kp s0 (winExit s w v) := by
  unfold winExit
  simp_all

@[simp] theorem winJudge_kept {kp : Part → Bool} {s0 : State} (s : State) (w : Nat) (v : Int) (hk0 : Kept kp s0 s)
    (m_evq : kp .evq = false := by assumption) (m_trace : kp .trace = false := by assumption)
    (m_adc : kp .adc = false := by assumption) :
    Kept kp s0 (winJudge s w v) := by
  unfold winJudge
  dsimp only
  repeat' split
  all_goals simp_all

@[simp] theorem winAll_kept {kp : Part → Bool} {s0 : State} (s : State) (e : Nat) (v : Int) (hk0 : Kept kp s0 s)
    (m_evq : kp .evq = false := by assumption) (m_trace : kp .trace = false := by assumption)
    (m_adc : kp .adc = false := by assumption) :
    Kept kp s0 (winAll s e v) := by
  unfold winAll
  simp_all

@[simp] theorem calSum_kept {kp : Part → Bool} {s0 : State} (s : State) (e : Nat) (v : Int) (hk0 : Kept kp s0 s)
    (m_adc : kp .adc = false := by assumption) :
    Kept kp s0 (calSum s e v) := by
  unfold calSum
  repeat' split
  all_goals simp_all

@[simp] theorem filterOut_kept {kp : Part → Bool} {s0 : State} (s : State) (e : Nat) (v : Int) (t : Nat)
    (hk0 : Kept kp s0 s)
    (m_mem : kp .mem = false := by assumption) (m_evq : kp .evq = false := by assumption)
    (m_trace : kp .trace = false := by assumption) (m_adc : kp .adc = false := by assumption) :
    Kept kp s0 (filterOut s e v t) := by
  unfold filterOut
  dsimp only
  repeat' split
  all_goals simp_all (maxDischargeDepth := 9)

@[simp] theorem filterIn_kept {kp : Part → Bool} {s0 : State} (s : State) (e : Nat) (v : Int) (t : Nat)
    (hk0 : Kept kp s0 s)
    (m_mem : kp .mem = false := by assumption) (m_evq : kp .evq = false := by assumption)
    (m_trace : kp .trace = false := by assumption) (m_adc : kp .adc = false := by assumption) :
    Kept kp s0 (filterIn s e v t) := by
  unfold filterIn
  dsimp only
  repeat' split
  all_goals simp_all (maxDischargeDepth := 9)

@[simp] theorem dacCompare_kept {kp : Part → Bool} {s0 : State} (s : State) (step : Nat) (e : Nat) (v : Int)
    (hk0 : Kept kp s0 s)
    (m_evq : kp .evq = false := by assumption) (m_trace : kp .trace = false := by assumption)
    (m_adc : kp .adc = false := by assumption) :
    Kept kp s0 (dacCompare s step e v) := by
  unfold dacCompare
  dsimp only
  repeat' split
  all_goals simp_all

@[simp] theorem dacTurn_kept {kp : Part → Bool} {s0 : State} (s : State) (d : DacRun) (e : Nat) (v : Int)
    (from_ : Nat) (hk0 : Kept kp s0 s)
    (m_evq : kp .evq = false := by assumption) (m_trace : kp .trace = false := by assumption)
    (m_adc : kp .adc = false := by assumption) :
    Kept kp s0 (dacTurn s d e v from_) := by
  unfold dacTurn
  repeat' split
  all_goals simp_all

@[simp] theorem turn_kept {kp : Part → Bool} {s0 : State} (s : State) (e : Nat) (v : Int) (t : Nat) (from_ : Nat)
    (hk0 : Kept kp s0 s)
    (m_mem : kp .mem = false := by assumption) (m_evq : kp .evq = false := by assumption)
    (m_trace : kp .trace = false := by assumption) (m_adc : kp .adc = false := by assumption) :
    Kept kp s0 (turn s e v t from_) := by
  unfold turn
  dsimp only
  repeat' split
  all_goals simp_all

@[simp] theorem rawFifo_kept {kp : Part → Bool} {s0 : State} (s : State) (e : Nat) (convB : Bool) (v : Int)
    (hk0 : Kept kp s0 s)
    (m_evq : kp .evq = false := by assumption) (m_trace : kp .trace = false := by assumption)
    (m_adc : kp .adc = false := by assumption) :
    Kept kp s0 (rawFifo s e convB v) := by
  unfold rawFifo
  repeat' split
  all_goals simp_all

@[simp] theorem adcNext_kept {kp : Part → Bool} {s0 : State} (s : State) (hk0 : Kept kp s0 s)
    (m_adc : kp .adc = false := by assumption) :
    Kept kp s0 (adcNext s) := by
  unfold adcNext
  dsimp only
  repeat' split
  all_goals simp_all

@[simp] theorem roundCheck_kept {kp : Part → Bool} {s0 : State} (s : State) (hk0 : Kept kp s0 s)
    (m_adc : kp .adc = false := by assumption) :
    Kept kp s0 (roundCheck s) := by
  unfold roundCheck
  repeat' split
  all_goals simp_all

@[simp] theorem injResult_kept {kp : Part → Bool} {s0 : State} (s : State) (convB : Bool) (i : Nat) (x : Int)
    (t : Nat) (hk0 : Kept kp s0 s)
    (m_evq : kp .evq = false := by assumption) (m_trace : kp .trace = false := by assumption)
    (m_adc : kp .adc = false := by assumption) :
    Kept kp s0 (injResult s convB i x t) := by
  unfold injResult
  dsimp only
  repeat' split
  all_goals simp_all (maxDischargeDepth := 9)

@[simp] theorem phaseResult_kept {kp : Part → Bool} {s0 : State} (s : State) (convB : Bool) (e : Nat) (x : Int)
    (t : Nat) (hk0 : Kept kp s0 s)
    (m_mem : kp .mem = false := by assumption) (m_evq : kp .evq = false := by assumption)
    (m_trace : kp .trace = false := by assumption) (m_adc : kp .adc = false := by assumption) :
    Kept kp s0 (phaseResult s convB e x t) := by
  unfold phaseResult
  simp_all (maxDischargeDepth := 9)

@[simp] theorem burstResult_kept {kp : Part → Bool} {s0 : State} (s : State) (convB : Bool) (e : Nat) (x : Int)
    (t : Nat) (hk0 : Kept kp s0 s)
    (m_mem : kp .mem = false := by assumption) (m_evq : kp .evq = false := by assumption)
    (m_trace : kp .trace = false := by assumption) (m_adc : kp .adc = false := by assumption) :
    Kept kp s0 (burstResult s convB e x t) := by
  unfold burstResult
  dsimp only
  repeat' split
  all_goals simp_all (maxDischargeDepth := 9)

@[simp] theorem longResult_kept {kp : Part → Bool} {s0 : State} (s : State) (convB : Bool) (x : Int) (t : Nat)
    (hk0 : Kept kp s0 s)
    (m_mem : kp .mem = false := by assumption) (m_adc : kp .adc = false := by assumption) :
    Kept kp s0 (longResult s convB x t) := by
  unfold longResult
  dsimp only
  repeat' split
  all_goals simp_all (maxDischargeDepth := 9)

@[simp] theorem conversion_kept {kp : Part → Bool} {s0 : State} (s : State) (convB : Bool) (x : Int) (t : Nat)
    (hk0 : Kept kp s0 s)
    (m_mem : kp .mem = false := by assumption) (m_evq : kp .evq = false := by assumption)
    (m_trace : kp .trace = false := by assumption) (m_adc : kp .adc = false := by assumption) :
    Kept kp s0 (conversion s convB x t) := by
  unfold conversion
  dsimp only
  repeat' split
  all_goals simp_all

@[simp] theorem execConversionEnd_kept {kp : Part → Bool} {s0 : State} (convB : Bool) (x : Int) (t : Nat) (s : State)
    (hk0 : Kept kp s0 s)
    (m_mem : kp .mem = false := by assumption) (m_time : kp .time = false := by assumption)
    (m_evq : kp .evq = false := by assumption) (m_trace : kp .trace = false := by assumption)
    (m_adc : kp .adc = false := by assumption) :
    KeptR kp s0 (execConversionEnd convB x t s) := by
  unfold execConversionEnd
  repeat' split
  all_goals simp_all

@[simp] theorem execRoundStart_kept {kp : Part → Bool} {s0 : State} (s : State) (hk0 : Kept kp s0 s)
    (m_time : kp .time = false := by assumption) (m_adc : kp .adc = false := by assumption) :
    KeptR kp s0 (execRoundStart s) := by
  unfold execRoundStart
  try dsimp only
  repeat' split
  all_goals simp_all (maxDischargeDepth := 15)

@[simp] theorem execInjTimeTrigger_kept {kp : Part → Bool} {s0 : State} (s : State) (hk0 : Kept kp s0 s)
    (m_time : kp .time = false := by assumption) (m_adc : kp .adc = false := by assumption) :
    KeptR kp s0 (execInjTimeTrigger s) := by
  unfold execInjTimeTrigger
  try dsimp only
  repeat' split
  all_goals simp_all (maxDischargeDepth := 15)

@[simp] theorem execLongBurstStart_kept {kp : Part → Bool} {s0 : State} (s : State) (hk0 : Kept kp s0 s)
    (m_time : kp .time = false := by assumption) (m_adc : kp .adc = false := by assumption) :
    KeptR kp s0 (execLongBurstStart s) := by
  unfold execLongBurstStart
  repeat' split
  all_goals simp_all

@[simp] theorem execAoReadbackSample_kept {kp : Part → Bool} {s0 : State} (n : Nat) (code : Word) (s : State)
    (hk0 : Kept kp s0 s)
    (m_field : kp .field = false := by assumption) :
    KeptR kp s0 (execAoReadbackSample n code s) := by
  unfold execAoReadbackSample
  repeat' split
  all_goals simp_all

@[simp] theorem calRefuse_kept {kp : Part → Bool} {s0 : State} (s : State) (full : Bool) (e : Nat) (cause : Nat)
    (hk0 : Kept kp s0 s)
    (m_evq : kp .evq = false := by assumption) (m_trace : kp .trace = false := by assumption)
    (m_adc : kp .adc = false := by assumption) :
    Kept kp s0 (calRefuse s full e cause) := by
  unfold calRefuse
  simp_all

@[simp] theorem cmdRefuse_kept {kp : Part → Bool} {s0 : State} (s : State) (hk0 : Kept kp s0 s)
    (m_adc : kp .adc = false := by assumption) :
    Kept kp s0 (cmdRefuse s) := by
  unfold cmdRefuse
  simp_all

@[simp] theorem calStart_kept {kp : Part → Bool} {s0 : State} (s : State) (full : Bool) (e : Nat) (hk0 : Kept kp s0 s)
    (m_evq : kp .evq = false := by assumption) (m_trace : kp .trace = false := by assumption)
    (m_adc : kp .adc = false := by assumption) :
    Kept kp s0 (calStart s full e) := by
  unfold calStart
  repeat' split
  all_goals simp_all

@[simp] theorem calAbort_kept {kp : Part → Bool} {s0 : State} (s : State) (e : Nat) (hk0 : Kept kp s0 s)
    (m_evq : kp .evq = false := by assumption) (m_trace : kp .trace = false := by assumption)
    (m_adc : kp .adc = false := by assumption) :
    Kept kp s0 (calAbort s e) := by
  unfold calAbort
  dsimp only
  repeat' split
  all_goals simp_all

@[simp] theorem calStepRefuse_kept {kp : Part → Bool} {s0 : State} (s : State) (c : CalStep) (cause : Nat)
    (hk0 : Kept kp s0 s)
    (m_evq : kp .evq = false := by assumption) (m_trace : kp .trace = false := by assumption)
    (m_adc : kp .adc = false := by assumption) :
    Kept kp s0 (calStepRefuse s c cause) := by
  unfold calStepRefuse
  simp_all

@[simp] theorem execCalStepDone_kept {kp : Part → Bool} {s0 : State} (s : State) (hk0 : Kept kp s0 s)
    (m_evq : kp .evq = false := by assumption) (m_trace : kp .trace = false := by assumption)
    (m_adc : kp .adc = false := by assumption) (m_flash : kp .flash = false := by assumption) :
    KeptR kp s0 (execCalStepDone s) := by
  unfold execCalStepDone
  dsimp only
  repeat' split
  all_goals simp_all

@[simp] theorem calWritten_kept {kp : Part → Bool} {s0 : State} (s : State) (ok : Bool) (hk0 : Kept kp s0 s)
    (m_evq : kp .evq = false := by assumption) (m_trace : kp .trace = false := by assumption)
    (m_adc : kp .adc = false := by assumption) :
    Kept kp s0 (calWritten s ok) := by
  unfold calWritten
  repeat' split
  all_goals simp_all

@[simp] theorem execCalTimeout_kept {kp : Part → Bool} {s0 : State} (s : State) (hk0 : Kept kp s0 s)
    (m_time : kp .time = false := by assumption) (m_evq : kp .evq = false := by assumption)
    (m_trace : kp .trace = false := by assumption) (m_adc : kp .adc = false := by assumption) :
    KeptR kp s0 (execCalTimeout s) := by
  unfold execCalTimeout
  repeat' split
  all_goals simp_all

@[simp] theorem execFlashProgramDone_kept {kp : Part → Bool} {s0 : State} (outcome : Nat) (s : State)
    (hk0 : Kept kp s0 s)
    (m_free : kp .free = false := by assumption) (m_evq : kp .evq = false := by assumption)
    (m_trace : kp .trace = false := by assumption) (m_mode : kp .mode = false := by assumption)
    (m_safe : kp .safe = false := by assumption) (m_health : kp .health = false := by assumption)
    (m_adc : kp .adc = false := by assumption) (m_wdog : kp .wdog = false := by assumption)
    (m_upd : kp .upd = false := by assumption) (m_flash : kp .flash = false := by assumption) :
    KeptR kp s0 (execFlashProgramDone outcome s) := by
  unfold execFlashProgramDone
  dsimp only
  repeat' split
  all_goals simp_all (maxDischargeDepth := 9)

@[simp] theorem regStart_kept {kp : Part → Bool} {s0 : State} (s : State) (hk0 : Kept kp s0 s)
    (m_evq : kp .evq = false := by assumption) (m_trace : kp .trace = false := by assumption)
    (m_adc : kp .adc = false := by assumption) :
    Kept kp s0 (regStart s) := by
  unfold regStart
  dsimp only
  repeat' split
  all_goals simp_all (maxDischargeDepth := 9)

@[simp] theorem regStop_kept {kp : Part → Bool} {s0 : State} (s : State) (hk0 : Kept kp s0 s)
    (m_evq : kp .evq = false := by assumption) (m_trace : kp .trace = false := by assumption)
    (m_adc : kp .adc = false := by assumption) :
    Kept kp s0 (regStop s) := by
  unfold regStop
  dsimp only
  repeat' split
  all_goals simp_all (maxDischargeDepth := 9)

@[simp] theorem dacStart_kept {kp : Part → Bool} {s0 : State} (s : State) (hk0 : Kept kp s0 s)
    (m_adc : kp .adc = false := by assumption) :
    Kept kp s0 (dacStart s) := by
  unfold dacStart
  repeat' split
  all_goals simp_all

@[simp] theorem adcAct_kept {kp : Part → Bool} {s0 : State} (s : State) (code : Nat) (e : Nat) (hk0 : Kept kp s0 s)
    (m_evq : kp .evq = false := by assumption) (m_trace : kp .trace = false := by assumption)
    (m_adc : kp .adc = false := by assumption) :
    Kept kp s0 (adcAct s code e) := by
  have h := hk0.withAdc { s.adc with fifo := [] } (fun _ => by simp)
  unfold adcAct
  split
  all_goals first | exact h | (repeat' split)
  all_goals simp_all

@[simp] theorem regAdcCmd_kept {kp : Part → Bool} {s0 : State} (s : State) (v : Acc) (w : Word) (hk0 : Kept kp s0 s)
    (m_evq : kp .evq = false := by assumption) (m_trace : kp .trace = false := by assumption)
    (m_bus : kp .bus = false := by assumption) (m_mode : kp .mode = false := by assumption)
    (m_safe : kp .safe = false := by assumption) (m_adc : kp .adc = false := by assumption)
    (m_wdog : kp .wdog = false := by assumption) :
    Kept kp s0 (regAdcCmd s v w).1 := by
  unfold regAdcCmd
  dsimp only
  repeat' split
  all_goals simp_all

@[simp] theorem adcCmd_kept {kp : Part → Bool} {s0 : State} (via : Path) (code : Nat) (e : Nat) (s : State)
    (hk0 : Kept kp s0 s)
    (m_mem : kp .mem = false := by assumption) (m_evq : kp .evq = false := by assumption)
    (m_trace : kp .trace = false := by assumption) (m_bus : kp .bus = false := by assumption)
    (m_mode : kp .mode = false := by assumption) (m_safe : kp .safe = false := by assumption)
    (m_adc : kp .adc = false := by assumption) (m_wdog : kp .wdog = false := by assumption) :
    KeptR kp s0 (adcCmd via code e s) := by
  unfold adcCmd
  simp_all

@[simp] theorem execRegStart_kept {kp : Part → Bool} {s0 : State} (via : Path) (s : State) (hk0 : Kept kp s0 s)
    (m_mem : kp .mem = false := by assumption) (m_evq : kp .evq = false := by assumption)
    (m_trace : kp .trace = false := by assumption) (m_bus : kp .bus = false := by assumption)
    (m_mode : kp .mode = false := by assumption) (m_safe : kp .safe = false := by assumption)
    (m_adc : kp .adc = false := by assumption) (m_wdog : kp .wdog = false := by assumption) :
    KeptR kp s0 (execRegStart via s) := by
  unfold execRegStart
  simp_all

@[simp] theorem execRegStop_kept {kp : Part → Bool} {s0 : State} (via : Path) (s : State) (hk0 : Kept kp s0 s)
    (m_mem : kp .mem = false := by assumption) (m_evq : kp .evq = false := by assumption)
    (m_trace : kp .trace = false := by assumption) (m_bus : kp .bus = false := by assumption)
    (m_mode : kp .mode = false := by assumption) (m_safe : kp .safe = false := by assumption)
    (m_adc : kp .adc = false := by assumption) (m_wdog : kp .wdog = false := by assumption) :
    KeptR kp s0 (execRegStop via s) := by
  unfold execRegStop
  simp_all

@[simp] theorem execInjTrig_kept {kp : Part → Bool} {s0 : State} (via : Path) (s : State) (hk0 : Kept kp s0 s)
    (m_mem : kp .mem = false := by assumption) (m_evq : kp .evq = false := by assumption)
    (m_trace : kp .trace = false := by assumption) (m_bus : kp .bus = false := by assumption)
    (m_mode : kp .mode = false := by assumption) (m_safe : kp .safe = false := by assumption)
    (m_adc : kp .adc = false := by assumption) (m_wdog : kp .wdog = false := by assumption) :
    KeptR kp s0 (execInjTrig via s) := by
  unfold execInjTrig
  simp_all

@[simp] theorem execCalZero_kept {kp : Part → Bool} {s0 : State} (via : Path) (e : Nat) (s : State) (hk0 : Kept kp s0 s)
    (m_mem : kp .mem = false := by assumption) (m_evq : kp .evq = false := by assumption)
    (m_trace : kp .trace = false := by assumption) (m_bus : kp .bus = false := by assumption)
    (m_mode : kp .mode = false := by assumption) (m_safe : kp .safe = false := by assumption)
    (m_adc : kp .adc = false := by assumption) (m_wdog : kp .wdog = false := by assumption) :
    KeptR kp s0 (execCalZero via e s) := by
  unfold execCalZero
  simp_all

@[simp] theorem execCalFull_kept {kp : Part → Bool} {s0 : State} (via : Path) (e : Nat) (s : State) (hk0 : Kept kp s0 s)
    (m_mem : kp .mem = false := by assumption) (m_evq : kp .evq = false := by assumption)
    (m_trace : kp .trace = false := by assumption) (m_bus : kp .bus = false := by assumption)
    (m_mode : kp .mode = false := by assumption) (m_safe : kp .safe = false := by assumption)
    (m_adc : kp .adc = false := by assumption) (m_wdog : kp .wdog = false := by assumption) :
    KeptR kp s0 (execCalFull via e s) := by
  unfold execCalFull
  simp_all

@[simp] theorem execCalAbort_kept {kp : Part → Bool} {s0 : State} (via : Path) (e : Nat) (s : State)
    (hk0 : Kept kp s0 s)
    (m_mem : kp .mem = false := by assumption) (m_evq : kp .evq = false := by assumption)
    (m_trace : kp .trace = false := by assumption) (m_bus : kp .bus = false := by assumption)
    (m_mode : kp .mode = false := by assumption) (m_safe : kp .safe = false := by assumption)
    (m_adc : kp .adc = false := by assumption) (m_wdog : kp .wdog = false := by assumption) :
    KeptR kp s0 (execCalAbort via e s) := by
  unfold execCalAbort
  simp_all

@[simp] theorem execFifoClr_kept {kp : Part → Bool} {s0 : State} (via : Path) (s : State) (hk0 : Kept kp s0 s)
    (m_mem : kp .mem = false := by assumption) (m_evq : kp .evq = false := by assumption)
    (m_trace : kp .trace = false := by assumption) (m_bus : kp .bus = false := by assumption)
    (m_mode : kp .mode = false := by assumption) (m_safe : kp .safe = false := by assumption)
    (m_adc : kp .adc = false := by assumption) (m_wdog : kp .wdog = false := by assumption) :
    KeptR kp s0 (execFifoClr via s) := by
  unfold execFifoClr
  simp_all

@[simp] theorem execDacTest_kept {kp : Part → Bool} {s0 : State} (via : Path) (s : State) (hk0 : Kept kp s0 s)
    (m_mem : kp .mem = false := by assumption) (m_evq : kp .evq = false := by assumption)
    (m_trace : kp .trace = false := by assumption) (m_bus : kp .bus = false := by assumption)
    (m_mode : kp .mode = false := by assumption) (m_safe : kp .safe = false := by assumption)
    (m_adc : kp .adc = false := by assumption) (m_wdog : kp .wdog = false := by assumption) :
    KeptR kp s0 (execDacTest via s) := by
  unfold execDacTest
  simp_all

@[simp] theorem execDacTestDone_kept {kp : Part → Bool} {s0 : State} (s : State) (hk0 : Kept kp s0 s)
    (m_adc : kp .adc = false := by assumption) :
    KeptR kp s0 (execDacTestDone s) := by
  unfold execDacTestDone
  repeat' split
  all_goals simp_all

@[simp] theorem readAdcFifo_kept {kp : Part → Bool} {s0 : State} (s : State) (v : Acc) (hk0 : Kept kp s0 s)
    (m_adc : kp .adc = false := by assumption) :
    Kept kp s0 (readAdcFifo s v).1 := by
  unfold readAdcFifo
  split
  · exact hk0
  · split
    · rename_i w r e
      exact hk0.withAdc _ (fun hf => by rw [e] at hf; simp at hf ⊢; omega)
    · exact hk0

@[simp] theorem execAdcFifoRead_kept {kp : Part → Bool} {s0 : State} (via : Path) (s : State) (hk0 : Kept kp s0 s)
    (m_mem : kp .mem = false := by assumption) (m_bus : kp .bus = false := by assumption)
    (m_adc : kp .adc = false := by assumption) :
    KeptR kp s0 (execAdcFifoRead via s) := by
  unfold execAdcFifoRead
  simp_all

@[simp] theorem captStart_kept {kp : Part → Bool} {s0 : State} (s : State) (entry kind count start : Nat)
    (f : Requester)
    (hk0 : Kept kp s0 s)
    (m_evq : kp .evq = false := by assumption) (m_trace : kp .trace = false := by assumption)
    (m_bus : kp .bus = false := by assumption) (m_mode : kp .mode = false := by assumption)
    (m_safe : kp .safe = false := by assumption) (m_health : kp .health = false := by assumption)
    (m_adc : kp .adc = false := by assumption) (m_wdog : kp .wdog = false := by assumption)
    (m_txn : kp .txn = false := by assumption) (m_sec : kp .sec = false := by assumption) :
    Kept kp s0 (captStart s entry kind count start f) := by
  unfold captStart
  try dsimp only
  repeat' split
  all_goals simp_all (maxDischargeDepth := 9)

@[simp] theorem captQueue_kept {kp : Part → Bool} {s0 : State} (s : State) (p : Path) (d : Descriptor)
    (hk0 : Kept kp s0 s)
    (m_evq : kp .evq = false := by assumption) (m_trace : kp .trace = false := by assumption)
    (m_bus : kp .bus = false := by assumption) (m_mode : kp .mode = false := by assumption)
    (m_safe : kp .safe = false := by assumption) (m_health : kp .health = false := by assumption)
    (m_adc : kp .adc = false := by assumption) (m_wdog : kp .wdog = false := by assumption)
    (m_txn : kp .txn = false := by assumption) (m_sec : kp .sec = false := by assumption) :
    Kept kp s0 (captQueue s p d) := by
  unfold captQueue
  repeat' split
  all_goals simp_all

@[simp] theorem captLine_kept {kp : Part → Bool} {s0 : State} (s : State) (t : Txn) (hk0 : Kept kp s0 s)
    (m_evq : kp .evq = false := by assumption) (m_trace : kp .trace = false := by assumption)
    (m_bus : kp .bus = false := by assumption) (m_mode : kp .mode = false := by assumption)
    (m_safe : kp .safe = false := by assumption) (m_health : kp .health = false := by assumption)
    (m_adc : kp .adc = false := by assumption) (m_wdog : kp .wdog = false := by assumption)
    (m_txn : kp .txn = false := by assumption) (m_sec : kp .sec = false := by assumption) :
    Kept kp s0 (captLine s t) := by
  unfold captLine
  simp_all

@[simp] theorem execAdcCapt_kept {kp : Part → Bool} {s0 : State} (src : Source) (s : State) (hk0 : Kept kp s0 s)
    (m_mem : kp .mem = false := by assumption) (m_evq : kp .evq = false := by assumption)
    (m_trace : kp .trace = false := by assumption) (m_bus : kp .bus = false := by assumption)
    (m_mode : kp .mode = false := by assumption) (m_safe : kp .safe = false := by assumption)
    (m_health : kp .health = false := by assumption) (m_adc : kp .adc = false := by assumption)
    (m_wdog : kp .wdog = false := by assumption) (m_txn : kp .txn = false := by assumption)
    (m_sec : kp .sec = false := by assumption) (m_ser : kp .ser = false := by assumption) :
    KeptR kp s0 (execAdcCapt src s) := by
  unfold execAdcCapt
  repeat' split
  all_goals simp_all

@[simp] theorem execCaptureDone_kept {kp : Part → Bool} {s0 : State} (s : State) (hk0 : Kept kp s0 s)
    (m_mem : kp .mem = false := by assumption) (m_evq : kp .evq = false := by assumption)
    (m_trace : kp .trace = false := by assumption) (m_bus : kp .bus = false := by assumption)
    (m_mode : kp .mode = false := by assumption) (m_safe : kp .safe = false := by assumption)
    (m_health : kp .health = false := by assumption) (m_adc : kp .adc = false := by assumption)
    (m_wdog : kp .wdog = false := by assumption) (m_txn : kp .txn = false := by assumption)
    (m_sec : kp .sec = false := by assumption) :
    KeptR kp s0 (execCaptureDone s) := by
  unfold execCaptureDone
  dsimp only
  repeat' split
  all_goals simp_all (maxDischargeDepth := 9)

@[simp] theorem captRead_kept {kp : Part → Bool} {s0 : State} (s : State) (t : Txn) (hk0 : Kept kp s0 s)
    (m_evq : kp .evq = false := by assumption) (m_trace : kp .trace = false := by assumption)
    (m_mode : kp .mode = false := by assumption) (m_safe : kp .safe = false := by assumption)
    (m_health : kp .health = false := by assumption) (m_adc : kp .adc = false := by assumption)
    (m_wdog : kp .wdog = false := by assumption) (m_txn : kp .txn = false := by assumption)
    (m_sec : kp .sec = false := by assumption) :
    Kept kp s0 (captRead s t) := by
  unfold captRead
  dsimp only
  repeat' split
  all_goals simp_all

@[simp] theorem execCaptRead_kept {kp : Part → Bool} {s0 : State} (bcast : Bool) (anchor : Bool) (tag : Nat)
    (s : State) (hk0 : Kept kp s0 s)
    (m_evq : kp .evq = false := by assumption) (m_trace : kp .trace = false := by assumption)
    (m_mode : kp .mode = false := by assumption) (m_safe : kp .safe = false := by assumption)
    (m_health : kp .health = false := by assumption) (m_adc : kp .adc = false := by assumption)
    (m_wdog : kp .wdog = false := by assumption) (m_txn : kp .txn = false := by assumption)
    (m_sec : kp .sec = false := by assumption) (m_ser : kp .ser = false := by assumption) :
    KeptR kp s0 (execCaptRead bcast anchor tag s) := by
  unfold execCaptRead
  simp_all

@[simp] theorem adcFieldReset_kept {kp : Part → Bool} {s0 : State} (s : State) (hk0 : Kept kp s0 s)
    (m_evq : kp .evq = false := by assumption) (m_trace : kp .trace = false := by assumption)
    (m_adc : kp .adc = false := by assumption) :
    Kept kp s0 (adcFieldReset s) := by
  unfold adcFieldReset
  have h := captureCut_kept _ (abortRound_kept _ (calAbortStep_kept s hk0))
  generalize captureCut (abortRound (calAbortStep s)) = u at h
  simp_all

@[simp] theorem adcFieldStart_kept {kp : Part → Bool} {s0 : State} (s : State) (hk0 : Kept kp s0 s)
    (m_evq : kp .evq = false := by assumption) (m_trace : kp .trace = false := by assumption)
    (m_adc : kp .adc = false := by assumption) :
    Kept kp s0 (adcFieldStart s) := by
  unfold adcFieldStart
  try dsimp only
  repeat' split
  all_goals simp_all (maxDischargeDepth := 15)

/-! ### Chan -/

@[simp] theorem countBy_kept {kp : Part → Bool} {s0 : State} (s : State) (n : Nat) (d : Int) (hk0 : Kept kp s0 s)
    (m_field : kp .field = false := by assumption) :
    Kept kp s0 (countBy s n d) := by
  unfold countBy
  simp_all

@[simp] theorem pfRecord_kept {kp : Part → Bool} {s0 : State} (s : State) (n : Nat) (edge : Nat) (level : Bool)
    (hk0 : Kept kp s0 s)
    (m_evq : kp .evq = false := by assumption) (m_trace : kp .trace = false := by assumption)
    (m_field : kp .field = false := by assumption) :
    Kept kp s0 (pfRecord s n edge level) := by
  unfold pfRecord
  dsimp only
  repeat' split
  all_goals simp_all

@[simp] theorem qepEdge_kept {kp : Part → Bool} {s0 : State} (s : State) (n : Nat) (rising : Bool) (hk0 : Kept kp s0 s)
    (m_field : kp .field = false := by assumption) :
    Kept kp s0 (qepEdge s n rising) := by
  unfold qepEdge
  repeat' first
    | (intro x; refine Kept.cut (kp := kp) (s0 := s0) (x := x) ?_ ?_; subst x; rotate_left; clear_value x; intro hx; rotate_right)
    | intro x
    | lift_lets
    | split
  all_goals simp_all

@[simp] theorem injEdge_kept {kp : Part → Bool} {s0 : State} (s : State) (n : Nat) (rising : Bool) (hk0 : Kept kp s0 s)
    (m_adc : kp .adc = false := by assumption) :
    Kept kp s0 (injEdge s n rising) := by
  unfold injEdge
  repeat' split
  all_goals simp_all

@[simp] theorem handleEdge_kept {kp : Part → Bool} {s0 : State} (s : State) (n edge : Nat) (level : Bool)
    (hk0 : Kept kp s0 s)
    (m_evq : kp .evq = false := by assumption) (m_trace : kp .trace = false := by assumption)
    (m_field : kp .field = false := by assumption) :
    Kept kp s0 (handleEdge s n edge level) := by
  unfold handleEdge
  try dsimp only
  repeat' split
  all_goals simp_all (maxDischargeDepth := 9)

@[simp] theorem inputEdge_kept {kp : Part → Bool} {s0 : State} (s : State) (n : Nat) (edge : Nat) (level : Bool)
    (both : Bool) (hk0 : Kept kp s0 s)
    (m_evq : kp .evq = false := by assumption) (m_trace : kp .trace = false := by assumption)
    (m_field : kp .field = false := by assumption) (m_adc : kp .adc = false := by assumption) :
    Kept kp s0 (inputEdge s n edge level both) := by
  unfold inputEdge
  dsimp only
  repeat' split
  all_goals simp_all (maxDischargeDepth := 9)

@[simp] theorem execInputEdge_kept {kp : Part → Bool} {s0 : State} (n : Nat) (level : Bool) (both : Bool) (t : Nat)
    (s : State) (hk0 : Kept kp s0 s)
    (m_time : kp .time = false := by assumption) (m_evq : kp .evq = false := by assumption)
    (m_trace : kp .trace = false := by assumption) (m_field : kp .field = false := by assumption)
    (m_adc : kp .adc = false := by assumption) :
    KeptR kp s0 (execInputEdge n level both t s) := by
  unfold execInputEdge
  dsimp only
  repeat' split
  all_goals simp_all

@[simp] theorem execPwmPeriodStart_kept {kp : Part → Bool} {s0 : State} (n : Nat) (s : State) (hk0 : Kept kp s0 s)
    (m_time : kp .time = false := by assumption) (m_field : kp .field = false := by assumption) :
    KeptR kp s0 (execPwmPeriodStart n s) := by
  unfold execPwmPeriodStart
  dsimp only
  repeat' split
  all_goals simp_all

@[simp] theorem slResult_kept {kp : Part → Bool} {s0 : State} (s : State) (cmd : Nat) (result : Nat)
    (hk0 : Kept kp s0 s)
    (m_field : kp .field = false := by assumption) :
    Kept kp s0 (slResult s cmd result) := by
  unfold slResult
  simp_all

@[simp] theorem slLoad_kept {kp : Part → Bool} {s0 : State} (s : State) (hk0 : Kept kp s0 s)
    (m_field : kp .field = false := by assumption) :
    Kept kp s0 (slLoad s) := by
  unfold slLoad
  dsimp only
  repeat' split
  all_goals simp_all

@[simp] theorem slCancel_kept {kp : Part → Bool} {s0 : State} (s : State) (hk0 : Kept kp s0 s)
    (m_evq : kp .evq = false := by assumption) (m_trace : kp .trace = false := by assumption)
    (m_field : kp .field = false := by assumption) :
    Kept kp s0 (slCancel s) := by
  unfold slCancel
  dsimp only
  repeat' split
  all_goals simp_all

@[simp] theorem slRead_kept {kp : Part → Bool} {s0 : State} (s : State) (hk0 : Kept kp s0 s)
    (m_field : kp .field = false := by assumption) :
    Kept kp s0 (slRead s) := by
  unfold slRead
  dsimp only
  repeat' split
  all_goals simp_all

@[simp] theorem execSlIssue_kept {kp : Part → Bool} {s0 : State} (n : Nat) (slot : Nat) (s : State) (hk0 : Kept kp s0 s)
    (m_time : kp .time = false := by assumption) (m_field : kp .field = false := by assumption) :
    KeptR kp s0 (execSlIssue n slot s) := by
  unfold execSlIssue
  repeat' split
  all_goals simp_all

@[simp] theorem slGateOne_kept {kp : Part → Bool} {s0 : State} (s : State) (n : Nat) (e : SlEvent) (hk0 : Kept kp s0 s)
    (m_field : kp .field = false := by assumption) :
    Kept kp s0 (slGateOne s n e) := by
  unfold slGateOne
  dsimp only
  repeat' split
  all_goals simp_all (maxDischargeDepth := 9)

@[simp] theorem slGateAll_kept {kp : Part → Bool} {s0 : State} (s : State) (n : Nat) (l : List SlEvent)
    (hk0 : Kept kp s0 s)
    (m_field : kp .field = false := by assumption) :
    Kept kp s0 (slGateAll s n l) := by
  induction l generalizing s with
  | nil => exact hk0
  | cons u r ih => exact ih _ (slGateOne_kept _ _ _ hk0)

@[simp] theorem gateTick_kept {kp : Part → Bool} {s0 : State} (s : State) (n : Nat)
    (hk0 : Kept kp s0 s)
    (m_field : kp .field = false := by assumption) :
    Kept kp s0 (gateTick s n) := by
  unfold gateTick
  try dsimp only
  repeat' split
  all_goals simp_all (maxDischargeDepth := 9)

@[simp] theorem gateFirst_kept {kp : Part → Bool} {s0 : State} (s : State)
    (hk0 : Kept kp s0 s)
    (m_field : kp .field = false := by assumption) :
    Kept kp s0 (gateFirst s) := by
  unfold gateFirst
  try dsimp only
  repeat' split
  all_goals simp_all (maxDischargeDepth := 9)

@[simp] theorem slGateLate_kept {kp : Part → Bool} {s0 : State} (s : State) (n : Nat) (hk0 : Kept kp s0 s)
    (m_evq : kp .evq = false := by assumption) (m_trace : kp .trace = false := by assumption)
    (m_field : kp .field = false := by assumption) :
    Kept kp s0 (slGateLate s n) := by
  unfold slGateLate
  simp_all

@[simp] theorem pfSelect_kept {kp : Part → Bool} {s0 : State} (s : State) (w : Word) (hk0 : Kept kp s0 s)
    (m_field : kp .field = false := by assumption) :
    Kept kp s0 (pfSelect s w) := by
  unfold pfSelect
  dsimp only
  repeat' split
  all_goals simp_all

@[simp] theorem chanPortWrite_kept {kp : Part → Bool} {s0 : State} (s : State) (w : Nat) (v : Word) (hk0 : Kept kp s0 s)
    (m_evq : kp .evq = false := by assumption) (m_trace : kp .trace = false := by assumption)
    (m_field : kp .field = false := by assumption) :
    Kept kp s0 (chanPortWrite s w v) := by
  unfold chanPortWrite
  repeat' split
  all_goals simp_all

@[simp] theorem regChout_kept {kp : Part → Bool} {s0 : State} (s : State) (v : Acc) (w : Word) (hk0 : Kept kp s0 s)
    (m_evq : kp .evq = false := by assumption) (m_trace : kp .trace = false := by assumption)
    (m_bus : kp .bus = false := by assumption) (m_mode : kp .mode = false := by assumption)
    (m_safe : kp .safe = false := by assumption) (m_field : kp .field = false := by assumption)
    (m_adc : kp .adc = false := by assumption) (m_wdog : kp .wdog = false := by assumption) :
    Kept kp s0 (regChout s v w).1 := by
  unfold regChout
  try dsimp only
  repeat' split
  all_goals simp_all (maxDischargeDepth := 15)

@[simp] theorem execChoutWrite_kept {kp : Part → Bool} {s0 : State} (via : Path) (w : Word) (s : State)
    (hk0 : Kept kp s0 s)
    (m_mem : kp .mem = false := by assumption) (m_evq : kp .evq = false := by assumption)
    (m_trace : kp .trace = false := by assumption) (m_bus : kp .bus = false := by assumption)
    (m_mode : kp .mode = false := by assumption) (m_safe : kp .safe = false := by assumption)
    (m_field : kp .field = false := by assumption) (m_adc : kp .adc = false := by assumption)
    (m_wdog : kp .wdog = false := by assumption) :
    KeptR kp s0 (execChoutWrite via w s) := by
  unfold execChoutWrite
  simp_all

@[simp] theorem setForce_kept {kp : Part → Bool} {s0 : State} (s : State) (n : Nat) (f : Option Bool)
    (hk0 : Kept kp s0 s)
    (m_evq : kp .evq = false := by assumption) (m_trace : kp .trace = false := by assumption)
    (m_field : kp .field = false := by assumption) (m_panel : kp .panel = false := by assumption) :
    Kept kp s0 (setForce s n f) := by
  unfold setForce
  dsimp only
  repeat' split
  all_goals simp_all (maxDischargeDepth := 9)

@[simp] theorem chforceAct_kept {kp : Part → Bool} {s0 : State} (s : State) (w : Word) (hk0 : Kept kp s0 s)
    (m_cyc : kp .cyc = false := by assumption) (m_evq : kp .evq = false := by assumption)
    (m_trace : kp .trace = false := by assumption) (m_mode : kp .mode = false := by assumption)
    (m_safe : kp .safe = false := by assumption) (m_field : kp .field = false := by assumption)
    (m_inj : kp .inj = false := by assumption) (m_adc : kp .adc = false := by assumption)
    (m_panel : kp .panel = false := by assumption) (m_wdog : kp .wdog = false := by assumption)
    (m_link : kp .link = false := by assumption) (m_upd : kp .upd = false := by assumption) :
    Kept kp s0 (chforceAct s w) := by
  unfold chforceAct
  try dsimp only
  repeat' split
  all_goals simp_all (maxDischargeDepth := 15)

@[simp] theorem regChforce_kept {kp : Part → Bool} {s0 : State} (s : State) (v : Acc) (w : Word) (hk0 : Kept kp s0 s)
    (m_cyc : kp .cyc = false := by assumption) (m_evq : kp .evq = false := by assumption)
    (m_trace : kp .trace = false := by assumption) (m_bus : kp .bus = false := by assumption)
    (m_mode : kp .mode = false := by assumption) (m_safe : kp .safe = false := by assumption)
    (m_field : kp .field = false := by assumption) (m_inj : kp .inj = false := by assumption)
    (m_adc : kp .adc = false := by assumption) (m_panel : kp .panel = false := by assumption)
    (m_wdog : kp .wdog = false := by assumption) (m_link : kp .link = false := by assumption)
    (m_upd : kp .upd = false := by assumption) :
    Kept kp s0 (regChforce s v w).1 := by
  unfold regChforce
  dsimp only
  repeat' split
  all_goals simp_all

@[simp] theorem execForceSet_kept {kp : Part → Bool} {s0 : State} (via : Path) (n : Nat) (level : Bool) (s : State)
    (hk0 : Kept kp s0 s)
    (m_mem : kp .mem = false := by assumption) (m_cyc : kp .cyc = false := by assumption)
    (m_evq : kp .evq = false := by assumption) (m_trace : kp .trace = false := by assumption)
    (m_bus : kp .bus = false := by assumption) (m_mode : kp .mode = false := by assumption)
    (m_safe : kp .safe = false := by assumption) (m_field : kp .field = false := by assumption)
    (m_inj : kp .inj = false := by assumption) (m_adc : kp .adc = false := by assumption)
    (m_panel : kp .panel = false := by assumption) (m_wdog : kp .wdog = false := by assumption)
    (m_link : kp .link = false := by assumption) (m_upd : kp .upd = false := by assumption) :
    KeptR kp s0 (execForceSet via n level s) := by
  unfold execForceSet
  simp_all

@[simp] theorem execForceRemove_kept {kp : Part → Bool} {s0 : State} (via : Path) (n : Nat) (s : State)
    (hk0 : Kept kp s0 s)
    (m_mem : kp .mem = false := by assumption) (m_cyc : kp .cyc = false := by assumption)
    (m_evq : kp .evq = false := by assumption) (m_trace : kp .trace = false := by assumption)
    (m_bus : kp .bus = false := by assumption) (m_mode : kp .mode = false := by assumption)
    (m_safe : kp .safe = false := by assumption) (m_field : kp .field = false := by assumption)
    (m_inj : kp .inj = false := by assumption) (m_adc : kp .adc = false := by assumption)
    (m_panel : kp .panel = false := by assumption) (m_wdog : kp .wdog = false := by assumption)
    (m_link : kp .link = false := by assumption) (m_upd : kp .upd = false := by assumption) :
    KeptR kp s0 (execForceRemove via n s) := by
  unfold execForceRemove
  simp_all

@[simp] theorem execForceClearAll_kept {kp : Part → Bool} {s0 : State} (via : Path) (s : State) (hk0 : Kept kp s0 s)
    (m_mem : kp .mem = false := by assumption) (m_cyc : kp .cyc = false := by assumption)
    (m_evq : kp .evq = false := by assumption) (m_trace : kp .trace = false := by assumption)
    (m_bus : kp .bus = false := by assumption) (m_mode : kp .mode = false := by assumption)
    (m_safe : kp .safe = false := by assumption) (m_field : kp .field = false := by assumption)
    (m_inj : kp .inj = false := by assumption) (m_adc : kp .adc = false := by assumption)
    (m_panel : kp .panel = false := by assumption) (m_wdog : kp .wdog = false := by assumption)
    (m_link : kp .link = false := by assumption) (m_upd : kp .upd = false := by assumption) :
    KeptR kp s0 (execForceClearAll via s) := by
  unfold execForceClearAll
  simp_all

@[simp] theorem execModeOffEnd_kept {kp : Part → Bool} {s0 : State} (n : Nat) (s : State) (hk0 : Kept kp s0 s)
    (m_time : kp .time = false := by assumption) (m_field : kp .field = false := by assumption)
    (m_adc : kp .adc = false := by assumption) :
    KeptR kp s0 (execModeOffEnd n s) := by
  unfold execModeOffEnd
  dsimp only
  repeat' split
  all_goals simp_all (maxDischargeDepth := 9)

/-! ### Diag -/

@[simp] theorem faultCleared_kept {kp : Part → Bool} {s0 : State} (s : State) (n : Nat) (code : Nat)
    (hk0 : Kept kp s0 s)
    (m_evq : kp .evq = false := by assumption) (m_trace : kp .trace = false := by assumption) :
    Kept kp s0 (faultCleared s n code) := by
  unfold faultCleared
  dsimp only
  repeat' split
  all_goals simp_all

@[simp] theorem thermalTrip_kept {kp : Part → Bool} {s0 : State} (s : State) (n : Nat) (hk0 : Kept kp s0 s)
    (m_evq : kp .evq = false := by assumption) (m_trace : kp .trace = false := by assumption)
    (m_mode : kp .mode = false := by assumption) (m_safe : kp .safe = false := by assumption)
    (m_field : kp .field = false := by assumption) (m_health : kp .health = false := by assumption)
    (m_adc : kp .adc = false := by assumption) (m_wdog : kp .wdog = false := by assumption) :
    Kept kp s0 (thermalTrip s n) := by
  unfold thermalTrip
  dsimp only
  repeat' split
  all_goals simp_all (maxDischargeDepth := 9)

@[simp] theorem postChFault_kept {kp : Part → Bool} {s0 : State} (s : State) (code : Nat) (ch : Word)
    (hk0 : Kept kp s0 s)
    (m_free : kp .free = false := by assumption) (m_evq : kp .evq = false := by assumption)
    (m_trace : kp .trace = false := by assumption) :
    Kept kp s0 (postChFault s code ch) := by
  unfold postChFault
  simp_all (maxDischargeDepth := 9)

@[simp] theorem latchFault_kept {kp : Part → Bool} {s0 : State} (s : State) (n : Nat) (code : Nat) (hk0 : Kept kp s0 s)
    (m_free : kp .free = false := by assumption) (m_evq : kp .evq = false := by assumption)
    (m_trace : kp .trace = false := by assumption) (m_field : kp .field = false := by assumption) :
    Kept kp s0 (latchFault s n code) := by
  unfold latchFault
  simp_all

@[simp] theorem tripFault_kept {kp : Part → Bool} {s0 : State} (s : State) (n : Nat) (code : Nat) (hk0 : Kept kp s0 s)
    (m_free : kp .free = false := by assumption) (m_evq : kp .evq = false := by assumption)
    (m_trace : kp .trace = false := by assumption) (m_mode : kp .mode = false := by assumption)
    (m_safe : kp .safe = false := by assumption) (m_field : kp .field = false := by assumption)
    (m_health : kp .health = false := by assumption) (m_adc : kp .adc = false := by assumption)
    (m_wdog : kp .wdog = false := by assumption) :
    Kept kp s0 (tripFault s n code) := by
  unfold tripFault
  dsimp only
  repeat' split
  all_goals simp_all (maxDischargeDepth := 9)

@[simp] theorem faultActive_kept {kp : Part → Bool} {s0 : State} (s : State) (n code : Nat)
    (hk0 : Kept kp s0 s)
    (m_free : kp .free = false := by assumption) (m_evq : kp .evq = false := by assumption)
    (m_trace : kp .trace = false := by assumption) (m_mode : kp .mode = false := by assumption)
    (m_safe : kp .safe = false := by assumption) (m_field : kp .field = false := by assumption)
    (m_adc : kp .adc = false := by assumption) (m_wdog : kp .wdog = false := by assumption) :
    Kept kp s0 (faultActive s n code) := by
  unfold faultActive
  try dsimp only
  repeat' split
  all_goals simp_all (maxDischargeDepth := 9)

@[simp] theorem execChannelFaultDetect_kept {kp : Part → Bool} {s0 : State} (n : Nat) (code : Nat) (s : State)
    (hk0 : Kept kp s0 s)
    (m_free : kp .free = false := by assumption) (m_evq : kp .evq = false := by assumption)
    (m_trace : kp .trace = false := by assumption) (m_mode : kp .mode = false := by assumption)
    (m_safe : kp .safe = false := by assumption) (m_field : kp .field = false := by assumption)
    (m_health : kp .health = false := by assumption) (m_adc : kp .adc = false := by assumption)
    (m_wdog : kp .wdog = false := by assumption) :
    KeptR kp s0 (execChannelFaultDetect n code s) := by
  unfold execChannelFaultDetect
  dsimp only
  repeat' split
  all_goals simp_all (maxDischargeDepth := 9)

@[simp] theorem execChannelFaultClear_kept {kp : Part → Bool} {s0 : State} (n : Nat) (code : Nat) (s : State)
    (hk0 : Kept kp s0 s)
    (m_evq : kp .evq = false := by assumption) (m_trace : kp .trace = false := by assumption)
    (m_field : kp .field = false := by assumption) :
    KeptR kp s0 (execChannelFaultClear n code s) := by
  unfold execChannelFaultClear
  dsimp only
  repeat' split
  all_goals simp_all

@[simp] theorem execFaultRetry_kept {kp : Part → Bool} {s0 : State} (n : Nat) (s : State) (hk0 : Kept kp s0 s)
    (m_time : kp .time = false := by assumption) (m_field : kp .field = false := by assumption) :
    KeptR kp s0 (execFaultRetry n s) := by
  unfold execFaultRetry
  dsimp only
  repeat' split
  all_goals simp_all

@[simp] theorem execJunctionCooled_kept {kp : Part → Bool} {s0 : State} (n : Nat) (s : State) (hk0 : Kept kp s0 s)
    (m_field : kp .field = false := by assumption) :
    KeptR kp s0 (execJunctionCooled n s) := by
  unfold execJunctionCooled
  simp_all

@[simp] theorem execRetryCountReset_kept {kp : Part → Bool} {s0 : State} (n : Nat) (s : State) (hk0 : Kept kp s0 s)
    (m_time : kp .time = false := by assumption) (m_field : kp .field = false := by assumption) :
    KeptR kp s0 (execRetryCountReset n s) := by
  unfold execRetryCountReset
  dsimp only
  repeat' split
  all_goals simp_all

@[simp] theorem execReverseFeedEnd_kept {kp : Part → Bool} {s0 : State} (n : Nat) (s : State) (hk0 : Kept kp s0 s)
    (m_evq : kp .evq = false := by assumption) (m_trace : kp .trace = false := by assumption)
    (m_field : kp .field = false := by assumption) :
    KeptR kp s0 (execReverseFeedEnd n s) := by
  unfold execReverseFeedEnd
  dsimp only
  repeat' split
  all_goals simp_all

@[simp] theorem ackChan_kept {kp : Part → Bool} {s0 : State} (s : State) (n : Nat) (hk0 : Kept kp s0 s)
    (m_evq : kp .evq = false := by assumption) (m_trace : kp .trace = false := by assumption)
    (m_field : kp .field = false := by assumption) :
    Kept kp s0 (ackChan s n) := by
  unfold ackChan
  dsimp only
  repeat' split
  all_goals simp_all

@[simp] theorem ackMask_kept {kp : Part → Bool} {s0 : State} (s : State) (w : Word) (hk0 : Kept kp s0 s)
    (m_evq : kp .evq = false := by assumption) (m_trace : kp .trace = false := by assumption)
    (m_field : kp .field = false := by assumption) :
    Kept kp s0 (ackMask s w) := by
  unfold ackMask
  simp_all

@[simp] theorem regChflt_kept {kp : Part → Bool} {s0 : State} (s : State) (v : Acc) (w : Word) (hk0 : Kept kp s0 s)
    (m_evq : kp .evq = false := by assumption) (m_trace : kp .trace = false := by assumption)
    (m_bus : kp .bus = false := by assumption) (m_mode : kp .mode = false := by assumption)
    (m_safe : kp .safe = false := by assumption) (m_field : kp .field = false := by assumption)
    (m_adc : kp .adc = false := by assumption) (m_wdog : kp .wdog = false := by assumption) :
    Kept kp s0 (regChflt s v w).1 := by
  unfold regChflt
  simp_all

@[simp] theorem execChfltAck_kept {kp : Part → Bool} {s0 : State} (via : Path) (w : Word) (s : State)
    (hk0 : Kept kp s0 s)
    (m_mem : kp .mem = false := by assumption) (m_evq : kp .evq = false := by assumption)
    (m_trace : kp .trace = false := by assumption) (m_bus : kp .bus = false := by assumption)
    (m_mode : kp .mode = false := by assumption) (m_safe : kp .safe = false := by assumption)
    (m_field : kp .field = false := by assumption) (m_adc : kp .adc = false := by assumption)
    (m_wdog : kp .wdog = false := by assumption) :
    KeptR kp s0 (execChfltAck via w s) := by
  unfold execChfltAck
  simp_all

@[simp] theorem regSafecmd_kept {kp : Part → Bool} {s0 : State} (s : State) (v : Acc) (w : Word) (hk0 : Kept kp s0 s)
    (m_evq : kp .evq = false := by assumption) (m_trace : kp .trace = false := by assumption)
    (m_bus : kp .bus = false := by assumption) (m_mode : kp .mode = false := by assumption)
    (m_safe : kp .safe = false := by assumption) (m_field : kp .field = false := by assumption)
    (m_inj : kp .inj = false := by assumption) (m_adc : kp .adc = false := by assumption)
    (m_panel : kp .panel = false := by assumption) (m_wdog : kp .wdog = false := by assumption)
    (m_link : kp .link = false := by assumption) :
    Kept kp s0 (regSafecmd s v w).1 := by
  unfold regSafecmd
  dsimp only
  repeat' split
  all_goals simp_all (maxDischargeDepth := 9)

@[simp] theorem execSafecmdEnter_kept {kp : Part → Bool} {s0 : State} (via : Path) (s : State) (hk0 : Kept kp s0 s)
    (m_mem : kp .mem = false := by assumption) (m_evq : kp .evq = false := by assumption)
    (m_trace : kp .trace = false := by assumption) (m_bus : kp .bus = false := by assumption)
    (m_mode : kp .mode = false := by assumption) (m_safe : kp .safe = false := by assumption)
    (m_field : kp .field = false := by assumption) (m_inj : kp .inj = false := by assumption)
    (m_adc : kp .adc = false := by assumption) (m_panel : kp .panel = false := by assumption)
    (m_wdog : kp .wdog = false := by assumption) (m_link : kp .link = false := by assumption) :
    KeptR kp s0 (execSafecmdEnter via s) := by
  unfold execSafecmdEnter
  simp_all

@[simp] theorem execAckAll_kept {kp : Part → Bool} {s0 : State} (via : Path) (s : State) (hk0 : Kept kp s0 s)
    (m_mem : kp .mem = false := by assumption) (m_evq : kp .evq = false := by assumption)
    (m_trace : kp .trace = false := by assumption) (m_bus : kp .bus = false := by assumption)
    (m_mode : kp .mode = false := by assumption) (m_safe : kp .safe = false := by assumption)
    (m_field : kp .field = false := by assumption) (m_inj : kp .inj = false := by assumption)
    (m_adc : kp .adc = false := by assumption) (m_panel : kp .panel = false := by assumption)
    (m_wdog : kp .wdog = false := by assumption) (m_link : kp .link = false := by assumption) :
    KeptR kp s0 (execAckAll via s) := by
  unfold execAckAll
  simp_all

@[simp] theorem heldTrigger_kept {kp : Part → Bool} {s0 : State} (s : State) (t : Nat) (reason : Word)
    (hk0 : Kept kp s0 s)
    (m_evq : kp .evq = false := by assumption) (m_trace : kp .trace = false := by assumption)
    (m_mode : kp .mode = false := by assumption) (m_safe : kp .safe = false := by assumption)
    (m_field : kp .field = false := by assumption) (m_inj : kp .inj = false := by assumption)
    (m_adc : kp .adc = false := by assumption) (m_panel : kp .panel = false := by assumption)
    (m_wdog : kp .wdog = false := by assumption) (m_link : kp .link = false := by assumption) :
    Kept kp s0 (heldTrigger s t reason) := by
  unfold heldTrigger
  repeat' split
  all_goals simp_all

@[simp] theorem execSafeReqAssert_kept {kp : Part → Bool} {s0 : State} (s : State) (hk0 : Kept kp s0 s)
    (m_evq : kp .evq = false := by assumption) (m_trace : kp .trace = false := by assumption)
    (m_mode : kp .mode = false := by assumption) (m_safe : kp .safe = false := by assumption)
    (m_field : kp .field = false := by assumption) (m_inj : kp .inj = false := by assumption)
    (m_adc : kp .adc = false := by assumption) (m_panel : kp .panel = false := by assumption)
    (m_wdog : kp .wdog = false := by assumption) (m_link : kp .link = false := by assumption) :
    KeptR kp s0 (execSafeReqAssert s) := by
  unfold execSafeReqAssert
  dsimp only
  repeat' split
  all_goals simp_all (maxDischargeDepth := 9)

@[simp] theorem execSafeReqRelease_kept {kp : Part → Bool} {s0 : State} (s : State) (hk0 : Kept kp s0 s)
    (m_evq : kp .evq = false := by assumption) (m_trace : kp .trace = false := by assumption)
    (m_mode : kp .mode = false := by assumption) (m_safe : kp .safe = false := by assumption)
    (m_adc : kp .adc = false := by assumption) (m_wdog : kp .wdog = false := by assumption) :
    KeptR kp s0 (execSafeReqRelease s) := by
  unfold execSafeReqRelease
  dsimp only
  repeat' split
  all_goals simp_all (maxDischargeDepth := 9)

@[simp] theorem lpFail_kept {kp : Part → Bool} {s0 : State} (s : State) (was : Bool) (v : SupplyState) (mv : Nat)
    (arg : Nat) (hk0 : Kept kp s0 s)
    (m_evq : kp .evq = false := by assumption) (m_trace : kp .trace = false := by assumption)
    (m_supply : kp .supply = false := by assumption) :
    Kept kp s0 (lpFail s was v mv arg) := by
  unfold lpFail
  repeat' split
  all_goals simp_all

@[simp] theorem execLpOff_kept {kp : Part → Bool} {s0 : State} (mv : Nat) (s : State) (hk0 : Kept kp s0 s)
    (m_evq : kp .evq = false := by assumption) (m_trace : kp .trace = false := by assumption)
    (m_supply : kp .supply = false := by assumption) :
    KeptR kp s0 (execLpOff mv s) := by
  unfold execLpOff
  repeat' split
  all_goals simp_all

@[simp] theorem execLpOvervoltage_kept {kp : Part → Bool} {s0 : State} (mv : Nat) (s : State) (hk0 : Kept kp s0 s)
    (m_evq : kp .evq = false := by assumption) (m_trace : kp .trace = false := by assumption)
    (m_supply : kp .supply = false := by assumption) :
    KeptR kp s0 (execLpOvervoltage mv s) := by
  unfold execLpOvervoltage
  repeat' split
  all_goals simp_all

@[simp] theorem execLpReversed_kept {kp : Part → Bool} {s0 : State} (s : State) (hk0 : Kept kp s0 s)
    (m_evq : kp .evq = false := by assumption) (m_trace : kp .trace = false := by assumption)
    (m_supply : kp .supply = false := by assumption) :
    KeptR kp s0 (execLpReversed s) := by
  unfold execLpReversed
  repeat' split
  all_goals simp_all

@[simp] theorem execLpBack_kept {kp : Part → Bool} {s0 : State} (mv : Nat) (s : State) (hk0 : Kept kp s0 s)
    (m_evq : kp .evq = false := by assumption) (m_trace : kp .trace = false := by assumption)
    (m_supply : kp .supply = false := by assumption) :
    KeptR kp s0 (execLpBack mv s) := by
  unfold execLpBack
  repeat' split
  all_goals simp_all

@[simp] theorem dieCleared_kept {kp : Part → Bool} {s0 : State} (s : State) (code : Nat) (hk0 : Kept kp s0 s)
    (m_evq : kp .evq = false := by assumption) (m_trace : kp .trace = false := by assumption) :
    Kept kp s0 (dieCleared s code) := by
  unfold dieCleared
  repeat' split
  all_goals simp_all

@[simp] theorem execLsFault_kept {kp : Part → Bool} {s0 : State} (mv : Nat) (s : State) (hk0 : Kept kp s0 s)
    (m_free : kp .free = false := by assumption) (m_evq : kp .evq = false := by assumption)
    (m_trace : kp .trace = false := by assumption) (m_mode : kp .mode = false := by assumption)
    (m_safe : kp .safe = false := by assumption) (m_supply : kp .supply = false := by assumption)
    (m_adc : kp .adc = false := by assumption) (m_wdog : kp .wdog = false := by assumption) :
    KeptR kp s0 (execLsFault mv s) := by
  unfold execLsFault
  dsimp only
  repeat' split
  all_goals simp_all (maxDischargeDepth := 9)

@[simp] theorem execLsOk_kept {kp : Part → Bool} {s0 : State} (mv : Nat) (s : State) (hk0 : Kept kp s0 s)
    (m_evq : kp .evq = false := by assumption) (m_trace : kp .trace = false := by assumption)
    (m_supply : kp .supply = false := by assumption) :
    KeptR kp s0 (execLsOk mv s) := by
  unfold execLsOk
  repeat' split
  all_goals simp_all

@[simp] theorem execDieOvertemp_kept {kp : Part → Bool} {s0 : State} (temp : Int) (s : State) (hk0 : Kept kp s0 s)
    (m_free : kp .free = false := by assumption) (m_evq : kp .evq = false := by assumption)
    (m_trace : kp .trace = false := by assumption) (m_mode : kp .mode = false := by assumption)
    (m_safe : kp .safe = false := by assumption) (m_supply : kp .supply = false := by assumption)
    (m_adc : kp .adc = false := by assumption) (m_wdog : kp .wdog = false := by assumption) :
    KeptR kp s0 (execDieOvertemp temp s) := by
  unfold execDieOvertemp
  dsimp only
  repeat' split
  all_goals simp_all (maxDischargeDepth := 9)

@[simp] theorem execDieCool_kept {kp : Part → Bool} {s0 : State} (temp : Int) (s : State) (hk0 : Kept kp s0 s)
    (m_evq : kp .evq = false := by assumption) (m_trace : kp .trace = false := by assumption)
    (m_supply : kp .supply = false := by assumption) :
    KeptR kp s0 (execDieCool temp s) := by
  unfold execDieCool
  repeat' split
  all_goals simp_all

@[simp] theorem dropFaults_kept {kp : Part → Bool} {s0 : State} (s : State) (n : Nat) (hk0 : Kept kp s0 s)
    (m_evq : kp .evq = false := by assumption) (m_trace : kp .trace = false := by assumption)
    (m_field : kp .field = false := by assumption) :
    Kept kp s0 (dropFaults s n) := by
  unfold dropFaults
  dsimp only
  repeat' split
  all_goals simp_all

@[simp] theorem fieldResetStart_kept {kp : Part → Bool} {s0 : State} (s : State) (hk0 : Kept kp s0 s)
    (m_cyc : kp .cyc = false := by assumption) (m_evq : kp .evq = false := by assumption)
    (m_trace : kp .trace = false := by assumption) (m_cfg : kp .cfg = false := by assumption)
    (m_mode : kp .mode = false := by assumption) (m_field : kp .field = false := by assumption)
    (m_adc : kp .adc = false := by assumption) (m_panel : kp .panel = false := by assumption) :
    Kept kp s0 (fieldResetStart s) := by
  unfold fieldResetStart
  simp_all (maxDischargeDepth := 9)

@[simp] theorem linkUp_kept {kp : Part → Bool} {s0 : State} (s : State)
    (hk0 : Kept kp s0 s)
    (m_safe : kp .safe = false := by assumption) (m_supply : kp .supply = false := by assumption) :
    Kept kp s0 (linkUp s) := by
  unfold linkUp
  try dsimp only
  repeat' split
  all_goals simp_all (maxDischargeDepth := 9)

@[simp] theorem barrierBack_kept {kp : Part → Bool} {s0 : State} (s : State) (hk0 : Kept kp s0 s)
    (m_evq : kp .evq = false := by assumption) (m_trace : kp .trace = false := by assumption)
    (m_supply : kp .supply = false := by assumption) (m_adc : kp .adc = false := by assumption) :
    Kept kp s0 (barrierBack s) := by
  unfold barrierBack
  simp_all (maxDischargeDepth := 9)

@[simp] theorem fieldServes_kept {kp : Part → Bool} {s0 : State} (s : State)
    (hk0 : Kept kp s0 s)
    (m_evq : kp .evq = false := by assumption) (m_trace : kp .trace = false := by assumption)
    (m_cfg : kp .cfg = false := by assumption) (m_mode : kp .mode = false := by assumption)
    (m_supply : kp .supply = false := by assumption) (m_field : kp .field = false := by assumption)
    (m_adc : kp .adc = false := by assumption) :
    Kept kp s0 (fieldServes s) := by
  unfold fieldServes
  try dsimp only
  repeat' split
  all_goals simp_all (maxDischargeDepth := 9)

@[simp] theorem restageShadow_kept {kp : Part → Bool} {s0 : State} (s : State) (ok : Bool)
    (hk0 : Kept kp s0 s)
    (m_cfg : kp .cfg = false := by assumption) (m_mode : kp .mode = false := by assumption) :
    Kept kp s0 (restageShadow s ok) := by
  unfold restageShadow
  try dsimp only
  repeat' split
  all_goals simp_all (maxDischargeDepth := 9)

@[simp] theorem fieldRestart_kept {kp : Part → Bool} {s0 : State} (s : State) (active shadow : Bool)
    (hk0 : Kept kp s0 s)
    (m_evq : kp .evq = false := by assumption) (m_trace : kp .trace = false := by assumption)
    (m_cfg : kp .cfg = false := by assumption) (m_mode : kp .mode = false := by assumption)
    (m_supply : kp .supply = false := by assumption) (m_field : kp .field = false := by assumption)
    (m_adc : kp .adc = false := by assumption) :
    Kept kp s0 (fieldRestart s active shadow) := by
  unfold fieldRestart
  try dsimp only
  repeat' split
  all_goals simp_all (maxDischargeDepth := 9)

@[simp] theorem execFieldReset_kept {kp : Part → Bool} {s0 : State} (active shadow : Bool) (s : State)
    (hk0 : Kept kp s0 s)
    (m_cyc : kp .cyc = false := by assumption) (m_evq : kp .evq = false := by assumption)
    (m_trace : kp .trace = false := by assumption) (m_cfg : kp .cfg = false := by assumption)
    (m_mode : kp .mode = false := by assumption) (m_supply : kp .supply = false := by assumption)
    (m_field : kp .field = false := by assumption) (m_adc : kp .adc = false := by assumption)
    (m_panel : kp .panel = false := by assumption) :
    KeptR kp s0 (execFieldReset active s shadow) := by
  unfold execFieldReset
  try dsimp only
  repeat' split
  all_goals simp_all (maxDischargeDepth := 9)

@[simp] theorem execFieldDieFault_kept {kp : Part → Bool} {s0 : State} (s : State) (hk0 : Kept kp s0 s)
    (m_cyc : kp .cyc = false := by assumption) (m_evq : kp .evq = false := by assumption)
    (m_trace : kp .trace = false := by assumption) (m_cfg : kp .cfg = false := by assumption)
    (m_mode : kp .mode = false := by assumption) (m_field : kp .field = false := by assumption)
    (m_adc : kp .adc = false := by assumption) (m_panel : kp .panel = false := by assumption) :
    KeptR kp s0 (execFieldDieFault s) := by
  unfold execFieldDieFault
  repeat' split
  all_goals simp_all

@[simp] theorem barrierLost_kept {kp : Part → Bool} {s0 : State} (s : State) (hk0 : Kept kp s0 s)
    (m_cyc : kp .cyc = false := by assumption) (m_evq : kp .evq = false := by assumption)
    (m_trace : kp .trace = false := by assumption) (m_mode : kp .mode = false := by assumption)
    (m_safe : kp .safe = false := by assumption) (m_supply : kp .supply = false := by assumption)
    (m_field : kp .field = false := by assumption) (m_health : kp .health = false := by assumption)
    (m_inj : kp .inj = false := by assumption) (m_adc : kp .adc = false := by assumption)
    (m_panel : kp .panel = false := by assumption) (m_wdog : kp .wdog = false := by assumption)
    (m_link : kp .link = false := by assumption) :
    Kept kp s0 (barrierLost s) := by
  unfold barrierLost
  simp_all (maxDischargeDepth := 9)

@[simp] theorem execBarrierLoss_kept {kp : Part → Bool} {s0 : State} (s : State) (hk0 : Kept kp s0 s)
    (m_cyc : kp .cyc = false := by assumption) (m_evq : kp .evq = false := by assumption)
    (m_trace : kp .trace = false := by assumption) (m_mode : kp .mode = false := by assumption)
    (m_safe : kp .safe = false := by assumption) (m_supply : kp .supply = false := by assumption)
    (m_field : kp .field = false := by assumption) (m_health : kp .health = false := by assumption)
    (m_inj : kp .inj = false := by assumption) (m_adc : kp .adc = false := by assumption)
    (m_panel : kp .panel = false := by assumption) (m_wdog : kp .wdog = false := by assumption)
    (m_link : kp .link = false := by assumption) :
    KeptR kp s0 (execBarrierLoss s) := by
  unfold execBarrierLoss
  repeat' split
  all_goals simp_all

@[simp] theorem execBarrierReturn_kept {kp : Part → Bool} {s0 : State} (s : State) (hk0 : Kept kp s0 s)
    (m_cyc : kp .cyc = false := by assumption) (m_evq : kp .evq = false := by assumption)
    (m_trace : kp .trace = false := by assumption) (m_cfg : kp .cfg = false := by assumption)
    (m_mode : kp .mode = false := by assumption) (m_safe : kp .safe = false := by assumption)
    (m_supply : kp .supply = false := by assumption) (m_field : kp .field = false := by assumption)
    (m_adc : kp .adc = false := by assumption) (m_panel : kp .panel = false := by assumption) :
    KeptR kp s0 (execBarrierReturn s) := by
  unfold execBarrierReturn
  try dsimp only
  repeat' split
  all_goals simp_all (maxDischargeDepth := 15)

@[simp] theorem execLsBrownout_kept {kp : Part → Bool} {s0 : State} (mv : Nat) (s : State) (hk0 : Kept kp s0 s)
    (m_cyc : kp .cyc = false := by assumption) (m_evq : kp .evq = false := by assumption)
    (m_trace : kp .trace = false := by assumption) (m_cfg : kp .cfg = false := by assumption)
    (m_mode : kp .mode = false := by assumption) (m_safe : kp .safe = false := by assumption)
    (m_supply : kp .supply = false := by assumption) (m_field : kp .field = false := by assumption)
    (m_health : kp .health = false := by assumption) (m_inj : kp .inj = false := by assumption)
    (m_adc : kp .adc = false := by assumption) (m_panel : kp .panel = false := by assumption)
    (m_wdog : kp .wdog = false := by assumption) (m_link : kp .link = false := by assumption) :
    KeptR kp s0 (execLsBrownout mv s) := by
  unfold execLsBrownout
  dsimp only
  repeat' split
  all_goals simp_all (maxDischargeDepth := 9)

/-! ### Panel -/

@[simp] theorem panelPush_kept {kp : Part → Bool} {s0 : State} (s : State) (e : Nat × Int) (hk0 : Kept kp s0 s)
    (m_evq : kp .evq = false := by assumption) (m_trace : kp .trace = false := by assumption)
    (m_panel : kp .panel = false := by assumption) :
    Kept kp s0 (panelPush s e) := by
  unfold panelPush
  dsimp only
  repeat' split
  all_goals simp_all

@[simp] theorem panelDrop_kept {kp : Part → Bool} {s0 : State} (s : State) (hk0 : Kept kp s0 s)
    (m_panel : kp .panel = false := by assumption) :
    Kept kp s0 (panelDrop s) := by
  unfold panelDrop
  simp_all

@[simp] theorem panelKey_kept {kp : Part → Bool} {s0 : State} (s : State) (kind : Nat) (k : Nat) (hk0 : Kept kp s0 s)
    (m_evq : kp .evq = false := by assumption) (m_trace : kp .trace = false := by assumption)
    (m_panel : kp .panel = false := by assumption) :
    Kept kp s0 (panelKey s kind k) := by
  unfold panelKey
  dsimp only
  repeat' split
  all_goals simp_all

@[simp] theorem panelCount_kept {kp : Part → Bool} {s0 : State} (s : State) (kind : Nat) (d : Int) (hk0 : Kept kp s0 s)
    (m_evq : kp .evq = false := by assumption) (m_trace : kp .trace = false := by assumption)
    (m_panel : kp .panel = false := by assumption) :
    Kept kp s0 (panelCount s kind d) := by
  unfold panelCount
  repeat' split
  all_goals simp_all

@[simp] theorem gotoScreen_kept {kp : Part → Bool} {s0 : State} (s : State) (n : Nat) (hk0 : Kept kp s0 s)
    (m_evq : kp .evq = false := by assumption) (m_trace : kp .trace = false := by assumption)
    (m_field : kp .field = false := by assumption) (m_panel : kp .panel = false := by assumption) :
    Kept kp s0 (gotoScreen s n) := by
  unfold gotoScreen
  repeat' split
  all_goals simp_all

@[simp] theorem menuStep_kept {kp : Part → Bool} {s0 : State} (s : State) (up : Bool) (hk0 : Kept kp s0 s)
    (m_panel : kp .panel = false := by assumption) :
    Kept kp s0 (menuStep s up) := by
  unfold menuStep
  dsimp only
  repeat' split
  all_goals simp_all

@[simp] theorem menuAction_kept {kp : Part → Bool} {s0 : State} (s : State) (arg : Nat) (hk0 : Kept kp s0 s)
    (m_evq : kp .evq = false := by assumption) (m_trace : kp .trace = false := by assumption) :
    Kept kp s0 (menuAction s arg) := by
  unfold menuAction
  simp_all

@[simp] theorem menuAck_kept {kp : Part → Bool} {s0 : State} (s : State) (hk0 : Kept kp s0 s)
    (m_evq : kp .evq = false := by assumption) (m_trace : kp .trace = false := by assumption)
    (m_field : kp .field = false := by assumption) :
    Kept kp s0 (menuAck s) := by
  unfold menuAck
  repeat' split
  all_goals simp_all

@[simp] theorem menuJog_kept {kp : Part → Bool} {s0 : State} (s : State) (k : Nat) (hk0 : Kept kp s0 s)
    (m_evq : kp .evq = false := by assumption) (m_trace : kp .trace = false := by assumption)
    (m_field : kp .field = false := by assumption) (m_panel : kp .panel = false := by assumption) :
    Kept kp s0 (menuJog s k) := by
  unfold menuJog
  dsimp only
  repeat' split
  all_goals simp_all (maxDischargeDepth := 9)

@[simp] theorem menuChord_kept {kp : Part → Bool} {s0 : State} (s : State) (hk0 : Kept kp s0 s)
    (m_panel : kp .panel = false := by assumption) :
    Kept kp s0 (menuChord s) := by
  unfold menuChord
  dsimp only
  repeat' split
  all_goals simp_all

@[simp] theorem menuPress_kept {kp : Part → Bool} {s0 : State} (s : State) (k : Nat) (hk0 : Kept kp s0 s)
    (m_evq : kp .evq = false := by assumption) (m_trace : kp .trace = false := by assumption)
    (m_field : kp .field = false := by assumption) (m_panel : kp .panel = false := by assumption) :
    Kept kp s0 (menuPress s k) := by
  unfold menuPress
  dsimp only
  repeat' split
  all_goals simp_all

@[simp] theorem menuCheck_kept {kp : Part → Bool} {s0 : State} (s : State) (hk0 : Kept kp s0 s)
    (m_evq : kp .evq = false := by assumption) (m_trace : kp .trace = false := by assumption)
    (m_field : kp .field = false := by assumption) (m_panel : kp .panel = false := by assumption) :
    Kept kp s0 (menuCheck s) := by
  unfold menuCheck
  dsimp only
  repeat' split
  all_goals simp_all

@[simp] theorem menuEvent_kept {kp : Part → Bool} {s0 : State} (s : State) (wakes : Bool) (f : State → State)
    (hf : ∀ s, Kept kp s0 s → Kept kp s0 (f s)) (h : Kept kp s0 s)
    (m_evq : kp .evq = false := by assumption) (m_trace : kp .trace = false := by assumption)
    (m_mode : kp .mode = false := by assumption) (m_safe : kp .safe = false := by assumption)
    (m_field : kp .field = false := by assumption) (m_adc : kp .adc = false := by assumption)
    (m_panel : kp .panel = false := by assumption) (m_wdog : kp .wdog = false := by assumption) :
    Kept kp s0 (menuEvent s wakes f) := by
  have hw : Kept kp s0 (if wakes then wake s 0x07 else s) := by split <;> simp_all
  unfold menuEvent
  split
  · exact h
  · generalize (if wakes then wake s 0x07 else s) = t at *
    dsimp only
    split
    · refine hf _ (menuCheck_kept _ ?_)
      simp_all
    · exact hw

@[simp] theorem armRepeat_kept {kp : Part → Bool} {s0 : State} (s : State) (k : Nat) (hk0 : Kept kp s0 s)
    (m_panel : kp .panel = false := by assumption) :
    Kept kp s0 (armRepeat s k) := by
  unfold armRepeat
  simp_all

@[simp] theorem execKeyPress_kept {kp : Part → Bool} {s0 : State} (k : Nat) (first : Bool) (s : State)
    (hk0 : Kept kp s0 s)
    (m_evq : kp .evq = false := by assumption) (m_trace : kp .trace = false := by assumption)
    (m_mode : kp .mode = false := by assumption) (m_safe : kp .safe = false := by assumption)
    (m_field : kp .field = false := by assumption) (m_adc : kp .adc = false := by assumption)
    (m_panel : kp .panel = false := by assumption) (m_wdog : kp .wdog = false := by assumption) :
    KeptR kp s0 (execKeyPress k first s) := by
  unfold execKeyPress
  dsimp only
  repeat' split
  all_goals simp_all (maxDischargeDepth := 9)

@[simp] theorem execKeyRelease_kept {kp : Part → Bool} {s0 : State} (k : Nat) (s : State) (hk0 : Kept kp s0 s)
    (m_evq : kp .evq = false := by assumption) (m_trace : kp .trace = false := by assumption)
    (m_mode : kp .mode = false := by assumption) (m_safe : kp .safe = false := by assumption)
    (m_field : kp .field = false := by assumption) (m_adc : kp .adc = false := by assumption)
    (m_panel : kp .panel = false := by assumption) (m_wdog : kp .wdog = false := by assumption) :
    KeptR kp s0 (execKeyRelease k s) := by
  unfold execKeyRelease
  dsimp only
  repeat' split
  all_goals simp_all (maxDischargeDepth := 9)

@[simp] theorem execKeyRepeat_kept {kp : Part → Bool} {s0 : State} (s : State) (hk0 : Kept kp s0 s)
    (m_time : kp .time = false := by assumption) (m_evq : kp .evq = false := by assumption)
    (m_trace : kp .trace = false := by assumption) (m_mode : kp .mode = false := by assumption)
    (m_safe : kp .safe = false := by assumption) (m_field : kp .field = false := by assumption)
    (m_adc : kp .adc = false := by assumption) (m_panel : kp .panel = false := by assumption)
    (m_wdog : kp .wdog = false := by assumption) :
    KeptR kp s0 (execKeyRepeat s) := by
  unfold execKeyRepeat
  dsimp only
  repeat' split
  all_goals simp_all (maxDischargeDepth := 9)

@[simp] theorem encCount_kept {kp : Part → Bool} {s0 : State} (s : State) (e : Nat) (up : Bool) (hk0 : Kept kp s0 s)
    (m_evq : kp .evq = false := by assumption) (m_trace : kp .trace = false := by assumption)
    (m_mode : kp .mode = false := by assumption) (m_safe : kp .safe = false := by assumption)
    (m_field : kp .field = false := by assumption) (m_adc : kp .adc = false := by assumption)
    (m_panel : kp .panel = false := by assumption) (m_wdog : kp .wdog = false := by assumption) :
    Kept kp s0 (encCount s e up) := by
  unfold encCount
  repeat' first
    | intro x
    | lift_lets
    | (with_reducible refine menuEvent_kept _ _ _ ?_ ?_)
    | split
  all_goals first | (simp_all; done) | (simp_all +zetaDelta; done)

@[simp] theorem encSet_kept {kp : Part → Bool} {s0 : State} (s : State) (e : Nat) (phase : Nat) (t : Int)
    (err : Bool) (hk0 : Kept kp s0 s)
    (m_panel : kp .panel = false := by assumption) :
    Kept kp s0 (encSet s e phase t err) := by
  unfold encSet
  simp_all

@[simp] theorem execEncTransition_kept {kp : Part → Bool} {s0 : State} (e : Nat) (a : Bool) (b : Bool) (s : State)
    (hk0 : Kept kp s0 s)
    (m_evq : kp .evq = false := by assumption) (m_trace : kp .trace = false := by assumption)
    (m_mode : kp .mode = false := by assumption) (m_safe : kp .safe = false := by assumption)
    (m_field : kp .field = false := by assumption) (m_adc : kp .adc = false := by assumption)
    (m_panel : kp .panel = false := by assumption) (m_wdog : kp .wdog = false := by assumption) :
    KeptR kp s0 (execEncTransition e a b s) := by
  unfold execEncTransition
  dsimp only
  repeat' split
  all_goals simp_all

@[simp] theorem execMenuIdle_kept {kp : Part → Bool} {s0 : State} (s : State) (hk0 : Kept kp s0 s)
    (m_time : kp .time = false := by assumption) (m_evq : kp .evq = false := by assumption)
    (m_trace : kp .trace = false := by assumption) (m_field : kp .field = false := by assumption)
    (m_panel : kp .panel = false := by assumption) :
    KeptR kp s0 (execMenuIdle s) := by
  unfold execMenuIdle
  repeat' split
  all_goals simp_all

@[simp] theorem execJogTimeout_kept {kp : Part → Bool} {s0 : State} (s : State) (hk0 : Kept kp s0 s)
    (m_time : kp .time = false := by assumption) (m_evq : kp .evq = false := by assumption)
    (m_trace : kp .trace = false := by assumption) (m_field : kp .field = false := by assumption)
    (m_panel : kp .panel = false := by assumption) :
    KeptR kp s0 (execJogTimeout s) := by
  unfold execJogTimeout
  repeat' split
  all_goals simp_all

@[simp] theorem execMenuRefresh_kept {kp : Part → Bool} {s0 : State} (s : State) (hk0 : Kept kp s0 s)
    (m_evq : kp .evq = false := by assumption) (m_trace : kp .trace = false := by assumption)
    (m_field : kp .field = false := by assumption) (m_panel : kp .panel = false := by assumption) :
    KeptR kp s0 (execMenuRefresh s) := by
  unfold execMenuRefresh
  repeat' split
  all_goals simp_all

@[simp] theorem panelMode_kept {kp : Part → Bool} {s0 : State} (s : State) (host : Bool) (hk0 : Kept kp s0 s)
    (m_evq : kp .evq = false := by assumption) (m_trace : kp .trace = false := by assumption)
    (m_field : kp .field = false := by assumption) (m_panel : kp .panel = false := by assumption) :
    Kept kp s0 (panelMode s host) := by
  unfold panelMode
  repeat' split
  all_goals simp_all

@[simp] theorem lightFrame_kept {kp : Part → Bool} {s0 : State} (s : State)
    (hk0 : Kept kp s0 s)
    (m_panel : kp .panel = false := by assumption) :
    Kept kp s0 (lightFrame s) := by
  unfold lightFrame
  try dsimp only
  repeat' split
  all_goals simp_all (maxDischargeDepth := 9)

@[simp] theorem execPanelFrame_kept {kp : Part → Bool} {s0 : State} (s : State) (hk0 : Kept kp s0 s)
    (m_evq : kp .evq = false := by assumption) (m_trace : kp .trace = false := by assumption)
    (m_field : kp .field = false := by assumption) (m_panel : kp .panel = false := by assumption) :
    KeptR kp s0 (execPanelFrame s) := by
  unfold execPanelFrame
  try dsimp only
  repeat' split
  all_goals simp_all (maxDischargeDepth := 15)

@[simp] theorem regPanelCtrl_kept {kp : Part → Bool} {s0 : State} (s : State) (v : Acc) (w : Word) (hk0 : Kept kp s0 s)
    (m_evq : kp .evq = false := by assumption) (m_trace : kp .trace = false := by assumption)
    (m_bus : kp .bus = false := by assumption) (m_mode : kp .mode = false := by assumption)
    (m_safe : kp .safe = false := by assumption) (m_field : kp .field = false := by assumption)
    (m_adc : kp .adc = false := by assumption) (m_panel : kp .panel = false := by assumption)
    (m_wdog : kp .wdog = false := by assumption) :
    Kept kp s0 (regPanelCtrl s v w).1 := by
  unfold regPanelCtrl
  dsimp only
  repeat' split
  all_goals simp_all (maxDischargeDepth := 9)

@[simp] theorem execPanelHostChange_kept {kp : Part → Bool} {s0 : State} (via : Path) (host : Bool) (s : State)
    (hk0 : Kept kp s0 s)
    (m_mem : kp .mem = false := by assumption) (m_evq : kp .evq = false := by assumption)
    (m_trace : kp .trace = false := by assumption) (m_bus : kp .bus = false := by assumption)
    (m_mode : kp .mode = false := by assumption) (m_safe : kp .safe = false := by assumption)
    (m_field : kp .field = false := by assumption) (m_adc : kp .adc = false := by assumption)
    (m_panel : kp .panel = false := by assumption) (m_wdog : kp .wdog = false := by assumption) :
    KeptR kp s0 (execPanelHostChange via host s) := by
  unfold execPanelHostChange
  simp_all

@[simp] theorem execPanelClr_kept {kp : Part → Bool} {s0 : State} (via : Path) (s : State) (hk0 : Kept kp s0 s)
    (m_mem : kp .mem = false := by assumption) (m_evq : kp .evq = false := by assumption)
    (m_trace : kp .trace = false := by assumption) (m_bus : kp .bus = false := by assumption)
    (m_mode : kp .mode = false := by assumption) (m_safe : kp .safe = false := by assumption)
    (m_field : kp .field = false := by assumption) (m_adc : kp .adc = false := by assumption)
    (m_panel : kp .panel = false := by assumption) (m_wdog : kp .wdog = false := by assumption) :
    KeptR kp s0 (execPanelClr via s) := by
  unfold execPanelClr
  simp_all

@[simp] theorem readPanelEvt_kept {kp : Part → Bool} {s0 : State} (s : State) (v : Acc) (hk0 : Kept kp s0 s)
    (m_panel : kp .panel = false := by assumption) :
    Kept kp s0 (readPanelEvt s v).1 := by
  unfold readPanelEvt
  repeat' split
  all_goals simp_all

@[simp] theorem execPanelEvtRead_kept {kp : Part → Bool} {s0 : State} (via : Path) (s : State) (hk0 : Kept kp s0 s)
    (m_mem : kp .mem = false := by assumption) (m_bus : kp .bus = false := by assumption)
    (m_panel : kp .panel = false := by assumption) :
    KeptR kp s0 (execPanelEvtRead via s) := by
  unfold execPanelEvtRead
  simp_all

/-! ### Wdog -/

@[simp] theorem wdhNext_kept {kp : Part → Bool} {s0 : State} (s : State) (hk0 : Kept kp s0 s)
    (m_wdog : kp .wdog = false := by assumption) :
    Kept kp s0 (wdhNext s) := by
  unfold wdhNext
  simp_all

@[simp] theorem wdcNext_kept {kp : Part → Bool} {s0 : State} (s : State) (hk0 : Kept kp s0 s)
    (m_wdog : kp .wdog = false := by assumption) :
    Kept kp s0 (wdcNext s) := by
  unfold wdcNext
  simp_all

@[simp] theorem markExpiry_kept {kp : Part → Bool} {s0 : State} (s : State) (hk0 : Kept kp s0 s)
    (m_upd : kp .upd = false := by assumption) :
    Kept kp s0 (markExpiry s) := by
  unfold markExpiry
  simp_all

@[simp] theorem wdhExpire_kept {kp : Part → Bool} {s0 : State} (s : State) (hk0 : Kept kp s0 s)
    (m_evq : kp .evq = false := by assumption) (m_trace : kp .trace = false := by assumption)
    (m_mode : kp .mode = false := by assumption) (m_safe : kp .safe = false := by assumption)
    (m_field : kp .field = false := by assumption) (m_inj : kp .inj = false := by assumption)
    (m_adc : kp .adc = false := by assumption) (m_panel : kp .panel = false := by assumption)
    (m_wdog : kp .wdog = false := by assumption) (m_link : kp .link = false := by assumption)
    (m_upd : kp .upd = false := by assumption) :
    Kept kp s0 (wdhExpire s) := by
  unfold wdhExpire
  simp_all (maxDischargeDepth := 9)

@[simp] theorem wdhError_kept {kp : Part → Bool} {s0 : State} (s : State) (kind : Nat) (hk0 : Kept kp s0 s)
    (m_evq : kp .evq = false := by assumption) (m_trace : kp .trace = false := by assumption)
    (m_mode : kp .mode = false := by assumption) (m_safe : kp .safe = false := by assumption)
    (m_field : kp .field = false := by assumption) (m_inj : kp .inj = false := by assumption)
    (m_adc : kp .adc = false := by assumption) (m_panel : kp .panel = false := by assumption)
    (m_wdog : kp .wdog = false := by assumption) (m_link : kp .link = false := by assumption)
    (m_upd : kp .upd = false := by assumption) :
    Kept kp s0 (wdhError s kind) := by
  unfold wdhError
  dsimp only
  repeat' split
  all_goals simp_all (maxDischargeDepth := 9)

@[simp] theorem wdhServed_kept {kp : Part → Bool} {s0 : State} (s : State) (hk0 : Kept kp s0 s)
    (m_wdog : kp .wdog = false := by assumption) :
    Kept kp s0 (wdhServed s) := by
  unfold wdhServed
  simp_all

@[simp] theorem wdhLate_kept {kp : Part → Bool} {s0 : State} (s : State)
    (hk0 : Kept kp s0 s)
    (m_evq : kp .evq = false := by assumption) (m_trace : kp .trace = false := by assumption)
    (m_mode : kp .mode = false := by assumption) (m_safe : kp .safe = false := by assumption)
    (m_field : kp .field = false := by assumption) (m_inj : kp .inj = false := by assumption)
    (m_adc : kp .adc = false := by assumption) (m_panel : kp .panel = false := by assumption)
    (m_wdog : kp .wdog = false := by assumption) (m_link : kp .link = false := by assumption)
    (m_upd : kp .upd = false := by assumption) :
    Kept kp s0 (wdhLate s) := by
  unfold wdhLate
  try dsimp only
  repeat' split
  all_goals simp_all (maxDischargeDepth := 9)

@[simp] theorem wdhAnswer_kept {kp : Part → Bool} {s0 : State} (s : State) (w : Word) (hk0 : Kept kp s0 s)
    (m_evq : kp .evq = false := by assumption) (m_trace : kp .trace = false := by assumption)
    (m_mode : kp .mode = false := by assumption) (m_safe : kp .safe = false := by assumption)
    (m_field : kp .field = false := by assumption) (m_inj : kp .inj = false := by assumption)
    (m_adc : kp .adc = false := by assumption) (m_panel : kp .panel = false := by assumption)
    (m_wdog : kp .wdog = false := by assumption) (m_link : kp .link = false := by assumption)
    (m_upd : kp .upd = false := by assumption) :
    Kept kp s0 (wdhAnswer s w) := by
  unfold wdhAnswer
  dsimp only
  repeat' split
  all_goals simp_all (maxDischargeDepth := 9)

@[simp] theorem writeWdhAnswer_kept {kp : Part → Bool} {s0 : State} (s : State) (v : Acc) (w : Word)
    (hk0 : Kept kp s0 s)
    (m_evq : kp .evq = false := by assumption) (m_trace : kp .trace = false := by assumption)
    (m_bus : kp .bus = false := by assumption) (m_mode : kp .mode = false := by assumption)
    (m_safe : kp .safe = false := by assumption) (m_field : kp .field = false := by assumption)
    (m_inj : kp .inj = false := by assumption) (m_adc : kp .adc = false := by assumption)
    (m_panel : kp .panel = false := by assumption) (m_wdog : kp .wdog = false := by assumption)
    (m_link : kp .link = false := by assumption) (m_upd : kp .upd = false := by assumption) :
    Kept kp s0 (writeWdhAnswer s v w).1 := by
  unfold writeWdhAnswer
  simp_all

@[simp] theorem execWdhAnswer_kept {kp : Part → Bool} {s0 : State} (via : Path) (w : Word) (s : State)
    (hk0 : Kept kp s0 s)
    (m_mem : kp .mem = false := by assumption) (m_evq : kp .evq = false := by assumption)
    (m_trace : kp .trace = false := by assumption) (m_bus : kp .bus = false := by assumption)
    (m_mode : kp .mode = false := by assumption) (m_safe : kp .safe = false := by assumption)
    (m_field : kp .field = false := by assumption) (m_inj : kp .inj = false := by assumption)
    (m_adc : kp .adc = false := by assumption) (m_panel : kp .panel = false := by assumption)
    (m_wdog : kp .wdog = false := by assumption) (m_link : kp .link = false := by assumption)
    (m_upd : kp .upd = false := by assumption) :
    KeptR kp s0 (execWdhAnswer via w s) := by
  unfold execWdhAnswer
  simp_all

@[simp] theorem execWdhWindowOpen_kept {kp : Part → Bool} {s0 : State} (s : State) (hk0 : Kept kp s0 s)
    (m_time : kp .time = false := by assumption) (m_wdog : kp .wdog = false := by assumption) :
    KeptR kp s0 (execWdhWindowOpen s) := by
  unfold execWdhWindowOpen
  dsimp only
  repeat' split
  all_goals simp_all

@[simp] theorem execWdhPeriodEnd_kept {kp : Part → Bool} {s0 : State} (s : State) (hk0 : Kept kp s0 s)
    (m_time : kp .time = false := by assumption) (m_evq : kp .evq = false := by assumption)
    (m_trace : kp .trace = false := by assumption) (m_mode : kp .mode = false := by assumption)
    (m_safe : kp .safe = false := by assumption) (m_field : kp .field = false := by assumption)
    (m_inj : kp .inj = false := by assumption) (m_adc : kp .adc = false := by assumption)
    (m_panel : kp .panel = false := by assumption) (m_wdog : kp .wdog = false := by assumption)
    (m_link : kp .link = false := by assumption) (m_upd : kp .upd = false := by assumption) :
    KeptR kp s0 (execWdhPeriodEnd s) := by
  unfold execWdhPeriodEnd
  dsimp only
  repeat' split
  all_goals simp_all

@[simp] theorem wdcTrigger_kept {kp : Part → Bool} {s0 : State} (s : State) (fatal : Bool) (hk0 : Kept kp s0 s)
    (m_evq : kp .evq = false := by assumption) (m_trace : kp .trace = false := by assumption)
    (m_mode : kp .mode = false := by assumption) (m_safe : kp .safe = false := by assumption)
    (m_field : kp .field = false := by assumption) (m_inj : kp .inj = false := by assumption)
    (m_adc : kp .adc = false := by assumption) (m_panel : kp .panel = false := by assumption)
    (m_wdog : kp .wdog = false := by assumption) (m_link : kp .link = false := by assumption) :
    Kept kp s0 (wdcTrigger s fatal) := by
  unfold wdcTrigger
  simp_all

@[simp] theorem wdcExpire_kept {kp : Part → Bool} {s0 : State} (s : State) (hk0 : Kept kp s0 s)
    (m_evq : kp .evq = false := by assumption) (m_trace : kp .trace = false := by assumption)
    (m_mode : kp .mode = false := by assumption) (m_safe : kp .safe = false := by assumption)
    (m_field : kp .field = false := by assumption) (m_inj : kp .inj = false := by assumption)
    (m_adc : kp .adc = false := by assumption) (m_panel : kp .panel = false := by assumption)
    (m_wdog : kp .wdog = false := by assumption) (m_link : kp .link = false := by assumption)
    (m_upd : kp .upd = false := by assumption) :
    Kept kp s0 (wdcExpire s) := by
  unfold wdcExpire
  simp_all (maxDischargeDepth := 9)

@[simp] theorem wdcError_kept {kp : Part → Bool} {s0 : State} (s : State) (hk0 : Kept kp s0 s)
    (m_evq : kp .evq = false := by assumption) (m_trace : kp .trace = false := by assumption)
    (m_mode : kp .mode = false := by assumption) (m_safe : kp .safe = false := by assumption)
    (m_field : kp .field = false := by assumption) (m_inj : kp .inj = false := by assumption)
    (m_adc : kp .adc = false := by assumption) (m_panel : kp .panel = false := by assumption)
    (m_wdog : kp .wdog = false := by assumption) (m_link : kp .link = false := by assumption)
    (m_upd : kp .upd = false := by assumption) :
    Kept kp s0 (wdcError s) := by
  unfold wdcError
  dsimp only
  repeat' split
  all_goals simp_all

@[simp] theorem wdcLate_kept {kp : Part → Bool} {s0 : State} (s : State)
    (hk0 : Kept kp s0 s)
    (m_evq : kp .evq = false := by assumption) (m_trace : kp .trace = false := by assumption)
    (m_mode : kp .mode = false := by assumption) (m_safe : kp .safe = false := by assumption)
    (m_field : kp .field = false := by assumption) (m_inj : kp .inj = false := by assumption)
    (m_adc : kp .adc = false := by assumption) (m_panel : kp .panel = false := by assumption)
    (m_wdog : kp .wdog = false := by assumption) (m_link : kp .link = false := by assumption)
    (m_upd : kp .upd = false := by assumption) :
    Kept kp s0 (wdcLate s) := by
  unfold wdcLate
  try dsimp only
  repeat' split
  all_goals simp_all (maxDischargeDepth := 9)

@[simp] theorem execWdcAnswer_kept {kp : Part → Bool} {s0 : State} (w : Word) (s : State) (hk0 : Kept kp s0 s)
    (m_evq : kp .evq = false := by assumption) (m_trace : kp .trace = false := by assumption)
    (m_mode : kp .mode = false := by assumption) (m_safe : kp .safe = false := by assumption)
    (m_field : kp .field = false := by assumption) (m_inj : kp .inj = false := by assumption)
    (m_adc : kp .adc = false := by assumption) (m_panel : kp .panel = false := by assumption)
    (m_wdog : kp .wdog = false := by assumption) (m_link : kp .link = false := by assumption)
    (m_upd : kp .upd = false := by assumption) :
    KeptR kp s0 (execWdcAnswer w s) := by
  unfold execWdcAnswer
  try dsimp only
  repeat' split
  all_goals simp_all (maxDischargeDepth := 15)

@[simp] theorem execWdcPeriodEnd_kept {kp : Part → Bool} {s0 : State} (s : State) (hk0 : Kept kp s0 s)
    (m_time : kp .time = false := by assumption) (m_evq : kp .evq = false := by assumption)
    (m_trace : kp .trace = false := by assumption) (m_mode : kp .mode = false := by assumption)
    (m_safe : kp .safe = false := by assumption) (m_field : kp .field = false := by assumption)
    (m_inj : kp .inj = false := by assumption) (m_adc : kp .adc = false := by assumption)
    (m_panel : kp .panel = false := by assumption) (m_wdog : kp .wdog = false := by assumption)
    (m_link : kp .link = false := by assumption) (m_upd : kp .upd = false := by assumption) :
    KeptR kp s0 (execWdcPeriodEnd s) := by
  unfold execWdcPeriodEnd
  dsimp only
  repeat' split
  all_goals simp_all

@[simp] theorem execFatalException_kept {kp : Part → Bool} {s0 : State} (s : State) (hk0 : Kept kp s0 s)
    (m_evq : kp .evq = false := by assumption) (m_trace : kp .trace = false := by assumption)
    (m_mode : kp .mode = false := by assumption) (m_safe : kp .safe = false := by assumption)
    (m_field : kp .field = false := by assumption) (m_inj : kp .inj = false := by assumption)
    (m_adc : kp .adc = false := by assumption) (m_panel : kp .panel = false := by assumption)
    (m_wdog : kp .wdog = false := by assumption) (m_link : kp .link = false := by assumption)
    (m_upd : kp .upd = false := by assumption) :
    KeptR kp s0 (execFatalException s) := by
  unfold execFatalException
  repeat' first
    | (with_reducible assumption)
    | simp only [keptR_next]
    | (with_reducible refine post_kept _ _ _ _ ?_)
    | (with_reducible refine markExpiry_kept _ ?_)
    | (with_reducible refine wdcTrigger_kept _ _ ?_)
    | split

@[simp] theorem execFreezeLimit_kept {kp : Part → Bool} {s0 : State} (core : Bool) (s : State) (hk0 : Kept kp s0 s)
    (m_time : kp .time = false := by assumption) (m_wdog : kp .wdog = false := by assumption) :
    KeptR kp s0 (execFreezeLimit core s) := by
  unfold execFreezeLimit
  dsimp only
  repeat' split
  all_goals simp_all

/-! ### Plan -/

@[simp] theorem topoPut_kept {kp : Part → Bool} {s0 : State} (s : State) (p : Nat) (state : Nat) (noslot : Bool)
    (miss : Nat) (hk0 : Kept kp s0 s)
    (m_mem : kp .mem = false := by assumption) :
    Kept kp s0 (topoPut s p state noslot miss) := by
  unfold topoPut
  simp_all

@[simp] theorem topoFlags_kept {kp : Part → Bool} {s0 : State} (s : State) (p : Nat) (disagree : Bool)
    (pending : Bool) (hk0 : Kept kp s0 s)
    (m_mem : kp .mem = false := by assumption) :
    Kept kp s0 (topoFlags s p disagree pending) := by
  unfold topoFlags
  simp_all

@[simp] theorem postTopo_kept {kp : Part → Bool} {s0 : State} (s : State) (p : Nat) (hk0 : Kept kp s0 s)
    (m_evq : kp .evq = false := by assumption) (m_trace : kp .trace = false := by assumption) :
    Kept kp s0 (postTopo s p) := by
  unfold postTopo
  simp_all

@[simp] theorem topoTo_kept {kp : Part → Bool} {s0 : State} (s : State) (p : Nat) (state : Nat) (noslot : Bool)
    (miss : Nat) (hk0 : Kept kp s0 s)
    (m_mem : kp .mem = false := by assumption) (m_evq : kp .evq = false := by assumption)
    (m_trace : kp .trace = false := by assumption) :
    Kept kp s0 (topoTo s p state noslot miss) := by
  unfold topoTo
  dsimp only
  repeat' split
  all_goals simp_all

theorem latchPlan_kept {kp : Part → Bool} {s0 s t : State} (hk0 : Kept kp s0 s) (h : latchPlan s = some t)
    (m_sta : kp .sta = false := by assumption) : Kept kp s0 t := by
  unfold latchPlan at h
  dsimp only at h
  split at h
  · cases h
    simp_all
  · cases h

@[simp] theorem latchAtSwap_kept {kp : Part → Bool} {s0 : State} (s : State) (hk0 : Kept kp s0 s)
    (m_sta : kp .sta = false := by assumption) :
    Kept kp s0 (latchAtSwap s) := by
  unfold latchAtSwap
  split
  · cases e : latchPlan s
    · exact hk0
    · exact latchPlan_kept hk0 e
  · exact hk0

/-! ### Health -/

@[simp] theorem healthDriver_kept {kp : Part → Bool} {s0 : State} (s : State) (hk0 : Kept kp s0 s)
    (m_evq : kp .evq = false := by assumption) (m_trace : kp .trace = false := by assumption)
    (m_mode : kp .mode = false := by assumption) (m_safe : kp .safe = false := by assumption)
    (m_health : kp .health = false := by assumption) (m_adc : kp .adc = false := by assumption)
    (m_wdog : kp .wdog = false := by assumption) :
    Kept kp s0 (healthDriver s) := by
  unfold healthDriver
  dsimp only
  repeat' split
  all_goals simp_all

@[simp] theorem healthHold_kept {kp : Part → Bool} {s0 : State} (s : State) (hk0 : Kept kp s0 s)
    (m_evq : kp .evq = false := by assumption) (m_trace : kp .trace = false := by assumption)
    (m_mode : kp .mode = false := by assumption) (m_safe : kp .safe = false := by assumption)
    (m_health : kp .health = false := by assumption) (m_adc : kp .adc = false := by assumption)
    (m_wdog : kp .wdog = false := by assumption) :
    Kept kp s0 (healthHold s) := by
  unfold healthHold
  dsimp only
  repeat' split
  all_goals simp_all

@[simp] theorem healthEval_kept {kp : Part → Bool} {s0 : State} (s : State) (hk0 : Kept kp s0 s)
    (m_evq : kp .evq = false := by assumption) (m_trace : kp .trace = false := by assumption)
    (m_mode : kp .mode = false := by assumption) (m_safe : kp .safe = false := by assumption)
    (m_health : kp .health = false := by assumption) (m_adc : kp .adc = false := by assumption)
    (m_wdog : kp .wdog = false := by assumption) :
    Kept kp s0 (healthEval s) := by
  unfold healthEval
  simp_all (maxDischargeDepth := 9)

@[simp] theorem loadSummary_kept {kp : Part → Bool} {s0 : State} (s : State)
    (hk0 : Kept kp s0 s)
    (m_health : kp .health = false := by assumption) :
    Kept kp s0 (loadSummary s) := by
  unfold loadSummary
  try dsimp only
  repeat' split
  all_goals simp_all (maxDischargeDepth := 9)

@[simp] theorem healthBoot_kept {kp : Part → Bool} {s0 : State} (s : State) (hk0 : Kept kp s0 s)
    (m_evq : kp .evq = false := by assumption) (m_trace : kp .trace = false := by assumption)
    (m_mode : kp .mode = false := by assumption) (m_safe : kp .safe = false := by assumption)
    (m_health : kp .health = false := by assumption) (m_adc : kp .adc = false := by assumption)
    (m_wdog : kp .wdog = false := by assumption) :
    Kept kp s0 (healthBoot s) := by
  unfold healthBoot
  dsimp only
  repeat' split
  all_goals simp_all (maxDischargeDepth := 9)

@[simp] theorem judgeRate_kept {kp : Part → Bool} {s0 : State} (s : State) (r : Nat) (i : Nat) (bad : Bool)
    (worse : Bool) (hk0 : Kept kp s0 s)
    (m_evq : kp .evq = false := by assumption) (m_trace : kp .trace = false := by assumption)
    (m_mode : kp .mode = false := by assumption) (m_safe : kp .safe = false := by assumption)
    (m_health : kp .health = false := by assumption) (m_adc : kp .adc = false := by assumption)
    (m_wdog : kp .wdog = false := by assumption) :
    Kept kp s0 (judgeRate s r i bad worse) := by
  unfold judgeRate
  dsimp only
  repeat' split
  all_goals simp_all (maxDischargeDepth := 9)

@[simp] theorem markExcluded_kept {kp : Part → Bool} {s0 : State} (s : State) (hk0 : Kept kp s0 s)
    (m_health : kp .health = false := by assumption) :
    Kept kp s0 (markExcluded s) := by
  unfold markExcluded
  repeat' split
  all_goals simp_all

@[simp] theorem healthJudge_kept {kp : Part → Bool} {s0 : State} (s : State) (hk0 : Kept kp s0 s)
    (m_evq : kp .evq = false := by assumption) (m_trace : kp .trace = false := by assumption)
    (m_mode : kp .mode = false := by assumption) (m_safe : kp .safe = false := by assumption)
    (m_health : kp .health = false := by assumption) (m_adc : kp .adc = false := by assumption)
    (m_wdog : kp .wdog = false := by assumption) :
    Kept kp s0 (healthJudge s) := by
  unfold healthJudge
  dsimp only
  generalize hb : (if s.health.exclBar = true then s else judgeRate _ _ _ _ _) = b
  have h1 : Kept kp s0 b := by
    subst hb
    split
    · exact hk0
    · exact judgeRate_kept _ _ _ _ _ (by simp_all)
  clear hb
  generalize hc : (if b.health.exclLnk = true then b else judgeRate _ _ _ _ _) = c
  have h2 : Kept kp s0 c := by
    subst hc
    split
    · exact h1
    · exact judgeRate_kept _ _ _ _ _ (by simp_all)
  clear hc
  refine markExcluded_kept _ ?_
  split
  · simp_all
  · rename_i v _
    have h3 : Kept kp s0 { c with health := { c.health with pllMargin := v } } := by simp_all
    have h4 := judgeRate_kept _ 6 2 (v < cfgF c 0xE 8 0 8) (v < cfgF c 0xE 8 8 8) h3
    generalize judgeRate _ 6 2 _ _ = d at h4 ⊢
    simp_all

@[simp] theorem execHealthInterval_kept {kp : Part → Bool} {s0 : State} (s : State) (hk0 : Kept kp s0 s)
    (m_time : kp .time = false := by assumption) (m_evq : kp .evq = false := by assumption)
    (m_trace : kp .trace = false := by assumption) (m_mode : kp .mode = false := by assumption)
    (m_safe : kp .safe = false := by assumption) (m_health : kp .health = false := by assumption)
    (m_adc : kp .adc = false := by assumption) (m_wdog : kp .wdog = false := by assumption) :
    KeptR kp s0 (execHealthInterval s) := by
  unfold execHealthInterval
  generalize (s.time.line + 59999999999) / 60000000000 * 60000000000 = t
  split
  · exact hk0
  · exact healthJudge_kept _ (State.reach_kept _ _ hk0)

@[simp] theorem execPllHeadroomSample_kept {kp : Part → Bool} {s0 : State} (pct : Nat) (s : State) (hk0 : Kept kp s0 s)
    (m_health : kp .health = false := by assumption) :
    KeptR kp s0 (execPllHeadroomSample pct s) := by
  unfold execPllHeadroomSample
  repeat' split
  all_goals simp_all

@[simp] theorem execHoldWarnExpiry_kept {kp : Part → Bool} {s0 : State} (s : State) (hk0 : Kept kp s0 s)
    (m_time : kp .time = false := by assumption) (m_evq : kp .evq = false := by assumption)
    (m_trace : kp .trace = false := by assumption) (m_mode : kp .mode = false := by assumption)
    (m_safe : kp .safe = false := by assumption) (m_health : kp .health = false := by assumption)
    (m_adc : kp .adc = false := by assumption) (m_wdog : kp .wdog = false := by assumption) :
    KeptR kp s0 (execHoldWarnExpiry s) := by
  unfold execHoldWarnExpiry
  repeat' split
  all_goals simp_all

@[simp] theorem execHoldReplExpiry_kept {kp : Part → Bool} {s0 : State} (s : State) (hk0 : Kept kp s0 s)
    (m_time : kp .time = false := by assumption) (m_evq : kp .evq = false := by assumption)
    (m_trace : kp .trace = false := by assumption) (m_mode : kp .mode = false := by assumption)
    (m_safe : kp .safe = false := by assumption) (m_health : kp .health = false := by assumption)
    (m_adc : kp .adc = false := by assumption) (m_wdog : kp .wdog = false := by assumption) :
    KeptR kp s0 (execHoldReplExpiry s) := by
  unfold execHoldReplExpiry
  repeat' split
  all_goals simp_all

@[simp] theorem replClr_kept {kp : Part → Bool} {s0 : State} (s : State) (w : Word) (hk0 : Kept kp s0 s)
    (m_trace : kp .trace = false := by assumption) (m_health : kp .health = false := by assumption) :
    Kept kp s0 (replClr s w) := by
  unfold replClr
  dsimp only
  repeat' split
  all_goals simp_all

@[simp] theorem addPage_kept {kp : Part → Bool} {s0 : State} (s : State) (p : TracePage) (hk0 : Kept kp s0 s)
    (m_trace : kp .trace = false := by assumption) :
    Kept kp s0 (addPage s p) := by
  unfold addPage
  simp_all

@[simp] theorem writeSummary_kept {kp : Part → Bool} {s0 : State} (s : State) (hk0 : Kept kp s0 s)
    (m_trace : kp .trace = false := by assumption) (m_health : kp .health = false := by assumption) :
    Kept kp s0 (writeSummary s) := by
  unfold writeSummary
  simp_all

@[simp] theorem tracePage_kept {kp : Part → Bool} {s0 : State} (s : State) (cause : Nat) (firstTseq : Nat)
    (recs : List TraceRec) (hk0 : Kept kp s0 s)
    (m_trace : kp .trace = false := by assumption) (m_health : kp .health = false := by assumption) :
    Kept kp s0 (tracePage s cause firstTseq recs) := by
  unfold tracePage
  repeat' split
  all_goals simp_all

@[simp] theorem tracePages_kept {kp : Part → Bool} {s0 : State} (s : State) (n : Nat) (firstTseq : Nat)
    (recs : List TraceRec) (hk0 : Kept kp s0 s)
    (m_trace : kp .trace = false := by assumption) (m_health : kp .health = false := by assumption) :
    Kept kp s0 (tracePages s n firstTseq recs) := by
  induction n generalizing s firstTseq recs with
  | zero => exact hk0
  | succ k ih =>
    unfold tracePages
    split
    · exact hk0
    · exact ih _ _ _ (tracePage_kept _ _ _ _ hk0)

@[simp] theorem execSummaryPage_kept {kp : Part → Bool} {s0 : State} (s : State) (hk0 : Kept kp s0 s)
    (m_time : kp .time = false := by assumption) (m_trace : kp .trace = false := by assumption)
    (m_health : kp .health = false := by assumption) :
    KeptR kp s0 (execSummaryPage s) := by
  unfold execSummaryPage
  dsimp only
  repeat' split
  all_goals simp_all

@[simp] theorem persistStart_kept {kp : Part → Bool} {s0 : State} (s : State) (hk0 : Kept kp s0 s)
    (m_trace : kp .trace = false := by assumption) :
    Kept kp s0 (persistStart s) := by
  unfold persistStart
  repeat' split
  all_goals simp_all

@[simp] theorem execPersistDone_kept {kp : Part → Bool} {s0 : State} (s : State) (hk0 : Kept kp s0 s)
    (m_trace : kp .trace = false := by assumption) (m_health : kp .health = false := by assumption) :
    KeptR kp s0 (execPersistDone s) := by
  unfold execPersistDone
  dsimp only
  repeat' split
  all_goals simp_all (maxDischargeDepth := 9)

@[simp] theorem State.setTracePtr_kept {kp : Part → Bool} {s0 : State} (s : State) (p : Path) (t : TracePtr)
    (hk0 : Kept kp s0 s)
    (m_trace : kp .trace = false := by assumption) :
    Kept kp s0 (State.setTracePtr s p t) := by
  unfold State.setTracePtr
  repeat' split
  all_goals simp_all

@[simp] theorem readTraceData_kept {kp : Part → Bool} {s0 : State} (s : State) (v : Acc) (hk0 : Kept kp s0 s)
    (m_trace : kp .trace = false := by assumption) :
    Kept kp s0 (readTraceData s v).1 := by
  unfold readTraceData
  dsimp only
  repeat' split
  all_goals simp_all

@[simp] theorem execTraceDataRead_kept {kp : Part → Bool} {s0 : State} (via : Path) (s : State) (hk0 : Kept kp s0 s)
    (m_mem : kp .mem = false := by assumption) (m_trace : kp .trace = false := by assumption)
    (m_bus : kp .bus = false := by assumption) :
    KeptR kp s0 (execTraceDataRead via s) := by
  unfold execTraceDataRead
  simp_all

@[simp] theorem setFreeze_kept {kp : Part → Bool} {s0 : State} (s : State) (on : Bool) (hk0 : Kept kp s0 s)
    (m_trace : kp .trace = false := by assumption) :
    Kept kp s0 (setFreeze s on) := by
  unfold setFreeze
  repeat' split
  all_goals simp_all

@[simp] theorem regTraceCtrl_kept {kp : Part → Bool} {s0 : State} (s : State) (v : Acc) (w : Word) (hk0 : Kept kp s0 s)
    (m_evq : kp .evq = false := by assumption) (m_trace : kp .trace = false := by assumption)
    (m_bus : kp .bus = false := by assumption) (m_mode : kp .mode = false := by assumption)
    (m_safe : kp .safe = false := by assumption) (m_adc : kp .adc = false := by assumption)
    (m_wdog : kp .wdog = false := by assumption) :
    Kept kp s0 (regTraceCtrl s v w).1 := by
  unfold regTraceCtrl
  dsimp only
  repeat' split
  all_goals simp_all (maxDischargeDepth := 9)

@[simp] theorem traceCtrlBit_kept {kp : Part → Bool} {s0 : State} (s : State) (via : Path) (n : Nat)
    (hk0 : Kept kp s0 s)
    (m_mem : kp .mem = false := by assumption) (m_evq : kp .evq = false := by assumption)
    (m_trace : kp .trace = false := by assumption) (m_bus : kp .bus = false := by assumption)
    (m_mode : kp .mode = false := by assumption) (m_safe : kp .safe = false := by assumption)
    (m_adc : kp .adc = false := by assumption) (m_wdog : kp .wdog = false := by assumption) :
    Kept kp s0 (traceCtrlBit s via n) := by
  unfold traceCtrlBit
  simp_all

@[simp] theorem execTraceFreeze_kept {kp : Part → Bool} {s0 : State} (via : Path) (s : State) (hk0 : Kept kp s0 s)
    (m_mem : kp .mem = false := by assumption) (m_evq : kp .evq = false := by assumption)
    (m_trace : kp .trace = false := by assumption) (m_bus : kp .bus = false := by assumption)
    (m_mode : kp .mode = false := by assumption) (m_safe : kp .safe = false := by assumption)
    (m_adc : kp .adc = false := by assumption) (m_wdog : kp .wdog = false := by assumption) :
    KeptR kp s0 (execTraceFreeze via s) := by
  unfold execTraceFreeze
  simp_all

@[simp] theorem execTraceUnfreeze_kept {kp : Part → Bool} {s0 : State} (via : Path) (s : State) (hk0 : Kept kp s0 s)
    (m_mem : kp .mem = false := by assumption) (m_evq : kp .evq = false := by assumption)
    (m_trace : kp .trace = false := by assumption) (m_bus : kp .bus = false := by assumption)
    (m_mode : kp .mode = false := by assumption) (m_safe : kp .safe = false := by assumption)
    (m_adc : kp .adc = false := by assumption) (m_wdog : kp .wdog = false := by assumption) :
    KeptR kp s0 (execTraceUnfreeze via s) := by
  unfold execTraceUnfreeze
  simp_all

@[simp] theorem execTraceRdOldest_kept {kp : Part → Bool} {s0 : State} (via : Path) (s : State) (hk0 : Kept kp s0 s)
    (m_mem : kp .mem = false := by assumption) (m_evq : kp .evq = false := by assumption)
    (m_trace : kp .trace = false := by assumption) (m_bus : kp .bus = false := by assumption)
    (m_mode : kp .mode = false := by assumption) (m_safe : kp .safe = false := by assumption)
    (m_adc : kp .adc = false := by assumption) (m_wdog : kp .wdog = false := by assumption) :
    KeptR kp s0 (execTraceRdOldest via s) := by
  unfold execTraceRdOldest
  simp_all

@[simp] theorem execTraceRdNewest_kept {kp : Part → Bool} {s0 : State} (via : Path) (s : State) (hk0 : Kept kp s0 s)
    (m_mem : kp .mem = false := by assumption) (m_evq : kp .evq = false := by assumption)
    (m_trace : kp .trace = false := by assumption) (m_bus : kp .bus = false := by assumption)
    (m_mode : kp .mode = false := by assumption) (m_safe : kp .safe = false := by assumption)
    (m_adc : kp .adc = false := by assumption) (m_wdog : kp .wdog = false := by assumption) :
    KeptR kp s0 (execTraceRdNewest via s) := by
  unfold execTraceRdNewest
  simp_all

@[simp] theorem execPersist_kept {kp : Part → Bool} {s0 : State} (via : Path) (s : State) (hk0 : Kept kp s0 s)
    (m_mem : kp .mem = false := by assumption) (m_evq : kp .evq = false := by assumption)
    (m_trace : kp .trace = false := by assumption) (m_bus : kp .bus = false := by assumption)
    (m_mode : kp .mode = false := by assumption) (m_safe : kp .safe = false := by assumption)
    (m_adc : kp .adc = false := by assumption) (m_wdog : kp .wdog = false := by assumption) :
    KeptR kp s0 (execPersist via s) := by
  unfold execPersist
  simp_all

@[simp] theorem traceRead_kept {kp : Part → Bool} {s0 : State} (s : State) (t : Txn) (hk0 : Kept kp s0 s)
    (m_evq : kp .evq = false := by assumption) (m_trace : kp .trace = false := by assumption)
    (m_mode : kp .mode = false := by assumption) (m_safe : kp .safe = false := by assumption)
    (m_health : kp .health = false := by assumption) (m_adc : kp .adc = false := by assumption)
    (m_wdog : kp .wdog = false := by assumption) (m_txn : kp .txn = false := by assumption)
    (m_sec : kp .sec = false := by assumption) :
    Kept kp s0 (traceRead s t) := by
  unfold traceRead
  simp_all

@[simp] theorem execTraceRead_kept {kp : Part → Bool} {s0 : State} (bcast : Bool) (anchor : Bool) (tag : Nat)
    (s : State) (hk0 : Kept kp s0 s)
    (m_evq : kp .evq = false := by assumption) (m_trace : kp .trace = false := by assumption)
    (m_mode : kp .mode = false := by assumption) (m_safe : kp .safe = false := by assumption)
    (m_health : kp .health = false := by assumption) (m_adc : kp .adc = false := by assumption)
    (m_wdog : kp .wdog = false := by assumption) (m_txn : kp .txn = false := by assumption)
    (m_sec : kp .sec = false := by assumption) (m_ser : kp .ser = false := by assumption) :
    KeptR kp s0 (execTraceRead bcast anchor tag s) := by
  unfold execTraceRead
  simp_all

@[simp] theorem injArm_kept {kp : Part → Bool} {s0 : State} (s : State) (hk0 : Kept kp s0 s)
    (m_health : kp .health = false := by assumption) (m_inj : kp .inj = false := by assumption) :
    Kept kp s0 (injArm s) := by
  unfold injArm
  dsimp only
  repeat' split
  all_goals simp_all

@[simp] theorem regInjCtrl_kept {kp : Part → Bool} {s0 : State} (s : State) (v : Acc) (w : Word) (hk0 : Kept kp s0 s)
    (m_evq : kp .evq = false := by assumption) (m_trace : kp .trace = false := by assumption)
    (m_bus : kp .bus = false := by assumption) (m_mode : kp .mode = false := by assumption)
    (m_safe : kp .safe = false := by assumption) (m_health : kp .health = false := by assumption)
    (m_inj : kp .inj = false := by assumption) (m_adc : kp .adc = false := by assumption)
    (m_wdog : kp .wdog = false := by assumption) :
    Kept kp s0 (regInjCtrl s v w).1 := by
  unfold regInjCtrl
  dsimp only
  repeat' split
  all_goals simp_all (maxDischargeDepth := 9)

@[simp] theorem execInjArm_kept {kp : Part → Bool} {s0 : State} (via : Path) (target : Nat) (action : Nat)
    (once : Bool) (s : State) (hk0 : Kept kp s0 s)
    (m_mem : kp .mem = false := by assumption) (m_evq : kp .evq = false := by assumption)
    (m_trace : kp .trace = false := by assumption) (m_bus : kp .bus = false := by assumption)
    (m_mode : kp .mode = false := by assumption) (m_safe : kp .safe = false := by assumption)
    (m_health : kp .health = false := by assumption) (m_inj : kp .inj = false := by assumption)
    (m_adc : kp .adc = false := by assumption) (m_wdog : kp .wdog = false := by assumption) :
    KeptR kp s0 (execInjArm via target action once s) := by
  unfold execInjArm
  simp_all

@[simp] theorem execInjDisarm_kept {kp : Part → Bool} {s0 : State} (via : Path) (s : State) (hk0 : Kept kp s0 s)
    (m_mem : kp .mem = false := by assumption) (m_evq : kp .evq = false := by assumption)
    (m_trace : kp .trace = false := by assumption) (m_bus : kp .bus = false := by assumption)
    (m_mode : kp .mode = false := by assumption) (m_safe : kp .safe = false := by assumption)
    (m_health : kp .health = false := by assumption) (m_inj : kp .inj = false := by assumption)
    (m_adc : kp .adc = false := by assumption) (m_wdog : kp .wdog = false := by assumption) :
    KeptR kp s0 (execInjDisarm via s) := by
  unfold execInjDisarm
  simp_all

@[simp] theorem execInjTimeout_kept {kp : Part → Bool} {s0 : State} (s : State) (hk0 : Kept kp s0 s)
    (m_time : kp .time = false := by assumption) (m_inj : kp .inj = false := by assumption) :
    KeptR kp s0 (execInjTimeout s) := by
  unfold execInjTimeout
  repeat' split
  all_goals simp_all

@[simp] theorem execInjReorderDrop_kept {kp : Part → Bool} {s0 : State} (s : State) (hk0 : Kept kp s0 s)
    (m_time : kp .time = false := by assumption) (m_inj : kp .inj = false := by assumption) :
    KeptR kp s0 (execInjReorderDrop s) := by
  unfold execInjReorderDrop
  try dsimp only
  repeat' split
  all_goals simp_all (maxDischargeDepth := 15)

@[simp] theorem injEnable_kept {kp : Part → Bool} {s0 : State} (s : State) (t : Txn) (hk0 : Kept kp s0 s)
    (m_evq : kp .evq = false := by assumption) (m_trace : kp .trace = false := by assumption)
    (m_mode : kp .mode = false := by assumption) (m_safe : kp .safe = false := by assumption)
    (m_health : kp .health = false := by assumption) (m_inj : kp .inj = false := by assumption)
    (m_adc : kp .adc = false := by assumption) (m_wdog : kp .wdog = false := by assumption)
    (m_txn : kp .txn = false := by assumption) (m_sec : kp .sec = false := by assumption) :
    Kept kp s0 (injEnable s t) := by
  unfold injEnable
  dsimp only
  repeat' split
  all_goals simp_all (maxDischargeDepth := 9)

@[simp] theorem execInjEnable_kept {kp : Part → Bool} {s0 : State} (bcast : Bool) (anchor : Bool) (tag : Nat)
    (s : State) (hk0 : Kept kp s0 s)
    (m_evq : kp .evq = false := by assumption) (m_trace : kp .trace = false := by assumption)
    (m_mode : kp .mode = false := by assumption) (m_safe : kp .safe = false := by assumption)
    (m_health : kp .health = false := by assumption) (m_inj : kp .inj = false := by assumption)
    (m_adc : kp .adc = false := by assumption) (m_wdog : kp .wdog = false := by assumption)
    (m_txn : kp .txn = false := by assumption) (m_sec : kp .sec = false := by assumption)
    (m_ser : kp .ser = false := by assumption) :
    KeptR kp s0 (execInjEnable bcast anchor tag s) := by
  unfold execInjEnable
  simp_all

@[simp] theorem execInjEnableExpiry_kept {kp : Part → Bool} {s0 : State} (s : State) (hk0 : Kept kp s0 s)
    (m_time : kp .time = false := by assumption) (m_inj : kp .inj = false := by assumption) :
    KeptR kp s0 (execInjEnableExpiry s) := by
  unfold execInjEnableExpiry
  dsimp only
  repeat' split
  all_goals simp_all (maxDischargeDepth := 9)

@[simp] theorem injFrame_kept {kp : Part → Bool} {s0 : State} (s : State) (target : Nat) (type : Nat)
    (hk0 : Kept kp s0 s)
    (m_trace : kp .trace = false := by assumption) (m_inj : kp .inj = false := by assumption) :
    Kept kp s0 (injFrame s target type).1 := by
  unfold injFrame
  dsimp only
  repeat' split
  all_goals simp_all (maxDischargeDepth := 9)

/-! ### Sets -/

@[simp] theorem notOwner_kept {kp : Part → Bool} {s0 : State} (s : State) (p : Path) (addr : Nat) (hk0 : Kept kp s0 s)
    (m_evq : kp .evq = false := by assumption) (m_trace : kp .trace = false := by assumption) :
    Kept kp s0 (notOwner s p addr).1 := by
  unfold notOwner
  repeat' split
  all_goals simp_all

@[simp] theorem badWord_kept {kp : Part → Bool} {s0 : State} (s : State) (p : Path) (addr : Nat) (hk0 : Kept kp s0 s)
    (m_evq : kp .evq = false := by assumption) (m_trace : kp .trace = false := by assumption) :
    Kept kp s0 (badWord s p addr).1 := by
  unfold badWord
  repeat' split
  all_goals simp_all

@[simp] theorem windowUse_kept {kp : Part → Bool} {s0 : State} (s : State) (p : Path) (hk0 : Kept kp s0 s)
    (m_cfg : kp .cfg = false := by assumption) :
    Kept kp s0 (windowUse s p) := by
  unfold windowUse
  repeat' split
  all_goals simp_all

@[simp] theorem setOwner_kept {kp : Part → Bool} {s0 : State} (s : State) (o : Option Path) (hk0 : Kept kp s0 s)
    (m_evq : kp .evq = false := by assumption) (m_trace : kp .trace = false := by assumption)
    (m_cfg : kp .cfg = false := by assumption) :
    Kept kp s0 (setOwner s o) := by
  unfold setOwner
  repeat' split
  all_goals simp_all

@[simp] theorem stepWord_kept {kp : Part → Bool} {s0 : State} (s : State) (hk0 : Kept kp s0 s)
    (m_cfg : kp .cfg = false := by assumption) :
    Kept kp s0 (stepWord s) := by
  unfold stepWord
  repeat' split
  all_goals simp_all

@[simp] theorem regCfgSet_kept {kp : Part → Bool} {s0 : State} (s : State) (v : Acc) (w : Word) (hk0 : Kept kp s0 s)
    (m_evq : kp .evq = false := by assumption) (m_trace : kp .trace = false := by assumption)
    (m_bus : kp .bus = false := by assumption) (m_cfg : kp .cfg = false := by assumption)
    (m_mode : kp .mode = false := by assumption) (m_safe : kp .safe = false := by assumption)
    (m_adc : kp .adc = false := by assumption) (m_wdog : kp .wdog = false := by assumption) :
    Kept kp s0 (regCfgSet s v w).1 := by
  unfold regCfgSet
  repeat' first
    | intro x
    | (with_reducible refine regWrite_kept _ _ _ _ _ _ ?_ ?_)
    | split
  all_goals simp_all

@[simp] theorem regCfgAddr_kept {kp : Part → Bool} {s0 : State} (s : State) (v : Acc) (w : Word) (hk0 : Kept kp s0 s)
    (m_evq : kp .evq = false := by assumption) (m_trace : kp .trace = false := by assumption)
    (m_bus : kp .bus = false := by assumption) (m_cfg : kp .cfg = false := by assumption)
    (m_mode : kp .mode = false := by assumption) (m_safe : kp .safe = false := by assumption)
    (m_adc : kp .adc = false := by assumption) (m_wdog : kp .wdog = false := by assumption) :
    Kept kp s0 (regCfgAddr s v w).1 := by
  unfold regCfgAddr
  repeat' first
    | intro x
    | (with_reducible refine regWrite_kept _ _ _ _ _ _ ?_ ?_)
    | split
  all_goals simp_all

@[simp] theorem readCfgData_kept {kp : Part → Bool} {s0 : State} (s : State) (v : Acc) (hk0 : Kept kp s0 s)
    (m_evq : kp .evq = false := by assumption) (m_trace : kp .trace = false := by assumption)
    (m_cfg : kp .cfg = false := by assumption) :
    Kept kp s0 (readCfgData s v).1 := by
  unfold readCfgData
  dsimp only
  repeat' split
  all_goals simp_all

@[simp] theorem shadowWrite_kept {kp : Part → Bool} {s0 : State} (s : State) (p : Path) (t : Nat) (w : Nat)
    (x : Word) (hk0 : Kept kp s0 s)
    (m_evq : kp .evq = false := by assumption) (m_trace : kp .trace = false := by assumption)
    (m_cfg : kp .cfg = false := by assumption) (m_field : kp .field = false := by assumption)
    (m_health : kp .health = false := by assumption) :
    Kept kp s0 (shadowWrite s p t w x).1 := by
  unfold shadowWrite
  repeat' split
  all_goals simp_all

@[simp] theorem regCfgData_kept {kp : Part → Bool} {s0 : State} (s : State) (v : Acc) (x : Word) (hk0 : Kept kp s0 s)
    (m_evq : kp .evq = false := by assumption) (m_trace : kp .trace = false := by assumption)
    (m_bus : kp .bus = false := by assumption) (m_cfg : kp .cfg = false := by assumption)
    (m_mode : kp .mode = false := by assumption) (m_safe : kp .safe = false := by assumption)
    (m_field : kp .field = false := by assumption) (m_health : kp .health = false := by assumption)
    (m_adc : kp .adc = false := by assumption) (m_wdog : kp .wdog = false := by assumption) :
    Kept kp s0 (regCfgData s v x).1 := by
  unfold regCfgData
  repeat' first
    | (intro x; refine Kept.cut (kp := kp) (s0 := s0) (x := x) ?_ ?_; subst x; rotate_left; clear_value x; intro hx; rotate_right)
    | intro x
    | lift_lets
    | (with_reducible refine regWrite_kept _ _ _ _ _ _ ?_ ?_)
    | split
  all_goals first | (simp_all; done) | (simp_all +zetaDelta; done)

@[simp] theorem cfgStatClear_kept {kp : Part → Bool} {s0 : State} (s : State) (w : Word) (hk0 : Kept kp s0 s)
    (m_cfg : kp .cfg = false := by assumption) :
    Kept kp s0 (cfgStatClear s w) := by
  unfold cfgStatClear
  simp_all

@[simp] theorem regCfgStat_kept {kp : Part → Bool} {s0 : State} (s : State) (v : Acc) (w : Word) (hk0 : Kept kp s0 s)
    (m_evq : kp .evq = false := by assumption) (m_trace : kp .trace = false := by assumption)
    (m_bus : kp .bus = false := by assumption) (m_cfg : kp .cfg = false := by assumption)
    (m_mode : kp .mode = false := by assumption) (m_safe : kp .safe = false := by assumption)
    (m_adc : kp .adc = false := by assumption) (m_wdog : kp .wdog = false := by assumption) :
    Kept kp s0 (regCfgStat s v w).1 := by
  unfold regCfgStat
  simp_all

@[simp] theorem regGunT_kept {kp : Part → Bool} {s0 : State} (s : State) (v : Acc) (i : Nat) (w : Word)
    (hk0 : Kept kp s0 s)
    (m_evq : kp .evq = false := by assumption) (m_trace : kp .trace = false := by assumption)
    (m_bus : kp .bus = false := by assumption) (m_cfg : kp .cfg = false := by assumption)
    (m_mode : kp .mode = false := by assumption) (m_safe : kp .safe = false := by assumption)
    (m_adc : kp .adc = false := by assumption) (m_wdog : kp .wdog = false := by assumption) :
    Kept kp s0 (regGunT s v i w).1 := by
  unfold regGunT
  simp_all

@[simp] theorem postValidated_kept {kp : Part → Bool} {s0 : State} (s : State) (table : Nat) (word_ : Nat)
    (hk0 : Kept kp s0 s)
    (m_evq : kp .evq = false := by assumption) (m_trace : kp .trace = false := by assumption) :
    Kept kp s0 (postValidated s table word_) := by
  unfold postValidated
  simp_all

@[simp] theorem stagingFailed_kept {kp : Part → Bool} {s0 : State} (s : State) (hk0 : Kept kp s0 s)
    (m_evq : kp .evq = false := by assumption) (m_trace : kp .trace = false := by assumption)
    (m_cfg : kp .cfg = false := by assumption) :
    Kept kp s0 (stagingFailed s) := by
  unfold stagingFailed
  simp_all

@[simp] theorem execValidateDone_kept {kp : Part → Bool} {s0 : State} (s : State) (hk0 : Kept kp s0 s)
    (m_evq : kp .evq = false := by assumption) (m_trace : kp .trace = false := by assumption)
    (m_cfg : kp .cfg = false := by assumption) :
    KeptR kp s0 (execValidateDone s) := by
  unfold execValidateDone
  dsimp only
  repeat' split
  all_goals simp_all

@[simp] theorem execCopyDone_kept {kp : Part → Bool} {s0 : State} (s : State) (hk0 : Kept kp s0 s)
    (m_evq : kp .evq = false := by assumption) (m_trace : kp .trace = false := by assumption)
    (m_cfg : kp .cfg = false := by assumption) :
    KeptR kp s0 (execCopyDone s) := by
  unfold execCopyDone
  dsimp only
  repeat' split
  all_goals simp_all

@[simp] theorem commitStart_kept {kp : Part → Bool} {s0 : State} (s : State) (hk0 : Kept kp s0 s)
    (m_cfg : kp .cfg = false := by assumption) (m_flash : kp .flash = false := by assumption) :
    Kept kp s0 (commitStart s) := by
  unfold commitStart
  simp_all (maxDischargeDepth := 9)

@[simp] theorem commitFail_kept {kp : Part → Bool} {s0 : State} (s : State) (hk0 : Kept kp s0 s)
    (m_evq : kp .evq = false := by assumption) (m_trace : kp .trace = false := by assumption)
    (m_cfg : kp .cfg = false := by assumption) (m_mode : kp .mode = false := by assumption) :
    Kept kp s0 (commitFail s) := by
  unfold commitFail
  dsimp only
  repeat' split
  all_goals simp_all (maxDischargeDepth := 9)

@[simp] theorem execCommitDone_kept {kp : Part → Bool} {s0 : State} (ok : Bool) (s : State) (hk0 : Kept kp s0 s)
    (m_evq : kp .evq = false := by assumption) (m_trace : kp .trace = false := by assumption)
    (m_cfg : kp .cfg = false := by assumption) (m_mode : kp .mode = false := by assumption) :
    KeptR kp s0 (execCommitDone ok s) := by
  unfold execCommitDone
  repeat' split
  all_goals simp_all

@[simp] theorem autoCommitStart_kept {kp : Part → Bool} {s0 : State} (s : State) (hk0 : Kept kp s0 s)
    (m_cfg : kp .cfg = false := by assumption) (m_flash : kp .flash = false := by assumption) :
    Kept kp s0 (autoCommitStart s) := by
  unfold autoCommitStart
  repeat' split
  all_goals simp_all

@[simp] theorem execAutoCommitStart_kept {kp : Part → Bool} {s0 : State} (s : State) (hk0 : Kept kp s0 s)
    (m_cfg : kp .cfg = false := by assumption) (m_flash : kp .flash = false := by assumption) :
    KeptR kp s0 (execAutoCommitStart s) := by
  unfold execAutoCommitStart
  simp_all

@[simp] theorem swapRefuse_kept {kp : Part → Bool} {s0 : State} (s : State) (code : Nat) (mode : Nat)
    (hk0 : Kept kp s0 s)
    (m_evq : kp .evq = false := by assumption) (m_trace : kp .trace = false := by assumption)
    (m_cfg : kp .cfg = false := by assumption) :
    Kept kp s0 (swapRefuse s code mode) := by
  unfold swapRefuse
  repeat' split
  all_goals simp_all

@[simp] theorem swapRequest_kept {kp : Part → Bool} {s0 : State} (s : State) (mode : Nat) (hk0 : Kept kp s0 s)
    (m_evq : kp .evq = false := by assumption) (m_trace : kp .trace = false := by assumption)
    (m_cfg : kp .cfg = false := by assumption) :
    Kept kp s0 (swapRequest s mode) := by
  unfold swapRequest
  repeat' split
  all_goals simp_all

@[simp] theorem ctrlAct_kept {kp : Part → Bool} {s0 : State} (s : State) (p : Path) (w : Word) (hk0 : Kept kp s0 s)
    (m_evq : kp .evq = false := by assumption) (m_trace : kp .trace = false := by assumption)
    (m_cfg : kp .cfg = false := by assumption) (m_flash : kp .flash = false := by assumption) :
    Kept kp s0 (ctrlAct s p w).1 := by
  have hd := notOwner_kept s p 0x22 hk0
  have hu := windowUse_kept s p hk0
  unfold ctrlAct
  dsimp only
  generalize notOwner s p 0x22 = d at hd ⊢
  generalize windowUse s p = u at hu ⊢
  repeat' with_reducible refine Kept.iteFst ?_ ?_
  all_goals first
    | with_reducible exact hd
    | with_reducible exact hk0
    | with_reducible exact setOwner_kept _ _ hu
    | with_reducible exact setOwner_kept _ _ hk0
    | with_reducible exact badWord_kept _ _ _ hu
    | with_reducible exact swapRequest_kept _ _ hu
    | with_reducible exact commitStart_kept _ hu
    | simp_all

@[simp] theorem regCfgCtrl_kept {kp : Part → Bool} {s0 : State} (s : State) (v : Acc) (w : Word) (hk0 : Kept kp s0 s)
    (m_evq : kp .evq = false := by assumption) (m_trace : kp .trace = false := by assumption)
    (m_bus : kp .bus = false := by assumption) (m_cfg : kp .cfg = false := by assumption)
    (m_mode : kp .mode = false := by assumption) (m_safe : kp .safe = false := by assumption)
    (m_adc : kp .adc = false := by assumption) (m_wdog : kp .wdog = false := by assumption)
    (m_flash : kp .flash = false := by assumption) :
    Kept kp s0 (regCfgCtrl s v w).1 := by
  unfold regCfgCtrl
  repeat' split
  all_goals simp_all

@[simp] theorem ctrlBit_kept {kp : Part → Bool} {s0 : State} (s : State) (via : Path) (w : Word) (hk0 : Kept kp s0 s)
    (m_mem : kp .mem = false := by assumption) (m_evq : kp .evq = false := by assumption)
    (m_trace : kp .trace = false := by assumption) (m_bus : kp .bus = false := by assumption)
    (m_cfg : kp .cfg = false := by assumption) (m_mode : kp .mode = false := by assumption)
    (m_safe : kp .safe = false := by assumption) (m_adc : kp .adc = false := by assumption)
    (m_wdog : kp .wdog = false := by assumption) (m_flash : kp .flash = false := by assumption) :
    Kept kp s0 (ctrlBit s via w) := by
  unfold ctrlBit
  simp_all

@[simp] theorem execClaim_kept {kp : Part → Bool} {s0 : State} (via : Path) (s : State) (hk0 : Kept kp s0 s)
    (m_mem : kp .mem = false := by assumption) (m_evq : kp .evq = false := by assumption)
    (m_trace : kp .trace = false := by assumption) (m_bus : kp .bus = false := by assumption)
    (m_cfg : kp .cfg = false := by assumption) (m_mode : kp .mode = false := by assumption)
    (m_safe : kp .safe = false := by assumption) (m_adc : kp .adc = false := by assumption)
    (m_wdog : kp .wdog = false := by assumption) (m_flash : kp .flash = false := by assumption) :
    KeptR kp s0 (execClaim via s) := by
  unfold execClaim
  simp_all

@[simp] theorem execRelease_kept {kp : Part → Bool} {s0 : State} (via : Path) (s : State) (hk0 : Kept kp s0 s)
    (m_mem : kp .mem = false := by assumption) (m_evq : kp .evq = false := by assumption)
    (m_trace : kp .trace = false := by assumption) (m_bus : kp .bus = false := by assumption)
    (m_cfg : kp .cfg = false := by assumption) (m_mode : kp .mode = false := by assumption)
    (m_safe : kp .safe = false := by assumption) (m_adc : kp .adc = false := by assumption)
    (m_wdog : kp .wdog = false := by assumption) (m_flash : kp .flash = false := by assumption) :
    KeptR kp s0 (execRelease via s) := by
  unfold execRelease
  simp_all

@[simp] theorem execValidate_kept {kp : Part → Bool} {s0 : State} (via : Path) (s : State) (hk0 : Kept kp s0 s)
    (m_mem : kp .mem = false := by assumption) (m_evq : kp .evq = false := by assumption)
    (m_trace : kp .trace = false := by assumption) (m_bus : kp .bus = false := by assumption)
    (m_cfg : kp .cfg = false := by assumption) (m_mode : kp .mode = false := by assumption)
    (m_safe : kp .safe = false := by assumption) (m_adc : kp .adc = false := by assumption)
    (m_wdog : kp .wdog = false := by assumption) (m_flash : kp .flash = false := by assumption) :
    KeptR kp s0 (execValidate via s) := by
  unfold execValidate
  simp_all

@[simp] theorem execCopy_kept {kp : Part → Bool} {s0 : State} (via : Path) (s : State) (hk0 : Kept kp s0 s)
    (m_mem : kp .mem = false := by assumption) (m_evq : kp .evq = false := by assumption)
    (m_trace : kp .trace = false := by assumption) (m_bus : kp .bus = false := by assumption)
    (m_cfg : kp .cfg = false := by assumption) (m_mode : kp .mode = false := by assumption)
    (m_safe : kp .safe = false := by assumption) (m_adc : kp .adc = false := by assumption)
    (m_wdog : kp .wdog = false := by assumption) (m_flash : kp .flash = false := by assumption) :
    KeptR kp s0 (execCopy via s) := by
  unfold execCopy
  simp_all

@[simp] theorem execSwapNow_kept {kp : Part → Bool} {s0 : State} (via : Path) (s : State) (hk0 : Kept kp s0 s)
    (m_mem : kp .mem = false := by assumption) (m_evq : kp .evq = false := by assumption)
    (m_trace : kp .trace = false := by assumption) (m_bus : kp .bus = false := by assumption)
    (m_cfg : kp .cfg = false := by assumption) (m_mode : kp .mode = false := by assumption)
    (m_safe : kp .safe = false := by assumption) (m_adc : kp .adc = false := by assumption)
    (m_wdog : kp .wdog = false := by assumption) (m_flash : kp .flash = false := by assumption) :
    KeptR kp s0 (execSwapNow via s) := by
  unfold execSwapNow
  simp_all

@[simp] theorem execSwapCycle_kept {kp : Part → Bool} {s0 : State} (via : Path) (s : State) (hk0 : Kept kp s0 s)
    (m_mem : kp .mem = false := by assumption) (m_evq : kp .evq = false := by assumption)
    (m_trace : kp .trace = false := by assumption) (m_bus : kp .bus = false := by assumption)
    (m_cfg : kp .cfg = false := by assumption) (m_mode : kp .mode = false := by assumption)
    (m_safe : kp .safe = false := by assumption) (m_adc : kp .adc = false := by assumption)
    (m_wdog : kp .wdog = false := by assumption) (m_flash : kp .flash = false := by assumption) :
    KeptR kp s0 (execSwapCycle via s) := by
  unfold execSwapCycle
  simp_all

@[simp] theorem execSwapGun_kept {kp : Part → Bool} {s0 : State} (via : Path) (s : State) (hk0 : Kept kp s0 s)
    (m_mem : kp .mem = false := by assumption) (m_evq : kp .evq = false := by assumption)
    (m_trace : kp .trace = false := by assumption) (m_bus : kp .bus = false := by assumption)
    (m_cfg : kp .cfg = false := by assumption) (m_mode : kp .mode = false := by assumption)
    (m_safe : kp .safe = false := by assumption) (m_adc : kp .adc = false := by assumption)
    (m_wdog : kp .wdog = false := by assumption) (m_flash : kp .flash = false := by assumption) :
    KeptR kp s0 (execSwapGun via s) := by
  unfold execSwapGun
  simp_all

@[simp] theorem execCancel_kept {kp : Part → Bool} {s0 : State} (via : Path) (s : State) (hk0 : Kept kp s0 s)
    (m_mem : kp .mem = false := by assumption) (m_evq : kp .evq = false := by assumption)
    (m_trace : kp .trace = false := by assumption) (m_bus : kp .bus = false := by assumption)
    (m_cfg : kp .cfg = false := by assumption) (m_mode : kp .mode = false := by assumption)
    (m_safe : kp .safe = false := by assumption) (m_adc : kp .adc = false := by assumption)
    (m_wdog : kp .wdog = false := by assumption) (m_flash : kp .flash = false := by assumption) :
    KeptR kp s0 (execCancel via s) := by
  unfold execCancel
  simp_all

@[simp] theorem execCommit_kept {kp : Part → Bool} {s0 : State} (via : Path) (s : State) (hk0 : Kept kp s0 s)
    (m_mem : kp .mem = false := by assumption) (m_evq : kp .evq = false := by assumption)
    (m_trace : kp .trace = false := by assumption) (m_bus : kp .bus = false := by assumption)
    (m_cfg : kp .cfg = false := by assumption) (m_mode : kp .mode = false := by assumption)
    (m_safe : kp .safe = false := by assumption) (m_adc : kp .adc = false := by assumption)
    (m_wdog : kp .wdog = false := by assumption) (m_flash : kp .flash = false := by assumption) :
    KeptR kp s0 (execCommit via s) := by
  unfold execCommit
  simp_all

@[simp] theorem execCfgCtrlMulti_kept {kp : Part → Bool} {s0 : State} (via : Path) (w : Word) (s : State)
    (hk0 : Kept kp s0 s)
    (m_mem : kp .mem = false := by assumption) (m_evq : kp .evq = false := by assumption)
    (m_trace : kp .trace = false := by assumption) (m_bus : kp .bus = false := by assumption)
    (m_cfg : kp .cfg = false := by assumption) (m_mode : kp .mode = false := by assumption)
    (m_safe : kp .safe = false := by assumption) (m_adc : kp .adc = false := by assumption)
    (m_wdog : kp .wdog = false := by assumption) (m_flash : kp .flash = false := by assumption) :
    KeptR kp s0 (execCfgCtrlMulti via w s) := by
  unfold execCfgCtrlMulti
  simp_all

@[simp] theorem execClaimLapse_kept {kp : Part → Bool} {s0 : State} (s : State) (hk0 : Kept kp s0 s)
    (m_time : kp .time = false := by assumption) (m_evq : kp .evq = false := by assumption)
    (m_trace : kp .trace = false := by assumption) (m_cfg : kp .cfg = false := by assumption) :
    KeptR kp s0 (execClaimLapse s) := by
  unfold execClaimLapse
  dsimp only
  repeat' split
  all_goals simp_all

@[simp] theorem execCfgDataRead_kept {kp : Part → Bool} {s0 : State} (via : Path) (s : State) (hk0 : Kept kp s0 s)
    (m_mem : kp .mem = false := by assumption) (m_evq : kp .evq = false := by assumption)
    (m_trace : kp .trace = false := by assumption) (m_bus : kp .bus = false := by assumption)
    (m_cfg : kp .cfg = false := by assumption) :
    KeptR kp s0 (execCfgDataRead via s) := by
  unfold execCfgDataRead
  simp_all

@[simp] theorem execCfgDataWrite_kept {kp : Part → Bool} {s0 : State} (via : Path) (w : Word) (s : State)
    (hk0 : Kept kp s0 s)
    (m_mem : kp .mem = false := by assumption) (m_evq : kp .evq = false := by assumption)
    (m_trace : kp .trace = false := by assumption) (m_bus : kp .bus = false := by assumption)
    (m_cfg : kp .cfg = false := by assumption) (m_mode : kp .mode = false := by assumption)
    (m_safe : kp .safe = false := by assumption) (m_field : kp .field = false := by assumption)
    (m_health : kp .health = false := by assumption) (m_adc : kp .adc = false := by assumption)
    (m_wdog : kp .wdog = false := by assumption) :
    KeptR kp s0 (execCfgDataWrite via w s) := by
  unfold execCfgDataWrite
  simp_all

@[simp] theorem portWrite_kept {kp : Part → Bool} {s0 : State} (s : State) (via : Path) (t : Nat) (w : Nat)
    (x : Word) (hk0 : Kept kp s0 s)
    (m_mem : kp .mem = false := by assumption) (m_evq : kp .evq = false := by assumption)
    (m_trace : kp .trace = false := by assumption) (m_bus : kp .bus = false := by assumption)
    (m_cfg : kp .cfg = false := by assumption) (m_mode : kp .mode = false := by assumption)
    (m_safe : kp .safe = false := by assumption) (m_field : kp .field = false := by assumption)
    (m_health : kp .health = false := by assumption) (m_adc : kp .adc = false := by assumption)
    (m_wdog : kp .wdog = false := by assumption) :
    Kept kp s0 (portWrite s via t w x) := by
  unfold portWrite
  repeat' first
    | intro x
    | (with_reducible refine served_kept _ _ _ ?_ ?_)
    | split
  all_goals simp_all

@[simp] theorem execSlLoad_kept {kp : Part → Bool} {s0 : State} (via : Path) (s : State) (hk0 : Kept kp s0 s)
    (m_mem : kp .mem = false := by assumption) (m_evq : kp .evq = false := by assumption)
    (m_trace : kp .trace = false := by assumption) (m_bus : kp .bus = false := by assumption)
    (m_cfg : kp .cfg = false := by assumption) (m_mode : kp .mode = false := by assumption)
    (m_safe : kp .safe = false := by assumption) (m_field : kp .field = false := by assumption)
    (m_health : kp .health = false := by assumption) (m_adc : kp .adc = false := by assumption)
    (m_wdog : kp .wdog = false := by assumption) :
    KeptR kp s0 (execSlLoad via s) := by
  unfold execSlLoad
  simp_all

@[simp] theorem execSlCancel_kept {kp : Part → Bool} {s0 : State} (via : Path) (s : State) (hk0 : Kept kp s0 s)
    (m_mem : kp .mem = false := by assumption) (m_evq : kp .evq = false := by assumption)
    (m_trace : kp .trace = false := by assumption) (m_bus : kp .bus = false := by assumption)
    (m_cfg : kp .cfg = false := by assumption) (m_mode : kp .mode = false := by assumption)
    (m_safe : kp .safe = false := by assumption) (m_field : kp .field = false := by assumption)
    (m_health : kp .health = false := by assumption) (m_adc : kp .adc = false := by assumption)
    (m_wdog : kp .wdog = false := by assumption) :
    KeptR kp s0 (execSlCancel via s) := by
  unfold execSlCancel
  simp_all

@[simp] theorem execSlRead_kept {kp : Part → Bool} {s0 : State} (via : Path) (s : State) (hk0 : Kept kp s0 s)
    (m_mem : kp .mem = false := by assumption) (m_evq : kp .evq = false := by assumption)
    (m_trace : kp .trace = false := by assumption) (m_bus : kp .bus = false := by assumption)
    (m_cfg : kp .cfg = false := by assumption) (m_mode : kp .mode = false := by assumption)
    (m_safe : kp .safe = false := by assumption) (m_field : kp .field = false := by assumption)
    (m_health : kp .health = false := by assumption) (m_adc : kp .adc = false := by assumption)
    (m_wdog : kp .wdog = false := by assumption) :
    KeptR kp s0 (execSlRead via s) := by
  unfold execSlRead
  simp_all

@[simp] theorem execPfSelWrite_kept {kp : Part → Bool} {s0 : State} (via : Path) (w : Word) (s : State)
    (hk0 : Kept kp s0 s)
    (m_mem : kp .mem = false := by assumption) (m_evq : kp .evq = false := by assumption)
    (m_trace : kp .trace = false := by assumption) (m_bus : kp .bus = false := by assumption)
    (m_cfg : kp .cfg = false := by assumption) (m_mode : kp .mode = false := by assumption)
    (m_safe : kp .safe = false := by assumption) (m_field : kp .field = false := by assumption)
    (m_health : kp .health = false := by assumption) (m_adc : kp .adc = false := by assumption)
    (m_wdog : kp .wdog = false := by assumption) :
    KeptR kp s0 (execPfSelWrite via w s) := by
  unfold execPfSelWrite
  simp_all

@[simp] theorem execReplClr_kept {kp : Part → Bool} {s0 : State} (via : Path) (w : Word) (s : State)
    (hk0 : Kept kp s0 s)
    (m_mem : kp .mem = false := by assumption) (m_evq : kp .evq = false := by assumption)
    (m_trace : kp .trace = false := by assumption) (m_bus : kp .bus = false := by assumption)
    (m_cfg : kp .cfg = false := by assumption) (m_mode : kp .mode = false := by assumption)
    (m_safe : kp .safe = false := by assumption) (m_field : kp .field = false := by assumption)
    (m_health : kp .health = false := by assumption) (m_adc : kp .adc = false := by assumption)
    (m_wdog : kp .wdog = false := by assumption) :
    KeptR kp s0 (execReplClr via w s) := by
  unfold execReplClr
  simp_all

@[simp] theorem tblRead_kept {kp : Part → Bool} {s0 : State} (s : State) (t : Txn) (hk0 : Kept kp s0 s)
    (m_evq : kp .evq = false := by assumption) (m_trace : kp .trace = false := by assumption)
    (m_cfg : kp .cfg = false := by assumption) (m_mode : kp .mode = false := by assumption)
    (m_safe : kp .safe = false := by assumption) (m_health : kp .health = false := by assumption)
    (m_adc : kp .adc = false := by assumption) (m_wdog : kp .wdog = false := by assumption)
    (m_txn : kp .txn = false := by assumption) (m_sec : kp .sec = false := by assumption) :
    Kept kp s0 (tblRead s t) := by
  unfold tblRead
  dsimp only
  repeat' split
  all_goals simp_all

@[simp] theorem execTblRead_kept {kp : Part → Bool} {s0 : State} (bcast : Bool) (anchor : Bool) (tag : Nat)
    (s : State) (hk0 : Kept kp s0 s)
    (m_evq : kp .evq = false := by assumption) (m_trace : kp .trace = false := by assumption)
    (m_cfg : kp .cfg = false := by assumption) (m_mode : kp .mode = false := by assumption)
    (m_safe : kp .safe = false := by assumption) (m_health : kp .health = false := by assumption)
    (m_adc : kp .adc = false := by assumption) (m_wdog : kp .wdog = false := by assumption)
    (m_txn : kp .txn = false := by assumption) (m_sec : kp .sec = false := by assumption)
    (m_ser : kp .ser = false := by assumption) :
    KeptR kp s0 (execTblRead bcast anchor tag s) := by
  unfold execTblRead
  simp_all

@[simp] theorem tblWords_kept {kp : Part → Bool} {s0 : State} (s : State) (t : Nat) (w : Nat) (n : Nat)
    (l : List Word) (hk0 : Kept kp s0 s)
    (m_evq : kp .evq = false := by assumption) (m_trace : kp .trace = false := by assumption)
    (m_cfg : kp .cfg = false := by assumption) (m_field : kp .field = false := by assumption)
    (m_health : kp .health = false := by assumption) :
    Kept kp s0 (tblWords s t w n l).1 := by
  induction l generalizing s w n with
  | nil => exact hk0
  | cons x r ih =>
    have h := shadowWrite_kept s .line t w x hk0
    unfold tblWords
    dsimp only
    split
    · exact ih _ _ _ h
    · exact h

@[simp] theorem tblWrite_kept {kp : Part → Bool} {s0 : State} (s : State) (t : Txn) (hk0 : Kept kp s0 s)
    (m_evq : kp .evq = false := by assumption) (m_trace : kp .trace = false := by assumption)
    (m_cfg : kp .cfg = false := by assumption) (m_mode : kp .mode = false := by assumption)
    (m_safe : kp .safe = false := by assumption) (m_field : kp .field = false := by assumption)
    (m_health : kp .health = false := by assumption) (m_adc : kp .adc = false := by assumption)
    (m_wdog : kp .wdog = false := by assumption) (m_txn : kp .txn = false := by assumption)
    (m_sec : kp .sec = false := by assumption) :
    Kept kp s0 (tblWrite s t) := by
  unfold tblWrite
  dsimp only
  repeat' split
  all_goals simp_all (maxDischargeDepth := 9)

@[simp] theorem execTblWrite_kept {kp : Part → Bool} {s0 : State} (bcast : Bool) (anchor : Bool) (tag : Nat)
    (s : State) (hk0 : Kept kp s0 s)
    (m_evq : kp .evq = false := by assumption) (m_trace : kp .trace = false := by assumption)
    (m_cfg : kp .cfg = false := by assumption) (m_mode : kp .mode = false := by assumption)
    (m_safe : kp .safe = false := by assumption) (m_field : kp .field = false := by assumption)
    (m_health : kp .health = false := by assumption) (m_adc : kp .adc = false := by assumption)
    (m_wdog : kp .wdog = false := by assumption) (m_txn : kp .txn = false := by assumption)
    (m_sec : kp .sec = false := by assumption) (m_ser : kp .ser = false := by assumption) :
    KeptR kp s0 (execTblWrite bcast anchor tag s) := by
  unfold execTblWrite
  simp_all

@[simp] theorem cfgOwn_kept {kp : Part → Bool} {s0 : State} (s : State) (t : Txn) (hk0 : Kept kp s0 s)
    (m_evq : kp .evq = false := by assumption) (m_trace : kp .trace = false := by assumption)
    (m_cfg : kp .cfg = false := by assumption) (m_mode : kp .mode = false := by assumption)
    (m_safe : kp .safe = false := by assumption) (m_health : kp .health = false := by assumption)
    (m_adc : kp .adc = false := by assumption) (m_wdog : kp .wdog = false := by assumption)
    (m_txn : kp .txn = false := by assumption) (m_sec : kp .sec = false := by assumption) :
    Kept kp s0 (cfgOwn s t) := by
  unfold cfgOwn
  dsimp only
  repeat' split
  all_goals simp_all (maxDischargeDepth := 9)

@[simp] theorem execCfgOwnQuery_kept {kp : Part → Bool} {s0 : State} (bcast : Bool) (anchor : Bool) (tag : Nat)
    (s : State) (hk0 : Kept kp s0 s)
    (m_evq : kp .evq = false := by assumption) (m_trace : kp .trace = false := by assumption)
    (m_cfg : kp .cfg = false := by assumption) (m_mode : kp .mode = false := by assumption)
    (m_safe : kp .safe = false := by assumption) (m_health : kp .health = false := by assumption)
    (m_adc : kp .adc = false := by assumption) (m_wdog : kp .wdog = false := by assumption)
    (m_txn : kp .txn = false := by assumption) (m_sec : kp .sec = false := by assumption)
    (m_ser : kp .ser = false := by assumption) :
    KeptR kp s0 (execCfgOwnQuery bcast anchor tag s) := by
  unfold execCfgOwnQuery
  simp_all

@[simp] theorem swapSets_kept {kp : Part → Bool} {s0 : State} (s : State) (hk0 : Kept kp s0 s)
    (m_cfg : kp .cfg = false := by assumption) :
    Kept kp s0 (swapSets s) := by
  unfold swapSets
  simp_all

@[simp] theorem swapChan_kept {kp : Part → Bool} {s0 : State} (s : State) (n : Nat) (hk0 : Kept kp s0 s)
    (m_evq : kp .evq = false := by assumption) (m_trace : kp .trace = false := by assumption)
    (m_field : kp .field = false := by assumption) (m_panel : kp .panel = false := by assumption) :
    Kept kp s0 (swapChan s n) := by
  unfold swapChan
  dsimp only
  repeat' split
  all_goals simp_all (maxDischargeDepth := 9)

@[simp] theorem swapKind2_kept {kp : Part → Bool} {s0 : State} (s : State) (old : List WCell) (hk0 : Kept kp s0 s)
    (m_field : kp .field = false := by assumption) :
    Kept kp s0 (swapKind2 s old) := by
  unfold swapKind2
  simp_all

@[simp] theorem swapEdge_kept {kp : Part → Bool} {s0 : State} (s : State) (n : Nat)
    (hk0 : Kept kp s0 s)
    (m_field : kp .field = false := by assumption) :
    Kept kp s0 (swapEdge s n) := by
  unfold swapEdge
  try dsimp only
  repeat' split
  all_goals simp_all (maxDischargeDepth := 9)

@[simp] theorem swapField_kept {kp : Part → Bool} {s0 : State} (s : State) (old : List WCell) (hk0 : Kept kp s0 s)
    (m_evq : kp .evq = false := by assumption) (m_trace : kp .trace = false := by assumption)
    (m_field : kp .field = false := by assumption) (m_panel : kp .panel = false := by assumption) :
    Kept kp s0 (swapField s old) := by
  unfold swapField
  simp_all (maxDischargeDepth := 9)

@[simp] theorem swapAdc_kept {kp : Part → Bool} {s0 : State} (s : State) (old : List WCell) (hk0 : Kept kp s0 s)
    (m_evq : kp .evq = false := by assumption) (m_trace : kp .trace = false := by assumption)
    (m_adc : kp .adc = false := by assumption) :
    Kept kp s0 (swapAdc s old) := by
  unfold swapAdc
  dsimp only
  repeat' split
  all_goals simp_all (maxDischargeDepth := 9)

@[simp] theorem swapXip_kept {kp : Part → Bool} {s0 : State} (s : State) (hk0 : Kept kp s0 s)
    (m_bus : kp .bus = false := by assumption) (m_ser : kp .ser = false := by assumption) :
    Kept kp s0 (swapXip s) := by
  unfold swapXip
  repeat' split
  all_goals simp_all

@[simp] theorem swapPanel_kept {kp : Part → Bool} {s0 : State} (s : State) (old : List WCell) (hk0 : Kept kp s0 s)
    (m_evq : kp .evq = false := by assumption) (m_trace : kp .trace = false := by assumption)
    (m_field : kp .field = false := by assumption) (m_panel : kp .panel = false := by assumption) :
    Kept kp s0 (swapPanel s old) := by
  unfold swapPanel
  dsimp only
  repeat' split
  all_goals simp_all

@[simp] theorem swapUnits_kept {kp : Part → Bool} {s0 : State} (s : State) (old : List WCell) (hk0 : Kept kp s0 s)
    (m_cyc : kp .cyc = false := by assumption) (m_evq : kp .evq = false := by assumption)
    (m_trace : kp .trace = false := by assumption) (m_bus : kp .bus = false := by assumption)
    (m_mode : kp .mode = false := by assumption) (m_safe : kp .safe = false := by assumption)
    (m_field : kp .field = false := by assumption) (m_health : kp .health = false := by assumption)
    (m_adc : kp .adc = false := by assumption) (m_panel : kp .panel = false := by assumption)
    (m_wdog : kp .wdog = false := by assumption) (m_link : kp .link = false := by assumption)
    (m_sta : kp .sta = false := by assumption) (m_ser : kp .ser = false := by assumption) :
    Kept kp s0 (swapUnits s old) := by
  unfold swapUnits
  repeat' first
    | (with_reducible assumption)
    | (with_reducible refine relCheck_kept _ _ ?_)
    | (with_reducible refine refresh_kept _ ?_)
    | (with_reducible refine wdhCheck_kept _ ?_)
    | (with_reducible refine healthEval_kept _ ?_)
    | (with_reducible refine swapXip_kept _ ?_)
    | (with_reducible refine swapPanel_kept _ _ ?_)
    | (with_reducible refine swapAdc_kept _ _ ?_)
    | (with_reducible refine swapField_kept _ _ ?_)
    | (with_reducible refine latchAtSwap_kept _ ?_)
    | (with_reducible refine cycleRestart_kept _ ?_)
    | (with_reducible refine applyEnables_kept _ ?_)
    | (with_reducible refine loadGeo_kept _ ?_)
    | split

@[simp] theorem swapFire_kept {kp : Part → Bool} {s0 : State} (s : State) (hk0 : Kept kp s0 s)
    (m_cyc : kp .cyc = false := by assumption) (m_evq : kp .evq = false := by assumption)
    (m_trace : kp .trace = false := by assumption) (m_bus : kp .bus = false := by assumption)
    (m_cfg : kp .cfg = false := by assumption) (m_mode : kp .mode = false := by assumption)
    (m_safe : kp .safe = false := by assumption) (m_field : kp .field = false := by assumption)
    (m_health : kp .health = false := by assumption) (m_adc : kp .adc = false := by assumption)
    (m_panel : kp .panel = false := by assumption) (m_wdog : kp .wdog = false := by assumption)
    (m_link : kp .link = false := by assumption) (m_txn : kp .txn = false := by assumption)
    (m_sta : kp .sta = false := by assumption) (m_ser : kp .ser = false := by assumption)
    (m_flash : kp .flash = false := by assumption) :
    Kept kp s0 (swapFire s) := by
  unfold swapFire
  dsimp only
  repeat' split
  all_goals simp_all (maxDischargeDepth := 9)

@[simp] theorem execSwapInstant_kept {kp : Part → Bool} {s0 : State} (s : State) (hk0 : Kept kp s0 s)
    (m_time : kp .time = false := by assumption) (m_cyc : kp .cyc = false := by assumption)
    (m_evq : kp .evq = false := by assumption) (m_trace : kp .trace = false := by assumption)
    (m_bus : kp .bus = false := by assumption) (m_cfg : kp .cfg = false := by assumption)
    (m_mode : kp .mode = false := by assumption) (m_safe : kp .safe = false := by assumption)
    (m_field : kp .field = false := by assumption) (m_health : kp .health = false := by assumption)
    (m_adc : kp .adc = false := by assumption) (m_panel : kp .panel = false := by assumption)
    (m_wdog : kp .wdog = false := by assumption) (m_link : kp .link = false := by assumption)
    (m_txn : kp .txn = false := by assumption) (m_sta : kp .sta = false := by assumption)
    (m_ser : kp .ser = false := by assumption) (m_flash : kp .flash = false := by assumption) :
    KeptR kp s0 (execSwapInstant s) := by
  unfold execSwapInstant
  repeat' split
  all_goals simp_all

@[simp] theorem discardArmed_kept {kp : Part → Bool} {s0 : State} (s : State) (hk0 : Kept kp s0 s)
    (m_evq : kp .evq = false := by assumption) (m_trace : kp .trace = false := by assumption)
    (m_cfg : kp .cfg = false := by assumption) :
    Kept kp s0 (discardArmed s) := by
  unfold discardArmed
  repeat' split
  all_goals simp_all

/-! ### Instants -/

@[simp] theorem swapFirst_kept {kp : Part → Bool} {s0 : State} (s : State)
    (hk0 : Kept kp s0 s)
    (m_cyc : kp .cyc = false := by assumption) (m_evq : kp .evq = false := by assumption)
    (m_trace : kp .trace = false := by assumption) (m_bus : kp .bus = false := by assumption)
    (m_cfg : kp .cfg = false := by assumption) (m_mode : kp .mode = false := by assumption)
    (m_safe : kp .safe = false := by assumption) (m_field : kp .field = false := by assumption)
    (m_health : kp .health = false := by assumption) (m_adc : kp .adc = false := by assumption)
    (m_panel : kp .panel = false := by assumption) (m_wdog : kp .wdog = false := by assumption)
    (m_link : kp .link = false := by assumption) (m_txn : kp .txn = false := by assumption)
    (m_sta : kp .sta = false := by assumption) (m_ser : kp .ser = false := by assumption)
    (m_flash : kp .flash = false := by assumption) :
    Kept kp s0 (swapFirst s) := by
  unfold swapFirst
  try dsimp only
  repeat' split
  all_goals simp_all (maxDischargeDepth := 9)

@[simp] theorem sampleIfDue_kept {kp : Part → Bool} {s0 : State} (s : State) (readings : List Word)
    (hk0 : Kept kp s0 s)
    (m_cyc : kp .cyc = false := by assumption) (m_field : kp .field = false := by assumption)
    (m_adc : kp .adc = false := by assumption) :
    Kept kp s0 (sampleIfDue s readings) := by
  unfold sampleIfDue
  try dsimp only
  repeat' split
  all_goals simp_all (maxDischargeDepth := 9)

@[simp] theorem applyIfDue_kept {kp : Part → Bool} {s0 : State} (s : State)
    (hk0 : Kept kp s0 s)
    (m_cyc : kp .cyc = false := by assumption) (m_evq : kp .evq = false := by assumption)
    (m_trace : kp .trace = false := by assumption) (m_mode : kp .mode = false := by assumption)
    (m_safe : kp .safe = false := by assumption) (m_field : kp .field = false := by assumption)
    (m_inj : kp .inj = false := by assumption) (m_adc : kp .adc = false := by assumption)
    (m_panel : kp .panel = false := by assumption) (m_wdog : kp .wdog = false := by assumption)
    (m_link : kp .link = false := by assumption) (m_upd : kp .upd = false := by assumption) :
    Kept kp s0 (applyIfDue s) := by
  unfold applyIfDue
  try dsimp only
  repeat' split
  all_goals simp_all (maxDischargeDepth := 9)

@[simp] theorem execSampleInstant_kept {kp : Part → Bool} {s0 : State} (readings : List Word) (s : State)
    (hk0 : Kept kp s0 s)
    (m_time : kp .time = false := by assumption) (m_cyc : kp .cyc = false := by assumption)
    (m_evq : kp .evq = false := by assumption) (m_trace : kp .trace = false := by assumption)
    (m_bus : kp .bus = false := by assumption) (m_cfg : kp .cfg = false := by assumption)
    (m_mode : kp .mode = false := by assumption) (m_safe : kp .safe = false := by assumption)
    (m_field : kp .field = false := by assumption) (m_health : kp .health = false := by assumption)
    (m_adc : kp .adc = false := by assumption) (m_panel : kp .panel = false := by assumption)
    (m_wdog : kp .wdog = false := by assumption) (m_link : kp .link = false := by assumption)
    (m_txn : kp .txn = false := by assumption) (m_sta : kp .sta = false := by assumption)
    (m_ser : kp .ser = false := by assumption) (m_flash : kp .flash = false := by assumption) :
    KeptR kp s0 (execSampleInstant readings s) := by
  unfold execSampleInstant
  try dsimp only
  repeat' split
  all_goals simp_all (maxDischargeDepth := 15)

@[simp] theorem execSnapshotReady_kept {kp : Part → Bool} {s0 : State} (s : State) (hk0 : Kept kp s0 s)
    (m_cyc : kp .cyc = false := by assumption) :
    KeptR kp s0 (execSnapshotReady s) := by
  unfold execSnapshotReady
  simp_all

@[simp] theorem execApplyInstant_kept {kp : Part → Bool} {s0 : State} (readings : List Word) (s : State)
    (hk0 : Kept kp s0 s)
    (m_time : kp .time = false := by assumption) (m_cyc : kp .cyc = false := by assumption)
    (m_evq : kp .evq = false := by assumption) (m_trace : kp .trace = false := by assumption)
    (m_bus : kp .bus = false := by assumption) (m_cfg : kp .cfg = false := by assumption)
    (m_mode : kp .mode = false := by assumption) (m_safe : kp .safe = false := by assumption)
    (m_field : kp .field = false := by assumption) (m_health : kp .health = false := by assumption)
    (m_inj : kp .inj = false := by assumption) (m_adc : kp .adc = false := by assumption)
    (m_panel : kp .panel = false := by assumption) (m_wdog : kp .wdog = false := by assumption)
    (m_link : kp .link = false := by assumption) (m_txn : kp .txn = false := by assumption)
    (m_sta : kp .sta = false := by assumption) (m_ser : kp .ser = false := by assumption)
    (m_upd : kp .upd = false := by assumption) (m_flash : kp .flash = false := by assumption) :
    KeptR kp s0 (execApplyInstant s readings) := by
  unfold execApplyInstant
  try dsimp only
  repeat' split
  all_goals simp_all (maxDischargeDepth := 9)

@[simp] theorem execSlGate_kept {kp : Part → Bool} {s0 : State} (n : Nat) (slot : Nat) (s : State) (hk0 : Kept kp s0 s)
    (m_time : kp .time = false := by assumption) (m_cyc : kp .cyc = false := by assumption)
    (m_evq : kp .evq = false := by assumption) (m_trace : kp .trace = false := by assumption)
    (m_bus : kp .bus = false := by assumption) (m_cfg : kp .cfg = false := by assumption)
    (m_mode : kp .mode = false := by assumption) (m_safe : kp .safe = false := by assumption)
    (m_field : kp .field = false := by assumption) (m_health : kp .health = false := by assumption)
    (m_inj : kp .inj = false := by assumption) (m_adc : kp .adc = false := by assumption)
    (m_panel : kp .panel = false := by assumption) (m_wdog : kp .wdog = false := by assumption)
    (m_link : kp .link = false := by assumption) (m_txn : kp .txn = false := by assumption)
    (m_sta : kp .sta = false := by assumption) (m_ser : kp .ser = false := by assumption)
    (m_upd : kp .upd = false := by assumption) (m_flash : kp .flash = false := by assumption) :
    KeptR kp s0 (execSlGate n slot s) := by
  unfold execSlGate
  repeat' first
    | (intro x; refine Kept.cut (kp := kp) (s0 := s0) (x := x) ?_ ?_; subst x; rotate_left; clear_value x; intro hx; rotate_right)
    | intro x
    | lift_lets
    | split
  all_goals simp_all

/-! ### Time -/

@[simp] theorem moveTime_kept {kp : Part → Bool} {s0 : State} (s : State) (o : Int) (hk0 : Kept kp s0 s)
    (m_time : kp .time = false := by assumption) (m_field : kp .field = false := by assumption) :
    Kept kp s0 (moveTime s o) := by
  unfold moveTime
  simp_all

@[simp] theorem postStep_kept {kp : Part → Bool} {s0 : State} (s : State) (o : Int) (hk0 : Kept kp s0 s)
    (m_evq : kp .evq = false := by assumption) (m_trace : kp .trace = false := by assumption) :
    Kept kp s0 (postStep s o) := by
  unfold postStep
  simp_all

@[simp] theorem fireSkipped_kept {kp : Part → Bool} {s0 : State} (n : Nat) (readings : List Word) (s : State)
    (hk0 : Kept kp s0 s)
    (m_cyc : kp .cyc = false := by assumption) (m_evq : kp .evq = false := by assumption)
    (m_trace : kp .trace = false := by assumption) (m_bus : kp .bus = false := by assumption)
    (m_cfg : kp .cfg = false := by assumption) (m_mode : kp .mode = false := by assumption)
    (m_safe : kp .safe = false := by assumption) (m_field : kp .field = false := by assumption)
    (m_health : kp .health = false := by assumption) (m_inj : kp .inj = false := by assumption)
    (m_adc : kp .adc = false := by assumption) (m_panel : kp .panel = false := by assumption)
    (m_wdog : kp .wdog = false := by assumption) (m_link : kp .link = false := by assumption)
    (m_txn : kp .txn = false := by assumption) (m_sta : kp .sta = false := by assumption)
    (m_ser : kp .ser = false := by assumption) (m_upd : kp .upd = false := by assumption)
    (m_flash : kp .flash = false := by assumption) :
    Kept kp s0 (fireSkipped n readings s) := by
  induction n generalizing s with
  | zero => exact hk0
  | succ k ih =>
    unfold fireSkipped
    dsimp only
    repeat' split
    all_goals first
      | exact hk0
      | exact ih _ (swapFire_kept _ hk0)
      | exact ih _ (fireSample_kept _ _ hk0)
      | exact ih _ (fireApply_kept _ hk0)

@[simp] theorem gateSkipped_kept {kp : Part → Bool} {s0 : State} (s : State) (hk0 : Kept kp s0 s)
    (m_evq : kp .evq = false := by assumption) (m_trace : kp .trace = false := by assumption)
    (m_field : kp .field = false := by assumption) :
    Kept kp s0 (gateSkipped s) := by
  unfold gateSkipped
  try dsimp only
  repeat' split
  all_goals simp_all (maxDischargeDepth := 15)

@[simp] theorem injSkipped_kept {kp : Part → Bool} {s0 : State} (s : State)
    (hk0 : Kept kp s0 s)
    (m_adc : kp .adc = false := by assumption) :
    Kept kp s0 (injSkipped s) := by
  unfold injSkipped
  try dsimp only
  repeat' split
  all_goals simp_all (maxDischargeDepth := 9)

@[simp] theorem fireAll_kept {kp : Part → Bool} {s0 : State} (o : Int) (readings : List Word) (s : State)
    (hk0 : Kept kp s0 s)
    (m_cyc : kp .cyc = false := by assumption) (m_evq : kp .evq = false := by assumption)
    (m_trace : kp .trace = false := by assumption) (m_bus : kp .bus = false := by assumption)
    (m_cfg : kp .cfg = false := by assumption) (m_mode : kp .mode = false := by assumption)
    (m_safe : kp .safe = false := by assumption) (m_field : kp .field = false := by assumption)
    (m_health : kp .health = false := by assumption) (m_inj : kp .inj = false := by assumption)
    (m_adc : kp .adc = false := by assumption) (m_panel : kp .panel = false := by assumption)
    (m_wdog : kp .wdog = false := by assumption) (m_link : kp .link = false := by assumption)
    (m_txn : kp .txn = false := by assumption) (m_sta : kp .sta = false := by assumption)
    (m_ser : kp .ser = false := by assumption) (m_upd : kp .upd = false := by assumption)
    (m_flash : kp .flash = false := by assumption) :
    Kept kp s0 (fireAll o readings s) := by
  unfold fireAll
  try dsimp only
  repeat' split
  all_goals simp_all (maxDischargeDepth := 9)

@[simp] theorem reindex_kept {kp : Part → Bool} {s0 : State} (s : State)
    (hk0 : Kept kp s0 s)
    (m_cyc : kp .cyc = false := by assumption) (m_adc : kp .adc = false := by assumption) :
    Kept kp s0 (reindex s) := by
  unfold reindex
  try dsimp only
  repeat' split
  all_goals simp_all (maxDischargeDepth := 9)

@[simp] theorem stepTime_kept {kp : Part → Bool} {s0 : State} (s : State) (o : Int) (readings : List Word)
    (hk0 : Kept kp s0 s)
    (m_time : kp .time = false := by assumption) (m_cyc : kp .cyc = false := by assumption)
    (m_evq : kp .evq = false := by assumption) (m_trace : kp .trace = false := by assumption)
    (m_bus : kp .bus = false := by assumption) (m_cfg : kp .cfg = false := by assumption)
    (m_mode : kp .mode = false := by assumption) (m_safe : kp .safe = false := by assumption)
    (m_field : kp .field = false := by assumption) (m_health : kp .health = false := by assumption)
    (m_inj : kp .inj = false := by assumption) (m_adc : kp .adc = false := by assumption)
    (m_panel : kp .panel = false := by assumption) (m_wdog : kp .wdog = false := by assumption)
    (m_link : kp .link = false := by assumption) (m_txn : kp .txn = false := by assumption)
    (m_sta : kp .sta = false := by assumption) (m_ser : kp .ser = false := by assumption)
    (m_upd : kp .upd = false := by assumption) (m_flash : kp .flash = false := by assumption) :
    Kept kp s0 (stepTime s o readings) := by
  unfold stepTime
  try dsimp only
  repeat' split
  all_goals simp_all (maxDischargeDepth := 9)

@[simp] theorem stepEpoch_kept {kp : Part → Bool} {s0 : State} (s : State) (o : Int) (readings : List Word)
    (hk0 : Kept kp s0 s)
    (m_time : kp .time = false := by assumption) (m_cyc : kp .cyc = false := by assumption)
    (m_evq : kp .evq = false := by assumption) (m_trace : kp .trace = false := by assumption)
    (m_bus : kp .bus = false := by assumption) (m_cfg : kp .cfg = false := by assumption)
    (m_mode : kp .mode = false := by assumption) (m_safe : kp .safe = false := by assumption)
    (m_field : kp .field = false := by assumption) (m_health : kp .health = false := by assumption)
    (m_inj : kp .inj = false := by assumption) (m_adc : kp .adc = false := by assumption)
    (m_panel : kp .panel = false := by assumption) (m_wdog : kp .wdog = false := by assumption)
    (m_link : kp .link = false := by assumption) (m_txn : kp .txn = false := by assumption)
    (m_sta : kp .sta = false := by assumption) (m_ser : kp .ser = false := by assumption)
    (m_upd : kp .upd = false := by assumption) (m_flash : kp .flash = false := by assumption) :
    Kept kp s0 (stepEpoch s o readings) := by
  unfold stepEpoch
  try dsimp only
  repeat' split
  all_goals simp_all (maxDischargeDepth := 9)

@[simp] theorem epochDiscard_kept {kp : Part → Bool} {s0 : State} (s : State) (hk0 : Kept kp s0 s)
    (m_time : kp .time = false := by assumption) (m_evq : kp .evq = false := by assumption)
    (m_trace : kp .trace = false := by assumption) (m_cfg : kp .cfg = false := by assumption)
    (m_field : kp .field = false := by assumption) :
    Kept kp s0 (epochDiscard s) := by
  unfold epochDiscard
  simp_all (maxDischargeDepth := 9)

@[simp] theorem epochChange_kept {kp : Part → Bool} {s0 : State} (s : State) (e : Nat) (hk0 : Kept kp s0 s)
    (m_time : kp .time = false := by assumption) (m_evq : kp .evq = false := by assumption)
    (m_trace : kp .trace = false := by assumption) (m_cfg : kp .cfg = false := by assumption)
    (m_field : kp .field = false := by assumption) :
    Kept kp s0 (epochChange s e) := by
  unfold epochChange
  simp_all (maxDischargeDepth := 9)

@[simp] theorem applyMean_kept {kp : Part → Bool} {s0 : State} (s : State) (readings : List Word) (hk0 : Kept kp s0 s)
    (m_time : kp .time = false := by assumption) (m_cyc : kp .cyc = false := by assumption)
    (m_evq : kp .evq = false := by assumption) (m_trace : kp .trace = false := by assumption)
    (m_bus : kp .bus = false := by assumption) (m_cfg : kp .cfg = false := by assumption)
    (m_mode : kp .mode = false := by assumption) (m_safe : kp .safe = false := by assumption)
    (m_field : kp .field = false := by assumption) (m_health : kp .health = false := by assumption)
    (m_inj : kp .inj = false := by assumption) (m_adc : kp .adc = false := by assumption)
    (m_panel : kp .panel = false := by assumption) (m_wdog : kp .wdog = false := by assumption)
    (m_link : kp .link = false := by assumption) (m_txn : kp .txn = false := by assumption)
    (m_sta : kp .sta = false := by assumption) (m_ser : kp .ser = false := by assumption)
    (m_upd : kp .upd = false := by assumption) (m_flash : kp .flash = false := by assumption) :
    Kept kp s0 (applyMean s readings) := by
  unfold applyMean
  repeat' first
    | intro x
    | lift_lets
    | (with_reducible refine withTimeOk_kept _ _ ?_ ?_)
    | (with_reducible refine seeFine_kept _ ?_)
    | split
  all_goals simp_all

@[simp] theorem servo_kept {kp : Part → Bool} {s0 : State} (s : State) (o : Int) (c : Int) (readings : List Word)
    (hk0 : Kept kp s0 s)
    (m_time : kp .time = false := by assumption) (m_cyc : kp .cyc = false := by assumption)
    (m_evq : kp .evq = false := by assumption) (m_trace : kp .trace = false := by assumption)
    (m_bus : kp .bus = false := by assumption) (m_cfg : kp .cfg = false := by assumption)
    (m_mode : kp .mode = false := by assumption) (m_safe : kp .safe = false := by assumption)
    (m_field : kp .field = false := by assumption) (m_health : kp .health = false := by assumption)
    (m_inj : kp .inj = false := by assumption) (m_adc : kp .adc = false := by assumption)
    (m_panel : kp .panel = false := by assumption) (m_wdog : kp .wdog = false := by assumption)
    (m_link : kp .link = false := by assumption) (m_txn : kp .txn = false := by assumption)
    (m_sta : kp .sta = false := by assumption) (m_ser : kp .ser = false := by assumption)
    (m_upd : kp .upd = false := by assumption) (m_flash : kp .flash = false := by assumption) :
    Kept kp s0 (servo s o c readings) := by
  unfold servo
  split
  · dsimp only
    refine seeFine_kept _ (withTimeOk_kept _ _ (fun u hu => ?_) hk0)
    split
    · exact stepEpoch_kept _ _ _ (by simp [hu, m_time])
    · exact stepTime_kept _ _ _ (by simp [hu, m_time])
  · dsimp only
    split
    · simp [hk0, m_time]
    · exact applyMean_kept _ _ (by simp [hk0, m_time])

@[simp] theorem sample_kept {kp : Part → Bool} {s0 : State} (s : State) (dep : Nat) (rtt : Nat) (t2 : Nat) (t3 : Nat)
    (c : Int) (readings : List Word) (hk0 : Kept kp s0 s)
    (m_time : kp .time = false := by assumption) (m_cyc : kp .cyc = false := by assumption)
    (m_evq : kp .evq = false := by assumption) (m_trace : kp .trace = false := by assumption)
    (m_bus : kp .bus = false := by assumption) (m_cfg : kp .cfg = false := by assumption)
    (m_mode : kp .mode = false := by assumption) (m_safe : kp .safe = false := by assumption)
    (m_field : kp .field = false := by assumption) (m_health : kp .health = false := by assumption)
    (m_inj : kp .inj = false := by assumption) (m_adc : kp .adc = false := by assumption)
    (m_panel : kp .panel = false := by assumption) (m_wdog : kp .wdog = false := by assumption)
    (m_link : kp .link = false := by assumption) (m_txn : kp .txn = false := by assumption)
    (m_sta : kp .sta = false := by assumption) (m_ser : kp .ser = false := by assumption)
    (m_upd : kp .upd = false := by assumption) (m_flash : kp .flash = false := by assumption) :
    Kept kp s0 (sample s dep rtt t2 t3 c readings) := by
  unfold sample
  repeat' split
  all_goals simp_all

@[simp] theorem syncMiss_kept {kp : Part → Bool} {s0 : State} (s : State) (hk0 : Kept kp s0 s)
    (m_time : kp .time = false := by assumption) (m_evq : kp .evq = false := by assumption)
    (m_trace : kp .trace = false := by assumption) (m_sta : kp .sta = false := by assumption) :
    Kept kp s0 (syncMiss s) := by
  unfold syncMiss
  dsimp only
  repeat' split
  all_goals simp_all (maxDischargeDepth := 9)

@[simp] theorem execSyncMissInterval_kept {kp : Part → Bool} {s0 : State} (s : State) (hk0 : Kept kp s0 s)
    (m_time : kp .time = false := by assumption) (m_evq : kp .evq = false := by assumption)
    (m_trace : kp .trace = false := by assumption) (m_sta : kp .sta = false := by assumption) :
    KeptR kp s0 (execSyncMissInterval s) := by
  unfold execSyncMissInterval
  dsimp only
  repeat' split
  all_goals simp_all (maxDischargeDepth := 9)

@[simp] theorem execPllLocked_kept {kp : Part → Bool} {s0 : State} (s : State) (hk0 : Kept kp s0 s)
    (m_time : kp .time = false := by assumption) (m_evq : kp .evq = false := by assumption)
    (m_trace : kp .trace = false := by assumption) :
    KeptR kp s0 (execPllLocked s) := by
  unfold execPllLocked
  repeat' split
  all_goals simp_all

@[simp] theorem execPhaseError_kept {kp : Part → Bool} {s0 : State} (s : State) (hk0 : Kept kp s0 s)
    (m_time : kp .time = false := by assumption) (m_evq : kp .evq = false := by assumption)
    (m_trace : kp .trace = false := by assumption) :
    KeptR kp s0 (execPhaseError s) := by
  unfold execPhaseError
  repeat' split
  all_goals simp_all

@[simp] theorem execRefRange_kept {kp : Part → Bool} {s0 : State} (s : State) (hk0 : Kept kp s0 s)
    (m_time : kp .time = false := by assumption) (m_evq : kp .evq = false := by assumption)
    (m_trace : kp .trace = false := by assumption) (m_mode : kp .mode = false := by assumption) :
    KeptR kp s0 (execRefRange s) := by
  unfold execRefRange
  repeat' first
    | (intro x; refine Kept.cut (kp := kp) (s0 := s0) (x := x) ?_ ?_; subst x; rotate_left; clear_value x; intro hx; rotate_right)
    | intro x
    | lift_lets
    | (with_reducible refine withTimeOk_kept _ _ ?_ ?_)
    | split
  all_goals simp_all

@[simp] theorem preset_kept {kp : Part → Bool} {s0 : State} (s : State) (hk0 : Kept kp s0 s)
    (m_free : kp .free = false := by assumption) (m_time : kp .time = false := by assumption)
    (m_cyc : kp .cyc = false := by assumption) (m_evq : kp .evq = false := by assumption)
    (m_trace : kp .trace = false := by assumption) (m_bus : kp .bus = false := by assumption)
    (m_cfg : kp .cfg = false := by assumption) (m_mode : kp .mode = false := by assumption)
    (m_safe : kp .safe = false := by assumption) (m_field : kp .field = false := by assumption)
    (m_health : kp .health = false := by assumption) (m_inj : kp .inj = false := by assumption)
    (m_adc : kp .adc = false := by assumption) (m_panel : kp .panel = false := by assumption)
    (m_wdog : kp .wdog = false := by assumption) (m_link : kp .link = false := by assumption)
    (m_txn : kp .txn = false := by assumption) (m_sta : kp .sta = false := by assumption)
    (m_ser : kp .ser = false := by assumption) (m_upd : kp .upd = false := by assumption)
    (m_flash : kp .flash = false := by assumption) :
    Kept kp s0 (preset s) := by
  unfold preset
  dsimp only
  refine stepEpoch_kept _ _ _ (State.takeReadings_kept _ (epochDiscard_kept _ ?_))
  simp [hk0, m_time]

@[simp] theorem latchAct_kept {kp : Part → Bool} {s0 : State} (s : State) (m : Mode) (w : Word) (hk0 : Kept kp s0 s)
    (m_free : kp .free = false := by assumption) (m_time : kp .time = false := by assumption)
    (m_cyc : kp .cyc = false := by assumption) (m_evq : kp .evq = false := by assumption)
    (m_trace : kp .trace = false := by assumption) (m_bus : kp .bus = false := by assumption)
    (m_cfg : kp .cfg = false := by assumption) (m_mode : kp .mode = false := by assumption)
    (m_safe : kp .safe = false := by assumption) (m_field : kp .field = false := by assumption)
    (m_health : kp .health = false := by assumption) (m_inj : kp .inj = false := by assumption)
    (m_adc : kp .adc = false := by assumption) (m_panel : kp .panel = false := by assumption)
    (m_wdog : kp .wdog = false := by assumption) (m_link : kp .link = false := by assumption)
    (m_txn : kp .txn = false := by assumption) (m_sta : kp .sta = false := by assumption)
    (m_ser : kp .ser = false := by assumption) (m_upd : kp .upd = false := by assumption)
    (m_flash : kp .flash = false := by assumption) :
    Kept kp s0 (latchAct s m w) := by
  unfold latchAct
  dsimp only
  have h1 : Kept kp s0 (if bitOf w 2 then { s with time := { s.time with presetRef := false } } else s) :=
    Kept.ite (by simp [hk0, m_time]) hk0
  generalize (if bitOf w 2 then { s with time := { s.time with presetRef := false } } else s) = a at h1 ⊢
  have h2 : Kept kp s0 (if bitOf w 1 then
      (if presetOk a m then preset a else { a with time := { a.time with presetRef := true } }) else a) :=
    Kept.ite (Kept.ite (preset_kept _ h1) (by simp [h1, m_time])) h1
  generalize (if bitOf w 1 then
      (if presetOk a m then preset a else { a with time := { a.time with presetRef := true } }) else a) = b at h2 ⊢
  exact Kept.ite (by simp [h2, m_time]) h2

@[simp] theorem regLtimeLatch_kept {kp : Part → Bool} {s0 : State} (s : State) (v : Acc) (w : Word) (hk0 : Kept kp s0 s)
    (m_free : kp .free = false := by assumption) (m_time : kp .time = false := by assumption)
    (m_cyc : kp .cyc = false := by assumption) (m_evq : kp .evq = false := by assumption)
    (m_trace : kp .trace = false := by assumption) (m_bus : kp .bus = false := by assumption)
    (m_cfg : kp .cfg = false := by assumption) (m_mode : kp .mode = false := by assumption)
    (m_safe : kp .safe = false := by assumption) (m_field : kp .field = false := by assumption)
    (m_health : kp .health = false := by assumption) (m_inj : kp .inj = false := by assumption)
    (m_adc : kp .adc = false := by assumption) (m_panel : kp .panel = false := by assumption)
    (m_wdog : kp .wdog = false := by assumption) (m_link : kp .link = false := by assumption)
    (m_txn : kp .txn = false := by assumption) (m_sta : kp .sta = false := by assumption)
    (m_ser : kp .ser = false := by assumption) (m_upd : kp .upd = false := by assumption)
    (m_flash : kp .flash = false := by assumption) :
    Kept kp s0 (regLtimeLatch s v w).1 := by
  unfold regLtimeLatch
  simp_all

@[simp] theorem regLtime_kept {kp : Part → Bool} {s0 : State} (s : State) (v : Acc) (i : Nat) (w : Word)
    (hk0 : Kept kp s0 s)
    (m_time : kp .time = false := by assumption) (m_evq : kp .evq = false := by assumption)
    (m_trace : kp .trace = false := by assumption) (m_bus : kp .bus = false := by assumption)
    (m_mode : kp .mode = false := by assumption) (m_safe : kp .safe = false := by assumption)
    (m_adc : kp .adc = false := by assumption) (m_wdog : kp .wdog = false := by assumption) :
    Kept kp s0 (regLtime s v i w).1 := by
  unfold regLtime
  simp_all

@[simp] theorem regSyncStat_kept {kp : Part → Bool} {s0 : State} (s : State) (v : Acc) (w : Word) (hk0 : Kept kp s0 s)
    (m_time : kp .time = false := by assumption) (m_evq : kp .evq = false := by assumption)
    (m_trace : kp .trace = false := by assumption) (m_bus : kp .bus = false := by assumption)
    (m_mode : kp .mode = false := by assumption) (m_safe : kp .safe = false := by assumption)
    (m_adc : kp .adc = false := by assumption) (m_wdog : kp .wdog = false := by assumption) :
    Kept kp s0 (regSyncStat s v w).1 := by
  unfold regSyncStat
  simp_all

@[simp] theorem execLtimeLatch_kept {kp : Part → Bool} {s0 : State} (via : Path) (s : State) (hk0 : Kept kp s0 s)
    (m_free : kp .free = false := by assumption) (m_mem : kp .mem = false := by assumption)
    (m_time : kp .time = false := by assumption) (m_cyc : kp .cyc = false := by assumption)
    (m_evq : kp .evq = false := by assumption) (m_trace : kp .trace = false := by assumption)
    (m_bus : kp .bus = false := by assumption) (m_cfg : kp .cfg = false := by assumption)
    (m_mode : kp .mode = false := by assumption) (m_safe : kp .safe = false := by assumption)
    (m_field : kp .field = false := by assumption) (m_health : kp .health = false := by assumption)
    (m_inj : kp .inj = false := by assumption) (m_adc : kp .adc = false := by assumption)
    (m_panel : kp .panel = false := by assumption) (m_wdog : kp .wdog = false := by assumption)
    (m_link : kp .link = false := by assumption) (m_txn : kp .txn = false := by assumption)
    (m_sta : kp .sta = false := by assumption) (m_ser : kp .ser = false := by assumption)
    (m_upd : kp .upd = false := by assumption) (m_flash : kp .flash = false := by assumption) :
    KeptR kp s0 (execLtimeLatch via s) := by
  unfold execLtimeLatch
  simp_all

@[simp] theorem execPreset_kept {kp : Part → Bool} {s0 : State} (via : Path) (s : State) (hk0 : Kept kp s0 s)
    (m_free : kp .free = false := by assumption) (m_mem : kp .mem = false := by assumption)
    (m_time : kp .time = false := by assumption) (m_cyc : kp .cyc = false := by assumption)
    (m_evq : kp .evq = false := by assumption) (m_trace : kp .trace = false := by assumption)
    (m_bus : kp .bus = false := by assumption) (m_cfg : kp .cfg = false := by assumption)
    (m_mode : kp .mode = false := by assumption) (m_safe : kp .safe = false := by assumption)
    (m_field : kp .field = false := by assumption) (m_health : kp .health = false := by assumption)
    (m_inj : kp .inj = false := by assumption) (m_adc : kp .adc = false := by assumption)
    (m_panel : kp .panel = false := by assumption) (m_wdog : kp .wdog = false := by assumption)
    (m_link : kp .link = false := by assumption) (m_txn : kp .txn = false := by assumption)
    (m_sta : kp .sta = false := by assumption) (m_ser : kp .ser = false := by assumption)
    (m_upd : kp .upd = false := by assumption) (m_flash : kp .flash = false := by assumption) :
    KeptR kp s0 (execPreset via s) := by
  unfold execPreset
  simp_all

end Sys2Proof.Machine
end

