-- ==== Sys2Proof/Laws/KeptBoot.lean ====
section
/-! SUPPORT. KeptBoot: every operation that answers a state keeps Kept, one lemma for each, named after it.
The heats, the sessions, boot, the modes and the relay. -/

namespace Sys2Proof.Machine

open Sys2Proof

-- One proof at a time: in the package as one text, proofs checked side by side ask for too many threads.
set_option Elab.async false

/-! ### Heat -/

@[simp] theorem acceptHeat_kept {kp : Part → Bool} {s0 : State} (s : State) (b : List Byte) (c : Nat)
    (hk0 : Kept kp s0 s)
    (m_cyc : kp .cyc = false := by assumption) :
    Kept kp s0 (acceptHeat s b c) := by
  unfold acceptHeat
  dsimp only
  repeat' split
  all_goals simp_all

@[simp] theorem heatEof_kept {kp : Part → Bool} {s0 : State} (s : State) (cls : HeatClass) (late : Bool)
    (b : List Byte) (hk0 : Kept kp s0 s)
    (m_cyc : kp .cyc = false := by assumption) :
    Kept kp s0 (heatEof s cls late b) := by
  unfold heatEof
  dsimp only
  repeat' split
  all_goals simp_all

/-! ### Baton -/

@[simp] theorem batonErr_kept {kp : Part → Bool} {s0 : State} (s : State) (b : List Byte) (argx : Nat)
    (hk0 : Kept kp s0 s)
    (m_evq : kp .evq = false := by assumption) (m_trace : kp .trace = false := by assumption)
    (m_txn : kp .txn = false := by assumption) :
    Kept kp s0 (batonErr s b argx) := by
  unfold batonErr
  repeat' split
  all_goals simp_all

@[simp] theorem sentAll_kept {kp : Part → Bool} {s0 : State} (s : State) (l : List Response) (hk0 : Kept kp s0 s)
    (m_txn : kp .txn = false := by assumption) :
    Kept kp s0 (sentAll s l) := by
  induction l generalizing s with
  | nil => exact hk0
  | cons r q ih => exact ih _ (sentResponse_kept _ _ hk0)

@[simp] theorem batonEof_kept {kp : Part → Bool} {s0 : State} (s : State) (v : BatonView) (b : List Byte)
    (hk0 : Kept kp s0 s)
    (m_evq : kp .evq = false := by assumption) (m_trace : kp .trace = false := by assumption)
    (m_mode : kp .mode = false := by assumption) (m_safe : kp .safe = false := by assumption)
    (m_health : kp .health = false := by assumption) (m_adc : kp .adc = false := by assumption)
    (m_wdog : kp .wdog = false := by assumption) (m_txn : kp .txn = false := by assumption)
    (m_sec : kp .sec = false := by assumption) :
    Kept kp s0 (batonEof s v b) := by
  unfold batonEof
  repeat' split
  all_goals simp_all

/-! ### Bundle -/

@[simp] theorem State.setSlot_kept {kp : Part → Bool} {s0 : State} (s : State) (b : Bool) (p : Nat) (x : Option Slot)
    (hk0 : Kept kp s0 s)
    (m_upd : kp .upd = false := by assumption) :
    Kept kp s0 (State.setSlot s b p x) := by
  unfold State.setSlot
  repeat' split
  all_goals simp_all

/-! ### Session -/

@[simp] theorem setPhase_kept {kp : Part → Bool} {s0 : State} (s : State) (p : UpdPhase) (hk0 : Kept kp s0 s)
    (m_evq : kp .evq = false := by assumption) (m_trace : kp .trace = false := by assumption)
    (m_upd : kp .upd = false := by assumption) :
    Kept kp s0 (setPhase s p) := by
  unfold setPhase
  repeat' split
  all_goals simp_all

@[simp] theorem sessionClear_kept {kp : Part → Bool} {s0 : State} (s : State) (hk0 : Kept kp s0 s)
    (m_sec : kp .sec = false := by assumption) (m_media : kp .media = false := by assumption)
    (m_upd : kp .upd = false := by assumption) :
    Kept kp s0 (sessionClear s) := by
  unfold sessionClear
  simp_all

@[simp] theorem sessionIdle_kept {kp : Part → Bool} {s0 : State} (s : State) (hk0 : Kept kp s0 s)
    (m_evq : kp .evq = false := by assumption) (m_trace : kp .trace = false := by assumption)
    (m_sec : kp .sec = false := by assumption) (m_media : kp .media = false := by assumption)
    (m_upd : kp .upd = false := by assumption) :
    Kept kp s0 (sessionIdle s) := by
  unfold sessionIdle
  simp_all

@[simp] theorem postUpdRefused_kept {kp : Part → Bool} {s0 : State} (s : State) (code : Nat) (cmd : Nat)
    (hk0 : Kept kp s0 s)
    (m_evq : kp .evq = false := by assumption) (m_trace : kp .trace = false := by assumption)
    (m_upd : kp .upd = false := by assumption) :
    Kept kp s0 (postUpdRefused s code cmd) := by
  unfold postUpdRefused
  simp_all

@[simp] theorem sessionFail_kept {kp : Part → Bool} {s0 : State} (s : State) (code : Nat) (hk0 : Kept kp s0 s)
    (m_evq : kp .evq = false := by assumption) (m_trace : kp .trace = false := by assumption)
    (m_sec : kp .sec = false := by assumption) (m_media : kp .media = false := by assumption)
    (m_upd : kp .upd = false := by assumption) :
    Kept kp s0 (sessionFail s code) := by
  unfold sessionFail
  simp_all (maxDischargeDepth := 9)

@[simp] theorem openStaging_kept {kp : Part → Bool} {s0 : State} (s : State) (ident : List Byte) (metaN : Nat)
    (blocks : Nat) (hk0 : Kept kp s0 s)
    (m_upd : kp .upd = false := by assumption) (m_flash : kp .flash = false := by assumption) :
    Kept kp s0 (openStaging s ident metaN blocks) := by
  unfold openStaging
  simp_all

@[simp] theorem takeSector_kept {kp : Part → Bool} {s0 : State} (s : State) (n : Nat) (l : List Byte)
    (hk0 : Kept kp s0 s)
    (m_sec : kp .sec = false := by assumption) (m_upd : kp .upd = false := by assumption) :
    Kept kp s0 (takeSector s n l) := by
  unfold takeSector
  simp_all

@[simp] theorem judgeMeta_kept {kp : Part → Bool} {s0 : State} (s : State) (hk0 : Kept kp s0 s)
    (m_evq : kp .evq = false := by assumption) (m_trace : kp .trace = false := by assumption)
    (m_sec : kp .sec = false := by assumption) (m_media : kp .media = false := by assumption)
    (m_upd : kp .upd = false := by assumption) :
    Kept kp s0 (judgeMeta s) := by
  unfold judgeMeta
  dsimp only
  repeat' split
  all_goals simp_all

@[simp] theorem judgeRecord_kept {kp : Part → Bool} {s0 : State} (s : State) (n : Nat) (hk0 : Kept kp s0 s)
    (m_evq : kp .evq = false := by assumption) (m_trace : kp .trace = false := by assumption)
    (m_media : kp .media = false := by assumption) (m_upd : kp .upd = false := by assumption)
    (m_flash : kp .flash = false := by assumption) :
    Kept kp s0 (judgeRecord s n) := by
  unfold judgeRecord
  dsimp only
  repeat' split
  all_goals simp_all

@[simp] theorem sectorDone_kept {kp : Part → Bool} {s0 : State} (s : State) (ok : Bool) (hk0 : Kept kp s0 s)
    (m_evq : kp .evq = false := by assumption) (m_trace : kp .trace = false := by assumption)
    (m_sec : kp .sec = false := by assumption) (m_media : kp .media = false := by assumption)
    (m_upd : kp .upd = false := by assumption) (m_flash : kp .flash = false := by assumption) :
    Kept kp s0 (sectorDone s ok) := by
  unfold sectorDone
  dsimp only
  repeat' split
  all_goals simp_all (maxDischargeDepth := 9)

@[simp] theorem rebuildMap_kept {kp : Part → Bool} {s0 : State} (s : State) (hk0 : Kept kp s0 s)
    (m_upd : kp .upd = false := by assumption) (m_flash : kp .flash = false := by assumption) :
    Kept kp s0 (rebuildMap s) := by
  unfold rebuildMap
  simp_all

@[simp] theorem postActPause_kept {kp : Part → Bool} {s0 : State} (s : State) (p : Nat) (begin_ : Bool)
    (hk0 : Kept kp s0 s)
    (m_evq : kp .evq = false := by assumption) (m_trace : kp .trace = false := by assumption) :
    Kept kp s0 (postActPause s p begin_) := by
  unfold postActPause
  simp_all

@[simp] theorem switchBank_kept {kp : Part → Bool} {s0 : State} (s : State) (p : Nat) (hk0 : Kept kp s0 s)
    (m_upd : kp .upd = false := by assumption) :
    Kept kp s0 (switchBank s p) := by
  unfold switchBank
  simp_all

@[simp] theorem partReset_kept {kp : Part → Bool} {s0 : State} (s : State) (p : Nat) (hk0 : Kept kp s0 s)
    (m_time : kp .time = false := by assumption) (m_cyc : kp .cyc = false := by assumption)
    (m_evq : kp .evq = false := by assumption) (m_trace : kp .trace = false := by assumption)
    (m_cfg : kp .cfg = false := by assumption) (m_mode : kp .mode = false := by assumption)
    (m_field : kp .field = false := by assumption) (m_adc : kp .adc = false := by assumption)
    (m_panel : kp .panel = false := by assumption) :
    Kept kp s0 (partReset s p) := by
  unfold partReset
  repeat' split
  all_goals simp_all

@[simp] theorem partPause_kept {kp : Part → Bool} {s0 : State} (s : State) (p : Nat) (hk0 : Kept kp s0 s)
    (m_time : kp .time = false := by assumption) (m_cyc : kp .cyc = false := by assumption)
    (m_evq : kp .evq = false := by assumption) (m_trace : kp .trace = false := by assumption)
    (m_cfg : kp .cfg = false := by assumption) (m_mode : kp .mode = false := by assumption)
    (m_safe : kp .safe = false := by assumption) (m_field : kp .field = false := by assumption)
    (m_adc : kp .adc = false := by assumption) (m_panel : kp .panel = false := by assumption)
    (m_upd : kp .upd = false := by assumption) :
    Kept kp s0 (partPause s p) := by
  unfold partPause
  simp_all (maxDischargeDepth := 9)

@[simp] theorem partStart_kept {kp : Part → Bool} {s0 : State} (s : State) (p : Nat) (hk0 : Kept kp s0 s)
    (m_evq : kp .evq = false := by assumption) (m_trace : kp .trace = false := by assumption)
    (m_cfg : kp .cfg = false := by assumption) (m_mode : kp .mode = false := by assumption)
    (m_supply : kp .supply = false := by assumption) (m_field : kp .field = false := by assumption)
    (m_adc : kp .adc = false := by assumption) :
    Kept kp s0 (partStart s p) := by
  unfold partStart
  repeat' split
  all_goals simp_all

@[simp] theorem partResume_kept {kp : Part → Bool} {s0 : State} (s : State) (p : Nat) (hk0 : Kept kp s0 s)
    (m_evq : kp .evq = false := by assumption) (m_trace : kp .trace = false := by assumption)
    (m_cfg : kp .cfg = false := by assumption) (m_mode : kp .mode = false := by assumption)
    (m_safe : kp .safe = false := by assumption) (m_supply : kp .supply = false := by assumption)
    (m_field : kp .field = false := by assumption) (m_adc : kp .adc = false := by assumption) :
    Kept kp s0 (partResume s p) := by
  unfold partResume
  simp_all (maxDischargeDepth := 9)

@[simp] theorem confirmBegin_kept {kp : Part → Bool} {s0 : State} (s : State) (hk0 : Kept kp s0 s)
    (m_evq : kp .evq = false := by assumption) (m_trace : kp .trace = false := by assumption)
    (m_upd : kp .upd = false := by assumption) :
    Kept kp s0 (confirmBegin s) := by
  unfold confirmBegin
  simp_all

@[simp] theorem fallDecide_kept {kp : Part → Bool} {s0 : State} (s : State) (reason : Word) (atBoot : Bool)
    (hk0 : Kept kp s0 s)
    (m_upd : kp .upd = false := by assumption) :
    Kept kp s0 (fallDecide s reason atBoot) := by
  unfold fallDecide
  dsimp only
  repeat' split
  all_goals simp_all

@[simp] theorem fallPause_kept {kp : Part → Bool} {s0 : State} (s : State) (hk0 : Kept kp s0 s)
    (m_time : kp .time = false := by assumption) (m_cyc : kp .cyc = false := by assumption)
    (m_evq : kp .evq = false := by assumption) (m_trace : kp .trace = false := by assumption)
    (m_cfg : kp .cfg = false := by assumption) (m_mode : kp .mode = false := by assumption)
    (m_safe : kp .safe = false := by assumption) (m_field : kp .field = false := by assumption)
    (m_adc : kp .adc = false := by assumption) (m_panel : kp .panel = false := by assumption)
    (m_upd : kp .upd = false := by assumption) :
    Kept kp s0 (fallPause s) := by
  unfold fallPause
  repeat' split
  all_goals simp_all

@[simp] theorem fallReport_kept {kp : Part → Bool} {s0 : State} (s : State) (hk0 : Kept kp s0 s)
    (m_evq : kp .evq = false := by assumption) (m_trace : kp .trace = false := by assumption)
    (m_mode : kp .mode = false := by assumption) (m_sec : kp .sec = false := by assumption)
    (m_media : kp .media = false := by assumption) (m_upd : kp .upd = false := by assumption) :
    Kept kp s0 (fallReport s) := by
  unfold fallReport
  dsimp only
  repeat' split
  all_goals simp_all (maxDischargeDepth := 9)

/-! ### Boot -/

@[simp] theorem fallSettle_kept {kp : Part → Bool} {s0 : State} (s : State) (hk0 : Kept kp s0 s)
    (m_upd : kp .upd = false := by assumption) :
    Kept kp s0 (fallSettle s) := by
  unfold fallSettle
  dsimp only
  repeat' split
  all_goals simp_all (maxDischargeDepth := 9)

@[simp] theorem porstEnter_kept {kp : Part → Bool} {s0 : State} (s : State) (cause : ResetCause) (hk0 : Kept kp s0 s)
    (m_mem : kp .mem = false := by assumption) (m_time : kp .time = false := by assumption)
    (m_cyc : kp .cyc = false := by assumption) (m_evq : kp .evq = false := by assumption)
    (m_trace : kp .trace = false := by assumption) (m_bus : kp .bus = false := by assumption)
    (m_cfg : kp .cfg = false := by assumption) (m_mode : kp .mode = false := by assumption)
    (m_safe : kp .safe = false := by assumption) (m_supply : kp .supply = false := by assumption)
    (m_field : kp .field = false := by assumption) (m_health : kp .health = false := by assumption)
    (m_inj : kp .inj = false := by assumption) (m_adc : kp .adc = false := by assumption)
    (m_panel : kp .panel = false := by assumption) (m_wdog : kp .wdog = false := by assumption)
    (m_link : kp .link = false := by assumption) (m_txn : kp .txn = false := by assumption)
    (m_sta : kp .sta = false := by assumption) (m_sec : kp .sec = false := by assumption)
    (m_ser : kp .ser = false := by assumption) (m_media : kp .media = false := by assumption)
    (m_upd : kp .upd = false := by assumption) (m_flash : kp .flash = false := by assumption) :
    Kept kp s0 (porstEnter s cause) := by
  have h := fallSettle_kept s hk0
  unfold porstEnter
  generalize fallSettle s = u at h
  simp_all only [keptC_upd, kept_mk, fixed_false, fixed_self, within_nil, within_self, memKept_nil, State.reset]

@[simp] theorem chanLogic_kept {kp : Part → Bool} {s0 : State} (s : State) (hk0 : Kept kp s0 s)
    (m_field : kp .field = false := by assumption) :
    Kept kp s0 (chanLogic s) := by
  unfold chanLogic
  simp_all (maxDischargeDepth := 9)

@[simp] theorem logicEnter_kept {kp : Part → Bool} {s0 : State} (s : State) (cause : ResetCause) (hk0 : Kept kp s0 s)
    (m_time : kp .time = false := by assumption) (m_cyc : kp .cyc = false := by assumption)
    (m_evq : kp .evq = false := by assumption) (m_trace : kp .trace = false := by assumption)
    (m_bus : kp .bus = false := by assumption) (m_cfg : kp .cfg = false := by assumption)
    (m_mode : kp .mode = false := by assumption) (m_safe : kp .safe = false := by assumption)
    (m_field : kp .field = false := by assumption) (m_health : kp .health = false := by assumption)
    (m_inj : kp .inj = false := by assumption) (m_adc : kp .adc = false := by assumption)
    (m_panel : kp .panel = false := by assumption) (m_wdog : kp .wdog = false := by assumption)
    (m_link : kp .link = false := by assumption) (m_txn : kp .txn = false := by assumption)
    (m_sta : kp .sta = false := by assumption) (m_sec : kp .sec = false := by assumption)
    (m_ser : kp .ser = false := by assumption) (m_media : kp .media = false := by assumption)
    (m_upd : kp .upd = false := by assumption) (m_flash : kp .flash = false := by assumption) :
    Kept kp s0 (logicEnter s cause) := by
  have h := chanLogic_kept _ (setFreeze_kept _ false (thawCheck_kept _ (flashReset_kept _ (fallSettle_kept s hk0))))
  unfold logicEnter
  dsimp only
  generalize chanLogic (setFreeze (thawCheck (flashReset (fallSettle s))) false) = u at h ⊢
  split
  · refine adcNext_kept _ (refresh_kept _ ?_)
    simp_all only [keptC_upd, kept_mk, fixed_false, fixed_self, within_nil, within_self, memKept_nil, memKept_self, State.reset]
  · refine refresh_kept _ ?_
    simp_all only [keptC_upd, kept_mk, fixed_false, fixed_self, within_nil, within_self, memKept_nil, memKept_self, State.reset]

@[simp] theorem refuseFor_kept {kp : Part → Bool} {s0 : State} (s : State) (o : Option (Path × Descriptor))
    (code : Nat) (hk0 : Kept kp s0 s)
    (m_evq : kp .evq = false := by assumption) (m_bus : kp .bus = false := by assumption) :
    Kept kp s0 (refuseFor s o code) := by
  unfold refuseFor
  repeat' split
  all_goals simp_all

@[simp] theorem startAbandon_kept {kp : Part → Bool} {s0 : State} (s : State) (code : Nat) (hk0 : Kept kp s0 s)
    (m_evq : kp .evq = false := by assumption) (m_bus : kp .bus = false := by assumption)
    (m_sta : kp .sta = false := by assumption) :
    Kept kp s0 (startAbandon s code) := by
  unfold startAbandon
  repeat' split
  all_goals simp_all

@[simp] theorem staCoreEnd_kept {kp : Part → Bool} {s0 : State} (s : State) (hk0 : Kept kp s0 s)
    (m_evq : kp .evq = false := by assumption) (m_bus : kp .bus = false := by assumption)
    (m_sta : kp .sta = false := by assumption) :
    Kept kp s0 (staCoreEnd s) := by
  unfold staCoreEnd
  dsimp only
  have h1 := startAbandon_kept _ 0x0422 (refuseFor_kept s s.sta.enumFor 0x0422 hk0)
  generalize startAbandon (refuseFor s s.sta.enumFor 0x0422) 0x0422 = a at h1 ⊢
  have h2 : Kept kp s0 (a.sta.enumWaits.foldl (fun s x => refuseFor s (some x) 0x0422) a) :=
    Kept.foldl _ _ _ (fun u hu x => refuseFor_kept _ _ _ hu) h1
  generalize a.sta.enumWaits.foldl (fun s x => refuseFor s (some x) 0x0422) a = b at h2 ⊢
  have h3 := refuseFor_kept b (b.sta.gun.bind (fun g => if g.cancelled then none else some (g.path, g.d))) 0x0422 h2
  generalize refuseFor b (b.sta.gun.bind (fun g => if g.cancelled then none else some (g.path, g.d))) 0x0422 = c at h3 ⊢
  have h4 := refuseFor_kept c (c.sta.pull.map (fun g => (g.path, g.d))) 0x0422 h3
  generalize refuseFor c (c.sta.pull.map (fun g => (g.path, g.d))) 0x0422 = d at h4 ⊢
  simp [h4, m_sta]

@[simp] theorem staMinimal_kept {kp : Part → Bool} {s0 : State} (s : State) (hk0 : Kept kp s0 s)
    (m_evq : kp .evq = false := by assumption) (m_bus : kp .bus = false := by assumption)
    (m_sta : kp .sta = false := by assumption) :
    Kept kp s0 (staMinimal s) := by
  unfold staMinimal
  dsimp only
  repeat' split
  all_goals simp_all (maxDischargeDepth := 9)

@[simp] theorem stableFs_kept {kp : Part → Bool} {s0 : State} (s : State)
    (hk0 : Kept kp s0 s)
    (m_mode : kp .mode = false := by assumption) :
    Kept kp s0 (stableFs s) := by
  unfold stableFs
  try dsimp only
  repeat' split
  all_goals simp_all (maxDischargeDepth := 9)

@[simp] theorem restEnd_kept {kp : Part → Bool} {s0 : State} (s : State) (trig : Bool) (hk0 : Kept kp s0 s)
    (m_evq : kp .evq = false := by assumption) (m_trace : kp .trace = false := by assumption)
    (m_mode : kp .mode = false := by assumption) (m_safe : kp .safe = false := by assumption)
    (m_adc : kp .adc = false := by assumption) (m_wdog : kp .wdog = false := by assumption) :
    Kept kp s0 (restEnd s trig) := by
  unfold restEnd
  dsimp only
  repeat' split
  all_goals simp_all (maxDischargeDepth := 9)

@[simp] theorem requestedFs_kept {kp : Part → Bool} {s0 : State} (s : State) (cause : ResetCause) (hk0 : Kept kp s0 s)
    (m_mode : kp .mode = false := by assumption) :
    Kept kp s0 (requestedFs s cause) := by
  unfold requestedFs
  repeat' split
  all_goals simp_all

@[simp] theorem coreOutputs_kept {kp : Part → Bool} {s0 : State} (s : State) (cause : ResetCause)
    (hk0 : Kept kp s0 s)
    (m_mode : kp .mode = false := by assumption) (m_safe : kp .safe = false := by assumption)
    (m_field : kp .field = false := by assumption) :
    Kept kp s0 (coreOutputs s cause) := by
  unfold coreOutputs
  try dsimp only
  repeat' split
  all_goals simp_all (maxDischargeDepth := 9)

@[simp] theorem busyAbandon_kept {kp : Part → Bool} {s0 : State} (s : State)
    (hk0 : Kept kp s0 s)
    (m_cfg : kp .cfg = false := by assumption) :
    Kept kp s0 (busyAbandon s) := by
  unfold busyAbandon
  try dsimp only
  repeat' split
  all_goals simp_all (maxDischargeDepth := 9)

@[simp] theorem xferAbandon_kept {kp : Part → Bool} {s0 : State} (s : State)
    (hk0 : Kept kp s0 s)
    (m_evq : kp .evq = false := by assumption) (m_trace : kp .trace = false := by assumption)
    (m_bus : kp .bus = false := by assumption) (m_mode : kp .mode = false := by assumption)
    (m_safe : kp .safe = false := by assumption) (m_health : kp .health = false := by assumption)
    (m_adc : kp .adc = false := by assumption) (m_wdog : kp .wdog = false := by assumption)
    (m_txn : kp .txn = false := by assumption) (m_sec : kp .sec = false := by assumption)
    (m_ser : kp .ser = false := by assumption) :
    Kept kp s0 (xferAbandon s) := by
  unfold xferAbandon
  refine Kept.foldl _ _ _ (fun u hu x => srcRefuse_kept _ _ _ hu) ?_
  simp [hk0, m_ser]

@[simp] theorem coreEnter_kept {kp : Part → Bool} {s0 : State} (s : State) (cause : ResetCause) (hk0 : Kept kp s0 s)
    (m_evq : kp .evq = false := by assumption) (m_trace : kp .trace = false := by assumption)
    (m_bus : kp .bus = false := by assumption) (m_cfg : kp .cfg = false := by assumption)
    (m_mode : kp .mode = false := by assumption) (m_safe : kp .safe = false := by assumption)
    (m_field : kp .field = false := by assumption) (m_health : kp .health = false := by assumption)
    (m_adc : kp .adc = false := by assumption) (m_panel : kp .panel = false := by assumption)
    (m_wdog : kp .wdog = false := by assumption) (m_txn : kp .txn = false := by assumption)
    (m_sta : kp .sta = false := by assumption) (m_sec : kp .sec = false := by assumption)
    (m_ser : kp .ser = false := by assumption) (m_media : kp .media = false := by assumption)
    (m_upd : kp .upd = false := by assumption) :
    Kept kp s0 (coreEnter s cause) := by
  unfold coreEnter
  try dsimp only
  repeat' split
  all_goals simp_all (maxDischargeDepth := 15)

@[simp] theorem evalStarts_kept {kp : Part → Bool} {s0 : State} (s : State) (hk0 : Kept kp s0 s)
    (m_mode : kp .mode = false := by assumption) :
    Kept kp s0 (evalStarts s).1 := by
  unfold evalStarts
  dsimp only
  repeat' split
  all_goals simp_all

@[simp] theorem fallBoot_kept {kp : Part → Bool} {s0 : State} (s : State) (reason : Word) (hk0 : Kept kp s0 s)
    (m_time : kp .time = false := by assumption) (m_cyc : kp .cyc = false := by assumption)
    (m_evq : kp .evq = false := by assumption) (m_trace : kp .trace = false := by assumption)
    (m_bus : kp .bus = false := by assumption) (m_cfg : kp .cfg = false := by assumption)
    (m_mode : kp .mode = false := by assumption) (m_safe : kp .safe = false := by assumption)
    (m_field : kp .field = false := by assumption) (m_health : kp .health = false := by assumption)
    (m_adc : kp .adc = false := by assumption) (m_panel : kp .panel = false := by assumption)
    (m_wdog : kp .wdog = false := by assumption) (m_txn : kp .txn = false := by assumption)
    (m_sta : kp .sta = false := by assumption) (m_sec : kp .sec = false := by assumption)
    (m_ser : kp .ser = false := by assumption) (m_media : kp .media = false := by assumption)
    (m_upd : kp .upd = false := by assumption) :
    Kept kp s0 (fallBoot s reason) := by
  unfold fallBoot
  dsimp only
  repeat' split
  all_goals simp_all (maxDischargeDepth := 9)

@[simp] theorem reopenRead_kept {kp : Part → Bool} {s0 : State} (s : State) (hk0 : Kept kp s0 s)
    (m_media : kp .media = false := by assumption) (m_upd : kp .upd = false := by assumption) :
    Kept kp s0 (reopenRead s) := by
  unfold reopenRead
  simp_all

@[simp] theorem reopenSession_kept {kp : Part → Bool} {s0 : State} (s : State) (hk0 : Kept kp s0 s)
    (m_evq : kp .evq = false := by assumption) (m_trace : kp .trace = false := by assumption)
    (m_safe : kp .safe = false := by assumption) (m_field : kp .field = false := by assumption)
    (m_media : kp .media = false := by assumption) (m_upd : kp .upd = false := by assumption)
    (m_flash : kp .flash = false := by assumption) :
    Kept kp s0 (reopenSession s) := by
  unfold reopenSession
  try dsimp only
  repeat' split
  all_goals simp_all (maxDischargeDepth := 15)

@[simp] theorem activateNext_kept {kp : Part → Bool} {s0 : State} (s : State) (hk0 : Kept kp s0 s)
    (m_time : kp .time = false := by assumption) (m_cyc : kp .cyc = false := by assumption)
    (m_evq : kp .evq = false := by assumption) (m_trace : kp .trace = false := by assumption)
    (m_bus : kp .bus = false := by assumption) (m_cfg : kp .cfg = false := by assumption)
    (m_mode : kp .mode = false := by assumption) (m_safe : kp .safe = false := by assumption)
    (m_field : kp .field = false := by assumption) (m_health : kp .health = false := by assumption)
    (m_adc : kp .adc = false := by assumption) (m_panel : kp .panel = false := by assumption)
    (m_wdog : kp .wdog = false := by assumption) (m_txn : kp .txn = false := by assumption)
    (m_sta : kp .sta = false := by assumption) (m_sec : kp .sec = false := by assumption)
    (m_ser : kp .ser = false := by assumption) (m_media : kp .media = false := by assumption)
    (m_upd : kp .upd = false := by assumption) :
    Kept kp s0 (activateNext s) := by
  unfold activateNext
  dsimp only
  repeat' split
  all_goals simp_all (maxDischargeDepth := 9)

@[simp] theorem partEnds_kept {kp : Part → Bool} {s0 : State} (s : State) (hk0 : Kept kp s0 s)
    (m_time : kp .time = false := by assumption) (m_cyc : kp .cyc = false := by assumption)
    (m_evq : kp .evq = false := by assumption) (m_trace : kp .trace = false := by assumption)
    (m_bus : kp .bus = false := by assumption) (m_cfg : kp .cfg = false := by assumption)
    (m_mode : kp .mode = false := by assumption) (m_safe : kp .safe = false := by assumption)
    (m_supply : kp .supply = false := by assumption) (m_field : kp .field = false := by assumption)
    (m_health : kp .health = false := by assumption) (m_adc : kp .adc = false := by assumption)
    (m_panel : kp .panel = false := by assumption) (m_wdog : kp .wdog = false := by assumption)
    (m_txn : kp .txn = false := by assumption) (m_sta : kp .sta = false := by assumption)
    (m_sec : kp .sec = false := by assumption) (m_ser : kp .ser = false := by assumption)
    (m_media : kp .media = false := by assumption) (m_upd : kp .upd = false := by assumption) :
    Kept kp s0 (partEnds s) := by
  unfold partEnds
  dsimp only
  repeat' split
  all_goals simp_all (maxDischargeDepth := 9)

@[simp] theorem bootKeys_kept {kp : Part → Bool} {s0 : State} (s : State) (e : BootEnv) (hk0 : Kept kp s0 s)
    (m_time : kp .time = false := by assumption) (m_evq : kp .evq = false := by assumption)
    (m_trace : kp .trace = false := by assumption) (m_mode : kp .mode = false := by assumption)
    (m_safe : kp .safe = false := by assumption) (m_health : kp .health = false := by assumption)
    (m_adc : kp .adc = false := by assumption) (m_wdog : kp .wdog = false := by assumption)
    (m_sec : kp .sec = false := by assumption) :
    Kept kp s0 (bootKeys s e).1 := by
  unfold bootKeys
  dsimp only
  repeat' split
  all_goals simp_all (maxDischargeDepth := 9)

@[simp] theorem bootStore_kept {kp : Part → Bool} {s0 : State} (s : State) (hk0 : Kept kp s0 s)
    (m_time : kp .time = false := by assumption) (m_cyc : kp .cyc = false := by assumption)
    (m_cfg : kp .cfg = false := by assumption) (m_mode : kp .mode = false := by assumption)
    (m_link : kp .link = false := by assumption) :
    Kept kp s0 (bootStore s) := by
  unfold bootStore
  dsimp only
  repeat' split
  all_goals simp_all (maxDischargeDepth := 9)

@[simp] theorem bootPorts_kept {kp : Part → Bool} {s0 : State} (s : State) (hk0 : Kept kp s0 s)
    (m_evq : kp .evq = false := by assumption) (m_trace : kp .trace = false := by assumption)
    (m_mode : kp .mode = false := by assumption) (m_health : kp .health = false := by assumption)
    (m_link : kp .link = false := by assumption) :
    Kept kp s0 (bootPorts s) := by
  unfold bootPorts
  dsimp only
  repeat' split
  all_goals simp_all (maxDischargeDepth := 9)

@[simp] theorem enterMinimal_kept {kp : Part → Bool} {s0 : State} (s : State) (hk0 : Kept kp s0 s)
    (m_cyc : kp .cyc = false := by assumption) (m_evq : kp .evq = false := by assumption)
    (m_trace : kp .trace = false := by assumption) (m_bus : kp .bus = false := by assumption)
    (m_cfg : kp .cfg = false := by assumption) (m_mode : kp .mode = false := by assumption)
    (m_safe : kp .safe = false := by assumption) (m_field : kp .field = false := by assumption)
    (m_inj : kp .inj = false := by assumption) (m_adc : kp .adc = false := by assumption)
    (m_panel : kp .panel = false := by assumption) (m_wdog : kp .wdog = false := by assumption)
    (m_link : kp .link = false := by assumption) (m_sta : kp .sta = false := by assumption) :
    Kept kp s0 (enterMinimal s) := by
  unfold enterMinimal
  repeat' first
    | (intro x; refine Kept.cut (kp := kp) (s0 := s0) (x := x) ?_ ?_; subst x; rotate_left; clear_value x; intro hx; rotate_right)
    | intro x
    | lift_lets
    | split
  all_goals simp_all +zetaDelta (maxDischargeDepth := 9)

@[simp] theorem bootImage_kept {kp : Part → Bool} {s0 : State} (s : State) (hk0 : Kept kp s0 s)
    (m_free : kp .free = false := by assumption) (m_cyc : kp .cyc = false := by assumption)
    (m_evq : kp .evq = false := by assumption) (m_trace : kp .trace = false := by assumption)
    (m_bus : kp .bus = false := by assumption) (m_cfg : kp .cfg = false := by assumption)
    (m_mode : kp .mode = false := by assumption) (m_safe : kp .safe = false := by assumption)
    (m_field : kp .field = false := by assumption) (m_inj : kp .inj = false := by assumption)
    (m_adc : kp .adc = false := by assumption) (m_panel : kp .panel = false := by assumption)
    (m_wdog : kp .wdog = false := by assumption) (m_link : kp .link = false := by assumption)
    (m_sta : kp .sta = false := by assumption) :
    Kept kp s0 (bootImage s) := by
  unfold bootImage
  dsimp only
  repeat' split
  all_goals simp_all (maxDischargeDepth := 9)

@[simp] theorem bootField_kept {kp : Part → Bool} {s0 : State} (s : State) (e : BootEnv) (hk0 : Kept kp s0 s)
    (m_cyc : kp .cyc = false := by assumption) (m_evq : kp .evq = false := by assumption)
    (m_trace : kp .trace = false := by assumption) (m_cfg : kp .cfg = false := by assumption)
    (m_mode : kp .mode = false := by assumption) (m_safe : kp .safe = false := by assumption)
    (m_supply : kp .supply = false := by assumption) (m_field : kp .field = false := by assumption)
    (m_health : kp .health = false := by assumption) (m_inj : kp .inj = false := by assumption)
    (m_adc : kp .adc = false := by assumption) (m_panel : kp .panel = false := by assumption)
    (m_wdog : kp .wdog = false := by assumption) (m_link : kp .link = false := by assumption) :
    Kept kp s0 (bootField s e) := by
  unfold bootField
  dsimp only
  repeat' split
  all_goals simp_all (maxDischargeDepth := 9)

@[simp] theorem bootTests_kept {kp : Part → Bool} {s0 : State} (s : State) (e : BootEnv) (hk0 : Kept kp s0 s)
    (m_evq : kp .evq = false := by assumption) (m_trace : kp .trace = false := by assumption)
    (m_cfg : kp .cfg = false := by assumption) (m_mode : kp .mode = false := by assumption)
    (m_safe : kp .safe = false := by assumption) (m_supply : kp .supply = false := by assumption)
    (m_field : kp .field = false := by assumption) (m_health : kp .health = false := by assumption)
    (m_adc : kp .adc = false := by assumption) (m_wdog : kp .wdog = false := by assumption) :
    Kept kp s0 (bootTests s e) := by
  unfold bootTests
  dsimp only
  repeat' split
  all_goals simp_all (maxDischargeDepth := 9)

@[simp] theorem reportAbandoned_kept {kp : Part → Bool} {s0 : State} (s : State) (hk0 : Kept kp s0 s)
    (m_evq : kp .evq = false := by assumption) (m_trace : kp .trace = false := by assumption)
    (m_cfg : kp .cfg = false := by assumption) (m_mode : kp .mode = false := by assumption) :
    Kept kp s0 (reportAbandoned s) := by
  unfold reportAbandoned
  try dsimp only
  repeat' split
  all_goals simp_all (maxDischargeDepth := 15)

@[simp] theorem bootMode_kept {kp : Part → Bool} {s0 : State} (s : State) (hk0 : Kept kp s0 s)
    (m_cyc : kp .cyc = false := by assumption) (m_evq : kp .evq = false := by assumption)
    (m_trace : kp .trace = false := by assumption) (m_mode : kp .mode = false := by assumption)
    (m_safe : kp .safe = false := by assumption) (m_field : kp .field = false := by assumption)
    (m_inj : kp .inj = false := by assumption) (m_adc : kp .adc = false := by assumption)
    (m_panel : kp .panel = false := by assumption) (m_wdog : kp .wdog = false := by assumption)
    (m_link : kp .link = false := by assumption) :
    Kept kp s0 (bootMode s) := by
  unfold bootMode
  repeat' first
    | (intro x; refine Kept.cut (kp := kp) (s0 := s0) (x := x) ?_ ?_; subst x; rotate_left; clear_value x; intro hx; rotate_right)
    | intro x
    | lift_lets
    | split
  all_goals simp_all (zetaDelta := true)

@[simp] theorem bootSummary_kept {kp : Part → Bool} {s0 : State} (s : State) (hk0 : Kept kp s0 s)
    (m_trace : kp .trace = false := by assumption) (m_health : kp .health = false := by assumption) :
    Kept kp s0 (bootSummary s) := by
  unfold bootSummary
  try dsimp only
  repeat' split
  all_goals simp_all (maxDischargeDepth := 15)

@[simp] theorem bootOk_kept {kp : Part → Bool} {s0 : State} (s : State) (hk0 : Kept kp s0 s)
    (m_time : kp .time = false := by assumption) (m_cyc : kp .cyc = false := by assumption)
    (m_evq : kp .evq = false := by assumption) (m_trace : kp .trace = false := by assumption)
    (m_bus : kp .bus = false := by assumption) (m_cfg : kp .cfg = false := by assumption)
    (m_mode : kp .mode = false := by assumption) (m_safe : kp .safe = false := by assumption)
    (m_supply : kp .supply = false := by assumption) (m_field : kp .field = false := by assumption)
    (m_health : kp .health = false := by assumption) (m_inj : kp .inj = false := by assumption)
    (m_adc : kp .adc = false := by assumption) (m_panel : kp .panel = false := by assumption)
    (m_wdog : kp .wdog = false := by assumption) (m_link : kp .link = false := by assumption)
    (m_txn : kp .txn = false := by assumption) (m_sta : kp .sta = false := by assumption)
    (m_sec : kp .sec = false := by assumption) (m_ser : kp .ser = false := by assumption)
    (m_media : kp .media = false := by assumption) (m_upd : kp .upd = false := by assumption)
    (m_flash : kp .flash = false := by assumption) :
    Kept kp s0 (bootOk s) := by
  unfold bootOk
  repeat' first
    | (intro x; refine Kept.cut (kp := kp) (s0 := s0) (x := x) ?_ ?_; subst x; rotate_left; clear_value x; intro hx; rotate_right)
    | intro x
    | lift_lets
    | split
  all_goals first | (simp_all; done) | (simp_all +zetaDelta; done)

@[simp] theorem pllStart_kept {kp : Part → Bool} {s0 : State} (s : State) (hk0 : Kept kp s0 s)
    (m_time : kp .time = false := by assumption) (m_evq : kp .evq = false := by assumption)
    (m_trace : kp .trace = false := by assumption) (m_mode : kp .mode = false := by assumption) :
    Kept kp s0 (pllStart s) := by
  unfold pllStart
  repeat' split
  all_goals simp_all

@[simp] theorem lossWork_kept {kp : Part → Bool} {s0 : State} (s : State) (hk0 : Kept kp s0 s)
    (m_trace : kp .trace = false := by assumption) (m_mode : kp .mode = false := by assumption) :
    Kept kp s0 (lossWork s) := by
  unfold lossWork
  dsimp only
  repeat' split
  all_goals simp_all

@[simp] theorem bootDo_kept {kp : Part → Bool} {s0 : State} (s : State) (n : Nat) (e : BootEnv) (hk0 : Kept kp s0 s)
    (m_free : kp .free = false := by assumption) (m_time : kp .time = false := by assumption)
    (m_cyc : kp .cyc = false := by assumption) (m_evq : kp .evq = false := by assumption)
    (m_trace : kp .trace = false := by assumption) (m_bus : kp .bus = false := by assumption)
    (m_cfg : kp .cfg = false := by assumption) (m_mode : kp .mode = false := by assumption)
    (m_safe : kp .safe = false := by assumption) (m_supply : kp .supply = false := by assumption)
    (m_field : kp .field = false := by assumption) (m_health : kp .health = false := by assumption)
    (m_inj : kp .inj = false := by assumption) (m_adc : kp .adc = false := by assumption)
    (m_panel : kp .panel = false := by assumption) (m_wdog : kp .wdog = false := by assumption)
    (m_link : kp .link = false := by assumption) (m_txn : kp .txn = false := by assumption)
    (m_sta : kp .sta = false := by assumption) (m_sec : kp .sec = false := by assumption)
    (m_ser : kp .ser = false := by assumption) (m_media : kp .media = false := by assumption)
    (m_upd : kp .upd = false := by assumption) (m_flash : kp .flash = false := by assumption) :
    Kept kp s0 (bootDo s n e) := by
  unfold bootDo
  dsimp only
  repeat' split
  all_goals simp_all (maxDischargeDepth := 9)

@[simp] theorem bootRun_kept {kp : Part → Bool} {s0 : State} (l : List Nat) (e : BootEnv) (s : State)
    (hk0 : Kept kp s0 s)
    (m_free : kp .free = false := by assumption) (m_time : kp .time = false := by assumption)
    (m_cyc : kp .cyc = false := by assumption) (m_evq : kp .evq = false := by assumption)
    (m_trace : kp .trace = false := by assumption) (m_bus : kp .bus = false := by assumption)
    (m_cfg : kp .cfg = false := by assumption) (m_mode : kp .mode = false := by assumption)
    (m_safe : kp .safe = false := by assumption) (m_supply : kp .supply = false := by assumption)
    (m_field : kp .field = false := by assumption) (m_health : kp .health = false := by assumption)
    (m_inj : kp .inj = false := by assumption) (m_adc : kp .adc = false := by assumption)
    (m_panel : kp .panel = false := by assumption) (m_wdog : kp .wdog = false := by assumption)
    (m_link : kp .link = false := by assumption) (m_txn : kp .txn = false := by assumption)
    (m_sta : kp .sta = false := by assumption) (m_sec : kp .sec = false := by assumption)
    (m_ser : kp .ser = false := by assumption) (m_media : kp .media = false := by assumption)
    (m_upd : kp .upd = false := by assumption) (m_flash : kp .flash = false := by assumption) :
    Kept kp s0 (bootRun l e s) := by
  induction l generalizing s with
  | nil => exact hk0
  | cons n r ih =>
    unfold bootRun
    split
    · exact hk0
    · exact ih _ (bootDo_kept _ _ _ hk0)

@[simp] theorem bootBegin_kept {kp : Part → Bool} {s0 : State} (s : State) (hk0 : Kept kp s0 s)
    (m_mode : kp .mode = false := by assumption) :
    Kept kp s0 (bootBegin s) := by
  unfold bootBegin
  simp_all

@[simp] theorem bootGo_kept {kp : Part → Bool} {s0 : State} (e : BootEnv) (s : State) (hk0 : Kept kp s0 s)
    (m_free : kp .free = false := by assumption) (m_time : kp .time = false := by assumption)
    (m_cyc : kp .cyc = false := by assumption) (m_evq : kp .evq = false := by assumption)
    (m_trace : kp .trace = false := by assumption) (m_bus : kp .bus = false := by assumption)
    (m_cfg : kp .cfg = false := by assumption) (m_mode : kp .mode = false := by assumption)
    (m_safe : kp .safe = false := by assumption) (m_supply : kp .supply = false := by assumption)
    (m_field : kp .field = false := by assumption) (m_health : kp .health = false := by assumption)
    (m_inj : kp .inj = false := by assumption) (m_adc : kp .adc = false := by assumption)
    (m_panel : kp .panel = false := by assumption) (m_wdog : kp .wdog = false := by assumption)
    (m_link : kp .link = false := by assumption) (m_txn : kp .txn = false := by assumption)
    (m_sta : kp .sta = false := by assumption) (m_sec : kp .sec = false := by assumption)
    (m_ser : kp .ser = false := by assumption) (m_media : kp .media = false := by assumption)
    (m_upd : kp .upd = false := by assumption) (m_flash : kp .flash = false := by assumption) :
    Kept kp s0 (bootGo e s) := by
  unfold bootGo
  simp_all

@[simp] theorem execPorstAssert_kept {kp : Part → Bool} {s0 : State} (supply : Bool) (s : State) (hk0 : Kept kp s0 s)
    (m_mem : kp .mem = false := by assumption) (m_time : kp .time = false := by assumption)
    (m_cyc : kp .cyc = false := by assumption) (m_evq : kp .evq = false := by assumption)
    (m_trace : kp .trace = false := by assumption) (m_bus : kp .bus = false := by assumption)
    (m_cfg : kp .cfg = false := by assumption) (m_mode : kp .mode = false := by assumption)
    (m_safe : kp .safe = false := by assumption) (m_supply : kp .supply = false := by assumption)
    (m_field : kp .field = false := by assumption) (m_health : kp .health = false := by assumption)
    (m_inj : kp .inj = false := by assumption) (m_adc : kp .adc = false := by assumption)
    (m_panel : kp .panel = false := by assumption) (m_wdog : kp .wdog = false := by assumption)
    (m_link : kp .link = false := by assumption) (m_txn : kp .txn = false := by assumption)
    (m_sta : kp .sta = false := by assumption) (m_sec : kp .sec = false := by assumption)
    (m_ser : kp .ser = false := by assumption) (m_media : kp .media = false := by assumption)
    (m_upd : kp .upd = false := by assumption) (m_flash : kp .flash = false := by assumption) :
    KeptR kp s0 (execPorstAssert supply s) := by
  unfold execPorstAssert
  repeat' split
  all_goals simp_all

@[simp] theorem sampleStraps_kept {kp : Part → Bool} {s0 : State} (s : State) (role : Role) (crystal : Bool)
    (hk0 : Kept kp s0 s)
    (m_mode : kp .mode = false := by assumption) (m_link : kp .link = false := by assumption)
    (m_straps : kp .straps = false := by assumption) :
    Kept kp s0 (sampleStraps s role crystal) := by
  unfold sampleStraps
  simp_all

@[simp] theorem execPorstRelease_kept {kp : Part → Bool} {s0 : State} (role : Role) (crystal : Bool) (e : BootEnv)
    (s : State) (hk0 : Kept kp s0 s)
    (m_free : kp .free = false := by assumption) (m_time : kp .time = false := by assumption)
    (m_cyc : kp .cyc = false := by assumption) (m_evq : kp .evq = false := by assumption)
    (m_trace : kp .trace = false := by assumption) (m_bus : kp .bus = false := by assumption)
    (m_cfg : kp .cfg = false := by assumption) (m_mode : kp .mode = false := by assumption)
    (m_safe : kp .safe = false := by assumption) (m_supply : kp .supply = false := by assumption)
    (m_field : kp .field = false := by assumption) (m_health : kp .health = false := by assumption)
    (m_inj : kp .inj = false := by assumption) (m_adc : kp .adc = false := by assumption)
    (m_panel : kp .panel = false := by assumption) (m_wdog : kp .wdog = false := by assumption)
    (m_link : kp .link = false := by assumption) (m_txn : kp .txn = false := by assumption)
    (m_sta : kp .sta = false := by assumption) (m_sec : kp .sec = false := by assumption)
    (m_ser : kp .ser = false := by assumption) (m_media : kp .media = false := by assumption)
    (m_upd : kp .upd = false := by assumption) (m_flash : kp .flash = false := by assumption)
    (m_straps : kp .straps = false := by assumption) :
    KeptR kp s0 (execPorstRelease role crystal e s) := by
  unfold execPorstRelease
  repeat' first
    | (with_reducible assumption)
    | simp only [keptR_next]
    | (with_reducible refine bootBegin_kept _ ?_)
    | (with_reducible refine sampleStraps_kept _ _ _ ?_)
    | (with_reducible refine bootGo_kept _ _ ?_)
    | split

@[simp] theorem execLogicReset_kept {kp : Part → Bool} {s0 : State} (e : BootEnv) (s : State) (hk0 : Kept kp s0 s)
    (m_free : kp .free = false := by assumption) (m_time : kp .time = false := by assumption)
    (m_cyc : kp .cyc = false := by assumption) (m_evq : kp .evq = false := by assumption)
    (m_trace : kp .trace = false := by assumption) (m_bus : kp .bus = false := by assumption)
    (m_cfg : kp .cfg = false := by assumption) (m_mode : kp .mode = false := by assumption)
    (m_safe : kp .safe = false := by assumption) (m_supply : kp .supply = false := by assumption)
    (m_field : kp .field = false := by assumption) (m_health : kp .health = false := by assumption)
    (m_inj : kp .inj = false := by assumption) (m_adc : kp .adc = false := by assumption)
    (m_panel : kp .panel = false := by assumption) (m_wdog : kp .wdog = false := by assumption)
    (m_link : kp .link = false := by assumption) (m_txn : kp .txn = false := by assumption)
    (m_sta : kp .sta = false := by assumption) (m_sec : kp .sec = false := by assumption)
    (m_ser : kp .ser = false := by assumption) (m_media : kp .media = false := by assumption)
    (m_upd : kp .upd = false := by assumption) (m_flash : kp .flash = false := by assumption) :
    KeptR kp s0 (execLogicReset e s) := by
  unfold execLogicReset
  repeat' first
    | (with_reducible assumption)
    | simp only [keptR_next]
    | (with_reducible refine logicEnter_kept _ _ ?_)
    | (with_reducible refine bootBegin_kept _ ?_)
    | (with_reducible refine bootGo_kept _ _ ?_)
    | split

@[simp] theorem execCoreReset_kept {kp : Part → Bool} {s0 : State} (e : BootEnv) (s : State) (hk0 : Kept kp s0 s)
    (m_free : kp .free = false := by assumption) (m_time : kp .time = false := by assumption)
    (m_cyc : kp .cyc = false := by assumption) (m_evq : kp .evq = false := by assumption)
    (m_trace : kp .trace = false := by assumption) (m_bus : kp .bus = false := by assumption)
    (m_cfg : kp .cfg = false := by assumption) (m_mode : kp .mode = false := by assumption)
    (m_safe : kp .safe = false := by assumption) (m_supply : kp .supply = false := by assumption)
    (m_field : kp .field = false := by assumption) (m_health : kp .health = false := by assumption)
    (m_inj : kp .inj = false := by assumption) (m_adc : kp .adc = false := by assumption)
    (m_panel : kp .panel = false := by assumption) (m_wdog : kp .wdog = false := by assumption)
    (m_link : kp .link = false := by assumption) (m_txn : kp .txn = false := by assumption)
    (m_sta : kp .sta = false := by assumption) (m_sec : kp .sec = false := by assumption)
    (m_ser : kp .ser = false := by assumption) (m_media : kp .media = false := by assumption)
    (m_upd : kp .upd = false := by assumption) (m_flash : kp .flash = false := by assumption) :
    KeptR kp s0 (execCoreReset e s) := by
  unfold execCoreReset
  repeat' split
  all_goals simp_all

@[simp] theorem execBootTimerExpiry_kept {kp : Part → Bool} {s0 : State} (s : State) (hk0 : Kept kp s0 s)
    (m_time : kp .time = false := by assumption) (m_cyc : kp .cyc = false := by assumption)
    (m_evq : kp .evq = false := by assumption) (m_trace : kp .trace = false := by assumption)
    (m_bus : kp .bus = false := by assumption) (m_cfg : kp .cfg = false := by assumption)
    (m_mode : kp .mode = false := by assumption) (m_safe : kp .safe = false := by assumption)
    (m_field : kp .field = false := by assumption) (m_health : kp .health = false := by assumption)
    (m_inj : kp .inj = false := by assumption) (m_adc : kp .adc = false := by assumption)
    (m_panel : kp .panel = false := by assumption) (m_wdog : kp .wdog = false := by assumption)
    (m_link : kp .link = false := by assumption) (m_txn : kp .txn = false := by assumption)
    (m_sta : kp .sta = false := by assumption) (m_sec : kp .sec = false := by assumption)
    (m_ser : kp .ser = false := by assumption) (m_media : kp .media = false := by assumption)
    (m_upd : kp .upd = false := by assumption) (m_flash : kp .flash = false := by assumption) :
    KeptR kp s0 (execBootTimerExpiry s) := by
  unfold execBootTimerExpiry
  repeat' split
  all_goals simp_all

@[simp] theorem execBootStable_kept {kp : Part → Bool} {s0 : State} (s : State) (hk0 : Kept kp s0 s)
    (m_time : kp .time = false := by assumption) (m_mode : kp .mode = false := by assumption) :
    KeptR kp s0 (execBootStable s) := by
  unfold execBootStable
  try dsimp only
  repeat' split
  all_goals simp_all (maxDischargeDepth := 15)

@[simp] theorem execSupplyMonitorTrip_kept {kp : Part → Bool} {s0 : State} (lineDomain : Bool) (s : State)
    (hk0 : Kept kp s0 s)
    (m_mem : kp .mem = false := by assumption) (m_time : kp .time = false := by assumption)
    (m_cyc : kp .cyc = false := by assumption) (m_evq : kp .evq = false := by assumption)
    (m_trace : kp .trace = false := by assumption) (m_bus : kp .bus = false := by assumption)
    (m_cfg : kp .cfg = false := by assumption) (m_mode : kp .mode = false := by assumption)
    (m_safe : kp .safe = false := by assumption) (m_supply : kp .supply = false := by assumption)
    (m_field : kp .field = false := by assumption) (m_health : kp .health = false := by assumption)
    (m_inj : kp .inj = false := by assumption) (m_adc : kp .adc = false := by assumption)
    (m_panel : kp .panel = false := by assumption) (m_wdog : kp .wdog = false := by assumption)
    (m_link : kp .link = false := by assumption) (m_txn : kp .txn = false := by assumption)
    (m_sta : kp .sta = false := by assumption) (m_sec : kp .sec = false := by assumption)
    (m_ser : kp .ser = false := by assumption) (m_media : kp .media = false := by assumption)
    (m_upd : kp .upd = false := by assumption) (m_flash : kp .flash = false := by assumption) :
    KeptR kp s0 (execSupplyMonitorTrip lineDomain s) := by
  unfold execSupplyMonitorTrip
  repeat' split
  all_goals simp_all

@[simp] theorem execWdcCoreReset_kept {kp : Part → Bool} {s0 : State} (s : State) (hk0 : Kept kp s0 s)
    (m_evq : kp .evq = false := by assumption) (m_trace : kp .trace = false := by assumption)
    (m_bus : kp .bus = false := by assumption) (m_cfg : kp .cfg = false := by assumption)
    (m_mode : kp .mode = false := by assumption) (m_safe : kp .safe = false := by assumption)
    (m_field : kp .field = false := by assumption) (m_health : kp .health = false := by assumption)
    (m_adc : kp .adc = false := by assumption) (m_panel : kp .panel = false := by assumption)
    (m_wdog : kp .wdog = false := by assumption) (m_txn : kp .txn = false := by assumption)
    (m_sta : kp .sta = false := by assumption) (m_sec : kp .sec = false := by assumption)
    (m_ser : kp .ser = false := by assumption) (m_media : kp .media = false := by assumption)
    (m_upd : kp .upd = false := by assumption) :
    KeptR kp s0 (execWdcCoreReset s) := by
  unfold execWdcCoreReset
  repeat' split
  all_goals simp_all

/-! ### Modes -/

@[simp] theorem modeEffect_kept {kp : Part → Bool} {s0 : State} (s : State) (c : Nat) (hk0 : Kept kp s0 s)
    (m_cyc : kp .cyc = false := by assumption) (m_evq : kp .evq = false := by assumption)
    (m_trace : kp .trace = false := by assumption) (m_bus : kp .bus = false := by assumption)
    (m_cfg : kp .cfg = false := by assumption) (m_mode : kp .mode = false := by assumption)
    (m_safe : kp .safe = false := by assumption) (m_field : kp .field = false := by assumption)
    (m_health : kp .health = false := by assumption) (m_inj : kp .inj = false := by assumption)
    (m_adc : kp .adc = false := by assumption) (m_panel : kp .panel = false := by assumption)
    (m_wdog : kp .wdog = false := by assumption) (m_link : kp .link = false := by assumption)
    (m_txn : kp .txn = false := by assumption) (m_sta : kp .sta = false := by assumption)
    (m_sec : kp .sec = false := by assumption) (m_ser : kp .ser = false := by assumption)
    (m_media : kp .media = false := by assumption) (m_upd : kp .upd = false := by assumption) :
    Kept kp s0 (modeEffect s c) := by
  unfold modeEffect
  dsimp only
  repeat' split
  all_goals
    repeat' first
      | (with_reducible assumption)
      | (with_reducible refine refresh_kept _ ?_)
      | (with_reducible refine changeMode_kept _ _ ?_)
      | (with_reducible refine leaveSafe_kept _ ?_)
      | (with_reducible refine enterRun_kept _ ?_)
      | (with_reducible refine trigger_kept _ _ _ ?_)
      | (with_reducible refine coreEnter_kept _ _ ?_)
      | (with_reducible refine wake_kept _ _ ?_)
      | (with_reducible refine Kept.ite ?_ ?_)
  all_goals simp_all

@[simp] theorem modeCommandIn_kept {kp : Part → Bool} {s0 : State} (m : Mode) (held : List Txn) (s : State) (c : Nat)
    (hk0 : Kept kp s0 s)
    (m_cyc : kp .cyc = false := by assumption) (m_evq : kp .evq = false := by assumption)
    (m_trace : kp .trace = false := by assumption) (m_bus : kp .bus = false := by assumption)
    (m_cfg : kp .cfg = false := by assumption) (m_mode : kp .mode = false := by assumption)
    (m_safe : kp .safe = false := by assumption) (m_field : kp .field = false := by assumption)
    (m_health : kp .health = false := by assumption) (m_inj : kp .inj = false := by assumption)
    (m_adc : kp .adc = false := by assumption) (m_panel : kp .panel = false := by assumption)
    (m_wdog : kp .wdog = false := by assumption) (m_link : kp .link = false := by assumption)
    (m_txn : kp .txn = false := by assumption) (m_sta : kp .sta = false := by assumption)
    (m_sec : kp .sec = false := by assumption) (m_ser : kp .ser = false := by assumption)
    (m_media : kp .media = false := by assumption) (m_upd : kp .upd = false := by assumption) :
    Kept kp s0 (modeCommandIn m held s c).1 := by
  unfold modeCommandIn
  try dsimp only
  repeat' split
  all_goals simp_all (maxDischargeDepth := 9)

@[simp] theorem modeCommand_kept {kp : Part → Bool} {s0 : State} (m : Mode) (s : State) (c : Nat)
    (hk0 : Kept kp s0 s)
    (m_cyc : kp .cyc = false := by assumption) (m_evq : kp .evq = false := by assumption)
    (m_trace : kp .trace = false := by assumption) (m_bus : kp .bus = false := by assumption)
    (m_cfg : kp .cfg = false := by assumption) (m_mode : kp .mode = false := by assumption)
    (m_safe : kp .safe = false := by assumption) (m_field : kp .field = false := by assumption)
    (m_health : kp .health = false := by assumption) (m_inj : kp .inj = false := by assumption)
    (m_adc : kp .adc = false := by assumption) (m_panel : kp .panel = false := by assumption)
    (m_wdog : kp .wdog = false := by assumption) (m_link : kp .link = false := by assumption)
    (m_txn : kp .txn = false := by assumption) (m_sta : kp .sta = false := by assumption)
    (m_sec : kp .sec = false := by assumption) (m_ser : kp .ser = false := by assumption)
    (m_media : kp .media = false := by assumption) (m_upd : kp .upd = false := by assumption) :
    Kept kp s0 (modeCommand m s c) := by
  unfold modeCommand
  try dsimp only
  repeat' split
  all_goals simp_all (maxDischargeDepth := 9)

@[simp] theorem modecmdTake_kept {kp : Part → Bool} {s0 : State} (s : State) (v : Acc) (w : Word)
    (hk0 : Kept kp s0 s)
    (m_evq : kp .evq = false := by assumption) (m_trace : kp .trace = false := by assumption)
    (m_bus : kp .bus = false := by assumption) (m_mode : kp .mode = false := by assumption)
    (m_safe : kp .safe = false := by assumption) (m_adc : kp .adc = false := by assumption)
    (m_wdog : kp .wdog = false := by assumption) :
    Kept kp s0 (modecmdTake s v w) := by
  unfold modecmdTake
  try dsimp only
  repeat' split
  all_goals simp_all (maxDischargeDepth := 9)

@[simp] theorem modecmdRun_kept {kp : Part → Bool} {s0 : State} (m : Mode) (s : State) (l : List Word)
    (hk0 : Kept kp s0 s)
    (m_cyc : kp .cyc = false := by assumption) (m_evq : kp .evq = false := by assumption)
    (m_trace : kp .trace = false := by assumption) (m_bus : kp .bus = false := by assumption)
    (m_cfg : kp .cfg = false := by assumption) (m_mode : kp .mode = false := by assumption)
    (m_safe : kp .safe = false := by assumption) (m_field : kp .field = false := by assumption)
    (m_health : kp .health = false := by assumption) (m_inj : kp .inj = false := by assumption)
    (m_adc : kp .adc = false := by assumption) (m_panel : kp .panel = false := by assumption)
    (m_wdog : kp .wdog = false := by assumption) (m_link : kp .link = false := by assumption)
    (m_txn : kp .txn = false := by assumption) (m_sta : kp .sta = false := by assumption)
    (m_sec : kp .sec = false := by assumption) (m_ser : kp .ser = false := by assumption)
    (m_media : kp .media = false := by assumption) (m_upd : kp .upd = false := by assumption) :
    Kept kp s0 (modecmdRun m s l) := by
  unfold modecmdRun
  refine Kept.foldl _ _ _ (fun u hu x => ?_) hk0
  split
  · exact modeCommand_kept _ _ _ hu
  · exact hu

@[simp] theorem regModecmd_kept {kp : Part → Bool} {s0 : State} (s : State) (v : Acc) (w : Word) (hk0 : Kept kp s0 s)
    (m_cyc : kp .cyc = false := by assumption) (m_evq : kp .evq = false := by assumption)
    (m_trace : kp .trace = false := by assumption) (m_bus : kp .bus = false := by assumption)
    (m_cfg : kp .cfg = false := by assumption) (m_mode : kp .mode = false := by assumption)
    (m_safe : kp .safe = false := by assumption) (m_field : kp .field = false := by assumption)
    (m_health : kp .health = false := by assumption) (m_inj : kp .inj = false := by assumption)
    (m_adc : kp .adc = false := by assumption) (m_panel : kp .panel = false := by assumption)
    (m_wdog : kp .wdog = false := by assumption) (m_link : kp .link = false := by assumption)
    (m_txn : kp .txn = false := by assumption) (m_sta : kp .sta = false := by assumption)
    (m_sec : kp .sec = false := by assumption) (m_ser : kp .ser = false := by assumption)
    (m_media : kp .media = false := by assumption) (m_upd : kp .upd = false := by assumption) :
    Kept kp s0 (regModecmd s v w).1 := by
  unfold regModecmd
  dsimp only
  repeat' split
  all_goals simp_all (maxDischargeDepth := 9)

@[simp] theorem modeLine_kept {kp : Part → Bool} {s0 : State} (s : State) (t : Txn) (hk0 : Kept kp s0 s)
    (m_cyc : kp .cyc = false := by assumption) (m_evq : kp .evq = false := by assumption)
    (m_trace : kp .trace = false := by assumption) (m_bus : kp .bus = false := by assumption)
    (m_cfg : kp .cfg = false := by assumption) (m_mode : kp .mode = false := by assumption)
    (m_safe : kp .safe = false := by assumption) (m_field : kp .field = false := by assumption)
    (m_health : kp .health = false := by assumption) (m_inj : kp .inj = false := by assumption)
    (m_adc : kp .adc = false := by assumption) (m_panel : kp .panel = false := by assumption)
    (m_wdog : kp .wdog = false := by assumption) (m_link : kp .link = false := by assumption)
    (m_txn : kp .txn = false := by assumption) (m_sta : kp .sta = false := by assumption)
    (m_sec : kp .sec = false := by assumption) (m_ser : kp .ser = false := by assumption)
    (m_media : kp .media = false := by assumption) (m_upd : kp .upd = false := by assumption) :
    Kept kp s0 (modeLine s t) := by
  unfold modeLine
  dsimp only
  repeat' split
  all_goals simp_all

@[simp] theorem modeRow_kept {kp : Part → Bool} {s0 : State} (s : State) (via : Via) (c : Nat) (hk0 : Kept kp s0 s)
    (m_mem : kp .mem = false := by assumption) (m_cyc : kp .cyc = false := by assumption)
    (m_evq : kp .evq = false := by assumption) (m_trace : kp .trace = false := by assumption)
    (m_bus : kp .bus = false := by assumption) (m_cfg : kp .cfg = false := by assumption)
    (m_mode : kp .mode = false := by assumption) (m_safe : kp .safe = false := by assumption)
    (m_field : kp .field = false := by assumption) (m_health : kp .health = false := by assumption)
    (m_inj : kp .inj = false := by assumption) (m_adc : kp .adc = false := by assumption)
    (m_panel : kp .panel = false := by assumption) (m_wdog : kp .wdog = false := by assumption)
    (m_link : kp .link = false := by assumption) (m_txn : kp .txn = false := by assumption)
    (m_sta : kp .sta = false := by assumption) (m_sec : kp .sec = false := by assumption)
    (m_ser : kp .ser = false := by assumption) (m_media : kp .media = false := by assumption)
    (m_upd : kp .upd = false := by assumption) :
    KeptR kp s0 (modeRow s via c) := by
  unfold modeRow
  split
  · exact served_kept _ _ _ (fun u hu v => regModecmd_kept _ _ _ hu) hk0
  · refine withTxn_kept _ _ _ _ _ _ (fun u hu x => ?_) hk0
    dsimp only
    split
    · exact hu
    · exact modeLine_kept _ _ hu

@[simp] theorem execGoSetup_kept {kp : Part → Bool} {s0 : State} (via : Via) (s : State) (hk0 : Kept kp s0 s)
    (m_mem : kp .mem = false := by assumption) (m_cyc : kp .cyc = false := by assumption)
    (m_evq : kp .evq = false := by assumption) (m_trace : kp .trace = false := by assumption)
    (m_bus : kp .bus = false := by assumption) (m_cfg : kp .cfg = false := by assumption)
    (m_mode : kp .mode = false := by assumption) (m_safe : kp .safe = false := by assumption)
    (m_field : kp .field = false := by assumption) (m_health : kp .health = false := by assumption)
    (m_inj : kp .inj = false := by assumption) (m_adc : kp .adc = false := by assumption)
    (m_panel : kp .panel = false := by assumption) (m_wdog : kp .wdog = false := by assumption)
    (m_link : kp .link = false := by assumption) (m_txn : kp .txn = false := by assumption)
    (m_sta : kp .sta = false := by assumption) (m_sec : kp .sec = false := by assumption)
    (m_ser : kp .ser = false := by assumption) (m_media : kp .media = false := by assumption)
    (m_upd : kp .upd = false := by assumption) :
    KeptR kp s0 (execGoSetup via s) := by
  unfold execGoSetup
  simp_all

@[simp] theorem execGoRun_kept {kp : Part → Bool} {s0 : State} (via : Via) (s : State) (hk0 : Kept kp s0 s)
    (m_mem : kp .mem = false := by assumption) (m_cyc : kp .cyc = false := by assumption)
    (m_evq : kp .evq = false := by assumption) (m_trace : kp .trace = false := by assumption)
    (m_bus : kp .bus = false := by assumption) (m_cfg : kp .cfg = false := by assumption)
    (m_mode : kp .mode = false := by assumption) (m_safe : kp .safe = false := by assumption)
    (m_field : kp .field = false := by assumption) (m_health : kp .health = false := by assumption)
    (m_inj : kp .inj = false := by assumption) (m_adc : kp .adc = false := by assumption)
    (m_panel : kp .panel = false := by assumption) (m_wdog : kp .wdog = false := by assumption)
    (m_link : kp .link = false := by assumption) (m_txn : kp .txn = false := by assumption)
    (m_sta : kp .sta = false := by assumption) (m_sec : kp .sec = false := by assumption)
    (m_ser : kp .ser = false := by assumption) (m_media : kp .media = false := by assumption)
    (m_upd : kp .upd = false := by assumption) :
    KeptR kp s0 (execGoRun via s) := by
  unfold execGoRun
  simp_all

@[simp] theorem execGoSafe_kept {kp : Part → Bool} {s0 : State} (via : Via) (s : State) (hk0 : Kept kp s0 s)
    (m_mem : kp .mem = false := by assumption) (m_cyc : kp .cyc = false := by assumption)
    (m_evq : kp .evq = false := by assumption) (m_trace : kp .trace = false := by assumption)
    (m_bus : kp .bus = false := by assumption) (m_cfg : kp .cfg = false := by assumption)
    (m_mode : kp .mode = false := by assumption) (m_safe : kp .safe = false := by assumption)
    (m_field : kp .field = false := by assumption) (m_health : kp .health = false := by assumption)
    (m_inj : kp .inj = false := by assumption) (m_adc : kp .adc = false := by assumption)
    (m_panel : kp .panel = false := by assumption) (m_wdog : kp .wdog = false := by assumption)
    (m_link : kp .link = false := by assumption) (m_txn : kp .txn = false := by assumption)
    (m_sta : kp .sta = false := by assumption) (m_sec : kp .sec = false := by assumption)
    (m_ser : kp .ser = false := by assumption) (m_media : kp .media = false := by assumption)
    (m_upd : kp .upd = false := by assumption) :
    KeptR kp s0 (execGoSafe via s) := by
  unfold execGoSafe
  simp_all

@[simp] theorem execResume_kept {kp : Part → Bool} {s0 : State} (via : Via) (s : State) (hk0 : Kept kp s0 s)
    (m_mem : kp .mem = false := by assumption) (m_cyc : kp .cyc = false := by assumption)
    (m_evq : kp .evq = false := by assumption) (m_trace : kp .trace = false := by assumption)
    (m_bus : kp .bus = false := by assumption) (m_cfg : kp .cfg = false := by assumption)
    (m_mode : kp .mode = false := by assumption) (m_safe : kp .safe = false := by assumption)
    (m_field : kp .field = false := by assumption) (m_health : kp .health = false := by assumption)
    (m_inj : kp .inj = false := by assumption) (m_adc : kp .adc = false := by assumption)
    (m_panel : kp .panel = false := by assumption) (m_wdog : kp .wdog = false := by assumption)
    (m_link : kp .link = false := by assumption) (m_txn : kp .txn = false := by assumption)
    (m_sta : kp .sta = false := by assumption) (m_sec : kp .sec = false := by assumption)
    (m_ser : kp .ser = false := by assumption) (m_media : kp .media = false := by assumption)
    (m_upd : kp .upd = false := by assumption) :
    KeptR kp s0 (execResume via s) := by
  unfold execResume
  simp_all

@[simp] theorem execGoMinimal_kept {kp : Part → Bool} {s0 : State} (via : Via) (s : State) (hk0 : Kept kp s0 s)
    (m_mem : kp .mem = false := by assumption) (m_cyc : kp .cyc = false := by assumption)
    (m_evq : kp .evq = false := by assumption) (m_trace : kp .trace = false := by assumption)
    (m_bus : kp .bus = false := by assumption) (m_cfg : kp .cfg = false := by assumption)
    (m_mode : kp .mode = false := by assumption) (m_safe : kp .safe = false := by assumption)
    (m_field : kp .field = false := by assumption) (m_health : kp .health = false := by assumption)
    (m_inj : kp .inj = false := by assumption) (m_adc : kp .adc = false := by assumption)
    (m_panel : kp .panel = false := by assumption) (m_wdog : kp .wdog = false := by assumption)
    (m_link : kp .link = false := by assumption) (m_txn : kp .txn = false := by assumption)
    (m_sta : kp .sta = false := by assumption) (m_sec : kp .sec = false := by assumption)
    (m_ser : kp .ser = false := by assumption) (m_media : kp .media = false := by assumption)
    (m_upd : kp .upd = false := by assumption) :
    KeptR kp s0 (execGoMinimal via s) := by
  unfold execGoMinimal
  simp_all

@[simp] theorem execReboot_kept {kp : Part → Bool} {s0 : State} (via : Via) (s : State) (hk0 : Kept kp s0 s)
    (m_mem : kp .mem = false := by assumption) (m_cyc : kp .cyc = false := by assumption)
    (m_evq : kp .evq = false := by assumption) (m_trace : kp .trace = false := by assumption)
    (m_bus : kp .bus = false := by assumption) (m_cfg : kp .cfg = false := by assumption)
    (m_mode : kp .mode = false := by assumption) (m_safe : kp .safe = false := by assumption)
    (m_field : kp .field = false := by assumption) (m_health : kp .health = false := by assumption)
    (m_inj : kp .inj = false := by assumption) (m_adc : kp .adc = false := by assumption)
    (m_panel : kp .panel = false := by assumption) (m_wdog : kp .wdog = false := by assumption)
    (m_link : kp .link = false := by assumption) (m_txn : kp .txn = false := by assumption)
    (m_sta : kp .sta = false := by assumption) (m_sec : kp .sec = false := by assumption)
    (m_ser : kp .ser = false := by assumption) (m_media : kp .media = false := by assumption)
    (m_upd : kp .upd = false := by assumption) :
    KeptR kp s0 (execReboot via s) := by
  unfold execReboot
  simp_all

@[simp] theorem execRest_kept {kp : Part → Bool} {s0 : State} (via : Via) (s : State) (hk0 : Kept kp s0 s)
    (m_mem : kp .mem = false := by assumption) (m_cyc : kp .cyc = false := by assumption)
    (m_evq : kp .evq = false := by assumption) (m_trace : kp .trace = false := by assumption)
    (m_bus : kp .bus = false := by assumption) (m_cfg : kp .cfg = false := by assumption)
    (m_mode : kp .mode = false := by assumption) (m_safe : kp .safe = false := by assumption)
    (m_field : kp .field = false := by assumption) (m_health : kp .health = false := by assumption)
    (m_inj : kp .inj = false := by assumption) (m_adc : kp .adc = false := by assumption)
    (m_panel : kp .panel = false := by assumption) (m_wdog : kp .wdog = false := by assumption)
    (m_link : kp .link = false := by assumption) (m_txn : kp .txn = false := by assumption)
    (m_sta : kp .sta = false := by assumption) (m_sec : kp .sec = false := by assumption)
    (m_ser : kp .ser = false := by assumption) (m_media : kp .media = false := by assumption)
    (m_upd : kp .upd = false := by assumption) :
    KeptR kp s0 (execRest via s) := by
  unfold execRest
  simp_all

@[simp] theorem execWake_kept {kp : Part → Bool} {s0 : State} (via : Via) (s : State) (hk0 : Kept kp s0 s)
    (m_mem : kp .mem = false := by assumption) (m_cyc : kp .cyc = false := by assumption)
    (m_evq : kp .evq = false := by assumption) (m_trace : kp .trace = false := by assumption)
    (m_bus : kp .bus = false := by assumption) (m_cfg : kp .cfg = false := by assumption)
    (m_mode : kp .mode = false := by assumption) (m_safe : kp .safe = false := by assumption)
    (m_field : kp .field = false := by assumption) (m_health : kp .health = false := by assumption)
    (m_inj : kp .inj = false := by assumption) (m_adc : kp .adc = false := by assumption)
    (m_panel : kp .panel = false := by assumption) (m_wdog : kp .wdog = false := by assumption)
    (m_link : kp .link = false := by assumption) (m_txn : kp .txn = false := by assumption)
    (m_sta : kp .sta = false := by assumption) (m_sec : kp .sec = false := by assumption)
    (m_ser : kp .ser = false := by assumption) (m_media : kp .media = false := by assumption)
    (m_upd : kp .upd = false := by assumption) :
    KeptR kp s0 (execWake via s) := by
  unfold execWake
  simp_all

@[simp] theorem restEnter_kept {kp : Part → Bool} {s0 : State} (s : State) (hk0 : Kept kp s0 s)
    (m_evq : kp .evq = false := by assumption) (m_trace : kp .trace = false := by assumption)
    (m_mode : kp .mode = false := by assumption) (m_safe : kp .safe = false := by assumption)
    (m_adc : kp .adc = false := by assumption) (m_wdog : kp .wdog = false := by assumption) :
    Kept kp s0 (restEnter s) := by
  unfold restEnter
  simp_all (maxDischargeDepth := 9)

@[simp] theorem execRestEntry_kept {kp : Part → Bool} {s0 : State} (s : State) (hk0 : Kept kp s0 s)
    (m_evq : kp .evq = false := by assumption) (m_trace : kp .trace = false := by assumption)
    (m_mode : kp .mode = false := by assumption) (m_safe : kp .safe = false := by assumption)
    (m_adc : kp .adc = false := by assumption) (m_wdog : kp .wdog = false := by assumption) :
    KeptR kp s0 (execRestEntry s) := by
  unfold execRestEntry
  repeat' split
  all_goals simp_all

@[simp] theorem execHoldSenseSample_kept {kp : Part → Bool} {s0 : State} (mv : Nat) (age : Nat) (s : State)
    (hk0 : Kept kp s0 s)
    (m_evq : kp .evq = false := by assumption) (m_trace : kp .trace = false := by assumption)
    (m_mode : kp .mode = false := by assumption) (m_safe : kp .safe = false := by assumption)
    (m_health : kp .health = false := by assumption) (m_adc : kp .adc = false := by assumption)
    (m_wdog : kp .wdog = false := by assumption) :
    KeptR kp s0 (execHoldSenseSample mv age s) := by
  unfold execHoldSenseSample
  dsimp only
  repeat' split
  all_goals simp_all

@[simp] theorem lossRecord_kept {kp : Part → Bool} {s0 : State} (s : State) (hk0 : Kept kp s0 s)
    (m_trace : kp .trace = false := by assumption) :
    Kept kp s0 (lossRecord s) := by
  unfold lossRecord
  simp_all

@[simp] theorem lossCommit_kept {kp : Part → Bool} {s0 : State} (s : State) (hk0 : Kept kp s0 s)
    (m_evq : kp .evq = false := by assumption) (m_trace : kp .trace = false := by assumption)
    (m_cfg : kp .cfg = false := by assumption) (m_mode : kp .mode = false := by assumption) :
    Kept kp s0 (lossCommit s) := by
  unfold lossCommit
  repeat' split
  all_goals simp_all

@[simp] theorem execPwrfailAssert_kept {kp : Part → Bool} {s0 : State} (s : State) (hk0 : Kept kp s0 s)
    (m_evq : kp .evq = false := by assumption) (m_trace : kp .trace = false := by assumption)
    (m_cfg : kp .cfg = false := by assumption) (m_mode : kp .mode = false := by assumption)
    (m_safe : kp .safe = false := by assumption) (m_field : kp .field = false := by assumption)
    (m_inj : kp .inj = false := by assumption) (m_adc : kp .adc = false := by assumption)
    (m_panel : kp .panel = false := by assumption) (m_wdog : kp .wdog = false := by assumption)
    (m_link : kp .link = false := by assumption) (m_txn : kp .txn = false := by assumption) :
    KeptR kp s0 (execPwrfailAssert s) := by
  unfold execPwrfailAssert
  dsimp only
  repeat' split
  all_goals simp_all (maxDischargeDepth := 9)

@[simp] theorem execPwrfailRelease_kept {kp : Part → Bool} {s0 : State} (s : State) (hk0 : Kept kp s0 s)
    (m_trace : kp .trace = false := by assumption) (m_cfg : kp .cfg = false := by assumption)
    (m_mode : kp .mode = false := by assumption) (m_safe : kp .safe = false := by assumption)
    (m_link : kp .link = false := by assumption) (m_txn : kp .txn = false := by assumption)
    (m_flash : kp .flash = false := by assumption) :
    KeptR kp s0 (execPwrfailRelease s) := by
  unfold execPwrfailRelease
  dsimp only
  repeat' split
  all_goals simp_all (maxDischargeDepth := 9)

/-! ### Sync -/

@[simp] theorem declareBackwards_kept {kp : Part → Bool} {s0 : State} (s : State) (hk0 : Kept kp s0 s)
    (m_time : kp .time = false := by assumption) (m_evq : kp .evq = false := by assumption)
    (m_trace : kp .trace = false := by assumption) (m_mode : kp .mode = false := by assumption)
    (m_link : kp .link = false := by assumption) :
    Kept kp s0 (declareBackwards s) := by
  unfold declareBackwards
  simp_all (maxDischargeDepth := 9)

@[simp] theorem backwardsCheck_kept {kp : Part → Bool} {s0 : State} (s : State) (p : Port) (seen : Bool)
    (hk0 : Kept kp s0 s)
    (m_time : kp .time = false := by assumption) (m_evq : kp .evq = false := by assumption)
    (m_trace : kp .trace = false := by assumption) (m_mode : kp .mode = false := by assumption)
    (m_link : kp .link = false := by assumption) :
    Kept kp s0 (backwardsCheck s p seen) := by
  unfold backwardsCheck
  repeat' split
  all_goals simp_all

@[simp] theorem trySample_kept {kp : Part → Bool} {s0 : State} (s : State) (b : List Byte) (readings : List Word)
    (hk0 : Kept kp s0 s)
    (m_time : kp .time = false := by assumption) (m_cyc : kp .cyc = false := by assumption)
    (m_evq : kp .evq = false := by assumption) (m_trace : kp .trace = false := by assumption)
    (m_bus : kp .bus = false := by assumption) (m_cfg : kp .cfg = false := by assumption)
    (m_mode : kp .mode = false := by assumption) (m_safe : kp .safe = false := by assumption)
    (m_field : kp .field = false := by assumption) (m_health : kp .health = false := by assumption)
    (m_inj : kp .inj = false := by assumption) (m_adc : kp .adc = false := by assumption)
    (m_panel : kp .panel = false := by assumption) (m_wdog : kp .wdog = false := by assumption)
    (m_link : kp .link = false := by assumption) (m_txn : kp .txn = false := by assumption)
    (m_sta : kp .sta = false := by assumption) (m_ser : kp .ser = false := by assumption)
    (m_upd : kp .upd = false := by assumption) (m_flash : kp .flash = false := by assumption) :
    Kept kp s0 (trySample s b readings) := by
  unfold trySample
  repeat' split
  all_goals simp_all

@[simp] theorem syncUp_kept {kp : Part → Bool} {s0 : State} (s : State) (b : List Byte) (f : LineFrame)
    (turned : Bool) (readings : List Word) (hk0 : Kept kp s0 s)
    (m_time : kp .time = false := by assumption) (m_cyc : kp .cyc = false := by assumption)
    (m_evq : kp .evq = false := by assumption) (m_trace : kp .trace = false := by assumption)
    (m_bus : kp .bus = false := by assumption) (m_cfg : kp .cfg = false := by assumption)
    (m_mode : kp .mode = false := by assumption) (m_safe : kp .safe = false := by assumption)
    (m_field : kp .field = false := by assumption) (m_health : kp .health = false := by assumption)
    (m_inj : kp .inj = false := by assumption) (m_adc : kp .adc = false := by assumption)
    (m_panel : kp .panel = false := by assumption) (m_wdog : kp .wdog = false := by assumption)
    (m_link : kp .link = false := by assumption) (m_txn : kp .txn = false := by assumption)
    (m_sta : kp .sta = false := by assumption) (m_ser : kp .ser = false := by assumption)
    (m_upd : kp .upd = false := by assumption) (m_flash : kp .flash = false := by assumption) :
    Kept kp s0 (syncUp s b f turned readings) := by
  unfold syncUp
  dsimp only
  repeat' split
  all_goals simp_all (maxDischargeDepth := 9)

@[simp] theorem syncBack_kept {kp : Part → Bool} {s0 : State} (s : State) (b : List Byte) (f : LineFrame)
    (hk0 : Kept kp s0 s)
    (m_time : kp .time = false := by assumption) :
    Kept kp s0 (syncBack s b f) := by
  unfold syncBack
  repeat' split
  all_goals simp_all

@[simp] theorem syncOwn_kept {kp : Part → Bool} {s0 : State} (s : State) (b : List Byte) (f : LineFrame)
    (hk0 : Kept kp s0 s)
    (m_time : kp .time = false := by assumption) :
    Kept kp s0 (syncOwn s b f) := by
  unfold syncOwn
  repeat' split
  all_goals simp_all

@[simp] theorem sourceTo_kept {kp : Part → Bool} {s0 : State} (s : State) (anchor : Bool) (hk0 : Kept kp s0 s)
    (m_time : kp .time = false := by assumption) (m_evq : kp .evq = false := by assumption)
    (m_trace : kp .trace = false := by assumption) :
    Kept kp s0 (sourceTo s anchor) := by
  unfold sourceTo
  simp_all

@[simp] theorem syncNode_kept {kp : Part → Bool} {s0 : State} (s : State) (p : Port) (f : LineFrame) (turned : Bool)
    (readings : List Word) (hk0 : Kept kp s0 s)
    (m_time : kp .time = false := by assumption) (m_cyc : kp .cyc = false := by assumption)
    (m_evq : kp .evq = false := by assumption) (m_trace : kp .trace = false := by assumption)
    (m_bus : kp .bus = false := by assumption) (m_cfg : kp .cfg = false := by assumption)
    (m_mode : kp .mode = false := by assumption) (m_safe : kp .safe = false := by assumption)
    (m_field : kp .field = false := by assumption) (m_health : kp .health = false := by assumption)
    (m_inj : kp .inj = false := by assumption) (m_adc : kp .adc = false := by assumption)
    (m_panel : kp .panel = false := by assumption) (m_wdog : kp .wdog = false := by assumption)
    (m_link : kp .link = false := by assumption) (m_txn : kp .txn = false := by assumption)
    (m_sta : kp .sta = false := by assumption) (m_ser : kp .ser = false := by assumption)
    (m_upd : kp .upd = false := by assumption) (m_flash : kp .flash = false := by assumption) :
    Kept kp s0 (syncNode s p f turned readings) := by
  unfold syncNode
  try dsimp only
  repeat' split
  all_goals simp_all (maxDischargeDepth := 15)

@[simp] theorem syncAtAnchor_kept {kp : Part → Bool} {s0 : State} (s : State) (f : LineFrame) (readings : List Word)
    (hk0 : Kept kp s0 s)
    (m_time : kp .time = false := by assumption) (m_cyc : kp .cyc = false := by assumption)
    (m_evq : kp .evq = false := by assumption) (m_trace : kp .trace = false := by assumption)
    (m_bus : kp .bus = false := by assumption) (m_cfg : kp .cfg = false := by assumption)
    (m_mode : kp .mode = false := by assumption) (m_safe : kp .safe = false := by assumption)
    (m_field : kp .field = false := by assumption) (m_health : kp .health = false := by assumption)
    (m_inj : kp .inj = false := by assumption) (m_adc : kp .adc = false := by assumption)
    (m_panel : kp .panel = false := by assumption) (m_wdog : kp .wdog = false := by assumption)
    (m_link : kp .link = false := by assumption) (m_txn : kp .txn = false := by assumption)
    (m_sta : kp .sta = false := by assumption) (m_ser : kp .ser = false := by assumption)
    (m_upd : kp .upd = false := by assumption) (m_flash : kp .flash = false := by assumption) :
    Kept kp s0 (syncAtAnchor s f readings) := by
  unfold syncAtAnchor
  dsimp only
  repeat' split
  all_goals simp_all

@[simp] theorem syncSeenAt_kept {kp : Part → Bool} {s0 : State} (s : State) (p : Port) (b : List Byte)
    (hk0 : Kept kp s0 s)
    (m_link : kp .link = false := by assumption) :
    Kept kp s0 (syncSeenAt s p b) := by
  unfold syncSeenAt
  repeat' split
  all_goals simp_all

@[simp] theorem syncEof_kept {kp : Part → Bool} {s0 : State} (s : State) (p : Port) (f : LineFrame) (turned : Bool)
    (readings : List Word) (hk0 : Kept kp s0 s)
    (m_time : kp .time = false := by assumption) (m_cyc : kp .cyc = false := by assumption)
    (m_evq : kp .evq = false := by assumption) (m_trace : kp .trace = false := by assumption)
    (m_bus : kp .bus = false := by assumption) (m_cfg : kp .cfg = false := by assumption)
    (m_mode : kp .mode = false := by assumption) (m_safe : kp .safe = false := by assumption)
    (m_field : kp .field = false := by assumption) (m_health : kp .health = false := by assumption)
    (m_inj : kp .inj = false := by assumption) (m_adc : kp .adc = false := by assumption)
    (m_panel : kp .panel = false := by assumption) (m_wdog : kp .wdog = false := by assumption)
    (m_link : kp .link = false := by assumption) (m_txn : kp .txn = false := by assumption)
    (m_sta : kp .sta = false := by assumption) (m_ser : kp .ser = false := by assumption)
    (m_upd : kp .upd = false := by assumption) (m_flash : kp .flash = false := by assumption) :
    Kept kp s0 (syncEof s p f turned readings) := by
  unfold syncEof
  dsimp only
  repeat' split
  all_goals simp_all (maxDischargeDepth := 9)

@[simp] theorem execSyncSend_kept {kp : Part → Bool} {s0 : State} (s : State) (hk0 : Kept kp s0 s)
    (m_time : kp .time = false := by assumption) (m_link : kp .link = false := by assumption) :
    KeptR kp s0 (execSyncSend s) := by
  unfold execSyncSend
  dsimp only
  repeat' split
  all_goals simp_all (maxDischargeDepth := 9)

/-! ### Line -/

@[simp] theorem addLine_kept {kp : Part → Bool} {s0 : State} (s : State) (t : LineTxn) (hk0 : Kept kp s0 s)
    (m_sta : kp .sta = false := by assumption) :
    Kept kp s0 (addLine s t) := by
  unfold addLine
  simp_all

@[simp] theorem askLine_kept {kp : Part → Bool} {s0 : State} (s : State) (t : LineTxn) (hk0 : Kept kp s0 s)
    (m_sta : kp .sta = false := by assumption) :
    Kept kp s0 (askLine s t) := by
  unfold askLine
  repeat' split
  all_goals simp_all

@[simp] theorem setLine_kept {kp : Part → Bool} {s0 : State} (s : State) (n : LineTxn) (hk0 : Kept kp s0 s)
    (m_sta : kp .sta = false := by assumption) :
    Kept kp s0 (setLine s n) := by
  unfold setLine
  simp_all

@[simp] theorem endLine_kept {kp : Part → Bool} {s0 : State} (s : State) (dest : Nat) (tag : Nat) (hk0 : Kept kp s0 s)
    (m_sta : kp .sta = false := by assumption) :
    Kept kp s0 (endLine s dest tag) := by
  unfold endLine
  simp_all

@[simp] theorem sealLine_kept {kp : Part → Bool} {s0 : State} (s : State) (t : LineTxn) (hk0 : Kept kp s0 s)
    (m_evq : kp .evq = false := by assumption) (m_trace : kp .trace = false := by assumption)
    (m_mode : kp .mode = false := by assumption) (m_safe : kp .safe = false := by assumption)
    (m_health : kp .health = false := by assumption) (m_adc : kp .adc = false := by assumption)
    (m_wdog : kp .wdog = false := by assumption) (m_sec : kp .sec = false := by assumption) :
    Kept kp s0 (sealLine s t).1 := by
  unfold sealLine
  dsimp only
  repeat' split
  all_goals simp_all

theorem placeLine_kept {kp : Part → Bool} {s0 : State} (room : Room) (f : Filling) (t : LineTxn) (hk0 : Kept kp s0 f.s)
    (m_evq : kp .evq = false := by assumption) (m_trace : kp .trace = false := by assumption)
    (m_mode : kp .mode = false := by assumption) (m_safe : kp .safe = false := by assumption)
    (m_health : kp .health = false := by assumption) (m_adc : kp .adc = false := by assumption)
    (m_wdog : kp .wdog = false := by assumption) (m_sta : kp .sta = false := by assumption)
    (m_sec : kp .sec = false := by assumption) :
    Kept kp s0 (placeLine room f t).s := by
  unfold placeLine
  split
  · exact hk0
  · split
    · exact hk0
    · split
      · exact hk0
      · rename_i g _
        have h := sealLine_kept f.s { t with tag := g } hk0
        generalize sealLine f.s { t with tag := g } = x at h
        simp_all

theorem placeAll_kept {kp : Part → Bool} {s0 : State} (room : Room) (f : Filling) (l : List LineTxn)
    (hk0 : Kept kp s0 f.s)
    (m_evq : kp .evq = false := by assumption) (m_trace : kp .trace = false := by assumption)
    (m_mode : kp .mode = false := by assumption) (m_safe : kp .safe = false := by assumption)
    (m_health : kp .health = false := by assumption) (m_adc : kp .adc = false := by assumption)
    (m_wdog : kp .wdog = false := by assumption) (m_sta : kp .sta = false := by assumption)
    (m_sec : kp .sec = false := by assumption) :
    Kept kp s0 (placeAll room f l).s := by
  induction l generalizing f with
  | nil => exact hk0
  | cons t r ih => exact ih _ (placeLine_kept _ _ _ hk0)

@[simp] theorem setPosWindow_kept {kp : Part → Bool} {s0 : State} (s : State) (pos : Nat) (w : Window)
    (hk0 : Kept kp s0 s)
    (m_sec : kp .sec = false := by assumption) :
    Kept kp s0 (setPosWindow s pos w) := by
  unfold setPosWindow
  simp_all

@[simp] theorem openResponse_kept {kp : Part → Bool} {s0 : State} (s : State) (t : LineTxn) (r : List Byte)
    (hk0 : Kept kp s0 s)
    (m_evq : kp .evq = false := by assumption) (m_trace : kp .trace = false := by assumption)
    (m_mode : kp .mode = false := by assumption) (m_sec : kp .sec = false := by assumption) :
    Kept kp s0 (openResponse s t r).1 := by
  unfold openResponse
  dsimp only
  repeat' split
  all_goals simp_all

@[simp] theorem responseData_kept {kp : Part → Bool} {s0 : State} (s : State) (t : LineTxn) (r : List Byte)
    (hk0 : Kept kp s0 s)
    (m_evq : kp .evq = false := by assumption) (m_trace : kp .trace = false := by assumption)
    (m_mode : kp .mode = false := by assumption) (m_sec : kp .sec = false := by assumption) :
    Kept kp s0 (responseData s t r).1 := by
  unfold responseData
  dsimp only
  repeat' split
  all_goals simp_all

/-! ### Relay -/

@[simp] theorem pullEnd_kept {kp : Part → Bool} {s0 : State} (s : State) (outcome : Nat) (result : Nat)
    (hk0 : Kept kp s0 s)
    (m_evq : kp .evq = false := by assumption) (m_bus : kp .bus = false := by assumption)
    (m_sta : kp .sta = false := by assumption) :
    Kept kp s0 (pullEnd s outcome result) := by
  unfold pullEnd
  repeat' split
  all_goals simp_all

@[simp] theorem pullFinish_kept {kp : Part → Bool} {s0 : State} (s : State) (r : PullRun) (hk0 : Kept kp s0 s)
    (m_mem : kp .mem = false := by assumption) (m_evq : kp .evq = false := by assumption)
    (m_bus : kp .bus = false := by assumption) (m_sta : kp .sta = false := by assumption) :
    Kept kp s0 (pullFinish s r) := by
  unfold pullFinish
  dsimp only
  repeat' split
  all_goals simp_all (maxDischargeDepth := 9)

@[simp] theorem pullNext_kept {kp : Part → Bool} {s0 : State} (s : State) (r : PullRun) (hk0 : Kept kp s0 s)
    (m_mem : kp .mem = false := by assumption) (m_evq : kp .evq = false := by assumption)
    (m_bus : kp .bus = false := by assumption) (m_sta : kp .sta = false := by assumption) :
    Kept kp s0 (pullNext s r) := by
  unfold pullNext
  dsimp only
  repeat' split
  all_goals simp_all

@[simp] theorem pullBad_kept {kp : Part → Bool} {s0 : State} (s : State) (r : PullRun) (hk0 : Kept kp s0 s)
    (m_mem : kp .mem = false := by assumption) (m_evq : kp .evq = false := by assumption)
    (m_bus : kp .bus = false := by assumption) (m_sta : kp .sta = false := by assumption) :
    Kept kp s0 (pullBad s r) := by
  unfold pullBad
  repeat' split
  all_goals simp_all

@[simp] theorem pullOpens_kept {kp : Part → Bool} {s0 : State} (s : State) (r : PullRun) (b : List Byte)
    (hk0 : Kept kp s0 s)
    (m_evq : kp .evq = false := by assumption) (m_trace : kp .trace = false := by assumption)
    (m_sec : kp .sec = false := by assumption) (m_media : kp .media = false := by assumption)
    (m_upd : kp .upd = false := by assumption) (m_flash : kp .flash = false := by assumption) :
    Kept kp s0 (pullOpens s r b) := by
  unfold pullOpens
  repeat' split
  all_goals simp_all

@[simp] theorem pullOrphan_kept {kp : Part → Bool} {s0 : State} (s : State) (hk0 : Kept kp s0 s)
    (m_evq : kp .evq = false := by assumption) (m_bus : kp .bus = false := by assumption)
    (m_sta : kp .sta = false := by assumption) :
    Kept kp s0 (pullOrphan s) := by
  unfold pullOrphan
  repeat' split
  all_goals simp_all

@[simp] theorem pullMissed_kept {kp : Part → Bool} {s0 : State} (s : State) (block part : Nat)
    (hk0 : Kept kp s0 s)
    (m_sta : kp .sta = false := by assumption) :
    Kept kp s0 (pullMissed s block part) := by
  unfold pullMissed
  try dsimp only
  repeat' split
  all_goals simp_all (maxDischargeDepth := 9)

@[simp] theorem pullStep_kept {kp : Part → Bool} {s0 : State} (s : State) (hk0 : Kept kp s0 s)
    (m_mem : kp .mem = false := by assumption) (m_evq : kp .evq = false := by assumption)
    (m_trace : kp .trace = false := by assumption) (m_bus : kp .bus = false := by assumption)
    (m_sta : kp .sta = false := by assumption) (m_sec : kp .sec = false := by assumption)
    (m_media : kp .media = false := by assumption) (m_upd : kp .upd = false := by assumption)
    (m_flash : kp .flash = false := by assumption) :
    Kept kp s0 (pullStep s) := by
  unfold pullStep
  dsimp only
  repeat' split
  all_goals simp_all (maxDischargeDepth := 9)

@[simp] theorem pullAsk_kept {kp : Part → Bool} {s0 : State} (s : State) (hk0 : Kept kp s0 s)
    (m_sta : kp .sta = false := by assumption) :
    Kept kp s0 (pullAsk s) := by
  unfold pullAsk
  repeat' split
  all_goals simp_all

@[simp] theorem pullPart_kept {kp : Part → Bool} {s0 : State} (s : State) (block part : Nat) (d : List Byte)
    (hk0 : Kept kp s0 s)
    (m_mem : kp .mem = false := by assumption) (m_evq : kp .evq = false := by assumption)
    (m_trace : kp .trace = false := by assumption) (m_bus : kp .bus = false := by assumption)
    (m_sta : kp .sta = false := by assumption) (m_sec : kp .sec = false := by assumption)
    (m_media : kp .media = false := by assumption) (m_upd : kp .upd = false := by assumption)
    (m_flash : kp .flash = false := by assumption) :
    Kept kp s0 (pullPart s block part d) := by
  unfold pullPart
  try dsimp only
  repeat' split
  all_goals simp_all (maxDischargeDepth := 9)

@[simp] theorem distEnd_kept {kp : Part → Bool} {s0 : State} (s : State) (hk0 : Kept kp s0 s)
    (m_evq : kp .evq = false := by assumption) (m_trace : kp .trace = false := by assumption)
    (m_sta : kp .sta = false := by assumption) (m_upd : kp .upd = false := by assumption) :
    Kept kp s0 (distEnd s) := by
  unfold distEnd
  simp_all

@[simp] theorem distSweep_kept {kp : Part → Bool} {s0 : State} (s : State) (d : DistRun) (hk0 : Kept kp s0 s)
    (m_evq : kp .evq = false := by assumption) (m_trace : kp .trace = false := by assumption)
    (m_sta : kp .sta = false := by assumption) (m_upd : kp .upd = false := by assumption) :
    Kept kp s0 (distSweep s d) := by
  unfold distSweep
  split
  · exact distEnd_kept _ hk0 m_evq m_trace m_sta m_upd
  · simp_all

@[simp] theorem distRound_kept {kp : Part → Bool} {s0 : State} (s : State) (d : DistRun) (hk0 : Kept kp s0 s)
    (m_evq : kp .evq = false := by assumption) (m_trace : kp .trace = false := by assumption)
    (m_sta : kp .sta = false := by assumption) (m_upd : kp .upd = false := by assumption) :
    Kept kp s0 (distRound s d) := by
  unfold distRound
  split
  · exact distEnd_kept _ hk0 m_evq m_trace m_sta m_upd
  · dsimp only
    split
    · exact distSweep_kept _ _ hk0
    · simp_all

@[simp] theorem distHeard_kept {kp : Part → Bool} {s0 : State} (s : State) (d : DistRun) (pos : Nat)
    (hk0 : Kept kp s0 s)
    (m_evq : kp .evq = false := by assumption) (m_trace : kp .trace = false := by assumption)
    (m_sta : kp .sta = false := by assumption) (m_upd : kp .upd = false := by assumption) :
    Kept kp s0 (distHeard s d pos) := by
  unfold distHeard
  dsimp only
  repeat' split
  all_goals simp_all

@[simp] theorem distMap_kept {kp : Part → Bool} {s0 : State} (s : State) (pos : Nat) (data : Option (List Byte))
    (hk0 : Kept kp s0 s)
    (m_evq : kp .evq = false := by assumption) (m_trace : kp .trace = false := by assumption)
    (m_sta : kp .sta = false := by assumption) (m_upd : kp .upd = false := by assumption) :
    Kept kp s0 (distMap s pos data) := by
  unfold distMap
  dsimp only
  repeat' split
  all_goals simp_all

@[simp] theorem distStatus_kept {kp : Part → Bool} {s0 : State} (s : State) (pos : Nat) (data : Option (List Byte))
    (hk0 : Kept kp s0 s)
    (m_evq : kp .evq = false := by assumption) (m_trace : kp .trace = false := by assumption)
    (m_sta : kp .sta = false := by assumption) (m_upd : kp .upd = false := by assumption) :
    Kept kp s0 (distStatus s pos data) := by
  unfold distStatus
  repeat' split
  all_goals simp_all

@[simp] theorem distAsk_kept {kp : Part → Bool} {s0 : State} (s : State) (hk0 : Kept kp s0 s)
    (m_sta : kp .sta = false := by assumption) :
    Kept kp s0 (distAsk s) := by
  unfold distAsk
  dsimp only
  repeat' split
  all_goals simp_all (maxDischargeDepth := 9)

@[simp] theorem distJoin_kept {kp : Part → Bool} {s0 : State} (s : State) (hk0 : Kept kp s0 s)
    (m_evq : kp .evq = false := by assumption) (m_trace : kp .trace = false := by assumption)
    (m_sta : kp .sta = false := by assumption) (m_upd : kp .upd = false := by assumption) :
    Kept kp s0 (distJoin s) := by
  unfold distJoin
  simp_all (maxDischargeDepth := 9)

@[simp] theorem distJoined_kept {kp : Part → Bool} {s0 : State} (s : State) (hk0 : Kept kp s0 s)
    (m_upd : kp .upd = false := by assumption) :
    Kept kp s0 (distJoined s) := by
  unfold distJoined
  repeat' split
  all_goals simp_all

@[simp] theorem execDistributeWaitEnd_kept {kp : Part → Bool} {s0 : State} (s : State) (hk0 : Kept kp s0 s)
    (m_time : kp .time = false := by assumption) (m_evq : kp .evq = false := by assumption)
    (m_trace : kp .trace = false := by assumption) (m_sta : kp .sta = false := by assumption)
    (m_upd : kp .upd = false := by assumption) :
    KeptR kp s0 (execDistributeWaitEnd s) := by
  unfold execDistributeWaitEnd
  dsimp only
  repeat' split
  all_goals simp_all

@[simp] theorem execRelaySend_kept {kp : Part → Bool} {s0 : State} (s : State) (hk0 : Kept kp s0 s)
    (m_time : kp .time = false := by assumption) (m_evq : kp .evq = false := by assumption)
    (m_trace : kp .trace = false := by assumption) (m_link : kp .link = false := by assumption)
    (m_sta : kp .sta = false := by assumption) (m_upd : kp .upd = false := by assumption) :
    KeptR kp s0 (execRelaySend s) := by
  unfold execRelaySend
  dsimp only
  repeat' split
  all_goals simp_all (maxDischargeDepth := 9)

end Sys2Proof.Machine
end

