-- ==== Sys2Proof/Laws/KeptLine.lean ====
section
/-! SUPPORT. KeptLine: every operation that answers a state keeps Kept, one lemma for each, named after it.
The starter, the returns, the queue opcodes of the line, and received frames. -/

namespace Sys2Proof.Machine

open Sys2Proof

-- One proof at a time: in the package as one text, proofs checked side by side ask for too many threads.
set_option Elab.async false

/-! ### Starter -/

@[simp] theorem samplePub_kept {kp : Part → Bool} {s0 : State} (s : State) (k : Nat) (hk0 : Kept kp s0 s)
    (m_sta : kp .sta = false := by assumption) :
    Kept kp s0 (samplePub s k) := by
  unfold samplePub
  dsimp only
  repeat' split
  all_goals simp_all

@[simp] theorem stopDone_kept {kp : Part → Bool} {s0 : State} (s : State) (hk0 : Kept kp s0 s)
    (m_time : kp .time = false := by assumption) (m_evq : kp .evq = false := by assumption)
    (m_bus : kp .bus = false := by assumption) (m_sta : kp .sta = false := by assumption) :
    Kept kp s0 (stopDone s) := by
  unfold stopDone
  dsimp only
  repeat' split
  all_goals simp_all (maxDischargeDepth := 9)

@[simp] theorem execOutPubSample_kept {kp : Part → Bool} {s0 : State} (s : State) (hk0 : Kept kp s0 s)
    (m_time : kp .time = false := by assumption) (m_evq : kp .evq = false := by assumption)
    (m_bus : kp .bus = false := by assumption) (m_sta : kp .sta = false := by assumption) :
    KeptR kp s0 (execOutPubSample s) := by
  unfold execOutPubSample
  dsimp only
  repeat' split
  all_goals simp_all

@[simp] theorem launchStatus_kept {kp : Part → Bool} {s0 : State} (s : State) (k : Nat) (hk0 : Kept kp s0 s)
    (m_mem : kp .mem = false := by assumption) :
    Kept kp s0 (launchStatus s k) := by
  unfold launchStatus
  simp_all

@[simp] theorem setIn_kept {kp : Part → Bool} {s0 : State} (s : State) (c : InCyc) (hk0 : Kept kp s0 s)
    (m_sta : kp .sta = false := by assumption) :
    Kept kp s0 (setIn s c) := by
  unfold setIn
  repeat' split
  all_goals simp_all

@[simp] theorem countSend_kept {kp : Part → Bool} {s0 : State} (s : State) (hk0 : Kept kp s0 s)
    (m_link : kp .link = false := by assumption) (m_sta : kp .sta = false := by assumption) :
    Kept kp s0 (countSend s) := by
  unfold countSend
  simp_all

@[simp] theorem countAsk_kept {kp : Part → Bool} {s0 : State} (s : State) (assign : Bool) (hk0 : Kept kp s0 s)
    (m_link : kp .link = false := by assumption) (m_sta : kp .sta = false := by assumption) :
    Kept kp s0 (countAsk s assign) := by
  unfold countAsk
  dsimp only
  repeat' split
  all_goals simp_all (maxDischargeDepth := 9)

@[simp] theorem verifyCheck_kept {kp : Part → Bool} {s0 : State} (s : State) (hk0 : Kept kp s0 s)
    (m_link : kp .link = false := by assumption) (m_sta : kp .sta = false := by assumption) :
    Kept kp s0 (verifyCheck s) := by
  unfold verifyCheck
  repeat' split
  all_goals simp_all

@[simp] theorem enumNext_kept {kp : Part → Bool} {s0 : State} (s : State)
    (hk0 : Kept kp s0 s)
    (m_link : kp .link = false := by assumption) (m_sta : kp .sta = false := by assumption) :
    Kept kp s0 (enumNext s) := by
  unfold enumNext
  try dsimp only
  repeat' split
  all_goals simp_all (maxDischargeDepth := 9)

@[simp] theorem launchSample_kept {kp : Part → Bool} {s0 : State} (s : State) (k : Nat) (hk0 : Kept kp s0 s)
    (m_sta : kp .sta = false := by assumption) :
    Kept kp s0 (launchSample s k) := by
  unfold launchSample
  repeat' split
  all_goals simp_all

@[simp] theorem launchHeats_kept {kp : Part → Bool} {s0 : State} (s : State) (v : Plan) (k : Nat)
    (l : List (Nat × HeatDesc)) (hk0 : Kept kp s0 s)
    (m_free : kp .free = false := by assumption) (m_mem : kp .mem = false := by assumption)
    (m_link : kp .link = false := by assumption) (m_sta : kp .sta = false := by assumption) :
    Kept kp s0 (launchHeats s v k l) := by
  unfold launchHeats
  generalize l.map _ = bodies
  have h := launchStatus_kept _ k (emitAll_kept s (sendPort s) bodies hk0)
  generalize launchStatus (emitAll s (sendPort s) bodies) k = u at h ⊢
  dsimp only
  generalize hv : ({ u with free := _ } : State) = w
  have hw : Kept kp s0 w := by
    subst hv
    simp_all
  generalize hc : (InCyc.mk _ _ _ _ _ _) = c
  have hs := setIn_kept w c hw
  generalize setIn w c = x at hs
  simp_all

@[simp] theorem launchAnswer_kept {kp : Part → Bool} {s0 : State} (s : State) (hk0 : Kept kp s0 s)
    (m_evq : kp .evq = false := by assumption) (m_bus : kp .bus = false := by assumption)
    (m_sta : kp .sta = false := by assumption) :
    Kept kp s0 (launchAnswer s) := by
  unfold launchAnswer
  repeat' split
  all_goals simp_all

@[simp] theorem launchEnd_kept {kp : Part → Bool} {s0 : State} (s : State) (k : Nat) (l : List (Nat × HeatDesc))
    (hk0 : Kept kp s0 s)
    (m_time : kp .time = false := by assumption) (m_evq : kp .evq = false := by assumption)
    (m_trace : kp .trace = false := by assumption) (m_link : kp .link = false := by assumption)
    (m_sta : kp .sta = false := by assumption) :
    Kept kp s0 (launchEnd s k l) := by
  unfold launchEnd
  have h := State.reach_kept s (launchAt s k + heatsNs l - 3040) hk0
  generalize s.reach (launchAt s k + heatsNs l - 3040) = u at h
  dsimp only
  generalize hv : (if (isUp u (sendPort u) && !l.isEmpty) = true then _ else _ : State) = w
  have hw : Kept kp s0 w := by
    subst hv
    split
    · exact post_kept _ _ _ _ h
    · exact h
  have hx := verifyCheck_kept _ (enumNext_kept _ (State.reach_kept w (launchAt w k + heatsNs l) hw))
  generalize verifyCheck (enumNext (w.reach (launchAt w k + heatsNs l))) = x at hx
  split
  · exact countSend_kept _ hx
  · exact hx

@[simp] theorem launch_kept {kp : Part → Bool} {s0 : State} (s : State) (v : Plan) (k : Nat) (hk0 : Kept kp s0 s)
    (m_free : kp .free = false := by assumption) (m_mem : kp .mem = false := by assumption)
    (m_time : kp .time = false := by assumption) (m_evq : kp .evq = false := by assumption)
    (m_trace : kp .trace = false := by assumption) (m_bus : kp .bus = false := by assumption)
    (m_link : kp .link = false := by assumption) (m_sta : kp .sta = false := by assumption) :
    Kept kp s0 (launch s v k) := by
  unfold launch
  exact launchEnd_kept _ _ _ (launchAnswer_kept _ (launchHeats_kept _ _ _ _ (launchSample_kept _ _ hk0)))

@[simp] theorem execHeatLaunch_kept {kp : Part → Bool} {s0 : State} (s : State) (hk0 : Kept kp s0 s)
    (m_free : kp .free = false := by assumption) (m_mem : kp .mem = false := by assumption)
    (m_time : kp .time = false := by assumption) (m_evq : kp .evq = false := by assumption)
    (m_trace : kp .trace = false := by assumption) (m_bus : kp .bus = false := by assumption)
    (m_link : kp .link = false := by assumption) (m_sta : kp .sta = false := by assumption) :
    KeptR kp s0 (execHeatLaunch s) := by
  unfold execHeatLaunch
  dsimp only
  repeat' split
  all_goals simp_all

@[simp] theorem pingStart_kept {kp : Part → Bool} {s0 : State} (s : State) (pos : Nat) (hk0 : Kept kp s0 s)
    (m_sta : kp .sta = false := by assumption) :
    Kept kp s0 (pingStart s pos) := by
  unfold pingStart
  repeat' split
  all_goals simp_all

@[simp] theorem onPing_kept {kp : Part → Bool} {s0 : State} (s : State) (pos : Nat) (f : PingRun → PingRun)
    (hk0 : Kept kp s0 s)
    (m_sta : kp .sta = false := by assumption) :
    Kept kp s0 (onPing s pos f) := by
  unfold onPing
  simp_all

@[simp] theorem pingLost_kept {kp : Part → Bool} {s0 : State} (s : State) (pos : Nat) (hk0 : Kept kp s0 s)
    (m_sta : kp .sta = false := by assumption) :
    Kept kp s0 (pingLost s pos) := by
  unfold pingLost
  simp_all

@[simp] theorem pingAsk_kept {kp : Part → Bool} {s0 : State} (s : State) (hk0 : Kept kp s0 s)
    (m_sta : kp .sta = false := by assumption) :
    Kept kp s0 (pingAsk s) := by
  unfold pingAsk
  simp_all

@[simp] theorem pingSettle_kept {kp : Part → Bool} {s0 : State} (s : State) (pos : Nat) (ok : Bool) (hk0 : Kept kp s0 s)
    (m_mem : kp .mem = false := by assumption) (m_evq : kp .evq = false := by assumption)
    (m_trace : kp .trace = false := by assumption) :
    Kept kp s0 (pingSettle s pos ok) := by
  unfold pingSettle
  dsimp only
  repeat' split
  all_goals simp_all

@[simp] theorem execPingOutcome_kept {kp : Part → Bool} {s0 : State} (pos : Nat) (s : State) (hk0 : Kept kp s0 s)
    (m_mem : kp .mem = false := by assumption) (m_evq : kp .evq = false := by assumption)
    (m_trace : kp .trace = false := by assumption) (m_sta : kp .sta = false := by assumption) :
    KeptR kp s0 (execPingOutcome pos s) := by
  unfold execPingOutcome
  repeat' split
  all_goals simp_all

@[simp] theorem readyCheck_kept {kp : Part → Bool} {s0 : State} (s : State) (c : InCyc) (hk0 : Kept kp s0 s)
    (m_evq : kp .evq = false := by assumption) (m_trace : kp .trace = false := by assumption)
    (m_sta : kp .sta = false := by assumption) :
    Kept kp s0 (readyCheck s c) := by
  unfold readyCheck
  repeat' split
  all_goals simp_all

@[simp] theorem markIn_kept {kp : Part → Bool} {s0 : State} (s : State) (c : InCyc) (h : Nat) (hk0 : Kept kp s0 s)
    (m_mem : kp .mem = false := by assumption) :
    Kept kp s0 (markIn s c h) := by
  unfold markIn
  simp_all

@[simp] theorem copyIn_kept {kp : Part → Bool} {s0 : State} (s : State) (c : InCyc) (h : Nat) (b : List Byte)
    (hk0 : Kept kp s0 s)
    (m_mem : kp .mem = false := by assumption) :
    Kept kp s0 (copyIn s c h b) := by
  unfold copyIn
  exact markIn_kept _ _ _ (Kept.foldl _ _ _ (fun _ hs _ => State.store_kept _ _ _ hs) hk0)

@[simp] theorem fillIn_kept {kp : Part → Bool} {s0 : State} (s : State) (c : InCyc) (h : Nat) (hk0 : Kept kp s0 s)
    (m_mem : kp .mem = false := by assumption) :
    Kept kp s0 (fillIn s c h) :=
  Kept.foldl _ _ _ (fun _ hs _ => State.store_kept _ _ _ hs) hk0

@[simp] theorem heatLost_kept {kp : Part → Bool} {s0 : State} (s : State) (c : InCyc) (h : Nat) (origin : Nat)
    (hk0 : Kept kp s0 s)
    (m_mem : kp .mem = false := by assumption) (m_evq : kp .evq = false := by assumption)
    (m_trace : kp .trace = false := by assumption) :
    Kept kp s0 (heatLost s c h origin) := by
  unfold heatLost
  repeat' split
  all_goals simp_all

@[simp] theorem topoMissed_kept {kp : Part → Bool} {s0 : State} (s : State) (limit : Nat) (pos : Nat) (slot : Bool)
    (hk0 : Kept kp s0 s)
    (m_mem : kp .mem = false := by assumption) (m_evq : kp .evq = false := by assumption)
    (m_trace : kp .trace = false := by assumption) (m_sta : kp .sta = false := by assumption) :
    Kept kp s0 (topoMissed s limit pos slot) := by
  unfold topoMissed
  dsimp only
  repeat' split
  all_goals simp_all

@[simp] theorem topoHeat_kept {kp : Part → Bool} {s0 : State} (s : State) (c : InCyc) (h : Nat) (b : List Byte)
    (hk0 : Kept kp s0 s)
    (m_mem : kp .mem = false := by assumption) (m_evq : kp .evq = false := by assumption)
    (m_trace : kp .trace = false := by assumption) (m_sta : kp .sta = false := by assumption) :
    Kept kp s0 (topoHeat s c h b) := by
  unfold topoHeat
  refine Kept.foldl _ _ _ (fun s hs t => ?_) hk0
  dsimp only
  repeat' split
  all_goals simp_all

@[simp] theorem heatBack_kept {kp : Part → Bool} {s0 : State} (s : State) (b : List Byte) (hk0 : Kept kp s0 s)
    (m_mem : kp .mem = false := by assumption) (m_evq : kp .evq = false := by assumption)
    (m_trace : kp .trace = false := by assumption) (m_sta : kp .sta = false := by assumption)
    (m_upd : kp .upd = false := by assumption) :
    Kept kp s0 (heatBack s b) := by
  unfold heatBack
  dsimp only
  repeat' split
  all_goals simp_all (maxDischargeDepth := 9)

@[simp] theorem heatPoisoned_kept {kp : Part → Bool} {s0 : State} (s : State) (origin : Nat)
    (hk0 : Kept kp s0 s)
    (m_mem : kp .mem = false := by assumption) (m_evq : kp .evq = false := by assumption)
    (m_trace : kp .trace = false := by assumption) (m_sta : kp .sta = false := by assumption) :
    Kept kp s0 (heatPoisoned s origin) := by
  unfold heatPoisoned
  try dsimp only
  repeat' split
  all_goals simp_all (maxDischargeDepth := 9)

@[simp] theorem mirrorOpen_kept {kp : Part → Bool} {s0 : State} (s : State) (v : Plan) (k : Nat) (hk0 : Kept kp s0 s)
    (m_mem : kp .mem = false := by assumption) (m_sta : kp .sta = false := by assumption) :
    Kept kp s0 (mirrorOpen s v k) := by
  unfold mirrorOpen
  repeat' split
  all_goals simp_all

@[simp] theorem heatMirror_kept {kp : Part → Bool} {s0 : State} (s : State) (b : List Byte) (hk0 : Kept kp s0 s)
    (m_mem : kp .mem = false := by assumption) (m_evq : kp .evq = false := by assumption)
    (m_trace : kp .trace = false := by assumption) (m_sta : kp .sta = false := by assumption) :
    Kept kp s0 (heatMirror s b) := by
  unfold heatMirror
  dsimp only
  repeat' split
  all_goals simp_all (maxDischargeDepth := 9)

@[simp] theorem execInReadyDeadline_kept {kp : Part → Bool} {s0 : State} (s : State) (hk0 : Kept kp s0 s)
    (m_mem : kp .mem = false := by assumption) (m_time : kp .time = false := by assumption)
    (m_evq : kp .evq = false := by assumption) (m_trace : kp .trace = false := by assumption)
    (m_bus : kp .bus = false := by assumption) (m_sta : kp .sta = false := by assumption) :
    KeptR kp s0 (execInReadyDeadline s) := by
  unfold execInReadyDeadline
  dsimp only
  repeat' split
  all_goals simp_all (maxDischargeDepth := 9)

@[simp] theorem gunAsk_kept {kp : Part → Bool} {s0 : State} (s : State) (hk0 : Kept kp s0 s)
    (m_sta : kp .sta = false := by assumption) :
    Kept kp s0 (gunAsk s) := by
  unfold gunAsk
  repeat' first
    | (with_reducible assumption)
    | intro x
    | simp only [kept_mk, keptC_eta]
    | (with_reducible refine eachNo_kept _ _ _ ?_ ?_)
    | (with_reducible refine askLine_kept _ _ ?_)
    | split

/-! ### Returns -/

@[simp] theorem gunEnd_kept {kp : Part → Bool} {s0 : State} (s : State) (outcome : Nat) (result : Nat)
    (hk0 : Kept kp s0 s)
    (m_evq : kp .evq = false := by assumption) (m_bus : kp .bus = false := by assumption)
    (m_sta : kp .sta = false := by assumption) :
    Kept kp s0 (gunEnd s outcome result) := by
  unfold gunEnd
  repeat' split
  all_goals simp_all

@[simp] theorem gunFinish_kept {kp : Part → Bool} {s0 : State} (s : State) (g : GunRun) (hk0 : Kept kp s0 s)
    (m_mem : kp .mem = false := by assumption) (m_evq : kp .evq = false := by assumption)
    (m_bus : kp .bus = false := by assumption) (m_sta : kp .sta = false := by assumption) :
    Kept kp s0 (gunFinish s g) := by
  unfold gunFinish
  simp_all (maxDischargeDepth := 9)

@[simp] theorem gunClosed_kept {kp : Part → Bool} {s0 : State} (s : State) (pos : Nat) (stat : Option Nat)
    (hk0 : Kept kp s0 s)
    (m_mem : kp .mem = false := by assumption) (m_evq : kp .evq = false := by assumption)
    (m_bus : kp .bus = false := by assumption) (m_sta : kp .sta = false := by assumption) :
    Kept kp s0 (gunClosed s pos stat) := by
  unfold gunClosed
  dsimp only
  repeat' split
  all_goals simp_all

@[simp] theorem gunHeard_kept {kp : Part → Bool} {s0 : State} (s : State) (pos : Nat) (stat : Nat) (hk0 : Kept kp s0 s)
    (m_sta : kp .sta = false := by assumption) :
    Kept kp s0 (gunHeard s pos stat) := by
  unfold gunHeard
  repeat' split
  all_goals simp_all

@[simp] theorem bindHeard_kept {kp : Part → Bool} {s0 : State} (s : State) (pos : Nat) (ok : Bool) (hk0 : Kept kp s0 s)
    (m_mem : kp .mem = false := by assumption) (m_evq : kp .evq = false := by assumption)
    (m_trace : kp .trace = false := by assumption) :
    Kept kp s0 (bindHeard s pos ok) := by
  unfold bindHeard
  dsimp only
  repeat' split
  all_goals simp_all (maxDischargeDepth := 9)

@[simp] theorem lineAnswered_kept {kp : Part → Bool} {s0 : State} (s : State) (t : LineTxn) (r : List Byte)
    (data : List Byte) (hk0 : Kept kp s0 s)
    (m_mem : kp .mem = false := by assumption) (m_evq : kp .evq = false := by assumption)
    (m_trace : kp .trace = false := by assumption) (m_bus : kp .bus = false := by assumption)
    (m_sta : kp .sta = false := by assumption) (m_sec : kp .sec = false := by assumption)
    (m_media : kp .media = false := by assumption) (m_upd : kp .upd = false := by assumption)
    (m_flash : kp .flash = false := by assumption) :
    Kept kp s0 (lineAnswered s t r data) := by
  unfold lineAnswered
  dsimp only
  repeat' split
  all_goals simp_all

@[simp] theorem lineLost_kept {kp : Part → Bool} {s0 : State} (s : State) (t : LineTxn) (hk0 : Kept kp s0 s)
    (m_mem : kp .mem = false := by assumption) (m_evq : kp .evq = false := by assumption)
    (m_trace : kp .trace = false := by assumption) (m_bus : kp .bus = false := by assumption)
    (m_sta : kp .sta = false := by assumption) (m_sec : kp .sec = false := by assumption)
    (m_media : kp .media = false := by assumption) (m_upd : kp .upd = false := by assumption)
    (m_flash : kp .flash = false := by assumption) :
    Kept kp s0 (lineLost s t) := by
  unfold lineLost
  repeat' split
  all_goals simp_all

@[simp] theorem pocketBack_kept {kp : Part → Bool} {s0 : State} (s : State) (r : List Byte) (hk0 : Kept kp s0 s)
    (m_mem : kp .mem = false := by assumption) (m_evq : kp .evq = false := by assumption)
    (m_trace : kp .trace = false := by assumption) (m_bus : kp .bus = false := by assumption)
    (m_mode : kp .mode = false := by assumption) (m_sta : kp .sta = false := by assumption)
    (m_sec : kp .sec = false := by assumption) (m_media : kp .media = false := by assumption)
    (m_upd : kp .upd = false := by assumption) (m_flash : kp .flash = false := by assumption) :
    Kept kp s0 (pocketBack s r) := by
  unfold pocketBack
  dsimp only
  split
  · exact hk0
  · split
    · exact hk0
    · split
      · exact hk0
      · rename_i t _ _
        have h := responseData_kept s t r hk0
        split
        · rename_i e
          rw [e] at h
          exact h
        · rename_i e
          rw [e] at h
          exact lineAnswered_kept _ _ _ _ (endLine_kept _ _ _ h)

@[simp] theorem pocketsBack_kept {kp : Part → Bool} {s0 : State} (n : Nat) (size : Nat) (region : List Byte)
    (s : State) (hk0 : Kept kp s0 s)
    (m_mem : kp .mem = false := by assumption) (m_evq : kp .evq = false := by assumption)
    (m_trace : kp .trace = false := by assumption) (m_bus : kp .bus = false := by assumption)
    (m_mode : kp .mode = false := by assumption) (m_sta : kp .sta = false := by assumption)
    (m_sec : kp .sec = false := by assumption) (m_media : kp .media = false := by assumption)
    (m_upd : kp .upd = false := by assumption) (m_flash : kp .flash = false := by assumption) :
    Kept kp s0 (pocketsBack n size region s) := by
  induction n generalizing region s with
  | zero => exact hk0
  | succ k ih =>
    unfold pocketsBack
    refine ih _ _ ?_
    split
    · exact pocketBack_kept _ _ hk0
    · exact hk0

@[simp] theorem batonBack_kept {kp : Part → Bool} {s0 : State} (s : State) (b : List Byte) (hk0 : Kept kp s0 s)
    (m_mem : kp .mem = false := by assumption) (m_evq : kp .evq = false := by assumption)
    (m_trace : kp .trace = false := by assumption) (m_bus : kp .bus = false := by assumption)
    (m_mode : kp .mode = false := by assumption) (m_sta : kp .sta = false := by assumption)
    (m_sec : kp .sec = false := by assumption) (m_media : kp .media = false := by assumption)
    (m_upd : kp .upd = false := by assumption) (m_flash : kp .flash = false := by assumption) :
    Kept kp s0 (batonBack s b) := by
  unfold batonBack
  repeat' split
  all_goals simp_all

@[simp] theorem bindOne_kept {kp : Part → Bool} {s0 : State} (s : State) (p : Nat)
    (hk0 : Kept kp s0 s)
    (m_sta : kp .sta = false := by assumption) :
    Kept kp s0 (bindOne s p) := by
  unfold bindOne
  try dsimp only
  repeat' split
  all_goals simp_all (maxDischargeDepth := 9)

@[simp] theorem bindAsk_kept {kp : Part → Bool} {s0 : State} (s : State)
    (hk0 : Kept kp s0 s)
    (m_sta : kp .sta = false := by assumption) :
    Kept kp s0 (bindAsk s) := by
  unfold bindAsk
  try dsimp only
  repeat' split
  all_goals simp_all (maxDischargeDepth := 9)

@[simp] theorem ownAsk_kept {kp : Part → Bool} {s0 : State} (s : State) (hk0 : Kept kp s0 s)
    (m_mem : kp .mem = false := by assumption) (m_evq : kp .evq = false := by assumption)
    (m_trace : kp .trace = false := by assumption) (m_bus : kp .bus = false := by assumption)
    (m_sta : kp .sta = false := by assumption) (m_sec : kp .sec = false := by assumption)
    (m_media : kp .media = false := by assumption) (m_upd : kp .upd = false := by assumption)
    (m_flash : kp .flash = false := by assumption) :
    Kept kp s0 (ownAsk s) := by
  unfold ownAsk
  try dsimp only
  repeat' split
  all_goals simp_all (maxDischargeDepth := 15)

@[simp] theorem dropUnsealable_kept {kp : Part → Bool} {s0 : State} (s : State) (hk0 : Kept kp s0 s)
    (m_mem : kp .mem = false := by assumption) (m_evq : kp .evq = false := by assumption)
    (m_trace : kp .trace = false := by assumption) (m_bus : kp .bus = false := by assumption)
    (m_sta : kp .sta = false := by assumption) :
    Kept kp s0 (dropUnsealable s) := by
  unfold dropUnsealable
  split
  · refine Kept.foldl _ _ _ (fun s hs t => ?_) (by simp_all)
    split
    · exact complete_kept _ _ _ _ _ hs
    · exact bindHeard_kept _ _ _ hs
    · exact hs
  · exact hk0

@[simp] theorem dropCancel_kept {kp : Part → Bool} {s0 : State} (s : State) (hk0 : Kept kp s0 s)
    (m_sta : kp .sta = false := by assumption) :
    Kept kp s0 (dropCancel s) := by
  unfold dropCancel
  repeat' split
  all_goals simp_all

@[simp] theorem bcastEnds_kept {kp : Part → Bool} {s0 : State} (s : State) (hk0 : Kept kp s0 s)
    (m_evq : kp .evq = false := by assumption) (m_bus : kp .bus = false := by assumption)
    (m_sta : kp .sta = false := by assumption) (m_upd : kp .upd = false := by assumption) :
    Kept kp s0 (bcastEnds s) := by
  unfold bcastEnds
  refine Kept.foldl _ _ _ (fun s hs t => ?_) (by simp_all)
  split
  · exact complete_kept _ _ _ _ _ hs
  · exact distJoined_kept _ hs
  · exact hs

@[simp] theorem sendBaton_kept {kp : Part → Bool} {s0 : State} (s : State) (v : Plan) (room : Nat) (hk0 : Kept kp s0 s)
    (m_mem : kp .mem = false := by assumption) (m_evq : kp .evq = false := by assumption)
    (m_trace : kp .trace = false := by assumption) (m_bus : kp .bus = false := by assumption)
    (m_mode : kp .mode = false := by assumption) (m_safe : kp .safe = false := by assumption)
    (m_health : kp .health = false := by assumption) (m_adc : kp .adc = false := by assumption)
    (m_wdog : kp .wdog = false := by assumption) (m_link : kp .link = false := by assumption)
    (m_sta : kp .sta = false := by assumption) (m_sec : kp .sec = false := by assumption)
    (m_media : kp .media = false := by assumption) (m_upd : kp .upd = false := by assumption)
    (m_flash : kp .flash = false := by assumption) :
    Kept kp s0 (sendBaton s v room) := by
  unfold sendBaton
  dsimp only
  have h := dropUnsealable_kept _ (dropCancel_kept _ (ownAsk_kept s hk0))
  generalize dropUnsealable (dropCancel (ownAsk s)) = u at h
  generalize pocketCount u v room = n
  generalize ({ bytes := room - 32 - 16 * v.pocketSize * n, pockets := n, quota := v.quota } : Room) = lim
  have hp := placeAll_kept lim { s := u, count := 0, bytes := [], uni := [], stop := false } u.sta.txns h
  generalize placeAll lim { s := u, count := 0, bytes := [], uni := [], stop := false } u.sta.txns = f at hp
  have he := emit_kept f.s (sendPort u) (batonBody f.s f v.pocketSize n v.quota) none hp
  exact bcastEnds_kept _ (by simp_all)

@[simp] theorem execBatonSend_kept {kp : Part → Bool} {s0 : State} (s : State) (hk0 : Kept kp s0 s)
    (m_mem : kp .mem = false := by assumption) (m_evq : kp .evq = false := by assumption)
    (m_trace : kp .trace = false := by assumption) (m_bus : kp .bus = false := by assumption)
    (m_mode : kp .mode = false := by assumption) (m_safe : kp .safe = false := by assumption)
    (m_health : kp .health = false := by assumption) (m_adc : kp .adc = false := by assumption)
    (m_wdog : kp .wdog = false := by assumption) (m_link : kp .link = false := by assumption)
    (m_sta : kp .sta = false := by assumption) (m_sec : kp .sec = false := by assumption)
    (m_media : kp .media = false := by assumption) (m_upd : kp .upd = false := by assumption)
    (m_flash : kp .flash = false := by assumption) :
    KeptR kp s0 (execBatonSend s) := by
  unfold execBatonSend
  split
  · exact hk0
  · split
    · exact hk0
    · exact sendBaton_kept _ _ _ hk0

@[simp] theorem execTxnRetry_kept {kp : Part → Bool} {s0 : State} (dest : Nat) (tag : Nat) (s : State)
    (hk0 : Kept kp s0 s)
    (m_time : kp .time = false := by assumption) (m_sta : kp .sta = false := by assumption) :
    KeptR kp s0 (execTxnRetry dest tag s) := by
  unfold execTxnRetry
  dsimp only
  repeat' split
  all_goals simp_all

@[simp] theorem execTxnLost_kept {kp : Part → Bool} {s0 : State} (dest : Nat) (tag : Nat) (s : State)
    (hk0 : Kept kp s0 s)
    (m_mem : kp .mem = false := by assumption) (m_time : kp .time = false := by assumption)
    (m_evq : kp .evq = false := by assumption) (m_trace : kp .trace = false := by assumption)
    (m_bus : kp .bus = false := by assumption) (m_sta : kp .sta = false := by assumption)
    (m_sec : kp .sec = false := by assumption) (m_media : kp .media = false := by assumption)
    (m_upd : kp .upd = false := by assumption) (m_flash : kp .flash = false := by assumption) :
    KeptR kp s0 (execTxnLost dest tag s) := by
  unfold execTxnLost
  dsimp only
  repeat' split
  all_goals simp_all (maxDischargeDepth := 9)

/-! ### Master -/

@[simp] theorem denyCmd_kept {kp : Part → Bool} {s0 : State} (s : State) (p : Path) (d : Descriptor) (code : Nat)
    (hk0 : Kept kp s0 s)
    (m_evq : kp .evq = false := by assumption) (m_bus : kp .bus = false := by assumption) :
    Kept kp s0 (denyCmd s p d code) := by
  unfold denyCmd
  simp_all

@[simp] theorem coreTakes_kept {kp : Part → Bool} {s0 : State} (s : State) (p : Path) (d : Descriptor)
    (f : State → State) (hf : ∀ s, Kept kp s0 s → Kept kp s0 (f s)) (h : Kept kp s0 s)
    (m_evq : kp .evq = false := by assumption) (m_trace : kp .trace = false := by assumption)
    (m_bus : kp .bus = false := by assumption) (m_mode : kp .mode = false := by assumption)
    (m_safe : kp .safe = false := by assumption) (m_adc : kp .adc = false := by assumption)
    (m_wdog : kp .wdog = false := by assumption) :
    Kept kp s0 (coreTakes s p d f) := by
  unfold coreTakes
  split
  · exact denyCmd_kept _ _ _ _ h
  · exact hf _ (wake_kept _ _ h)

@[simp] theorem dropLost_kept {kp : Part → Bool} {s0 : State} (s : State)
    (hk0 : Kept kp s0 s)
    (m_evq : kp .evq = false := by assumption) (m_bus : kp .bus = false := by assumption)
    (m_sta : kp .sta = false := by assumption) :
    Kept kp s0 (dropLost s) := by
  unfold dropLost
  try dsimp only
  repeat' split
  all_goals simp_all (maxDischargeDepth := 9)

@[simp] theorem starterStart_kept {kp : Part → Bool} {s0 : State} (s : State) (p : Path) (d : Descriptor)
    (hk0 : Kept kp s0 s)
    (m_time : kp .time = false := by assumption) (m_evq : kp .evq = false := by assumption)
    (m_bus : kp .bus = false := by assumption) (m_sta : kp .sta = false := by assumption) :
    Kept kp s0 (starterStart s p d) := by
  unfold starterStart
  dsimp only
  have hd := dropLost_kept s hk0
  generalize dropLost s = a at hd ⊢
  split
  · exact denyCmd_kept _ _ _ _ hd
  · split
    · exact denyCmd_kept _ _ _ _ hd
    · rename_i e
      have h := latchPlan_kept hd e
      split
      · exact settleBegin_kept _ (by simp [h, m_time, m_sta])
      · simp [h, m_time, m_sta]

@[simp] theorem execLineStart_kept {kp : Part → Bool} {s0 : State} (via : Path) (d : Descriptor) (s : State)
    (hk0 : Kept kp s0 s)
    (m_mem : kp .mem = false := by assumption) (m_time : kp .time = false := by assumption)
    (m_evq : kp .evq = false := by assumption) (m_trace : kp .trace = false := by assumption)
    (m_bus : kp .bus = false := by assumption) (m_mode : kp .mode = false := by assumption)
    (m_safe : kp .safe = false := by assumption) (m_adc : kp .adc = false := by assumption)
    (m_wdog : kp .wdog = false := by assumption) (m_sta : kp .sta = false := by assumption) :
    KeptR kp s0 (execLineStart via d s) := by
  refine postFrom_kept _ _ _ _ _ (fun s hs d => ?_) hk0
  split
  · exact coreTakes_kept _ _ _ _ (fun s h => starterStart_kept _ _ _ h) hs
  · split
    · exact denyCmd_kept _ _ _ _ hs
    · rename_i e
      exact complete_kept _ _ _ _ _ (by simp [latchPlan_kept hs e, m_sta])
  · exact denyCmd_kept _ _ _ _ hs

@[simp] theorem execLineStartSettle_kept {kp : Part → Bool} {s0 : State} (s : State) (hk0 : Kept kp s0 s)
    (m_time : kp .time = false := by assumption) (m_evq : kp .evq = false := by assumption)
    (m_bus : kp .bus = false := by assumption) (m_link : kp .link = false := by assumption)
    (m_sta : kp .sta = false := by assumption) :
    KeptR kp s0 (execLineStartSettle s) := by
  unfold execLineStartSettle
  dsimp only
  repeat' split
  all_goals simp_all (maxDischargeDepth := 9)

@[simp] theorem execLineStop_kept {kp : Part → Bool} {s0 : State} (via : Path) (d : Descriptor) (s : State)
    (hk0 : Kept kp s0 s)
    (m_mem : kp .mem = false := by assumption) (m_time : kp .time = false := by assumption)
    (m_evq : kp .evq = false := by assumption) (m_bus : kp .bus = false := by assumption)
    (m_link : kp .link = false := by assumption) (m_sta : kp .sta = false := by assumption) :
    KeptR kp s0 (execLineStop via d s) := by
  unfold execLineStop
  repeat' first
    | (intro x; refine Kept.cut (kp := kp) (s0 := s0) (x := x) ?_ ?_; subst x; rotate_left; clear_value x; intro hx; rotate_right)
    | intro x
    | lift_lets
    | (with_reducible refine postFrom_kept _ _ _ _ _ ?_ ?_)
    | split
  all_goals simp_all

@[simp] theorem execEnum_kept {kp : Part → Bool} {s0 : State} (via : Path) (d : Descriptor) (s : State)
    (hk0 : Kept kp s0 s)
    (m_mem : kp .mem = false := by assumption) (m_evq : kp .evq = false := by assumption)
    (m_trace : kp .trace = false := by assumption) (m_bus : kp .bus = false := by assumption)
    (m_mode : kp .mode = false := by assumption) (m_safe : kp .safe = false := by assumption)
    (m_adc : kp .adc = false := by assumption) (m_wdog : kp .wdog = false := by assumption)
    (m_link : kp .link = false := by assumption) (m_sta : kp .sta = false := by assumption) :
    KeptR kp s0 (execEnum via d s) := by
  refine postFrom_kept _ _ _ _ _ (fun s hs d => ?_) hk0
  split
  · exact denyCmd_kept _ _ _ _ hs
  · refine coreTakes_kept _ _ _ _ (fun s h => enumNext_kept _ ?_) hs
    simp [dropLost_kept _ h, m_sta]

@[simp] theorem tallyPos_kept {kp : Part → Bool} {s0 : State} (s : State) (p : Nat) (hk0 : Kept kp s0 s)
    (m_mem : kp .mem = false := by assumption) (m_evq : kp .evq = false := by assumption)
    (m_trace : kp .trace = false := by assumption) :
    Kept kp s0 (tallyPos s p) := by
  unfold tallyPos
  repeat' split
  all_goals simp_all

@[simp] theorem tallyReport_kept {kp : Part → Bool} {s0 : State} (s : State) (r : Nat × Nat × Nat) (hk0 : Kept kp s0 s)
    (m_mem : kp .mem = false := by assumption) (m_evq : kp .evq = false := by assumption)
    (m_trace : kp .trace = false := by assumption) (m_sta : kp .sta = false := by assumption) :
    Kept kp s0 (tallyReport s r) := by
  unfold tallyReport
  dsimp only
  repeat' split
  all_goals simp_all

@[simp] theorem tally_kept {kp : Part → Bool} {s0 : State} (s : State) (b : List Byte) (hk0 : Kept kp s0 s)
    (m_mem : kp .mem = false := by assumption) (m_evq : kp .evq = false := by assumption)
    (m_trace : kp .trace = false := by assumption) (m_sta : kp .sta = false := by assumption) :
    Kept kp s0 (tally s b) := by
  unfold tally
  refine Kept.foldl _ _ _ (fun s hs r => tallyReport_kept _ _ hs) ?_
  refine eachNo_kept _ _ _ (fun s hs p => tallyPos_kept _ _ hs) ?_
  exact eachNo_kept _ _ _ (fun s hs p => topoFlags_kept _ _ _ _ hs) hk0

@[simp] theorem countBack_kept {kp : Part → Bool} {s0 : State} (s : State) (b : List Byte) (hk0 : Kept kp s0 s)
    (m_mem : kp .mem = false := by assumption) (m_evq : kp .evq = false := by assumption)
    (m_trace : kp .trace = false := by assumption) (m_bus : kp .bus = false := by assumption)
    (m_link : kp .link = false := by assumption) (m_sta : kp .sta = false := by assumption) :
    Kept kp s0 (countBack s b) := by
  unfold countBack
  try dsimp only
  repeat' split
  all_goals simp_all (maxDischargeDepth := 15)

@[simp] theorem countPoisoned_kept {kp : Part → Bool} {s0 : State} (s : State) (hk0 : Kept kp s0 s)
    (m_evq : kp .evq = false := by assumption) (m_bus : kp .bus = false := by assumption)
    (m_link : kp .link = false := by assumption) (m_sta : kp .sta = false := by assumption) :
    Kept kp s0 (countPoisoned s) := by
  unfold countPoisoned
  dsimp only
  repeat' split
  all_goals simp_all (maxDischargeDepth := 9)

@[simp] theorem execLineTxn_kept {kp : Part → Bool} {s0 : State} (via : Path) (d : Descriptor) (s : State)
    (hk0 : Kept kp s0 s)
    (m_mem : kp .mem = false := by assumption) (m_evq : kp .evq = false := by assumption)
    (m_bus : kp .bus = false := by assumption) (m_sta : kp .sta = false := by assumption) :
    KeptR kp s0 (execLineTxn via d s) := by
  unfold execLineTxn
  repeat' first
    | intro x
    | lift_lets
    | (with_reducible refine postFrom_kept _ _ _ _ _ ?_ ?_)
    | split
  all_goals simp_all

@[simp] theorem gunStart_kept {kp : Part → Bool} {s0 : State} (s : State) (v : Plan) (g : Nat) (p : Path)
    (d : Descriptor) (hk0 : Kept kp s0 s)
    (m_evq : kp .evq = false := by assumption) (m_trace : kp .trace = false := by assumption)
    (m_cfg : kp .cfg = false := by assumption) (m_sta : kp .sta = false := by assumption) :
    Kept kp s0 (gunStart s v g p d) := by
  unfold gunStart
  simp_all (maxDischargeDepth := 9)

@[simp] theorem execGunSchedule_kept {kp : Part → Bool} {s0 : State} (via : Path) (d : Descriptor) (s : State)
    (hk0 : Kept kp s0 s)
    (m_mem : kp .mem = false := by assumption) (m_evq : kp .evq = false := by assumption)
    (m_trace : kp .trace = false := by assumption) (m_bus : kp .bus = false := by assumption)
    (m_cfg : kp .cfg = false := by assumption) (m_mode : kp .mode = false := by assumption)
    (m_safe : kp .safe = false := by assumption) (m_adc : kp .adc = false := by assumption)
    (m_wdog : kp .wdog = false := by assumption) (m_sta : kp .sta = false := by assumption) :
    KeptR kp s0 (execGunSchedule via d s) := by
  unfold execGunSchedule
  repeat' first
    | intro x
    | lift_lets
    | (with_reducible refine coreTakes_kept _ _ _ _ ?_ ?_)
    | (with_reducible refine postFrom_kept _ _ _ _ _ ?_ ?_)
    | split
  all_goals simp_all

@[simp] theorem execGunCutoff_kept {kp : Part → Bool} {s0 : State} (s : State) (hk0 : Kept kp s0 s)
    (m_time : kp .time = false := by assumption) (m_evq : kp .evq = false := by assumption)
    (m_bus : kp .bus = false := by assumption) (m_cfg : kp .cfg = false := by assumption)
    (m_sta : kp .sta = false := by assumption) :
    KeptR kp s0 (execGunCutoff s) := by
  unfold execGunCutoff
  dsimp only
  repeat' split
  all_goals simp_all (maxDischargeDepth := 9)

@[simp] theorem execGunClosingSweep_kept {kp : Part → Bool} {s0 : State} (s : State) (hk0 : Kept kp s0 s)
    (m_mem : kp .mem = false := by assumption) (m_time : kp .time = false := by assumption)
    (m_evq : kp .evq = false := by assumption) (m_bus : kp .bus = false := by assumption)
    (m_sta : kp .sta = false := by assumption) :
    KeptR kp s0 (execGunClosingSweep s) := by
  unfold execGunClosingSweep
  split
  · rename_i g _
    split
    · exact hk0
    · have h := State.reach_kept s g.g hk0
      generalize s.reach g.g = u at h
      dsimp only
      generalize hv : ({ u with sta := _ } : State) = v
      have hw : Kept kp s0 v := by
        subst hv
        simp_all
      rw [keptR_next]
      split
      · exact gunFinish_kept _ _ hw m_mem m_evq m_bus m_sta
      · exact hw
  · exact hk0

@[simp] theorem execRelayPull_kept {kp : Part → Bool} {s0 : State} (via : Path) (d : Descriptor) (s : State)
    (hk0 : Kept kp s0 s)
    (m_mem : kp .mem = false := by assumption) (m_evq : kp .evq = false := by assumption)
    (m_trace : kp .trace = false := by assumption) (m_bus : kp .bus = false := by assumption)
    (m_mode : kp .mode = false := by assumption) (m_safe : kp .safe = false := by assumption)
    (m_adc : kp .adc = false := by assumption) (m_wdog : kp .wdog = false := by assumption)
    (m_sta : kp .sta = false := by assumption) (m_sec : kp .sec = false := by assumption)
    (m_media : kp .media = false := by assumption) (m_upd : kp .upd = false := by assumption)
    (m_flash : kp .flash = false := by assumption) :
    KeptR kp s0 (execRelayPull via d s) := by
  unfold execRelayPull
  repeat' first
    | (intro x; refine Kept.cut (kp := kp) (s0 := s0) (x := x) ?_ ?_; subst x; rotate_left; clear_value x; intro hx; rotate_right)
    | intro x
    | lift_lets
    | (with_reducible refine coreTakes_kept _ _ _ _ ?_ ?_)
    | (with_reducible refine postFrom_kept _ _ _ _ _ ?_ ?_)
    | split
  all_goals simp_all

@[simp] theorem execTakeoverStart_kept {kp : Part → Bool} {s0 : State} (s : State) (hk0 : Kept kp s0 s)
    (m_time : kp .time = false := by assumption) (m_evq : kp .evq = false := by assumption)
    (m_trace : kp .trace = false := by assumption) (m_sta : kp .sta = false := by assumption) :
    KeptR kp s0 (execTakeoverStart s) := by
  unfold execTakeoverStart
  dsimp only
  repeat' split
  all_goals simp_all (maxDischargeDepth := 9)

@[simp] theorem takeoverStop_kept {kp : Part → Bool} {s0 : State} (s : State) (hk0 : Kept kp s0 s)
    (m_time : kp .time = false := by assumption) (m_evq : kp .evq = false := by assumption)
    (m_trace : kp .trace = false := by assumption) (m_bus : kp .bus = false := by assumption)
    (m_sta : kp .sta = false := by assumption) :
    Kept kp s0 (takeoverStop s) := by
  unfold takeoverStop
  dsimp only
  repeat' split
  all_goals simp_all (maxDischargeDepth := 9)

@[simp] theorem execTakeoverEnd_kept {kp : Part → Bool} {s0 : State} (via : Path) (d : Descriptor) (s : State)
    (hk0 : Kept kp s0 s)
    (m_mem : kp .mem = false := by assumption) (m_evq : kp .evq = false := by assumption)
    (m_bus : kp .bus = false := by assumption) (m_sta : kp .sta = false := by assumption) :
    KeptR kp s0 (execTakeoverEnd via d s) := by
  unfold execTakeoverEnd
  repeat' first
    | intro x
    | (with_reducible refine postFrom_kept _ _ _ _ _ ?_ ?_)
    | split
  all_goals simp_all

@[simp] theorem execTakeoverAutoEnd_kept {kp : Part → Bool} {s0 : State} (s : State) (hk0 : Kept kp s0 s)
    (m_time : kp .time = false := by assumption) (m_evq : kp .evq = false := by assumption)
    (m_trace : kp .trace = false := by assumption) (m_bus : kp .bus = false := by assumption)
    (m_sta : kp .sta = false := by assumption) :
    KeptR kp s0 (execTakeoverAutoEnd s) := by
  unfold execTakeoverAutoEnd
  repeat' split
  all_goals simp_all

@[simp] theorem pingDrop_kept {kp : Part → Bool} {s0 : State} (s : State) (p : Nat)
    (hk0 : Kept kp s0 s)
    (m_sta : kp .sta = false := by assumption) :
    Kept kp s0 (pingDrop s p) := by
  unfold pingDrop
  try dsimp only
  repeat' split
  all_goals simp_all (maxDischargeDepth := 9)

@[simp] theorem beyond_kept {kp : Part → Bool} {s0 : State} (s : State) (q : Nat) (hk0 : Kept kp s0 s)
    (m_mem : kp .mem = false := by assumption) (m_evq : kp .evq = false := by assumption)
    (m_trace : kp .trace = false := by assumption) (m_sta : kp .sta = false := by assumption) :
    Kept kp s0 (beyond s q) := by
  unfold beyond
  try dsimp only
  repeat' split
  all_goals simp_all (maxDischargeDepth := 15)

@[simp] theorem rejoin_kept {kp : Part → Bool} {s0 : State} (s : State) (q : Nat) (hk0 : Kept kp s0 s)
    (m_mem : kp .mem = false := by assumption) (m_evq : kp .evq = false := by assumption)
    (m_trace : kp .trace = false := by assumption) (m_sta : kp .sta = false := by assumption) :
    Kept kp s0 (rejoin s q) := by
  unfold rejoin
  simp_all (maxDischargeDepth := 9)

@[simp] theorem starterNotice_kept {kp : Part → Bool} {s0 : State} (s : State) (pos : Nat) (portB : Bool)
    (event : Nat) (hk0 : Kept kp s0 s)
    (m_mem : kp .mem = false := by assumption) (m_evq : kp .evq = false := by assumption)
    (m_trace : kp .trace = false := by assumption) (m_bus : kp .bus = false := by assumption)
    (m_link : kp .link = false := by assumption) (m_sta : kp .sta = false := by assumption) :
    Kept kp s0 (starterNotice s pos portB event) := by
  unfold starterNotice
  dsimp only
  repeat' split
  all_goals simp_all (maxDischargeDepth := 9)

@[simp] theorem postNotice_kept {kp : Part → Bool} {s0 : State} (s : State) (pos : Nat) (portB : Bool)
    (engaged : Bool) (argx : Nat) (hk0 : Kept kp s0 s)
    (m_evq : kp .evq = false := by assumption) (m_trace : kp .trace = false := by assumption) :
    Kept kp s0 (postNotice s pos portB engaged argx) := by
  unfold postNotice
  simp_all

@[simp] theorem anchorNotice_kept {kp : Part → Bool} {s0 : State} (s : State) (pos : Nat) (portB : Bool)
    (engaged : Bool) (hk0 : Kept kp s0 s)
    (m_sta : kp .sta = false := by assumption) :
    Kept kp s0 (anchorNotice s pos portB engaged) := by
  unfold anchorNotice
  repeat' split
  all_goals simp_all

@[simp] theorem noticeSetIn_kept {kp : Part → Bool} {s0 : State} (s : State) (p : Port) (n0 : Byte) (n1 : Byte)
    (n2 : Byte) (hk0 : Kept kp s0 s)
    (m_mem : kp .mem = false := by assumption) (m_evq : kp .evq = false := by assumption)
    (m_trace : kp .trace = false := by assumption) (m_bus : kp .bus = false := by assumption)
    (m_link : kp .link = false := by assumption) (m_sta : kp .sta = false := by assumption) :
    Kept kp s0 (noticeSetIn s p n0 n1 n2) := by
  unfold noticeSetIn
  dsimp only
  repeat' split
  all_goals simp_all

@[simp] theorem execLoopbackNoticeSet_kept {kp : Part → Bool} {s0 : State} (p : Port) (n0 : Byte) (n1 : Byte)
    (n2 : Byte) (s : State) (hk0 : Kept kp s0 s)
    (m_mem : kp .mem = false := by assumption) (m_evq : kp .evq = false := by assumption)
    (m_trace : kp .trace = false := by assumption) (m_bus : kp .bus = false := by assumption)
    (m_link : kp .link = false := by assumption) (m_sta : kp .sta = false := by assumption) :
    KeptR kp s0 (execLoopbackNoticeSet p n0 n1 n2 s) := by
  unfold execLoopbackNoticeSet
  dsimp only
  repeat' split
  all_goals simp_all

/-! ### Count -/

@[simp] theorem bindPos_kept {kp : Part → Bool} {s0 : State} (s : State) (p : Nat) (pending : Bool) (hk0 : Kept kp s0 s)
    (m_link : kp .link = false := by assumption) :
    Kept kp s0 (bindPos s p pending) := by
  unfold bindPos
  simp_all

@[simp] theorem regenAtStart_kept {kp : Part → Bool} {s0 : State} (s : State) (hk0 : Kept kp s0 s)
    (m_time : kp .time = false := by assumption) (m_evq : kp .evq = false := by assumption)
    (m_trace : kp .trace = false := by assumption) :
    Kept kp s0 (regenAtStart s) := by
  unfold regenAtStart
  repeat' split
  all_goals simp_all

@[simp] theorem countEof_kept {kp : Part → Bool} {s0 : State} (s : State) (act : CountAct) (c : Nat)
    (hk0 : Kept kp s0 s)
    (m_time : kp .time = false := by assumption) (m_evq : kp .evq = false := by assumption)
    (m_trace : kp .trace = false := by assumption) (m_mode : kp .mode = false := by assumption)
    (m_link : kp .link = false := by assumption) :
    Kept kp s0 (countEof s act c) := by
  unfold countEof
  dsimp only
  repeat' split
  all_goals simp_all (maxDischargeDepth := 9)

/-! ### Frames -/

@[simp] theorem leave_kept {kp : Part → Bool} {s0 : State} (s : State) (x : Passage) (body : List Byte)
    (hk0 : Kept kp s0 s)
    (m_link : kp .link = false := by assumption) :
    Kept kp s0 (leave s x body) := by
  unfold leave
  repeat' split
  all_goals simp_all

@[simp] theorem heatAtAnchor_kept {kp : Part → Bool} {s0 : State} (s : State) (x : Passage) (hk0 : Kept kp s0 s)
    (m_mem : kp .mem = false := by assumption) (m_evq : kp .evq = false := by assumption)
    (m_trace : kp .trace = false := by assumption) (m_link : kp .link = false := by assumption)
    (m_sta : kp .sta = false := by assumption) (m_upd : kp .upd = false := by assumption) :
    Kept kp s0 (heatAtAnchor s x) := by
  unfold heatAtAnchor
  dsimp only
  repeat' split
  all_goals simp_all (maxDischargeDepth := 9)

@[simp] theorem heatAtNode_kept {kp : Part → Bool} {s0 : State} (s : State) (x : Passage) (hk0 : Kept kp s0 s)
    (m_cyc : kp .cyc = false := by assumption) (m_link : kp .link = false := by assumption) :
    Kept kp s0 (heatAtNode s x) := by
  unfold heatAtNode
  dsimp only
  repeat' split
  all_goals simp_all

@[simp] theorem heatFrame_kept {kp : Part → Bool} {s0 : State} (s : State) (x : Passage) (hk0 : Kept kp s0 s)
    (m_mem : kp .mem = false := by assumption) (m_cyc : kp .cyc = false := by assumption)
    (m_evq : kp .evq = false := by assumption) (m_trace : kp .trace = false := by assumption)
    (m_link : kp .link = false := by assumption) (m_sta : kp .sta = false := by assumption)
    (m_upd : kp .upd = false := by assumption) :
    Kept kp s0 (heatFrame s x) := by
  unfold heatFrame
  dsimp only
  repeat' split
  all_goals simp_all

@[simp] theorem batonAtNode_kept {kp : Part → Bool} {s0 : State} (s : State) (x : Passage) (hk0 : Kept kp s0 s)
    (m_evq : kp .evq = false := by assumption) (m_trace : kp .trace = false := by assumption)
    (m_mode : kp .mode = false := by assumption) (m_safe : kp .safe = false := by assumption)
    (m_health : kp .health = false := by assumption) (m_adc : kp .adc = false := by assumption)
    (m_wdog : kp .wdog = false := by assumption) (m_link : kp .link = false := by assumption)
    (m_txn : kp .txn = false := by assumption) (m_sec : kp .sec = false := by assumption) :
    Kept kp s0 (batonAtNode s x) := by
  unfold batonAtNode
  dsimp only
  repeat' split
  all_goals simp_all (maxDischargeDepth := 9)

@[simp] theorem batonFrame_kept {kp : Part → Bool} {s0 : State} (s : State) (x : Passage) (hk0 : Kept kp s0 s)
    (m_mem : kp .mem = false := by assumption) (m_evq : kp .evq = false := by assumption)
    (m_trace : kp .trace = false := by assumption) (m_bus : kp .bus = false := by assumption)
    (m_mode : kp .mode = false := by assumption) (m_safe : kp .safe = false := by assumption)
    (m_health : kp .health = false := by assumption) (m_adc : kp .adc = false := by assumption)
    (m_wdog : kp .wdog = false := by assumption) (m_link : kp .link = false := by assumption)
    (m_txn : kp .txn = false := by assumption) (m_sta : kp .sta = false := by assumption)
    (m_sec : kp .sec = false := by assumption) (m_media : kp .media = false := by assumption)
    (m_upd : kp .upd = false := by assumption) (m_flash : kp .flash = false := by assumption) :
    Kept kp s0 (batonFrame s x) := by
  unfold batonFrame
  dsimp only
  repeat' split
  all_goals simp_all

@[simp] theorem countSeenAt_kept {kp : Part → Bool} {s0 : State} (s : State) (p : Port) (hk0 : Kept kp s0 s)
    (m_link : kp .link = false := by assumption) :
    Kept kp s0 (countSeenAt s p) := by
  unfold countSeenAt
  simp_all

@[simp] theorem countAtNode_kept {kp : Part → Bool} {s0 : State} (s : State) (x : Passage) (hk0 : Kept kp s0 s)
    (m_time : kp .time = false := by assumption) (m_evq : kp .evq = false := by assumption)
    (m_trace : kp .trace = false := by assumption) (m_mode : kp .mode = false := by assumption)
    (m_link : kp .link = false := by assumption) :
    Kept kp s0 (countAtNode s x) := by
  unfold countAtNode
  dsimp only
  repeat' split
  all_goals simp_all (maxDischargeDepth := 9)

@[simp] theorem countFrameIn_kept {kp : Part → Bool} {s0 : State} (s : State) (x : Passage) (hk0 : Kept kp s0 s)
    (m_mem : kp .mem = false := by assumption) (m_time : kp .time = false := by assumption)
    (m_evq : kp .evq = false := by assumption) (m_trace : kp .trace = false := by assumption)
    (m_bus : kp .bus = false := by assumption) (m_mode : kp .mode = false := by assumption)
    (m_link : kp .link = false := by assumption) (m_sta : kp .sta = false := by assumption) :
    Kept kp s0 (countFrameIn s x) := by
  unfold countFrameIn
  repeat' split
  all_goals simp_all

@[simp] theorem syncFrame_kept {kp : Part → Bool} {s0 : State} (s : State) (x : Passage) (readings : List Word)
    (hk0 : Kept kp s0 s)
    (m_time : kp .time = false := by assumption) (m_cyc : kp .cyc = false := by assumption)
    (m_evq : kp .evq = false := by assumption) (m_trace : kp .trace = false := by assumption)
    (m_bus : kp .bus = false := by assumption) (m_cfg : kp .cfg = false := by assumption)
    (m_mode : kp .mode = false := by assumption) (m_safe : kp .safe = false := by assumption)
    (m_field : kp .field = false := by assumption) (m_health : kp .health = false := by assumption)
    (m_inj : kp .inj = false := by assumption) (m_adc : kp .adc = false := by assumption)
    (m_panel : kp .panel = false := by assumption) (m_wdog : kp .wdog = false := by assumption)
    (m_link : kp .link = false := by assumption) (m_txn : kp .txn = false := by assumption)
    (m_sta : kp .sta = false := by assumption) (m_ser : kp .ser = false := by assumption)
    (m_upd : kp .upd = false := by assumption) (m_flash : kp .flash = false := by assumption) :
    Kept kp s0 (syncFrame s x readings) := by
  unfold syncFrame
  dsimp only
  repeat' split
  all_goals simp_all

@[simp] theorem relayTake_kept {kp : Part → Bool} {s0 : State} (s : State) (b : List Byte) (hk0 : Kept kp s0 s)
    (m_sec : kp .sec = false := by assumption) (m_upd : kp .upd = false := by assumption) :
    Kept kp s0 (relayTake s b) := by
  unfold relayTake
  dsimp only
  repeat' split
  all_goals simp_all

@[simp] theorem relayFrame_kept {kp : Part → Bool} {s0 : State} (s : State) (x : Passage) (hk0 : Kept kp s0 s)
    (m_link : kp .link = false := by assumption) (m_sec : kp .sec = false := by assumption)
    (m_upd : kp .upd = false := by assumption) :
    Kept kp s0 (relayFrame s x) := by
  unfold relayFrame
  dsimp only
  repeat' split
  all_goals simp_all

@[simp] theorem noticeFrame_kept {kp : Part → Bool} {s0 : State} (s : State) (x : Passage) (hk0 : Kept kp s0 s)
    (m_mem : kp .mem = false := by assumption) (m_evq : kp .evq = false := by assumption)
    (m_trace : kp .trace = false := by assumption) (m_bus : kp .bus = false := by assumption)
    (m_link : kp .link = false := by assumption) (m_sta : kp .sta = false := by assumption) :
    Kept kp s0 (noticeFrame s x) := by
  unfold noticeFrame
  dsimp only
  repeat' split
  all_goals simp_all (maxDischargeDepth := 9)

@[simp] theorem typedFrame_kept {kp : Part → Bool} {s0 : State} (s : State) (x : Passage) (readings : List Word)
    (hk0 : Kept kp s0 s)
    (m_mem : kp .mem = false := by assumption) (m_time : kp .time = false := by assumption)
    (m_cyc : kp .cyc = false := by assumption) (m_evq : kp .evq = false := by assumption)
    (m_trace : kp .trace = false := by assumption) (m_bus : kp .bus = false := by assumption)
    (m_cfg : kp .cfg = false := by assumption) (m_mode : kp .mode = false := by assumption)
    (m_safe : kp .safe = false := by assumption) (m_field : kp .field = false := by assumption)
    (m_health : kp .health = false := by assumption) (m_inj : kp .inj = false := by assumption)
    (m_adc : kp .adc = false := by assumption) (m_panel : kp .panel = false := by assumption)
    (m_wdog : kp .wdog = false := by assumption) (m_link : kp .link = false := by assumption)
    (m_txn : kp .txn = false := by assumption) (m_sta : kp .sta = false := by assumption)
    (m_sec : kp .sec = false := by assumption) (m_ser : kp .ser = false := by assumption)
    (m_media : kp .media = false := by assumption) (m_upd : kp .upd = false := by assumption)
    (m_flash : kp .flash = false := by assumption) :
    Kept kp s0 (typedFrame s x readings) := by
  unfold typedFrame
  repeat' split
  all_goals simp_all

@[simp] theorem skipFrame_kept {kp : Part → Bool} {s0 : State} (s : State) (p : Port) (f : LineFrame)
    (hk0 : Kept kp s0 s)
    (m_health : kp .health = false := by assumption) (m_link : kp .link = false := by assumption) :
    Kept kp s0 (skipFrame s p f) := by
  unfold skipFrame
  try dsimp only
  repeat' split
  all_goals simp_all (maxDischargeDepth := 9)

@[simp] theorem passFrame_kept {kp : Part → Bool} {s0 : State} (s : State) (p : Port) (f : LineFrame)
    (readings : List Word) (hk0 : Kept kp s0 s)
    (m_mem : kp .mem = false := by assumption) (m_time : kp .time = false := by assumption)
    (m_cyc : kp .cyc = false := by assumption) (m_evq : kp .evq = false := by assumption)
    (m_trace : kp .trace = false := by assumption) (m_bus : kp .bus = false := by assumption)
    (m_cfg : kp .cfg = false := by assumption) (m_mode : kp .mode = false := by assumption)
    (m_safe : kp .safe = false := by assumption) (m_field : kp .field = false := by assumption)
    (m_health : kp .health = false := by assumption) (m_inj : kp .inj = false := by assumption)
    (m_adc : kp .adc = false := by assumption) (m_panel : kp .panel = false := by assumption)
    (m_wdog : kp .wdog = false := by assumption) (m_link : kp .link = false := by assumption)
    (m_txn : kp .txn = false := by assumption) (m_sta : kp .sta = false := by assumption)
    (m_sec : kp .sec = false := by assumption) (m_ser : kp .ser = false := by assumption)
    (m_media : kp .media = false := by assumption) (m_upd : kp .upd = false := by assumption)
    (m_flash : kp .flash = false := by assumption) :
    Kept kp s0 (passFrame s p f readings) := by
  unfold passFrame
  dsimp only
  repeat' split
  all_goals simp_all (maxDischargeDepth := 9)

@[simp] theorem releaseHeld_kept {kp : Part → Bool} {s0 : State} (s : State) (p : Port) (gap : Nat) (t : Nat)
    (readings : List Word) (hk0 : Kept kp s0 s)
    (m_mem : kp .mem = false := by assumption) (m_time : kp .time = false := by assumption)
    (m_cyc : kp .cyc = false := by assumption) (m_evq : kp .evq = false := by assumption)
    (m_trace : kp .trace = false := by assumption) (m_bus : kp .bus = false := by assumption)
    (m_cfg : kp .cfg = false := by assumption) (m_mode : kp .mode = false := by assumption)
    (m_safe : kp .safe = false := by assumption) (m_field : kp .field = false := by assumption)
    (m_health : kp .health = false := by assumption) (m_inj : kp .inj = false := by assumption)
    (m_adc : kp .adc = false := by assumption) (m_panel : kp .panel = false := by assumption)
    (m_wdog : kp .wdog = false := by assumption) (m_link : kp .link = false := by assumption)
    (m_txn : kp .txn = false := by assumption) (m_sta : kp .sta = false := by assumption)
    (m_sec : kp .sec = false := by assumption) (m_ser : kp .ser = false := by assumption)
    (m_media : kp .media = false := by assumption) (m_upd : kp .upd = false := by assumption)
    (m_flash : kp .flash = false := by assumption) :
    Kept kp s0 (releaseHeld s p gap t readings) := by
  unfold releaseHeld
  repeat' split
  all_goals simp_all

@[simp] theorem frameIn_kept {kp : Part → Bool} {s0 : State} (s : State) (p : Port) (f : LineFrame)
    (readings : List Word) (hk0 : Kept kp s0 s)
    (m_mem : kp .mem = false := by assumption) (m_time : kp .time = false := by assumption)
    (m_cyc : kp .cyc = false := by assumption) (m_evq : kp .evq = false := by assumption)
    (m_trace : kp .trace = false := by assumption) (m_bus : kp .bus = false := by assumption)
    (m_cfg : kp .cfg = false := by assumption) (m_mode : kp .mode = false := by assumption)
    (m_safe : kp .safe = false := by assumption) (m_field : kp .field = false := by assumption)
    (m_health : kp .health = false := by assumption) (m_inj : kp .inj = false := by assumption)
    (m_adc : kp .adc = false := by assumption) (m_panel : kp .panel = false := by assumption)
    (m_wdog : kp .wdog = false := by assumption) (m_link : kp .link = false := by assumption)
    (m_txn : kp .txn = false := by assumption) (m_sta : kp .sta = false := by assumption)
    (m_sec : kp .sec = false := by assumption) (m_ser : kp .ser = false := by assumption)
    (m_media : kp .media = false := by assumption) (m_upd : kp .upd = false := by assumption)
    (m_flash : kp .flash = false := by assumption) :
    Kept kp s0 (frameIn s p f readings) := by
  unfold frameIn
  dsimp only
  repeat' split
  all_goals simp_all (maxDischargeDepth := 9)

@[simp] theorem rowFrame_kept {kp : Part → Bool} {s0 : State} (ok : Bool) (p : Port) (f : LineFrame)
    (readings : List Word) (s : State) (hk0 : Kept kp s0 s)
    (m_mem : kp .mem = false := by assumption) (m_time : kp .time = false := by assumption)
    (m_cyc : kp .cyc = false := by assumption) (m_evq : kp .evq = false := by assumption)
    (m_trace : kp .trace = false := by assumption) (m_bus : kp .bus = false := by assumption)
    (m_cfg : kp .cfg = false := by assumption) (m_mode : kp .mode = false := by assumption)
    (m_safe : kp .safe = false := by assumption) (m_field : kp .field = false := by assumption)
    (m_health : kp .health = false := by assumption) (m_inj : kp .inj = false := by assumption)
    (m_adc : kp .adc = false := by assumption) (m_panel : kp .panel = false := by assumption)
    (m_wdog : kp .wdog = false := by assumption) (m_link : kp .link = false := by assumption)
    (m_txn : kp .txn = false := by assumption) (m_sta : kp .sta = false := by assumption)
    (m_sec : kp .sec = false := by assumption) (m_ser : kp .ser = false := by assumption)
    (m_media : kp .media = false := by assumption) (m_upd : kp .upd = false := by assumption)
    (m_flash : kp .flash = false := by assumption) :
    KeptR kp s0 (rowFrame ok p f readings s) := by
  unfold rowFrame
  repeat' split
  all_goals simp_all

@[simp] theorem execFrameForward_kept {kp : Part → Bool} {s0 : State} (p : Port) (f : LineFrame)
    (readings : List Word) (s : State) (hk0 : Kept kp s0 s)
    (m_mem : kp .mem = false := by assumption) (m_time : kp .time = false := by assumption)
    (m_cyc : kp .cyc = false := by assumption) (m_evq : kp .evq = false := by assumption)
    (m_trace : kp .trace = false := by assumption) (m_bus : kp .bus = false := by assumption)
    (m_cfg : kp .cfg = false := by assumption) (m_mode : kp .mode = false := by assumption)
    (m_safe : kp .safe = false := by assumption) (m_field : kp .field = false := by assumption)
    (m_health : kp .health = false := by assumption) (m_inj : kp .inj = false := by assumption)
    (m_adc : kp .adc = false := by assumption) (m_panel : kp .panel = false := by assumption)
    (m_wdog : kp .wdog = false := by assumption) (m_link : kp .link = false := by assumption)
    (m_txn : kp .txn = false := by assumption) (m_sta : kp .sta = false := by assumption)
    (m_sec : kp .sec = false := by assumption) (m_ser : kp .ser = false := by assumption)
    (m_media : kp .media = false := by assumption) (m_upd : kp .upd = false := by assumption)
    (m_flash : kp .flash = false := by assumption) :
    KeptR kp s0 (execFrameForward p f readings s) := by
  unfold execFrameForward
  simp_all

@[simp] theorem execRsvdTypeFrame_kept {kp : Part → Bool} {s0 : State} (p : Port) (f : LineFrame) (s : State)
    (hk0 : Kept kp s0 s)
    (m_mem : kp .mem = false := by assumption) (m_time : kp .time = false := by assumption)
    (m_cyc : kp .cyc = false := by assumption) (m_evq : kp .evq = false := by assumption)
    (m_trace : kp .trace = false := by assumption) (m_bus : kp .bus = false := by assumption)
    (m_cfg : kp .cfg = false := by assumption) (m_mode : kp .mode = false := by assumption)
    (m_safe : kp .safe = false := by assumption) (m_field : kp .field = false := by assumption)
    (m_health : kp .health = false := by assumption) (m_inj : kp .inj = false := by assumption)
    (m_adc : kp .adc = false := by assumption) (m_panel : kp .panel = false := by assumption)
    (m_wdog : kp .wdog = false := by assumption) (m_link : kp .link = false := by assumption)
    (m_txn : kp .txn = false := by assumption) (m_sta : kp .sta = false := by assumption)
    (m_sec : kp .sec = false := by assumption) (m_ser : kp .ser = false := by assumption)
    (m_media : kp .media = false := by assumption) (m_upd : kp .upd = false := by assumption)
    (m_flash : kp .flash = false := by assumption) :
    KeptR kp s0 (execRsvdTypeFrame p f s) := by
  unfold execRsvdTypeFrame
  simp_all

@[simp] theorem execSyncFrame_kept {kp : Part → Bool} {s0 : State} (p : Port) (f : LineFrame) (readings : List Word)
    (s : State) (hk0 : Kept kp s0 s)
    (m_mem : kp .mem = false := by assumption) (m_time : kp .time = false := by assumption)
    (m_cyc : kp .cyc = false := by assumption) (m_evq : kp .evq = false := by assumption)
    (m_trace : kp .trace = false := by assumption) (m_bus : kp .bus = false := by assumption)
    (m_cfg : kp .cfg = false := by assumption) (m_mode : kp .mode = false := by assumption)
    (m_safe : kp .safe = false := by assumption) (m_field : kp .field = false := by assumption)
    (m_health : kp .health = false := by assumption) (m_inj : kp .inj = false := by assumption)
    (m_adc : kp .adc = false := by assumption) (m_panel : kp .panel = false := by assumption)
    (m_wdog : kp .wdog = false := by assumption) (m_link : kp .link = false := by assumption)
    (m_txn : kp .txn = false := by assumption) (m_sta : kp .sta = false := by assumption)
    (m_sec : kp .sec = false := by assumption) (m_ser : kp .ser = false := by assumption)
    (m_media : kp .media = false := by assumption) (m_upd : kp .upd = false := by assumption)
    (m_flash : kp .flash = false := by assumption) :
    KeptR kp s0 (execSyncFrame p f readings s) := by
  unfold execSyncFrame
  simp_all

@[simp] theorem execHeatReceive_kept {kp : Part → Bool} {s0 : State} (p : Port) (f : LineFrame) (s : State)
    (hk0 : Kept kp s0 s)
    (m_mem : kp .mem = false := by assumption) (m_time : kp .time = false := by assumption)
    (m_cyc : kp .cyc = false := by assumption) (m_evq : kp .evq = false := by assumption)
    (m_trace : kp .trace = false := by assumption) (m_bus : kp .bus = false := by assumption)
    (m_cfg : kp .cfg = false := by assumption) (m_mode : kp .mode = false := by assumption)
    (m_safe : kp .safe = false := by assumption) (m_field : kp .field = false := by assumption)
    (m_health : kp .health = false := by assumption) (m_inj : kp .inj = false := by assumption)
    (m_adc : kp .adc = false := by assumption) (m_panel : kp .panel = false := by assumption)
    (m_wdog : kp .wdog = false := by assumption) (m_link : kp .link = false := by assumption)
    (m_txn : kp .txn = false := by assumption) (m_sta : kp .sta = false := by assumption)
    (m_sec : kp .sec = false := by assumption) (m_ser : kp .ser = false := by assumption)
    (m_media : kp .media = false := by assumption) (m_upd : kp .upd = false := by assumption)
    (m_flash : kp .flash = false := by assumption) :
    KeptR kp s0 (execHeatReceive p f s) := by
  unfold execHeatReceive
  simp_all

@[simp] theorem execHeatReturn_kept {kp : Part → Bool} {s0 : State} (p : Port) (f : LineFrame) (s : State)
    (hk0 : Kept kp s0 s)
    (m_mem : kp .mem = false := by assumption) (m_time : kp .time = false := by assumption)
    (m_cyc : kp .cyc = false := by assumption) (m_evq : kp .evq = false := by assumption)
    (m_trace : kp .trace = false := by assumption) (m_bus : kp .bus = false := by assumption)
    (m_cfg : kp .cfg = false := by assumption) (m_mode : kp .mode = false := by assumption)
    (m_safe : kp .safe = false := by assumption) (m_field : kp .field = false := by assumption)
    (m_health : kp .health = false := by assumption) (m_inj : kp .inj = false := by assumption)
    (m_adc : kp .adc = false := by assumption) (m_panel : kp .panel = false := by assumption)
    (m_wdog : kp .wdog = false := by assumption) (m_link : kp .link = false := by assumption)
    (m_txn : kp .txn = false := by assumption) (m_sta : kp .sta = false := by assumption)
    (m_sec : kp .sec = false := by assumption) (m_ser : kp .ser = false := by assumption)
    (m_media : kp .media = false := by assumption) (m_upd : kp .upd = false := by assumption)
    (m_flash : kp .flash = false := by assumption) :
    KeptR kp s0 (execHeatReturn p f s) := by
  unfold execHeatReturn
  simp_all

@[simp] theorem execBatonReceive_kept {kp : Part → Bool} {s0 : State} (p : Port) (f : LineFrame) (s : State)
    (hk0 : Kept kp s0 s)
    (m_mem : kp .mem = false := by assumption) (m_time : kp .time = false := by assumption)
    (m_cyc : kp .cyc = false := by assumption) (m_evq : kp .evq = false := by assumption)
    (m_trace : kp .trace = false := by assumption) (m_bus : kp .bus = false := by assumption)
    (m_cfg : kp .cfg = false := by assumption) (m_mode : kp .mode = false := by assumption)
    (m_safe : kp .safe = false := by assumption) (m_field : kp .field = false := by assumption)
    (m_health : kp .health = false := by assumption) (m_inj : kp .inj = false := by assumption)
    (m_adc : kp .adc = false := by assumption) (m_panel : kp .panel = false := by assumption)
    (m_wdog : kp .wdog = false := by assumption) (m_link : kp .link = false := by assumption)
    (m_txn : kp .txn = false := by assumption) (m_sta : kp .sta = false := by assumption)
    (m_sec : kp .sec = false := by assumption) (m_ser : kp .ser = false := by assumption)
    (m_media : kp .media = false := by assumption) (m_upd : kp .upd = false := by assumption)
    (m_flash : kp .flash = false := by assumption) :
    KeptR kp s0 (execBatonReceive p f s) := by
  unfold execBatonReceive
  simp_all

@[simp] theorem execBatonReturn_kept {kp : Part → Bool} {s0 : State} (p : Port) (f : LineFrame) (s : State)
    (hk0 : Kept kp s0 s)
    (m_mem : kp .mem = false := by assumption) (m_time : kp .time = false := by assumption)
    (m_cyc : kp .cyc = false := by assumption) (m_evq : kp .evq = false := by assumption)
    (m_trace : kp .trace = false := by assumption) (m_bus : kp .bus = false := by assumption)
    (m_cfg : kp .cfg = false := by assumption) (m_mode : kp .mode = false := by assumption)
    (m_safe : kp .safe = false := by assumption) (m_field : kp .field = false := by assumption)
    (m_health : kp .health = false := by assumption) (m_inj : kp .inj = false := by assumption)
    (m_adc : kp .adc = false := by assumption) (m_panel : kp .panel = false := by assumption)
    (m_wdog : kp .wdog = false := by assumption) (m_link : kp .link = false := by assumption)
    (m_txn : kp .txn = false := by assumption) (m_sta : kp .sta = false := by assumption)
    (m_sec : kp .sec = false := by assumption) (m_ser : kp .ser = false := by assumption)
    (m_media : kp .media = false := by assumption) (m_upd : kp .upd = false := by assumption)
    (m_flash : kp .flash = false := by assumption) :
    KeptR kp s0 (execBatonReturn p f s) := by
  unfold execBatonReturn
  simp_all

@[simp] theorem execCountReceive_kept {kp : Part → Bool} {s0 : State} (p : Port) (f : LineFrame) (s : State)
    (hk0 : Kept kp s0 s)
    (m_mem : kp .mem = false := by assumption) (m_time : kp .time = false := by assumption)
    (m_cyc : kp .cyc = false := by assumption) (m_evq : kp .evq = false := by assumption)
    (m_trace : kp .trace = false := by assumption) (m_bus : kp .bus = false := by assumption)
    (m_cfg : kp .cfg = false := by assumption) (m_mode : kp .mode = false := by assumption)
    (m_safe : kp .safe = false := by assumption) (m_field : kp .field = false := by assumption)
    (m_health : kp .health = false := by assumption) (m_inj : kp .inj = false := by assumption)
    (m_adc : kp .adc = false := by assumption) (m_panel : kp .panel = false := by assumption)
    (m_wdog : kp .wdog = false := by assumption) (m_link : kp .link = false := by assumption)
    (m_txn : kp .txn = false := by assumption) (m_sta : kp .sta = false := by assumption)
    (m_sec : kp .sec = false := by assumption) (m_ser : kp .ser = false := by assumption)
    (m_media : kp .media = false := by assumption) (m_upd : kp .upd = false := by assumption)
    (m_flash : kp .flash = false := by assumption) :
    KeptR kp s0 (execCountReceive p f s) := by
  unfold execCountReceive
  simp_all

@[simp] theorem execCountReturn_kept {kp : Part → Bool} {s0 : State} (p : Port) (f : LineFrame) (s : State)
    (hk0 : Kept kp s0 s)
    (m_mem : kp .mem = false := by assumption) (m_time : kp .time = false := by assumption)
    (m_cyc : kp .cyc = false := by assumption) (m_evq : kp .evq = false := by assumption)
    (m_trace : kp .trace = false := by assumption) (m_bus : kp .bus = false := by assumption)
    (m_cfg : kp .cfg = false := by assumption) (m_mode : kp .mode = false := by assumption)
    (m_safe : kp .safe = false := by assumption) (m_field : kp .field = false := by assumption)
    (m_health : kp .health = false := by assumption) (m_inj : kp .inj = false := by assumption)
    (m_adc : kp .adc = false := by assumption) (m_panel : kp .panel = false := by assumption)
    (m_wdog : kp .wdog = false := by assumption) (m_link : kp .link = false := by assumption)
    (m_txn : kp .txn = false := by assumption) (m_sta : kp .sta = false := by assumption)
    (m_sec : kp .sec = false := by assumption) (m_ser : kp .ser = false := by assumption)
    (m_media : kp .media = false := by assumption) (m_upd : kp .upd = false := by assumption)
    (m_flash : kp .flash = false := by assumption) :
    KeptR kp s0 (execCountReturn p f s) := by
  unfold execCountReturn
  simp_all

@[simp] theorem execLoopbackNoticeFrame_kept {kp : Part → Bool} {s0 : State} (p : Port) (f : LineFrame) (s : State)
    (hk0 : Kept kp s0 s)
    (m_mem : kp .mem = false := by assumption) (m_time : kp .time = false := by assumption)
    (m_cyc : kp .cyc = false := by assumption) (m_evq : kp .evq = false := by assumption)
    (m_trace : kp .trace = false := by assumption) (m_bus : kp .bus = false := by assumption)
    (m_cfg : kp .cfg = false := by assumption) (m_mode : kp .mode = false := by assumption)
    (m_safe : kp .safe = false := by assumption) (m_field : kp .field = false := by assumption)
    (m_health : kp .health = false := by assumption) (m_inj : kp .inj = false := by assumption)
    (m_adc : kp .adc = false := by assumption) (m_panel : kp .panel = false := by assumption)
    (m_wdog : kp .wdog = false := by assumption) (m_link : kp .link = false := by assumption)
    (m_txn : kp .txn = false := by assumption) (m_sta : kp .sta = false := by assumption)
    (m_sec : kp .sec = false := by assumption) (m_ser : kp .ser = false := by assumption)
    (m_media : kp .media = false := by assumption) (m_upd : kp .upd = false := by assumption)
    (m_flash : kp .flash = false := by assumption) :
    KeptR kp s0 (execLoopbackNoticeFrame p f s) := by
  unfold execLoopbackNoticeFrame
  simp_all

@[simp] theorem execRelayReceive_kept {kp : Part → Bool} {s0 : State} (p : Port) (f : LineFrame) (s : State)
    (hk0 : Kept kp s0 s)
    (m_mem : kp .mem = false := by assumption) (m_time : kp .time = false := by assumption)
    (m_cyc : kp .cyc = false := by assumption) (m_evq : kp .evq = false := by assumption)
    (m_trace : kp .trace = false := by assumption) (m_bus : kp .bus = false := by assumption)
    (m_cfg : kp .cfg = false := by assumption) (m_mode : kp .mode = false := by assumption)
    (m_safe : kp .safe = false := by assumption) (m_field : kp .field = false := by assumption)
    (m_health : kp .health = false := by assumption) (m_inj : kp .inj = false := by assumption)
    (m_adc : kp .adc = false := by assumption) (m_panel : kp .panel = false := by assumption)
    (m_wdog : kp .wdog = false := by assumption) (m_link : kp .link = false := by assumption)
    (m_txn : kp .txn = false := by assumption) (m_sta : kp .sta = false := by assumption)
    (m_sec : kp .sec = false := by assumption) (m_ser : kp .ser = false := by assumption)
    (m_media : kp .media = false := by assumption) (m_upd : kp .upd = false := by assumption)
    (m_flash : kp .flash = false := by assumption) :
    KeptR kp s0 (execRelayReceive p f s) := by
  unfold execRelayReceive
  simp_all

end Sys2Proof.Machine
end

