-- ==== Sys2Proof/Laws/KeptHost.lean ====
section
/-! SUPPORT. KeptHost: every operation that answers a state keeps Kept, one lemma for each, named after it.
The medium, update, security, the tap, flash reads, the registers, the host bus and the slave port. -/

namespace Sys2Proof.Machine

open Sys2Proof

-- One proof at a time: in the package as one text, proofs checked side by side ask for too many threads.
set_option Elab.async false

/-! ### Media -/

@[simp] theorem State.setReader_kept {kp : Part → Bool} {s0 : State} (s : State) (r : Reader) (hk0 : Kept kp s0 s)
    (m_media : kp .media = false := by assumption) :
    Kept kp s0 (State.setReader s r) := by
  unfold State.setReader
  simp_all

@[simp] theorem readerAsk_kept {kp : Part → Bool} {s0 : State} (s : State) (hk0 : Kept kp s0 s)
    (m_txn : kp .txn = false := by assumption) (m_ser : kp .ser = false := by assumption) :
    Kept kp s0 (readerAsk s) := by
  unfold readerAsk
  repeat' split
  all_goals simp_all

@[simp] theorem readerNext_kept {kp : Part → Bool} {s0 : State} (s : State) (hk0 : Kept kp s0 s)
    (m_txn : kp .txn = false := by assumption) (m_ser : kp .ser = false := by assumption)
    (m_media : kp .media = false := by assumption) :
    Kept kp s0 (readerNext s) := by
  unfold readerNext
  repeat' split
  all_goals simp_all

@[simp] theorem traceChosen_kept {kp : Part → Bool} {s0 : State} (s : State) (f : MediaFile) (m : List Byte)
    (hk0 : Kept kp s0 s)
    (m_trace : kp .trace = false := by assumption) :
    Kept kp s0 (traceChosen s f m) := by
  unfold traceChosen
  simp_all (maxDischargeDepth := 9)

@[simp] theorem chooseEnd_kept {kp : Part → Bool} {s0 : State} (s : State) (r : Reader) (hk0 : Kept kp s0 s)
    (m_evq : kp .evq = false := by assumption) (m_trace : kp .trace = false := by assumption)
    (m_txn : kp .txn = false := by assumption) (m_sec : kp .sec = false := by assumption)
    (m_ser : kp .ser = false := by assumption) (m_media : kp .media = false := by assumption)
    (m_upd : kp .upd = false := by assumption) (m_flash : kp .flash = false := by assumption) :
    Kept kp s0 (chooseEnd s r) := by
  unfold chooseEnd
  dsimp only
  repeat' split
  all_goals simp_all (maxDischargeDepth := 9)

@[simp] theorem chooseStep_kept {kp : Part → Bool} {s0 : State} (s : State) (r : Reader) (c : Nat) (hk0 : Kept kp s0 s)
    (m_evq : kp .evq = false := by assumption) (m_trace : kp .trace = false := by assumption)
    (m_txn : kp .txn = false := by assumption) (m_sec : kp .sec = false := by assumption)
    (m_ser : kp .ser = false := by assumption) (m_media : kp .media = false := by assumption)
    (m_upd : kp .upd = false := by assumption) (m_flash : kp .flash = false := by assumption) :
    Kept kp s0 (chooseStep s r c) := by
  unfold chooseStep
  repeat' split
  all_goals simp_all

@[simp] theorem chooseBad_kept {kp : Part → Bool} {s0 : State} (s : State) (r : Reader) (c : Nat) (code : Nat)
    (hk0 : Kept kp s0 s)
    (m_evq : kp .evq = false := by assumption) (m_trace : kp .trace = false := by assumption)
    (m_txn : kp .txn = false := by assumption) (m_sec : kp .sec = false := by assumption)
    (m_ser : kp .ser = false := by assumption) (m_media : kp .media = false := by assumption)
    (m_upd : kp .upd = false := by assumption) (m_flash : kp .flash = false := by assumption) :
    Kept kp s0 (chooseBad s r c code) := by
  unfold chooseBad
  simp_all

@[simp] theorem chooseJudge_kept {kp : Part → Bool} {s0 : State} (s : State) (r : Reader) (c : Nat) (len : Nat)
    (m : List Byte) (hk0 : Kept kp s0 s)
    (m_evq : kp .evq = false := by assumption) (m_trace : kp .trace = false := by assumption)
    (m_txn : kp .txn = false := by assumption) (m_sec : kp .sec = false := by assumption)
    (m_ser : kp .ser = false := by assumption) (m_media : kp .media = false := by assumption)
    (m_upd : kp .upd = false := by assumption) (m_flash : kp .flash = false := by assumption) :
    Kept kp s0 (chooseJudge s r c len m) := by
  unfold chooseJudge
  repeat' split
  all_goals simp_all

@[simp] theorem findStep_kept {kp : Part → Bool} {s0 : State} (s : State) (r : Reader) (c : Nat) (hk0 : Kept kp s0 s)
    (m_evq : kp .evq = false := by assumption) (m_trace : kp .trace = false := by assumption)
    (m_txn : kp .txn = false := by assumption) (m_sec : kp .sec = false := by assumption)
    (m_ser : kp .ser = false := by assumption) (m_media : kp .media = false := by assumption)
    (m_upd : kp .upd = false := by assumption) :
    Kept kp s0 (findStep s r c) := by
  unfold findStep
  dsimp only
  repeat' split
  all_goals simp_all

@[simp] theorem findJudge_kept {kp : Part → Bool} {s0 : State} (s : State) (r : Reader) (c : Nat) (len : Nat)
    (m : List Byte) (hk0 : Kept kp s0 s)
    (m_evq : kp .evq = false := by assumption) (m_trace : kp .trace = false := by assumption)
    (m_txn : kp .txn = false := by assumption) (m_sec : kp .sec = false := by assumption)
    (m_ser : kp .ser = false := by assumption) (m_media : kp .media = false := by assumption)
    (m_upd : kp .upd = false := by assumption) :
    Kept kp s0 (findJudge s r c len m) := by
  unfold findJudge
  dsimp only
  repeat' split
  all_goals simp_all (maxDischargeDepth := 9)

@[simp] theorem metaUnit_kept {kp : Part → Bool} {s0 : State} (s : State) (r : Reader) (len : Nat)
    (judge : List Byte → State) (hf : ∀ m, Kept kp s0 (judge m)) (h : Kept kp s0 s)
    (m_txn : kp .txn = false := by assumption) (m_ser : kp .ser = false := by assumption)
    (m_media : kp .media = false := by assumption) :
    Kept kp s0 (metaUnit s r len judge) := by
  unfold metaUnit
  dsimp only
  split
  · simp_all
  · exact hf _

@[simp] theorem readerFail_kept {kp : Part → Bool} {s0 : State} (s : State) (r : Reader) (hk0 : Kept kp s0 s)
    (m_evq : kp .evq = false := by assumption) (m_trace : kp .trace = false := by assumption)
    (m_txn : kp .txn = false := by assumption) (m_sec : kp .sec = false := by assumption)
    (m_ser : kp .ser = false := by assumption) (m_media : kp .media = false := by assumption)
    (m_upd : kp .upd = false := by assumption) (m_flash : kp .flash = false := by assumption) :
    Kept kp s0 (readerFail s r) := by
  unfold readerFail
  dsimp only
  repeat' split
  all_goals simp_all

@[simp] theorem sectorUnit_kept {kp : Part → Bool} {s0 : State} (s : State) (r : Reader) (c : Nat) (n : Nat)
    (hk0 : Kept kp s0 s)
    (m_evq : kp .evq = false := by assumption) (m_trace : kp .trace = false := by assumption)
    (m_txn : kp .txn = false := by assumption) (m_sec : kp .sec = false := by assumption)
    (m_ser : kp .ser = false := by assumption) (m_media : kp .media = false := by assumption)
    (m_upd : kp .upd = false := by assumption) (m_flash : kp .flash = false := by assumption) :
    Kept kp s0 (sectorUnit s r c n) := by
  unfold sectorUnit
  dsimp only
  repeat' split
  all_goals simp_all (maxDischargeDepth := 9)

@[simp] theorem readerTake_kept {kp : Part → Bool} {s0 : State} (s : State) (r : Reader) (bytes : List Byte)
    (hk0 : Kept kp s0 s)
    (m_evq : kp .evq = false := by assumption) (m_trace : kp .trace = false := by assumption)
    (m_txn : kp .txn = false := by assumption) (m_sec : kp .sec = false := by assumption)
    (m_ser : kp .ser = false := by assumption) (m_media : kp .media = false := by assumption)
    (m_upd : kp .upd = false := by assumption) (m_flash : kp .flash = false := by assumption) :
    Kept kp s0 (readerTake s r bytes) := by
  unfold readerTake
  dsimp only
  repeat' split
  all_goals simp_all

@[simp] theorem mediumEnd_kept {kp : Part → Bool} {s0 : State} (s : State) (ok : Bool) (bytes : List Byte)
    (hk0 : Kept kp s0 s)
    (m_evq : kp .evq = false := by assumption) (m_trace : kp .trace = false := by assumption)
    (m_txn : kp .txn = false := by assumption) (m_sec : kp .sec = false := by assumption)
    (m_ser : kp .ser = false := by assumption) (m_media : kp .media = false := by assumption)
    (m_upd : kp .upd = false := by assumption) (m_flash : kp .flash = false := by assumption) :
    Kept kp s0 (mediumEnd s ok bytes) := by
  unfold mediumEnd
  dsimp only
  repeat' split
  all_goals simp_all (maxDischargeDepth := 9)

@[simp] theorem execMediaInsert_kept {kp : Part → Bool} {s0 : State} (s : State) (hk0 : Kept kp s0 s)
    (m_evq : kp .evq = false := by assumption) (m_trace : kp .trace = false := by assumption)
    (m_mode : kp .mode = false := by assumption) (m_safe : kp .safe = false := by assumption)
    (m_adc : kp .adc = false := by assumption) (m_wdog : kp .wdog = false := by assumption)
    (m_media : kp .media = false := by assumption) :
    KeptR kp s0 (execMediaInsert s) := by
  unfold execMediaInsert
  repeat' split
  all_goals simp_all

@[simp] theorem identSession_kept {kp : Part → Bool} {s0 : State} (s : State) (hk0 : Kept kp s0 s)
    (m_evq : kp .evq = false := by assumption) (m_trace : kp .trace = false := by assumption)
    (m_txn : kp .txn = false := by assumption) (m_sec : kp .sec = false := by assumption)
    (m_ser : kp .ser = false := by assumption) (m_media : kp .media = false := by assumption)
    (m_upd : kp .upd = false := by assumption) :
    Kept kp s0 (identSession s) := by
  unfold identSession
  dsimp only
  repeat' split
  all_goals simp_all (maxDischargeDepth := 9)

@[simp] theorem execMediaIdentify_kept {kp : Part → Bool} {s0 : State} (found : MediaFound) (s : State)
    (hk0 : Kept kp s0 s)
    (m_time : kp .time = false := by assumption) (m_evq : kp .evq = false := by assumption)
    (m_trace : kp .trace = false := by assumption) (m_txn : kp .txn = false := by assumption)
    (m_sec : kp .sec = false := by assumption) (m_ser : kp .ser = false := by assumption)
    (m_media : kp .media = false := by assumption) (m_upd : kp .upd = false := by assumption) :
    KeptR kp s0 (execMediaIdentify found s) := by
  unfold execMediaIdentify
  try dsimp only
  repeat' split
  all_goals simp_all (maxDischargeDepth := 15)

@[simp] theorem execMediaRemove_kept {kp : Part → Bool} {s0 : State} (s : State) (hk0 : Kept kp s0 s)
    (m_ser : kp .ser = false := by assumption) (m_media : kp .media = false := by assumption)
    (m_upd : kp .upd = false := by assumption) :
    KeptR kp s0 (execMediaRemove s) := by
  unfold execMediaRemove
  dsimp only
  repeat' split
  all_goals simp_all

@[simp] theorem execMediaSectorRead_kept {kp : Part → Bool} {s0 : State} (ok : Bool) (bytes : List Byte) (s : State)
    (hk0 : Kept kp s0 s)
    (m_evq : kp .evq = false := by assumption) (m_trace : kp .trace = false := by assumption)
    (m_txn : kp .txn = false := by assumption) (m_sec : kp .sec = false := by assumption)
    (m_ser : kp .ser = false := by assumption) (m_media : kp .media = false := by assumption)
    (m_upd : kp .upd = false := by assumption) (m_flash : kp .flash = false := by assumption) :
    KeptR kp s0 (execMediaSectorRead ok bytes s) := by
  unfold execMediaSectorRead
  dsimp only
  repeat' split
  all_goals simp_all (maxDischargeDepth := 9)

@[simp] theorem execMediaAbsenceTimeout_kept {kp : Part → Bool} {s0 : State} (s : State) (hk0 : Kept kp s0 s)
    (m_time : kp .time = false := by assumption) (m_evq : kp .evq = false := by assumption)
    (m_trace : kp .trace = false := by assumption) (m_sec : kp .sec = false := by assumption)
    (m_media : kp .media = false := by assumption) (m_upd : kp .upd = false := by assumption) :
    KeptR kp s0 (execMediaAbsenceTimeout s) := by
  unfold execMediaAbsenceTimeout
  repeat' split
  all_goals simp_all

/-! ### Update -/

@[simp] theorem eraseSlot_kept {kp : Part → Bool} {s0 : State} (s : State) (p : Nat) (hk0 : Kept kp s0 s)
    (m_upd : kp .upd = false := by assumption) (m_flash : kp .flash = false := by assumption) :
    Kept kp s0 (eraseSlot s p) := by
  unfold eraseSlot
  simp_all

@[simp] theorem prepareBegin_kept {kp : Part → Bool} {s0 : State} (s : State) (hk0 : Kept kp s0 s)
    (m_evq : kp .evq = false := by assumption) (m_trace : kp .trace = false := by assumption)
    (m_sec : kp .sec = false := by assumption) (m_upd : kp .upd = false := by assumption)
    (m_flash : kp .flash = false := by assumption) :
    Kept kp s0 (prepareBegin s) := by
  unfold prepareBegin
  repeat' split
  all_goals simp_all

@[simp] theorem prepareFail_kept {kp : Part → Bool} {s0 : State} (s : State) (p : Nat) (code : Nat) (hk0 : Kept kp s0 s)
    (m_evq : kp .evq = false := by assumption) (m_trace : kp .trace = false := by assumption)
    (m_sec : kp .sec = false := by assumption) (m_media : kp .media = false := by assumption)
    (m_upd : kp .upd = false := by assumption) (m_flash : kp .flash = false := by assumption) :
    Kept kp s0 (prepareFail s p code) := by
  unfold prepareFail
  simp_all

@[simp] theorem prepareWrite_kept {kp : Part → Bool} {s0 : State} (s : State) (p : Nat) (m : List Byte)
    (d : List Byte) (image : List Byte) (hk0 : Kept kp s0 s)
    (m_upd : kp .upd = false := by assumption) (m_flash : kp .flash = false := by assumption) :
    Kept kp s0 (prepareWrite s p m d image) := by
  unfold prepareWrite
  simp_all (maxDischargeDepth := 9)

@[simp] theorem prepareStep_kept {kp : Part → Bool} {s0 : State} (s : State) (p : Nat) (rest : List Nat)
    (hk0 : Kept kp s0 s)
    (m_evq : kp .evq = false := by assumption) (m_trace : kp .trace = false := by assumption)
    (m_sec : kp .sec = false := by assumption) (m_media : kp .media = false := by assumption)
    (m_upd : kp .upd = false := by assumption) (m_flash : kp .flash = false := by assumption) :
    Kept kp s0 (prepareStep s p rest) := by
  unfold prepareStep
  dsimp only
  repeat' split
  all_goals simp_all (maxDischargeDepth := 9)

@[simp] theorem execPreparePartDone_kept {kp : Part → Bool} {s0 : State} (s : State) (hk0 : Kept kp s0 s)
    (m_evq : kp .evq = false := by assumption) (m_trace : kp .trace = false := by assumption)
    (m_sec : kp .sec = false := by assumption) (m_media : kp .media = false := by assumption)
    (m_upd : kp .upd = false := by assumption) (m_flash : kp .flash = false := by assumption) :
    KeptR kp s0 (execPreparePartDone s) := by
  unfold execPreparePartDone
  repeat' split
  all_goals simp_all (maxDischargeDepth := 9)

@[simp] theorem activateBegin_kept {kp : Part → Bool} {s0 : State} (s : State) (hk0 : Kept kp s0 s)
    (m_time : kp .time = false := by assumption) (m_cyc : kp .cyc = false := by assumption)
    (m_evq : kp .evq = false := by assumption) (m_trace : kp .trace = false := by assumption)
    (m_bus : kp .bus = false := by assumption) (m_cfg : kp .cfg = false := by assumption)
    (m_mode : kp .mode = false := by assumption) (m_safe : kp .safe = false := by assumption)
    (m_field : kp .field = false := by assumption) (m_health : kp .health = false := by assumption)
    (m_adc : kp .adc = false := by assumption) (m_panel : kp .panel = false := by assumption)
    (m_wdog : kp .wdog = false := by assumption) (m_txn : kp .txn = false := by assumption)
    (m_sta : kp .sta = false := by assumption) (m_sec : kp .sec = false := by assumption)
    (m_ser : kp .ser = false := by assumption) (m_media : kp .media = false := by assumption)
    (m_upd : kp .upd = false := by assumption) :
    Kept kp s0 (activateBegin s) := by
  unfold activateBegin
  simp_all (maxDischargeDepth := 9)

@[simp] theorem fallStart_kept {kp : Part → Bool} {s0 : State} (s : State) (reason : Word) (hk0 : Kept kp s0 s)
    (m_time : kp .time = false := by assumption) (m_cyc : kp .cyc = false := by assumption)
    (m_evq : kp .evq = false := by assumption) (m_trace : kp .trace = false := by assumption)
    (m_bus : kp .bus = false := by assumption) (m_cfg : kp .cfg = false := by assumption)
    (m_mode : kp .mode = false := by assumption) (m_safe : kp .safe = false := by assumption)
    (m_field : kp .field = false := by assumption) (m_health : kp .health = false := by assumption)
    (m_adc : kp .adc = false := by assumption) (m_panel : kp .panel = false := by assumption)
    (m_wdog : kp .wdog = false := by assumption) (m_txn : kp .txn = false := by assumption)
    (m_sta : kp .sta = false := by assumption) (m_sec : kp .sec = false := by assumption)
    (m_ser : kp .ser = false := by assumption) (m_media : kp .media = false := by assumption)
    (m_upd : kp .upd = false := by assumption) :
    Kept kp s0 (fallStart s reason) := by
  unfold fallStart
  dsimp only
  repeat' split
  all_goals simp_all

@[simp] theorem execActPauseEnd_kept {kp : Part → Bool} {s0 : State} (s : State) (hk0 : Kept kp s0 s)
    (m_time : kp .time = false := by assumption) (m_cyc : kp .cyc = false := by assumption)
    (m_evq : kp .evq = false := by assumption) (m_trace : kp .trace = false := by assumption)
    (m_bus : kp .bus = false := by assumption) (m_cfg : kp .cfg = false := by assumption)
    (m_mode : kp .mode = false := by assumption) (m_safe : kp .safe = false := by assumption)
    (m_supply : kp .supply = false := by assumption) (m_field : kp .field = false := by assumption)
    (m_health : kp .health = false := by assumption) (m_adc : kp .adc = false := by assumption)
    (m_panel : kp .panel = false := by assumption) (m_wdog : kp .wdog = false := by assumption)
    (m_txn : kp .txn = false := by assumption) (m_sta : kp .sta = false := by assumption)
    (m_sec : kp .sec = false := by assumption) (m_ser : kp .ser = false := by assumption)
    (m_media : kp .media = false := by assumption) (m_upd : kp .upd = false := by assumption) :
    KeptR kp s0 (execActPauseEnd s) := by
  unfold execActPauseEnd
  dsimp only
  repeat' split
  all_goals simp_all (maxDischargeDepth := 9)

@[simp] theorem startRead_kept {kp : Part → Bool} {s0 : State} (s : State) (hk0 : Kept kp s0 s)
    (m_evq : kp .evq = false := by assumption) (m_trace : kp .trace = false := by assumption)
    (m_txn : kp .txn = false := by assumption) (m_sec : kp .sec = false := by assumption)
    (m_ser : kp .ser = false := by assumption) (m_media : kp .media = false := by assumption)
    (m_upd : kp .upd = false := by assumption) :
    Kept kp s0 (startRead s) := by
  unfold startRead
  dsimp only
  repeat' split
  all_goals simp_all (maxDischargeDepth := 9)

@[simp] theorem joinReceive_kept {kp : Part → Bool} {s0 : State} (s : State) (id : List Byte) (metaN : Nat)
    (blocks : Nat) (hk0 : Kept kp s0 s)
    (m_evq : kp .evq = false := by assumption) (m_trace : kp .trace = false := by assumption)
    (m_upd : kp .upd = false := by assumption) (m_flash : kp .flash = false := by assumption) :
    Kept kp s0 (joinReceive s id metaN blocks) := by
  unfold joinReceive
  dsimp only
  repeat' split
  all_goals simp_all (maxDischargeDepth := 9)

@[simp] theorem abortSession_kept {kp : Part → Bool} {s0 : State} (s : State) (hk0 : Kept kp s0 s)
    (m_evq : kp .evq = false := by assumption) (m_trace : kp .trace = false := by assumption)
    (m_bus : kp .bus = false := by assumption) (m_sta : kp .sta = false := by assumption)
    (m_sec : kp .sec = false := by assumption) (m_media : kp .media = false := by assumption)
    (m_upd : kp .upd = false := by assumption) :
    Kept kp s0 (abortSession s) := by
  unfold abortSession
  repeat' split
  all_goals simp_all

@[simp] theorem startPrepare_kept {kp : Part → Bool} {s0 : State} (s : State) (hk0 : Kept kp s0 s)
    (m_evq : kp .evq = false := by assumption) (m_trace : kp .trace = false := by assumption)
    (m_sec : kp .sec = false := by assumption) (m_media : kp .media = false := by assumption)
    (m_upd : kp .upd = false := by assumption) (m_flash : kp .flash = false := by assumption) :
    Kept kp s0 (startPrepare s) := by
  unfold startPrepare
  dsimp only
  repeat' split
  all_goals simp_all (maxDischargeDepth := 9)

@[simp] theorem updEffect_kept {kp : Part → Bool} {s0 : State} (s : State) (cmd : Nat) (start : Nat)
    (join : Option (List Byte × Nat × Nat)) (hk0 : Kept kp s0 s)
    (m_time : kp .time = false := by assumption) (m_cyc : kp .cyc = false := by assumption)
    (m_evq : kp .evq = false := by assumption) (m_trace : kp .trace = false := by assumption)
    (m_bus : kp .bus = false := by assumption) (m_cfg : kp .cfg = false := by assumption)
    (m_mode : kp .mode = false := by assumption) (m_safe : kp .safe = false := by assumption)
    (m_field : kp .field = false := by assumption) (m_health : kp .health = false := by assumption)
    (m_adc : kp .adc = false := by assumption) (m_panel : kp .panel = false := by assumption)
    (m_wdog : kp .wdog = false := by assumption) (m_txn : kp .txn = false := by assumption)
    (m_sta : kp .sta = false := by assumption) (m_sec : kp .sec = false := by assumption)
    (m_ser : kp .ser = false := by assumption) (m_media : kp .media = false := by assumption)
    (m_upd : kp .upd = false := by assumption) (m_flash : kp .flash = false := by assumption) :
    Kept kp s0 (updEffect s cmd start join) := by
  unfold updEffect
  repeat' split
  all_goals simp_all

@[simp] theorem updCommand_kept {kp : Part → Bool} {s0 : State} (s : State) (cmd : Nat) (start : Nat)
    (join : Option (List Byte × Nat × Nat)) (hk0 : Kept kp s0 s)
    (m_time : kp .time = false := by assumption) (m_cyc : kp .cyc = false := by assumption)
    (m_evq : kp .evq = false := by assumption) (m_trace : kp .trace = false := by assumption)
    (m_bus : kp .bus = false := by assumption) (m_cfg : kp .cfg = false := by assumption)
    (m_mode : kp .mode = false := by assumption) (m_safe : kp .safe = false := by assumption)
    (m_field : kp .field = false := by assumption) (m_health : kp .health = false := by assumption)
    (m_adc : kp .adc = false := by assumption) (m_panel : kp .panel = false := by assumption)
    (m_wdog : kp .wdog = false := by assumption) (m_txn : kp .txn = false := by assumption)
    (m_sta : kp .sta = false := by assumption) (m_sec : kp .sec = false := by assumption)
    (m_ser : kp .ser = false := by assumption) (m_media : kp .media = false := by assumption)
    (m_upd : kp .upd = false := by assumption) (m_flash : kp .flash = false := by assumption) :
    Kept kp s0 (updCommand s cmd start join).1 := by
  unfold updCommand
  dsimp only
  repeat' split
  all_goals simp_all

@[simp] theorem regUpdCtrl_kept {kp : Part → Bool} {s0 : State} (s : State) (v : Acc) (w : Word) (hk0 : Kept kp s0 s)
    (m_time : kp .time = false := by assumption) (m_cyc : kp .cyc = false := by assumption)
    (m_evq : kp .evq = false := by assumption) (m_trace : kp .trace = false := by assumption)
    (m_bus : kp .bus = false := by assumption) (m_cfg : kp .cfg = false := by assumption)
    (m_mode : kp .mode = false := by assumption) (m_safe : kp .safe = false := by assumption)
    (m_field : kp .field = false := by assumption) (m_health : kp .health = false := by assumption)
    (m_adc : kp .adc = false := by assumption) (m_panel : kp .panel = false := by assumption)
    (m_wdog : kp .wdog = false := by assumption) (m_txn : kp .txn = false := by assumption)
    (m_sta : kp .sta = false := by assumption) (m_sec : kp .sec = false := by assumption)
    (m_ser : kp .ser = false := by assumption) (m_media : kp .media = false := by assumption)
    (m_upd : kp .upd = false := by assumption) (m_flash : kp .flash = false := by assumption) :
    Kept kp s0 (regUpdCtrl s v w).1 := by
  unfold regUpdCtrl
  dsimp only
  repeat' split
  all_goals simp_all (maxDischargeDepth := 9)

@[simp] theorem updLine_kept {kp : Part → Bool} {s0 : State} (s : State) (t : Txn) (hk0 : Kept kp s0 s)
    (m_time : kp .time = false := by assumption) (m_cyc : kp .cyc = false := by assumption)
    (m_evq : kp .evq = false := by assumption) (m_trace : kp .trace = false := by assumption)
    (m_bus : kp .bus = false := by assumption) (m_cfg : kp .cfg = false := by assumption)
    (m_mode : kp .mode = false := by assumption) (m_safe : kp .safe = false := by assumption)
    (m_field : kp .field = false := by assumption) (m_health : kp .health = false := by assumption)
    (m_adc : kp .adc = false := by assumption) (m_panel : kp .panel = false := by assumption)
    (m_wdog : kp .wdog = false := by assumption) (m_txn : kp .txn = false := by assumption)
    (m_sta : kp .sta = false := by assumption) (m_sec : kp .sec = false := by assumption)
    (m_ser : kp .ser = false := by assumption) (m_media : kp .media = false := by assumption)
    (m_upd : kp .upd = false := by assumption) (m_flash : kp .flash = false := by assumption) :
    Kept kp s0 (updLine s t) := by
  unfold updLine
  dsimp only
  repeat' split
  all_goals simp_all

@[simp] theorem updRow_kept {kp : Part → Bool} {s0 : State} (s : State) (via : Via) (c : Nat) (hk0 : Kept kp s0 s)
    (m_mem : kp .mem = false := by assumption) (m_time : kp .time = false := by assumption)
    (m_cyc : kp .cyc = false := by assumption) (m_evq : kp .evq = false := by assumption)
    (m_trace : kp .trace = false := by assumption) (m_bus : kp .bus = false := by assumption)
    (m_cfg : kp .cfg = false := by assumption) (m_mode : kp .mode = false := by assumption)
    (m_safe : kp .safe = false := by assumption) (m_field : kp .field = false := by assumption)
    (m_health : kp .health = false := by assumption) (m_adc : kp .adc = false := by assumption)
    (m_panel : kp .panel = false := by assumption) (m_wdog : kp .wdog = false := by assumption)
    (m_txn : kp .txn = false := by assumption) (m_sta : kp .sta = false := by assumption)
    (m_sec : kp .sec = false := by assumption) (m_ser : kp .ser = false := by assumption)
    (m_media : kp .media = false := by assumption) (m_upd : kp .upd = false := by assumption)
    (m_flash : kp .flash = false := by assumption) :
    KeptR kp s0 (updRow s via c) := by
  unfold updRow
  repeat' first
    | intro x
    | (with_reducible refine withTxn_kept _ _ _ _ _ _ ?_ ?_)
    | split
  all_goals simp_all

@[simp] theorem execStart_kept {kp : Part → Bool} {s0 : State} (via : Via) (s : State) (hk0 : Kept kp s0 s)
    (m_mem : kp .mem = false := by assumption) (m_time : kp .time = false := by assumption)
    (m_cyc : kp .cyc = false := by assumption) (m_evq : kp .evq = false := by assumption)
    (m_trace : kp .trace = false := by assumption) (m_bus : kp .bus = false := by assumption)
    (m_cfg : kp .cfg = false := by assumption) (m_mode : kp .mode = false := by assumption)
    (m_safe : kp .safe = false := by assumption) (m_field : kp .field = false := by assumption)
    (m_health : kp .health = false := by assumption) (m_adc : kp .adc = false := by assumption)
    (m_panel : kp .panel = false := by assumption) (m_wdog : kp .wdog = false := by assumption)
    (m_txn : kp .txn = false := by assumption) (m_sta : kp .sta = false := by assumption)
    (m_sec : kp .sec = false := by assumption) (m_ser : kp .ser = false := by assumption)
    (m_media : kp .media = false := by assumption) (m_upd : kp .upd = false := by assumption)
    (m_flash : kp .flash = false := by assumption) :
    KeptR kp s0 (execStart via s) := by
  unfold execStart
  simp_all

@[simp] theorem execAbort_kept {kp : Part → Bool} {s0 : State} (via : Via) (s : State) (hk0 : Kept kp s0 s)
    (m_mem : kp .mem = false := by assumption) (m_time : kp .time = false := by assumption)
    (m_cyc : kp .cyc = false := by assumption) (m_evq : kp .evq = false := by assumption)
    (m_trace : kp .trace = false := by assumption) (m_bus : kp .bus = false := by assumption)
    (m_cfg : kp .cfg = false := by assumption) (m_mode : kp .mode = false := by assumption)
    (m_safe : kp .safe = false := by assumption) (m_field : kp .field = false := by assumption)
    (m_health : kp .health = false := by assumption) (m_adc : kp .adc = false := by assumption)
    (m_panel : kp .panel = false := by assumption) (m_wdog : kp .wdog = false := by assumption)
    (m_txn : kp .txn = false := by assumption) (m_sta : kp .sta = false := by assumption)
    (m_sec : kp .sec = false := by assumption) (m_ser : kp .ser = false := by assumption)
    (m_media : kp .media = false := by assumption) (m_upd : kp .upd = false := by assumption)
    (m_flash : kp .flash = false := by assumption) :
    KeptR kp s0 (execAbort via s) := by
  unfold execAbort
  simp_all

@[simp] theorem execPrepare_kept {kp : Part → Bool} {s0 : State} (via : Via) (s : State) (hk0 : Kept kp s0 s)
    (m_mem : kp .mem = false := by assumption) (m_time : kp .time = false := by assumption)
    (m_cyc : kp .cyc = false := by assumption) (m_evq : kp .evq = false := by assumption)
    (m_trace : kp .trace = false := by assumption) (m_bus : kp .bus = false := by assumption)
    (m_cfg : kp .cfg = false := by assumption) (m_mode : kp .mode = false := by assumption)
    (m_safe : kp .safe = false := by assumption) (m_field : kp .field = false := by assumption)
    (m_health : kp .health = false := by assumption) (m_adc : kp .adc = false := by assumption)
    (m_panel : kp .panel = false := by assumption) (m_wdog : kp .wdog = false := by assumption)
    (m_txn : kp .txn = false := by assumption) (m_sta : kp .sta = false := by assumption)
    (m_sec : kp .sec = false := by assumption) (m_ser : kp .ser = false := by assumption)
    (m_media : kp .media = false := by assumption) (m_upd : kp .upd = false := by assumption)
    (m_flash : kp .flash = false := by assumption) :
    KeptR kp s0 (execPrepare via s) := by
  unfold execPrepare
  simp_all

@[simp] theorem execActivate_kept {kp : Part → Bool} {s0 : State} (via : Via) (s : State) (hk0 : Kept kp s0 s)
    (m_mem : kp .mem = false := by assumption) (m_time : kp .time = false := by assumption)
    (m_cyc : kp .cyc = false := by assumption) (m_evq : kp .evq = false := by assumption)
    (m_trace : kp .trace = false := by assumption) (m_bus : kp .bus = false := by assumption)
    (m_cfg : kp .cfg = false := by assumption) (m_mode : kp .mode = false := by assumption)
    (m_safe : kp .safe = false := by assumption) (m_field : kp .field = false := by assumption)
    (m_health : kp .health = false := by assumption) (m_adc : kp .adc = false := by assumption)
    (m_panel : kp .panel = false := by assumption) (m_wdog : kp .wdog = false := by assumption)
    (m_txn : kp .txn = false := by assumption) (m_sta : kp .sta = false := by assumption)
    (m_sec : kp .sec = false := by assumption) (m_ser : kp .ser = false := by assumption)
    (m_media : kp .media = false := by assumption) (m_upd : kp .upd = false := by assumption)
    (m_flash : kp .flash = false := by assumption) :
    KeptR kp s0 (execActivate via s) := by
  unfold execActivate
  simp_all

@[simp] theorem execVeto_kept {kp : Part → Bool} {s0 : State} (via : Via) (s : State) (hk0 : Kept kp s0 s)
    (m_mem : kp .mem = false := by assumption) (m_time : kp .time = false := by assumption)
    (m_cyc : kp .cyc = false := by assumption) (m_evq : kp .evq = false := by assumption)
    (m_trace : kp .trace = false := by assumption) (m_bus : kp .bus = false := by assumption)
    (m_cfg : kp .cfg = false := by assumption) (m_mode : kp .mode = false := by assumption)
    (m_safe : kp .safe = false := by assumption) (m_field : kp .field = false := by assumption)
    (m_health : kp .health = false := by assumption) (m_adc : kp .adc = false := by assumption)
    (m_panel : kp .panel = false := by assumption) (m_wdog : kp .wdog = false := by assumption)
    (m_txn : kp .txn = false := by assumption) (m_sta : kp .sta = false := by assumption)
    (m_sec : kp .sec = false := by assumption) (m_ser : kp .ser = false := by assumption)
    (m_media : kp .media = false := by assumption) (m_upd : kp .upd = false := by assumption)
    (m_flash : kp .flash = false := by assumption) :
    KeptR kp s0 (execVeto via s) := by
  unfold execVeto
  simp_all

@[simp] theorem execRelayJoin_kept {kp : Part → Bool} {s0 : State} (via : Via) (s : State) (hk0 : Kept kp s0 s)
    (m_mem : kp .mem = false := by assumption) (m_time : kp .time = false := by assumption)
    (m_cyc : kp .cyc = false := by assumption) (m_evq : kp .evq = false := by assumption)
    (m_trace : kp .trace = false := by assumption) (m_bus : kp .bus = false := by assumption)
    (m_cfg : kp .cfg = false := by assumption) (m_mode : kp .mode = false := by assumption)
    (m_safe : kp .safe = false := by assumption) (m_field : kp .field = false := by assumption)
    (m_health : kp .health = false := by assumption) (m_adc : kp .adc = false := by assumption)
    (m_panel : kp .panel = false := by assumption) (m_wdog : kp .wdog = false := by assumption)
    (m_txn : kp .txn = false := by assumption) (m_sta : kp .sta = false := by assumption)
    (m_sec : kp .sec = false := by assumption) (m_ser : kp .ser = false := by assumption)
    (m_media : kp .media = false := by assumption) (m_upd : kp .upd = false := by assumption)
    (m_flash : kp .flash = false := by assumption) :
    KeptR kp s0 (execRelayJoin via s) := by
  unfold execRelayJoin
  simp_all

@[simp] theorem execActivateStart_kept {kp : Part → Bool} {s0 : State} (s : State) (hk0 : Kept kp s0 s)
    (m_time : kp .time = false := by assumption) (m_cyc : kp .cyc = false := by assumption)
    (m_evq : kp .evq = false := by assumption) (m_trace : kp .trace = false := by assumption)
    (m_bus : kp .bus = false := by assumption) (m_cfg : kp .cfg = false := by assumption)
    (m_mode : kp .mode = false := by assumption) (m_safe : kp .safe = false := by assumption)
    (m_field : kp .field = false := by assumption) (m_health : kp .health = false := by assumption)
    (m_adc : kp .adc = false := by assumption) (m_panel : kp .panel = false := by assumption)
    (m_wdog : kp .wdog = false := by assumption) (m_txn : kp .txn = false := by assumption)
    (m_sta : kp .sta = false := by assumption) (m_sec : kp .sec = false := by assumption)
    (m_ser : kp .ser = false := by assumption) (m_media : kp .media = false := by assumption)
    (m_upd : kp .upd = false := by assumption) :
    KeptR kp s0 (execActivateStart s) := by
  unfold execActivateStart
  dsimp only
  repeat' split
  all_goals simp_all (maxDischargeDepth := 9)

@[simp] theorem chordStart_kept {kp : Part → Bool} {s0 : State} (s : State) (hk0 : Kept kp s0 s)
    (m_time : kp .time = false := by assumption) (m_cyc : kp .cyc = false := by assumption)
    (m_evq : kp .evq = false := by assumption) (m_trace : kp .trace = false := by assumption)
    (m_bus : kp .bus = false := by assumption) (m_cfg : kp .cfg = false := by assumption)
    (m_mode : kp .mode = false := by assumption) (m_safe : kp .safe = false := by assumption)
    (m_field : kp .field = false := by assumption) (m_health : kp .health = false := by assumption)
    (m_adc : kp .adc = false := by assumption) (m_panel : kp .panel = false := by assumption)
    (m_wdog : kp .wdog = false := by assumption) (m_txn : kp .txn = false := by assumption)
    (m_sta : kp .sta = false := by assumption) (m_sec : kp .sec = false := by assumption)
    (m_ser : kp .ser = false := by assumption) (m_media : kp .media = false := by assumption)
    (m_upd : kp .upd = false := by assumption) (m_flash : kp .flash = false := by assumption) :
    Kept kp s0 (chordStart s) := by
  unfold chordStart
  dsimp only
  generalize hv : ({ s with panel := _ } : State) = v
  have hw : Kept kp s0 v := by
    subst hv
    simp_all
  have hx := updCommand_kept v 1 0 none hw
  generalize updCommand v 1 0 none = x at hx
  split
  · exact menuAction_kept _ _ (by simp_all)
  · exact menuAction_kept _ _ (by simp_all)

@[simp] theorem execChordComplete_kept {kp : Part → Bool} {s0 : State} (s : State) (hk0 : Kept kp s0 s)
    (m_time : kp .time = false := by assumption) (m_cyc : kp .cyc = false := by assumption)
    (m_evq : kp .evq = false := by assumption) (m_trace : kp .trace = false := by assumption)
    (m_bus : kp .bus = false := by assumption) (m_cfg : kp .cfg = false := by assumption)
    (m_mode : kp .mode = false := by assumption) (m_safe : kp .safe = false := by assumption)
    (m_field : kp .field = false := by assumption) (m_health : kp .health = false := by assumption)
    (m_adc : kp .adc = false := by assumption) (m_panel : kp .panel = false := by assumption)
    (m_wdog : kp .wdog = false := by assumption) (m_txn : kp .txn = false := by assumption)
    (m_sta : kp .sta = false := by assumption) (m_sec : kp .sec = false := by assumption)
    (m_ser : kp .ser = false := by assumption) (m_media : kp .media = false := by assumption)
    (m_upd : kp .upd = false := by assumption) (m_flash : kp .flash = false := by assumption) :
    KeptR kp s0 (execChordComplete s) := by
  unfold execChordComplete
  try dsimp only
  repeat' split
  all_goals simp_all (maxDischargeDepth := 15)

@[simp] theorem execStagingSectorDone_kept {kp : Part → Bool} {s0 : State} (ok : Bool) (s : State) (hk0 : Kept kp s0 s)
    (m_evq : kp .evq = false := by assumption) (m_trace : kp .trace = false := by assumption)
    (m_bus : kp .bus = false := by assumption) (m_txn : kp .txn = false := by assumption)
    (m_sta : kp .sta = false := by assumption) (m_sec : kp .sec = false := by assumption)
    (m_ser : kp .ser = false := by assumption) (m_media : kp .media = false := by assumption)
    (m_upd : kp .upd = false := by assumption) (m_flash : kp .flash = false := by assumption) :
    KeptR kp s0 (execStagingSectorDone ok s) := by
  unfold execStagingSectorDone
  repeat' first
    | (with_reducible assumption)
    | simp only [keptR_next]
    | (with_reducible refine sectorDone_kept _ _ ?_)
    | (with_reducible refine pullOrphan_kept _ ?_)
    | (with_reducible refine readerNext_kept _ ?_)
    | split

@[simp] theorem execConfirmWrite_kept {kp : Part → Bool} {s0 : State} (s : State) (hk0 : Kept kp s0 s)
    (m_evq : kp .evq = false := by assumption) (m_trace : kp .trace = false := by assumption)
    (m_sec : kp .sec = false := by assumption) (m_media : kp .media = false := by assumption)
    (m_upd : kp .upd = false := by assumption) :
    KeptR kp s0 (execConfirmWrite s) := by
  unfold execConfirmWrite
  dsimp only
  repeat' split
  all_goals simp_all (maxDischargeDepth := 9)

@[simp] theorem execConfirmDeadline_kept {kp : Part → Bool} {s0 : State} (s : State) (hk0 : Kept kp s0 s)
    (m_time : kp .time = false := by assumption) (m_cyc : kp .cyc = false := by assumption)
    (m_evq : kp .evq = false := by assumption) (m_trace : kp .trace = false := by assumption)
    (m_bus : kp .bus = false := by assumption) (m_cfg : kp .cfg = false := by assumption)
    (m_mode : kp .mode = false := by assumption) (m_safe : kp .safe = false := by assumption)
    (m_field : kp .field = false := by assumption) (m_health : kp .health = false := by assumption)
    (m_adc : kp .adc = false := by assumption) (m_panel : kp .panel = false := by assumption)
    (m_wdog : kp .wdog = false := by assumption) (m_txn : kp .txn = false := by assumption)
    (m_sta : kp .sta = false := by assumption) (m_sec : kp .sec = false := by assumption)
    (m_ser : kp .ser = false := by assumption) (m_media : kp .media = false := by assumption)
    (m_upd : kp .upd = false := by assumption) :
    KeptR kp s0 (execConfirmDeadline s) := by
  unfold execConfirmDeadline
  repeat' split
  all_goals simp_all

@[simp] theorem relayCtrl_kept {kp : Part → Bool} {s0 : State} (s : State) (t : Txn) (hk0 : Kept kp s0 s)
    (m_evq : kp .evq = false := by assumption) (m_trace : kp .trace = false := by assumption)
    (m_mode : kp .mode = false := by assumption) (m_safe : kp .safe = false := by assumption)
    (m_health : kp .health = false := by assumption) (m_adc : kp .adc = false := by assumption)
    (m_wdog : kp .wdog = false := by assumption) (m_txn : kp .txn = false := by assumption)
    (m_sec : kp .sec = false := by assumption) :
    Kept kp s0 (relayCtrl s t) := by
  unfold relayCtrl
  repeat' split
  all_goals simp_all

@[simp] theorem execRelayCtrlMap_kept {kp : Part → Bool} {s0 : State} (bcast : Bool) (anchor : Bool) (tag : Nat)
    (s : State) (hk0 : Kept kp s0 s)
    (m_evq : kp .evq = false := by assumption) (m_trace : kp .trace = false := by assumption)
    (m_mode : kp .mode = false := by assumption) (m_safe : kp .safe = false := by assumption)
    (m_health : kp .health = false := by assumption) (m_adc : kp .adc = false := by assumption)
    (m_wdog : kp .wdog = false := by assumption) (m_txn : kp .txn = false := by assumption)
    (m_sec : kp .sec = false := by assumption) (m_ser : kp .ser = false := by assumption) :
    KeptR kp s0 (execRelayCtrlMap bcast anchor tag s) := by
  unfold execRelayCtrlMap
  repeat' first
    | intro x
    | (with_reducible refine withTxn_kept _ _ _ _ _ _ ?_ ?_)
    | split
  all_goals simp_all

@[simp] theorem execRelayCtrlStatus_kept {kp : Part → Bool} {s0 : State} (bcast : Bool) (anchor : Bool) (tag : Nat)
    (s : State) (hk0 : Kept kp s0 s)
    (m_evq : kp .evq = false := by assumption) (m_trace : kp .trace = false := by assumption)
    (m_mode : kp .mode = false := by assumption) (m_safe : kp .safe = false := by assumption)
    (m_health : kp .health = false := by assumption) (m_adc : kp .adc = false := by assumption)
    (m_wdog : kp .wdog = false := by assumption) (m_txn : kp .txn = false := by assumption)
    (m_sec : kp .sec = false := by assumption) (m_ser : kp .ser = false := by assumption) :
    KeptR kp s0 (execRelayCtrlStatus bcast anchor tag s) := by
  unfold execRelayCtrlStatus
  repeat' first
    | intro x
    | (with_reducible refine withTxn_kept _ _ _ _ _ _ ?_ ?_)
    | split
  all_goals simp_all

/-! ### Security -/

@[simp] theorem setRecWindow_kept {kp : Part → Bool} {s0 : State} (s : State) (anchor : Bool) (w : Window)
    (hk0 : Kept kp s0 s)
    (m_sec : kp .sec = false := by assumption) :
    Kept kp s0 (setRecWindow s anchor w) := by
  unfold setRecWindow
  repeat' split
  all_goals simp_all

@[simp] theorem sealBad_kept {kp : Part → Bool} {s0 : State} (s : State) (t : Txn) (hk0 : Kept kp s0 s)
    (m_evq : kp .evq = false := by assumption) (m_trace : kp .trace = false := by assumption)
    (m_mode : kp .mode = false := by assumption) (m_safe : kp .safe = false := by assumption)
    (m_health : kp .health = false := by assumption) (m_adc : kp .adc = false := by assumption)
    (m_wdog : kp .wdog = false := by assumption) (m_txn : kp .txn = false := by assumption)
    (m_sec : kp .sec = false := by assumption) :
    Kept kp s0 (sealBad s t) := by
  unfold sealBad
  repeat' split
  all_goals simp_all

@[simp] theorem openedTxn_kept {kp : Part → Bool} {s0 : State} (s : State) (t : Txn) (status : Nat) (hk0 : Kept kp s0 s)
    (m_evq : kp .evq = false := by assumption) (m_trace : kp .trace = false := by assumption)
    (m_mode : kp .mode = false := by assumption) (m_safe : kp .safe = false := by assumption)
    (m_health : kp .health = false := by assumption) (m_adc : kp .adc = false := by assumption)
    (m_wdog : kp .wdog = false := by assumption) (m_txn : kp .txn = false := by assumption)
    (m_sec : kp .sec = false := by assumption) :
    Kept kp s0 (openedTxn s t status) := by
  unfold openedTxn
  repeat' split
  all_goals simp_all

@[simp] theorem openNew_kept {kp : Part → Bool} {s0 : State} (s : State) (t : Txn) (hk0 : Kept kp s0 s)
    (m_evq : kp .evq = false := by assumption) (m_trace : kp .trace = false := by assumption)
    (m_mode : kp .mode = false := by assumption) (m_safe : kp .safe = false := by assumption)
    (m_health : kp .health = false := by assumption) (m_adc : kp .adc = false := by assumption)
    (m_wdog : kp .wdog = false := by assumption) (m_txn : kp .txn = false := by assumption)
    (m_sec : kp .sec = false := by assumption) :
    Kept kp s0 (openNew s t) := by
  unfold openNew
  dsimp only
  repeat' split
  all_goals simp_all

@[simp] theorem openDone_kept {kp : Part → Bool} {s0 : State} (s : State) (t : Txn) (hk0 : Kept kp s0 s)
    (m_evq : kp .evq = false := by assumption) (m_trace : kp .trace = false := by assumption)
    (m_mode : kp .mode = false := by assumption) (m_safe : kp .safe = false := by assumption)
    (m_health : kp .health = false := by assumption) (m_adc : kp .adc = false := by assumption)
    (m_wdog : kp .wdog = false := by assumption) (m_txn : kp .txn = false := by assumption)
    (m_sec : kp .sec = false := by assumption) :
    Kept kp s0 (openDone s t) := by
  unfold openDone
  repeat' split
  all_goals simp_all

@[simp] theorem sealDone_kept {kp : Part → Bool} {s0 : State} (s : State) (t : Txn) (hk0 : Kept kp s0 s)
    (m_txn : kp .txn = false := by assumption) :
    Kept kp s0 (sealDone s t) := by
  unfold sealDone
  simp_all

@[simp] theorem noteDone_kept {kp : Part → Bool} {s0 : State} (s : State) (r : Response)
    (hk0 : Kept kp s0 s)
    (m_txn : kp .txn = false := by assumption) :
    Kept kp s0 (noteDone s r) := by
  unfold noteDone
  try dsimp only
  repeat' split
  all_goals simp_all (maxDischargeDepth := 9)

@[simp] theorem execCryptoOpDone_kept {kp : Part → Bool} {s0 : State} (s : State) (hk0 : Kept kp s0 s)
    (m_evq : kp .evq = false := by assumption) (m_trace : kp .trace = false := by assumption)
    (m_mode : kp .mode = false := by assumption) (m_safe : kp .safe = false := by assumption)
    (m_health : kp .health = false := by assumption) (m_adc : kp .adc = false := by assumption)
    (m_wdog : kp .wdog = false := by assumption) (m_txn : kp .txn = false := by assumption)
    (m_sec : kp .sec = false := by assumption) :
    KeptR kp s0 (execCryptoOpDone s) := by
  unfold execCryptoOpDone
  dsimp only
  repeat' split
  all_goals simp_all (maxDischargeDepth := 9)

@[simp] theorem floorTake_kept {kp : Part → Bool} {s0 : State} (s : State) (anchor : Bool) (e : Nat) (c : Nat)
    (w : Window) (hk0 : Kept kp s0 s)
    (m_sec : kp .sec = false := by assumption) :
    Kept kp s0 (floorTake s anchor e c w) := by
  unfold floorTake
  repeat' split
  all_goals simp_all

@[simp] theorem execFloorWriteDone_kept {kp : Part → Bool} {s0 : State} (ok : Bool) (s : State) (hk0 : Kept kp s0 s)
    (m_evq : kp .evq = false := by assumption) (m_trace : kp .trace = false := by assumption)
    (m_mode : kp .mode = false := by assumption) (m_safe : kp .safe = false := by assumption)
    (m_health : kp .health = false := by assumption) (m_adc : kp .adc = false := by assumption)
    (m_wdog : kp .wdog = false := by assumption) (m_txn : kp .txn = false := by assumption)
    (m_sec : kp .sec = false := by assumption) :
    KeptR kp s0 (execFloorWriteDone ok s) := by
  unfold execFloorWriteDone
  dsimp only
  repeat' split
  all_goals simp_all (maxDischargeDepth := 9)

@[simp] theorem lockTo_kept {kp : Part → Bool} {s0 : State} (s : State) (t : Txn) (b : Bool) (hk0 : Kept kp s0 s)
    (m_evq : kp .evq = false := by assumption) (m_trace : kp .trace = false := by assumption)
    (m_mode : kp .mode = false := by assumption) (m_safe : kp .safe = false := by assumption)
    (m_health : kp .health = false := by assumption) (m_adc : kp .adc = false := by assumption)
    (m_wdog : kp .wdog = false := by assumption) (m_txn : kp .txn = false := by assumption)
    (m_sec : kp .sec = false := by assumption) :
    Kept kp s0 (lockTo s t b) := by
  unfold lockTo
  dsimp only
  repeat' split
  all_goals simp_all (maxDischargeDepth := 9)

@[simp] theorem withFlashTxn_kept {kp : Part → Bool} {s0 : State} (s : State) (b : Bool) (a : Bool) (t : Nat)
    (op : Nat) (action : Nat) (f : State → Txn → State) (hf : ∀ s, Kept kp s0 s → ∀ t, Kept kp s0 (f s t))
    (h : Kept kp s0 s)
    (m_evq : kp .evq = false := by assumption) (m_trace : kp .trace = false := by assumption)
    (m_mode : kp .mode = false := by assumption) (m_safe : kp .safe = false := by assumption)
    (m_health : kp .health = false := by assumption) (m_adc : kp .adc = false := by assumption)
    (m_wdog : kp .wdog = false := by assumption) (m_txn : kp .txn = false := by assumption)
    (m_sec : kp .sec = false := by assumption) (m_ser : kp .ser = false := by assumption) :
    KeptR kp s0 (withFlashTxn s b a t op action f) := by
  unfold withFlashTxn
  refine withTxn_kept _ _ _ _ _ _ (fun s hs x => ?_) h
  split
  · exact hs
  · exact hf _ hs _

@[simp] theorem execOwnerLockSet_kept {kp : Part → Bool} {s0 : State} (bcast : Bool) (anchor : Bool) (tag : Nat)
    (s : State) (hk0 : Kept kp s0 s)
    (m_evq : kp .evq = false := by assumption) (m_trace : kp .trace = false := by assumption)
    (m_mode : kp .mode = false := by assumption) (m_safe : kp .safe = false := by assumption)
    (m_health : kp .health = false := by assumption) (m_adc : kp .adc = false := by assumption)
    (m_wdog : kp .wdog = false := by assumption) (m_txn : kp .txn = false := by assumption)
    (m_sec : kp .sec = false := by assumption) (m_ser : kp .ser = false := by assumption) :
    KeptR kp s0 (execOwnerLockSet bcast anchor tag s) := by
  unfold execOwnerLockSet
  simp_all

@[simp] theorem execOwnerLockClear_kept {kp : Part → Bool} {s0 : State} (bcast : Bool) (anchor : Bool) (tag : Nat)
    (s : State) (hk0 : Kept kp s0 s)
    (m_evq : kp .evq = false := by assumption) (m_trace : kp .trace = false := by assumption)
    (m_mode : kp .mode = false := by assumption) (m_safe : kp .safe = false := by assumption)
    (m_health : kp .health = false := by assumption) (m_adc : kp .adc = false := by assumption)
    (m_wdog : kp .wdog = false := by assumption) (m_txn : kp .txn = false := by assumption)
    (m_sec : kp .sec = false := by assumption) (m_ser : kp .ser = false := by assumption) :
    KeptR kp s0 (execOwnerLockClear bcast anchor tag s) := by
  unfold execOwnerLockClear
  simp_all

@[simp] theorem execPosBind_kept {kp : Part → Bool} {s0 : State} (bcast : Bool) (anchor : Bool) (tag : Nat)
    (s : State) (hk0 : Kept kp s0 s)
    (m_evq : kp .evq = false := by assumption) (m_trace : kp .trace = false := by assumption)
    (m_mode : kp .mode = false := by assumption) (m_safe : kp .safe = false := by assumption)
    (m_health : kp .health = false := by assumption) (m_adc : kp .adc = false := by assumption)
    (m_wdog : kp .wdog = false := by assumption) (m_link : kp .link = false := by assumption)
    (m_txn : kp .txn = false := by assumption) (m_sec : kp .sec = false := by assumption)
    (m_ser : kp .ser = false := by assumption) :
    KeptR kp s0 (execPosBind bcast anchor tag s) := by
  unfold execPosBind
  simp_all (maxDischargeDepth := 9)

@[simp] theorem execPosUnbind_kept {kp : Part → Bool} {s0 : State} (bcast : Bool) (anchor : Bool) (tag : Nat)
    (s : State) (hk0 : Kept kp s0 s)
    (m_evq : kp .evq = false := by assumption) (m_trace : kp .trace = false := by assumption)
    (m_mode : kp .mode = false := by assumption) (m_safe : kp .safe = false := by assumption)
    (m_health : kp .health = false := by assumption) (m_adc : kp .adc = false := by assumption)
    (m_wdog : kp .wdog = false := by assumption) (m_link : kp .link = false := by assumption)
    (m_txn : kp .txn = false := by assumption) (m_sec : kp .sec = false := by assumption)
    (m_ser : kp .ser = false := by assumption) :
    KeptR kp s0 (execPosUnbind bcast anchor tag s) := by
  unfold execPosUnbind
  simp_all (maxDischargeDepth := 9)

@[simp] theorem execRekey_kept {kp : Part → Bool} {s0 : State} (bcast : Bool) (anchor : Bool) (tag : Nat) (s : State)
    (hk0 : Kept kp s0 s)
    (m_evq : kp .evq = false := by assumption) (m_trace : kp .trace = false := by assumption)
    (m_mode : kp .mode = false := by assumption) (m_safe : kp .safe = false := by assumption)
    (m_health : kp .health = false := by assumption) (m_adc : kp .adc = false := by assumption)
    (m_wdog : kp .wdog = false := by assumption) (m_txn : kp .txn = false := by assumption)
    (m_sec : kp .sec = false := by assumption) (m_ser : kp .ser = false := by assumption) :
    KeptR kp s0 (execRekey bcast anchor tag s) := by
  unfold execRekey
  simp_all (maxDischargeDepth := 9)

/-! ### Tap -/

@[simp] theorem setTapIns_kept {kp : Part → Bool} {s0 : State} (s : State) (i : TapIns) (hk0 : Kept kp s0 s)
    (m_tap : kp .tap = false := by assumption) :
    Kept kp s0 (setTapIns s i) := by
  unfold setTapIns
  simp_all

@[simp] theorem scanCells_kept {kp : Part → Bool} {s0 : State} (s : State) (levels : BitVec 182)
    (shifted : BitVec 182) (hk0 : Kept kp s0 s)
    (m_tap : kp .tap = false := by assumption) :
    Kept kp s0 (scanCells s levels shifted) := by
  unfold scanCells
  simp_all

@[simp] theorem execExtest_kept {kp : Part → Bool} {s0 : State} (levels : BitVec 182) (shifted : BitVec 182)
    (s : State) (hk0 : Kept kp s0 s)
    (m_tap : kp .tap = false := by assumption) :
    KeptR kp s0 (execExtest levels shifted s) := by
  unfold execExtest
  repeat' split
  all_goals simp_all

@[simp] theorem execSamplePreload_kept {kp : Part → Bool} {s0 : State} (levels : BitVec 182) (shifted : BitVec 182)
    (s : State) (hk0 : Kept kp s0 s)
    (m_tap : kp .tap = false := by assumption) :
    KeptR kp s0 (execSamplePreload levels shifted s) := by
  unfold execSamplePreload
  simp_all

@[simp] theorem execHighz_kept {kp : Part → Bool} {s0 : State} (s : State) (hk0 : Kept kp s0 s)
    (m_tap : kp .tap = false := by assumption) :
    KeptR kp s0 (execHighz s) := by
  unfold execHighz
  simp_all

@[simp] theorem execClamp_kept {kp : Part → Bool} {s0 : State} (s : State) (hk0 : Kept kp s0 s)
    (m_tap : kp .tap = false := by assumption) :
    KeptR kp s0 (execClamp s) := by
  unfold execClamp
  simp_all

@[simp] theorem execBypass_kept {kp : Part → Bool} {s0 : State} (s : State) (hk0 : Kept kp s0 s)
    (m_tap : kp .tap = false := by assumption) :
    KeptR kp s0 (execBypass s) := by
  unfold execBypass
  simp_all

@[simp] theorem execTapReset_kept {kp : Part → Bool} {s0 : State} (s : State) (hk0 : Kept kp s0 s)
    (m_tap : kp .tap = false := by assumption) :
    KeptR kp s0 (execTapReset s) := by
  unfold execTapReset
  simp_all

@[simp] theorem otpUpdate_kept {kp : Part → Bool} {s0 : State} (s : State) (data : BitVec 288) (hk0 : Kept kp s0 s)
    (m_sec : kp .sec = false := by assumption) :
    Kept kp s0 (otpUpdate s data) := by
  unfold otpUpdate
  dsimp only
  repeat' split
  all_goals simp_all

@[simp] theorem execOtpOwner_kept {kp : Part → Bool} {s0 : State} (data : BitVec 288) (s : State) (hk0 : Kept kp s0 s)
    (m_sec : kp .sec = false := by assumption) (m_tap : kp .tap = false := by assumption) :
    KeptR kp s0 (execOtpOwner data s) := by
  unfold execOtpOwner
  dsimp only
  repeat' split
  all_goals simp_all (maxDischargeDepth := 9)

@[simp] theorem execOtpProgramDone_kept {kp : Part → Bool} {s0 : State} (s : State) (hk0 : Kept kp s0 s)
    (m_sec : kp .sec = false := by assumption) :
    KeptR kp s0 (execOtpProgramDone s) := by
  unfold execOtpProgramDone
  repeat' split
  all_goals simp_all

/-! ### FlashRead -/

@[simp] theorem flashRead_kept {kp : Part → Bool} {s0 : State} (s : State) (a : Nat) (n : Nat) (hk0 : Kept kp s0 s)
    (m_free : kp .free = false := by assumption) (m_flash : kp .flash = false := by assumption) :
    Kept kp s0 (flashRead s a n).1 := by
  unfold flashRead
  simp_all (maxDischargeDepth := 9)

@[simp] theorem flashReadQueue_kept {kp : Part → Bool} {s0 : State} (s : State) (p : Path) (d : Descriptor)
    (hk0 : Kept kp s0 s)
    (m_free : kp .free = false := by assumption) (m_mem : kp .mem = false := by assumption)
    (m_evq : kp .evq = false := by assumption) (m_trace : kp .trace = false := by assumption)
    (m_bus : kp .bus = false := by assumption) (m_mode : kp .mode = false := by assumption)
    (m_safe : kp .safe = false := by assumption) (m_adc : kp .adc = false := by assumption)
    (m_wdog : kp .wdog = false := by assumption) (m_flash : kp .flash = false := by assumption) :
    Kept kp s0 (flashReadQueue s p d) := by
  unfold flashReadQueue
  dsimp only
  repeat' split
  all_goals simp_all (maxDischargeDepth := 9)

@[simp] theorem flashReadLine_kept {kp : Part → Bool} {s0 : State} (s : State) (t : Txn) (hk0 : Kept kp s0 s)
    (m_free : kp .free = false := by assumption) (m_evq : kp .evq = false := by assumption)
    (m_trace : kp .trace = false := by assumption) (m_mode : kp .mode = false := by assumption)
    (m_safe : kp .safe = false := by assumption) (m_health : kp .health = false := by assumption)
    (m_adc : kp .adc = false := by assumption) (m_wdog : kp .wdog = false := by assumption)
    (m_txn : kp .txn = false := by assumption) (m_sec : kp .sec = false := by assumption)
    (m_flash : kp .flash = false := by assumption) :
    Kept kp s0 (flashReadLine s t) := by
  unfold flashReadLine
  dsimp only
  repeat' split
  all_goals simp_all

@[simp] theorem execFlashRead_kept {kp : Part → Bool} {s0 : State} (src : Source) (s : State) (hk0 : Kept kp s0 s)
    (m_free : kp .free = false := by assumption) (m_mem : kp .mem = false := by assumption)
    (m_evq : kp .evq = false := by assumption) (m_trace : kp .trace = false := by assumption)
    (m_bus : kp .bus = false := by assumption) (m_mode : kp .mode = false := by assumption)
    (m_safe : kp .safe = false := by assumption) (m_health : kp .health = false := by assumption)
    (m_adc : kp .adc = false := by assumption) (m_wdog : kp .wdog = false := by assumption)
    (m_txn : kp .txn = false := by assumption) (m_sec : kp .sec = false := by assumption)
    (m_ser : kp .ser = false := by assumption) (m_flash : kp .flash = false := by assumption) :
    KeptR kp s0 (execFlashRead src s) := by
  unfold execFlashRead
  repeat' split
  all_goals simp_all

/-! ### Registers -/

@[simp] theorem readEvq_kept {kp : Part → Bool} {s0 : State} (s : State) (p : Path) (hk0 : Kept kp s0 s)
    (m_evq : kp .evq = false := by assumption) :
    Kept kp s0 (readEvq s p).1 := by
  unfold readEvq
  split
  · exact hk0
  · rename_i e r h
    have hq (v : EventState) (hv : v.queue = r) : Kept kp s0 { s with evq := v } :=
      hk0.withEvq v (fun hf => by rw [hv]; rw [h] at hf; simp at hf; omega)
    dsimp only
    repeat' split
    all_goals first | exact hk0 | (exact hq _ rfl) | simp_all

@[simp] theorem readCplq_kept {kp : Part → Bool} {s0 : State} (s : State) (p : Path) (hk0 : Kept kp s0 s)
    (m_bus : kp .bus = false := by assumption) :
    Kept kp s0 (readCplq s p).1 := by
  unfold readCplq
  dsimp only
  repeat' split
  all_goals simp_all

@[simp] theorem State.setChin_kept {kp : Part → Bool} {s0 : State} (s : State) (p : Path) (c : ChinCapture)
    (hk0 : Kept kp s0 s)
    (m_bus : kp .bus = false := by assumption) :
    Kept kp s0 (State.setChin s p c) := by
  unfold State.setChin
  repeat' split
  all_goals simp_all

@[simp] theorem readChin_kept {kp : Part → Bool} {s0 : State} (s : State) (p : Path) (hk0 : Kept kp s0 s)
    (m_bus : kp .bus = false := by assumption) :
    Kept kp s0 (readChin s p).1 := by
  unfold readChin
  simp_all

@[simp] theorem readChflt_kept {kp : Part → Bool} {s0 : State} (s : State) (p : Path) (hk0 : Kept kp s0 s)
    (m_bus : kp .bus = false := by assumption) :
    Kept kp s0 (readChflt s p).1 := by
  unfold readChflt
  repeat' split
  all_goals simp_all

@[simp] theorem readChforce_kept {kp : Part → Bool} {s0 : State} (s : State) (p : Path) (hk0 : Kept kp s0 s)
    (m_bus : kp .bus = false := by assumption) :
    Kept kp s0 (readChforce s p).1 := by
  unfold readChforce
  repeat' split
  all_goals simp_all

@[simp] theorem regRead_kept {kp : Part → Bool} {s0 : State} (s : State) (v : Acc) (a : Nat) (hk0 : Kept kp s0 s)
    (m_time : kp .time = false := by assumption) (m_evq : kp .evq = false := by assumption)
    (m_trace : kp .trace = false := by assumption) (m_bus : kp .bus = false := by assumption)
    (m_cfg : kp .cfg = false := by assumption) (m_adc : kp .adc = false := by assumption)
    (m_panel : kp .panel = false := by assumption) (m_sta : kp .sta = false := by assumption) :
    Kept kp s0 (regRead s v a).1 := by
  unfold regRead
  dsimp only
  repeat' split
  all_goals simp_all

@[simp] theorem postCode_kept {kp : Part → Bool} {s0 : State} (s : State) (p : Path) (d : Descriptor)
    (hk0 : Kept kp s0 s)
    (m_free : kp .free = false := by assumption) (m_mem : kp .mem = false := by assumption)
    (m_time : kp .time = false := by assumption) (m_evq : kp .evq = false := by assumption)
    (m_trace : kp .trace = false := by assumption) (m_bus : kp .bus = false := by assumption)
    (m_cfg : kp .cfg = false := by assumption) (m_mode : kp .mode = false := by assumption)
    (m_safe : kp .safe = false := by assumption) (m_health : kp .health = false := by assumption)
    (m_adc : kp .adc = false := by assumption) (m_wdog : kp .wdog = false := by assumption)
    (m_link : kp .link = false := by assumption) (m_txn : kp .txn = false := by assumption)
    (m_sta : kp .sta = false := by assumption) (m_sec : kp .sec = false := by assumption)
    (m_ser : kp .ser = false := by assumption) (m_media : kp .media = false := by assumption)
    (m_upd : kp .upd = false := by assumption) (m_flash : kp .flash = false := by assumption) :
    KeptR kp s0 (postCode s p d) := by
  unfold postCode
  repeat' split
  all_goals simp_all

@[simp] theorem postState_kept {kp : Part → Bool} {s0 : State} (s : State) (p : Path) (d : Descriptor)
    (hk0 : Kept kp s0 s)
    (m_free : kp .free = false := by assumption) (m_mem : kp .mem = false := by assumption)
    (m_time : kp .time = false := by assumption) (m_evq : kp .evq = false := by assumption)
    (m_trace : kp .trace = false := by assumption) (m_bus : kp .bus = false := by assumption)
    (m_cfg : kp .cfg = false := by assumption) (m_mode : kp .mode = false := by assumption)
    (m_safe : kp .safe = false := by assumption) (m_health : kp .health = false := by assumption)
    (m_adc : kp .adc = false := by assumption) (m_wdog : kp .wdog = false := by assumption)
    (m_link : kp .link = false := by assumption) (m_txn : kp .txn = false := by assumption)
    (m_sta : kp .sta = false := by assumption) (m_sec : kp .sec = false := by assumption)
    (m_ser : kp .ser = false := by assumption) (m_media : kp .media = false := by assumption)
    (m_upd : kp .upd = false := by assumption) (m_flash : kp .flash = false := by assumption) :
    Kept kp s0 (postState s p d) := by
  have h := postCode_kept s p d hk0
  unfold postState
  split
  · rename_i e
    rw [e] at h
    exact h
  · exact hk0

@[simp] theorem regCmdqDoor_kept {kp : Part → Bool} {s0 : State} (s : State) (v : Acc) (w : Word) (hk0 : Kept kp s0 s)
    (m_free : kp .free = false := by assumption) (m_mem : kp .mem = false := by assumption)
    (m_time : kp .time = false := by assumption) (m_evq : kp .evq = false := by assumption)
    (m_trace : kp .trace = false := by assumption) (m_bus : kp .bus = false := by assumption)
    (m_cfg : kp .cfg = false := by assumption) (m_mode : kp .mode = false := by assumption)
    (m_safe : kp .safe = false := by assumption) (m_health : kp .health = false := by assumption)
    (m_adc : kp .adc = false := by assumption) (m_wdog : kp .wdog = false := by assumption)
    (m_link : kp .link = false := by assumption) (m_txn : kp .txn = false := by assumption)
    (m_sta : kp .sta = false := by assumption) (m_sec : kp .sec = false := by assumption)
    (m_ser : kp .ser = false := by assumption) (m_media : kp .media = false := by assumption)
    (m_upd : kp .upd = false := by assumption) (m_flash : kp .flash = false := by assumption) :
    Kept kp s0 (regCmdqDoor s v w).1 := by
  unfold regCmdqDoor
  dsimp only
  repeat' split
  all_goals simp_all (maxDischargeDepth := 9)

@[simp] theorem regCmdqStat_kept {kp : Part → Bool} {s0 : State} (s : State) (v : Acc) (w : Word) (hk0 : Kept kp s0 s)
    (m_evq : kp .evq = false := by assumption) (m_trace : kp .trace = false := by assumption)
    (m_bus : kp .bus = false := by assumption) (m_mode : kp .mode = false := by assumption)
    (m_safe : kp .safe = false := by assumption) (m_adc : kp .adc = false := by assumption)
    (m_wdog : kp .wdog = false := by assumption) :
    Kept kp s0 (regCmdqStat s v w).1 := by
  unfold regCmdqStat
  simp_all

@[simp] theorem regKeyseq_kept {kp : Part → Bool} {s0 : State} (s : State) (v : Acc) (w : Word) (hk0 : Kept kp s0 s)
    (m_bus : kp .bus = false := by assumption) :
    Kept kp s0 (regKeyseq s v w).1 := by
  unfold regKeyseq
  simp_all

@[simp] theorem regBuscfg_kept {kp : Part → Bool} {s0 : State} (s : State) (v : Acc) (w : Word) (hk0 : Kept kp s0 s)
    (m_evq : kp .evq = false := by assumption) (m_trace : kp .trace = false := by assumption)
    (m_bus : kp .bus = false := by assumption) :
    Kept kp s0 (regBuscfg s v w).1 := by
  unfold regBuscfg
  dsimp only
  repeat' split
  all_goals simp_all

@[simp] theorem xipFlush_kept {kp : Part → Bool} {s0 : State} (s : State) (hk0 : Kept kp s0 s)
    (m_txn : kp .txn = false := by assumption) (m_ser : kp .ser = false := by assumption) :
    Kept kp s0 (xipFlush s) := by
  unfold xipFlush
  repeat' split
  all_goals simp_all

@[simp] theorem xipMove_kept {kp : Part → Bool} {s0 : State} (s : State) (sel : Nat) (base : Nat) (hk0 : Kept kp s0 s)
    (m_bus : kp .bus = false := by assumption) (m_txn : kp .txn = false := by assumption)
    (m_ser : kp .ser = false := by assumption) :
    Kept kp s0 (xipMove s sel base) := by
  unfold xipMove
  dsimp only
  repeat' split
  all_goals simp_all (maxDischargeDepth := 9)

@[simp] theorem xipSet_kept {kp : Part → Bool} {s0 : State} (s : State) (en : Bool) (sel : Nat) (hk0 : Kept kp s0 s)
    (m_bus : kp .bus = false := by assumption) (m_txn : kp .txn = false := by assumption)
    (m_ser : kp .ser = false := by assumption) :
    Kept kp s0 (xipSet s en sel) := by
  unfold xipSet
  dsimp only
  repeat' split
  all_goals simp_all (maxDischargeDepth := 9)

@[simp] theorem mwinRest_kept {kp : Part → Bool} {s0 : State} (s : State) (w : Word) (hk0 : Kept kp s0 s)
    (m_bus : kp .bus = false := by assumption) (m_txn : kp .txn = false := by assumption)
    (m_ser : kp .ser = false := by assumption) :
    Kept kp s0 (mwinRest s w) := by
  unfold mwinRest
  repeat' split
  all_goals simp_all

@[simp] theorem regMwinCtrl_kept {kp : Part → Bool} {s0 : State} (s : State) (v : Acc) (w : Word) (hk0 : Kept kp s0 s)
    (m_evq : kp .evq = false := by assumption) (m_trace : kp .trace = false := by assumption)
    (m_bus : kp .bus = false := by assumption) (m_txn : kp .txn = false := by assumption)
    (m_ser : kp .ser = false := by assumption) :
    Kept kp s0 (regMwinCtrl s v w).1 := by
  unfold regMwinCtrl
  dsimp only
  repeat' split
  all_goals simp_all (maxDischargeDepth := 9)

@[simp] theorem slaveOff_kept {kp : Part → Bool} {s0 : State} (s : State) (hk0 : Kept kp s0 s)
    (m_evq : kp .evq = false := by assumption) (m_trace : kp .trace = false := by assumption)
    (m_cfg : kp .cfg = false := by assumption) (m_ser : kp .ser = false := by assumption) :
    Kept kp s0 (slaveOff s) := by
  unfold slaveOff
  dsimp only
  repeat' split
  all_goals simp_all

@[simp] theorem slaveEnd_kept {kp : Part → Bool} {s0 : State} (s : State) (hk0 : Kept kp s0 s)
    (m_evq : kp .evq = false := by assumption) (m_trace : kp .trace = false := by assumption)
    (m_cfg : kp .cfg = false := by assumption) (m_ser : kp .ser = false := by assumption) :
    Kept kp s0 (slaveEnd s) := by
  unfold slaveEnd
  repeat' split
  all_goals simp_all

@[simp] theorem setSpEn_kept {kp : Part → Bool} {s0 : State} (s : State) (p : Path) (on : Bool) (hk0 : Kept kp s0 s)
    (m_evq : kp .evq = false := by assumption) (m_trace : kp .trace = false := by assumption)
    (m_cfg : kp .cfg = false := by assumption) (m_ser : kp .ser = false := by assumption) :
    Kept kp s0 (setSpEn s p on) := by
  unfold setSpEn
  repeat' split
  all_goals simp_all

@[simp] theorem cmAbort_kept {kp : Part → Bool} {s0 : State} (s : State) (hk0 : Kept kp s0 s)
    (m_evq : kp .evq = false := by assumption) (m_trace : kp .trace = false := by assumption)
    (m_bus : kp .bus = false := by assumption) (m_mode : kp .mode = false := by assumption)
    (m_safe : kp .safe = false := by assumption) (m_health : kp .health = false := by assumption)
    (m_adc : kp .adc = false := by assumption) (m_wdog : kp .wdog = false := by assumption)
    (m_txn : kp .txn = false := by assumption) (m_sec : kp .sec = false := by assumption)
    (m_ser : kp .ser = false := by assumption) (m_media : kp .media = false := by assumption)
    (m_upd : kp .upd = false := by assumption) (m_flash : kp .flash = false := by assumption) :
    Kept kp s0 (cmAbort s) := by
  unfold cmAbort
  repeat' split
  all_goals simp_all

@[simp] theorem cspRest_kept {kp : Part → Bool} {s0 : State} (s : State) (w : Word) (hk0 : Kept kp s0 s)
    (m_evq : kp .evq = false := by assumption) (m_trace : kp .trace = false := by assumption)
    (m_bus : kp .bus = false := by assumption) (m_mode : kp .mode = false := by assumption)
    (m_safe : kp .safe = false := by assumption) (m_health : kp .health = false := by assumption)
    (m_adc : kp .adc = false := by assumption) (m_wdog : kp .wdog = false := by assumption)
    (m_txn : kp .txn = false := by assumption) (m_sec : kp .sec = false := by assumption)
    (m_ser : kp .ser = false := by assumption) (m_media : kp .media = false := by assumption)
    (m_upd : kp .upd = false := by assumption) (m_flash : kp .flash = false := by assumption) :
    Kept kp s0 (cspRest s w) := by
  unfold cspRest
  repeat' split
  all_goals simp_all

@[simp] theorem regCspCtrl_kept {kp : Part → Bool} {s0 : State} (s : State) (v : Acc) (w : Word) (hk0 : Kept kp s0 s)
    (m_evq : kp .evq = false := by assumption) (m_trace : kp .trace = false := by assumption)
    (m_bus : kp .bus = false := by assumption) (m_cfg : kp .cfg = false := by assumption)
    (m_mode : kp .mode = false := by assumption) (m_safe : kp .safe = false := by assumption)
    (m_health : kp .health = false := by assumption) (m_adc : kp .adc = false := by assumption)
    (m_wdog : kp .wdog = false := by assumption) (m_txn : kp .txn = false := by assumption)
    (m_sec : kp .sec = false := by assumption) (m_ser : kp .ser = false := by assumption)
    (m_media : kp .media = false := by assumption) (m_upd : kp .upd = false := by assumption)
    (m_flash : kp .flash = false := by assumption) :
    Kept kp s0 (regCspCtrl s v w).1 := by
  unfold regCspCtrl
  dsimp only
  repeat' split
  all_goals simp_all (maxDischargeDepth := 9)

@[simp] theorem regWriteTo_kept {kp : Part → Bool} {s0 : State} (s : State) (v : Acc) (a : Nat) (w : Word)
    (hk0 : Kept kp s0 s)
    (m_free : kp .free = false := by assumption) (m_mem : kp .mem = false := by assumption)
    (m_time : kp .time = false := by assumption) (m_cyc : kp .cyc = false := by assumption)
    (m_evq : kp .evq = false := by assumption) (m_trace : kp .trace = false := by assumption)
    (m_bus : kp .bus = false := by assumption) (m_cfg : kp .cfg = false := by assumption)
    (m_mode : kp .mode = false := by assumption) (m_safe : kp .safe = false := by assumption)
    (m_field : kp .field = false := by assumption) (m_health : kp .health = false := by assumption)
    (m_inj : kp .inj = false := by assumption) (m_adc : kp .adc = false := by assumption)
    (m_panel : kp .panel = false := by assumption) (m_wdog : kp .wdog = false := by assumption)
    (m_link : kp .link = false := by assumption) (m_txn : kp .txn = false := by assumption)
    (m_sta : kp .sta = false := by assumption) (m_sec : kp .sec = false := by assumption)
    (m_ser : kp .ser = false := by assumption) (m_media : kp .media = false := by assumption)
    (m_upd : kp .upd = false := by assumption) (m_flash : kp .flash = false := by assumption) :
    Kept kp s0 (regWriteTo s v a w).1 := by
  unfold regWriteTo
  repeat' split
  all_goals simp_all

@[simp] theorem regReadRow_kept {kp : Part → Bool} {s0 : State} (s : State) (p : Path) (a : Nat) (hk0 : Kept kp s0 s)
    (m_mem : kp .mem = false := by assumption) (m_time : kp .time = false := by assumption)
    (m_evq : kp .evq = false := by assumption) (m_trace : kp .trace = false := by assumption)
    (m_bus : kp .bus = false := by assumption) (m_cfg : kp .cfg = false := by assumption)
    (m_adc : kp .adc = false := by assumption) (m_panel : kp .panel = false := by assumption)
    (m_sta : kp .sta = false := by assumption) :
    Kept kp s0 (regReadRow s p a) := by
  unfold regReadRow
  dsimp only
  repeat' split
  all_goals simp_all (maxDischargeDepth := 9)

@[simp] theorem regWriteRow_kept {kp : Part → Bool} {s0 : State} (s : State) (p : Path) (a : Nat) (w : Word)
    (hk0 : Kept kp s0 s)
    (m_free : kp .free = false := by assumption) (m_mem : kp .mem = false := by assumption)
    (m_time : kp .time = false := by assumption) (m_cyc : kp .cyc = false := by assumption)
    (m_evq : kp .evq = false := by assumption) (m_trace : kp .trace = false := by assumption)
    (m_bus : kp .bus = false := by assumption) (m_cfg : kp .cfg = false := by assumption)
    (m_mode : kp .mode = false := by assumption) (m_safe : kp .safe = false := by assumption)
    (m_field : kp .field = false := by assumption) (m_health : kp .health = false := by assumption)
    (m_inj : kp .inj = false := by assumption) (m_adc : kp .adc = false := by assumption)
    (m_panel : kp .panel = false := by assumption) (m_wdog : kp .wdog = false := by assumption)
    (m_link : kp .link = false := by assumption) (m_txn : kp .txn = false := by assumption)
    (m_sta : kp .sta = false := by assumption) (m_sec : kp .sec = false := by assumption)
    (m_ser : kp .ser = false := by assumption) (m_media : kp .media = false := by assumption)
    (m_upd : kp .upd = false := by assumption) (m_flash : kp .flash = false := by assumption) :
    Kept kp s0 (regWriteRow s p a w) := by
  unfold regWriteRow
  simp_all (maxDischargeDepth := 9)

@[simp] theorem execRegisterWrite_kept {kp : Part → Bool} {s0 : State} (via : Path) (addr : Nat) (w : Word)
    (both : Bool) (s : State) (hk0 : Kept kp s0 s)
    (m_free : kp .free = false := by assumption) (m_mem : kp .mem = false := by assumption)
    (m_time : kp .time = false := by assumption) (m_cyc : kp .cyc = false := by assumption)
    (m_evq : kp .evq = false := by assumption) (m_trace : kp .trace = false := by assumption)
    (m_bus : kp .bus = false := by assumption) (m_cfg : kp .cfg = false := by assumption)
    (m_mode : kp .mode = false := by assumption) (m_safe : kp .safe = false := by assumption)
    (m_field : kp .field = false := by assumption) (m_health : kp .health = false := by assumption)
    (m_inj : kp .inj = false := by assumption) (m_adc : kp .adc = false := by assumption)
    (m_panel : kp .panel = false := by assumption) (m_wdog : kp .wdog = false := by assumption)
    (m_link : kp .link = false := by assumption) (m_txn : kp .txn = false := by assumption)
    (m_sta : kp .sta = false := by assumption) (m_sec : kp .sec = false := by assumption)
    (m_ser : kp .ser = false := by assumption) (m_media : kp .media = false := by assumption)
    (m_upd : kp .upd = false := by assumption) (m_flash : kp .flash = false := by assumption) :
    KeptR kp s0 (execRegisterWrite via addr w both s) := by
  unfold execRegisterWrite
  repeat' first
    | (with_reducible assumption)
    | simp only [keptR_next]
    | (with_reducible refine regWriteRow_kept _ _ _ _ ?_)
    | (with_reducible refine hostAccess_kept _ _ ?_)
    | (with_reducible refine endCapture_kept _ _ ?_)
    | (with_reducible refine busError_kept _ _ _ ?_)
    | split

@[simp] theorem execEvqDataRead_kept {kp : Part → Bool} {s0 : State} (via : Path) (s : State) (hk0 : Kept kp s0 s)
    (m_mem : kp .mem = false := by assumption) (m_time : kp .time = false := by assumption)
    (m_evq : kp .evq = false := by assumption) (m_trace : kp .trace = false := by assumption)
    (m_bus : kp .bus = false := by assumption) (m_cfg : kp .cfg = false := by assumption)
    (m_adc : kp .adc = false := by assumption) (m_panel : kp .panel = false := by assumption)
    (m_sta : kp .sta = false := by assumption) :
    KeptR kp s0 (execEvqDataRead via s) := by
  unfold execEvqDataRead
  simp_all

@[simp] theorem execEvqHoldLapse_kept {kp : Part → Bool} {s0 : State} (s : State) (hk0 : Kept kp s0 s)
    (m_time : kp .time = false := by assumption) (m_evq : kp .evq = false := by assumption) :
    KeptR kp s0 (execEvqHoldLapse s) := by
  unfold execEvqHoldLapse
  repeat' split
  all_goals simp_all

@[simp] theorem execCplqDataRead_kept {kp : Part → Bool} {s0 : State} (via : Path) (s : State) (hk0 : Kept kp s0 s)
    (m_mem : kp .mem = false := by assumption) (m_time : kp .time = false := by assumption)
    (m_evq : kp .evq = false := by assumption) (m_trace : kp .trace = false := by assumption)
    (m_bus : kp .bus = false := by assumption) (m_cfg : kp .cfg = false := by assumption)
    (m_adc : kp .adc = false := by assumption) (m_panel : kp .panel = false := by assumption)
    (m_sta : kp .sta = false := by assumption) :
    KeptR kp s0 (execCplqDataRead via s) := by
  unfold execCplqDataRead
  simp_all

@[simp] theorem execChinRead_kept {kp : Part → Bool} {s0 : State} (via : Path) (s : State) (hk0 : Kept kp s0 s)
    (m_mem : kp .mem = false := by assumption) (m_time : kp .time = false := by assumption)
    (m_evq : kp .evq = false := by assumption) (m_trace : kp .trace = false := by assumption)
    (m_bus : kp .bus = false := by assumption) (m_cfg : kp .cfg = false := by assumption)
    (m_adc : kp .adc = false := by assumption) (m_panel : kp .panel = false := by assumption)
    (m_sta : kp .sta = false := by assumption) :
    KeptR kp s0 (execChinRead via s) := by
  unfold execChinRead
  simp_all

@[simp] theorem execKeyseqWrite_kept {kp : Part → Bool} {s0 : State} (via : Path) (w : Word) (s : State)
    (hk0 : Kept kp s0 s)
    (m_free : kp .free = false := by assumption) (m_mem : kp .mem = false := by assumption)
    (m_time : kp .time = false := by assumption) (m_cyc : kp .cyc = false := by assumption)
    (m_evq : kp .evq = false := by assumption) (m_trace : kp .trace = false := by assumption)
    (m_bus : kp .bus = false := by assumption) (m_cfg : kp .cfg = false := by assumption)
    (m_mode : kp .mode = false := by assumption) (m_safe : kp .safe = false := by assumption)
    (m_field : kp .field = false := by assumption) (m_health : kp .health = false := by assumption)
    (m_inj : kp .inj = false := by assumption) (m_adc : kp .adc = false := by assumption)
    (m_panel : kp .panel = false := by assumption) (m_wdog : kp .wdog = false := by assumption)
    (m_link : kp .link = false := by assumption) (m_txn : kp .txn = false := by assumption)
    (m_sta : kp .sta = false := by assumption) (m_sec : kp .sec = false := by assumption)
    (m_ser : kp .ser = false := by assumption) (m_media : kp .media = false := by assumption)
    (m_upd : kp .upd = false := by assumption) (m_flash : kp .flash = false := by assumption) :
    KeptR kp s0 (execKeyseqWrite via w s) := by
  unfold execKeyseqWrite
  simp_all

@[simp] theorem execKeyLapse_kept {kp : Part → Bool} {s0 : State} (via : Path) (s : State) (hk0 : Kept kp s0 s)
    (m_time : kp .time = false := by assumption) (m_bus : kp .bus = false := by assumption) :
    KeptR kp s0 (execKeyLapse via s) := by
  unfold execKeyLapse
  dsimp only
  repeat' split
  all_goals simp_all

@[simp] theorem execCmdqAsmClr_kept {kp : Part → Bool} {s0 : State} (via : Path) (s : State) (hk0 : Kept kp s0 s)
    (m_free : kp .free = false := by assumption) (m_mem : kp .mem = false := by assumption)
    (m_time : kp .time = false := by assumption) (m_cyc : kp .cyc = false := by assumption)
    (m_evq : kp .evq = false := by assumption) (m_trace : kp .trace = false := by assumption)
    (m_bus : kp .bus = false := by assumption) (m_cfg : kp .cfg = false := by assumption)
    (m_mode : kp .mode = false := by assumption) (m_safe : kp .safe = false := by assumption)
    (m_field : kp .field = false := by assumption) (m_health : kp .health = false := by assumption)
    (m_inj : kp .inj = false := by assumption) (m_adc : kp .adc = false := by assumption)
    (m_panel : kp .panel = false := by assumption) (m_wdog : kp .wdog = false := by assumption)
    (m_link : kp .link = false := by assumption) (m_txn : kp .txn = false := by assumption)
    (m_sta : kp .sta = false := by assumption) (m_sec : kp .sec = false := by assumption)
    (m_ser : kp .ser = false := by assumption) (m_media : kp .media = false := by assumption)
    (m_upd : kp .upd = false := by assumption) (m_flash : kp .flash = false := by assumption) :
    KeptR kp s0 (execCmdqAsmClr via s) := by
  unfold execCmdqAsmClr
  simp_all

@[simp] theorem execXipEnable_kept {kp : Part → Bool} {s0 : State} (via : Path) (en : Bool) (sel : Nat) (base : Nat)
    (s : State) (hk0 : Kept kp s0 s)
    (m_free : kp .free = false := by assumption) (m_mem : kp .mem = false := by assumption)
    (m_time : kp .time = false := by assumption) (m_cyc : kp .cyc = false := by assumption)
    (m_evq : kp .evq = false := by assumption) (m_trace : kp .trace = false := by assumption)
    (m_bus : kp .bus = false := by assumption) (m_cfg : kp .cfg = false := by assumption)
    (m_mode : kp .mode = false := by assumption) (m_safe : kp .safe = false := by assumption)
    (m_field : kp .field = false := by assumption) (m_health : kp .health = false := by assumption)
    (m_inj : kp .inj = false := by assumption) (m_adc : kp .adc = false := by assumption)
    (m_panel : kp .panel = false := by assumption) (m_wdog : kp .wdog = false := by assumption)
    (m_link : kp .link = false := by assumption) (m_txn : kp .txn = false := by assumption)
    (m_sta : kp .sta = false := by assumption) (m_sec : kp .sec = false := by assumption)
    (m_ser : kp .ser = false := by assumption) (m_media : kp .media = false := by assumption)
    (m_upd : kp .upd = false := by assumption) (m_flash : kp .flash = false := by assumption) :
    KeptR kp s0 (execXipEnable via en sel base s) := by
  unfold execXipEnable
  simp_all

@[simp] theorem execXipFlush_kept {kp : Part → Bool} {s0 : State} (via : Path) (s : State) (hk0 : Kept kp s0 s)
    (m_free : kp .free = false := by assumption) (m_mem : kp .mem = false := by assumption)
    (m_time : kp .time = false := by assumption) (m_cyc : kp .cyc = false := by assumption)
    (m_evq : kp .evq = false := by assumption) (m_trace : kp .trace = false := by assumption)
    (m_bus : kp .bus = false := by assumption) (m_cfg : kp .cfg = false := by assumption)
    (m_mode : kp .mode = false := by assumption) (m_safe : kp .safe = false := by assumption)
    (m_field : kp .field = false := by assumption) (m_health : kp .health = false := by assumption)
    (m_inj : kp .inj = false := by assumption) (m_adc : kp .adc = false := by assumption)
    (m_panel : kp .panel = false := by assumption) (m_wdog : kp .wdog = false := by assumption)
    (m_link : kp .link = false := by assumption) (m_txn : kp .txn = false := by assumption)
    (m_sta : kp .sta = false := by assumption) (m_sec : kp .sec = false := by assumption)
    (m_ser : kp .ser = false := by assumption) (m_media : kp .media = false := by assumption)
    (m_upd : kp .upd = false := by assumption) (m_flash : kp .flash = false := by assumption) :
    KeptR kp s0 (execXipFlush via s) := by
  unfold execXipFlush
  simp_all

@[simp] theorem execCmAbort_kept {kp : Part → Bool} {s0 : State} (via : Path) (s : State) (hk0 : Kept kp s0 s)
    (m_free : kp .free = false := by assumption) (m_mem : kp .mem = false := by assumption)
    (m_time : kp .time = false := by assumption) (m_cyc : kp .cyc = false := by assumption)
    (m_evq : kp .evq = false := by assumption) (m_trace : kp .trace = false := by assumption)
    (m_bus : kp .bus = false := by assumption) (m_cfg : kp .cfg = false := by assumption)
    (m_mode : kp .mode = false := by assumption) (m_safe : kp .safe = false := by assumption)
    (m_field : kp .field = false := by assumption) (m_health : kp .health = false := by assumption)
    (m_inj : kp .inj = false := by assumption) (m_adc : kp .adc = false := by assumption)
    (m_panel : kp .panel = false := by assumption) (m_wdog : kp .wdog = false := by assumption)
    (m_link : kp .link = false := by assumption) (m_txn : kp .txn = false := by assumption)
    (m_sta : kp .sta = false := by assumption) (m_sec : kp .sec = false := by assumption)
    (m_ser : kp .ser = false := by assumption) (m_media : kp .media = false := by assumption)
    (m_upd : kp .upd = false := by assumption) (m_flash : kp .flash = false := by assumption) :
    KeptR kp s0 (execCmAbort via s) := by
  unfold execCmAbort
  simp_all

@[simp] theorem execSpEnable_kept {kp : Part → Bool} {s0 : State} (via : Path) (on : Bool) (s : State)
    (hk0 : Kept kp s0 s)
    (m_free : kp .free = false := by assumption) (m_mem : kp .mem = false := by assumption)
    (m_time : kp .time = false := by assumption) (m_cyc : kp .cyc = false := by assumption)
    (m_evq : kp .evq = false := by assumption) (m_trace : kp .trace = false := by assumption)
    (m_bus : kp .bus = false := by assumption) (m_cfg : kp .cfg = false := by assumption)
    (m_mode : kp .mode = false := by assumption) (m_safe : kp .safe = false := by assumption)
    (m_field : kp .field = false := by assumption) (m_health : kp .health = false := by assumption)
    (m_inj : kp .inj = false := by assumption) (m_adc : kp .adc = false := by assumption)
    (m_panel : kp .panel = false := by assumption) (m_wdog : kp .wdog = false := by assumption)
    (m_link : kp .link = false := by assumption) (m_txn : kp .txn = false := by assumption)
    (m_sta : kp .sta = false := by assumption) (m_sec : kp .sec = false := by assumption)
    (m_ser : kp .ser = false := by assumption) (m_media : kp .media = false := by assumption)
    (m_upd : kp .upd = false := by assumption) (m_flash : kp .flash = false := by assumption) :
    KeptR kp s0 (execSpEnable via on s) := by
  unfold execSpEnable
  simp_all

/-! ### HostBus -/

@[simp] theorem winBegin_kept {kp : Part → Bool} {s0 : State} (s : State) (hk0 : Kept kp s0 s)
    (m_mem : kp .mem = false := by assumption) (m_bus : kp .bus = false := by assumption) :
    Kept kp s0 (winBegin s) := by
  unfold winBegin
  simp_all

@[simp] theorem winError_kept {kp : Part → Bool} {s0 : State} (s : State) (ofs : Nat) (hk0 : Kept kp s0 s)
    (m_evq : kp .evq = false := by assumption) (m_trace : kp .trace = false := by assumption)
    (m_bus : kp .bus = false := by assumption) :
    Kept kp s0 (winError s ofs) := by
  unfold winError
  simp_all

@[simp] theorem storeLanes_kept {kp : Part → Bool} {s0 : State} (s : State) (a : Nat) (w : Word) (upper : Bool)
    (lower : Bool) (hk0 : Kept kp s0 s)
    (m_mem : kp .mem = false := by assumption) :
    Kept kp s0 (storeLanes s a w upper lower) := by
  unfold storeLanes
  repeat' split
  all_goals simp_all

@[simp] theorem winWrite_kept {kp : Part → Bool} {s0 : State} (s : State) (o : Nat) (w : Word) (upper : Bool)
    (lower : Bool) (hk0 : Kept kp s0 s)
    (m_mem : kp .mem = false := by assumption) (m_evq : kp .evq = false := by assumption)
    (m_trace : kp .trace = false := by assumption) (m_bus : kp .bus = false := by assumption) :
    Kept kp s0 (winWrite s o w upper lower) := by
  unfold winWrite
  dsimp only
  repeat' split
  all_goals simp_all (maxDischargeDepth := 9)

@[simp] theorem winRead_kept {kp : Part → Bool} {s0 : State} (s : State) (o : Nat) (upper : Bool) (lower : Bool)
    (hk0 : Kept kp s0 s)
    (m_mem : kp .mem = false := by assumption) (m_evq : kp .evq = false := by assumption)
    (m_trace : kp .trace = false := by assumption) (m_bus : kp .bus = false := by assumption)
    (m_txn : kp .txn = false := by assumption) (m_ser : kp .ser = false := by assumption) :
    Kept kp s0 (winRead s o upper lower) := by
  unfold winRead
  dsimp only
  repeat' split
  all_goals simp_all (maxDischargeDepth := 9)

@[simp] theorem execBusDecodeError_kept {kp : Part → Bool} {s0 : State} (read : Bool) (addr : Nat) (s : State)
    (hk0 : Kept kp s0 s)
    (m_mem : kp .mem = false := by assumption) (m_evq : kp .evq = false := by assumption)
    (m_trace : kp .trace = false := by assumption) (m_bus : kp .bus = false := by assumption) :
    KeptR kp s0 (execBusDecodeError read addr s) := by
  unfold execBusDecodeError
  dsimp only
  repeat' split
  all_goals simp_all (maxDischargeDepth := 9)

@[simp] theorem execApertureWrite_kept {kp : Part → Bool} {s0 : State} (ofs : Nat) (w : Word) (upper : Bool)
    (lower : Bool) (s : State) (hk0 : Kept kp s0 s)
    (m_mem : kp .mem = false := by assumption) (m_evq : kp .evq = false := by assumption)
    (m_trace : kp .trace = false := by assumption) (m_bus : kp .bus = false := by assumption) :
    KeptR kp s0 (execApertureWrite ofs w upper lower s) := by
  unfold execApertureWrite
  repeat' split
  all_goals simp_all

@[simp] theorem execApertureRead_kept {kp : Part → Bool} {s0 : State} (ofs : Nat) (upper : Bool) (lower : Bool)
    (s : State) (hk0 : Kept kp s0 s)
    (m_mem : kp .mem = false := by assumption) (m_evq : kp .evq = false := by assumption)
    (m_trace : kp .trace = false := by assumption) (m_bus : kp .bus = false := by assumption)
    (m_txn : kp .txn = false := by assumption) (m_ser : kp .ser = false := by assumption) :
    KeptR kp s0 (execApertureRead ofs upper lower s) := by
  unfold execApertureRead
  repeat' split
  all_goals simp_all

@[simp] theorem execXipRead_kept {kp : Part → Bool} {s0 : State} (ofs : Nat) (s : State) (hk0 : Kept kp s0 s)
    (m_mem : kp .mem = false := by assumption) (m_evq : kp .evq = false := by assumption)
    (m_trace : kp .trace = false := by assumption) (m_bus : kp .bus = false := by assumption)
    (m_txn : kp .txn = false := by assumption) (m_ser : kp .ser = false := by assumption) :
    KeptR kp s0 (execXipRead ofs s) := by
  unfold execXipRead
  repeat' split
  all_goals simp_all

@[simp] theorem earlyAccess_kept {kp : Part → Bool} {s0 : State} (s : State) (a : HostAccess) (captured : Bool)
    (hk0 : Kept kp s0 s)
    (m_free : kp .free = false := by assumption) (m_mem : kp .mem = false := by assumption)
    (m_time : kp .time = false := by assumption) (m_cyc : kp .cyc = false := by assumption)
    (m_evq : kp .evq = false := by assumption) (m_trace : kp .trace = false := by assumption)
    (m_bus : kp .bus = false := by assumption) (m_cfg : kp .cfg = false := by assumption)
    (m_mode : kp .mode = false := by assumption) (m_safe : kp .safe = false := by assumption)
    (m_field : kp .field = false := by assumption) (m_health : kp .health = false := by assumption)
    (m_inj : kp .inj = false := by assumption) (m_adc : kp .adc = false := by assumption)
    (m_panel : kp .panel = false := by assumption) (m_wdog : kp .wdog = false := by assumption)
    (m_link : kp .link = false := by assumption) (m_txn : kp .txn = false := by assumption)
    (m_sta : kp .sta = false := by assumption) (m_sec : kp .sec = false := by assumption)
    (m_ser : kp .ser = false := by assumption) (m_media : kp .media = false := by assumption)
    (m_upd : kp .upd = false := by assumption) (m_flash : kp .flash = false := by assumption) :
    Kept kp s0 (earlyAccess s a captured) := by
  unfold earlyAccess
  repeat' split
  all_goals simp_all

@[simp] theorem execHostStrobeEarly_kept {kp : Part → Bool} {s0 : State} (a : HostAccess) (captured : Bool)
    (s : State) (hk0 : Kept kp s0 s)
    (m_free : kp .free = false := by assumption) (m_mem : kp .mem = false := by assumption)
    (m_time : kp .time = false := by assumption) (m_cyc : kp .cyc = false := by assumption)
    (m_evq : kp .evq = false := by assumption) (m_trace : kp .trace = false := by assumption)
    (m_bus : kp .bus = false := by assumption) (m_cfg : kp .cfg = false := by assumption)
    (m_mode : kp .mode = false := by assumption) (m_safe : kp .safe = false := by assumption)
    (m_field : kp .field = false := by assumption) (m_health : kp .health = false := by assumption)
    (m_inj : kp .inj = false := by assumption) (m_adc : kp .adc = false := by assumption)
    (m_panel : kp .panel = false := by assumption) (m_wdog : kp .wdog = false := by assumption)
    (m_link : kp .link = false := by assumption) (m_txn : kp .txn = false := by assumption)
    (m_sta : kp .sta = false := by assumption) (m_sec : kp .sec = false := by assumption)
    (m_ser : kp .ser = false := by assumption) (m_media : kp .media = false := by assumption)
    (m_upd : kp .upd = false := by assumption) (m_flash : kp .flash = false := by assumption) :
    KeptR kp s0 (execHostStrobeEarly a captured s) := by
  unfold execHostStrobeEarly
  repeat' split
  all_goals simp_all

/-! ### Opcodes -/

@[simp] theorem pingLine_kept {kp : Part → Bool} {s0 : State} (s : State) (t : Txn) (hk0 : Kept kp s0 s)
    (m_evq : kp .evq = false := by assumption) (m_trace : kp .trace = false := by assumption)
    (m_mode : kp .mode = false := by assumption) (m_safe : kp .safe = false := by assumption)
    (m_health : kp .health = false := by assumption) (m_adc : kp .adc = false := by assumption)
    (m_wdog : kp .wdog = false := by assumption) (m_txn : kp .txn = false := by assumption)
    (m_sec : kp .sec = false := by assumption) :
    Kept kp s0 (pingLine s t) := by
  unfold pingLine
  simp_all

@[simp] theorem readGroup_kept {kp : Part → Bool} {s0 : State} (s : State) (v : Acc) (l : List Byte)
    (hk0 : Kept kp s0 s)
    (m_time : kp .time = false := by assumption) (m_evq : kp .evq = false := by assumption)
    (m_trace : kp .trace = false := by assumption) (m_bus : kp .bus = false := by assumption)
    (m_cfg : kp .cfg = false := by assumption) (m_adc : kp .adc = false := by assumption)
    (m_panel : kp .panel = false := by assumption) (m_sta : kp .sta = false := by assumption) :
    Kept kp s0 (readGroup s v l).1 := by
  induction l generalizing s with
  | nil => exact hk0
  | cons a r ih =>
    have h := regRead_kept s v a.toNat hk0
    unfold readGroup
    dsimp only
    split
    · exact h
    · exact ih _ h

@[simp] theorem regReadLine_kept {kp : Part → Bool} {s0 : State} (s : State) (t : Txn) (hk0 : Kept kp s0 s)
    (m_time : kp .time = false := by assumption) (m_evq : kp .evq = false := by assumption)
    (m_trace : kp .trace = false := by assumption) (m_bus : kp .bus = false := by assumption)
    (m_cfg : kp .cfg = false := by assumption) (m_mode : kp .mode = false := by assumption)
    (m_safe : kp .safe = false := by assumption) (m_health : kp .health = false := by assumption)
    (m_adc : kp .adc = false := by assumption) (m_panel : kp .panel = false := by assumption)
    (m_wdog : kp .wdog = false := by assumption) (m_txn : kp .txn = false := by assumption)
    (m_sta : kp .sta = false := by assumption) (m_sec : kp .sec = false := by assumption) :
    Kept kp s0 (regReadLine s t) := by
  unfold regReadLine
  repeat' split
  all_goals simp_all

@[simp] theorem writeEntry_kept {kp : Part → Bool} {s0 : State} (s : State) (v : Acc) (a : Nat) (w : Word)
    (hk0 : Kept kp s0 s)
    (m_free : kp .free = false := by assumption) (m_mem : kp .mem = false := by assumption)
    (m_time : kp .time = false := by assumption) (m_cyc : kp .cyc = false := by assumption)
    (m_evq : kp .evq = false := by assumption) (m_trace : kp .trace = false := by assumption)
    (m_bus : kp .bus = false := by assumption) (m_cfg : kp .cfg = false := by assumption)
    (m_mode : kp .mode = false := by assumption) (m_safe : kp .safe = false := by assumption)
    (m_field : kp .field = false := by assumption) (m_health : kp .health = false := by assumption)
    (m_inj : kp .inj = false := by assumption) (m_adc : kp .adc = false := by assumption)
    (m_panel : kp .panel = false := by assumption) (m_wdog : kp .wdog = false := by assumption)
    (m_link : kp .link = false := by assumption) (m_txn : kp .txn = false := by assumption)
    (m_sta : kp .sta = false := by assumption) (m_sec : kp .sec = false := by assumption)
    (m_ser : kp .ser = false := by assumption) (m_media : kp .media = false := by assumption)
    (m_upd : kp .upd = false := by assumption) (m_flash : kp .flash = false := by assumption) :
    Kept kp s0 (writeEntry s v a w).1 := by
  unfold writeEntry
  try dsimp only
  repeat' split
  all_goals simp_all (maxDischargeDepth := 9)

@[simp] theorem writeGroup_kept {kp : Part → Bool} {s0 : State} (s : State) (v : Acc) (n : Nat)
    (l : List (Nat × Word)) (hk0 : Kept kp s0 s)
    (m_free : kp .free = false := by assumption) (m_mem : kp .mem = false := by assumption)
    (m_time : kp .time = false := by assumption) (m_cyc : kp .cyc = false := by assumption)
    (m_evq : kp .evq = false := by assumption) (m_trace : kp .trace = false := by assumption)
    (m_bus : kp .bus = false := by assumption) (m_cfg : kp .cfg = false := by assumption)
    (m_mode : kp .mode = false := by assumption) (m_safe : kp .safe = false := by assumption)
    (m_field : kp .field = false := by assumption) (m_health : kp .health = false := by assumption)
    (m_inj : kp .inj = false := by assumption) (m_adc : kp .adc = false := by assumption)
    (m_panel : kp .panel = false := by assumption) (m_wdog : kp .wdog = false := by assumption)
    (m_link : kp .link = false := by assumption) (m_txn : kp .txn = false := by assumption)
    (m_sta : kp .sta = false := by assumption) (m_sec : kp .sec = false := by assumption)
    (m_ser : kp .ser = false := by assumption) (m_media : kp .media = false := by assumption)
    (m_upd : kp .upd = false := by assumption) (m_flash : kp .flash = false := by assumption) :
    Kept kp s0 (writeGroup s v n l).1 := by
  induction l generalizing s n with
  | nil => exact hk0
  | cons a r ih =>
    have h := writeEntry_kept s v a.1 a.2 hk0
    unfold writeGroup
    dsimp only
    split
    · exact h
    · exact ih _ _ h

@[simp] theorem groupModes_kept {kp : Part → Bool} {s0 : State} (m : Mode) (s : State) (l : List (Nat × Word))
    (hk0 : Kept kp s0 s)
    (m_cyc : kp .cyc = false := by assumption) (m_evq : kp .evq = false := by assumption)
    (m_trace : kp .trace = false := by assumption) (m_bus : kp .bus = false := by assumption)
    (m_cfg : kp .cfg = false := by assumption) (m_mode : kp .mode = false := by assumption)
    (m_safe : kp .safe = false := by assumption) (m_field : kp .field = false := by assumption)
    (m_health : kp .health = false := by assumption) (m_inj : kp .inj = false := by assumption)
    (m_adc : kp .adc = false := by assumption) (m_panel : kp .panel = false := by assumption)
    (m_wdog : kp .wdog = false := by assumption) (m_link : kp .link = false := by assumption)
    (m_txn : kp .txn = false := by assumption) (m_sta : kp .sta = false := by assumption)
    (m_sec : kp .sec = false := by assumption) (m_ser : kp .ser = false := by assumption)
    (m_media : kp .media = false := by assumption) (m_upd : kp .upd = false := by assumption) :
    Kept kp s0 (groupModes m s l) := by
  unfold groupModes
  try dsimp only
  repeat' split
  all_goals simp_all (maxDischargeDepth := 9)

@[simp] theorem regWriteLine_kept {kp : Part → Bool} {s0 : State} (s : State) (t : Txn) (hk0 : Kept kp s0 s)
    (m_free : kp .free = false := by assumption) (m_mem : kp .mem = false := by assumption)
    (m_time : kp .time = false := by assumption) (m_cyc : kp .cyc = false := by assumption)
    (m_evq : kp .evq = false := by assumption) (m_trace : kp .trace = false := by assumption)
    (m_bus : kp .bus = false := by assumption) (m_cfg : kp .cfg = false := by assumption)
    (m_mode : kp .mode = false := by assumption) (m_safe : kp .safe = false := by assumption)
    (m_field : kp .field = false := by assumption) (m_health : kp .health = false := by assumption)
    (m_inj : kp .inj = false := by assumption) (m_adc : kp .adc = false := by assumption)
    (m_panel : kp .panel = false := by assumption) (m_wdog : kp .wdog = false := by assumption)
    (m_link : kp .link = false := by assumption) (m_txn : kp .txn = false := by assumption)
    (m_sta : kp .sta = false := by assumption) (m_sec : kp .sec = false := by assumption)
    (m_ser : kp .ser = false := by assumption) (m_media : kp .media = false := by assumption)
    (m_upd : kp .upd = false := by assumption) (m_flash : kp .flash = false := by assumption) :
    Kept kp s0 (regWriteLine s t) := by
  unfold regWriteLine
  try dsimp only
  repeat' split
  all_goals simp_all (maxDischargeDepth := 15)

@[simp] theorem execPing_kept {kp : Part → Bool} {s0 : State} (bcast : Bool) (anchor : Bool) (tag : Nat) (s : State)
    (hk0 : Kept kp s0 s)
    (m_evq : kp .evq = false := by assumption) (m_trace : kp .trace = false := by assumption)
    (m_mode : kp .mode = false := by assumption) (m_safe : kp .safe = false := by assumption)
    (m_health : kp .health = false := by assumption) (m_adc : kp .adc = false := by assumption)
    (m_wdog : kp .wdog = false := by assumption) (m_txn : kp .txn = false := by assumption)
    (m_sec : kp .sec = false := by assumption) (m_ser : kp .ser = false := by assumption) :
    KeptR kp s0 (execPing bcast anchor tag s) := by
  unfold execPing
  simp_all

@[simp] theorem execRegRead_kept {kp : Part → Bool} {s0 : State} (bcast : Bool) (anchor : Bool) (tag : Nat)
    (s : State) (hk0 : Kept kp s0 s)
    (m_time : kp .time = false := by assumption) (m_evq : kp .evq = false := by assumption)
    (m_trace : kp .trace = false := by assumption) (m_bus : kp .bus = false := by assumption)
    (m_cfg : kp .cfg = false := by assumption) (m_mode : kp .mode = false := by assumption)
    (m_safe : kp .safe = false := by assumption) (m_health : kp .health = false := by assumption)
    (m_adc : kp .adc = false := by assumption) (m_panel : kp .panel = false := by assumption)
    (m_wdog : kp .wdog = false := by assumption) (m_txn : kp .txn = false := by assumption)
    (m_sta : kp .sta = false := by assumption) (m_sec : kp .sec = false := by assumption)
    (m_ser : kp .ser = false := by assumption) :
    KeptR kp s0 (execRegRead bcast anchor tag s) := by
  unfold execRegRead
  simp_all

@[simp] theorem execRegWrite_kept {kp : Part → Bool} {s0 : State} (bcast : Bool) (anchor : Bool) (tag : Nat)
    (s : State) (hk0 : Kept kp s0 s)
    (m_free : kp .free = false := by assumption) (m_mem : kp .mem = false := by assumption)
    (m_time : kp .time = false := by assumption) (m_cyc : kp .cyc = false := by assumption)
    (m_evq : kp .evq = false := by assumption) (m_trace : kp .trace = false := by assumption)
    (m_bus : kp .bus = false := by assumption) (m_cfg : kp .cfg = false := by assumption)
    (m_mode : kp .mode = false := by assumption) (m_safe : kp .safe = false := by assumption)
    (m_field : kp .field = false := by assumption) (m_health : kp .health = false := by assumption)
    (m_inj : kp .inj = false := by assumption) (m_adc : kp .adc = false := by assumption)
    (m_panel : kp .panel = false := by assumption) (m_wdog : kp .wdog = false := by assumption)
    (m_link : kp .link = false := by assumption) (m_txn : kp .txn = false := by assumption)
    (m_sta : kp .sta = false := by assumption) (m_sec : kp .sec = false := by assumption)
    (m_ser : kp .ser = false := by assumption) (m_media : kp .media = false := by assumption)
    (m_upd : kp .upd = false := by assumption) (m_flash : kp .flash = false := by assumption) :
    KeptR kp s0 (execRegWrite bcast anchor tag s) := by
  unfold execRegWrite
  simp_all

/-! ### SlavePort -/

@[simp] theorem slaveIgnore_kept {kp : Part → Bool} {s0 : State} (s : State) (bit : Nat) (hk0 : Kept kp s0 s)
    (m_ser : kp .ser = false := by assumption) :
    Kept kp s0 (slaveIgnore s bit) := by
  unfold slaveIgnore
  simp_all

@[simp] theorem slaveReads_kept {kp : Part → Bool} {s0 : State} (s : State) (l : List Nat) (hk0 : Kept kp s0 s)
    (m_time : kp .time = false := by assumption) (m_evq : kp .evq = false := by assumption)
    (m_trace : kp .trace = false := by assumption) (m_bus : kp .bus = false := by assumption)
    (m_cfg : kp .cfg = false := by assumption) (m_adc : kp .adc = false := by assumption)
    (m_panel : kp .panel = false := by assumption) (m_sta : kp .sta = false := by assumption) :
    Kept kp s0 (slaveReads s l).1 := by
  induction l generalizing s with
  | nil => exact hk0
  | cons a r ih => exact ih _ (regRead_kept _ _ _ hk0)

@[simp] theorem slaveWrites_kept {kp : Part → Bool} {s0 : State} (s : State) (l : List (Nat × Word))
    (hk0 : Kept kp s0 s)
    (m_free : kp .free = false := by assumption) (m_mem : kp .mem = false := by assumption)
    (m_time : kp .time = false := by assumption) (m_cyc : kp .cyc = false := by assumption)
    (m_evq : kp .evq = false := by assumption) (m_trace : kp .trace = false := by assumption)
    (m_bus : kp .bus = false := by assumption) (m_cfg : kp .cfg = false := by assumption)
    (m_mode : kp .mode = false := by assumption) (m_safe : kp .safe = false := by assumption)
    (m_field : kp .field = false := by assumption) (m_health : kp .health = false := by assumption)
    (m_inj : kp .inj = false := by assumption) (m_adc : kp .adc = false := by assumption)
    (m_panel : kp .panel = false := by assumption) (m_wdog : kp .wdog = false := by assumption)
    (m_link : kp .link = false := by assumption) (m_txn : kp .txn = false := by assumption)
    (m_sta : kp .sta = false := by assumption) (m_sec : kp .sec = false := by assumption)
    (m_ser : kp .ser = false := by assumption) (m_media : kp .media = false := by assumption)
    (m_upd : kp .upd = false := by assumption) (m_flash : kp .flash = false := by assumption) :
    Kept kp s0 (slaveWrites s l) := by
  induction l generalizing s with
  | nil => exact hk0
  | cons a r ih => exact ih _ (regWriteTo_kept _ _ _ _ hk0)

@[simp] theorem slaveReply_kept {kp : Part → Bool} {s0 : State} (s : State) (b : List Byte) (resync : Bool)
    (data : List Byte) (hk0 : Kept kp s0 s)
    (m_ser : kp .ser = false := by assumption) :
    Kept kp s0 (slaveReply s b resync data) := by
  unfold slaveReply
  simp_all

@[simp] theorem slaveRun_kept {kp : Part → Bool} {s0 : State} (s : State) (b : List Byte) (resync : Bool)
    (hk0 : Kept kp s0 s)
    (m_free : kp .free = false := by assumption) (m_mem : kp .mem = false := by assumption)
    (m_time : kp .time = false := by assumption) (m_cyc : kp .cyc = false := by assumption)
    (m_evq : kp .evq = false := by assumption) (m_trace : kp .trace = false := by assumption)
    (m_bus : kp .bus = false := by assumption) (m_cfg : kp .cfg = false := by assumption)
    (m_mode : kp .mode = false := by assumption) (m_safe : kp .safe = false := by assumption)
    (m_field : kp .field = false := by assumption) (m_health : kp .health = false := by assumption)
    (m_inj : kp .inj = false := by assumption) (m_adc : kp .adc = false := by assumption)
    (m_panel : kp .panel = false := by assumption) (m_wdog : kp .wdog = false := by assumption)
    (m_link : kp .link = false := by assumption) (m_txn : kp .txn = false := by assumption)
    (m_sta : kp .sta = false := by assumption) (m_sec : kp .sec = false := by assumption)
    (m_ser : kp .ser = false := by assumption) (m_media : kp .media = false := by assumption)
    (m_upd : kp .upd = false := by assumption) (m_flash : kp .flash = false := by assumption) :
    Kept kp s0 (slaveRun s b resync) := by
  unfold slaveRun
  repeat' split
  all_goals simp_all

@[simp] theorem slaveReplay_kept {kp : Part → Bool} {s0 : State} (s : State) (hk0 : Kept kp s0 s)
    (m_ser : kp .ser = false := by assumption) :
    Kept kp s0 (slaveReplay s) := by
  unfold slaveReplay
  simp_all

@[simp] theorem slaveExtra_kept {kp : Part → Bool} {s0 : State} (s : State) (b : List Byte) (hk0 : Kept kp s0 s)
    (m_ser : kp .ser = false := by assumption) :
    Kept kp s0 (slaveExtra s b) := by
  unfold slaveExtra
  repeat' split
  all_goals simp_all

@[simp] theorem slaveAct_kept {kp : Part → Bool} {s0 : State} (s : State) (b : List Byte) (hk0 : Kept kp s0 s)
    (m_free : kp .free = false := by assumption) (m_mem : kp .mem = false := by assumption)
    (m_time : kp .time = false := by assumption) (m_cyc : kp .cyc = false := by assumption)
    (m_evq : kp .evq = false := by assumption) (m_trace : kp .trace = false := by assumption)
    (m_bus : kp .bus = false := by assumption) (m_cfg : kp .cfg = false := by assumption)
    (m_mode : kp .mode = false := by assumption) (m_safe : kp .safe = false := by assumption)
    (m_field : kp .field = false := by assumption) (m_health : kp .health = false := by assumption)
    (m_inj : kp .inj = false := by assumption) (m_adc : kp .adc = false := by assumption)
    (m_panel : kp .panel = false := by assumption) (m_wdog : kp .wdog = false := by assumption)
    (m_link : kp .link = false := by assumption) (m_txn : kp .txn = false := by assumption)
    (m_sta : kp .sta = false := by assumption) (m_sec : kp .sec = false := by assumption)
    (m_ser : kp .ser = false := by assumption) (m_media : kp .media = false := by assumption)
    (m_upd : kp .upd = false := by assumption) (m_flash : kp .flash = false := by assumption) :
    Kept kp s0 (slaveAct s b) := by
  unfold slaveAct
  repeat' first
    | (with_reducible assumption)
    | (with_reducible refine slaveRun_kept _ _ _ ?_)
    | (with_reducible refine slaveEnd_kept _ ?_)
    | (with_reducible refine slaveReplay_kept _ ?_)
    | (with_reducible refine slaveExtra_kept _ _ ?_)
    | (with_reducible refine slaveIgnore_kept _ _ ?_)
    | split

@[simp] theorem slaveFrame_kept {kp : Part → Bool} {s0 : State} (s : State) (b : List Byte) (hk0 : Kept kp s0 s)
    (m_free : kp .free = false := by assumption) (m_mem : kp .mem = false := by assumption)
    (m_time : kp .time = false := by assumption) (m_cyc : kp .cyc = false := by assumption)
    (m_evq : kp .evq = false := by assumption) (m_trace : kp .trace = false := by assumption)
    (m_bus : kp .bus = false := by assumption) (m_cfg : kp .cfg = false := by assumption)
    (m_mode : kp .mode = false := by assumption) (m_safe : kp .safe = false := by assumption)
    (m_field : kp .field = false := by assumption) (m_health : kp .health = false := by assumption)
    (m_inj : kp .inj = false := by assumption) (m_adc : kp .adc = false := by assumption)
    (m_panel : kp .panel = false := by assumption) (m_wdog : kp .wdog = false := by assumption)
    (m_link : kp .link = false := by assumption) (m_txn : kp .txn = false := by assumption)
    (m_sta : kp .sta = false := by assumption) (m_sec : kp .sec = false := by assumption)
    (m_ser : kp .ser = false := by assumption) (m_media : kp .media = false := by assumption)
    (m_upd : kp .upd = false := by assumption) (m_flash : kp .flash = false := by assumption) :
    Kept kp s0 (slaveFrame s b) := by
  unfold slaveFrame
  dsimp only
  repeat' split
  all_goals simp_all

@[simp] theorem slaveRow_kept {kp : Part → Bool} {s0 : State} (s : State) (op : Nat) (b : List Byte)
    (hk0 : Kept kp s0 s)
    (m_free : kp .free = false := by assumption) (m_mem : kp .mem = false := by assumption)
    (m_time : kp .time = false := by assumption) (m_cyc : kp .cyc = false := by assumption)
    (m_evq : kp .evq = false := by assumption) (m_trace : kp .trace = false := by assumption)
    (m_bus : kp .bus = false := by assumption) (m_cfg : kp .cfg = false := by assumption)
    (m_mode : kp .mode = false := by assumption) (m_safe : kp .safe = false := by assumption)
    (m_field : kp .field = false := by assumption) (m_health : kp .health = false := by assumption)
    (m_inj : kp .inj = false := by assumption) (m_adc : kp .adc = false := by assumption)
    (m_panel : kp .panel = false := by assumption) (m_wdog : kp .wdog = false := by assumption)
    (m_link : kp .link = false := by assumption) (m_txn : kp .txn = false := by assumption)
    (m_sta : kp .sta = false := by assumption) (m_sec : kp .sec = false := by assumption)
    (m_ser : kp .ser = false := by assumption) (m_media : kp .media = false := by assumption)
    (m_upd : kp .upd = false := by assumption) (m_flash : kp .flash = false := by assumption) :
    KeptR kp s0 (slaveRow s op b) := by
  unfold slaveRow
  repeat' split
  all_goals simp_all

@[simp] theorem execSlaveRead_kept {kp : Part → Bool} {s0 : State} (bytes : List Byte) (s : State) (hk0 : Kept kp s0 s)
    (m_free : kp .free = false := by assumption) (m_mem : kp .mem = false := by assumption)
    (m_time : kp .time = false := by assumption) (m_cyc : kp .cyc = false := by assumption)
    (m_evq : kp .evq = false := by assumption) (m_trace : kp .trace = false := by assumption)
    (m_bus : kp .bus = false := by assumption) (m_cfg : kp .cfg = false := by assumption)
    (m_mode : kp .mode = false := by assumption) (m_safe : kp .safe = false := by assumption)
    (m_field : kp .field = false := by assumption) (m_health : kp .health = false := by assumption)
    (m_inj : kp .inj = false := by assumption) (m_adc : kp .adc = false := by assumption)
    (m_panel : kp .panel = false := by assumption) (m_wdog : kp .wdog = false := by assumption)
    (m_link : kp .link = false := by assumption) (m_txn : kp .txn = false := by assumption)
    (m_sta : kp .sta = false := by assumption) (m_sec : kp .sec = false := by assumption)
    (m_ser : kp .ser = false := by assumption) (m_media : kp .media = false := by assumption)
    (m_upd : kp .upd = false := by assumption) (m_flash : kp .flash = false := by assumption) :
    KeptR kp s0 (execSlaveRead bytes s) := by
  unfold execSlaveRead
  simp_all

@[simp] theorem execSlaveWrite_kept {kp : Part → Bool} {s0 : State} (bytes : List Byte) (s : State) (hk0 : Kept kp s0 s)
    (m_free : kp .free = false := by assumption) (m_mem : kp .mem = false := by assumption)
    (m_time : kp .time = false := by assumption) (m_cyc : kp .cyc = false := by assumption)
    (m_evq : kp .evq = false := by assumption) (m_trace : kp .trace = false := by assumption)
    (m_bus : kp .bus = false := by assumption) (m_cfg : kp .cfg = false := by assumption)
    (m_mode : kp .mode = false := by assumption) (m_safe : kp .safe = false := by assumption)
    (m_field : kp .field = false := by assumption) (m_health : kp .health = false := by assumption)
    (m_inj : kp .inj = false := by assumption) (m_adc : kp .adc = false := by assumption)
    (m_panel : kp .panel = false := by assumption) (m_wdog : kp .wdog = false := by assumption)
    (m_link : kp .link = false := by assumption) (m_txn : kp .txn = false := by assumption)
    (m_sta : kp .sta = false := by assumption) (m_sec : kp .sec = false := by assumption)
    (m_ser : kp .ser = false := by assumption) (m_media : kp .media = false := by assumption)
    (m_upd : kp .upd = false := by assumption) (m_flash : kp .flash = false := by assumption) :
    KeptR kp s0 (execSlaveWrite bytes s) := by
  unfold execSlaveWrite
  simp_all

@[simp] theorem execSlaveNop_kept {kp : Part → Bool} {s0 : State} (bytes : List Byte) (s : State) (hk0 : Kept kp s0 s)
    (m_free : kp .free = false := by assumption) (m_mem : kp .mem = false := by assumption)
    (m_time : kp .time = false := by assumption) (m_cyc : kp .cyc = false := by assumption)
    (m_evq : kp .evq = false := by assumption) (m_trace : kp .trace = false := by assumption)
    (m_bus : kp .bus = false := by assumption) (m_cfg : kp .cfg = false := by assumption)
    (m_mode : kp .mode = false := by assumption) (m_safe : kp .safe = false := by assumption)
    (m_field : kp .field = false := by assumption) (m_health : kp .health = false := by assumption)
    (m_inj : kp .inj = false := by assumption) (m_adc : kp .adc = false := by assumption)
    (m_panel : kp .panel = false := by assumption) (m_wdog : kp .wdog = false := by assumption)
    (m_link : kp .link = false := by assumption) (m_txn : kp .txn = false := by assumption)
    (m_sta : kp .sta = false := by assumption) (m_sec : kp .sec = false := by assumption)
    (m_ser : kp .ser = false := by assumption) (m_media : kp .media = false := by assumption)
    (m_upd : kp .upd = false := by assumption) (m_flash : kp .flash = false := by assumption) :
    KeptR kp s0 (execSlaveNop bytes s) := by
  unfold execSlaveNop
  simp_all

@[simp] theorem execSlaveFrameIgnored_kept {kp : Part → Bool} {s0 : State} (bytes : List Byte) (s : State)
    (hk0 : Kept kp s0 s)
    (m_free : kp .free = false := by assumption) (m_mem : kp .mem = false := by assumption)
    (m_time : kp .time = false := by assumption) (m_cyc : kp .cyc = false := by assumption)
    (m_evq : kp .evq = false := by assumption) (m_trace : kp .trace = false := by assumption)
    (m_bus : kp .bus = false := by assumption) (m_cfg : kp .cfg = false := by assumption)
    (m_mode : kp .mode = false := by assumption) (m_safe : kp .safe = false := by assumption)
    (m_field : kp .field = false := by assumption) (m_health : kp .health = false := by assumption)
    (m_inj : kp .inj = false := by assumption) (m_adc : kp .adc = false := by assumption)
    (m_panel : kp .panel = false := by assumption) (m_wdog : kp .wdog = false := by assumption)
    (m_link : kp .link = false := by assumption) (m_txn : kp .txn = false := by assumption)
    (m_sta : kp .sta = false := by assumption) (m_sec : kp .sec = false := by assumption)
    (m_ser : kp .ser = false := by assumption) (m_media : kp .media = false := by assumption)
    (m_upd : kp .upd = false := by assumption) (m_flash : kp .flash = false := by assumption) :
    KeptR kp s0 (execSlaveFrameIgnored bytes s) := by
  unfold execSlaveFrameIgnored
  repeat' split
  all_goals simp_all

@[simp] theorem execSlaveFrameAbort_kept {kp : Part → Bool} {s0 : State} (bytes : List Byte) (midByte : Bool)
    (s : State) (hk0 : Kept kp s0 s)
    (m_ser : kp .ser = false := by assumption) :
    KeptR kp s0 (execSlaveFrameAbort bytes midByte s) := by
  unfold execSlaveFrameAbort
  repeat' split
  all_goals simp_all

end Sys2Proof.Machine
end

