-- ==== Sys2Proof/Laws/PerInstr.lean ====
section
/-! SUPPORT. PerInstr: what holds of every command as syntax, one lemma per constructor. -/

namespace Sys2Proof.Laws

/-- No word spells the command: the table of operations and events gives no row any bits (log 2). -/
def Words.Statement (i : Instr) : Prop := ∀ nbits w : Nat, decodeTableWord nbits w ≠ some i

theorem Words.porstAssert (supply : Bool) : Words.Statement (.porstAssert supply) := fun _ _ h => Option.some_ne_none _ h.symm

theorem Words.porstRelease (role : Role) (crystal : Bool) (e : BootEnv) :
    Words.Statement (.porstRelease role crystal e) := fun _ _ h => Option.some_ne_none _ h.symm

theorem Words.bootTimerExpiry : Words.Statement (.bootTimerExpiry) := fun _ _ h => Option.some_ne_none _ h.symm

theorem Words.logicReset (e : BootEnv) : Words.Statement (.logicReset e) := fun _ _ h => Option.some_ne_none _ h.symm

theorem Words.coreReset (e : BootEnv) : Words.Statement (.coreReset e) := fun _ _ h => Option.some_ne_none _ h.symm

theorem Words.fieldReset (active shadow : Bool) : Words.Statement (.fieldReset active shadow) := fun _ _ h => Option.some_ne_none _ h.symm

theorem Words.fieldDieFault : Words.Statement (.fieldDieFault) := fun _ _ h => Option.some_ne_none _ h.symm

theorem Words.supplyMonitorTrip (lineDomain : Bool) :
    Words.Statement (.supplyMonitorTrip lineDomain) := fun _ _ h => Option.some_ne_none _ h.symm

theorem Words.bootStable : Words.Statement (.bootStable) := fun _ _ h => Option.some_ne_none _ h.symm

theorem Words.fatalException : Words.Statement (.fatalException) := fun _ _ h => Option.some_ne_none _ h.symm

theorem Words.syncSend : Words.Statement (.syncSend) := fun _ _ h => Option.some_ne_none _ h.symm

theorem Words.syncFrame (p : Port) (f : LineFrame) (readings : List Word) :
    Words.Statement (.syncFrame p f readings) := fun _ _ h => Option.some_ne_none _ h.symm

theorem Words.syncMissInterval : Words.Statement (.syncMissInterval) := fun _ _ h => Option.some_ne_none _ h.symm

theorem Words.pllLocked : Words.Statement (.pllLocked) := fun _ _ h => Option.some_ne_none _ h.symm

theorem Words.phaseError : Words.Statement (.phaseError) := fun _ _ h => Option.some_ne_none _ h.symm

theorem Words.refRange : Words.Statement (.refRange) := fun _ _ h => Option.some_ne_none _ h.symm

theorem Words.ltimeLatch (via : Path) : Words.Statement (.ltimeLatch via) := fun _ _ h => Option.some_ne_none _ h.symm

theorem Words.preset (via : Path) : Words.Statement (.preset via) := fun _ _ h => Option.some_ne_none _ h.symm

theorem Words.sampleInstant (readings : List Word) : Words.Statement (.sampleInstant readings) := fun _ _ h => Option.some_ne_none _ h.symm

theorem Words.snapshotReady : Words.Statement (.snapshotReady) := fun _ _ h => Option.some_ne_none _ h.symm

theorem Words.applyInstant (readings : List Word) : Words.Statement (.applyInstant readings) := fun _ _ h => Option.some_ne_none _ h.symm

theorem Words.signalDetect (p : Port) : Words.Statement (.signalDetect p) := fun _ _ h => Option.some_ne_none _ h.symm

theorem Words.trainComplete (p : Port) (t1 t2 t3 : Int) :
    Words.Statement (.trainComplete p t1 t2 t3) := fun _ _ h => Option.some_ne_none _ h.symm

theorem Words.alignUp (p : Port) (inverted : Bool) : Words.Statement (.alignUp p inverted) := fun _ _ h => Option.some_ne_none _ h.symm

theorem Words.alignTimeout (p : Port) : Words.Statement (.alignTimeout p) := fun _ _ h => Option.some_ne_none _ h.symm

theorem Words.lossOfSync (p : Port) (bad : Nat) : Words.Statement (.lossOfSync p bad) := fun _ _ h => Option.some_ne_none _ h.symm

theorem Words.lossOfSignal (p : Port) : Words.Statement (.lossOfSignal p) := fun _ _ h => Option.some_ne_none _ h.symm

theorem Words.retrain (via : Path) (p : Port) : Words.Statement (.retrain via p) := fun _ _ h => Option.some_ne_none _ h.symm

theorem Words.crossedPairs (p : Port) : Words.Statement (.crossedPairs p) := fun _ _ h => Option.some_ne_none _ h.symm

theorem Words.frameForward (p : Port) (f : LineFrame) (readings : List Word) :
    Words.Statement (.frameForward p f readings) := fun _ _ h => Option.some_ne_none _ h.symm

theorem Words.rsvdTypeFrame (p : Port) (f : LineFrame) : Words.Statement (.rsvdTypeFrame p f) := fun _ _ h => Option.some_ne_none _ h.symm

theorem Words.loopEngage (p : Port) : Words.Statement (.loopEngage p) := fun _ _ h => Option.some_ne_none _ h.symm

theorem Words.ownFrameSend (p : Port) : Words.Statement (.ownFrameSend p) := fun _ _ h => Option.some_ne_none _ h.symm

theorem Words.loopbackNoticeSet (p : Port) (n0 n1 n2 : Byte) :
    Words.Statement (.loopbackNoticeSet p n0 n1 n2) := fun _ _ h => Option.some_ne_none _ h.symm

theorem Words.loopbackNoticeFrame (p : Port) (f : LineFrame) :
    Words.Statement (.loopbackNoticeFrame p f) := fun _ _ h => Option.some_ne_none _ h.symm

theorem Words.loopRel (via : Path) : Words.Statement (.loopRel via) := fun _ _ h => Option.some_ne_none _ h.symm

theorem Words.loopRelease (p : Port) : Words.Statement (.loopRelease p) := fun _ _ h => Option.some_ne_none _ h.symm

theorem Words.loopForce (via : Path) : Words.Statement (.loopForce via) := fun _ _ h => Option.some_ne_none _ h.symm

theorem Words.bypassDelayExpiry : Words.Statement (.bypassDelayExpiry) := fun _ _ h => Option.some_ne_none _ h.symm

theorem Words.bypassInsert (via : Path) : Words.Statement (.bypassInsert via) := fun _ _ h => Option.some_ne_none _ h.symm

theorem Words.bypassDrop (via : Path) : Words.Statement (.bypassDrop via) := fun _ _ h => Option.some_ne_none _ h.symm

theorem Words.bypassPwrfailDrop : Words.Statement (.bypassPwrfailDrop) := fun _ _ h => Option.some_ne_none _ h.symm

theorem Words.bypassNotice (p : Port) : Words.Statement (.bypassNotice p) := fun _ _ h => Option.some_ne_none _ h.symm

theorem Words.linkCntClr (via : Path) : Words.Statement (.linkCntClr via) := fun _ _ h => Option.some_ne_none _ h.symm

theorem Words.linkCntFreeze (via : Path) (on : Bool) : Words.Statement (.linkCntFreeze via on) := fun _ _ h => Option.some_ne_none _ h.symm

theorem Words.heatLaunch : Words.Statement (.heatLaunch) := fun _ _ h => Option.some_ne_none _ h.symm

theorem Words.outPubSample : Words.Statement (.outPubSample) := fun _ _ h => Option.some_ne_none _ h.symm

theorem Words.heatReceive (p : Port) (f : LineFrame) : Words.Statement (.heatReceive p f) := fun _ _ h => Option.some_ne_none _ h.symm

theorem Words.heatReturn (p : Port) (f : LineFrame) : Words.Statement (.heatReturn p f) := fun _ _ h => Option.some_ne_none _ h.symm

theorem Words.pingOutcome (pos : Nat) : Words.Statement (.pingOutcome pos) := fun _ _ h => Option.some_ne_none _ h.symm

theorem Words.inReadyDeadline : Words.Statement (.inReadyDeadline) := fun _ _ h => Option.some_ne_none _ h.symm

theorem Words.batonSend : Words.Statement (.batonSend) := fun _ _ h => Option.some_ne_none _ h.symm

theorem Words.batonReceive (p : Port) (f : LineFrame) : Words.Statement (.batonReceive p f) := fun _ _ h => Option.some_ne_none _ h.symm

theorem Words.batonReturn (p : Port) (f : LineFrame) : Words.Statement (.batonReturn p f) := fun _ _ h => Option.some_ne_none _ h.symm

theorem Words.txnExpiry (bcast anchor : Bool) (tag : Nat) :
    Words.Statement (.txnExpiry bcast anchor tag) := fun _ _ h => Option.some_ne_none _ h.symm

theorem Words.expiredDiscard (anchor : Bool) (tag : Nat) :
    Words.Statement (.expiredDiscard anchor tag) := fun _ _ h => Option.some_ne_none _ h.symm

theorem Words.doneEntryLapse (anchor : Bool) (tag : Nat) :
    Words.Statement (.doneEntryLapse anchor tag) := fun _ _ h => Option.some_ne_none _ h.symm

theorem Words.bcastDrop (anchor : Bool) (tag : Nat) : Words.Statement (.bcastDrop anchor tag) := fun _ _ h => Option.some_ne_none _ h.symm

theorem Words.txnRetry (dest tag : Nat) : Words.Statement (.txnRetry dest tag) := fun _ _ h => Option.some_ne_none _ h.symm

theorem Words.txnLost (dest tag : Nat) : Words.Statement (.txnLost dest tag) := fun _ _ h => Option.some_ne_none _ h.symm

theorem Words.cryptoOpDone : Words.Statement (.cryptoOpDone) := fun _ _ h => Option.some_ne_none _ h.symm

theorem Words.floorWriteDone (ok : Bool) : Words.Statement (.floorWriteDone ok) := fun _ _ h => Option.some_ne_none _ h.symm

theorem Words.ping (bcast anchor : Bool) (tag : Nat) : Words.Statement (.ping bcast anchor tag) := fun _ _ h => Option.some_ne_none _ h.symm

theorem Words.regRead (bcast anchor : Bool) (tag : Nat) :
    Words.Statement (.regRead bcast anchor tag) := fun _ _ h => Option.some_ne_none _ h.symm

theorem Words.regWrite (bcast anchor : Bool) (tag : Nat) :
    Words.Statement (.regWrite bcast anchor tag) := fun _ _ h => Option.some_ne_none _ h.symm

theorem Words.tblRead (bcast anchor : Bool) (tag : Nat) :
    Words.Statement (.tblRead bcast anchor tag) := fun _ _ h => Option.some_ne_none _ h.symm

theorem Words.tblWrite (bcast anchor : Bool) (tag : Nat) :
    Words.Statement (.tblWrite bcast anchor tag) := fun _ _ h => Option.some_ne_none _ h.symm

theorem Words.cfgOwnQuery (bcast anchor : Bool) (tag : Nat) :
    Words.Statement (.cfgOwnQuery bcast anchor tag) := fun _ _ h => Option.some_ne_none _ h.symm

theorem Words.flashRead (src : Source) : Words.Statement (.flashRead src) := fun _ _ h => Option.some_ne_none _ h.symm

theorem Words.traceRead (bcast anchor : Bool) (tag : Nat) :
    Words.Statement (.traceRead bcast anchor tag) := fun _ _ h => Option.some_ne_none _ h.symm

theorem Words.cspXfer (src : Source) : Words.Statement (.cspXfer src) := fun _ _ h => Option.some_ne_none _ h.symm

theorem Words.adcCapt (src : Source) : Words.Statement (.adcCapt src) := fun _ _ h => Option.some_ne_none _ h.symm

theorem Words.captRead (bcast anchor : Bool) (tag : Nat) :
    Words.Statement (.captRead bcast anchor tag) := fun _ _ h => Option.some_ne_none _ h.symm

theorem Words.relayCtrlMap (bcast anchor : Bool) (tag : Nat) :
    Words.Statement (.relayCtrlMap bcast anchor tag) := fun _ _ h => Option.some_ne_none _ h.symm

theorem Words.relayCtrlStatus (bcast anchor : Bool) (tag : Nat) :
    Words.Statement (.relayCtrlStatus bcast anchor tag) := fun _ _ h => Option.some_ne_none _ h.symm

theorem Words.ownerLockSet (bcast anchor : Bool) (tag : Nat) :
    Words.Statement (.ownerLockSet bcast anchor tag) := fun _ _ h => Option.some_ne_none _ h.symm

theorem Words.ownerLockClear (bcast anchor : Bool) (tag : Nat) :
    Words.Statement (.ownerLockClear bcast anchor tag) := fun _ _ h => Option.some_ne_none _ h.symm

theorem Words.posBind (bcast anchor : Bool) (tag : Nat) :
    Words.Statement (.posBind bcast anchor tag) := fun _ _ h => Option.some_ne_none _ h.symm

theorem Words.posUnbind (bcast anchor : Bool) (tag : Nat) :
    Words.Statement (.posUnbind bcast anchor tag) := fun _ _ h => Option.some_ne_none _ h.symm

theorem Words.injEnable (bcast anchor : Bool) (tag : Nat) :
    Words.Statement (.injEnable bcast anchor tag) := fun _ _ h => Option.some_ne_none _ h.symm

theorem Words.rekey (bcast anchor : Bool) (tag : Nat) :
    Words.Statement (.rekey bcast anchor tag) := fun _ _ h => Option.some_ne_none _ h.symm

theorem Words.lineStart (via : Path) (d : Descriptor) : Words.Statement (.lineStart via d) := fun _ _ h => Option.some_ne_none _ h.symm

theorem Words.lineStartSettle : Words.Statement (.lineStartSettle) := fun _ _ h => Option.some_ne_none _ h.symm

theorem Words.lineStop (via : Path) (d : Descriptor) : Words.Statement (.lineStop via d) := fun _ _ h => Option.some_ne_none _ h.symm

theorem Words.enum (via : Path) (d : Descriptor) : Words.Statement (.enum via d) := fun _ _ h => Option.some_ne_none _ h.symm

theorem Words.countReceive (p : Port) (f : LineFrame) : Words.Statement (.countReceive p f) := fun _ _ h => Option.some_ne_none _ h.symm

theorem Words.countReturn (p : Port) (f : LineFrame) : Words.Statement (.countReturn p f) := fun _ _ h => Option.some_ne_none _ h.symm

theorem Words.lineTxn (via : Path) (d : Descriptor) : Words.Statement (.lineTxn via d) := fun _ _ h => Option.some_ne_none _ h.symm

theorem Words.gunSchedule (via : Path) (d : Descriptor) : Words.Statement (.gunSchedule via d) := fun _ _ h => Option.some_ne_none _ h.symm

theorem Words.gunCutoff : Words.Statement (.gunCutoff) := fun _ _ h => Option.some_ne_none _ h.symm

theorem Words.gunClosingSweep : Words.Statement (.gunClosingSweep) := fun _ _ h => Option.some_ne_none _ h.symm

theorem Words.relayPull (via : Path) (d : Descriptor) : Words.Statement (.relayPull via d) := fun _ _ h => Option.some_ne_none _ h.symm

theorem Words.takeoverStart : Words.Statement (.takeoverStart) := fun _ _ h => Option.some_ne_none _ h.symm

theorem Words.takeoverEnd (via : Path) (d : Descriptor) : Words.Statement (.takeoverEnd via d) := fun _ _ h => Option.some_ne_none _ h.symm

theorem Words.takeoverAutoEnd : Words.Statement (.takeoverAutoEnd) := fun _ _ h => Option.some_ne_none _ h.symm

theorem Words.nop (via : Path) (d : Descriptor) : Words.Statement (.nop via d) := fun _ _ h => Option.some_ne_none _ h.symm

theorem Words.busDecodeError (read : Bool) (addr : Nat) :
    Words.Statement (.busDecodeError read addr) := fun _ _ h => Option.some_ne_none _ h.symm

theorem Words.hostStrobeEarly (a : HostAccess) (captured : Bool) :
    Words.Statement (.hostStrobeEarly a captured) := fun _ _ h => Option.some_ne_none _ h.symm

theorem Words.apertureWrite (ofs : Nat) (w : Word) (upper lower : Bool) :
    Words.Statement (.apertureWrite ofs w upper lower) := fun _ _ h => Option.some_ne_none _ h.symm

theorem Words.apertureRead (ofs : Nat) (upper lower : Bool) :
    Words.Statement (.apertureRead ofs upper lower) := fun _ _ h => Option.some_ne_none _ h.symm

theorem Words.xipRead (ofs : Nat) : Words.Statement (.xipRead ofs) := fun _ _ h => Option.some_ne_none _ h.symm

theorem Words.xipTimeout (read : List Byte) : Words.Statement (.xipTimeout read) := fun _ _ h => Option.some_ne_none _ h.symm

theorem Words.xipEnable (via : Path) (en : Bool) (sel base : Nat) :
    Words.Statement (.xipEnable via en sel base) := fun _ _ h => Option.some_ne_none _ h.symm

theorem Words.xipFlush (via : Path) : Words.Statement (.xipFlush via) := fun _ _ h => Option.some_ne_none _ h.symm

theorem Words.keyseqWrite (via : Path) (w : Word) : Words.Statement (.keyseqWrite via w) := fun _ _ h => Option.some_ne_none _ h.symm

theorem Words.keyLapse (via : Path) : Words.Statement (.keyLapse via) := fun _ _ h => Option.some_ne_none _ h.symm

theorem Words.cmdqAsmClr (via : Path) : Words.Statement (.cmdqAsmClr via) := fun _ _ h => Option.some_ne_none _ h.symm

theorem Words.cplqDataRead (via : Path) : Words.Statement (.cplqDataRead via) := fun _ _ h => Option.some_ne_none _ h.symm

theorem Words.registerWrite (via : Path) (addr : Nat) (w : Word) (both : Bool) :
    Words.Statement (.registerWrite via addr w both) := fun _ _ h => Option.some_ne_none _ h.symm

theorem Words.evqDataRead (via : Path) : Words.Statement (.evqDataRead via) := fun _ _ h => Option.some_ne_none _ h.symm

theorem Words.evqHoldLapse : Words.Statement (.evqHoldLapse) := fun _ _ h => Option.some_ne_none _ h.symm

theorem Words.chinRead (via : Path) : Words.Statement (.chinRead via) := fun _ _ h => Option.some_ne_none _ h.symm

theorem Words.cfgDataRead (via : Path) : Words.Statement (.cfgDataRead via) := fun _ _ h => Option.some_ne_none _ h.symm

theorem Words.cfgDataWrite (via : Path) (w : Word) : Words.Statement (.cfgDataWrite via w) := fun _ _ h => Option.some_ne_none _ h.symm

theorem Words.claim (via : Path) : Words.Statement (.claim via) := fun _ _ h => Option.some_ne_none _ h.symm

theorem Words.release (via : Path) : Words.Statement (.release via) := fun _ _ h => Option.some_ne_none _ h.symm

theorem Words.claimLapse : Words.Statement (.claimLapse) := fun _ _ h => Option.some_ne_none _ h.symm

theorem Words.validate (via : Path) : Words.Statement (.validate via) := fun _ _ h => Option.some_ne_none _ h.symm

theorem Words.validateDone : Words.Statement (.validateDone) := fun _ _ h => Option.some_ne_none _ h.symm

theorem Words.copy (via : Path) : Words.Statement (.copy via) := fun _ _ h => Option.some_ne_none _ h.symm

theorem Words.copyDone : Words.Statement (.copyDone) := fun _ _ h => Option.some_ne_none _ h.symm

theorem Words.swapNow (via : Path) : Words.Statement (.swapNow via) := fun _ _ h => Option.some_ne_none _ h.symm

theorem Words.swapCycle (via : Path) : Words.Statement (.swapCycle via) := fun _ _ h => Option.some_ne_none _ h.symm

theorem Words.swapGun (via : Path) : Words.Statement (.swapGun via) := fun _ _ h => Option.some_ne_none _ h.symm

theorem Words.cancel (via : Path) : Words.Statement (.cancel via) := fun _ _ h => Option.some_ne_none _ h.symm

theorem Words.commit (via : Path) : Words.Statement (.commit via) := fun _ _ h => Option.some_ne_none _ h.symm

theorem Words.commitDone (ok : Bool) : Words.Statement (.commitDone ok) := fun _ _ h => Option.some_ne_none _ h.symm

theorem Words.autoCommitStart : Words.Statement (.autoCommitStart) := fun _ _ h => Option.some_ne_none _ h.symm

theorem Words.cfgCtrlMulti (via : Path) (w : Word) : Words.Statement (.cfgCtrlMulti via w) := fun _ _ h => Option.some_ne_none _ h.symm

theorem Words.swapInstant : Words.Statement (.swapInstant) := fun _ _ h => Option.some_ne_none _ h.symm

theorem Words.goSetup (via : Via) : Words.Statement (.goSetup via) := fun _ _ h => Option.some_ne_none _ h.symm

theorem Words.goRun (via : Via) : Words.Statement (.goRun via) := fun _ _ h => Option.some_ne_none _ h.symm

theorem Words.goSafe (via : Via) : Words.Statement (.goSafe via) := fun _ _ h => Option.some_ne_none _ h.symm

theorem Words.resume (via : Via) : Words.Statement (.resume via) := fun _ _ h => Option.some_ne_none _ h.symm

theorem Words.goMinimal (via : Via) : Words.Statement (.goMinimal via) := fun _ _ h => Option.some_ne_none _ h.symm

theorem Words.reboot (via : Via) : Words.Statement (.reboot via) := fun _ _ h => Option.some_ne_none _ h.symm

theorem Words.rest (via : Via) : Words.Statement (.rest via) := fun _ _ h => Option.some_ne_none _ h.symm

theorem Words.restEntry : Words.Statement (.restEntry) := fun _ _ h => Option.some_ne_none _ h.symm

theorem Words.wake (via : Via) : Words.Statement (.wake via) := fun _ _ h => Option.some_ne_none _ h.symm

theorem Words.holdSenseSample (mv age : Nat) : Words.Statement (.holdSenseSample mv age) := fun _ _ h => Option.some_ne_none _ h.symm

theorem Words.pwrfailAssert : Words.Statement (.pwrfailAssert) := fun _ _ h => Option.some_ne_none _ h.symm

theorem Words.pwrfailRelease : Words.Statement (.pwrfailRelease) := fun _ _ h => Option.some_ne_none _ h.symm

theorem Words.safecmdEnter (via : Path) : Words.Statement (.safecmdEnter via) := fun _ _ h => Option.some_ne_none _ h.symm

theorem Words.ackAll (via : Path) : Words.Statement (.ackAll via) := fun _ _ h => Option.some_ne_none _ h.symm

theorem Words.chfltAck (via : Path) (w : Word) : Words.Statement (.chfltAck via w) := fun _ _ h => Option.some_ne_none _ h.symm

theorem Words.safeReqAssert : Words.Statement (.safeReqAssert) := fun _ _ h => Option.some_ne_none _ h.symm

theorem Words.safeReqRelease : Words.Statement (.safeReqRelease) := fun _ _ h => Option.some_ne_none _ h.symm

theorem Words.barrierLoss : Words.Statement (.barrierLoss) := fun _ _ h => Option.some_ne_none _ h.symm

theorem Words.barrierReturn : Words.Statement (.barrierReturn) := fun _ _ h => Option.some_ne_none _ h.symm

theorem Words.lpOff (mv : Nat) : Words.Statement (.lpOff mv) := fun _ _ h => Option.some_ne_none _ h.symm

theorem Words.lpOvervoltage (mv : Nat) : Words.Statement (.lpOvervoltage mv) := fun _ _ h => Option.some_ne_none _ h.symm

theorem Words.lpReversed : Words.Statement (.lpReversed) := fun _ _ h => Option.some_ne_none _ h.symm

theorem Words.lpBack (mv : Nat) : Words.Statement (.lpBack mv) := fun _ _ h => Option.some_ne_none _ h.symm

theorem Words.lsFault (mv : Nat) : Words.Statement (.lsFault mv) := fun _ _ h => Option.some_ne_none _ h.symm

theorem Words.lsOk (mv : Nat) : Words.Statement (.lsOk mv) := fun _ _ h => Option.some_ne_none _ h.symm

theorem Words.lsBrownout (mv : Nat) : Words.Statement (.lsBrownout mv) := fun _ _ h => Option.some_ne_none _ h.symm

theorem Words.dieOvertemp (temp : Int) : Words.Statement (.dieOvertemp temp) := fun _ _ h => Option.some_ne_none _ h.symm

theorem Words.dieCool (temp : Int) : Words.Statement (.dieCool temp) := fun _ _ h => Option.some_ne_none _ h.symm

theorem Words.channelFaultDetect (n code : Nat) : Words.Statement (.channelFaultDetect n code) := fun _ _ h => Option.some_ne_none _ h.symm

theorem Words.channelFaultClear (n code : Nat) : Words.Statement (.channelFaultClear n code) := fun _ _ h => Option.some_ne_none _ h.symm

theorem Words.faultRetry (n : Nat) : Words.Statement (.faultRetry n) := fun _ _ h => Option.some_ne_none _ h.symm

theorem Words.retryCountReset (n : Nat) : Words.Statement (.retryCountReset n) := fun _ _ h => Option.some_ne_none _ h.symm

theorem Words.inputEdge (n : Nat) (level both : Bool) (t : Nat) :
    Words.Statement (.inputEdge n level both t) := fun _ _ h => Option.some_ne_none _ h.symm

theorem Words.pwmPeriodStart (n : Nat) : Words.Statement (.pwmPeriodStart n) := fun _ _ h => Option.some_ne_none _ h.symm

theorem Words.slLoad (via : Path) : Words.Statement (.slLoad via) := fun _ _ h => Option.some_ne_none _ h.symm

theorem Words.slCancel (via : Path) : Words.Statement (.slCancel via) := fun _ _ h => Option.some_ne_none _ h.symm

theorem Words.slRead (via : Path) : Words.Statement (.slRead via) := fun _ _ h => Option.some_ne_none _ h.symm

theorem Words.slIssue (n slot : Nat) : Words.Statement (.slIssue n slot) := fun _ _ h => Option.some_ne_none _ h.symm

theorem Words.slGate (n slot : Nat) : Words.Statement (.slGate n slot) := fun _ _ h => Option.some_ne_none _ h.symm

theorem Words.pfSelWrite (via : Path) (w : Word) : Words.Statement (.pfSelWrite via w) := fun _ _ h => Option.some_ne_none _ h.symm

theorem Words.choutWrite (via : Path) (w : Word) : Words.Statement (.choutWrite via w) := fun _ _ h => Option.some_ne_none _ h.symm

theorem Words.forceSet (via : Path) (n : Nat) (level : Bool) :
    Words.Statement (.forceSet via n level) := fun _ _ h => Option.some_ne_none _ h.symm

theorem Words.forceRemove (via : Path) (n : Nat) : Words.Statement (.forceRemove via n) := fun _ _ h => Option.some_ne_none _ h.symm

theorem Words.forceClearAll (via : Path) : Words.Statement (.forceClearAll via) := fun _ _ h => Option.some_ne_none _ h.symm

theorem Words.modeOffEnd (n : Nat) : Words.Statement (.modeOffEnd n) := fun _ _ h => Option.some_ne_none _ h.symm

theorem Words.regStart (via : Path) : Words.Statement (.regStart via) := fun _ _ h => Option.some_ne_none _ h.symm

theorem Words.regStop (via : Path) : Words.Statement (.regStop via) := fun _ _ h => Option.some_ne_none _ h.symm

theorem Words.injTrig (via : Path) : Words.Statement (.injTrig via) := fun _ _ h => Option.some_ne_none _ h.symm

theorem Words.injTimeTrigger : Words.Statement (.injTimeTrigger) := fun _ _ h => Option.some_ne_none _ h.symm

theorem Words.calZero (via : Path) (e : Nat) : Words.Statement (.calZero via e) := fun _ _ h => Option.some_ne_none _ h.symm

theorem Words.calFull (via : Path) (e : Nat) : Words.Statement (.calFull via e) := fun _ _ h => Option.some_ne_none _ h.symm

theorem Words.calAbort (via : Path) (e : Nat) : Words.Statement (.calAbort via e) := fun _ _ h => Option.some_ne_none _ h.symm

theorem Words.calStepDone : Words.Statement (.calStepDone) := fun _ _ h => Option.some_ne_none _ h.symm

theorem Words.calTimeout : Words.Statement (.calTimeout) := fun _ _ h => Option.some_ne_none _ h.symm

theorem Words.fifoClr (via : Path) : Words.Statement (.fifoClr via) := fun _ _ h => Option.some_ne_none _ h.symm

theorem Words.dacTest (via : Path) : Words.Statement (.dacTest via) := fun _ _ h => Option.some_ne_none _ h.symm

theorem Words.dacTestDone : Words.Statement (.dacTestDone) := fun _ _ h => Option.some_ne_none _ h.symm

theorem Words.roundStart : Words.Statement (.roundStart) := fun _ _ h => Option.some_ne_none _ h.symm

theorem Words.conversionEnd (convB : Bool) (x : Int) (t : Nat) :
    Words.Statement (.conversionEnd convB x t) := fun _ _ h => Option.some_ne_none _ h.symm

theorem Words.captureDone : Words.Statement (.captureDone) := fun _ _ h => Option.some_ne_none _ h.symm

theorem Words.aoReadbackSample (n : Nat) (code : Word) :
    Words.Statement (.aoReadbackSample n code) := fun _ _ h => Option.some_ne_none _ h.symm

theorem Words.adcFifoRead (via : Path) : Words.Statement (.adcFifoRead via) := fun _ _ h => Option.some_ne_none _ h.symm

theorem Words.cspTransferEnd (read : List Byte) : Words.Statement (.cspTransferEnd read) := fun _ _ h => Option.some_ne_none _ h.symm

theorem Words.readyTimeout (sent : Nat) (read : List Byte) : Words.Statement (.readyTimeout sent read) := fun _ _ h => Option.some_ne_none _ h.symm

theorem Words.dqsTimeout (read : List Byte) : Words.Statement (.dqsTimeout read) := fun _ _ h => Option.some_ne_none _ h.symm

theorem Words.cmAbort (via : Path) : Words.Statement (.cmAbort via) := fun _ _ h => Option.some_ne_none _ h.symm

theorem Words.prefetchStart : Words.Statement (.prefetchStart) := fun _ _ h => Option.some_ne_none _ h.symm

theorem Words.erasePoll : Words.Statement (.erasePoll) := fun _ _ h => Option.some_ne_none _ h.symm

theorem Words.eraseTrackLimit : Words.Statement (.eraseTrackLimit) := fun _ _ h => Option.some_ne_none _ h.symm

theorem Words.slaveRead (bytes : List Byte) : Words.Statement (.slaveRead bytes) := fun _ _ h => Option.some_ne_none _ h.symm

theorem Words.slaveWrite (bytes : List Byte) : Words.Statement (.slaveWrite bytes) := fun _ _ h => Option.some_ne_none _ h.symm

theorem Words.slaveNop (bytes : List Byte) : Words.Statement (.slaveNop bytes) := fun _ _ h => Option.some_ne_none _ h.symm

theorem Words.slaveFrameIgnored (bytes : List Byte) :
    Words.Statement (.slaveFrameIgnored bytes) := fun _ _ h => Option.some_ne_none _ h.symm

theorem Words.slaveFrameAbort (bytes : List Byte) (midByte : Bool) :
    Words.Statement (.slaveFrameAbort bytes midByte) := fun _ _ h => Option.some_ne_none _ h.symm

theorem Words.spEnable (via : Path) (on : Bool) : Words.Statement (.spEnable via on) := fun _ _ h => Option.some_ne_none _ h.symm

theorem Words.panelFrame : Words.Statement (.panelFrame) := fun _ _ h => Option.some_ne_none _ h.symm

theorem Words.keyPress (k : Nat) (first : Bool) : Words.Statement (.keyPress k first) := fun _ _ h => Option.some_ne_none _ h.symm

theorem Words.keyRelease (k : Nat) : Words.Statement (.keyRelease k) := fun _ _ h => Option.some_ne_none _ h.symm

theorem Words.keyRepeat : Words.Statement (.keyRepeat) := fun _ _ h => Option.some_ne_none _ h.symm

theorem Words.encTransition (e : Nat) (a b : Bool) : Words.Statement (.encTransition e a b) := fun _ _ h => Option.some_ne_none _ h.symm

theorem Words.menuRefresh : Words.Statement (.menuRefresh) := fun _ _ h => Option.some_ne_none _ h.symm

theorem Words.menuIdle : Words.Statement (.menuIdle) := fun _ _ h => Option.some_ne_none _ h.symm

theorem Words.jogTimeout : Words.Statement (.jogTimeout) := fun _ _ h => Option.some_ne_none _ h.symm

theorem Words.chordComplete : Words.Statement (.chordComplete) := fun _ _ h => Option.some_ne_none _ h.symm

theorem Words.panelEvtRead (via : Path) : Words.Statement (.panelEvtRead via) := fun _ _ h => Option.some_ne_none _ h.symm

theorem Words.panelHostChange (via : Path) (host : Bool) :
    Words.Statement (.panelHostChange via host) := fun _ _ h => Option.some_ne_none _ h.symm

theorem Words.panelClr (via : Path) : Words.Statement (.panelClr via) := fun _ _ h => Option.some_ne_none _ h.symm

theorem Words.wdhAnswer (via : Path) (w : Word) : Words.Statement (.wdhAnswer via w) := fun _ _ h => Option.some_ne_none _ h.symm

theorem Words.wdhWindowOpen : Words.Statement (.wdhWindowOpen) := fun _ _ h => Option.some_ne_none _ h.symm

theorem Words.wdhPeriodEnd : Words.Statement (.wdhPeriodEnd) := fun _ _ h => Option.some_ne_none _ h.symm

theorem Words.wdcAnswer (w : Word) : Words.Statement (.wdcAnswer w) := fun _ _ h => Option.some_ne_none _ h.symm

theorem Words.wdcPeriodEnd : Words.Statement (.wdcPeriodEnd) := fun _ _ h => Option.some_ne_none _ h.symm

theorem Words.wdcCoreReset : Words.Statement (.wdcCoreReset) := fun _ _ h => Option.some_ne_none _ h.symm

theorem Words.freezeLimit (core : Bool) : Words.Statement (.freezeLimit core) := fun _ _ h => Option.some_ne_none _ h.symm

theorem Words.mediaInsert : Words.Statement (.mediaInsert) := fun _ _ h => Option.some_ne_none _ h.symm

theorem Words.mediaIdentify (found : MediaFound) : Words.Statement (.mediaIdentify found) := fun _ _ h => Option.some_ne_none _ h.symm

theorem Words.mediaRemove : Words.Statement (.mediaRemove) := fun _ _ h => Option.some_ne_none _ h.symm

theorem Words.mediaSectorRead (ok : Bool) (bytes : List Byte) :
    Words.Statement (.mediaSectorRead ok bytes) := fun _ _ h => Option.some_ne_none _ h.symm

theorem Words.mediaAbsenceTimeout : Words.Statement (.mediaAbsenceTimeout) := fun _ _ h => Option.some_ne_none _ h.symm

theorem Words.start (via : Via) : Words.Statement (.start via) := fun _ _ h => Option.some_ne_none _ h.symm

theorem Words.abort (via : Via) : Words.Statement (.abort via) := fun _ _ h => Option.some_ne_none _ h.symm

theorem Words.prepare (via : Via) : Words.Statement (.prepare via) := fun _ _ h => Option.some_ne_none _ h.symm

theorem Words.preparePartDone : Words.Statement (.preparePartDone) := fun _ _ h => Option.some_ne_none _ h.symm

theorem Words.activate (via : Via) : Words.Statement (.activate via) := fun _ _ h => Option.some_ne_none _ h.symm

theorem Words.activateStart : Words.Statement (.activateStart) := fun _ _ h => Option.some_ne_none _ h.symm

theorem Words.actPauseEnd : Words.Statement (.actPauseEnd) := fun _ _ h => Option.some_ne_none _ h.symm

theorem Words.veto (via : Via) : Words.Statement (.veto via) := fun _ _ h => Option.some_ne_none _ h.symm

theorem Words.relayJoin (via : Via) : Words.Statement (.relayJoin via) := fun _ _ h => Option.some_ne_none _ h.symm

theorem Words.stagingSectorDone (ok : Bool) : Words.Statement (.stagingSectorDone ok) := fun _ _ h => Option.some_ne_none _ h.symm

theorem Words.relaySend : Words.Statement (.relaySend) := fun _ _ h => Option.some_ne_none _ h.symm

theorem Words.relayReceive (p : Port) (f : LineFrame) : Words.Statement (.relayReceive p f) := fun _ _ h => Option.some_ne_none _ h.symm

theorem Words.distributeWaitEnd : Words.Statement (.distributeWaitEnd) := fun _ _ h => Option.some_ne_none _ h.symm

theorem Words.confirmWrite : Words.Statement (.confirmWrite) := fun _ _ h => Option.some_ne_none _ h.symm

theorem Words.confirmDeadline : Words.Statement (.confirmDeadline) := fun _ _ h => Option.some_ne_none _ h.symm

theorem Words.otpOwner (data : BitVec 288) : Words.Statement (.otpOwner data) := fun _ _ h => Option.some_ne_none _ h.symm

theorem Words.otpProgramDone : Words.Statement (.otpProgramDone) := fun _ _ h => Option.some_ne_none _ h.symm

theorem Words.extest (levels shifted : BitVec 182) : Words.Statement (.extest levels shifted) := fun _ _ h => Option.some_ne_none _ h.symm

theorem Words.samplePreload (levels shifted : BitVec 182) :
    Words.Statement (.samplePreload levels shifted) := fun _ _ h => Option.some_ne_none _ h.symm

theorem Words.highz : Words.Statement (.highz) := fun _ _ h => Option.some_ne_none _ h.symm

theorem Words.clamp : Words.Statement (.clamp) := fun _ _ h => Option.some_ne_none _ h.symm

theorem Words.bypass : Words.Statement (.bypass) := fun _ _ h => Option.some_ne_none _ h.symm

theorem Words.tapReset : Words.Statement (.tapReset) := fun _ _ h => Option.some_ne_none _ h.symm

theorem Words.injEnableExpiry : Words.Statement (.injEnableExpiry) := fun _ _ h => Option.some_ne_none _ h.symm

theorem Words.flashEraseEnd (t : Nat) : Words.Statement (.flashEraseEnd t) := fun _ _ h => Option.some_ne_none _ h.symm

theorem Words.flashEraseAbort : Words.Statement (.flashEraseAbort) := fun _ _ h => Option.some_ne_none _ h.symm

theorem Words.eraseCutoff : Words.Statement (.eraseCutoff) := fun _ _ h => Option.some_ne_none _ h.symm

theorem Words.eraseResume : Words.Statement (.eraseResume) := fun _ _ h => Option.some_ne_none _ h.symm

theorem Words.flashProgramDone (outcome : Nat) : Words.Statement (.flashProgramDone outcome) := fun _ _ h => Option.some_ne_none _ h.symm

theorem Words.healthInterval : Words.Statement (.healthInterval) := fun _ _ h => Option.some_ne_none _ h.symm

theorem Words.pllHeadroomSample (pct : Nat) : Words.Statement (.pllHeadroomSample pct) := fun _ _ h => Option.some_ne_none _ h.symm

theorem Words.holdReplExpiry : Words.Statement (.holdReplExpiry) := fun _ _ h => Option.some_ne_none _ h.symm

theorem Words.summaryPage : Words.Statement (.summaryPage) := fun _ _ h => Option.some_ne_none _ h.symm

theorem Words.replClr (via : Path) (w : Word) : Words.Statement (.replClr via w) := fun _ _ h => Option.some_ne_none _ h.symm

theorem Words.traceDataRead (via : Path) : Words.Statement (.traceDataRead via) := fun _ _ h => Option.some_ne_none _ h.symm

theorem Words.traceFreeze (via : Path) : Words.Statement (.traceFreeze via) := fun _ _ h => Option.some_ne_none _ h.symm

theorem Words.traceUnfreeze (via : Path) : Words.Statement (.traceUnfreeze via) := fun _ _ h => Option.some_ne_none _ h.symm

theorem Words.traceRdOldest (via : Path) : Words.Statement (.traceRdOldest via) := fun _ _ h => Option.some_ne_none _ h.symm

theorem Words.traceRdNewest (via : Path) : Words.Statement (.traceRdNewest via) := fun _ _ h => Option.some_ne_none _ h.symm

theorem Words.persist (via : Path) : Words.Statement (.persist via) := fun _ _ h => Option.some_ne_none _ h.symm

theorem Words.persistDone : Words.Statement (.persistDone) := fun _ _ h => Option.some_ne_none _ h.symm

theorem Words.injArm (via : Path) (target action : Nat) (once : Bool) :
    Words.Statement (.injArm via target action once) := fun _ _ h => Option.some_ne_none _ h.symm

theorem Words.injDisarm (via : Path) : Words.Statement (.injDisarm via) := fun _ _ h => Option.some_ne_none _ h.symm

theorem Words.injTimeout : Words.Statement (.injTimeout) := fun _ _ h => Option.some_ne_none _ h.symm

theorem Words.injReorderDrop : Words.Statement (.injReorderDrop) := fun _ _ h => Option.some_ne_none _ h.symm

theorem Words.junctionCooled (n : Nat) : Words.Statement (.junctionCooled n) := fun _ _ h => Option.some_ne_none _ h.symm

theorem Words.reverseFeedEnd (n : Nat) : Words.Statement (.reverseFeedEnd n) := fun _ _ h => Option.some_ne_none _ h.symm

theorem Words.holdWarnExpiry : Words.Statement (.holdWarnExpiry) := fun _ _ h => Option.some_ne_none _ h.symm

theorem Words.roleConflict : Words.Statement (.roleConflict) := fun _ _ h => Option.some_ne_none _ h.symm

theorem Words.longBurstStart : Words.Statement (.longBurstStart) := fun _ _ h => Option.some_ne_none _ h.symm

end Sys2Proof.Laws
end

