-- ==== Sys2Proof/Laws/State.lean ====
section
/-! SUPPORT. State: what each update of the state writes and leaves, one lemma per field. -/

namespace Sys2Proof.Machine

open Sys2Proof

@[simp] theorem State.store_pending (s : State) (a : Nat) (l : List Byte) : (s.store a l).pending = s.pending := rfl

@[simp] theorem State.store_free (s : State) (a : Nat) (l : List Byte) : (s.store a l).free = s.free := rfl

@[simp] theorem State.store_time (s : State) (a : Nat) (l : List Byte) : (s.store a l).time = s.time := rfl

@[simp] theorem State.store_cyc (s : State) (a : Nat) (l : List Byte) : (s.store a l).cyc = s.cyc := rfl

@[simp] theorem State.store_evq (s : State) (a : Nat) (l : List Byte) : (s.store a l).evq = s.evq := rfl

@[simp] theorem State.store_trace (s : State) (a : Nat) (l : List Byte) : (s.store a l).trace = s.trace := rfl

@[simp] theorem State.store_bus (s : State) (a : Nat) (l : List Byte) : (s.store a l).bus = s.bus := rfl

@[simp] theorem State.store_cfg (s : State) (a : Nat) (l : List Byte) : (s.store a l).cfg = s.cfg := rfl

@[simp] theorem State.store_mode (s : State) (a : Nat) (l : List Byte) : (s.store a l).mode = s.mode := rfl

@[simp] theorem State.store_safe (s : State) (a : Nat) (l : List Byte) : (s.store a l).safe = s.safe := rfl

@[simp] theorem State.store_supply (s : State) (a : Nat) (l : List Byte) : (s.store a l).supply = s.supply := rfl

@[simp] theorem State.store_field (s : State) (a : Nat) (l : List Byte) : (s.store a l).field = s.field := rfl

@[simp] theorem State.store_health (s : State) (a : Nat) (l : List Byte) : (s.store a l).health = s.health := rfl

@[simp] theorem State.store_inj (s : State) (a : Nat) (l : List Byte) : (s.store a l).inj = s.inj := rfl

@[simp] theorem State.store_adc (s : State) (a : Nat) (l : List Byte) : (s.store a l).adc = s.adc := rfl

@[simp] theorem State.store_panel (s : State) (a : Nat) (l : List Byte) : (s.store a l).panel = s.panel := rfl

@[simp] theorem State.store_wdog (s : State) (a : Nat) (l : List Byte) : (s.store a l).wdog = s.wdog := rfl

@[simp] theorem State.store_link (s : State) (a : Nat) (l : List Byte) : (s.store a l).link = s.link := rfl

@[simp] theorem State.store_txn (s : State) (a : Nat) (l : List Byte) : (s.store a l).txn = s.txn := rfl

@[simp] theorem State.store_sta (s : State) (a : Nat) (l : List Byte) : (s.store a l).sta = s.sta := rfl

@[simp] theorem State.store_sec (s : State) (a : Nat) (l : List Byte) : (s.store a l).sec = s.sec := rfl

@[simp] theorem State.store_ser (s : State) (a : Nat) (l : List Byte) : (s.store a l).ser = s.ser := rfl

@[simp] theorem State.store_media (s : State) (a : Nat) (l : List Byte) : (s.store a l).media = s.media := rfl

@[simp] theorem State.store_upd (s : State) (a : Nat) (l : List Byte) : (s.store a l).upd = s.upd := rfl

@[simp] theorem State.store_flash (s : State) (a : Nat) (l : List Byte) : (s.store a l).flash = s.flash := rfl

@[simp] theorem State.store_tap (s : State) (a : Nat) (l : List Byte) : (s.store a l).tap = s.tap := rfl

@[simp] theorem State.reach_pending (s : State) (t : Nat) : (s.reach t).pending = s.pending := rfl

@[simp] theorem State.reach_free (s : State) (t : Nat) : (s.reach t).free = s.free := rfl

@[simp] theorem State.reach_mem (s : State) (t : Nat) : (s.reach t).mem = s.mem := rfl

@[simp] theorem State.reach_cyc (s : State) (t : Nat) : (s.reach t).cyc = s.cyc := rfl

@[simp] theorem State.reach_evq (s : State) (t : Nat) : (s.reach t).evq = s.evq := rfl

@[simp] theorem State.reach_trace (s : State) (t : Nat) : (s.reach t).trace = s.trace := rfl

@[simp] theorem State.reach_bus (s : State) (t : Nat) : (s.reach t).bus = s.bus := rfl

@[simp] theorem State.reach_cfg (s : State) (t : Nat) : (s.reach t).cfg = s.cfg := rfl

@[simp] theorem State.reach_mode (s : State) (t : Nat) : (s.reach t).mode = s.mode := rfl

@[simp] theorem State.reach_safe (s : State) (t : Nat) : (s.reach t).safe = s.safe := rfl

@[simp] theorem State.reach_supply (s : State) (t : Nat) : (s.reach t).supply = s.supply := rfl

@[simp] theorem State.reach_field (s : State) (t : Nat) : (s.reach t).field = s.field := rfl

@[simp] theorem State.reach_health (s : State) (t : Nat) : (s.reach t).health = s.health := rfl

@[simp] theorem State.reach_inj (s : State) (t : Nat) : (s.reach t).inj = s.inj := rfl

@[simp] theorem State.reach_adc (s : State) (t : Nat) : (s.reach t).adc = s.adc := rfl

@[simp] theorem State.reach_panel (s : State) (t : Nat) : (s.reach t).panel = s.panel := rfl

@[simp] theorem State.reach_wdog (s : State) (t : Nat) : (s.reach t).wdog = s.wdog := rfl

@[simp] theorem State.reach_link (s : State) (t : Nat) : (s.reach t).link = s.link := rfl

@[simp] theorem State.reach_txn (s : State) (t : Nat) : (s.reach t).txn = s.txn := rfl

@[simp] theorem State.reach_sta (s : State) (t : Nat) : (s.reach t).sta = s.sta := rfl

@[simp] theorem State.reach_sec (s : State) (t : Nat) : (s.reach t).sec = s.sec := rfl

@[simp] theorem State.reach_ser (s : State) (t : Nat) : (s.reach t).ser = s.ser := rfl

@[simp] theorem State.reach_media (s : State) (t : Nat) : (s.reach t).media = s.media := rfl

@[simp] theorem State.reach_upd (s : State) (t : Nat) : (s.reach t).upd = s.upd := rfl

@[simp] theorem State.reach_flash (s : State) (t : Nat) : (s.reach t).flash = s.flash := rfl

@[simp] theorem State.reach_tap (s : State) (t : Nat) : (s.reach t).tap = s.tap := rfl

@[simp] theorem State.reason_pending (s : State) (r : Word) : (s.reason r).pending = s.pending := rfl

@[simp] theorem State.reason_free (s : State) (r : Word) : (s.reason r).free = s.free := rfl

@[simp] theorem State.reason_mem (s : State) (r : Word) : (s.reason r).mem = s.mem := rfl

@[simp] theorem State.reason_time (s : State) (r : Word) : (s.reason r).time = s.time := rfl

@[simp] theorem State.reason_cyc (s : State) (r : Word) : (s.reason r).cyc = s.cyc := rfl

@[simp] theorem State.reason_evq (s : State) (r : Word) : (s.reason r).evq = s.evq := rfl

@[simp] theorem State.reason_trace (s : State) (r : Word) : (s.reason r).trace = s.trace := rfl

@[simp] theorem State.reason_bus (s : State) (r : Word) : (s.reason r).bus = s.bus := rfl

@[simp] theorem State.reason_cfg (s : State) (r : Word) : (s.reason r).cfg = s.cfg := rfl

@[simp] theorem State.reason_safe (s : State) (r : Word) : (s.reason r).safe = s.safe := rfl

@[simp] theorem State.reason_supply (s : State) (r : Word) : (s.reason r).supply = s.supply := rfl

@[simp] theorem State.reason_field (s : State) (r : Word) : (s.reason r).field = s.field := rfl

@[simp] theorem State.reason_health (s : State) (r : Word) : (s.reason r).health = s.health := rfl

@[simp] theorem State.reason_inj (s : State) (r : Word) : (s.reason r).inj = s.inj := rfl

@[simp] theorem State.reason_adc (s : State) (r : Word) : (s.reason r).adc = s.adc := rfl

@[simp] theorem State.reason_panel (s : State) (r : Word) : (s.reason r).panel = s.panel := rfl

@[simp] theorem State.reason_wdog (s : State) (r : Word) : (s.reason r).wdog = s.wdog := rfl

@[simp] theorem State.reason_link (s : State) (r : Word) : (s.reason r).link = s.link := rfl

@[simp] theorem State.reason_txn (s : State) (r : Word) : (s.reason r).txn = s.txn := rfl

@[simp] theorem State.reason_sta (s : State) (r : Word) : (s.reason r).sta = s.sta := rfl

@[simp] theorem State.reason_sec (s : State) (r : Word) : (s.reason r).sec = s.sec := rfl

@[simp] theorem State.reason_ser (s : State) (r : Word) : (s.reason r).ser = s.ser := rfl

@[simp] theorem State.reason_media (s : State) (r : Word) : (s.reason r).media = s.media := rfl

@[simp] theorem State.reason_upd (s : State) (r : Word) : (s.reason r).upd = s.upd := rfl

@[simp] theorem State.reason_flash (s : State) (r : Word) : (s.reason r).flash = s.flash := rfl

@[simp] theorem State.reason_tap (s : State) (r : Word) : (s.reason r).tap = s.tap := rfl

@[simp] theorem State.takeFree_pending (s : State) : (s.takeFree).2.pending = s.pending := rfl

@[simp] theorem State.takeFree_mem (s : State) : (s.takeFree).2.mem = s.mem := rfl

@[simp] theorem State.takeFree_time (s : State) : (s.takeFree).2.time = s.time := rfl

@[simp] theorem State.takeFree_cyc (s : State) : (s.takeFree).2.cyc = s.cyc := rfl

@[simp] theorem State.takeFree_evq (s : State) : (s.takeFree).2.evq = s.evq := rfl

@[simp] theorem State.takeFree_trace (s : State) : (s.takeFree).2.trace = s.trace := rfl

@[simp] theorem State.takeFree_bus (s : State) : (s.takeFree).2.bus = s.bus := rfl

@[simp] theorem State.takeFree_cfg (s : State) : (s.takeFree).2.cfg = s.cfg := rfl

@[simp] theorem State.takeFree_mode (s : State) : (s.takeFree).2.mode = s.mode := rfl

@[simp] theorem State.takeFree_safe (s : State) : (s.takeFree).2.safe = s.safe := rfl

@[simp] theorem State.takeFree_supply (s : State) : (s.takeFree).2.supply = s.supply := rfl

@[simp] theorem State.takeFree_field (s : State) : (s.takeFree).2.field = s.field := rfl

@[simp] theorem State.takeFree_health (s : State) : (s.takeFree).2.health = s.health := rfl

@[simp] theorem State.takeFree_inj (s : State) : (s.takeFree).2.inj = s.inj := rfl

@[simp] theorem State.takeFree_adc (s : State) : (s.takeFree).2.adc = s.adc := rfl

@[simp] theorem State.takeFree_panel (s : State) : (s.takeFree).2.panel = s.panel := rfl

@[simp] theorem State.takeFree_wdog (s : State) : (s.takeFree).2.wdog = s.wdog := rfl

@[simp] theorem State.takeFree_link (s : State) : (s.takeFree).2.link = s.link := rfl

@[simp] theorem State.takeFree_txn (s : State) : (s.takeFree).2.txn = s.txn := rfl

@[simp] theorem State.takeFree_sta (s : State) : (s.takeFree).2.sta = s.sta := rfl

@[simp] theorem State.takeFree_sec (s : State) : (s.takeFree).2.sec = s.sec := rfl

@[simp] theorem State.takeFree_ser (s : State) : (s.takeFree).2.ser = s.ser := rfl

@[simp] theorem State.takeFree_media (s : State) : (s.takeFree).2.media = s.media := rfl

@[simp] theorem State.takeFree_upd (s : State) : (s.takeFree).2.upd = s.upd := rfl

@[simp] theorem State.takeFree_flash (s : State) : (s.takeFree).2.flash = s.flash := rfl

@[simp] theorem State.takeFree_tap (s : State) : (s.takeFree).2.tap = s.tap := rfl

@[simp] theorem State.setChan_pending (s : State) (n : Nat) (c : Chan) : (s.setChan n c).pending = s.pending := rfl

@[simp] theorem State.setChan_free (s : State) (n : Nat) (c : Chan) : (s.setChan n c).free = s.free := rfl

@[simp] theorem State.setChan_mem (s : State) (n : Nat) (c : Chan) : (s.setChan n c).mem = s.mem := rfl

@[simp] theorem State.setChan_time (s : State) (n : Nat) (c : Chan) : (s.setChan n c).time = s.time := rfl

@[simp] theorem State.setChan_cyc (s : State) (n : Nat) (c : Chan) : (s.setChan n c).cyc = s.cyc := rfl

@[simp] theorem State.setChan_evq (s : State) (n : Nat) (c : Chan) : (s.setChan n c).evq = s.evq := rfl

@[simp] theorem State.setChan_trace (s : State) (n : Nat) (c : Chan) : (s.setChan n c).trace = s.trace := rfl

@[simp] theorem State.setChan_bus (s : State) (n : Nat) (c : Chan) : (s.setChan n c).bus = s.bus := rfl

@[simp] theorem State.setChan_cfg (s : State) (n : Nat) (c : Chan) : (s.setChan n c).cfg = s.cfg := rfl

@[simp] theorem State.setChan_mode (s : State) (n : Nat) (c : Chan) : (s.setChan n c).mode = s.mode := rfl

@[simp] theorem State.setChan_safe (s : State) (n : Nat) (c : Chan) : (s.setChan n c).safe = s.safe := rfl

@[simp] theorem State.setChan_supply (s : State) (n : Nat) (c : Chan) : (s.setChan n c).supply = s.supply := rfl

@[simp] theorem State.setChan_health (s : State) (n : Nat) (c : Chan) : (s.setChan n c).health = s.health := rfl

@[simp] theorem State.setChan_inj (s : State) (n : Nat) (c : Chan) : (s.setChan n c).inj = s.inj := rfl

@[simp] theorem State.setChan_adc (s : State) (n : Nat) (c : Chan) : (s.setChan n c).adc = s.adc := rfl

@[simp] theorem State.setChan_panel (s : State) (n : Nat) (c : Chan) : (s.setChan n c).panel = s.panel := rfl

@[simp] theorem State.setChan_wdog (s : State) (n : Nat) (c : Chan) : (s.setChan n c).wdog = s.wdog := rfl

@[simp] theorem State.setChan_link (s : State) (n : Nat) (c : Chan) : (s.setChan n c).link = s.link := rfl

@[simp] theorem State.setChan_txn (s : State) (n : Nat) (c : Chan) : (s.setChan n c).txn = s.txn := rfl

@[simp] theorem State.setChan_sta (s : State) (n : Nat) (c : Chan) : (s.setChan n c).sta = s.sta := rfl

@[simp] theorem State.setChan_sec (s : State) (n : Nat) (c : Chan) : (s.setChan n c).sec = s.sec := rfl

@[simp] theorem State.setChan_ser (s : State) (n : Nat) (c : Chan) : (s.setChan n c).ser = s.ser := rfl

@[simp] theorem State.setChan_media (s : State) (n : Nat) (c : Chan) : (s.setChan n c).media = s.media := rfl

@[simp] theorem State.setChan_upd (s : State) (n : Nat) (c : Chan) : (s.setChan n c).upd = s.upd := rfl

@[simp] theorem State.setChan_flash (s : State) (n : Nat) (c : Chan) : (s.setChan n c).flash = s.flash := rfl

@[simp] theorem State.setChan_tap (s : State) (n : Nat) (c : Chan) : (s.setChan n c).tap = s.tap := rfl

@[simp] theorem State.onChan_pending (s : State) (n : Nat) (f : Chan → Chan) : (s.onChan n f).pending = s.pending := rfl

@[simp] theorem State.onChan_free (s : State) (n : Nat) (f : Chan → Chan) : (s.onChan n f).free = s.free := rfl

@[simp] theorem State.onChan_mem (s : State) (n : Nat) (f : Chan → Chan) : (s.onChan n f).mem = s.mem := rfl

@[simp] theorem State.onChan_time (s : State) (n : Nat) (f : Chan → Chan) : (s.onChan n f).time = s.time := rfl

@[simp] theorem State.onChan_cyc (s : State) (n : Nat) (f : Chan → Chan) : (s.onChan n f).cyc = s.cyc := rfl

@[simp] theorem State.onChan_evq (s : State) (n : Nat) (f : Chan → Chan) : (s.onChan n f).evq = s.evq := rfl

@[simp] theorem State.onChan_trace (s : State) (n : Nat) (f : Chan → Chan) : (s.onChan n f).trace = s.trace := rfl

@[simp] theorem State.onChan_bus (s : State) (n : Nat) (f : Chan → Chan) : (s.onChan n f).bus = s.bus := rfl

@[simp] theorem State.onChan_cfg (s : State) (n : Nat) (f : Chan → Chan) : (s.onChan n f).cfg = s.cfg := rfl

@[simp] theorem State.onChan_mode (s : State) (n : Nat) (f : Chan → Chan) : (s.onChan n f).mode = s.mode := rfl

@[simp] theorem State.onChan_safe (s : State) (n : Nat) (f : Chan → Chan) : (s.onChan n f).safe = s.safe := rfl

@[simp] theorem State.onChan_supply (s : State) (n : Nat) (f : Chan → Chan) : (s.onChan n f).supply = s.supply := rfl

@[simp] theorem State.onChan_health (s : State) (n : Nat) (f : Chan → Chan) : (s.onChan n f).health = s.health := rfl

@[simp] theorem State.onChan_inj (s : State) (n : Nat) (f : Chan → Chan) : (s.onChan n f).inj = s.inj := rfl

@[simp] theorem State.onChan_adc (s : State) (n : Nat) (f : Chan → Chan) : (s.onChan n f).adc = s.adc := rfl

@[simp] theorem State.onChan_panel (s : State) (n : Nat) (f : Chan → Chan) : (s.onChan n f).panel = s.panel := rfl

@[simp] theorem State.onChan_wdog (s : State) (n : Nat) (f : Chan → Chan) : (s.onChan n f).wdog = s.wdog := rfl

@[simp] theorem State.onChan_link (s : State) (n : Nat) (f : Chan → Chan) : (s.onChan n f).link = s.link := rfl

@[simp] theorem State.onChan_txn (s : State) (n : Nat) (f : Chan → Chan) : (s.onChan n f).txn = s.txn := rfl

@[simp] theorem State.onChan_sta (s : State) (n : Nat) (f : Chan → Chan) : (s.onChan n f).sta = s.sta := rfl

@[simp] theorem State.onChan_sec (s : State) (n : Nat) (f : Chan → Chan) : (s.onChan n f).sec = s.sec := rfl

@[simp] theorem State.onChan_ser (s : State) (n : Nat) (f : Chan → Chan) : (s.onChan n f).ser = s.ser := rfl

@[simp] theorem State.onChan_media (s : State) (n : Nat) (f : Chan → Chan) : (s.onChan n f).media = s.media := rfl

@[simp] theorem State.onChan_upd (s : State) (n : Nat) (f : Chan → Chan) : (s.onChan n f).upd = s.upd := rfl

@[simp] theorem State.onChan_flash (s : State) (n : Nat) (f : Chan → Chan) : (s.onChan n f).flash = s.flash := rfl

@[simp] theorem State.onChan_tap (s : State) (n : Nat) (f : Chan → Chan) : (s.onChan n f).tap = s.tap := rfl

@[simp] theorem State.onChans_pending (s : State) (f : Nat → Chan → Chan) : (s.onChans f).pending = s.pending := rfl

@[simp] theorem State.onChans_free (s : State) (f : Nat → Chan → Chan) : (s.onChans f).free = s.free := rfl

@[simp] theorem State.onChans_mem (s : State) (f : Nat → Chan → Chan) : (s.onChans f).mem = s.mem := rfl

@[simp] theorem State.onChans_time (s : State) (f : Nat → Chan → Chan) : (s.onChans f).time = s.time := rfl

@[simp] theorem State.onChans_cyc (s : State) (f : Nat → Chan → Chan) : (s.onChans f).cyc = s.cyc := rfl

@[simp] theorem State.onChans_evq (s : State) (f : Nat → Chan → Chan) : (s.onChans f).evq = s.evq := rfl

@[simp] theorem State.onChans_trace (s : State) (f : Nat → Chan → Chan) : (s.onChans f).trace = s.trace := rfl

@[simp] theorem State.onChans_bus (s : State) (f : Nat → Chan → Chan) : (s.onChans f).bus = s.bus := rfl

@[simp] theorem State.onChans_cfg (s : State) (f : Nat → Chan → Chan) : (s.onChans f).cfg = s.cfg := rfl

@[simp] theorem State.onChans_mode (s : State) (f : Nat → Chan → Chan) : (s.onChans f).mode = s.mode := rfl

@[simp] theorem State.onChans_safe (s : State) (f : Nat → Chan → Chan) : (s.onChans f).safe = s.safe := rfl

@[simp] theorem State.onChans_supply (s : State) (f : Nat → Chan → Chan) : (s.onChans f).supply = s.supply := rfl

@[simp] theorem State.onChans_health (s : State) (f : Nat → Chan → Chan) : (s.onChans f).health = s.health := rfl

@[simp] theorem State.onChans_inj (s : State) (f : Nat → Chan → Chan) : (s.onChans f).inj = s.inj := rfl

@[simp] theorem State.onChans_adc (s : State) (f : Nat → Chan → Chan) : (s.onChans f).adc = s.adc := rfl

@[simp] theorem State.onChans_panel (s : State) (f : Nat → Chan → Chan) : (s.onChans f).panel = s.panel := rfl

@[simp] theorem State.onChans_wdog (s : State) (f : Nat → Chan → Chan) : (s.onChans f).wdog = s.wdog := rfl

@[simp] theorem State.onChans_link (s : State) (f : Nat → Chan → Chan) : (s.onChans f).link = s.link := rfl

@[simp] theorem State.onChans_txn (s : State) (f : Nat → Chan → Chan) : (s.onChans f).txn = s.txn := rfl

@[simp] theorem State.onChans_sta (s : State) (f : Nat → Chan → Chan) : (s.onChans f).sta = s.sta := rfl

@[simp] theorem State.onChans_sec (s : State) (f : Nat → Chan → Chan) : (s.onChans f).sec = s.sec := rfl

@[simp] theorem State.onChans_ser (s : State) (f : Nat → Chan → Chan) : (s.onChans f).ser = s.ser := rfl

@[simp] theorem State.onChans_media (s : State) (f : Nat → Chan → Chan) : (s.onChans f).media = s.media := rfl

@[simp] theorem State.onChans_upd (s : State) (f : Nat → Chan → Chan) : (s.onChans f).upd = s.upd := rfl

@[simp] theorem State.onChans_flash (s : State) (f : Nat → Chan → Chan) : (s.onChans f).flash = s.flash := rfl

@[simp] theorem State.onChans_tap (s : State) (f : Nat → Chan → Chan) : (s.onChans f).tap = s.tap := rfl

@[simp] theorem State.setPort_pending (s : State) (p : Port) (l : LinkPort) : (s.setPort p l).pending = s.pending := by
  cases p <;> rfl

@[simp] theorem State.setPort_free (s : State) (p : Port) (l : LinkPort) : (s.setPort p l).free = s.free := by
  cases p <;> rfl

@[simp] theorem State.setPort_mem (s : State) (p : Port) (l : LinkPort) : (s.setPort p l).mem = s.mem := by
  cases p <;> rfl

@[simp] theorem State.setPort_time (s : State) (p : Port) (l : LinkPort) : (s.setPort p l).time = s.time := by
  cases p <;> rfl

@[simp] theorem State.setPort_cyc (s : State) (p : Port) (l : LinkPort) : (s.setPort p l).cyc = s.cyc := by
  cases p <;> rfl

@[simp] theorem State.setPort_evq (s : State) (p : Port) (l : LinkPort) : (s.setPort p l).evq = s.evq := by
  cases p <;> rfl

@[simp] theorem State.setPort_trace (s : State) (p : Port) (l : LinkPort) : (s.setPort p l).trace = s.trace := by
  cases p <;> rfl

@[simp] theorem State.setPort_bus (s : State) (p : Port) (l : LinkPort) : (s.setPort p l).bus = s.bus := by
  cases p <;> rfl

@[simp] theorem State.setPort_cfg (s : State) (p : Port) (l : LinkPort) : (s.setPort p l).cfg = s.cfg := by
  cases p <;> rfl

@[simp] theorem State.setPort_mode (s : State) (p : Port) (l : LinkPort) : (s.setPort p l).mode = s.mode := by
  cases p <;> rfl

@[simp] theorem State.setPort_safe (s : State) (p : Port) (l : LinkPort) : (s.setPort p l).safe = s.safe := by
  cases p <;> rfl

@[simp] theorem State.setPort_supply (s : State) (p : Port) (l : LinkPort) : (s.setPort p l).supply = s.supply := by
  cases p <;> rfl

@[simp] theorem State.setPort_field (s : State) (p : Port) (l : LinkPort) : (s.setPort p l).field = s.field := by
  cases p <;> rfl

@[simp] theorem State.setPort_health (s : State) (p : Port) (l : LinkPort) : (s.setPort p l).health = s.health := by
  cases p <;> rfl

@[simp] theorem State.setPort_inj (s : State) (p : Port) (l : LinkPort) : (s.setPort p l).inj = s.inj := by
  cases p <;> rfl

@[simp] theorem State.setPort_adc (s : State) (p : Port) (l : LinkPort) : (s.setPort p l).adc = s.adc := by
  cases p <;> rfl

@[simp] theorem State.setPort_panel (s : State) (p : Port) (l : LinkPort) : (s.setPort p l).panel = s.panel := by
  cases p <;> rfl

@[simp] theorem State.setPort_wdog (s : State) (p : Port) (l : LinkPort) : (s.setPort p l).wdog = s.wdog := by
  cases p <;> rfl

@[simp] theorem State.setPort_txn (s : State) (p : Port) (l : LinkPort) : (s.setPort p l).txn = s.txn := by
  cases p <;> rfl

@[simp] theorem State.setPort_sta (s : State) (p : Port) (l : LinkPort) : (s.setPort p l).sta = s.sta := by
  cases p <;> rfl

@[simp] theorem State.setPort_sec (s : State) (p : Port) (l : LinkPort) : (s.setPort p l).sec = s.sec := by
  cases p <;> rfl

@[simp] theorem State.setPort_ser (s : State) (p : Port) (l : LinkPort) : (s.setPort p l).ser = s.ser := by
  cases p <;> rfl

@[simp] theorem State.setPort_media (s : State) (p : Port) (l : LinkPort) : (s.setPort p l).media = s.media := by
  cases p <;> rfl

@[simp] theorem State.setPort_upd (s : State) (p : Port) (l : LinkPort) : (s.setPort p l).upd = s.upd := by
  cases p <;> rfl

@[simp] theorem State.setPort_flash (s : State) (p : Port) (l : LinkPort) : (s.setPort p l).flash = s.flash := by
  cases p <;> rfl

@[simp] theorem State.setPort_tap (s : State) (p : Port) (l : LinkPort) : (s.setPort p l).tap = s.tap := by
  cases p <;> rfl

@[simp] theorem State.onPort_pending (s : State) (p : Port) (f : LinkPort → LinkPort) :
    (s.onPort p f).pending = s.pending := by
  cases p <;> rfl

@[simp] theorem State.onPort_free (s : State) (p : Port) (f : LinkPort → LinkPort) : (s.onPort p f).free = s.free := by
  cases p <;> rfl

@[simp] theorem State.onPort_mem (s : State) (p : Port) (f : LinkPort → LinkPort) : (s.onPort p f).mem = s.mem := by
  cases p <;> rfl

@[simp] theorem State.onPort_time (s : State) (p : Port) (f : LinkPort → LinkPort) : (s.onPort p f).time = s.time := by
  cases p <;> rfl

@[simp] theorem State.onPort_cyc (s : State) (p : Port) (f : LinkPort → LinkPort) : (s.onPort p f).cyc = s.cyc := by
  cases p <;> rfl

@[simp] theorem State.onPort_evq (s : State) (p : Port) (f : LinkPort → LinkPort) : (s.onPort p f).evq = s.evq := by
  cases p <;> rfl

@[simp] theorem State.onPort_trace (s : State) (p : Port) (f : LinkPort → LinkPort) :
    (s.onPort p f).trace = s.trace := by
  cases p <;> rfl

@[simp] theorem State.onPort_bus (s : State) (p : Port) (f : LinkPort → LinkPort) : (s.onPort p f).bus = s.bus := by
  cases p <;> rfl

@[simp] theorem State.onPort_cfg (s : State) (p : Port) (f : LinkPort → LinkPort) : (s.onPort p f).cfg = s.cfg := by
  cases p <;> rfl

@[simp] theorem State.onPort_mode (s : State) (p : Port) (f : LinkPort → LinkPort) : (s.onPort p f).mode = s.mode := by
  cases p <;> rfl

@[simp] theorem State.onPort_safe (s : State) (p : Port) (f : LinkPort → LinkPort) : (s.onPort p f).safe = s.safe := by
  cases p <;> rfl

@[simp] theorem State.onPort_supply (s : State) (p : Port) (f : LinkPort → LinkPort) :
    (s.onPort p f).supply = s.supply := by
  cases p <;> rfl

@[simp] theorem State.onPort_field (s : State) (p : Port) (f : LinkPort → LinkPort) :
    (s.onPort p f).field = s.field := by
  cases p <;> rfl

@[simp] theorem State.onPort_health (s : State) (p : Port) (f : LinkPort → LinkPort) :
    (s.onPort p f).health = s.health := by
  cases p <;> rfl

@[simp] theorem State.onPort_inj (s : State) (p : Port) (f : LinkPort → LinkPort) : (s.onPort p f).inj = s.inj := by
  cases p <;> rfl

@[simp] theorem State.onPort_adc (s : State) (p : Port) (f : LinkPort → LinkPort) : (s.onPort p f).adc = s.adc := by
  cases p <;> rfl

@[simp] theorem State.onPort_panel (s : State) (p : Port) (f : LinkPort → LinkPort) :
    (s.onPort p f).panel = s.panel := by
  cases p <;> rfl

@[simp] theorem State.onPort_wdog (s : State) (p : Port) (f : LinkPort → LinkPort) : (s.onPort p f).wdog = s.wdog := by
  cases p <;> rfl

@[simp] theorem State.onPort_txn (s : State) (p : Port) (f : LinkPort → LinkPort) : (s.onPort p f).txn = s.txn := by
  cases p <;> rfl

@[simp] theorem State.onPort_sta (s : State) (p : Port) (f : LinkPort → LinkPort) : (s.onPort p f).sta = s.sta := by
  cases p <;> rfl

@[simp] theorem State.onPort_sec (s : State) (p : Port) (f : LinkPort → LinkPort) : (s.onPort p f).sec = s.sec := by
  cases p <;> rfl

@[simp] theorem State.onPort_ser (s : State) (p : Port) (f : LinkPort → LinkPort) : (s.onPort p f).ser = s.ser := by
  cases p <;> rfl

@[simp] theorem State.onPort_media (s : State) (p : Port) (f : LinkPort → LinkPort) :
    (s.onPort p f).media = s.media := by
  cases p <;> rfl

@[simp] theorem State.onPort_upd (s : State) (p : Port) (f : LinkPort → LinkPort) : (s.onPort p f).upd = s.upd := by
  cases p <;> rfl

@[simp] theorem State.onPort_flash (s : State) (p : Port) (f : LinkPort → LinkPort) :
    (s.onPort p f).flash = s.flash := by
  cases p <;> rfl

@[simp] theorem State.onPort_tap (s : State) (p : Port) (f : LinkPort → LinkPort) : (s.onPort p f).tap = s.tap := by
  cases p <;> rfl

@[simp] theorem State.setKey_pending (s : State) (p : Path) (k : PathKey) : (s.setKey p k).pending = s.pending := by
  cases p <;> rfl

@[simp] theorem State.setKey_free (s : State) (p : Path) (k : PathKey) : (s.setKey p k).free = s.free := by
  cases p <;> rfl

@[simp] theorem State.setKey_mem (s : State) (p : Path) (k : PathKey) : (s.setKey p k).mem = s.mem := by
  cases p <;> rfl

@[simp] theorem State.setKey_time (s : State) (p : Path) (k : PathKey) : (s.setKey p k).time = s.time := by
  cases p <;> rfl

@[simp] theorem State.setKey_cyc (s : State) (p : Path) (k : PathKey) : (s.setKey p k).cyc = s.cyc := by
  cases p <;> rfl

@[simp] theorem State.setKey_evq (s : State) (p : Path) (k : PathKey) : (s.setKey p k).evq = s.evq := by
  cases p <;> rfl

@[simp] theorem State.setKey_trace (s : State) (p : Path) (k : PathKey) : (s.setKey p k).trace = s.trace := by
  cases p <;> rfl

@[simp] theorem State.setKey_cfg (s : State) (p : Path) (k : PathKey) : (s.setKey p k).cfg = s.cfg := by
  cases p <;> rfl

@[simp] theorem State.setKey_mode (s : State) (p : Path) (k : PathKey) : (s.setKey p k).mode = s.mode := by
  cases p <;> rfl

@[simp] theorem State.setKey_safe (s : State) (p : Path) (k : PathKey) : (s.setKey p k).safe = s.safe := by
  cases p <;> rfl

@[simp] theorem State.setKey_supply (s : State) (p : Path) (k : PathKey) : (s.setKey p k).supply = s.supply := by
  cases p <;> rfl

@[simp] theorem State.setKey_field (s : State) (p : Path) (k : PathKey) : (s.setKey p k).field = s.field := by
  cases p <;> rfl

@[simp] theorem State.setKey_health (s : State) (p : Path) (k : PathKey) : (s.setKey p k).health = s.health := by
  cases p <;> rfl

@[simp] theorem State.setKey_inj (s : State) (p : Path) (k : PathKey) : (s.setKey p k).inj = s.inj := by
  cases p <;> rfl

@[simp] theorem State.setKey_adc (s : State) (p : Path) (k : PathKey) : (s.setKey p k).adc = s.adc := by
  cases p <;> rfl

@[simp] theorem State.setKey_panel (s : State) (p : Path) (k : PathKey) : (s.setKey p k).panel = s.panel := by
  cases p <;> rfl

@[simp] theorem State.setKey_wdog (s : State) (p : Path) (k : PathKey) : (s.setKey p k).wdog = s.wdog := by
  cases p <;> rfl

@[simp] theorem State.setKey_link (s : State) (p : Path) (k : PathKey) : (s.setKey p k).link = s.link := by
  cases p <;> rfl

@[simp] theorem State.setKey_txn (s : State) (p : Path) (k : PathKey) : (s.setKey p k).txn = s.txn := by
  cases p <;> rfl

@[simp] theorem State.setKey_sta (s : State) (p : Path) (k : PathKey) : (s.setKey p k).sta = s.sta := by
  cases p <;> rfl

@[simp] theorem State.setKey_sec (s : State) (p : Path) (k : PathKey) : (s.setKey p k).sec = s.sec := by
  cases p <;> rfl

@[simp] theorem State.setKey_ser (s : State) (p : Path) (k : PathKey) : (s.setKey p k).ser = s.ser := by
  cases p <;> rfl

@[simp] theorem State.setKey_media (s : State) (p : Path) (k : PathKey) : (s.setKey p k).media = s.media := by
  cases p <;> rfl

@[simp] theorem State.setKey_upd (s : State) (p : Path) (k : PathKey) : (s.setKey p k).upd = s.upd := by
  cases p <;> rfl

@[simp] theorem State.setKey_flash (s : State) (p : Path) (k : PathKey) : (s.setKey p k).flash = s.flash := by
  cases p <;> rfl

@[simp] theorem State.setKey_tap (s : State) (p : Path) (k : PathKey) : (s.setKey p k).tap = s.tap := by
  cases p <;> rfl

@[simp] theorem State.setCmd_pending (s : State) (p : Path) (c : CmdPath) : (s.setCmd p c).pending = s.pending := by
  cases p <;> rfl

@[simp] theorem State.setCmd_free (s : State) (p : Path) (c : CmdPath) : (s.setCmd p c).free = s.free := by
  cases p <;> rfl

@[simp] theorem State.setCmd_mem (s : State) (p : Path) (c : CmdPath) : (s.setCmd p c).mem = s.mem := by
  cases p <;> rfl

@[simp] theorem State.setCmd_time (s : State) (p : Path) (c : CmdPath) : (s.setCmd p c).time = s.time := by
  cases p <;> rfl

@[simp] theorem State.setCmd_cyc (s : State) (p : Path) (c : CmdPath) : (s.setCmd p c).cyc = s.cyc := by
  cases p <;> rfl

@[simp] theorem State.setCmd_evq (s : State) (p : Path) (c : CmdPath) : (s.setCmd p c).evq = s.evq := by
  cases p <;> rfl

@[simp] theorem State.setCmd_trace (s : State) (p : Path) (c : CmdPath) : (s.setCmd p c).trace = s.trace := by
  cases p <;> rfl

@[simp] theorem State.setCmd_cfg (s : State) (p : Path) (c : CmdPath) : (s.setCmd p c).cfg = s.cfg := by
  cases p <;> rfl

@[simp] theorem State.setCmd_mode (s : State) (p : Path) (c : CmdPath) : (s.setCmd p c).mode = s.mode := by
  cases p <;> rfl

@[simp] theorem State.setCmd_safe (s : State) (p : Path) (c : CmdPath) : (s.setCmd p c).safe = s.safe := by
  cases p <;> rfl

@[simp] theorem State.setCmd_supply (s : State) (p : Path) (c : CmdPath) : (s.setCmd p c).supply = s.supply := by
  cases p <;> rfl

@[simp] theorem State.setCmd_field (s : State) (p : Path) (c : CmdPath) : (s.setCmd p c).field = s.field := by
  cases p <;> rfl

@[simp] theorem State.setCmd_health (s : State) (p : Path) (c : CmdPath) : (s.setCmd p c).health = s.health := by
  cases p <;> rfl

@[simp] theorem State.setCmd_inj (s : State) (p : Path) (c : CmdPath) : (s.setCmd p c).inj = s.inj := by
  cases p <;> rfl

@[simp] theorem State.setCmd_adc (s : State) (p : Path) (c : CmdPath) : (s.setCmd p c).adc = s.adc := by
  cases p <;> rfl

@[simp] theorem State.setCmd_panel (s : State) (p : Path) (c : CmdPath) : (s.setCmd p c).panel = s.panel := by
  cases p <;> rfl

@[simp] theorem State.setCmd_wdog (s : State) (p : Path) (c : CmdPath) : (s.setCmd p c).wdog = s.wdog := by
  cases p <;> rfl

@[simp] theorem State.setCmd_link (s : State) (p : Path) (c : CmdPath) : (s.setCmd p c).link = s.link := by
  cases p <;> rfl

@[simp] theorem State.setCmd_txn (s : State) (p : Path) (c : CmdPath) : (s.setCmd p c).txn = s.txn := by
  cases p <;> rfl

@[simp] theorem State.setCmd_sta (s : State) (p : Path) (c : CmdPath) : (s.setCmd p c).sta = s.sta := by
  cases p <;> rfl

@[simp] theorem State.setCmd_sec (s : State) (p : Path) (c : CmdPath) : (s.setCmd p c).sec = s.sec := by
  cases p <;> rfl

@[simp] theorem State.setCmd_ser (s : State) (p : Path) (c : CmdPath) : (s.setCmd p c).ser = s.ser := by
  cases p <;> rfl

@[simp] theorem State.setCmd_media (s : State) (p : Path) (c : CmdPath) : (s.setCmd p c).media = s.media := by
  cases p <;> rfl

@[simp] theorem State.setCmd_upd (s : State) (p : Path) (c : CmdPath) : (s.setCmd p c).upd = s.upd := by
  cases p <;> rfl

@[simp] theorem State.setCmd_flash (s : State) (p : Path) (c : CmdPath) : (s.setCmd p c).flash = s.flash := by
  cases p <;> rfl

@[simp] theorem State.setCmd_tap (s : State) (p : Path) (c : CmdPath) : (s.setCmd p c).tap = s.tap := by
  cases p <;> rfl

@[simp] theorem State.setTxn_pending (s : State) (t : Txn) : (s.setTxn t).pending = s.pending := rfl

@[simp] theorem State.setTxn_free (s : State) (t : Txn) : (s.setTxn t).free = s.free := rfl

@[simp] theorem State.setTxn_mem (s : State) (t : Txn) : (s.setTxn t).mem = s.mem := rfl

@[simp] theorem State.setTxn_time (s : State) (t : Txn) : (s.setTxn t).time = s.time := rfl

@[simp] theorem State.setTxn_cyc (s : State) (t : Txn) : (s.setTxn t).cyc = s.cyc := rfl

@[simp] theorem State.setTxn_evq (s : State) (t : Txn) : (s.setTxn t).evq = s.evq := rfl

@[simp] theorem State.setTxn_trace (s : State) (t : Txn) : (s.setTxn t).trace = s.trace := rfl

@[simp] theorem State.setTxn_bus (s : State) (t : Txn) : (s.setTxn t).bus = s.bus := rfl

@[simp] theorem State.setTxn_cfg (s : State) (t : Txn) : (s.setTxn t).cfg = s.cfg := rfl

@[simp] theorem State.setTxn_mode (s : State) (t : Txn) : (s.setTxn t).mode = s.mode := rfl

@[simp] theorem State.setTxn_safe (s : State) (t : Txn) : (s.setTxn t).safe = s.safe := rfl

@[simp] theorem State.setTxn_supply (s : State) (t : Txn) : (s.setTxn t).supply = s.supply := rfl

@[simp] theorem State.setTxn_field (s : State) (t : Txn) : (s.setTxn t).field = s.field := rfl

@[simp] theorem State.setTxn_health (s : State) (t : Txn) : (s.setTxn t).health = s.health := rfl

@[simp] theorem State.setTxn_inj (s : State) (t : Txn) : (s.setTxn t).inj = s.inj := rfl

@[simp] theorem State.setTxn_adc (s : State) (t : Txn) : (s.setTxn t).adc = s.adc := rfl

@[simp] theorem State.setTxn_panel (s : State) (t : Txn) : (s.setTxn t).panel = s.panel := rfl

@[simp] theorem State.setTxn_wdog (s : State) (t : Txn) : (s.setTxn t).wdog = s.wdog := rfl

@[simp] theorem State.setTxn_link (s : State) (t : Txn) : (s.setTxn t).link = s.link := rfl

@[simp] theorem State.setTxn_sta (s : State) (t : Txn) : (s.setTxn t).sta = s.sta := rfl

@[simp] theorem State.setTxn_sec (s : State) (t : Txn) : (s.setTxn t).sec = s.sec := rfl

@[simp] theorem State.setTxn_ser (s : State) (t : Txn) : (s.setTxn t).ser = s.ser := rfl

@[simp] theorem State.setTxn_media (s : State) (t : Txn) : (s.setTxn t).media = s.media := rfl

@[simp] theorem State.setTxn_upd (s : State) (t : Txn) : (s.setTxn t).upd = s.upd := rfl

@[simp] theorem State.setTxn_flash (s : State) (t : Txn) : (s.setTxn t).flash = s.flash := rfl

@[simp] theorem State.setTxn_tap (s : State) (t : Txn) : (s.setTxn t).tap = s.tap := rfl

@[simp] theorem State.flashWrite_pending (s : State) (a : Nat) (l : List Byte) :
    (s.flashWrite a l).pending = s.pending := rfl

@[simp] theorem State.flashWrite_free (s : State) (a : Nat) (l : List Byte) : (s.flashWrite a l).free = s.free := rfl

@[simp] theorem State.flashWrite_mem (s : State) (a : Nat) (l : List Byte) : (s.flashWrite a l).mem = s.mem := rfl

@[simp] theorem State.flashWrite_time (s : State) (a : Nat) (l : List Byte) : (s.flashWrite a l).time = s.time := rfl

@[simp] theorem State.flashWrite_cyc (s : State) (a : Nat) (l : List Byte) : (s.flashWrite a l).cyc = s.cyc := rfl

@[simp] theorem State.flashWrite_evq (s : State) (a : Nat) (l : List Byte) : (s.flashWrite a l).evq = s.evq := rfl

@[simp] theorem State.flashWrite_trace (s : State) (a : Nat) (l : List Byte) : (s.flashWrite a l).trace = s.trace := rfl

@[simp] theorem State.flashWrite_bus (s : State) (a : Nat) (l : List Byte) : (s.flashWrite a l).bus = s.bus := rfl

@[simp] theorem State.flashWrite_cfg (s : State) (a : Nat) (l : List Byte) : (s.flashWrite a l).cfg = s.cfg := rfl

@[simp] theorem State.flashWrite_mode (s : State) (a : Nat) (l : List Byte) : (s.flashWrite a l).mode = s.mode := rfl

@[simp] theorem State.flashWrite_safe (s : State) (a : Nat) (l : List Byte) : (s.flashWrite a l).safe = s.safe := rfl

@[simp] theorem State.flashWrite_supply (s : State) (a : Nat) (l : List Byte) :
    (s.flashWrite a l).supply = s.supply := rfl

@[simp] theorem State.flashWrite_field (s : State) (a : Nat) (l : List Byte) : (s.flashWrite a l).field = s.field := rfl

@[simp] theorem State.flashWrite_health (s : State) (a : Nat) (l : List Byte) :
    (s.flashWrite a l).health = s.health := rfl

@[simp] theorem State.flashWrite_inj (s : State) (a : Nat) (l : List Byte) : (s.flashWrite a l).inj = s.inj := rfl

@[simp] theorem State.flashWrite_adc (s : State) (a : Nat) (l : List Byte) : (s.flashWrite a l).adc = s.adc := rfl

@[simp] theorem State.flashWrite_panel (s : State) (a : Nat) (l : List Byte) : (s.flashWrite a l).panel = s.panel := rfl

@[simp] theorem State.flashWrite_wdog (s : State) (a : Nat) (l : List Byte) : (s.flashWrite a l).wdog = s.wdog := rfl

@[simp] theorem State.flashWrite_link (s : State) (a : Nat) (l : List Byte) : (s.flashWrite a l).link = s.link := rfl

@[simp] theorem State.flashWrite_txn (s : State) (a : Nat) (l : List Byte) : (s.flashWrite a l).txn = s.txn := rfl

@[simp] theorem State.flashWrite_sta (s : State) (a : Nat) (l : List Byte) : (s.flashWrite a l).sta = s.sta := rfl

@[simp] theorem State.flashWrite_sec (s : State) (a : Nat) (l : List Byte) : (s.flashWrite a l).sec = s.sec := rfl

@[simp] theorem State.flashWrite_ser (s : State) (a : Nat) (l : List Byte) : (s.flashWrite a l).ser = s.ser := rfl

@[simp] theorem State.flashWrite_media (s : State) (a : Nat) (l : List Byte) : (s.flashWrite a l).media = s.media := rfl

@[simp] theorem State.flashWrite_upd (s : State) (a : Nat) (l : List Byte) : (s.flashWrite a l).upd = s.upd := rfl

@[simp] theorem State.flashWrite_tap (s : State) (a : Nat) (l : List Byte) : (s.flashWrite a l).tap = s.tap := rfl

@[simp] theorem State.flashClear_pending (s : State) (sector : Nat) : (s.flashClear sector).pending = s.pending := rfl

@[simp] theorem State.flashClear_free (s : State) (sector : Nat) : (s.flashClear sector).free = s.free := rfl

@[simp] theorem State.flashClear_mem (s : State) (sector : Nat) : (s.flashClear sector).mem = s.mem := rfl

@[simp] theorem State.flashClear_time (s : State) (sector : Nat) : (s.flashClear sector).time = s.time := rfl

@[simp] theorem State.flashClear_cyc (s : State) (sector : Nat) : (s.flashClear sector).cyc = s.cyc := rfl

@[simp] theorem State.flashClear_evq (s : State) (sector : Nat) : (s.flashClear sector).evq = s.evq := rfl

@[simp] theorem State.flashClear_trace (s : State) (sector : Nat) : (s.flashClear sector).trace = s.trace := rfl

@[simp] theorem State.flashClear_bus (s : State) (sector : Nat) : (s.flashClear sector).bus = s.bus := rfl

@[simp] theorem State.flashClear_cfg (s : State) (sector : Nat) : (s.flashClear sector).cfg = s.cfg := rfl

@[simp] theorem State.flashClear_mode (s : State) (sector : Nat) : (s.flashClear sector).mode = s.mode := rfl

@[simp] theorem State.flashClear_safe (s : State) (sector : Nat) : (s.flashClear sector).safe = s.safe := rfl

@[simp] theorem State.flashClear_supply (s : State) (sector : Nat) : (s.flashClear sector).supply = s.supply := rfl

@[simp] theorem State.flashClear_field (s : State) (sector : Nat) : (s.flashClear sector).field = s.field := rfl

@[simp] theorem State.flashClear_health (s : State) (sector : Nat) : (s.flashClear sector).health = s.health := rfl

@[simp] theorem State.flashClear_inj (s : State) (sector : Nat) : (s.flashClear sector).inj = s.inj := rfl

@[simp] theorem State.flashClear_adc (s : State) (sector : Nat) : (s.flashClear sector).adc = s.adc := rfl

@[simp] theorem State.flashClear_panel (s : State) (sector : Nat) : (s.flashClear sector).panel = s.panel := rfl

@[simp] theorem State.flashClear_wdog (s : State) (sector : Nat) : (s.flashClear sector).wdog = s.wdog := rfl

@[simp] theorem State.flashClear_link (s : State) (sector : Nat) : (s.flashClear sector).link = s.link := rfl

@[simp] theorem State.flashClear_txn (s : State) (sector : Nat) : (s.flashClear sector).txn = s.txn := rfl

@[simp] theorem State.flashClear_sta (s : State) (sector : Nat) : (s.flashClear sector).sta = s.sta := rfl

@[simp] theorem State.flashClear_sec (s : State) (sector : Nat) : (s.flashClear sector).sec = s.sec := rfl

@[simp] theorem State.flashClear_ser (s : State) (sector : Nat) : (s.flashClear sector).ser = s.ser := rfl

@[simp] theorem State.flashClear_media (s : State) (sector : Nat) : (s.flashClear sector).media = s.media := rfl

@[simp] theorem State.flashClear_upd (s : State) (sector : Nat) : (s.flashClear sector).upd = s.upd := rfl

@[simp] theorem State.flashClear_tap (s : State) (sector : Nat) : (s.flashClear sector).tap = s.tap := rfl

@[simp] theorem State.setTracePtr_pending (s : State) (p : Path) (t : TracePtr) :
    (s.setTracePtr p t).pending = s.pending := by
  cases p <;> rfl

@[simp] theorem State.setTracePtr_free (s : State) (p : Path) (t : TracePtr) : (s.setTracePtr p t).free = s.free := by
  cases p <;> rfl

@[simp] theorem State.setTracePtr_mem (s : State) (p : Path) (t : TracePtr) : (s.setTracePtr p t).mem = s.mem := by
  cases p <;> rfl

@[simp] theorem State.setTracePtr_time (s : State) (p : Path) (t : TracePtr) : (s.setTracePtr p t).time = s.time := by
  cases p <;> rfl

@[simp] theorem State.setTracePtr_cyc (s : State) (p : Path) (t : TracePtr) : (s.setTracePtr p t).cyc = s.cyc := by
  cases p <;> rfl

@[simp] theorem State.setTracePtr_evq (s : State) (p : Path) (t : TracePtr) : (s.setTracePtr p t).evq = s.evq := by
  cases p <;> rfl

@[simp] theorem State.setTracePtr_bus (s : State) (p : Path) (t : TracePtr) : (s.setTracePtr p t).bus = s.bus := by
  cases p <;> rfl

@[simp] theorem State.setTracePtr_cfg (s : State) (p : Path) (t : TracePtr) : (s.setTracePtr p t).cfg = s.cfg := by
  cases p <;> rfl

@[simp] theorem State.setTracePtr_mode (s : State) (p : Path) (t : TracePtr) : (s.setTracePtr p t).mode = s.mode := by
  cases p <;> rfl

@[simp] theorem State.setTracePtr_safe (s : State) (p : Path) (t : TracePtr) : (s.setTracePtr p t).safe = s.safe := by
  cases p <;> rfl

@[simp] theorem State.setTracePtr_supply (s : State) (p : Path) (t : TracePtr) :
    (s.setTracePtr p t).supply = s.supply := by
  cases p <;> rfl

@[simp] theorem State.setTracePtr_field (s : State) (p : Path) (t : TracePtr) :
    (s.setTracePtr p t).field = s.field := by
  cases p <;> rfl

@[simp] theorem State.setTracePtr_health (s : State) (p : Path) (t : TracePtr) :
    (s.setTracePtr p t).health = s.health := by
  cases p <;> rfl

@[simp] theorem State.setTracePtr_inj (s : State) (p : Path) (t : TracePtr) : (s.setTracePtr p t).inj = s.inj := by
  cases p <;> rfl

@[simp] theorem State.setTracePtr_adc (s : State) (p : Path) (t : TracePtr) : (s.setTracePtr p t).adc = s.adc := by
  cases p <;> rfl

@[simp] theorem State.setTracePtr_panel (s : State) (p : Path) (t : TracePtr) :
    (s.setTracePtr p t).panel = s.panel := by
  cases p <;> rfl

@[simp] theorem State.setTracePtr_wdog (s : State) (p : Path) (t : TracePtr) : (s.setTracePtr p t).wdog = s.wdog := by
  cases p <;> rfl

@[simp] theorem State.setTracePtr_link (s : State) (p : Path) (t : TracePtr) : (s.setTracePtr p t).link = s.link := by
  cases p <;> rfl

@[simp] theorem State.setTracePtr_txn (s : State) (p : Path) (t : TracePtr) : (s.setTracePtr p t).txn = s.txn := by
  cases p <;> rfl

@[simp] theorem State.setTracePtr_sta (s : State) (p : Path) (t : TracePtr) : (s.setTracePtr p t).sta = s.sta := by
  cases p <;> rfl

@[simp] theorem State.setTracePtr_sec (s : State) (p : Path) (t : TracePtr) : (s.setTracePtr p t).sec = s.sec := by
  cases p <;> rfl

@[simp] theorem State.setTracePtr_ser (s : State) (p : Path) (t : TracePtr) : (s.setTracePtr p t).ser = s.ser := by
  cases p <;> rfl

@[simp] theorem State.setTracePtr_media (s : State) (p : Path) (t : TracePtr) :
    (s.setTracePtr p t).media = s.media := by
  cases p <;> rfl

@[simp] theorem State.setTracePtr_upd (s : State) (p : Path) (t : TracePtr) : (s.setTracePtr p t).upd = s.upd := by
  cases p <;> rfl

@[simp] theorem State.setTracePtr_flash (s : State) (p : Path) (t : TracePtr) :
    (s.setTracePtr p t).flash = s.flash := by
  cases p <;> rfl

@[simp] theorem State.setTracePtr_tap (s : State) (p : Path) (t : TracePtr) : (s.setTracePtr p t).tap = s.tap := by
  cases p <;> rfl

@[simp] theorem State.setSlot_pending (s : State) (b : Bool) (p : Nat) (x : Option Slot) :
    (s.setSlot b p x).pending = s.pending := by
  unfold State.setSlot
  split <;> rfl

@[simp] theorem State.setSlot_free (s : State) (b : Bool) (p : Nat) (x : Option Slot) :
    (s.setSlot b p x).free = s.free := by
  unfold State.setSlot
  split <;> rfl

@[simp] theorem State.setSlot_mem (s : State) (b : Bool) (p : Nat) (x : Option Slot) :
    (s.setSlot b p x).mem = s.mem := by
  unfold State.setSlot
  split <;> rfl

@[simp] theorem State.setSlot_time (s : State) (b : Bool) (p : Nat) (x : Option Slot) :
    (s.setSlot b p x).time = s.time := by
  unfold State.setSlot
  split <;> rfl

@[simp] theorem State.setSlot_cyc (s : State) (b : Bool) (p : Nat) (x : Option Slot) :
    (s.setSlot b p x).cyc = s.cyc := by
  unfold State.setSlot
  split <;> rfl

@[simp] theorem State.setSlot_evq (s : State) (b : Bool) (p : Nat) (x : Option Slot) :
    (s.setSlot b p x).evq = s.evq := by
  unfold State.setSlot
  split <;> rfl

@[simp] theorem State.setSlot_trace (s : State) (b : Bool) (p : Nat) (x : Option Slot) :
    (s.setSlot b p x).trace = s.trace := by
  unfold State.setSlot
  split <;> rfl

@[simp] theorem State.setSlot_bus (s : State) (b : Bool) (p : Nat) (x : Option Slot) :
    (s.setSlot b p x).bus = s.bus := by
  unfold State.setSlot
  split <;> rfl

@[simp] theorem State.setSlot_cfg (s : State) (b : Bool) (p : Nat) (x : Option Slot) :
    (s.setSlot b p x).cfg = s.cfg := by
  unfold State.setSlot
  split <;> rfl

@[simp] theorem State.setSlot_mode (s : State) (b : Bool) (p : Nat) (x : Option Slot) :
    (s.setSlot b p x).mode = s.mode := by
  unfold State.setSlot
  split <;> rfl

@[simp] theorem State.setSlot_safe (s : State) (b : Bool) (p : Nat) (x : Option Slot) :
    (s.setSlot b p x).safe = s.safe := by
  unfold State.setSlot
  split <;> rfl

@[simp] theorem State.setSlot_supply (s : State) (b : Bool) (p : Nat) (x : Option Slot) :
    (s.setSlot b p x).supply = s.supply := by
  unfold State.setSlot
  split <;> rfl

@[simp] theorem State.setSlot_field (s : State) (b : Bool) (p : Nat) (x : Option Slot) :
    (s.setSlot b p x).field = s.field := by
  unfold State.setSlot
  split <;> rfl

@[simp] theorem State.setSlot_health (s : State) (b : Bool) (p : Nat) (x : Option Slot) :
    (s.setSlot b p x).health = s.health := by
  unfold State.setSlot
  split <;> rfl

@[simp] theorem State.setSlot_inj (s : State) (b : Bool) (p : Nat) (x : Option Slot) :
    (s.setSlot b p x).inj = s.inj := by
  unfold State.setSlot
  split <;> rfl

@[simp] theorem State.setSlot_adc (s : State) (b : Bool) (p : Nat) (x : Option Slot) :
    (s.setSlot b p x).adc = s.adc := by
  unfold State.setSlot
  split <;> rfl

@[simp] theorem State.setSlot_panel (s : State) (b : Bool) (p : Nat) (x : Option Slot) :
    (s.setSlot b p x).panel = s.panel := by
  unfold State.setSlot
  split <;> rfl

@[simp] theorem State.setSlot_wdog (s : State) (b : Bool) (p : Nat) (x : Option Slot) :
    (s.setSlot b p x).wdog = s.wdog := by
  unfold State.setSlot
  split <;> rfl

@[simp] theorem State.setSlot_link (s : State) (b : Bool) (p : Nat) (x : Option Slot) :
    (s.setSlot b p x).link = s.link := by
  unfold State.setSlot
  split <;> rfl

@[simp] theorem State.setSlot_txn (s : State) (b : Bool) (p : Nat) (x : Option Slot) :
    (s.setSlot b p x).txn = s.txn := by
  unfold State.setSlot
  split <;> rfl

@[simp] theorem State.setSlot_sta (s : State) (b : Bool) (p : Nat) (x : Option Slot) :
    (s.setSlot b p x).sta = s.sta := by
  unfold State.setSlot
  split <;> rfl

@[simp] theorem State.setSlot_sec (s : State) (b : Bool) (p : Nat) (x : Option Slot) :
    (s.setSlot b p x).sec = s.sec := by
  unfold State.setSlot
  split <;> rfl

@[simp] theorem State.setSlot_ser (s : State) (b : Bool) (p : Nat) (x : Option Slot) :
    (s.setSlot b p x).ser = s.ser := by
  unfold State.setSlot
  split <;> rfl

@[simp] theorem State.setSlot_media (s : State) (b : Bool) (p : Nat) (x : Option Slot) :
    (s.setSlot b p x).media = s.media := by
  unfold State.setSlot
  split <;> rfl

@[simp] theorem State.setSlot_flash (s : State) (b : Bool) (p : Nat) (x : Option Slot) :
    (s.setSlot b p x).flash = s.flash := by
  unfold State.setSlot
  split <;> rfl

@[simp] theorem State.setSlot_tap (s : State) (b : Bool) (p : Nat) (x : Option Slot) :
    (s.setSlot b p x).tap = s.tap := by
  unfold State.setSlot
  split <;> rfl

@[simp] theorem State.setReader_pending (s : State) (r : Reader) : (s.setReader r).pending = s.pending := rfl

@[simp] theorem State.setReader_free (s : State) (r : Reader) : (s.setReader r).free = s.free := rfl

@[simp] theorem State.setReader_mem (s : State) (r : Reader) : (s.setReader r).mem = s.mem := rfl

@[simp] theorem State.setReader_time (s : State) (r : Reader) : (s.setReader r).time = s.time := rfl

@[simp] theorem State.setReader_cyc (s : State) (r : Reader) : (s.setReader r).cyc = s.cyc := rfl

@[simp] theorem State.setReader_evq (s : State) (r : Reader) : (s.setReader r).evq = s.evq := rfl

@[simp] theorem State.setReader_trace (s : State) (r : Reader) : (s.setReader r).trace = s.trace := rfl

@[simp] theorem State.setReader_bus (s : State) (r : Reader) : (s.setReader r).bus = s.bus := rfl

@[simp] theorem State.setReader_cfg (s : State) (r : Reader) : (s.setReader r).cfg = s.cfg := rfl

@[simp] theorem State.setReader_mode (s : State) (r : Reader) : (s.setReader r).mode = s.mode := rfl

@[simp] theorem State.setReader_safe (s : State) (r : Reader) : (s.setReader r).safe = s.safe := rfl

@[simp] theorem State.setReader_supply (s : State) (r : Reader) : (s.setReader r).supply = s.supply := rfl

@[simp] theorem State.setReader_field (s : State) (r : Reader) : (s.setReader r).field = s.field := rfl

@[simp] theorem State.setReader_health (s : State) (r : Reader) : (s.setReader r).health = s.health := rfl

@[simp] theorem State.setReader_inj (s : State) (r : Reader) : (s.setReader r).inj = s.inj := rfl

@[simp] theorem State.setReader_adc (s : State) (r : Reader) : (s.setReader r).adc = s.adc := rfl

@[simp] theorem State.setReader_panel (s : State) (r : Reader) : (s.setReader r).panel = s.panel := rfl

@[simp] theorem State.setReader_wdog (s : State) (r : Reader) : (s.setReader r).wdog = s.wdog := rfl

@[simp] theorem State.setReader_link (s : State) (r : Reader) : (s.setReader r).link = s.link := rfl

@[simp] theorem State.setReader_txn (s : State) (r : Reader) : (s.setReader r).txn = s.txn := rfl

@[simp] theorem State.setReader_sta (s : State) (r : Reader) : (s.setReader r).sta = s.sta := rfl

@[simp] theorem State.setReader_sec (s : State) (r : Reader) : (s.setReader r).sec = s.sec := rfl

@[simp] theorem State.setReader_ser (s : State) (r : Reader) : (s.setReader r).ser = s.ser := rfl

@[simp] theorem State.setReader_upd (s : State) (r : Reader) : (s.setReader r).upd = s.upd := rfl

@[simp] theorem State.setReader_flash (s : State) (r : Reader) : (s.setReader r).flash = s.flash := rfl

@[simp] theorem State.setReader_tap (s : State) (r : Reader) : (s.setReader r).tap = s.tap := rfl

@[simp] theorem State.setChin_pending (s : State) (p : Path) (c : ChinCapture) :
    (s.setChin p c).pending = s.pending := by
  cases p <;> rfl

@[simp] theorem State.setChin_free (s : State) (p : Path) (c : ChinCapture) : (s.setChin p c).free = s.free := by
  cases p <;> rfl

@[simp] theorem State.setChin_mem (s : State) (p : Path) (c : ChinCapture) : (s.setChin p c).mem = s.mem := by
  cases p <;> rfl

@[simp] theorem State.setChin_time (s : State) (p : Path) (c : ChinCapture) : (s.setChin p c).time = s.time := by
  cases p <;> rfl

@[simp] theorem State.setChin_cyc (s : State) (p : Path) (c : ChinCapture) : (s.setChin p c).cyc = s.cyc := by
  cases p <;> rfl

@[simp] theorem State.setChin_evq (s : State) (p : Path) (c : ChinCapture) : (s.setChin p c).evq = s.evq := by
  cases p <;> rfl

@[simp] theorem State.setChin_trace (s : State) (p : Path) (c : ChinCapture) : (s.setChin p c).trace = s.trace := by
  cases p <;> rfl

@[simp] theorem State.setChin_cfg (s : State) (p : Path) (c : ChinCapture) : (s.setChin p c).cfg = s.cfg := by
  cases p <;> rfl

@[simp] theorem State.setChin_mode (s : State) (p : Path) (c : ChinCapture) : (s.setChin p c).mode = s.mode := by
  cases p <;> rfl

@[simp] theorem State.setChin_safe (s : State) (p : Path) (c : ChinCapture) : (s.setChin p c).safe = s.safe := by
  cases p <;> rfl

@[simp] theorem State.setChin_supply (s : State) (p : Path) (c : ChinCapture) : (s.setChin p c).supply = s.supply := by
  cases p <;> rfl

@[simp] theorem State.setChin_field (s : State) (p : Path) (c : ChinCapture) : (s.setChin p c).field = s.field := by
  cases p <;> rfl

@[simp] theorem State.setChin_health (s : State) (p : Path) (c : ChinCapture) : (s.setChin p c).health = s.health := by
  cases p <;> rfl

@[simp] theorem State.setChin_inj (s : State) (p : Path) (c : ChinCapture) : (s.setChin p c).inj = s.inj := by
  cases p <;> rfl

@[simp] theorem State.setChin_adc (s : State) (p : Path) (c : ChinCapture) : (s.setChin p c).adc = s.adc := by
  cases p <;> rfl

@[simp] theorem State.setChin_panel (s : State) (p : Path) (c : ChinCapture) : (s.setChin p c).panel = s.panel := by
  cases p <;> rfl

@[simp] theorem State.setChin_wdog (s : State) (p : Path) (c : ChinCapture) : (s.setChin p c).wdog = s.wdog := by
  cases p <;> rfl

@[simp] theorem State.setChin_link (s : State) (p : Path) (c : ChinCapture) : (s.setChin p c).link = s.link := by
  cases p <;> rfl

@[simp] theorem State.setChin_txn (s : State) (p : Path) (c : ChinCapture) : (s.setChin p c).txn = s.txn := by
  cases p <;> rfl

@[simp] theorem State.setChin_sta (s : State) (p : Path) (c : ChinCapture) : (s.setChin p c).sta = s.sta := by
  cases p <;> rfl

@[simp] theorem State.setChin_sec (s : State) (p : Path) (c : ChinCapture) : (s.setChin p c).sec = s.sec := by
  cases p <;> rfl

@[simp] theorem State.setChin_ser (s : State) (p : Path) (c : ChinCapture) : (s.setChin p c).ser = s.ser := by
  cases p <;> rfl

@[simp] theorem State.setChin_media (s : State) (p : Path) (c : ChinCapture) : (s.setChin p c).media = s.media := by
  cases p <;> rfl

@[simp] theorem State.setChin_upd (s : State) (p : Path) (c : ChinCapture) : (s.setChin p c).upd = s.upd := by
  cases p <;> rfl

@[simp] theorem State.setChin_flash (s : State) (p : Path) (c : ChinCapture) : (s.setChin p c).flash = s.flash := by
  cases p <;> rfl

@[simp] theorem State.setChin_tap (s : State) (p : Path) (c : ChinCapture) : (s.setChin p c).tap = s.tap := by
  cases p <;> rfl

@[simp] theorem putTrace_pending (s : State) (source : Byte) (code : Byte) (arg : Nat) :
    (putTrace s source code arg).pending = s.pending := by
  unfold putTrace
  split <;> rfl

@[simp] theorem putTrace_free (s : State) (source : Byte) (code : Byte) (arg : Nat) :
    (putTrace s source code arg).free = s.free := by
  unfold putTrace
  split <;> rfl

@[simp] theorem putTrace_mem (s : State) (source : Byte) (code : Byte) (arg : Nat) :
    (putTrace s source code arg).mem = s.mem := by
  unfold putTrace
  split <;> rfl

@[simp] theorem putTrace_time (s : State) (source : Byte) (code : Byte) (arg : Nat) :
    (putTrace s source code arg).time = s.time := by
  unfold putTrace
  split <;> rfl

@[simp] theorem putTrace_cyc (s : State) (source : Byte) (code : Byte) (arg : Nat) :
    (putTrace s source code arg).cyc = s.cyc := by
  unfold putTrace
  split <;> rfl

@[simp] theorem putTrace_evq (s : State) (source : Byte) (code : Byte) (arg : Nat) :
    (putTrace s source code arg).evq = s.evq := by
  unfold putTrace
  split <;> rfl

@[simp] theorem putTrace_bus (s : State) (source : Byte) (code : Byte) (arg : Nat) :
    (putTrace s source code arg).bus = s.bus := by
  unfold putTrace
  split <;> rfl

@[simp] theorem putTrace_cfg (s : State) (source : Byte) (code : Byte) (arg : Nat) :
    (putTrace s source code arg).cfg = s.cfg := by
  unfold putTrace
  split <;> rfl

@[simp] theorem putTrace_mode (s : State) (source : Byte) (code : Byte) (arg : Nat) :
    (putTrace s source code arg).mode = s.mode := by
  unfold putTrace
  split <;> rfl

@[simp] theorem putTrace_safe (s : State) (source : Byte) (code : Byte) (arg : Nat) :
    (putTrace s source code arg).safe = s.safe := by
  unfold putTrace
  split <;> rfl

@[simp] theorem putTrace_supply (s : State) (source : Byte) (code : Byte) (arg : Nat) :
    (putTrace s source code arg).supply = s.supply := by
  unfold putTrace
  split <;> rfl

@[simp] theorem putTrace_field (s : State) (source : Byte) (code : Byte) (arg : Nat) :
    (putTrace s source code arg).field = s.field := by
  unfold putTrace
  split <;> rfl

@[simp] theorem putTrace_health (s : State) (source : Byte) (code : Byte) (arg : Nat) :
    (putTrace s source code arg).health = s.health := by
  unfold putTrace
  split <;> rfl

@[simp] theorem putTrace_inj (s : State) (source : Byte) (code : Byte) (arg : Nat) :
    (putTrace s source code arg).inj = s.inj := by
  unfold putTrace
  split <;> rfl

@[simp] theorem putTrace_adc (s : State) (source : Byte) (code : Byte) (arg : Nat) :
    (putTrace s source code arg).adc = s.adc := by
  unfold putTrace
  split <;> rfl

@[simp] theorem putTrace_panel (s : State) (source : Byte) (code : Byte) (arg : Nat) :
    (putTrace s source code arg).panel = s.panel := by
  unfold putTrace
  split <;> rfl

@[simp] theorem putTrace_wdog (s : State) (source : Byte) (code : Byte) (arg : Nat) :
    (putTrace s source code arg).wdog = s.wdog := by
  unfold putTrace
  split <;> rfl

@[simp] theorem putTrace_link (s : State) (source : Byte) (code : Byte) (arg : Nat) :
    (putTrace s source code arg).link = s.link := by
  unfold putTrace
  split <;> rfl

@[simp] theorem putTrace_txn (s : State) (source : Byte) (code : Byte) (arg : Nat) :
    (putTrace s source code arg).txn = s.txn := by
  unfold putTrace
  split <;> rfl

@[simp] theorem putTrace_sta (s : State) (source : Byte) (code : Byte) (arg : Nat) :
    (putTrace s source code arg).sta = s.sta := by
  unfold putTrace
  split <;> rfl

@[simp] theorem putTrace_sec (s : State) (source : Byte) (code : Byte) (arg : Nat) :
    (putTrace s source code arg).sec = s.sec := by
  unfold putTrace
  split <;> rfl

@[simp] theorem putTrace_ser (s : State) (source : Byte) (code : Byte) (arg : Nat) :
    (putTrace s source code arg).ser = s.ser := by
  unfold putTrace
  split <;> rfl

@[simp] theorem putTrace_media (s : State) (source : Byte) (code : Byte) (arg : Nat) :
    (putTrace s source code arg).media = s.media := by
  unfold putTrace
  split <;> rfl

@[simp] theorem putTrace_upd (s : State) (source : Byte) (code : Byte) (arg : Nat) :
    (putTrace s source code arg).upd = s.upd := by
  unfold putTrace
  split <;> rfl

@[simp] theorem putTrace_flash (s : State) (source : Byte) (code : Byte) (arg : Nat) :
    (putTrace s source code arg).flash = s.flash := by
  unfold putTrace
  split <;> rfl

@[simp] theorem putTrace_tap (s : State) (source : Byte) (code : Byte) (arg : Nat) :
    (putTrace s source code arg).tap = s.tap := by
  unfold putTrace
  split <;> rfl

@[simp] theorem postQ_pending (s : State) (code : Nat) (argx : Nat) (arg : Word) :
    (postQ s code argx arg).pending = s.pending := by
  unfold postQ
  split <;> rfl

@[simp] theorem postQ_free (s : State) (code : Nat) (argx : Nat) (arg : Word) :
    (postQ s code argx arg).free = s.free := by
  unfold postQ
  split <;> rfl

@[simp] theorem postQ_mem (s : State) (code : Nat) (argx : Nat) (arg : Word) :
    (postQ s code argx arg).mem = s.mem := by
  unfold postQ
  split <;> rfl

@[simp] theorem postQ_time (s : State) (code : Nat) (argx : Nat) (arg : Word) :
    (postQ s code argx arg).time = s.time := by
  unfold postQ
  split <;> rfl

@[simp] theorem postQ_cyc (s : State) (code : Nat) (argx : Nat) (arg : Word) :
    (postQ s code argx arg).cyc = s.cyc := by
  unfold postQ
  split <;> rfl

@[simp] theorem postQ_trace (s : State) (code : Nat) (argx : Nat) (arg : Word) :
    (postQ s code argx arg).trace = s.trace := by
  unfold postQ
  split <;> rfl

@[simp] theorem postQ_bus (s : State) (code : Nat) (argx : Nat) (arg : Word) :
    (postQ s code argx arg).bus = s.bus := by
  unfold postQ
  split <;> rfl

@[simp] theorem postQ_cfg (s : State) (code : Nat) (argx : Nat) (arg : Word) :
    (postQ s code argx arg).cfg = s.cfg := by
  unfold postQ
  split <;> rfl

@[simp] theorem postQ_mode (s : State) (code : Nat) (argx : Nat) (arg : Word) :
    (postQ s code argx arg).mode = s.mode := by
  unfold postQ
  split <;> rfl

@[simp] theorem postQ_safe (s : State) (code : Nat) (argx : Nat) (arg : Word) :
    (postQ s code argx arg).safe = s.safe := by
  unfold postQ
  split <;> rfl

@[simp] theorem postQ_supply (s : State) (code : Nat) (argx : Nat) (arg : Word) :
    (postQ s code argx arg).supply = s.supply := by
  unfold postQ
  split <;> rfl

@[simp] theorem postQ_field (s : State) (code : Nat) (argx : Nat) (arg : Word) :
    (postQ s code argx arg).field = s.field := by
  unfold postQ
  split <;> rfl

@[simp] theorem postQ_health (s : State) (code : Nat) (argx : Nat) (arg : Word) :
    (postQ s code argx arg).health = s.health := by
  unfold postQ
  split <;> rfl

@[simp] theorem postQ_inj (s : State) (code : Nat) (argx : Nat) (arg : Word) :
    (postQ s code argx arg).inj = s.inj := by
  unfold postQ
  split <;> rfl

@[simp] theorem postQ_adc (s : State) (code : Nat) (argx : Nat) (arg : Word) :
    (postQ s code argx arg).adc = s.adc := by
  unfold postQ
  split <;> rfl

@[simp] theorem postQ_panel (s : State) (code : Nat) (argx : Nat) (arg : Word) :
    (postQ s code argx arg).panel = s.panel := by
  unfold postQ
  split <;> rfl

@[simp] theorem postQ_wdog (s : State) (code : Nat) (argx : Nat) (arg : Word) :
    (postQ s code argx arg).wdog = s.wdog := by
  unfold postQ
  split <;> rfl

@[simp] theorem postQ_link (s : State) (code : Nat) (argx : Nat) (arg : Word) :
    (postQ s code argx arg).link = s.link := by
  unfold postQ
  split <;> rfl

@[simp] theorem postQ_txn (s : State) (code : Nat) (argx : Nat) (arg : Word) :
    (postQ s code argx arg).txn = s.txn := by
  unfold postQ
  split <;> rfl

@[simp] theorem postQ_sta (s : State) (code : Nat) (argx : Nat) (arg : Word) :
    (postQ s code argx arg).sta = s.sta := by
  unfold postQ
  split <;> rfl

@[simp] theorem postQ_sec (s : State) (code : Nat) (argx : Nat) (arg : Word) :
    (postQ s code argx arg).sec = s.sec := by
  unfold postQ
  split <;> rfl

@[simp] theorem postQ_ser (s : State) (code : Nat) (argx : Nat) (arg : Word) :
    (postQ s code argx arg).ser = s.ser := by
  unfold postQ
  split <;> rfl

@[simp] theorem postQ_media (s : State) (code : Nat) (argx : Nat) (arg : Word) :
    (postQ s code argx arg).media = s.media := by
  unfold postQ
  split <;> rfl

@[simp] theorem postQ_upd (s : State) (code : Nat) (argx : Nat) (arg : Word) :
    (postQ s code argx arg).upd = s.upd := by
  unfold postQ
  split <;> rfl

@[simp] theorem postQ_flash (s : State) (code : Nat) (argx : Nat) (arg : Word) :
    (postQ s code argx arg).flash = s.flash := by
  unfold postQ
  split <;> rfl

@[simp] theorem postQ_tap (s : State) (code : Nat) (argx : Nat) (arg : Word) :
    (postQ s code argx arg).tap = s.tap := by
  unfold postQ
  split <;> rfl

@[simp] theorem post_pending (s : State) (code : Nat) (argx : Nat) (arg : Word) :
    (post s code argx arg).pending = s.pending := by
  simp [post]

@[simp] theorem post_free (s : State) (code : Nat) (argx : Nat) (arg : Word) :
    (post s code argx arg).free = s.free := by
  simp [post]

@[simp] theorem post_mem (s : State) (code : Nat) (argx : Nat) (arg : Word) : (post s code argx arg).mem = s.mem := by
  simp [post]

@[simp] theorem post_time (s : State) (code : Nat) (argx : Nat) (arg : Word) :
    (post s code argx arg).time = s.time := by
  simp [post]

@[simp] theorem post_cyc (s : State) (code : Nat) (argx : Nat) (arg : Word) : (post s code argx arg).cyc = s.cyc := by
  simp [post]

@[simp] theorem post_bus (s : State) (code : Nat) (argx : Nat) (arg : Word) : (post s code argx arg).bus = s.bus := by
  simp [post]

@[simp] theorem post_cfg (s : State) (code : Nat) (argx : Nat) (arg : Word) : (post s code argx arg).cfg = s.cfg := by
  simp [post]

@[simp] theorem post_mode (s : State) (code : Nat) (argx : Nat) (arg : Word) :
    (post s code argx arg).mode = s.mode := by
  simp [post]

@[simp] theorem post_safe (s : State) (code : Nat) (argx : Nat) (arg : Word) :
    (post s code argx arg).safe = s.safe := by
  simp [post]

@[simp] theorem post_supply (s : State) (code : Nat) (argx : Nat) (arg : Word) :
    (post s code argx arg).supply = s.supply := by
  simp [post]

@[simp] theorem post_field (s : State) (code : Nat) (argx : Nat) (arg : Word) :
    (post s code argx arg).field = s.field := by
  simp [post]

@[simp] theorem post_health (s : State) (code : Nat) (argx : Nat) (arg : Word) :
    (post s code argx arg).health = s.health := by
  simp [post]

@[simp] theorem post_inj (s : State) (code : Nat) (argx : Nat) (arg : Word) : (post s code argx arg).inj = s.inj := by
  simp [post]

@[simp] theorem post_adc (s : State) (code : Nat) (argx : Nat) (arg : Word) : (post s code argx arg).adc = s.adc := by
  simp [post]

@[simp] theorem post_panel (s : State) (code : Nat) (argx : Nat) (arg : Word) :
    (post s code argx arg).panel = s.panel := by
  simp [post]

@[simp] theorem post_wdog (s : State) (code : Nat) (argx : Nat) (arg : Word) :
    (post s code argx arg).wdog = s.wdog := by
  simp [post]

@[simp] theorem post_link (s : State) (code : Nat) (argx : Nat) (arg : Word) :
    (post s code argx arg).link = s.link := by
  simp [post]

@[simp] theorem post_txn (s : State) (code : Nat) (argx : Nat) (arg : Word) : (post s code argx arg).txn = s.txn := by
  simp [post]

@[simp] theorem post_sta (s : State) (code : Nat) (argx : Nat) (arg : Word) : (post s code argx arg).sta = s.sta := by
  simp [post]

@[simp] theorem post_sec (s : State) (code : Nat) (argx : Nat) (arg : Word) : (post s code argx arg).sec = s.sec := by
  simp [post]

@[simp] theorem post_ser (s : State) (code : Nat) (argx : Nat) (arg : Word) : (post s code argx arg).ser = s.ser := by
  simp [post]

@[simp] theorem post_media (s : State) (code : Nat) (argx : Nat) (arg : Word) :
    (post s code argx arg).media = s.media := by
  simp [post]

@[simp] theorem post_upd (s : State) (code : Nat) (argx : Nat) (arg : Word) : (post s code argx arg).upd = s.upd := by
  simp [post]

@[simp] theorem post_flash (s : State) (code : Nat) (argx : Nat) (arg : Word) :
    (post s code argx arg).flash = s.flash := by
  simp [post]

@[simp] theorem post_tap (s : State) (code : Nat) (argx : Nat) (arg : Word) : (post s code argx arg).tap = s.tap := by
  simp [post]

@[simp] theorem detail_pending (s : State) (code : Nat) (arg48 : Nat) : (detail s code arg48).pending = s.pending := by
  unfold detail
  split <;> simp

@[simp] theorem detail_free (s : State) (code : Nat) (arg48 : Nat) : (detail s code arg48).free = s.free := by
  unfold detail
  split <;> simp

@[simp] theorem detail_mem (s : State) (code : Nat) (arg48 : Nat) : (detail s code arg48).mem = s.mem := by
  unfold detail
  split <;> simp

@[simp] theorem detail_time (s : State) (code : Nat) (arg48 : Nat) : (detail s code arg48).time = s.time := by
  unfold detail
  split <;> simp

@[simp] theorem detail_cyc (s : State) (code : Nat) (arg48 : Nat) : (detail s code arg48).cyc = s.cyc := by
  unfold detail
  split <;> simp

@[simp] theorem detail_evq (s : State) (code : Nat) (arg48 : Nat) : (detail s code arg48).evq = s.evq := by
  unfold detail
  split <;> simp

@[simp] theorem detail_bus (s : State) (code : Nat) (arg48 : Nat) : (detail s code arg48).bus = s.bus := by
  unfold detail
  split <;> simp

@[simp] theorem detail_cfg (s : State) (code : Nat) (arg48 : Nat) : (detail s code arg48).cfg = s.cfg := by
  unfold detail
  split <;> simp

@[simp] theorem detail_mode (s : State) (code : Nat) (arg48 : Nat) : (detail s code arg48).mode = s.mode := by
  unfold detail
  split <;> simp

@[simp] theorem detail_safe (s : State) (code : Nat) (arg48 : Nat) : (detail s code arg48).safe = s.safe := by
  unfold detail
  split <;> simp

@[simp] theorem detail_supply (s : State) (code : Nat) (arg48 : Nat) : (detail s code arg48).supply = s.supply := by
  unfold detail
  split <;> simp

@[simp] theorem detail_field (s : State) (code : Nat) (arg48 : Nat) : (detail s code arg48).field = s.field := by
  unfold detail
  split <;> simp

@[simp] theorem detail_health (s : State) (code : Nat) (arg48 : Nat) : (detail s code arg48).health = s.health := by
  unfold detail
  split <;> simp

@[simp] theorem detail_inj (s : State) (code : Nat) (arg48 : Nat) : (detail s code arg48).inj = s.inj := by
  unfold detail
  split <;> simp

@[simp] theorem detail_adc (s : State) (code : Nat) (arg48 : Nat) : (detail s code arg48).adc = s.adc := by
  unfold detail
  split <;> simp

@[simp] theorem detail_panel (s : State) (code : Nat) (arg48 : Nat) : (detail s code arg48).panel = s.panel := by
  unfold detail
  split <;> simp

@[simp] theorem detail_wdog (s : State) (code : Nat) (arg48 : Nat) : (detail s code arg48).wdog = s.wdog := by
  unfold detail
  split <;> simp

@[simp] theorem detail_link (s : State) (code : Nat) (arg48 : Nat) : (detail s code arg48).link = s.link := by
  unfold detail
  split <;> simp

@[simp] theorem detail_txn (s : State) (code : Nat) (arg48 : Nat) : (detail s code arg48).txn = s.txn := by
  unfold detail
  split <;> simp

@[simp] theorem detail_sta (s : State) (code : Nat) (arg48 : Nat) : (detail s code arg48).sta = s.sta := by
  unfold detail
  split <;> simp

@[simp] theorem detail_sec (s : State) (code : Nat) (arg48 : Nat) : (detail s code arg48).sec = s.sec := by
  unfold detail
  split <;> simp

@[simp] theorem detail_ser (s : State) (code : Nat) (arg48 : Nat) : (detail s code arg48).ser = s.ser := by
  unfold detail
  split <;> simp

@[simp] theorem detail_media (s : State) (code : Nat) (arg48 : Nat) : (detail s code arg48).media = s.media := by
  unfold detail
  split <;> simp

@[simp] theorem detail_upd (s : State) (code : Nat) (arg48 : Nat) : (detail s code arg48).upd = s.upd := by
  unfold detail
  split <;> simp

@[simp] theorem detail_flash (s : State) (code : Nat) (arg48 : Nat) : (detail s code arg48).flash = s.flash := by
  unfold detail
  split <;> simp

@[simp] theorem detail_tap (s : State) (code : Nat) (arg48 : Nat) : (detail s code arg48).tap = s.tap := by
  unfold detail
  split <;> simp

@[simp] theorem timeJudge_pending (s : State) : (timeJudge s).pending = s.pending := by
  unfold timeJudge seeFine withTimeOk
  dsimp only
  repeat' split
  all_goals simp

@[simp] theorem timeJudge_free (s : State) : (timeJudge s).free = s.free := by
  unfold timeJudge seeFine withTimeOk
  dsimp only
  repeat' split
  all_goals simp

@[simp] theorem timeJudge_mem (s : State) : (timeJudge s).mem = s.mem := by
  unfold timeJudge seeFine withTimeOk
  dsimp only
  repeat' split
  all_goals simp

@[simp] theorem timeJudge_cyc (s : State) : (timeJudge s).cyc = s.cyc := by
  unfold timeJudge seeFine withTimeOk
  dsimp only
  repeat' split
  all_goals simp

@[simp] theorem timeJudge_bus (s : State) : (timeJudge s).bus = s.bus := by
  unfold timeJudge seeFine withTimeOk
  dsimp only
  repeat' split
  all_goals simp

@[simp] theorem timeJudge_cfg (s : State) : (timeJudge s).cfg = s.cfg := by
  unfold timeJudge seeFine withTimeOk
  dsimp only
  repeat' split
  all_goals simp

@[simp] theorem timeJudge_mode (s : State) : (timeJudge s).mode = s.mode := by
  unfold timeJudge seeFine withTimeOk
  dsimp only
  repeat' split
  all_goals simp

@[simp] theorem timeJudge_safe (s : State) : (timeJudge s).safe = s.safe := by
  unfold timeJudge seeFine withTimeOk
  dsimp only
  repeat' split
  all_goals simp

@[simp] theorem timeJudge_supply (s : State) : (timeJudge s).supply = s.supply := by
  unfold timeJudge seeFine withTimeOk
  dsimp only
  repeat' split
  all_goals simp

@[simp] theorem timeJudge_field (s : State) : (timeJudge s).field = s.field := by
  unfold timeJudge seeFine withTimeOk
  dsimp only
  repeat' split
  all_goals simp

@[simp] theorem timeJudge_health (s : State) : (timeJudge s).health = s.health := by
  unfold timeJudge seeFine withTimeOk
  dsimp only
  repeat' split
  all_goals simp

@[simp] theorem timeJudge_inj (s : State) : (timeJudge s).inj = s.inj := by
  unfold timeJudge seeFine withTimeOk
  dsimp only
  repeat' split
  all_goals simp

@[simp] theorem timeJudge_adc (s : State) : (timeJudge s).adc = s.adc := by
  unfold timeJudge seeFine withTimeOk
  dsimp only
  repeat' split
  all_goals simp

@[simp] theorem timeJudge_panel (s : State) : (timeJudge s).panel = s.panel := by
  unfold timeJudge seeFine withTimeOk
  dsimp only
  repeat' split
  all_goals simp

@[simp] theorem timeJudge_wdog (s : State) : (timeJudge s).wdog = s.wdog := by
  unfold timeJudge seeFine withTimeOk
  dsimp only
  repeat' split
  all_goals simp

@[simp] theorem timeJudge_link (s : State) : (timeJudge s).link = s.link := by
  unfold timeJudge seeFine withTimeOk
  dsimp only
  repeat' split
  all_goals simp

@[simp] theorem timeJudge_txn (s : State) : (timeJudge s).txn = s.txn := by
  unfold timeJudge seeFine withTimeOk
  dsimp only
  repeat' split
  all_goals simp

@[simp] theorem timeJudge_sec (s : State) : (timeJudge s).sec = s.sec := by
  unfold timeJudge seeFine withTimeOk
  dsimp only
  repeat' split
  all_goals simp

@[simp] theorem timeJudge_ser (s : State) : (timeJudge s).ser = s.ser := by
  unfold timeJudge seeFine withTimeOk
  dsimp only
  repeat' split
  all_goals simp

@[simp] theorem timeJudge_media (s : State) : (timeJudge s).media = s.media := by
  unfold timeJudge seeFine withTimeOk
  dsimp only
  repeat' split
  all_goals simp

@[simp] theorem timeJudge_upd (s : State) : (timeJudge s).upd = s.upd := by
  unfold timeJudge seeFine withTimeOk
  dsimp only
  repeat' split
  all_goals simp

@[simp] theorem timeJudge_flash (s : State) : (timeJudge s).flash = s.flash := by
  unfold timeJudge seeFine withTimeOk
  dsimp only
  repeat' split
  all_goals simp

@[simp] theorem timeJudge_tap (s : State) : (timeJudge s).tap = s.tap := by
  unfold timeJudge seeFine withTimeOk
  dsimp only
  repeat' split
  all_goals simp

@[simp] theorem tick_pending (s : State) : (tick s).pending = s.pending := by
  unfold tick
  split <;> simp

@[simp] theorem tick_free (s : State) : (tick s).free = s.free := by
  unfold tick
  split <;> simp

@[simp] theorem tick_mem (s : State) : (tick s).mem = s.mem := by
  unfold tick
  split <;> simp

@[simp] theorem tick_cyc (s : State) : (tick s).cyc = s.cyc := by
  unfold tick
  split <;> simp

@[simp] theorem tick_bus (s : State) : (tick s).bus = s.bus := by
  unfold tick
  split <;> simp

@[simp] theorem tick_cfg (s : State) : (tick s).cfg = s.cfg := by
  unfold tick
  split <;> simp

@[simp] theorem tick_mode (s : State) : (tick s).mode = s.mode := by
  unfold tick
  split <;> simp

@[simp] theorem tick_safe (s : State) : (tick s).safe = s.safe := by
  unfold tick
  split <;> simp

@[simp] theorem tick_supply (s : State) : (tick s).supply = s.supply := by
  unfold tick
  split <;> simp

@[simp] theorem tick_field (s : State) : (tick s).field = s.field := by
  unfold tick
  split <;> simp

@[simp] theorem tick_health (s : State) : (tick s).health = s.health := by
  unfold tick
  split <;> simp

@[simp] theorem tick_inj (s : State) : (tick s).inj = s.inj := by
  unfold tick
  split <;> simp

@[simp] theorem tick_adc (s : State) : (tick s).adc = s.adc := by
  unfold tick
  split <;> simp

@[simp] theorem tick_panel (s : State) : (tick s).panel = s.panel := by
  unfold tick
  split <;> simp

@[simp] theorem tick_wdog (s : State) : (tick s).wdog = s.wdog := by
  unfold tick
  split <;> simp

@[simp] theorem tick_link (s : State) : (tick s).link = s.link := by
  unfold tick
  split <;> simp

@[simp] theorem tick_txn (s : State) : (tick s).txn = s.txn := by
  unfold tick
  split <;> simp

@[simp] theorem tick_sec (s : State) : (tick s).sec = s.sec := by
  unfold tick
  split <;> simp

@[simp] theorem tick_ser (s : State) : (tick s).ser = s.ser := by
  unfold tick
  split <;> simp

@[simp] theorem tick_media (s : State) : (tick s).media = s.media := by
  unfold tick
  split <;> simp

@[simp] theorem tick_upd (s : State) : (tick s).upd = s.upd := by
  unfold tick
  split <;> simp

@[simp] theorem tick_flash (s : State) : (tick s).flash = s.flash := by
  unfold tick
  split <;> simp

@[simp] theorem tick_tap (s : State) : (tick s).tap = s.tap := by
  unfold tick
  split <;> simp

@[simp] theorem setTapIns_pending (s : State) (i : TapIns) : (setTapIns s i).pending = s.pending := rfl

@[simp] theorem setTapIns_free (s : State) (i : TapIns) : (setTapIns s i).free = s.free := rfl

@[simp] theorem setTapIns_mem (s : State) (i : TapIns) : (setTapIns s i).mem = s.mem := rfl

@[simp] theorem setTapIns_time (s : State) (i : TapIns) : (setTapIns s i).time = s.time := rfl

@[simp] theorem setTapIns_cyc (s : State) (i : TapIns) : (setTapIns s i).cyc = s.cyc := rfl

@[simp] theorem setTapIns_evq (s : State) (i : TapIns) : (setTapIns s i).evq = s.evq := rfl

@[simp] theorem setTapIns_trace (s : State) (i : TapIns) : (setTapIns s i).trace = s.trace := rfl

@[simp] theorem setTapIns_bus (s : State) (i : TapIns) : (setTapIns s i).bus = s.bus := rfl

@[simp] theorem setTapIns_cfg (s : State) (i : TapIns) : (setTapIns s i).cfg = s.cfg := rfl

@[simp] theorem setTapIns_mode (s : State) (i : TapIns) : (setTapIns s i).mode = s.mode := rfl

@[simp] theorem setTapIns_safe (s : State) (i : TapIns) : (setTapIns s i).safe = s.safe := rfl

@[simp] theorem setTapIns_supply (s : State) (i : TapIns) : (setTapIns s i).supply = s.supply := rfl

@[simp] theorem setTapIns_field (s : State) (i : TapIns) : (setTapIns s i).field = s.field := rfl

@[simp] theorem setTapIns_health (s : State) (i : TapIns) : (setTapIns s i).health = s.health := rfl

@[simp] theorem setTapIns_inj (s : State) (i : TapIns) : (setTapIns s i).inj = s.inj := rfl

@[simp] theorem setTapIns_adc (s : State) (i : TapIns) : (setTapIns s i).adc = s.adc := rfl

@[simp] theorem setTapIns_panel (s : State) (i : TapIns) : (setTapIns s i).panel = s.panel := rfl

@[simp] theorem setTapIns_wdog (s : State) (i : TapIns) : (setTapIns s i).wdog = s.wdog := rfl

@[simp] theorem setTapIns_link (s : State) (i : TapIns) : (setTapIns s i).link = s.link := rfl

@[simp] theorem setTapIns_txn (s : State) (i : TapIns) : (setTapIns s i).txn = s.txn := rfl

@[simp] theorem setTapIns_sta (s : State) (i : TapIns) : (setTapIns s i).sta = s.sta := rfl

@[simp] theorem setTapIns_sec (s : State) (i : TapIns) : (setTapIns s i).sec = s.sec := rfl

@[simp] theorem setTapIns_ser (s : State) (i : TapIns) : (setTapIns s i).ser = s.ser := rfl

@[simp] theorem setTapIns_media (s : State) (i : TapIns) : (setTapIns s i).media = s.media := rfl

@[simp] theorem setTapIns_upd (s : State) (i : TapIns) : (setTapIns s i).upd = s.upd := rfl

@[simp] theorem setTapIns_flash (s : State) (i : TapIns) : (setTapIns s i).flash = s.flash := rfl

/-! ### What an update writes -/

@[simp] theorem State.store_mem (s : State) (a : Nat) (l : List Byte) : (s.store a l).mem = memPuts s.mem a l := rfl

@[simp] theorem State.reason_mode (s : State) (r : Word) : (s.reason r).mode = { s.mode with reason := r } := rfl

@[simp] theorem State.takeFree_free (s : State) : s.takeFree.2.free = s.free + 1 := rfl

@[simp] theorem State.setTxn_txn (s : State) (t : Txn) :
    (s.setTxn t).txn = { s.txn with held := putTxn s.txn.held t } := rfl

@[simp] theorem State.setReader_media (s : State) (r : Reader) :
    (s.setReader r).media = { s.media with reader := some r } := rfl

@[simp] theorem setTapIns_tap (s : State) (i : TapIns) : (setTapIns s i).tap.ins = i := rfl

/-- An instant that has passed leaves line time as it is; -/
@[simp] theorem reachLine_passed (now t : Nat) (h : t ≤ now) : reachLine now t = now := by
  simp [reachLine, h]

/-- a reached one has come, where the count does not wrap. -/
theorem le_reachLine (now t : Nat) (h : t + 4 ≤ 2 ^ 64) : t ≤ reachLine now t := by
  unfold reachLine wrap64
  split <;> omega

/-- Of line time, an instant changes the count, and the share that a slew in progress has had. -/
@[simp] theorem State.reach_time (s : State) (t : Nat) :
    (s.reach t).time =
      { s.time with line := reachLine s.time.line t
                    slewN := s.time.slewN + (reachLine s.time.line t - s.time.line) } := rfl

theorem setAt_getD {α : Type} (l : List α) (n : Nat) (a d : α) (h : n < l.length) : (setAt l n a).getD n d = a := by
  induction l generalizing n with
  | nil => simp at h
  | cons x r ih =>
    cases n with
    | zero => simp [setAt]
    | succ k => simpa [setAt] using ih k (by simpa using h)

theorem setAt_getD_ne {α : Type} (l : List α) (n m : Nat) (a d : α) (h : n ≠ m) : (setAt l n a).getD m d = l.getD m d := by
  induction l generalizing n m with
  | nil => simp [setAt]
  | cons x r ih =>
    cases n with
    | zero =>
      cases m with
      | zero => exact absurd rfl h
      | succ j => simp [setAt]
    | succ k =>
      cases m with
      | zero => simp [setAt]
      | succ j => simpa [setAt] using ih k j (by omega)

@[simp] theorem setAt_length {α : Type} (l : List α) (n : Nat) (a : α) : (setAt l n a).length = l.length := by
  induction l generalizing n with
  | nil => rfl
  | cons x r ih =>
    cases n with
    | zero => rfl
    | succ k => simp [setAt, ih]

/-- A channel that an operation works on holds what the operation makes of it, -/
theorem chan_onChan (s : State) (n : Nat) (f : Chan → Chan) (h : n < s.field.chans.length) :
    chan (s.onChan n f) n = f (chan s n) := setAt_getD _ _ _ _ h

/-- and every other channel stays. -/
theorem chan_onChan_ne (s : State) (n m : Nat) (f : Chan → Chan) (h : n ≠ m) : chan (s.onChan n f) m = chan s m :=
  setAt_getD_ne _ _ _ _ _ h

end Sys2Proof.Machine
end

