-- ==== Sys2Proof/Laws/Shared.lean ====
section
/-! SUPPORT. Shared: what the operations that many commands share answer, in the words of Safety, one lemma for each: an access
of a path, an accepted descriptor, a held transaction, a frame that passes, a write of a register. -/

namespace Sys2Proof.Machine

open Sys2Proof

-- One proof at a time: in the package as one text, proofs checked side by side ask for too many threads.
set_option Elab.async false

/-! ### An access of a path -/

@[simp] theorem acting_pending (s : State) (p : Path) : (acting s p).pending = s.pending :=
  (beginWrite_kept (kp := fun _ => false) (s0 := s) _ p (hostAccess_kept s p (Kept.refl _ s) rfl rfl) rfl).pending

@[simp] theorem acting_free (s : State) (p : Path) : (acting s p).free = s.free :=
  (beginWrite_kept (kp := (· == .free)) (s0 := s) _ p (hostAccess_kept s p (Kept.refl _ s) rfl rfl) rfl).same .free rfl

@[simp] theorem acting_time (s : State) (p : Path) : (acting s p).time = s.time :=
  (beginWrite_kept (kp := (· == .time)) (s0 := s) _ p (hostAccess_kept s p (Kept.refl _ s) rfl rfl) rfl).same .time rfl

@[simp] theorem acting_cyc (s : State) (p : Path) : (acting s p).cyc = s.cyc :=
  (beginWrite_kept (kp := (· == .cyc)) (s0 := s) _ p (hostAccess_kept s p (Kept.refl _ s) rfl rfl) rfl).same .cyc rfl

@[simp] theorem acting_evq (s : State) (p : Path) : (acting s p).evq = s.evq :=
  (beginWrite_kept (kp := (· == .evq)) (s0 := s) _ p (hostAccess_kept s p (Kept.refl _ s) rfl rfl) rfl).same .evq rfl

@[simp] theorem acting_trace (s : State) (p : Path) : (acting s p).trace = s.trace :=
  (beginWrite_kept (kp := (· == .trace)) (s0 := s) _ p (hostAccess_kept s p (Kept.refl _ s) rfl rfl) rfl).same .trace rfl

@[simp] theorem acting_cfg (s : State) (p : Path) : (acting s p).cfg = s.cfg :=
  (beginWrite_kept (kp := (· == .cfg)) (s0 := s) _ p (hostAccess_kept s p (Kept.refl _ s) rfl rfl) rfl).same .cfg rfl

@[simp] theorem acting_mode (s : State) (p : Path) : (acting s p).mode = s.mode :=
  (beginWrite_kept (kp := (· == .mode)) (s0 := s) _ p (hostAccess_kept s p (Kept.refl _ s) rfl rfl) rfl).same .mode rfl

@[simp] theorem acting_safe (s : State) (p : Path) : (acting s p).safe = s.safe :=
  (beginWrite_kept (kp := (· == .safe)) (s0 := s) _ p (hostAccess_kept s p (Kept.refl _ s) rfl rfl) rfl).same .safe rfl

@[simp] theorem acting_supply (s : State) (p : Path) : (acting s p).supply = s.supply :=
  (beginWrite_kept (kp := (· == .supply)) (s0 := s) _ p (hostAccess_kept s p (Kept.refl _ s) rfl rfl) rfl).same .supply rfl

@[simp] theorem acting_field (s : State) (p : Path) : (acting s p).field = s.field :=
  (beginWrite_kept (kp := (· == .field)) (s0 := s) _ p (hostAccess_kept s p (Kept.refl _ s) rfl rfl) rfl).same .field rfl

@[simp] theorem acting_health (s : State) (p : Path) : (acting s p).health = s.health :=
  (beginWrite_kept (kp := (· == .health)) (s0 := s) _ p (hostAccess_kept s p (Kept.refl _ s) rfl rfl) rfl).same .health rfl

@[simp] theorem acting_inj (s : State) (p : Path) : (acting s p).inj = s.inj :=
  (beginWrite_kept (kp := (· == .inj)) (s0 := s) _ p (hostAccess_kept s p (Kept.refl _ s) rfl rfl) rfl).same .inj rfl

@[simp] theorem acting_adc (s : State) (p : Path) : (acting s p).adc = s.adc :=
  (beginWrite_kept (kp := (· == .adc)) (s0 := s) _ p (hostAccess_kept s p (Kept.refl _ s) rfl rfl) rfl).same .adc rfl

@[simp] theorem acting_panel (s : State) (p : Path) : (acting s p).panel = s.panel :=
  (beginWrite_kept (kp := (· == .panel)) (s0 := s) _ p (hostAccess_kept s p (Kept.refl _ s) rfl rfl) rfl).same .panel rfl

@[simp] theorem acting_wdog (s : State) (p : Path) : (acting s p).wdog = s.wdog :=
  (beginWrite_kept (kp := (· == .wdog)) (s0 := s) _ p (hostAccess_kept s p (Kept.refl _ s) rfl rfl) rfl).same .wdog rfl

@[simp] theorem acting_link (s : State) (p : Path) : (acting s p).link = s.link :=
  (beginWrite_kept (kp := (· == .link)) (s0 := s) _ p (hostAccess_kept s p (Kept.refl _ s) rfl rfl) rfl).same .link rfl

@[simp] theorem acting_txn (s : State) (p : Path) : (acting s p).txn = s.txn :=
  (beginWrite_kept (kp := (· == .txn)) (s0 := s) _ p (hostAccess_kept s p (Kept.refl _ s) rfl rfl) rfl).same .txn rfl

@[simp] theorem acting_sta (s : State) (p : Path) : (acting s p).sta = s.sta :=
  (beginWrite_kept (kp := (· == .sta)) (s0 := s) _ p (hostAccess_kept s p (Kept.refl _ s) rfl rfl) rfl).same .sta rfl

@[simp] theorem acting_sec (s : State) (p : Path) : (acting s p).sec = s.sec :=
  (beginWrite_kept (kp := (· == .sec)) (s0 := s) _ p (hostAccess_kept s p (Kept.refl _ s) rfl rfl) rfl).same .sec rfl

@[simp] theorem acting_ser (s : State) (p : Path) : (acting s p).ser = s.ser :=
  (beginWrite_kept (kp := (· == .ser)) (s0 := s) _ p (hostAccess_kept s p (Kept.refl _ s) rfl rfl) rfl).same .ser rfl

@[simp] theorem acting_media (s : State) (p : Path) : (acting s p).media = s.media :=
  (beginWrite_kept (kp := (· == .media)) (s0 := s) _ p (hostAccess_kept s p (Kept.refl _ s) rfl rfl) rfl).same .media rfl

@[simp] theorem acting_upd (s : State) (p : Path) : (acting s p).upd = s.upd :=
  (beginWrite_kept (kp := (· == .upd)) (s0 := s) _ p (hostAccess_kept s p (Kept.refl _ s) rfl rfl) rfl).same .upd rfl

@[simp] theorem acting_flash (s : State) (p : Path) : (acting s p).flash = s.flash :=
  (beginWrite_kept (kp := (· == .flash)) (s0 := s) _ p (hostAccess_kept s p (Kept.refl _ s) rfl rfl) rfl).same .flash rfl

@[simp] theorem acting_tap (s : State) (p : Path) : (acting s p).tap = s.tap :=
  (beginWrite_kept (kp := (· == .tap)) (s0 := s) _ p (hostAccess_kept s p (Kept.refl _ s) rfl rfl) rfl).same .tap rfl

@[simp] theorem reading_free (s : State) (p : Path) : (reading s p).free = s.free :=
  (hostAccess_kept (kp := (· == .free)) (s0 := s) s p (Kept.refl _ s) rfl rfl).same .free rfl

@[simp] theorem reading_time (s : State) (p : Path) : (reading s p).time = s.time :=
  (hostAccess_kept (kp := (· == .time)) (s0 := s) s p (Kept.refl _ s) rfl rfl).same .time rfl

@[simp] theorem reading_cyc (s : State) (p : Path) : (reading s p).cyc = s.cyc :=
  (hostAccess_kept (kp := (· == .cyc)) (s0 := s) s p (Kept.refl _ s) rfl rfl).same .cyc rfl

@[simp] theorem reading_evq (s : State) (p : Path) : (reading s p).evq = s.evq :=
  (hostAccess_kept (kp := (· == .evq)) (s0 := s) s p (Kept.refl _ s) rfl rfl).same .evq rfl

@[simp] theorem reading_trace (s : State) (p : Path) : (reading s p).trace = s.trace :=
  (hostAccess_kept (kp := (· == .trace)) (s0 := s) s p (Kept.refl _ s) rfl rfl).same .trace rfl

@[simp] theorem reading_cfg (s : State) (p : Path) : (reading s p).cfg = s.cfg :=
  (hostAccess_kept (kp := (· == .cfg)) (s0 := s) s p (Kept.refl _ s) rfl rfl).same .cfg rfl

@[simp] theorem reading_mode (s : State) (p : Path) : (reading s p).mode = s.mode :=
  (hostAccess_kept (kp := (· == .mode)) (s0 := s) s p (Kept.refl _ s) rfl rfl).same .mode rfl

@[simp] theorem reading_safe (s : State) (p : Path) : (reading s p).safe = s.safe :=
  (hostAccess_kept (kp := (· == .safe)) (s0 := s) s p (Kept.refl _ s) rfl rfl).same .safe rfl

@[simp] theorem reading_supply (s : State) (p : Path) : (reading s p).supply = s.supply :=
  (hostAccess_kept (kp := (· == .supply)) (s0 := s) s p (Kept.refl _ s) rfl rfl).same .supply rfl

@[simp] theorem reading_field (s : State) (p : Path) : (reading s p).field = s.field :=
  (hostAccess_kept (kp := (· == .field)) (s0 := s) s p (Kept.refl _ s) rfl rfl).same .field rfl

@[simp] theorem reading_health (s : State) (p : Path) : (reading s p).health = s.health :=
  (hostAccess_kept (kp := (· == .health)) (s0 := s) s p (Kept.refl _ s) rfl rfl).same .health rfl

@[simp] theorem reading_inj (s : State) (p : Path) : (reading s p).inj = s.inj :=
  (hostAccess_kept (kp := (· == .inj)) (s0 := s) s p (Kept.refl _ s) rfl rfl).same .inj rfl

@[simp] theorem reading_adc (s : State) (p : Path) : (reading s p).adc = s.adc :=
  (hostAccess_kept (kp := (· == .adc)) (s0 := s) s p (Kept.refl _ s) rfl rfl).same .adc rfl

@[simp] theorem reading_panel (s : State) (p : Path) : (reading s p).panel = s.panel :=
  (hostAccess_kept (kp := (· == .panel)) (s0 := s) s p (Kept.refl _ s) rfl rfl).same .panel rfl

@[simp] theorem reading_wdog (s : State) (p : Path) : (reading s p).wdog = s.wdog :=
  (hostAccess_kept (kp := (· == .wdog)) (s0 := s) s p (Kept.refl _ s) rfl rfl).same .wdog rfl

@[simp] theorem reading_link (s : State) (p : Path) : (reading s p).link = s.link :=
  (hostAccess_kept (kp := (· == .link)) (s0 := s) s p (Kept.refl _ s) rfl rfl).same .link rfl

@[simp] theorem reading_txn (s : State) (p : Path) : (reading s p).txn = s.txn :=
  (hostAccess_kept (kp := (· == .txn)) (s0 := s) s p (Kept.refl _ s) rfl rfl).same .txn rfl

@[simp] theorem reading_sta (s : State) (p : Path) : (reading s p).sta = s.sta :=
  (hostAccess_kept (kp := (· == .sta)) (s0 := s) s p (Kept.refl _ s) rfl rfl).same .sta rfl

@[simp] theorem reading_sec (s : State) (p : Path) : (reading s p).sec = s.sec :=
  (hostAccess_kept (kp := (· == .sec)) (s0 := s) s p (Kept.refl _ s) rfl rfl).same .sec rfl

@[simp] theorem reading_ser (s : State) (p : Path) : (reading s p).ser = s.ser :=
  (hostAccess_kept (kp := (· == .ser)) (s0 := s) s p (Kept.refl _ s) rfl rfl).same .ser rfl

@[simp] theorem reading_media (s : State) (p : Path) : (reading s p).media = s.media :=
  (hostAccess_kept (kp := (· == .media)) (s0 := s) s p (Kept.refl _ s) rfl rfl).same .media rfl

@[simp] theorem reading_upd (s : State) (p : Path) : (reading s p).upd = s.upd :=
  (hostAccess_kept (kp := (· == .upd)) (s0 := s) s p (Kept.refl _ s) rfl rfl).same .upd rfl

@[simp] theorem reading_flash (s : State) (p : Path) : (reading s p).flash = s.flash :=
  (hostAccess_kept (kp := (· == .flash)) (s0 := s) s p (Kept.refl _ s) rfl rfl).same .flash rfl

@[simp] theorem reading_tap (s : State) (p : Path) : (reading s p).tap = s.tap :=
  (hostAccess_kept (kp := (· == .tap)) (s0 := s) s p (Kept.refl _ s) rfl rfl).same .tap rfl

/-- A register write of a path outside MINIMAL reaches its effect, with the core woken where it is needed (R192, R194). -/
theorem regWrite_eq {s : State} {p : Path} {a : Nat} {min core : Bool} {f : State → Done} (h1 : s.mode.mode ≠ .minimal)
    (h3 : core = true → s.mode.coreReset = false) :
    regWrite (hostAccess s p) (accNow s p) a min core f = f (if core then wake (acting s p) 4 else acting s p) := by
  have hm : (s.mode.mode == Mode.minimal) = false := by simpa using h1
  have e := acting_mode s p
  simp only [acting] at e
  cases core
  · simp [regWrite, accNow, acting, hm]
  · simp [regWrite, accNow, acting, hm, e, h3]

/-- A descriptor that passes every check of R180 and R181 is outstanding, and its command starts. -/
theorem postFrom_eq {s : State} {p : Path} {d : Descriptor} {code : Nat} (run : Descriptor → State → State)
    (h : Accepted s p { d with code }) :
    postFrom s p d code run = .next (run { d with code } (posted s p { d with code })) := by
  have h1 := h.served
  have h3 := h.room
  have h4 := h.code
  have h6 := h.fields
  have h7 := h.fresh
  have h8 := h.below
  have h9 := acting_mode s p
  simp only [acting] at h3 h7 h8 h9
  have h2 : (p != .line) = true := by
    have := h.local_
    cases p <;> simp_all
  have h5 : (s.mode.mode == .minimal && code != 1) = false := by
    rcases h.mode with h5 | h5
    · simp [h5]
    · simp only at h5
      simp [h5]
  simp only [postFrom, h1, h2, Bool.and_self, if_true, postDesc, h3, if_false, h4, Bool.not_true,
    Bool.false_eq_true, h9, h5, h6, h7, h8, posted, acting]

/-- A held transaction of that opcode, its lifetime not over, executes (R126, R134). -/
theorem withTxn_eq {s : State} {b a : Bool} {tag op : Nat} {t : Txn} (h : Held s b a tag op t) (f : State → Txn → State) :
    withTxn s b a tag op f = .next (f s t) := by
  simp only [withTxn, h.found, h.awake, Bool.false_or, Nat.not_lt.mpr h.live, if_false]
  cases hc : opcodeCore op
  · simp
  · simp [h.core hc]

/-- A frame that passes a device in an ordinary way is handled by its TYPE (R68, R70, R512). -/
theorem frameIn_eq (p : Port) (f : LineFrame) (r : List Word) (out : Option Port) (s : State) (h : Passes s p f out) :
    frameIn s p f r = typedFrame (takenIn s p f) (passageOf s p f out) r := by
  have h1 := h.up
  have h2 := h.awake
  have h3 := h.plain
  have h4 := h.noneHeld
  have h5 := h.begun
  have h6 := h.way
  have h7 : (arrived s p f).time = (atEnd s f).time := by simp [arrived]
  simp only [passageOf, h7]
  simp only [arrived, atEnd] at h5 h6
  simp [frameIn, h1, h2, injFrame, h3, passFrame, h4, h5, h6, takenIn, arrived, atEnd]

/-- A frame that a port takes leaves the role as it is (R2). -/
theorem takenIn_role (s : State) (p : Port) (f : LineFrame) : (takenIn s p f).mode.role = s.mode.role := by
  have h : Kept (· == .straps) s (takenIn s p f) := by
    simp only [takenIn, arrived, atEnd]
    apply countFrame_kept <;> first | rfl | skip
    apply State.onPort_kept <;> first | rfl | skip
    apply swapFirst_kept <;> first | rfl | skip
    apply timeJudge_kept <;> first | rfl | skip
    exact State.reach_kept s _ (Kept.refl _ s) rfl
  exact (h.same .straps rfl).1

/-- A write of one action of CFG_CTRL (R213 to R222). -/
theorem ctrlBit_eq {s : State} {p : Path} {w : Word} (h : pathOpen s p = true) (h1 : s.mode.mode ≠ .minimal)
    (h2 : ¬ 1 < ctrlActions w) (h3 : (bitOf w 2 || bitOf w 3 || bitOf w 7) = true → s.mode.coreReset = false) :
    ctrlBit s p w =
      (ctrlAct (if bitOf w 2 || bitOf w 3 || bitOf w 7 then wake (acting s p) 4 else acting s p) p w).1 := by
  have hm : (s.mode.mode == Mode.minimal) = false := by simpa using h1
  simp only [ctrlBit, served, h, if_true, regCfgCtrl, h2, if_false]
  rw [regWrite_eq h1 h3]
  simp [accNow]

/-- A write of a code of ADC_CMD that Table ADC-9 lists. -/
theorem adcCmd_eq {s : State} {p : Path} (h : pathOpen s p = true) (h1 : s.mode.mode ≠ .minimal) (c e : Nat)
    (hc : 1 ≤ c ∧ c ≤ 8) (h3 : (c == 4 || c == 5 || c == 6 || c == 8) = true → s.mode.coreReset = false) :
    adcCmd p c e s =
      .next (adcAct (if c == 4 || c == 5 || c == 6 || c == 8 then wake (acting s p) 4 else acting s p) c (e % 16)) := by
  have w1 : ∀ c < 9, ∀ e < 16, (bitsOf (word (c + 16 * e)) 0 4 = c ∧ bitsOf (word (c + 16 * e)) 4 4 = e ∧
      (word (c + 16 * e)).toNat < 256) := by decide +kernel
  obtain ⟨a1, a2, a3⟩ := w1 c (by omega) (e % 16) (by omega)
  simp only [adcCmd, served, h, if_true, regAdcCmd, a1, a2, a3]
  simp only [hc.1, hc.2, decide_true, Bool.and_true, Bool.true_and]
  rw [regWrite_eq h1 h3]
  simp

end Sys2Proof.Machine
end

