-- ==== Sys2Proof/WellFormed.lean ====
section
/-! DEFINITION. WellFormed: the commands whose every operand lies in the width that the spec gives it. -/

namespace Sys2Proof

/-- Every field within its width (Table HBU-7). -/
def Descriptor.wf (x : Descriptor) : Bool :=
  decide (x.code < 256) && decide (x.sub < 256) && decide (x.word1 < 65536) && decide (x.arg0 < 65536) && decide
  (x.arg1 < 65536) && decide (x.off0 < 1048576) && decide (x.len0 < 4096) && decide (x.off1 < 1048576) && decide
  (x.len1 < 4096)

/-- ORIGIN is a half-word (R65). -/
def FrameEnd.wf (x : FrameEnd) : Bool :=
  match x with
  | .good => true
  | .poison origin => decide (origin < 65536)
  | .truncated => true
  | .sofInside => true

/-- The CRC field has 32 bits (R67). -/
def LineFrame.wf (x : LineFrame) : Bool := decide (x.crc < 4294967296) && x.term.wf

/-- A tag is one byte (Table ACY-3). -/
def Source.wf (x : Source) : Bool :=
  match x with
  | .queue _ d => d.wf
  | .line _ _ tag => decide (tag < 256)

/-- A tag is one byte (Table ACY-3). -/
def Via.wf (x : Via) : Bool :=
  match x with
  | .reg _ => true
  | .line _ _ tag => decide (tag < 256)

/-- The widths of the answers of an SD card (Table IMG-7). -/
def SdAnswers.wf (x : SdAnswers) : Bool :=
  decide (x.cmd0 < 256) && decide (x.cmd8 < 256) && decide (x.echo < 256) && decide (x.cmd59 < 256) && decide (x.ocr
  < 4294967296) && decide (x.csd < 4) && decide (x.cmd16 < 256)

/-- The answers of a card are in their widths. -/
def MediaFound.wf (x : MediaFound) : Bool :=
  match x with
  | .card a _ => a.wf
  | .key _ _ => true

/-- Twelve boot steps, and six self-test bits (Tables MOD-7 and HLT-3). -/
def BootEnv.wf (x : BootEnv) : Bool := decide (x.upTo < 13) && decide (x.selftest < 64)

/-- A register address has 7 bits and a window offset 24 (R169, R174). -/
def HostAccess.wf (x : HostAccess) : Bool :=
  match x with
  | .regRead addr => decide (addr < 128)
  | .regWrite addr _ _ => decide (addr < 128)
  | .winRead ofs _ _ => decide (ofs < 16777216)
  | .winWrite ofs _ _ _ => decide (ofs < 16777216)

/-- Every operand of the command lies in the width or range that the spec gives it: channels 0 to 15, keys 0 to 47, encoders 0
and 1, tags one byte, positions 12 bits, register addresses 7 bits, window offsets 24 bits. -/
def Instr.wf (i : Instr) : Bool :=
  match i with
  | .porstAssert _ => true
  | .porstRelease _ _ e => e.wf
  | .bootTimerExpiry => true
  | .logicReset e => e.wf
  | .coreReset e => e.wf
  | .fieldReset _ _ => true
  | .fieldDieFault => true
  | .supplyMonitorTrip _ => true
  | .bootStable => true
  | .fatalException => true
  | .syncSend => true
  | .syncFrame _ f _ => f.wf
  | .syncMissInterval => true
  | .pllLocked => true
  | .phaseError => true
  | .refRange => true
  | .ltimeLatch _ => true
  | .preset _ => true
  | .sampleInstant _ => true
  | .snapshotReady => true
  | .applyInstant _ => true
  | .signalDetect _ => true
  | .trainComplete _ _ _ _ => true
  | .alignUp _ _ => true
  | .alignTimeout _ => true
  | .lossOfSync _ bad => decide (bad ≤ 16)
  | .lossOfSignal _ => true
  | .retrain _ _ => true
  | .crossedPairs _ => true
  | .frameForward _ f _ => f.wf
  | .rsvdTypeFrame _ f => f.wf
  | .loopEngage _ => true
  | .ownFrameSend _ => true
  | .loopbackNoticeSet _ _ _ _ => true
  | .loopbackNoticeFrame _ f => f.wf
  | .loopRel _ => true
  | .loopRelease _ => true
  | .loopForce _ => true
  | .bypassDelayExpiry => true
  | .bypassInsert _ => true
  | .bypassDrop _ => true
  | .bypassPwrfailDrop => true
  | .bypassNotice _ => true
  | .linkCntClr _ => true
  | .linkCntFreeze _ _ => true
  | .heatLaunch => true
  | .outPubSample => true
  | .heatReceive _ f => f.wf
  | .heatReturn _ f => f.wf
  | .pingOutcome pos => decide (pos < 4096)
  | .inReadyDeadline => true
  | .batonSend => true
  | .batonReceive _ f => f.wf
  | .batonReturn _ f => f.wf
  | .txnExpiry _ _ tag => decide (tag < 256)
  | .expiredDiscard _ tag => decide (tag < 256)
  | .doneEntryLapse _ tag => decide (tag < 256)
  | .bcastDrop _ tag => decide (tag < 256)
  | .txnRetry dest tag => decide (dest < 4096) && decide (tag < 256)
  | .txnLost dest tag => decide (dest < 4096) && decide (tag < 256)
  | .cryptoOpDone => true
  | .floorWriteDone _ => true
  | .ping _ _ tag => decide (tag < 256)
  | .regRead _ _ tag => decide (tag < 256)
  | .regWrite _ _ tag => decide (tag < 256)
  | .tblRead _ _ tag => decide (tag < 256)
  | .tblWrite _ _ tag => decide (tag < 256)
  | .cfgOwnQuery _ _ tag => decide (tag < 256)
  | .flashRead src => src.wf
  | .traceRead _ _ tag => decide (tag < 256)
  | .cspXfer src => src.wf
  | .adcCapt src => src.wf
  | .captRead _ _ tag => decide (tag < 256)
  | .relayCtrlMap _ _ tag => decide (tag < 256)
  | .relayCtrlStatus _ _ tag => decide (tag < 256)
  | .ownerLockSet _ _ tag => decide (tag < 256)
  | .ownerLockClear _ _ tag => decide (tag < 256)
  | .posBind _ _ tag => decide (tag < 256)
  | .posUnbind _ _ tag => decide (tag < 256)
  | .injEnable _ _ tag => decide (tag < 256)
  | .rekey _ _ tag => decide (tag < 256)
  | .lineStart _ d => d.wf
  | .lineStartSettle => true
  | .lineStop _ d => d.wf
  | .enum _ d => d.wf
  | .countReceive _ f => f.wf
  | .countReturn _ f => f.wf
  | .lineTxn _ d => d.wf
  | .gunSchedule _ d => d.wf
  | .gunCutoff => true
  | .gunClosingSweep => true
  | .relayPull _ d => d.wf
  | .takeoverStart => true
  | .takeoverEnd _ d => d.wf
  | .takeoverAutoEnd => true
  | .nop _ d => d.wf
  | .busDecodeError _ addr => decide (addr < 128)
  | .hostStrobeEarly a _ => a.wf
  | .apertureWrite ofs _ _ _ => decide (ofs < 16777216)
  | .apertureRead ofs _ _ => decide (ofs < 16777216)
  | .xipRead ofs => decide (ofs < 8388608)
  | .xipTimeout _ => true
  | .xipEnable _ _ sel base => decide (sel < 8) && decide (base < 16)
  | .xipFlush _ => true
  | .keyseqWrite _ _ => true
  | .keyLapse _ => true
  | .cmdqAsmClr _ => true
  | .cplqDataRead _ => true
  | .registerWrite _ addr _ _ => decide (addr < 128)
  | .evqDataRead _ => true
  | .evqHoldLapse => true
  | .chinRead _ => true
  | .cfgDataRead _ => true
  | .cfgDataWrite _ _ => true
  | .claim _ => true
  | .release _ => true
  | .claimLapse => true
  | .validate _ => true
  | .validateDone => true
  | .copy _ => true
  | .copyDone => true
  | .swapNow _ => true
  | .swapCycle _ => true
  | .swapGun _ => true
  | .cancel _ => true
  | .commit _ => true
  | .commitDone _ => true
  | .autoCommitStart => true
  | .cfgCtrlMulti _ _ => true
  | .swapInstant => true
  | .goSetup via => via.wf
  | .goRun via => via.wf
  | .goSafe via => via.wf
  | .resume via => via.wf
  | .goMinimal via => via.wf
  | .reboot via => via.wf
  | .rest via => via.wf
  | .restEntry => true
  | .wake via => via.wf
  | .holdSenseSample mv age => decide (mv < 65536) && decide (age < 65536)
  | .pwrfailAssert => true
  | .pwrfailRelease => true
  | .safecmdEnter _ => true
  | .ackAll _ => true
  | .chfltAck _ _ => true
  | .safeReqAssert => true
  | .safeReqRelease => true
  | .barrierLoss => true
  | .barrierReturn => true
  | .lpOff mv => decide (mv < 65536)
  | .lpOvervoltage mv => decide (mv < 65536)
  | .lpReversed => true
  | .lpBack mv => decide (mv < 65536)
  | .lsFault mv => decide (mv < 65536)
  | .lsOk mv => decide (mv < 65536)
  | .lsBrownout mv => decide (mv < 65536)
  | .dieOvertemp _ => true
  | .dieCool _ => true
  | .channelFaultDetect n code => decide (n < 16) && decide (code < 256)
  | .channelFaultClear n code => decide (n < 16) && decide (code < 256)
  | .faultRetry n => decide (n < 16)
  | .retryCountReset n => decide (n < 16)
  | .inputEdge n _ _ _ => decide (n < 16)
  | .pwmPeriodStart n => decide (n < 16)
  | .slLoad _ => true
  | .slCancel _ => true
  | .slRead _ => true
  | .slIssue n slot => decide (n < 16) && decide (slot < 16)
  | .slGate n slot => decide (n < 16) && decide (slot < 16)
  | .pfSelWrite _ _ => true
  | .choutWrite _ _ => true
  | .forceSet _ n _ => decide (n < 16)
  | .forceRemove _ n => decide (n < 16)
  | .forceClearAll _ => true
  | .modeOffEnd n => decide (n < 16)
  | .regStart _ => true
  | .regStop _ => true
  | .injTrig _ => true
  | .injTimeTrigger => true
  | .calZero _ e => decide (e < 16)
  | .calFull _ e => decide (e < 16)
  | .calAbort _ e => decide (e < 16)
  | .calStepDone => true
  | .calTimeout => true
  | .fifoClr _ => true
  | .dacTest _ => true
  | .dacTestDone => true
  | .roundStart => true
  | .conversionEnd _ _ _ => true
  | .captureDone => true
  | .aoReadbackSample n _ => decide (n < 16)
  | .adcFifoRead _ => true
  | .cspTransferEnd _ => true
  | .readyTimeout _ _ => true
  | .dqsTimeout _ => true
  | .cmAbort _ => true
  | .prefetchStart => true
  | .erasePoll => true
  | .eraseTrackLimit => true
  | .slaveRead _ => true
  | .slaveWrite _ => true
  | .slaveNop _ => true
  | .slaveFrameIgnored _ => true
  | .slaveFrameAbort _ _ => true
  | .spEnable _ _ => true
  | .panelFrame => true
  | .keyPress k _ => decide (k < 48)
  | .keyRelease k => decide (k < 48)
  | .keyRepeat => true
  | .encTransition e _ _ => decide (e < 2)
  | .menuRefresh => true
  | .menuIdle => true
  | .jogTimeout => true
  | .chordComplete => true
  | .panelEvtRead _ => true
  | .panelHostChange _ _ => true
  | .panelClr _ => true
  | .wdhAnswer _ _ => true
  | .wdhWindowOpen => true
  | .wdhPeriodEnd => true
  | .wdcAnswer _ => true
  | .wdcPeriodEnd => true
  | .wdcCoreReset => true
  | .freezeLimit _ => true
  | .mediaInsert => true
  | .mediaIdentify found => found.wf
  | .mediaRemove => true
  | .mediaSectorRead _ _ => true
  | .mediaAbsenceTimeout => true
  | .start via => via.wf
  | .abort via => via.wf
  | .prepare via => via.wf
  | .preparePartDone => true
  | .activate via => via.wf
  | .activateStart => true
  | .actPauseEnd => true
  | .veto via => via.wf
  | .relayJoin via => via.wf
  | .stagingSectorDone _ => true
  | .relaySend => true
  | .relayReceive _ f => f.wf
  | .distributeWaitEnd => true
  | .confirmWrite => true
  | .confirmDeadline => true
  | .otpOwner _ => true
  | .otpProgramDone => true
  | .extest _ _ => true
  | .samplePreload _ _ => true
  | .highz => true
  | .clamp => true
  | .bypass => true
  | .tapReset => true
  | .injEnableExpiry => true
  | .flashEraseEnd _ => true
  | .flashEraseAbort => true
  | .eraseCutoff => true
  | .eraseResume => true
  | .flashProgramDone outcome => decide (outcome < 3)
  | .healthInterval => true
  | .pllHeadroomSample pct => decide (pct < 101)
  | .holdReplExpiry => true
  | .summaryPage => true
  | .replClr _ _ => true
  | .traceDataRead _ => true
  | .traceFreeze _ => true
  | .traceUnfreeze _ => true
  | .traceRdOldest _ => true
  | .traceRdNewest _ => true
  | .persist _ => true
  | .persistDone => true
  | .injArm _ target action _ => decide (target < 4) && decide (action < 4)
  | .injDisarm _ => true
  | .injTimeout => true
  | .injReorderDrop => true
  | .junctionCooled n => decide (n < 16)
  | .reverseFeedEnd n => decide (n < 16)
  | .holdWarnExpiry => true
  | .roleConflict => true
  | .longBurstStart => true

end Sys2Proof
end

