-- ==== Sys2Proof/Tests/Slice0.lean ====
section
/-! SUPPORT. Slice0: small states, tests taken from the spec's worked examples, one ill-formed term for each check of
well-formedness, and for every statement a concrete state that meets its hypotheses. -/

namespace Sys2Proof.Tests

open Sys2Proof Sys2Proof.Machine

set_option maxRecDepth 100000
set_option Elab.async false

/-! ### Small states -/

/-- State.reset after a boot in that role, with nothing else happened. -/
def up (r : Role) (m : Mode) : State :=
  { State.reset with mode := { State.reset.mode with
      role := r, mode := m, bootOk := true, booting := false, stable := false, bootStep := 12, rstout := false,
      coreReset := false, logicReset := false, fieldReset := false, lineEngine := true } }

/-- A word of the active set changed. -/
def setWord (s : State) (t w : Nat) (v : Word) : State :=
  { s with cfg := { s.cfg with active := setPut s.cfg.active t w v } }

/-- A port of the state UP, and the forwarding mode that follows. -/
def portUp (s : State) (p : Port) : State := refreshMode (s.onPort p (fun l => { l with st := .up }))

/-- A frame of that TYPE whose body is 16 bytes, with its right CRC, ended by EOF-good. -/
def goodFrame (type : Nat) : LineFrame :=
  { body := byte type :: List.replicate 15 0, crc := crc32 (byte type :: List.replicate 15 0), bad := 0, term := .good
    gap := 16, tin := 0, tout := 0 }

/-- A plan without heats: a launch offset of 10 µs and one baton a cycle with no pocket. -/
def aPlan : Plan :=
  { flags := 1, launch := 10000, settle := 10, silent := 3, pingTries := 3, pingLife := 100, pocketSize := 19, pockets := 0
    quota := 0, batonMax := 1, gunLead := 4, heats := [], slots := [] }

/-- A starter whose line runs with that plan. -/
def starterUp : State :=
  { up .starter .run with sta := { State.reset.sta with plan := some aPlan, stage := .running } }

/-- Cycle 4 of that starter, whose heat 0 is not back. -/
def aCyc : InCyc := { cycle := 4, plan := aPlan, back := [], sent := [0], due := true, mirrored := false }

/-- The same starter with cycle 4 launched and its heat 0 not back. -/
def starterDue : State :=
  { starterUp with sta := { starterUp.sta with in0 := some aCyc } }

/-- A node that holds the commit of its next cycle. -/
def applyReady : State :=
  { up .node .run with cyc := { State.reset.cyc with nextSample := 5, nextApply := 1, commits := [{ cycle := 1, data := none }] } }

/-- The key of a path open. -/
def keyed (s : State) (p : Path) : State := s.setKey p { keyOf s p with st := .opened }

/-- A plain held transaction of that opcode, tag 3, from the starter. -/
def heldTxn (op : Nat) (data : List Byte) : Txn :=
  { id := 1, bcast := false, anchor := false, tag := 3, op, digest := 0, deadline := 100000, sealed := false, nonce := [], head := []
    gcmTag := [], sealNonce := [], data, retry := false, phase := .held, effect := false, status := 0, resp := [], cached := false
    done := false }

/-- A node in SETUP that holds it. -/
def heldUp (op : Nat) (data : List Byte) : State :=
  { up .node .setup with txn := { State.reset.txn with held := [heldTxn op data] } }

/-- The line path owns the shadow set. -/
def lineOwned (s : State) : State := { s with cfg := { s.cfg with owner := some .line } }

/-- A DONE entry of tag 3. -/
def aDone : DoneEntry :=
  { anchor := false, tag := 3, op := 1, digest := 0, status := 0, flag := true, data := none, deadline := 100000 }

/-- A node that keeps it. -/
def doneUp : State := { up .node .run with txn := { State.reset.txn with done := [aDone] } }

/-- The sealing of the response of tag 3. -/
def aSealing : CryptoOp := { rank := 1, for_ := .sealTxn 1, ctx := true }

/-- A node whose engine runs it. -/
def sealingUp : State :=
  { up .node .run with sec := { State.reset.sec with ops := [aSealing] }
                       txn := { State.reset.txn with held := [{ heldTxn 0x01 [] with phase := .sealing }] } }

/-- The opening of the request of tag 3. -/
def anOpening : CryptoOp := { rank := 1, for_ := .openTxn 1, ctx := true }

/-- A node whose engine runs it. -/
def openingUp : State :=
  { up .node .run with sec := { State.reset.sec with ops := [anOpening] }
                       txn := { State.reset.txn with opening := [heldTxn 0x01 []] } }

/-- A request whose nonce raises the floor: counter 1. -/
def floorTxn : Txn := { heldTxn 0x01 [] with phase := .floor, nonce := [1, 0, 0, 0, 0, 0, 0, 0, 0, 0, 0, 0] }

/-- A node that holds it. -/
def floorUp : State := { up .node .run with txn := { State.reset.txn with held := [floorTxn] } }


/-- A descriptor with TAG 1 and both buffers at the start of the aperture. -/
def desc (code sub arg0 arg1 len0 len1 : Nat) : Descriptor :=
  { code, sub, word1 := 1, arg0, arg1, off0 := 0, len0, off1 := 0, len1 }

/-- The bytes of a valid line plan with one heat and no slot, in the shared aperture (Tables STA-4 and STA-5). -/
def planBytes : List Byte := [1, 0, 1, 0] ++ leBytes 4 5000 ++ leBytes 4 100 ++ [3, 3, 100, 0, 19, 0, 0, 1, 8, 0]

/-- A device of that role in SETUP whose aperture holds that plan. -/
def planned (r : Role) : State :=
  ((up r .setup).store 0xE0000 planBytes).store 0xE0100 ([1, 0, 1, 0, 0, 0] ++ List.replicate 10 0)

/-- A gun schedule for 10 s. -/
def aGun : GunRun :=
  { g := 10000000000, all := true, armed := [], cancelled := false, closing := none, total := 0, swapped := 0, refused := 0,
    path := .host, d := desc 6 1 0 0 8 6 }

/-- A running starter with it. -/
def gunUp : State := { starterUp with sta := { starterUp.sta with gun := some aGun } }

/-- An anchor that may take over: a plan that allows it, port A up, fine time seen and a trigger. -/
def anchorReady : State :=
  let s := portUp (up .anchor .run) .a
  { s with sta := { s.sta with plan := some { aPlan with flags := 8 }
                               anchor := { s.sta.anchor with started := true, fineSeen := true, trigger := some 4096 } } }

/-- A line transaction to position 2 with TAG 9, sent once at 0. -/
def aLine : LineTxn := { newLine .ping 2 0x01 100 false [] with tag := 9, queued := false, sentT := some 0, sends := 1 }

/-- A running starter that waits for its response. -/
def lineUp : State := { starterUp with sta := { starterUp.sta with txns := [aLine] } }

/-- A starter in SETUP, with that plan latched, whose update session pulls. -/
def pullUp : State :=
  let s := (up .starter .setup).store 0xE1008 [2]
  { s with sta := { s.sta with plan := some aPlan }, upd := { s.upd with phase := .pull }, mode := { s.mode with holdLow := false } }

/-- An anchor in a takeover. -/
def takenUp : State :=
  let s := up .anchor .run
  { s with sta := { s.sta with anchor := { s.sta.anchor with takeover := true } } }

/-- A distribution that waits for the sectors to be ready. -/
def aDist : DistRun :=
  { joinT := some 0, waiting := true, round := 0, toSend := [], need := [], sweep := [], status := [], complete := [],
    refused := [] }

/-- A starter that distributes a bundle. -/
def distUp : State :=
  { starterUp with
    sta := { starterUp.sta with plan := some { aPlan with launch := 100000 }, cycle := 3 }
    upd := { starterUp.upd with phase := .distribute, dist := some aDist } }

/-- The first half of an aperture word written. -/
def heldUpHalf : State :=
  let s := up .node .run
  { s with bus := { s.bus with heldWrite := some (apertureBase + 0x7FFFC, 0x1234) } }

/-- The second half of an aperture word captured. -/
def heldUpRead : State :=
  let s := up .node .run
  { s with bus := { s.bus with heldRead := some (apertureBase + 2, 0x55AA) } }

/-- The direct-execution window on at select code 0, with one line in the buffer. -/
def xipUp : State :=
  let s := setWord (up .node .run) 0xA 0 0xB801
  { s with bus := { s.bus with xipEn := true }, ser := { s.ser with lines := [(0, List.replicate 64 0xAA)] } }

/-- A window read that waits. -/
def xipWaiting : State :=
  let s := up .node .run
  { s with ser := { s.ser with hostRead := some 0 } }

/-- An event. -/
def anEvent : Event := { code := 1, argx := 2, arg := 3, lt := 4 }

/-- Two events queued, with that hold and pointer. -/
def evqUp (h : Option Path) (r : Nat) : State :=
  let s := up .node .run
  { s with evq := { s.evq with queue := [anEvent, anEvent], holder := h, rptr := r } }

/-- A completion queued, with that pointer. -/
def cplUp (r : Nat) : State :=
  let s := up .node .run
  { s with bus := { s.bus with cmdHost := { s.bus.cmdHost with cplq := [[1, 2, 3, 4]], rptr := r } } }

/-- A node in SETUP with a valid shadow set, whose swap could be armed. -/
def validUp : State :=
  let s := up .node .setup
  { s with cfg := { s.cfg with valid := true, gun := 10000000000 }, time := { s.time with tstate := .fine } }

/-- A host that owns the window at word 0 of table 1 of the shadow set. -/
def shadowUp : State :=
  let s := up .node .setup
  { s with cfg := { s.cfg with owner := some .host, selShadow := true, table := 1, word := 0 } }

/-- The core at that work. -/
def busyUp (b : CfgAction) : State :=
  let s := up .node .setup
  { s with cfg := { s.cfg with busy := some b } }

/-- A node in SETUP with a swap armed. -/
def armedUp : State := { validUp with cfg := { validUp.cfg with armed := some { mode := 1, instant := 16000 } } }

/-- A scheduled level in slot 1 at that time. -/
def anSl (t : Nat) : SlEvent := { slot := 1, val := 1, time := t, issued := false }

/-- A channel that holds it, at a node that holds the commit of its next cycle. -/
def slUp (t : Nat) : State := applyReady.onChan 2 (fun c => { c with sl := [anSl t] })

/-- That port word of the shadow set addressed by the host. -/
def portWordUp (t w : Nat) : State := { shadowUp with cfg := { shadowUp.cfg with table := t, word := w } }

/-- A node in SETUP whose converters run a sequence of one entry of an AI-V channel. -/
def adcUp : State :=
  let s := setWord (setWord (up .node .setup) 7 0 1) 4 0 8
  { s with adc := { s.adc with running := true } }

/-- That node in a zero step with n outputs taken. -/
def calUp (n : Nat) : State := { adcUp with adc := { adcUp.adc with calStep := some { entry := 0, full := false, sum := 0, n } } }

/-- That node with the zero of entry 0 taken. -/
def calFullUp : State := { adcUp with adc := { adcUp.adc with calZero := some (0, 1264) } }

/-- A node whose one entry the test-DAC tests. -/
def dacUp : State := setWord (setWord (up .node .setup) 7 0 1) 7 0x11 0x0800

/-- That node with entry 0 injected on converter A since 0. -/
def injUp : State :=
  let s := setWord adcUp 7 4 1
  { s with adc := { s.adc with injBusy := true, injA := [0], injAt := 0 } }

/-- That node with that capture. -/
def capturing (c : Capture) : State := { adcUp with adc := { adcUp.adc with capture := some c } }

/-- A kind-2 capture that waits for its start. -/
def aCapt : Capture := { entry := 0, kind := 2, want := 16, got := 0, start := 1000, firstT := none, for_ := .line 1 }

/-- A node that programs a unit. -/
def progUp : State := addProgram (up .node .run) .journal 3 (768 * 4096) (List.replicate 32 0)

/-- A node that programs a calibration pair. -/
def calProg : State :=
  let s := up .node .setup
  calProgram { s with flash := { s.flash with calPos := (0, 5) } } { input := 0, kind := 0, gain := 0, z16 := 0, g20 := 1048576 }

/-- A node in SETUP whose slave port is enabled. -/
def slaveUp : State :=
  let s := up .node .setup
  { s with ser := { s.ser with spEn := true } }

/-- A slave request with lap 1 and its right CRC. -/
def request (op addr len : Nat) (data : List Byte) : List Byte :=
  let b := [byte op, 1, byte addr, byte len] ++ data
  b ++ leBytes 2 (crc16 b)

/-- A CSP_XFER in a lane mode. -/
def anXfer (lane : Nat) : SerJob := .xfer 0 lane [0x9F] [] 4 (.line 1)

/-- A node whose master port runs a transfer on a code with CM_READY. -/
def serUp (j : SerJob) : State :=
  let s := setWord (up .node .run) 0xA 0 0xFFFF
  { s with ser := { s.ser with running := some j } }

/-- A node whose window may prefetch behind line 0. -/
def prefUp : State :=
  let s := setWord (up .node .run) 0xA 0 0xB841
  { s with bus := { s.bus with xipEn := true }, ser := { s.ser with prefDue := some 0 } }

/-- An erase of sector 900. -/
def anErase (u : Option Nat) : EraseRun :=
  { sector := 900, cause := 0, startT := 0, susp := u, suspNs := 0, noSusp := 0, lastAcc := 0 }

/-- A node whose flash erases. -/
def erasing (u : Option Nat) : State :=
  let s := up .node .run
  { s with flash := { s.flash with erase := some (anErase u) } }

/-- A node whose host has the panel. -/
def panelHost : State :=
  let s := up .node .setup
  { s with panel := { s.panel with host := true, hostReq := true } }

/-- The same with key k closed, held over or not. -/
def panelKeyUp (k : Nat) (held : Bool) : State :=
  { panelHost with panel := { panelHost.panel with keys := putKey 0 k true, heldOver := putKey 0 k held } }

/-- A trace record. -/
def aRec : TraceRec := { lt := 3, source := 1, code := 2, arg := 4 }

/-- One record in the ring, and the host at word i of it. -/
def traceUp (i : Nat) : State :=
  let s := up .node .run
  { s with trace := { s.trace with ring := [aRec], tseq := 1, ptrHost := { tseq := 0, idx := i, capture := some aRec } } }

/-- A device in SETUP with the host's key open, a medium with a file system, and an update session in that phase. -/
def updUp (r : Role) (p : UpdPhase) : State :=
  let s := keyed (up r .setup) .host
  { s with upd := { s.upd with phase := p }, media := { s.media with present := true, fsOk := true }
           cyc := { s.cyc with moving := false }
           mode := { s.mode with holdLow := false } }

/-- A node in that phase that holds an UPD_CTRL transaction of that code. -/
def updHeld (p : UpdPhase) (c : Byte) : State :=
  { updUp .node p with txn := { State.reset.txn with held := [heldTxn 0x21 [c, 0xFF]] } }

/-- A node that prepares those parts. -/
def preparing (l : List Nat) : State :=
  let s := updUp .node .prepare
  { s with upd := { s.upd with todo := l } }

/-- A node that activates those parts. -/
def activating (l : List Nat) : State :=
  let s := updUp .node .activate
  { s with upd := { s.upd with todo := l } }

/-- A node whose session of no part waits for its confirmation, 20 s after the activation. -/
def confirming : State :=
  let s := updUp .node .confirm
  { s with upd := { s.upd with deadline := some 120000000000 }, time := { s.time with line := 20000000000 } }

/-- A node with a medium inserted. -/
def mediumUp (due : Bool) : State :=
  let s := up .node .setup
  { s with media := { s.media with present := true, identDue := due } }

/-- A node whose session reads a candidate of the medium. -/
def readingUp : State :=
  let s := mediumUp false
  let r : Reader := { at_ := .choose 0, buf := [], meta_ := [], fails := 0, again := false, best := none, firstBad := none
                      stale := false }
  { s with media := { s.media with reader := some r, cands := [{ name := [], len := 4096, start := 0 }] }, upd := { s.upd with phase := .read } }

/-- An event with that code. -/
def evOf (code : Byte) : Event := { code, argx := 0, arg := 0, lt := 0 }

/-- A node whose event queue is full of events with that code. -/
def fullQueue (code : Byte) : State :=
  let s := up .node .run
  { s with evq := { s.evq with queue := List.replicate 256 (evOf code) } }

/-- A full queue of events that are not urgent, whose oldest entry the host bus holds. -/
def heldQueue : State :=
  let s := fullQueue 0x10
  { s with evq := { s.evq with holder := some .host, rptr := 1 } }

/-- A node whose result FIFO holds n words, with that FIFO_THR. -/
def fifoAt (n : Nat) (thr : Word) : State :=
  let s := setWord (up .node .run) 7 3 thr
  { s with adc := { s.adc with fifo := List.replicate n 0 } }

/-- A node whose trace is frozen, with n records lost to it. -/
def frozen (n : Nat) : State :=
  let s := up .node .run
  { s with trace := { s.trace with freeze := true, frozenDrops := n } }

/-- A boot that finds everything well. -/
def bootEnv : BootEnv :=
  { upTo := 12, keysOk := true, coreOk := true, lineOk := true, fieldOk := true, fieldMatch := true, barrier := true
    restage := true, selftest := 0 }

/-- A device whose PWRFAIL_N is asserted. -/
def pwrOff (s : State) : State := { s with mode := { s.mode with pwrfail := true } }

/-- A node in MINIMAL behind three false starts. -/
def minimalUp : State :=
  let s := up .node .minimal
  { s with mode := { s.mode with minimalImage := true, fstarts := 3, fs := 3 } }

/-- A node whose barrier link was lost at 0 and that stands at 2 ms. -/
def lateBarrier : State := { barrierLost (up .node .run) with time := { State.reset.time with line := 2000000 } }

/-- A node in RUN with those supply conditions. -/
def supplied (x : SupplyState) : State := { up .node .run with supply := x }

/-- A node in RUN whose channel 2 is a digital output. -/
def outputUp : State := setWord (up .node .run) 4 0x20 5

/-- A node whose channel 0 is off by that trip, cooled down or not. -/
def tripped (code : Nat) (cooled : Bool) : State :=
  (up .node .run).onChan 0 (fun c => { c with tripOff := true, lastTrip := code, cooled, faults := [code] })

/-- A node whose WDC cycle has its window open. -/
def wdcUp : State :=
  let s := wdcStart (up .node .run)
  { s with wdog := { s.wdog with c := { s.wdog.c with opened := true } } }

/-- A device of that role in RUN with both ports UP. -/
def bothUp (r : Role) : State := portUp (portUp (up r .run) .a) .b

/-- A node whose port A is inside a frame that it skips. -/
def skipping : State := (bothUp .node).onPort .a (fun l => { l with skip := true })

/-- A node with its reference, whose line engine has missed n intervals of 4 cycles. -/
def missing (n : Nat) : State :=
  let s := portUp (up .node .run) .a
  { s with time := { s.time with syncN := some 4, missed := n } }

/-- A starter whose PLL is in that state. -/
def pllAt (p : Pll) : State := { up .starter .run with time := { State.reset.time with pll := p } }

/-- A node whose port B is in that state. -/
def portAt (x : PortState) : State := (up .node .run).onPort .b (fun l => { l with st := x })

/-- An EXPIRED response of tag 3. -/
def anExpired : Response := expiredResponse 1 false 3 1 [] 100000 false

/-- A node that holds it. -/
def expiredUp : State := { up .node .run with txn := { State.reset.txn with ready := [anExpired] } }

/-- A running starter that counts. -/
def countingUp : State := { starterUp with sta := { starterUp.sta with counting := true } }

/-- A running starter whose ping of a SILENT position 2 has that outcome. -/
def pinged (ok : Bool) : State :=
  let s := topoPut starterUp 2 3 false 0
  { s with sta := { s.sta with pings := [{ pos := 2, tries := 1, outcome := some ok }] } }

/-- A distribution with those sectors left to send. -/
def sending (l : List Nat) : State :=
  { distUp with upd := { distUp.upd with dist := some { aDist with waiting := false, toSend := l } } }

/-- A node in RUN whose channel 2 is a digital input of that mode. -/
def inputUp (m : Word) : State := setWord (up .node .run) 4 0x20 m

/-- A node in RUN whose channel 2 is a PWM output with a period of 1 µs. -/
def pwmUp : State := setWord (setWord (up .node .run) 4 0x20 0x0007) 4 0x23 125

/-- A NODE with fine time and a digital output whose port words name slot 1 of channel 2 and that time. -/
def slAsked (t : Nat) : State :=
  let s := { outputUp with time := { outputUp.time with tstate := .fine } }
  { s with field := { s.field with slSel := 0x12, slT := BitVec.ofNat 64 t, slVal := 1 } }

/-- The same with the event pending there, issued or not. -/
def slHeld (issued : Bool) : State := (slAsked 100000).onChan 2 (fun c => { c with sl := [{ anSl 100000 with issued }] })

/-- Key k of the panel is held and repeats, to the host or to the menu on that screen. -/
def repeating (host : Bool) (k screen : Nat) : State :=
  let s := setWord (up .node .setup) 0xB 2 10
  { s with panel := { s.panel with host, hostReq := host, repKey := some k, keys := putKey 0 k true, screen } }

/-- A node before BOOT-OK. -/
def bootPanel : State :=
  let s := up .node .setup
  { s with mode := { s.mode with bootOk := false } }

/-- A node whose last summary knew no thermal time. -/
def summed (l : List Nat) : State :=
  let s := up .node .run
  { s with health := { s.health with thermTotal := l, summary := some (1, [0, 0], 0xFFFF) } }

/-- An injector armed on frames, under the sealed enable of target 0 until 5 or not. -/
def armedInj (sealed_ : Bool) : State :=
  let s := up .node .run
  { s with inj := { s.inj with
      armed := some { target := 0, action := 0, once := true, n := 1, ofs := 0, bit := 0, type := 1, count := 1, eligible := 0, until_ := 9, sealed := sealed_ }
      sealedEnable := some (5, 1) } }

/-- The same device with a candidate found on its medium. -/
def candidate (s : State) : State :=
  { s with media := { s.media with present := true, fsOk := true, cands := [{ name := [], len := 4096, start := 0 }] } }

/-- A node that falls back, with those parts to go and a core reset at the end or not. -/
def falling (l : List Nat) (r : Bool) : State :=
  let s := updUp .node .idle
  { s with upd := { s.upd with falling := some (0x0610, l), fallReset := r } }

/-- The same session at a node that remembers those pairs. -/
def nbased (l : List (List Byte × List Byte)) : State := { confirming with sec := { confirming.sec with nbase := l } }

/-- The next state of an answer, the state at reset where there is none. -/
def after (r : Result) : State :=
  match r with
  | .next t => t
  | _ => State.reset

/-! ### The interface -/

theorem test_step_runs_the_front : (after (step { up .node .run with pending := [.bypass, .tapReset] })).pending = [.tapReset] := by
  decide

theorem test_empty_queue_ticks : (after (step (up .node .run))).time.line = 4 := by decide

theorem test_no_word_spells_a_command : decodeTableWord 16 0x00FF = none := by decide

theorem test_fetch_word_changes_nothing : (up .node .run).withFetchWord 16 1 = up .node .run := by rfl

/-! ### Checksums, times and bytes (R12 Table SCO-4, R7) -/

theorem test_crc32 : crc32 [0x31, 0x32, 0x33, 0x34, 0x35, 0x36, 0x37, 0x38, 0x39] = 0xCBF43926 := by decide +kernel

theorem test_crc32c : crc32c [0x31, 0x32, 0x33, 0x34, 0x35, 0x36, 0x37, 0x38, 0x39] = 0xE3069283 := by decide +kernel

theorem test_crc16 : crc16 [0x31, 0x32, 0x33, 0x34, 0x35, 0x36, 0x37, 0x38, 0x39] = 0x29B1 := by decide +kernel

/-- 80 s of line time in a frame field (the worked example of 00). -/
theorem test_line_time_bytes : leBytes 8 80000000000 = [0x00, 0x20, 0x5F, 0xA0, 0x12, 0x00, 0x00, 0x00] := by decide

/-- 80 s of line time in LTIME0 to LTIME3 (the worked example of 00). -/
theorem test_line_time_registers :
    let s := after (exec (.ltimeLatch .host) { up .node .run with time := { State.reset.time with line := 80000000000 } })
    regWord s .host 0x30 = 0x2000 ∧ regWord s .host 0x32 = 0xA05F ∧ regWord s .host 0x34 = 0x0012 ∧
      regWord s .host 0x36 = 0x0000 := by decide

theorem test_sram_reads_back : memNat ((up .node .run).store 0xE0000 [0x34, 0x12]) 0xE0000 2 = 0x1234 := by decide

theorem test_sram_keeps_its_form : ((up .node .run).store 0xE0000 [0x00, 0x12]).mem = [(0xE0001, 0x12)] := by
  decide

/-! ### Identity and boot -/

theorem test_identity : regWord State.reset .host 0x00 = 0x4D16 ∧ regWord State.reset .host 0x02 = 0x0110 := by decide

/-- The first boot after power-on (Table MOD-9 steps 1 and 2). -/
theorem test_first_boot :
    let s := after (exec (.porstRelease .node false bootEnv) State.reset)
    s.mode.fs = 1 ∧ s.mode.reason = 0x0101 ∧ s.mode.bootOk = true ∧ s.mode.mode = .setup := by decide +kernel

/-- MODE of a node in RUN without false starts (the worked example of 14). -/
theorem test_mode_word : modeWord (up .node .run) = 0x0401 := by decide

/-! ### Line time (the worked example of 02) -/

theorem test_delay_and_offset :
    delayOffset (80000120004 * 64) 8832 (80000120019 * 64 + 16) (80000120019 * 64 + 16 + 7296) = (768, -208) := by decide

/-! ### The Relay Link and the cyclic exchange -/

/-- The origins of the worked example of 03: node 413 outbound, node 412 inbound. -/
theorem test_poison_origins :
    let at_ := fun (p : Nat) => ({ up .node .run with link := { State.reset.link with pos := some p } } : State)
    poisonOrigin (at_ 413) .a 0 = 0x019D ∧ poisonOrigin (at_ 412) .b 0 = 0x119C := by decide

/-- MISSED over a gap of three cycles, and of 259 (the worked example of 04). -/
theorem test_missed_counts :
    let s : State := { up .node .run with cyc := { State.reset.cyc with applied := 0x000100FE } }
    (applyCommit s { cycle := 0x00010101, data := some [] }).cyc.missed = 2 ∧
    (applyCommit s { cycle := 0x00010201, data := some [] }).cyc.missed = 258 := by decide

/-- HEAT_LOST of the worked example of 08. -/
theorem test_heat_lost :
    let s : State := { up .starter .run with time := { State.reset.time with line := 80000263320 } }
    (heatLost s { cycle := 0, plan := aPlan, back := [], sent := [0], due := false, mirrored := false } 0 0x019D).evq.queue =
      [{ code := 0xE2, argx := 0, arg := 0x019D, lt := 0xA0632498 }] := by decide

/-! ### The host bus -/

/-- The descriptor of the worked example of 07. -/
theorem test_descriptor_words :
    let d := wordsDesc [0x0205, 0x0011, 0x03E8, 0x0014, 0x9000, 0x0016, 0x9100, 0x1306]
    d.code = 5 ∧ d.sub = 2 ∧ d.word1 = 17 ∧ d.arg0 = 1000 ∧ d.arg1 = 20 ∧ d.off0 = 0x69000 ∧ d.len0 = 1 ∧
      d.off1 = 0x69100 ∧ d.len1 = 304 := by decide

theorem test_key_half : (keyOf (after (exec (.keyseqWrite .host 0x5A3C) (up .node .run))) .host).st = .half := by decide

theorem test_key_failure_counts : (keyOf (after (exec (.keyseqWrite .host 0x1234) (up .node .run))) .host).fails = 1 := by decide

theorem test_event_pops_word_by_word :
    (after (exec (.evqDataRead .host) (post (up .node .run) 0x11 0 7))).evq.rptr = 1 := by decide

theorem test_descriptor_refused_when_reserved :
    (cmdPath (after (exec (.nop .host { desc 0 0 0 0 0 0 with len0 := 1 }) (up .node .run))) .host).cplq.length = 1 := by decide

/-! ### Converters (the worked example of 13) -/

theorem test_calibration_gain : calGain 0 1264 510576 = 1054110 := by decide

theorem test_calibrated_sample :
    calibrate { up .node .run with adc := { State.reset.adc with calStore := [{ input := 9, kind := 0, gain := 0, z16 := 1264, g20 := 1054110 }] },
                                   cfg := (setWord (up .node .run) 4 0x90 8).cfg } 9 0 16000 = 16005 := by decide +kernel

/-! ### The serial ports -/

/-- The request of the worked example of 14 runs, and its reply's first bytes are those of the example. -/
theorem test_slave_reply :
    let s : State := { up .node .run with
      ser := { State.reset.ser with spEn := true, lap := some 0x2B }
      mode := { (up .node .run).mode with cmd := 2, result := 2 } }
    (after (exec (.slaveRead [0x01, 0x2C, 0x08, 0x04, 0xFE, 0xC8]) s)).ser.stored =
      [0x5A, 0x00, 0x00, 0x2C, 0x04, 0x01, 0x04, 0x22, 0x00, 0xD0, 0x86] := by decide +kernel

/-! ### The panel (the worked example of 15) -/

/-- The last transition of a detent counts one up. -/
theorem test_encoder_counts :
    (after (exec (.encTransition 0 false false)
      { up .node .run with panel := { State.reset.panel with phase0 := 1, t0 := 3 } })).panel.pos0 = 1 := by decide

theorem test_encoder_goes_back :
    (after (exec (.encTransition 0 true false)
      { up .node .run with panel := { State.reset.panel with phase0 := 3, t0 := 2 } })).panel.t0 = 1 := by decide

/-! ### The watchdogs (the worked examples of 16) -/

theorem test_token : token 0x3A7C 0x5C2E = 0x83A6 ∧ token 0x74F8 0x5C2E = 0x73EB := by decide

theorem test_next_question : nextQ 0x3A7C = 0x74F8 ∧ nextQ 0x74F8 = 0xE9F1 ∧ nextQ 0xE9F1 = 0xD3E2 := by decide

/-- A WDH cycle at question Q, in which the window is open or not. -/
def wdhAt (q : Word) (o : Bool) : State :=
  let s := setWord (up .node .run) 0xC 4 0x5C2E
  { s with wdog := { s.wdog with h := { s.wdog.h with st := .run, q := q, seed := 0x5C2E, opened := o, ofs := 500000, per := 1000000 } } }

/-- WDH expired at question 0x3A7C. -/
def wdhOut : State :=
  let s := wdhAt 0x3A7C false
  { s with wdog := { s.wdog with h := { s.wdog.h with st := .expired } } }

/-- Step 3 of Table WDG-3. -/
theorem test_answer_served :
    let s := after (exec (.wdhAnswer .host 0x83A6) (wdhAt 0x3A7C true))
    s.wdog.served = 1 ∧ s.wdog.h.errors = 0 ∧ s.wdog.h.q = 0x74F8 := by decide

/-- Step 4 of Table WDG-3. -/
theorem test_answer_early :
    let s := after (exec (.wdhAnswer .host 0x73EB) (wdhAt 0x74F8 false))
    s.wdog.h.errors = 1 ∧ s.wdog.h.q = 0xE9F1 ∧ s.evq.queue.map (fun e => (e.code, e.argx)) = [(0x30, 1)] := by decide

/-! ### Sealed traffic (the worked example of 19) -/

theorem test_nonce_of_the_starter :
    nonceBytes 0x1F3 0x2A 0 = [0xF3, 0x01, 0, 0, 0, 0, 0, 0, 0x2A, 0x00, 0x00, 0x00] := by decide

theorem test_nonce_of_the_node :
    nonceBytes 5 0x137 1000 = [0x05, 0, 0, 0, 0, 0, 0, 0, 0x37, 0x01, 0x80, 0x3E] := by decide

theorem test_replay_refused : windowTake { epoch := 0x2A, ctr := 0x1F3, map := 1 } 0x2A 0x1F3 = none := by decide

/-! ### Boundary scan -/

theorem test_reset_selects_bypass :
    (after (exec .tapReset { up .node .run with tap := { ins := .highz } })).tap.ins = .bypass := by decide

/-! ### Well-formedness: one ill-formed term for each check -/

/-- The answers of a card that has every field in its width. -/
def answers : SdAnswers :=
  { cmd0 := 1, cmd8 := 1, echo := 0xAA, cmd59 := 0, acmd41 := true, ocr := 0, csd := 1, capacity := 8192
    cmd16 := 0, locked := false }

theorem test_ill_formed_descriptors :
    Descriptor.wf { desc 1 0 0 0 0 0 with code := 256 } = false ∧ Descriptor.wf { desc 1 0 0 0 0 0 with sub := 256 }
    = false ∧ Descriptor.wf { desc 1 0 0 0 0 0 with word1 := 65536 } = false ∧ Descriptor.wf { desc 1 0 0 0 0 0 with
    arg0 := 65536 } = false ∧ Descriptor.wf { desc 1 0 0 0 0 0 with arg1 := 65536 } = false ∧ Descriptor.wf { desc 1
    0 0 0 0 0 with off0 := 1048576 } = false ∧ Descriptor.wf { desc 1 0 0 0 0 0 with len0 := 4096 } = false ∧
    Descriptor.wf { desc 1 0 0 0 0 0 with off1 := 1048576 } = false ∧ Descriptor.wf { desc 1 0 0 0 0 0 with len1 :=
    4096 } = false := by
  decide

theorem test_ill_formed_parts :
    FrameEnd.wf (.poison 65536) = false ∧ LineFrame.wf { goodFrame 0 with crc := 2 ^ 32 } = false ∧ LineFrame.wf {
    goodFrame 0 with term := .poison 65536 } = false ∧ Source.wf (.queue .host { desc 1 0 0 0 0 0 with code := 256
    }) = false ∧ Source.wf (.line false false 256) = false ∧ Via.wf (.line false false 256) = false ∧ BootEnv.wf {
    bootEnv with upTo := 13 } = false ∧ BootEnv.wf { bootEnv with selftest := 64 } = false ∧ HostAccess.wf (.regRead
    128) = false ∧ HostAccess.wf (.regWrite 128 0 true) = false ∧ HostAccess.wf (.winRead 16777216 true true) =
    false ∧ HostAccess.wf (.winWrite 16777216 0 true true) = false ∧ MediaFound.wf (.card { answers with csd := 4 }
    []) = false := by
  decide

theorem test_ill_formed_answers :
    SdAnswers.wf { answers with cmd0 := 256 } = false ∧ SdAnswers.wf { answers with cmd8 := 256 } = false ∧
    SdAnswers.wf { answers with echo := 256 } = false ∧ SdAnswers.wf { answers with cmd59 := 256 } = false ∧
    SdAnswers.wf { answers with ocr := 2 ^ 32 } = false ∧ SdAnswers.wf { answers with csd := 4 } = false ∧
    SdAnswers.wf { answers with cmd16 := 256 } = false ∧ answers.wf = true ∧ (desc 1 0 0 0 0 0).wf = true ∧
    bootEnv.wf = true := by
  decide

theorem test_ill_formed_commands_1 :
    Instr.wf (.porstRelease .node true { bootEnv with upTo := 13 }) = false ∧ Instr.wf (.logicReset { bootEnv with
    upTo := 13 }) = false ∧ Instr.wf (.coreReset { bootEnv with upTo := 13 }) = false ∧ Instr.wf (.syncFrame .a {
    goodFrame 0 with crc := 2 ^ 32 } []) = false ∧ Instr.wf (.frameForward .a { goodFrame 0 with crc := 2 ^ 32 } [])
    = false ∧ Instr.wf (.rsvdTypeFrame .a { goodFrame 0 with crc := 2 ^ 32 }) = false ∧ Instr.wf
    (.loopbackNoticeFrame .a { goodFrame 0 with crc := 2 ^ 32 }) = false ∧ Instr.wf (.heatReceive .a { goodFrame 0
    with crc := 2 ^ 32 }) = false ∧ Instr.wf (.heatReturn .a { goodFrame 0 with crc := 2 ^ 32 }) = false ∧ Instr.wf
    (.pingOutcome 4096) = false ∧ Instr.wf (.batonReceive .a { goodFrame 0 with crc := 2 ^ 32 }) = false ∧ Instr.wf
    (.batonReturn .a { goodFrame 0 with crc := 2 ^ 32 }) = false := by
  decide

theorem test_ill_formed_commands_2 :
    Instr.wf (.txnExpiry true true 256) = false ∧ Instr.wf (.expiredDiscard true 256) = false ∧ Instr.wf
    (.doneEntryLapse true 256) = false ∧ Instr.wf (.bcastDrop true 256) = false ∧ Instr.wf (.txnRetry 4096 0) =
    false ∧ Instr.wf (.txnRetry 0 256) = false ∧ Instr.wf (.txnLost 4096 0) = false ∧ Instr.wf (.txnLost 0 256) =
    false ∧ Instr.wf (.ping true true 256) = false ∧ Instr.wf (.regRead true true 256) = false ∧ Instr.wf (.regWrite
    true true 256) = false ∧ Instr.wf (.tblRead true true 256) = false := by
  decide

theorem test_ill_formed_commands_3 :
    Instr.wf (.tblWrite true true 256) = false ∧ Instr.wf (.cfgOwnQuery true true 256) = false ∧ Instr.wf
    (.flashRead (.line false false 256)) = false ∧ Instr.wf (.traceRead true true 256) = false ∧ Instr.wf (.cspXfer
    (.line false false 256)) = false ∧ Instr.wf (.adcCapt (.line false false 256)) = false ∧ Instr.wf (.captRead
    true true 256) = false ∧ Instr.wf (.relayCtrlMap true true 256) = false ∧ Instr.wf (.relayCtrlStatus true true
    256) = false ∧ Instr.wf (.ownerLockSet true true 256) = false ∧ Instr.wf (.ownerLockClear true true 256) = false
    ∧ Instr.wf (.posBind true true 256) = false := by
  decide

theorem test_ill_formed_commands_4 :
    Instr.wf (.posUnbind true true 256) = false ∧ Instr.wf (.injEnable true true 256) = false ∧ Instr.wf (.rekey
    true true 256) = false ∧ Instr.wf (.lineStart .host { desc 1 0 0 0 0 0 with code := 256 }) = false ∧ Instr.wf
    (.lineStop .host { desc 1 0 0 0 0 0 with code := 256 }) = false ∧ Instr.wf (.enum .host { desc 1 0 0 0 0 0 with
    code := 256 }) = false ∧ Instr.wf (.countReceive .a { goodFrame 0 with crc := 2 ^ 32 }) = false ∧ Instr.wf
    (.countReturn .a { goodFrame 0 with crc := 2 ^ 32 }) = false ∧ Instr.wf (.lineTxn .host { desc 1 0 0 0 0 0 with
    code := 256 }) = false ∧ Instr.wf (.gunSchedule .host { desc 1 0 0 0 0 0 with code := 256 }) = false ∧ Instr.wf
    (.relayPull .host { desc 1 0 0 0 0 0 with code := 256 }) = false ∧ Instr.wf (.takeoverEnd .host { desc 1 0 0 0 0
    0 with code := 256 }) = false := by
  decide

theorem test_ill_formed_commands_5 :
    Instr.wf (.nop .host { desc 1 0 0 0 0 0 with code := 256 }) = false ∧ Instr.wf (.busDecodeError true 128) =
    false ∧ Instr.wf (.hostStrobeEarly (.regRead 128) true) = false ∧ Instr.wf (.apertureWrite 16777216 0 true true)
    = false ∧ Instr.wf (.apertureRead 16777216 true true) = false ∧ Instr.wf (.xipRead 8388608) = false ∧ Instr.wf
    (.xipEnable .host true 8 0) = false ∧ Instr.wf (.xipEnable .host true 0 16) = false ∧ Instr.wf (.registerWrite
    .host 128 0 true) = false ∧ Instr.wf (.goSetup (.line false false 256)) = false ∧ Instr.wf (.goRun (.line false
    false 256)) = false ∧ Instr.wf (.goSafe (.line false false 256)) = false := by
  decide

theorem test_ill_formed_commands_6 :
    Instr.wf (.resume (.line false false 256)) = false ∧ Instr.wf (.goMinimal (.line false false 256)) = false ∧
    Instr.wf (.reboot (.line false false 256)) = false ∧ Instr.wf (.rest (.line false false 256)) = false ∧ Instr.wf
    (.wake (.line false false 256)) = false ∧ Instr.wf (.holdSenseSample 65536 0) = false ∧ Instr.wf
    (.holdSenseSample 0 65536) = false ∧ Instr.wf (.lpOff 65536) = false ∧ Instr.wf (.lpOvervoltage 65536) = false ∧
    Instr.wf (.lpBack 65536) = false ∧ Instr.wf (.lsFault 65536) = false ∧ Instr.wf (.lsOk 65536) = false := by
  decide

theorem test_ill_formed_commands_7 :
    Instr.wf (.lsBrownout 65536) = false ∧ Instr.wf (.channelFaultDetect 16 0) = false ∧ Instr.wf
    (.channelFaultDetect 0 256) = false ∧ Instr.wf (.channelFaultClear 16 0) = false ∧ Instr.wf (.channelFaultClear
    0 256) = false ∧ Instr.wf (.faultRetry 16) = false ∧ Instr.wf (.retryCountReset 16) = false ∧ Instr.wf
    (.inputEdge 16 true true 0) = false ∧ Instr.wf (.pwmPeriodStart 16) = false ∧ Instr.wf (.slIssue 16 0) = false ∧
    Instr.wf (.slIssue 0 16) = false ∧ Instr.wf (.slGate 16 0) = false := by
  decide

theorem test_ill_formed_commands_8 :
    Instr.wf (.slGate 0 16) = false ∧ Instr.wf (.forceSet .host 16 true) = false ∧ Instr.wf (.forceRemove .host 16)
    = false ∧ Instr.wf (.modeOffEnd 16) = false ∧ Instr.wf (.calZero .host 16) = false ∧ Instr.wf (.calFull .host
    16) = false ∧ Instr.wf (.calAbort .host 16) = false ∧ Instr.wf (.aoReadbackSample 16 0) = false ∧ Instr.wf
    (.keyPress 48 true) = false ∧ Instr.wf (.keyRelease 48) = false ∧ Instr.wf (.encTransition 2 true true) = false
    ∧ Instr.wf (.mediaIdentify (.card { answers with csd := 4 } [])) = false := by
  decide

theorem test_ill_formed_commands_9 :
    Instr.wf (.start (.line false false 256)) = false ∧ Instr.wf (.abort (.line false false 256)) = false ∧ Instr.wf
    (.prepare (.line false false 256)) = false ∧ Instr.wf (.activate (.line false false 256)) = false ∧ Instr.wf
    (.veto (.line false false 256)) = false ∧ Instr.wf (.relayJoin (.line false false 256)) = false ∧ Instr.wf
    (.relayReceive .a { goodFrame 0 with crc := 2 ^ 32 }) = false ∧ Instr.wf (.flashProgramDone 3) = false ∧
    Instr.wf (.pllHeadroomSample 101) = false ∧ Instr.wf (.injArm .host 4 0 true) = false ∧ Instr.wf (.injArm .host
    0 4 true) = false ∧ Instr.wf (.junctionCooled 16) = false := by
  decide

theorem test_ill_formed_commands_10 :
    Instr.wf (.reverseFeedEnd 16) = false := by
  decide

/-- A node in that mode that holds such a transaction may run its row. -/
theorem held_in (s : State) (op : Nat) (data : List Byte) (h : s.mode.logicReset = false) (c : coreRuns s = true)
    (l : s.time.line ≤ 100000) (f : s.txn.held = [heldTxn op data]) : Held s false false 3 op (heldTxn op data) where
  found := by simp [findHeld, f, heldTxn, isTxn]
  awake := h
  core := fun _ => c
  live := l

theorem held_up (op : Nat) (data : List Byte) : Held (heldUp op data) false false 3 op (heldTxn op data) :=
  held_in _ op data rfl rfl (Nat.zero_le _) rfl

/-! ### The hypotheses of the statements can be met -/

theorem witness_StepRunsFrontCommand :
    ({ State.reset with pending := [.bypass, .tapReset] } : State).pending = Instr.bypass :: [Instr.tapReset] := by decide

theorem witness_EmptyQueueTicks :
    State.reset.pending = [] ∧ State.reset.mode.porst = false ∧ State.reset.time.slew = 0 ∧
      State.reset.time.tstate ≠ .coarse ∧ State.reset.time.line % 4 = 0 ∧ State.reset.time.frac < 256 ∧
      State.reset.time.line + 8 < 2 ^ 64 ∧
      ({ State.reset with mode := { State.reset.mode with porst := true } } : State).pending = [] ∧
      ({ State.reset with mode := { State.reset.mode with porst := true } } : State).mode.porst = true := by decide

theorem witness_StepKeepsWellFormed :
    State.reset.Wf ∧ step State.reset = .next (tick State.reset) := ⟨⟨by decide, by decide, by decide, by decide⟩, rfl⟩

theorem witness_CommandsKeepToTheirParts :
    exec .bypass State.reset = .next (setTapIns State.reset .bypass) ∧ Part.mem ∉ touches .bypass := ⟨rfl, by decide⟩

/-! #### ResetsAndBoots -/

theorem witness_ResetsAndBoots_1 :
    (up .node .run).mode.porst = false ∧ (up .node .run).mode.logicReset = false := by decide

theorem witness_ResetsAndBoots_2 : (bootBegin (up .node .setup)).mode.booting = true := by decide

/-- BOOT_STABLE in the main image, in PWRFAIL_N, and in the minimal image behind three false starts. -/
theorem witness_ResetsAndBoots_3 :
    (up .node .run).mode.bootOk = true ∧ (up .node .run).mode.stable = false ∧ (up .node .run).mode.pwrfail = false ∧
      (up .node .run).mode.minimalImage = false ∧ (pwrOff (up .node .run)).mode.bootOk = true ∧
      (pwrOff (up .node .run)).mode.stable = false ∧ (pwrOff (up .node .run)).mode.pwrfail = true ∧
      minimalUp.mode.bootOk = true ∧ minimalUp.mode.stable = false ∧ minimalUp.mode.minimalImage = true ∧
      3 ≤ minimalUp.mode.fstarts := by decide

theorem witness_ResetsAndBoots_4 :
    ({ State.reset with wdog := { State.reset.wdog with cReset := some true } } : State).wdog.cReset = some true := by decide

theorem witness_ResetsAndBoots_5 :
    (porstEnter State.reset .porst).mode.porst = true ∧ (porstEnter State.reset .porst).mode.booting = false ∧
      causeKind (porstEnter State.reset .porst).mode.cause = 0 ∧ (porstEnter State.reset .porst).upd.falling = none ∧
      ({ bootEnv with upTo := 2 } : BootEnv).upTo = 2 ∧ ({ bootEnv with upTo := 0 } : BootEnv).upTo = 0 := by decide

theorem witness_ResetsAndBoots_6 :
    (logicEnter (up .node .run) .bootTimer).mode.porst = false ∧
      (logicEnter (up .node .run) .bootTimer).mode.logicReset = true ∧
      (logicEnter (up .node .run) .bootTimer).mode.booting = false ∧
      causeKind (logicEnter (up .node .run) .bootTimer).mode.cause = 1 := by decide

theorem witness_ResetsAndBoots_7 :
    (coreEnter (up .node .run) .wdc).mode.porst = false ∧ (coreEnter (up .node .run) .wdc).mode.logicReset = false ∧
      (coreEnter (up .node .run) .wdc).mode.coreReset = true ∧ (coreEnter (up .node .run) .wdc).mode.booting = false ∧
      causeKind (coreEnter (up .node .run) .wdc).mode.cause = 2 := by decide

/-! #### FieldDieResetsAndReturns -/

theorem witness_FieldDieResetsAndReturns_1 :
    fieldRuns (up .node .run) = true ∧ (up .node .run).mode.porst = false ∧ (up .node .run).mode.booting = false ∧
      (up .node .run).mode.logicReset = false ∧ (up .node .run).mode.fieldReset = false ∧
      (up .node .run).supply.barrierDown = false := by decide

theorem witness_FieldDieResetsAndReturns_2 :
    (fieldResetStart (up .node .run)).mode.porst = false ∧ (fieldResetStart (up .node .run)).mode.booting = false ∧
      (fieldResetStart (up .node .run)).mode.logicReset = false ∧ (fieldResetStart (up .node .run)).mode.fieldReset = true ∧
      (fieldResetStart validUp).mode.fieldReset = true ∧ (fieldResetStart validUp).cfg.valid = true := by decide

theorem witness_FieldDieResetsAndReturns_3 :
    (barrierLost (up .node .run)).mode.porst = false ∧ (barrierLost (up .node .run)).mode.logicReset = false ∧
      (barrierLost (up .node .run)).supply.barrierDown = true ∧
      (barrierLost (up .node .run)).time.line ≤ (barrierLost (up .node .run)).supply.barrierT + 1000000 ∧
      (barrierLost (up .node .run)).mode.fieldReset = false ∧ lateBarrier.mode.porst = false ∧
      lateBarrier.mode.logicReset = false ∧ lateBarrier.supply.barrierDown = true ∧
      lateBarrier.supply.barrierT + 1000000 < lateBarrier.time.line ∧ lateBarrier.mode.fieldReset = false ∧
      (fieldResetStart (barrierLost (up .node .run))).mode.fieldReset = true ∧
      (fieldResetStart (barrierLost (up .node .run))).supply.barrierDown = true := by decide

theorem witness_FieldDieResetsAndReturns_4 :
    (up .node .run).mode.porst = false ∧ 12999 < 13000 ∧ (up .node .run).mode.fieldReset = false ∧
      (up .node .run).mode.logicReset = false := by decide

/-! #### SuppliesAreReported -/

theorem witness_SuppliesAreReported_1 :
    fieldRuns (up .node .run) = true ∧ 16500 ≤ 16500 ∧ (up .node .run).supply.lpUv = false ∧ 33000 < 33001 ∧
      (up .node .run).supply.lpOv = false ∧ (up .node .run).supply.lpRev = false := by decide

theorem witness_SuppliesAreReported_2 :
    fieldRuns (supplied { State.reset.supply with lpOff := true }) = true ∧
      (supplied { State.reset.supply with lpOff := true }).supply.lpOff = true ∧ 17000 ≤ 17000 ∧ 17000 ≤ 32000 := by decide

theorem witness_SuppliesAreReported_3 :
    fieldRuns (up .node .run) = true ∧ (17999 < 18000 ∨ 30000 < 17999) ∧ (30001 < 18000 ∨ 30000 < 30001) ∧
      (up .node .run).supply.lsUv = false ∧ (up .node .run).supply.lsOv = false := by decide

theorem witness_SuppliesAreReported_4 :
    fieldRuns (supplied { State.reset.supply with lsOv := true }) = true ∧
      ((supplied { State.reset.supply with lsOv := true }).supply.lsUv = true ∨
        (supplied { State.reset.supply with lsOv := true }).supply.lsOv = true) ∧
      (supplied { State.reset.supply with lsOv := true }).supply.dieHot = false ∧ 18000 ≤ 30000 ∧ 30000 ≤ 30000 := by decide

theorem witness_SuppliesAreReported_5 :
    fieldRuns (up .node .run) = true ∧ (up .node .run).supply.dieHot = false ∧ (300 : Int) ≤ 300 ∧
      fieldRuns (supplied { State.reset.supply with dieHot := true }) = true ∧
      (supplied { State.reset.supply with dieHot := true }).supply.dieHot = true ∧ (269 : Int) < 270 := by decide

/-! #### ChannelFaultsTripAndClear -/

/-- A code that is no trip, and a trip, of channel 0. -/
theorem witness_ChannelFaultsTripAndClear_1 :
    fieldRuns (up .node .run) = true ∧ (up .node .run).supply.barrierDown = false ∧
      codeApplies (up .node .run) 0 0x12 = true ∧ isTrip (diagMode (up .node .run) 0) 0x12 = false ∧
      (chan (up .node .run) 0).faults.contains 0x12 = false ∧ fieldRuns outputUp = true ∧
      outputUp.supply.barrierDown = false ∧ codeApplies outputUp 2 1 = true ∧ isTrip (diagMode outputUp 2) 1 = true ∧
      (chan outputUp 2).tripOff = false ∧ (chan outputUp 2).faults.contains 1 = false ∧
      2 < outputUp.field.chans.length := by decide

theorem witness_ChannelFaultsTripAndClear_2 :
    fieldRuns ((up .node .run).onChan 0 (fun c => { c with faults := [0x12] })) = true ∧
      ((up .node .run).onChan 0 (fun c => { c with faults := [0x12] })).supply.barrierDown = false ∧
      (chan ((up .node .run).onChan 0 (fun c => { c with faults := [0x12] })) 0).faults.contains 0x12 = true ∧
      codeJudged ((up .node .run).onChan 0 (fun c => { c with faults := [0x12] })) 0x12 = true ∧
      0x12 ≠ (chan ((up .node .run).onChan 0 (fun c => { c with faults := [0x12] })) 0).lastTrip := by decide

theorem witness_ChannelFaultsTripAndClear_3 :
    0 < (tripped 1 false).field.chans.length ∧ (chan (tripped 1 false) 0).tripOff = true ∧
      (chan (tripped 1 false) 0).latched = 0 ∧ (chan (tripped 1 false) 0).lastTrip ≠ 9 ∧
      (chan (tripped 1 false) 0).lastTrip ≠ 5 ∧ (chan (tripped 1 false) 0).waitCool = false ∧
      (chan (tripped 5 false) 0).lastTrip = 5 ∧ (chan (tripped 5 false) 0).cooled = false ∧
      (chan (tripped 5 true) 0).cooled = true ∧ (chan (tripped 5 true) 0).waitCool = false := by decide

theorem witness_ChannelFaultsTripAndClear_4 :
    15 < ((up .node .run).onChan 15 (fun c => { c with waitCool := true, tripOff := true, recentTrip := true })).field.chans.length ∧
      (chan ((up .node .run).onChan 15 (fun c => { c with waitCool := true, tripOff := true, recentTrip := true })) 15).waitCool = true ∧
      (chan ((up .node .run).onChan 15 (fun c => { c with waitCool := true, tripOff := true, recentTrip := true })) 15).recentTrip = true := by decide

theorem witness_ChannelFaultsTripAndClear_5 :
    (chan (tripped 9 false) 0).lastTrip = 9 ∧ (chan (tripped 9 false) 0).tripOff = true ∧
      (chan (tripped 9 false) 0).latched = 0 ∧ (tripped 9 false).supply.lpOff = false := by decide

theorem witness_ChannelFaultsTripAndClear_6 :
    pathOpen (up .node .run) .host = true ∧ (up .node .run).mode.mode ≠ .minimal ∧ (up .node .run).mode.mode = .run := by decide

/-! #### WatchdogsJudgeAnswers -/

/-- Served, wrong, early, and in EXPIRED. -/
theorem witness_WatchdogsJudgeAnswers_1 :
    pathOpen (wdhAt 0x3A7C true) .host = true ∧ (wdhAt 0x3A7C true).wdog.h.isOver (wdhAt 0x3A7C true).time.line = false ∧
      (wdhAt 0x3A7C true).wdog.h.isOpen (wdhAt 0x3A7C true).time.line = true ∧
      (0x83A6 : Word) = token (wdhAt 0x3A7C true).wdog.h.q (wdhAt 0x3A7C true).wdog.h.seed ∧
      (0x1234 : Word) ≠ token (wdhAt 0x3A7C true).wdog.h.q (wdhAt 0x3A7C true).wdog.h.seed ∧
      (wdhAt 0x3A7C true).wdog.h.errors < 2 ∧ pathOpen (wdhAt 0x74F8 false) .host = true ∧
      (wdhAt 0x74F8 false).wdog.h.isOver (wdhAt 0x74F8 false).time.line = false ∧ (wdhAt 0x74F8 false).wdog.h.st = .run ∧
      (wdhAt 0x74F8 false).wdog.h.isOpen (wdhAt 0x74F8 false).time.line = false ∧ (wdhAt 0x74F8 false).wdog.h.errors < 2 ∧
      wdhOut.wdog.h.isOver wdhOut.time.line = false ∧ wdhOut.wdog.h.st = .expired ∧ pathOpen wdhOut .host = true ∧
      token wdhOut.wdog.h.q wdhOut.wdog.h.seed = 0x83A6 := by decide

theorem witness_WatchdogsJudgeAnswers_2 :
    (wdhAt 0x74F8 false).wdog.h.st = .run ∧ (wdhAt 0x74F8 false).wdog.h.opened = false ∧
      (wdhAt 0x74F8 false).wdog.h.frozen = none ∧ (wdhAt 0x74F8 false).wdog.h.errors < 2 ∧
      ({ (wdhAt 0x74F8 false) with wdog := { (wdhAt 0x74F8 false).wdog with h := { st := .run, errors := 2 } } } : State).wdog.h.st = .run ∧
      ({ (wdhAt 0x74F8 false) with wdog := { (wdhAt 0x74F8 false).wdog with h := { st := .run, errors := 2 } } } : State).wdog.h.frozen = none ∧
      2 ≤ ({ (wdhAt 0x74F8 false) with wdog := { (wdhAt 0x74F8 false).wdog with h := { st := .run, errors := 2 } } } : State).wdog.h.errors := by decide

theorem witness_WatchdogsJudgeAnswers_3 :
    coreRuns wdcUp = true ∧ wdcUp.wdog.c.isOver wdcUp.time.line = false ∧ wdcUp.wdog.c.isOpen wdcUp.time.line = true ∧
      wdcUp.wdog.c.st = .run ∧ wdcUp.wdog.c.frozen = none ∧ wdcUp.wdog.cRest = false ∧ wdcUp.wdog.c.errors < 2 := by decide

theorem witness_WatchdogsJudgeAnswers_4 :
    (up .node .run).mode.coreReset = false ∧ (up .node .run).mode.porst = false := by decide

theorem witness_WatchdogsJudgeAnswers_5 :
    ({ up .node .run with wdog := { State.reset.wdog with h := { st := .run, frozen := some 8 }, c := { frozen := some 8 } } } : State).wdog.h.frozen = some 8 ∧
      ({ up .node .run with wdog := { State.reset.wdog with h := { st := .run, frozen := some 8 }, c := { frozen := some 8 } } } : State).wdog.c.frozen = some 8 := by decide

/-! #### ModeCommandsTakeEffect -/

theorem witness_ModeCommandsTakeEffect_1 :
    pathOpen (up .node .run) .host = true ∧ (up .node .run).mode.rest = false ∧ modeRefusal (up .node .run) 1 = 0 ∧
      (up .node .run).mode.coreReset = false ∧ (up .node .run).mode.mode = .run := by decide

theorem witness_ModeCommandsTakeEffect_2 :
    pathOpen (up .node .setup) .host = true ∧ (up .node .setup).mode.rest = false ∧ modeRefusal (up .node .setup) 2 = 0 ∧
      (up .node .setup).mode.mode = .setup ∧ (up .node .setup).mode.coreReset = false := by decide

theorem witness_ModeCommandsTakeEffect_3 :
    pathOpen (up .node .safe) .host = true ∧ (up .node .safe).mode.rest = false ∧ (up .node .safe).mode.mode = .safe ∧
      (up .node .safe).mode.coreReset = false ∧ resumeOk (up .node .safe) = true := by decide

theorem witness_ModeCommandsTakeEffect_4 :
    pathOpen (setWord (up .node .run) 1 2 1) .host = true ∧ (setWord (up .node .run) 1 2 1).mode.rest = false ∧
      modeRefusal (setWord (up .node .run) 1 2 1) 7 = 0 := by decide

theorem witness_ModeCommandsTakeEffect_5 :
    ({ up .node .run with mode := { (up .node .run).mode with restPending := true } } : State).mode.restPending = true ∧
      coreRuns { up .node .run with mode := { (up .node .run).mode with restPending := true } } = true := by decide

/-- GO_RUN by the line. -/
theorem witness_ModeCommandsTakeEffect_6 :
    Held (heldUp 0x0D [2, 0]) false false 3 0x0D (heldTxn 0x0D [2, 0]) ∧ fieldAt (heldTxn 0x0D [2, 0]).data 0 2 = 2 ∧
      modeRefusalIn (heldUp 0x0D [2, 0]).mode.mode (dropTxn (heldUp 0x0D [2, 0]).txn.held (heldTxn 0x0D [2, 0]).id)
        (heldUp 0x0D [2, 0]) 2 = 0 := ⟨held_up _ _, by decide, by decide⟩

/-! #### HoldupPinsAreServed -/

theorem witness_HoldupPinsAreServed_1 :
    (up .node .run).mode.porst = false ∧ (up .node .run).mode.logicReset = false ∧ (up .node .run).health.holdCt = 0xFFFF ∧
      cfgF (up .node .run) 1 5 0 16 ≤ 48000 ∧ 0 < cfgF (setWord (up .node .run) 1 5 9000) 1 5 0 16 ∧
      (up .node .run).mode.rest = false ∧ (up .node .run).health.warn.toNat / 2 ^ 4 % 2 = 0 := by decide

theorem witness_HoldupPinsAreServed_2 :
    (up .node .run).mode.porst = false ∧ (up .node .run).mode.pwrfail = false ∧
      (pwrOff (up .node .run)).mode.porst = false ∧ (pwrOff (up .node .run)).mode.pwrfail = true := by decide

theorem witness_HoldupPinsAreServed_3 :
    (up .node .run).mode.porst = false ∧ (up .node .run).mode.safeReq = false ∧ bootHolds (up .node .run) = false ∧
      ({ up .node .safe with mode := { (up .node .safe).mode with safeReq := true } } : State).mode.porst = false ∧
      ({ up .node .safe with mode := { (up .node .safe).mode with safeReq := true } } : State).mode.safeReq = true := by decide

/-! #### FramesDoWhatTheirTypeSays and HeatsAndBatonsPassOrReturn -/

theorem witness_FramesDoWhatTheirTypeSays_1 :
    isUp (up .node .run) .a = false ∧ isUp (bothUp .node) .a = true ∧ (bothUp .node).mode.porst = false ∧
      (bothUp .node).inj.armed = none ∧ (bothUp .node).inj.heldFrame = none ∧
      (lport (atEnd (bothUp .node) (goodFrame 4)) .a).skip = false ∧
      (lport (atEnd skipping (goodFrame 4)) .a).skip = true ∧ isUp skipping .a = true ∧
      isUp (portUp (up .bench .run) .a) .a = true ∧
      (lport (atEnd (portUp (up .bench .run) .a) (goodFrame 4)) .a).skip = false ∧
      route (arrived (portUp (up .bench .run) .a) .a (goodFrame 4)) .a (goodFrame 4).tin = none := by decide

theorem passes_node (t : Nat) (h : t = 1 ∨ t = 2 ∨ t = 3 ∨ t = 4 ∨ t = 5 ∨ t = 6 ∨ t = 9) :
    Passes (bothUp .node) .a (goodFrame t) (some .b) ∧ frameType (goodFrame t).body = t := by
  rcases h with rfl | rfl | rfl | rfl | rfl | rfl | rfl <;>
    exact ⟨⟨by decide, by decide, by decide, by decide, by decide, by decide⟩, by decide⟩

theorem passes_anchor (t : Nat) (h : t = 1 ∨ t = 2 ∨ t = 3) :
    Passes (bothUp .anchor) .a (goodFrame t) (some .a) ∧ frameType (goodFrame t).body = t := by
  rcases h with rfl | rfl | rfl <;>
    exact ⟨⟨by decide, by decide, by decide, by decide, by decide, by decide⟩, by decide⟩

theorem passes_starter (t : Nat) (h : t = 1 ∨ t = 2 ∨ t = 3) :
    Passes (bothUp .starter) .b (goodFrame t) none ∧ frameType (goodFrame t).body = t := by
  rcases h with rfl | rfl | rfl <;>
    exact ⟨⟨by decide, by decide, by decide, by decide, by decide, by decide⟩, by decide⟩

/-- A counting frame at each role, and a starter that takes a good one and a poisoned one. -/
theorem witness_FramesDoWhatTheirTypeSays_2 :
    (bothUp .node).mode.role = .node ∧ (bothUp .anchor).mode.role = .anchor ∧ (bothUp .starter).mode.role = .starter ∧
      (takenIn (bothUp .starter) .b (goodFrame 3)).mode.logicReset = false ∧ verdict (goodFrame 3) = .good ∧
      verdict { goodFrame 3 with term := .poison 5 } ≠ .good := by decide

/-- A frame of reserved TYPE whose egress is UP. -/
theorem witness_FramesDoWhatTheirTypeSays_3 :
    rsvdType (frameType (goodFrame 9).body) = true ∧ endedEarly (goodFrame 9) = false ∧
      isUp (takenIn (bothUp .node) .a (goodFrame 9)) .b = true := by decide

theorem witness_HeatsAndBatonsPassOrReturn :
    (takenIn (bothUp .starter) .b (goodFrame 1)).mode.logicReset = false ∧ heatOrigin (goodFrame 1).body = false ∧
      verdict (goodFrame 1) = .good ∧ verdict { goodFrame 1 with term := .poison 5 } ≠ .good ∧
      frameOrigin (goodFrame 2).body = false ∧ (takenIn (bothUp .starter) .b (goodFrame 2)).mode.logicReset = false ∧
      verdict (goodFrame 2) = .good ∧ verdict { goodFrame 2 with bad := 1 } ≠ .good := by decide

/-! #### Line time -/

theorem witness_LineTimeRowsTakeEffect_1 :
    isSource { bothUp .starter with time := { State.reset.time with sending := true } } = true ∧
      isUp { bothUp .starter with time := { State.reset.time with sending := true } } .b = true ∧
      (bothUp .starter).mode.role = .starter ∧ isSource (portUp takenUp .a) = true ∧
      isUp (portUp takenUp .a) .a = true ∧ (portUp takenUp .a).mode.role ≠ .starter := by decide

theorem witness_LineTimeRowsTakeEffect_2 :
    (missing 7).time.syncN = some 4 ∧ lineRef (missing 7) = true ∧ (missing 7).mode.lineEngine = true ∧
      (missing 7).time.missed = 7 := by decide

theorem witness_LineTimeRowsTakeEffect_3 :
    (pllAt .acquire).time.pll = .acquire ∧ (pllAt .acquire).mode.crystal = true ∧ refPresent (pllAt .acquire) = true ∧
      (pllAt .acquire).mode.porst = false ∧ (pllAt .locked).time.pll = .locked ∧ refPresent (pllAt .locked) = true ∧
      (pllAt .locked).mode.porst = false := by decide

theorem witness_LineTimeRowsTakeEffect_4 :
    lineRef (portUp (up .node .run) .a) = true ∧ (portUp (up .node .run) .a).mode.crystal = true ∧
      refPresent (portUp (up .node .run) .a) = true ∧ (portUp (up .node .run) .a).mode.porst = false := by decide

theorem witness_LineTimeRegistersAct :
    pathOpen (up .node .run) .host = true ∧ presetOk (up .node .run) (up .node .run).mode.mode = false ∧
      pathOpen (up .bench .setup) .host = true ∧ presetOk (up .bench .setup) (up .bench .setup).mode.mode = true := by decide

theorem witness_CycleInstantsTakeEffect_1 :
    (up .node .run).mode.porst = false ∧ (up .node .run).mode.fieldReset = false ∧ (up .node .run).mode.logicReset = false ∧
      (up .node .run).supply.barrierDown = false ∧ sampleDue (up .node .run) + 4 ≤ 2 ^ 64 ∧
      (up .node .run).cfg.armed = none := by decide

theorem witness_CycleInstantsTakeEffect_2 :
    ({ up .node .run with cyc := { State.reset.cyc with frozen := some (takeSnapshot State.reset 4) } } : State).cyc.frozen =
      some (takeSnapshot State.reset 4) ∧ linkCarries (up .node .run) = true ∧
      linkCarries (barrierLost (up .node .run)) = false := by decide

theorem witness_CycleInstantsTakeEffect_3 :
    applyReady.mode.porst = false ∧ applyReady.mode.role = .node ∧ applyReady.cyc.applied < applyReady.cyc.nextApply ∧
      applyDue applyReady + 4 ≤ 2 ^ 64 ∧ reachLine applyReady.time.line (applyDue applyReady) < sampleDue applyReady ∧
      applyReady.cfg.armed = none ∧ commitsDiscarded applyReady = false ∧
      applyReady.cyc.commits.find? (fun x => x.cycle == applyReady.cyc.nextApply) = some { cycle := 1, data := none } ∧
      ({ applyReady with cyc := { applyReady.cyc with commits := [] } } : State).cyc.commits.find?
        (fun x => x.cycle == applyReady.cyc.nextApply) = none := by decide

theorem witness_CycleInstantsTakeEffect_4 :
    mayLaunch starterUp = true ∧ starterUp.sta.sampled = none ∧ starterUp.sta.stopping = none ∧
      starterUp.sta.plan = some aPlan ∧ mayLaunch (starterUp.store 0xE0040 [1, 0, 1, 0]) = true ∧
      outPub (starterUp.store 0xE0040 [1, 0, 1, 0]) / 65536 ≠ (starterUp.store 0xE0040 [1, 0, 1, 0]).sta.pubSeq := by decide

theorem witness_CycleInstantsTakeEffect_5 :
    oldestDue starterDue = some aCyc ∧ starterDue.mode.logicReset = false ∧ starterDue.sta.stopping = none ∧
      aCyc.cycle % 2 = 0 ∧
      oldestDue { starterDue with sta := { starterDue.sta with in0 := none, in1 := some { aCyc with cycle := 5 } } } =
        some { aCyc with cycle := 5 } ∧ ({ aCyc with cycle := 5 } : InCyc).cycle % 2 = 1 := by decide

/-! #### The Relay Link -/

theorem witness_PortsTrainAndFall_1 :
    (lport (portAt .nosig) .b).st = .nosig ∧ (lport (portAt .train) .b).st = .train ∧ (lport (portAt .align) .b).st = .align ∧
      (lport (portAt .up) .b).st = .up ∧ (portAt .up).link.cntFreeze = false := by decide

theorem witness_PortsTrainAndFall_2 :
    (up .anchor .run).mode.role = .anchor ∧ (up .starter .run).mode.role = .starter ∧ (up .anchor .run).mode.porst = false := by decide

theorem witness_LoopsAndBypassFollowTheirConditions_1 :
    loopCan (portUp (up .node .run) .b) .a = true ∧ loopCan (portUp (up .node .run) .a) .b = true ∧
      (portUp (up .node .run) .b).link.cntFreeze = false ∧
      relMay ((bothUp .node).onPort .b (fun l => { l with loop := true })) .b = true := by decide

theorem witness_LoopsAndBypassFollowTheirConditions_2 :
    ({ up .node .run with link := { State.reset.link with bypassDue := true, enabled := true } } : State).link.bypassDue = true ∧
      ({ up .node .run with link := { State.reset.link with bypassDue := true, enabled := true } } : State).link.enabled = true ∧
      (up .node .run).mode.logicReset = false ∧ (up .node .run).mode.pwrfail = false ∧
      (pwrOff { up .node .run with link := { State.reset.link with bypass := false } }).mode.pwrfail = true ∧
      (pwrOff { up .node .run with link := { State.reset.link with bypass := false } }).link.bypass = false := by decide

theorem witness_LoopsAndBypassFollowTheirConditions_3 :
    (lport ((portUp (up .node .run) .a).onPort .a (fun l => { l with bypassDue := true })) .a).bypassDue = true ∧
      (lport ((portUp (up .node .run) .a).onPort .a (fun l => { l with bypassDue := true })) .a).st = .up := by decide

theorem witness_NoticeSetsAndOwnFramesLeave_1 :
    isUp ((portUp (up .node .run) .a).onPort .a (fun l => { l with own := [[6]] })) .a = true ∧
      (lport ((portUp (up .node .run) .a).onPort .a (fun l => { l with own := [[6]] })) .a).noticeQ = [] ∧
      (lport ((portUp (up .node .run) .a).onPort .a (fun l => { l with own := [[6]] })) .a).own = [6] :: [] ∧
      isUp ((portUp (up .node .run) .a).onPort .a (fun l => { l with noticeQ := [[5]] })) .a = true ∧
      (lport ((portUp (up .node .run) .a).onPort .a (fun l => { l with noticeQ := [[5]] })) .a).noticeQ = [5] :: [] := by decide

theorem witness_NoticeSetsAndOwnFramesLeave_2 :
    isUp (bothUp .node) .a = true ∧ (bothUp .node).mode.porst = false ∧ (bothUp .node).mode.role = .node ∧
      route (bothUp .node) .a ((bothUp .node).time.line * 64) = some (some .b) ∧ noticeValid 5 0x20 0xDA = true ∧
      natBits (0x20 : Byte).toNat 5 1 = 1 := by decide

theorem witness_NoticeSetsAndOwnFramesLeave_3 :
    (bothUp .starter).mode.porst = false ∧ (bothUp .starter).mode.logicReset = false ∧ noticeValid 5 0x20 0xDA = true ∧
      (bothUp .starter).mode.role = .starter ∧ isUp (bothUp .starter) .b = true ∧
      route (bothUp .starter) .b ((bothUp .starter).time.line * 64) = some none ∧
      (bothUp .anchor).mode.porst = false ∧ (bothUp .anchor).mode.logicReset = false ∧
      (bothUp .anchor).mode.role = .anchor ∧ isUp (bothUp .anchor) .a = true ∧
      route (bothUp .anchor) .a ((bothUp .anchor).time.line * 64) = some (some .a) := by decide

theorem witness_LinkControlActs_1 :
    pathOpen (portUp (up .node .setup) .a) .host = true ∧ (portUp (up .node .setup) .a).mode.mode = .setup ∧
      (lport (portUp (up .node .setup) .a) .a).st = .up ∧ (up .node .setup).mode.role = .node ∧
      (up .node .setup).link.backwards = false ∧ (up .node .setup).link.loopForce = false ∧
      (up .node .setup).link.a.loop = false ∧ (up .node .setup).link.b.loop = false := by decide

theorem witness_LinkControlActs_2 :
    pathOpen (up .node .run) .host = true ∧ (up .node .run).mode.mode ≠ .setup ∧ (up .node .run).link.loopForce = false := by decide

theorem witness_LinkControlActs_3 :
    pathOpen (keyed (up .node .setup) .host) .host = true ∧ (keyed (up .node .setup) .host).mode.mode = .setup ∧
      ({ keyed (up .node .setup) .host with link := { State.reset.link with enabled := true } } : State).link.bypass = true ∧
      ({ keyed (up .node .setup) .host with link := { State.reset.link with enabled := true } } : State).link.enabled = true ∧
      keyOpen (hostAccess (keyed (up .node .setup) .host) .host) .host = true := by decide

/-! #### Held transactions: every opcode by the one lemma held_up -/

theorem witness_HeldTransactionsExecute_1 :
    Held (heldUp 0x01 []) false false 3 0x01 (heldTxn 0x01 []) ∧ (heldTxn 0x01 []).sealed = false ∧
      txnOf (heldUp 0x01 []) (heldTxn 0x01 []).id = some (heldTxn 0x01 []) := ⟨held_up _ _, by decide, rfl⟩

theorem witness_HeldTransactionsExecute_2 :
    Held (heldUp 0x02 [0]) false false 3 0x02 (heldTxn 0x02 [0]) ∧
      (heldTxn 0x02 [0]).data.any (fun x => lineBars false x.toNat) = false ∧
      Held (heldUp 0x02 [0x3A]) false false 3 0x02 (heldTxn 0x02 [0x3A]) ∧
      (heldTxn 0x02 [0x3A]).data.any (fun x => lineBars false x.toNat) = true :=
  ⟨held_up _ _, by decide, held_up _ _, by decide⟩

theorem witness_HeldTransactionsExecute_3 :
    Held (heldUp 0x03 [0x4A, 0, 1, 0]) false false 3 0x03 (heldTxn 0x03 [0x4A, 0, 1, 0]) ∧
      (writeEntries 8 (heldTxn 0x03 [0x4A, 0, 1, 0]).data).any (fun e => lineBars true e.1) = false ∧
      (writeEntries 8 (heldTxn 0x03 [0x62, 0, 1, 0]).data).any (fun e => lineBars true e.1) = true :=
  ⟨held_up _ _, by decide, by decide⟩

theorem witness_HeldTransactionsExecute_4 :
    owns (heldUp 0x04 [0, 1, 0, 0, 1, 0]) .line = false ∧
      Held (heldUp 0x04 [0, 1, 0, 0, 1, 0]) false false 3 0x04 (heldTxn 0x04 [0, 1, 0, 0, 1, 0]) ∧
      owns (lineOwned (heldUp 0x04 [0, 1, 0, 0, 1, 0])) .line = true ∧
      Held (lineOwned (heldUp 0x04 [0, 1, 0, 0, 1, 0])) false false 3 0x04 (heldTxn 0x04 [0, 1, 0, 0, 1, 0]) ∧
      wordValid 1 0 = true ∧ wordValid 1 (0 + 1 - 1) = true ∧
      Held (lineOwned (heldUp 0x05 [0, 1, 0, 0, 0, 0])) false false 3 0x05 (heldTxn 0x05 [0, 1, 0, 0, 0, 0]) :=
  ⟨by decide, held_up _ _, by decide, held_in _ _ _ rfl rfl (Nat.zero_le _) rfl, by decide, by decide,
    held_in _ _ _ rfl rfl (Nat.zero_le _) rfl⟩

theorem witness_HeldTransactionsExecute_5 :
    Held (lineOwned (heldUp 0x06 [2, 0])) false false 3 0x06 (heldTxn 0x06 [2, 0]) ∧
      Held (lineOwned (heldUp 0x06 [1, 0])) false false 3 0x06 (heldTxn 0x06 [1, 0]) ∧
      Held (heldUp 0x06 [0, 0]) false false 3 0x06 (heldTxn 0x06 [0, 0]) ∧ ownsOrFree (heldUp 0x06 [0, 0]) .line = true :=
  ⟨held_in _ _ _ rfl rfl (Nat.zero_le _) rfl, held_in _ _ _ rfl rfl (Nat.zero_le _) rfl, held_up _ _, by decide⟩

theorem witness_HeldReadsAndTransfersExecute_1 :
    Held (heldUp 0x07 [0, 0, 0, 0, 4, 0]) false false 3 0x07 (heldTxn 0x07 [0, 0, 0, 0, 4, 0]) ∧
      flashRangeOk (fieldAt (heldTxn 0x07 [0, 0, 0, 0, 4, 0]).data 0 4) (fieldAt (heldTxn 0x07 [0, 0, 0, 0, 4, 0]).data 4 2) = true ∧
      flashRangeOk (fieldAt (heldTxn 0x07 [0, 0, 0, 0xFF, 4, 0]).data 0 4) 4 = false ∧
      Held (heldUp 0x08 [0, 1, 0, 0, 0, 0, 0, 0]) false false 3 0x08 (heldTxn 0x08 [0, 1, 0, 0, 0, 0, 0, 0]) ∧
      byteAt (heldTxn 0x08 [0, 1, 0, 0, 0, 0, 0, 0]).data 0 = 0 :=
  ⟨held_up _ _, by decide, by decide, held_up _ _, by decide⟩

/-- A transfer on a present code, one on code 6, and one on a code that is empty. -/
theorem witness_HeldReadsAndTransfersExecute_2 :
    Held (setWord (heldUp 0x09 [0, 0, 1, 0, 4, 0, 0x9F]) 0xA 0 1) false false 3 0x09 (heldTxn 0x09 [0, 0, 1, 0, 4, 0, 0x9F]) ∧
      xferCheck (setWord (heldUp 0x09 [0, 0, 1, 0, 4, 0, 0x9F]) 0xA 0 1) 0 0 1 0 4 = 0 ∧
      xferCheck (heldUp 0x09 [0, 0, 1, 0, 4, 0, 0x9F]) 6 0 1 0 4 = 1 ∧
      xferCheck (heldUp 0x09 [0, 0, 1, 0, 4, 0, 0x9F]) 0 0 1 0 4 = 2 := ⟨held_in _ _ _ rfl rfl (Nat.zero_le _) rfl, by decide, by decide, by decide⟩

theorem witness_HeldReadsAndTransfersExecute_3 :
    Held (heldUp 0x0A [0, 0, 1, 0]) false false 3 0x0A (heldTxn 0x0A [0, 0, 1, 0]) ∧
      Held (heldUp 0x0B [0xFF, 0x7F, 1, 0]) false false 3 0x0B (heldTxn 0x0B [0xFF, 0x7F, 1, 0]) ∧
      fieldAt (heldTxn 0x0B [0xFF, 0x7F, 1, 0]).data 0 2 + fieldAt (heldTxn 0x0B [0xFF, 0x7F, 1, 0]).data 2 2 ≤ 32768 ∧
      32768 < fieldAt (heldTxn 0x0B [0xFF, 0x7F, 2, 0]).data 0 2 + fieldAt (heldTxn 0x0B [0xFF, 0x7F, 2, 0]).data 2 2 :=
  ⟨held_up _ _, held_up _ _, by decide, by decide⟩

theorem witness_SealedTransactionsExecute_1 :
    Held (heldUp 0x20 [1]) false false 3 0x20 (heldTxn 0x20 [1]) ∧ (heldUp 0x20 [1]).mode.pwrfail = false ∧
      (heldUp 0x20 [1]).sec.locked = false ∧ byteAt (heldTxn 0x20 [1]).data 0 = 1 ∧
      Held { heldUp 0x20 [0] with sec := { State.reset.sec with locked := true } } false false 3 0x20 (heldTxn 0x20 [0]) ∧
      byteAt (heldTxn 0x20 [0]).data 0 = 0 :=
  ⟨held_up _ _, by decide, by decide, by decide, held_in _ _ _ rfl rfl (Nat.zero_le _) rfl, by decide⟩

theorem witness_SealedTransactionsExecute_2 :
    Held (heldUp 0x22 [0, 0, 5, 0]) false false 3 0x22 (heldTxn 0x22 [0, 0, 5, 0]) ∧ (heldUp 0x22 [0]).mode.pwrfail = false ∧
      byteAt (heldTxn 0x22 [0, 0, 5, 0]).data 0 = 0 ∧ byteAt (heldTxn 0x22 [1, 0, 5, 0]).data 0 = 1 ∧
      Held (heldUp 0x24 []) false false 3 0x24 (heldTxn 0x24 []) ∧ (heldUp 0x24 []).sec.epoch < 0xFFFFF :=
  ⟨held_up _ _, by decide, by decide, by decide, held_up _ _, by decide⟩

theorem witness_SealedTransactionsExecute_3 :
    Held (heldUp 0x23 [5, 0, 1, 0]) false false 3 0x23 (heldTxn 0x23 [5, 0, 1, 0]) ∧
      fieldAt (heldTxn 0x23 [5, 0, 1, 0]).data 0 2 ≠ 0 ∧ fieldAt (heldTxn 0x23 [0, 0, 1, 0]).data 0 2 = 0 ∧
      Held (heldUp 0x0C [2]) false false 3 0x0C (heldTxn 0x0C [2]) ∧ byteAt (heldTxn 0x0C [2]).data 0 = 2 ∧
      byteAt (heldTxn 0x0C [1]).data 0 = 1 ∧ (heldUp 0x0C [1]).upd.phase = .idle ∧
      ({ heldUp 0x0C [1] with upd := { State.reset.upd with phase := .receive } } : State).upd.phase ≠ .idle ∧
      byteAt (heldTxn 0x0C [7]).data 0 ≠ 1 ∧ byteAt (heldTxn 0x0C [7]).data 0 ≠ 2 :=
  ⟨held_up _ _, by decide, by decide, held_up _ _, by decide, by decide, by decide, by decide, by decide, by decide⟩

theorem witness_TransactionsRunOutAndSealsComplete_1 :
    findDue (heldUp 0x01 []) false false 3 = some (heldTxn 0x01 []) ∧ (heldUp 0x01 []).mode.logicReset = false ∧
      (heldTxn 0x01 []).bcast = false ∧ (heldTxn 0x01 []).sealed = false ∧
      findDue { heldUp 0x01 [] with txn := { State.reset.txn with held := [{ heldTxn 0x01 [] with bcast := true }] } } true false 3 =
        some { heldTxn 0x01 [] with bcast := true } := ⟨rfl, rfl, rfl, rfl, rfl⟩

theorem witness_TransactionsRunOutAndSealsComplete_2 :
    (expiredUp.txn.ready ++ expiredUp.txn.sealing).find? (fun x => ownsTag x false 3) = some anExpired ∧
      anExpired.expired = true ∧ doneUp.txn.done.find? (fun x => isDone x false 3) = some aDone := ⟨rfl, rfl, rfl⟩

theorem witness_TransactionsRunOutAndSealsComplete_3 :
    cryptoRunning openingUp.sec.ops = some anOpening ∧ openingUp.mode.logicReset = false ∧ anOpening.for_ = .openTxn 1 ∧
      openingUp.txn.opening.find? (fun x => x.id == 1) = some (heldTxn 0x01 []) ∧
      cryptoRunning sealingUp.sec.ops = some aSealing ∧ aSealing.for_ = .sealTxn 1 ∧
      txnOf sealingUp 1 = some { heldTxn 0x01 [] with phase := .sealing } ∧
      ({ aSealing with for_ := .sealNote 1 } : CryptoOp).for_ = .sealNote 1 ∧
      ({ expiredUp with txn := { expiredUp.txn with ready := [], sealing := [anExpired] } } : State).txn.sealing.find?
        (fun x => x.id == 1) = some anExpired := ⟨rfl, rfl, rfl, rfl, rfl, rfl, rfl, rfl, rfl⟩

theorem witness_TransactionsRunOutAndSealsComplete_4 :
    floorUp.txn.held.find? (fun x => x.phase == .floor) = some floorTxn ∧ floorUp.mode.logicReset = false ∧
      (windowTake (recWindow floorUp floorTxn.anchor) (nonceEpoch floorTxn.nonce) (nonceCounter floorTxn.nonce)).isSome = true ∧
      raisesH (recWindow floorUp floorTxn.anchor) (nonceEpoch floorTxn.nonce) (nonceCounter floorTxn.nonce) = true :=
  ⟨rfl, by decide, by decide, by decide⟩

/-! #### PostedCommandsStart -/

theorem witness_PostedCommandsStart_1 :
    Accepted (up .node .run) .host { desc 0 0 0 0 0 0 with code := 1 } ∧ (cmdPath (acting (up .node .run) .host) .host).outst = [] ∧
      (cmdPath (acting (up .node .run) .slave) .slave).outst = [] :=
  ⟨⟨by decide, by decide, by decide, by decide, by decide, by decide, by decide, by decide⟩, by decide, by decide⟩

theorem witness_PostedCommandsStart_2 :
    Accepted (planned .starter) .host { desc 0 1 0 0 0 0 with code := 2 } ∧ (planned .starter).mode.role = .starter ∧
      (planned .starter).mode.coreReset = false ∧
      countLost (wake (posted (planned .starter) .host { desc 0 1 0 0 0 0 with code := 2 }) 6) = false ∧
      lineIdle (wake (posted (planned .starter) .host { desc 0 1 0 0 0 0 with code := 2 }) 6) = true ∧
      (latchPlan (wake (posted (planned .starter) .host { desc 0 1 0 0 0 0 with code := 2 }) 6)).isSome = true ∧
      Accepted (planned .anchor) .host { desc 0 1 0 0 0 0 with code := 2 } ∧ (planned .anchor).mode.role = .anchor ∧
      (latchPlan (posted (planned .anchor) .host { desc 0 1 0 0 0 0 with code := 2 })).isSome = true :=
  ⟨⟨by decide, by decide, by decide, by decide, by decide, by decide, by decide, by decide⟩, by decide, by decide, by decide,
    by decide, by decide +kernel,
    ⟨by decide, by decide, by decide, by decide, by decide, by decide, by decide, by decide⟩, by decide, by decide +kernel⟩

theorem witness_PostedCommandsStart_3 :
    Accepted starterUp .host { desc 0 0 0 0 0 0 with code := 3 } ∧ starterUp.mode.role = .starter ∧
      countLost starterUp = false ∧ starterUp.sta.stopping = none ∧ starterUp.sta.stage = .running ∧
      Accepted (up .starter .run) .host { desc 0 0 0 0 0 0 with code := 3 } ∧ countLost (up .starter .run) = false ∧
      (up .starter .run).sta.stopping = none ∧ (up .starter .run).sta.stage = .idle ∧
      Accepted (up .anchor .run) .host { desc 0 0 0 0 0 0 with code := 3 } ∧ (up .anchor .run).mode.role = .anchor :=
  ⟨⟨by decide, by decide, by decide, by decide, by decide, by decide, by decide, by decide⟩, by decide, by decide, by decide,
    by decide, ⟨by decide, by decide, by decide, by decide, by decide, by decide, by decide, by decide⟩, by decide, by decide,
    by decide, ⟨by decide, by decide, by decide, by decide, by decide, by decide, by decide, by decide⟩, by decide⟩

theorem witness_PostedCommandsStart_4 :
    Accepted starterUp .host { desc 0 1 0 0 0 136 with code := 4 } ∧ starterUp.mode.role = .starter ∧
      starterUp.mode.coreReset = false ∧
      countLost (wake (posted starterUp .host { desc 0 1 0 0 0 136 with code := 4 }) 6) = false ∧
      starterUp.sta.counting = false ∧ startsUp starterUp = false ∧
      coreRuns (wake (posted starterUp .host { desc 0 1 0 0 0 136 with code := 4 }) 6) = true ∧ starterUp.sta.enumWaits = [] ∧
      Accepted countingUp .host { desc 0 1 0 0 0 136 with code := 4 } ∧ countingUp.sta.counting = true ∧
      countLost (wake (posted countingUp .host { desc 0 1 0 0 0 136 with code := 4 }) 6) = false :=
  ⟨⟨by decide, by decide, by decide, by decide, by decide, by decide, by decide, by decide⟩, by decide, by decide, by decide,
    by decide, by decide, by decide, by decide,
    ⟨by decide, by decide, by decide, by decide, by decide, by decide, by decide, by decide⟩, by decide, by decide⟩

theorem witness_PostedCommandsStart_5 :
    Accepted starterUp .host { desc 0 1 4095 1 0 304 with code := 5 } ∧ hasPlan starterUp = true ∧
      (desc 0 1 4095 1 0 304).arg1 ≠ 0 ∧ lineFull (posted starterUp .host { desc 0 1 4095 1 0 304 with code := 5 }) = false ∧
      reachable (posted starterUp .host { desc 0 1 4095 1 0 304 with code := 5 }) (4095 % 4096) = true ∧ natBits 4095 12 1 = 0 :=
  ⟨⟨by decide, by decide, by decide, by decide, by decide, by decide, by decide, by decide⟩, by decide, by decide, by decide,
    by decide, by decide⟩

theorem witness_PostedCommandsStart_6 :
    Accepted (starterUp.store 0x80004 [1]) .host { desc 0 1 0 0 8 6 with code := 6 } ∧ starterUp.mode.role = .starter ∧
      (starterUp.store 0x80004 [1]).mode.coreReset = false ∧ (starterUp.store 0x80004 [1]).sta.gun = none ∧
      (starterUp.store 0x80004 [1]).sta.plan = some aPlan ∧
      (wake (posted (starterUp.store 0x80004 [1]) .host { desc 0 1 0 0 8 6 with code := 6 }) 6).time.line +
        aPlan.gunLead * periodNs (wake (posted (starterUp.store 0x80004 [1]) .host { desc 0 1 0 0 8 6 with code := 6 }) 6) ≤
        memNat (wake (posted (starterUp.store 0x80004 [1]) .host { desc 0 1 0 0 8 6 with code := 6 }) 6) (apertureBase + 0) 8 :=
  ⟨⟨by decide, by decide, by decide, by decide, by decide, by decide, by decide, by decide⟩, by decide, by decide, by decide,
    by decide, by decide⟩

theorem witness_PostedCommandsStart_7 :
    Accepted pullUp .host { desc 0 1 1 1 0 0 with code := 7 } ∧ pullUp.mode.role = .starter ∧ pullUp.mode.coreReset = false ∧
      pullRefusal (wake (posted pullUp .host { desc 0 1 1 1 0 0 with code := 7 }) 6) = 0 ∧
      reachable (wake (posted pullUp .host { desc 0 1 1 1 0 0 with code := 7 }) 6) (1 % 65536) = true ∧ 1 ≤ 4094 :=
  ⟨⟨by decide, by decide, by decide, by decide, by decide, by decide, by decide, by decide⟩, by decide, by decide, by decide,
    by decide, by decide⟩

theorem witness_PostedCommandsStart_8 :
    Accepted takenUp .host { desc 0 0 0 0 0 0 with code := 8 } ∧ takenUp.mode.role = .anchor ∧
      takenUp.sta.anchor.takeover = true ∧ takenUp.sta.endFor = none :=
  ⟨⟨by decide, by decide, by decide, by decide, by decide, by decide, by decide, by decide⟩, by decide, by decide, by decide⟩

/-! #### The line's master -/

theorem witness_LineMasterKeepsItsInstants_1 :
    ({ starterUp with sta := { starterUp.sta with stage := .settle } }).sta.stage = .settle ∧
      ({ starterUp with sta := { starterUp.sta with stage := .settle } }).mode.logicReset = false ∧
      countLost (({ starterUp with sta := { starterUp.sta with stage := .settle } } : State).reach
        starterUp.sta.settleT) = false := by decide

theorem witness_LineMasterKeepsItsInstants_2 :
    ({ starterUp with sta := { starterUp.sta with cycle := 3 } }).sta.plan = some aPlan ∧
      heatsRun { starterUp with sta := { starterUp.sta with cycle := 3 } } = true ∧
      ({ starterUp with sta := { starterUp.sta with cycle := 3 } }).sta.batons < aPlan.batonMax ∧
      32 ≤ gapRoom { starterUp with sta := { starterUp.sta with cycle := 3 } } := by decide

theorem witness_LineMasterKeepsItsInstants_3 :
    findLine lineUp 2 9 = some aLine ∧ (2 : Nat) ≠ 4095 ∧ lineUp.mode.logicReset = false ∧ aLine.sentT = some 0 ∧
      aLine.queued = false ∧ aLine.sends < 4 ∧
      retryFits (lineUp.reach ((aLine.lastT / periodNs lineUp + 3) * periodNs lineUp)) aLine = true := by decide

theorem witness_LineMasterKeepsItsInstants_4 :
    (pinged false).sta.pings.find? (fun (r : PingRun) => r.pos == 2) = some { pos := 2, tries := 1, outcome := some false } ∧
      coreRuns (pinged false) = true ∧ topoState (pinged false) 2 = 3 := by decide

theorem witness_GunsTakeoversAndDistributionsGoOn_1 :
    (gunUp.store 0xE1010 [2]).sta.gun = some aGun ∧ aGun.cancelled = false ∧ aGun.closing = none ∧
      coreRuns (gunUp.store 0xE1010 [2]) = true ∧ (gunUp.store 0xE1010 [2]).sta.plan = some aPlan ∧
      (gunUp.store 0xE1010 [2]).time.line < 10000000000 ∧ aGun.all = true ∧ gunOpen (gunUp.store 0xE1010 [2]) aGun ≠ [] ∧
      posIn (gunUp.store 0xE1010 [2]) 2 ≠ [] ∧ posIn gunUp 2 = [] ∧ gunUp.sta.gun = some aGun ∧ coreRuns gunUp = true :=
  ⟨by decide +kernel, by decide, by decide, by decide +kernel, by decide +kernel, by decide +kernel, by decide,
    by decide +kernel, by decide +kernel, by decide +kernel, by decide, by decide⟩

theorem witness_GunsTakeoversAndDistributionsGoOn_2 :
    takeoverMay anchorReady = true ∧
      ({ takenUp with sta := { takenUp.sta with anchor := { takenUp.sta.anchor with ending := true } } }).sta.anchor.ending = true ∧
      ({ takenUp with sta := { takenUp.sta with anchor := { takenUp.sta.anchor with ending := true } } }).sta.anchor.takeover = true ∧
      takenUp.mode.logicReset = false := by decide

theorem witness_GunsTakeoversAndDistributionsGoOn_3 :
    distUp.upd.dist = some aDist ∧ aDist.waiting = true ∧ aDist.joinT = some 0 ∧ distUp.upd.phase = .distribute ∧
      coreRuns distUp = true ∧ distUp.upd.distOnce = false ∧
      (sending [1, 2]).upd.dist = some { aDist with waiting := false, toSend := [1, 2] } ∧
      (sending [1, 2]).upd.relayT = none ∧ 4128 ≤ gapRoom (sending [1, 2]) ∧ (sending [1, 2]).upd.phase = .distribute ∧
      coreRuns (sending [1, 2]) = true := by decide

/-! #### Host bus and registers -/

theorem witness_HostBusCyclesAct_1 :
    pathOpen (up .node .run) .host = true ∧ winOfs 0x7FFFC < 0x80000 ∧ winOfs 0x7FFFC % 4 = 0 ∧ winOfs 0x7FFFE < 0x80000 ∧
      winOfs 0x7FFFE % 4 = 2 ∧ pathOpen heldUpHalf .host = true ∧
      heldUpHalf.bus.heldWrite = some (apertureBase + winOfs 0x7FFFE - 2, 0x1234) ∧
      (up .node .run).bus.heldWrite = none ∧ 0x80000 ≤ winOfs 0x80000 ∧ (true || false) = true := by decide

theorem witness_HostBusCyclesAct_2 :
    pathOpen (up .node .run) .host = true ∧ winOfs (0x8FFFE % 0x800000) < 0x90000 ∧ (up .node .run).bus.heldRead = none ∧
      pathOpen heldUpRead .host = true ∧ winOfs (2 % 0x800000) < 0x90000 ∧
      heldUpRead.bus.heldRead = some (winSram (winOfs (2 % 0x800000)), 0x55AA) ∧
      0x90000 ≤ winOfs (0x90000 % 0x800000) := by decide

/-- The window off; a line held; a tracked erase; a prefetch of the line running; another job running. -/
theorem witness_HostBusCyclesAct_3 :
    pathOpen (up .node .run) .host = true ∧ (up .node .run).bus.xipEn = false ∧ pathOpen xipUp .host = true ∧
      xipUp.bus.xipEn = true ∧
      xipUp.bus.xipBase * 0x800000 + (winOfs (0x800000 + 6 % 0x800000) - 0x800000) < 2 ^ csel xipUp xipUp.bus.xipSel 0 11 5 ∧
      xipUp.ser.erase ≠ some xipUp.bus.xipSel ∧
      xipUp.ser.lines.find? (fun x => x.1 == lineOf 6) = some (lineOf 6, List.replicate 64 0xAA) ∧ xipUp.ser.hostGone = false ∧
      ({ xipUp with ser := { xipUp.ser with erase := some 0 } } : State).ser.erase = some xipUp.bus.xipSel ∧
      xipUp.ser.lines.find? (fun x => x.1 == lineOf 70) = none ∧
      ({ xipUp with ser := { xipUp.ser with running := some (.prefetch 0 64) } } : State).ser.running =
        some (.prefetch xipUp.bus.xipSel (lineOf 70)) ∧ xipUp.ser.stale = false ∧
      xipUp.ser.running ≠ some (.prefetch xipUp.bus.xipSel (lineOf 70)) := by decide

theorem witness_HostBusCyclesAct_4 :
    xipWaiting.ser.hostRead = some 0 ∧ xipWaiting.ser.hostGone = false ∧ (hostWord xipWaiting []).ser.hostRead = some 0 ∧
      (hostWord (up .node .run) []).ser.hostRead = none ∧ pathOpen (up .node .run) .host = true := by decide

theorem witness_RegisterCommandsAct_1 :
    pathOpen (up .node .run) .host = true ∧ pathOpen (evqUp none 0) .host = true ∧ (evqUp none 0).mode.mode ≠ .minimal ∧
      (up .node .run).evq.queue = [] ∧ (evqUp none 0).evq.queue = [anEvent, anEvent] ∧ (evqUp none 0).evq.holder = none ∧
      pathOpen (evqUp (some .host) 3) .host = true ∧ (evqUp (some .host) 3).evq.holder = some .host ∧
      3 ≤ (evqUp (some .host) 3).evq.rptr ∧ (evqUp (some .host) 2).evq.rptr < 3 ∧ (evqUp (some .slave) 1).evq.holder = some .slave := by decide

theorem witness_RegisterCommandsAct_2 :
    pathOpen (cplUp 3) .host = true ∧ (cplUp 3).mode.mode ≠ .minimal ∧ (cmdPath (cplUp 3) .host).cplq = [[1, 2, 3, 4]] ∧
      3 ≤ (cmdPath (cplUp 3) .host).rptr ∧ (cmdPath (cplUp 0) .host).rptr < 3 ∧ (cmdPath (up .node .run) .host).cplq = [] := by decide

theorem witness_RegisterCommandsAct_3 :
    pathOpen (up .node .run) .host = true ∧ (up .node .run).ser.spOffDue = false ∧
      (keyOf (keyed (up .node .run) .slave) .slave).st = .opened := by decide

theorem witness_RegisterCommandsAct_4 :
    pathOpen (keyed (setWord (up .node .setup) 0xA 0 1) .host) .host = true ∧
      (keyed (setWord (up .node .setup) 0xA 0 1) .host).ser.spOffDue = false ∧
      keyOpen (hostAccess (keyed (setWord (up .node .setup) 0xA 0 1) .host) .host) .host = true ∧
      (keyed (setWord (up .node .setup) 0xA 0 1) .host).ser.hostRead = none ∧
      (keyed (setWord (up .node .setup) 0xA 0 1) .host).ser.xipDue = none ∧
      deviceClass (keyed (setWord (up .node .setup) 0xA 0 1) .host) 0 = false ∧ 7 < 8 ∧ 15 < 16 ∧
      deviceClass (keyed (setWord (up .node .setup) 0xA 0 3) .host) 0 = true ∧
      (keyed (setWord (up .node .setup) 0xA 0 3) .host).bus.xipEn = false := by decide

theorem witness_RegisterCommandsAct_5 :
    pathOpen xipUp .host = true ∧ xipUp.ser.spOffDue = false ∧ xipUp.ser.hostRead = none ∧ xipUp.bus.xipSel < 8 ∧
      xipUp.bus.xipBase < 16 ∧ xipUp.ser.xipDue = none ∧ xipWaiting.ser.hostRead ≠ none ∧
      pathOpen xipWaiting .line = true ∧ xipWaiting.ser.xipDue = none := by decide

theorem witness_RegisterCommandsAct_6 :
    pathOpen (up .node .setup) .host = true ∧ (up .node .setup).ser.spOffDue = false ∧ (up .node .setup).mode.mode = .setup ∧
      (up .node .setup).ser.running = none ∧ (serUp .medium).ser.running = some .medium ∧
      (serUp (anXfer 0)).ser.running = some (.xfer 0 0 [0x9F] [] 4 (.line 1)) := by decide

/-! #### The configuration window -/

theorem witness_WindowClaimsAndConfigActions_1 :
    pathOpen (up .node .setup) .host = true ∧ (up .node .setup).mode.mode ≠ .minimal ∧ (up .node .setup).cfg.owner = none ∧
      (up .node .setup).cfg.busy = none ∧ (up .node .setup).mode.coreReset = false ∧
      pathOpen (lineOwned (up .node .setup)) .line = true ∧ (lineOwned (up .node .setup)).cfg.owner = some .line ∧
      (lineOwned (up .node .setup)).cfg.busy = none ∧ (lineOwned (up .node .setup)).mode.coreReset = false ∧
      (lineOwned (up .node .setup)).cfg.armed = none ∧ Path.host ≠ .line := by decide

theorem witness_WindowClaimsAndConfigActions_2 :
    pathOpen validUp .host = true ∧ validUp.mode.mode ≠ .minimal ∧ validUp.cfg.owner = none ∧ validUp.cfg.busy = none ∧
      swapCheck validUp 1 = 0 ∧ swapCheck validUp 2 = 0 ∧ swapCheck validUp 3 = 0 ∧ swapCheck (up .node .setup) 3 ≠ 0 ∧
      sameGun (up .node .setup) 3 = false := by decide

theorem witness_WindowClaimsAndConfigActions_3 :
    pathOpen (up .node .setup) .host = true ∧ 1 < ctrlActions 0x03 ∧
      (setWord (lineOwned (up .node .setup)) 1 3 10).cfg.owner = some .line ∧
      cfgF (setWord (lineOwned (up .node .setup)) 1 3 10) 1 3 0 8 ≠ 0 := by decide

theorem witness_WindowDataAndConfigWorkEnd_1 :
    pathOpen shadowUp .host = true ∧ shadowUp.mode.mode ≠ .minimal ∧ shadowUp.cfg.owner = some .host ∧
      wordValid shadowUp.cfg.table shadowUp.cfg.word = true ∧ shadowUp.cfg.selShadow = true ∧ shadowUp.cfg.busy = none ∧
      shadowUp.cfg.armed = none ∧ isPort shadowUp.cfg.table shadowUp.cfg.word = false ∧
      statusWord (windowUse (acting shadowUp .host) .host) shadowUp.cfg.table shadowUp.cfg.word = none ∧
      (up .node .setup).cfg.owner ≠ some .host ∧
      wordValid ({ shadowUp with cfg := { shadowUp.cfg with table := 15 } } : State).cfg.table 0 = false :=
  ⟨by decide, by decide, by decide, by decide, by decide, by decide, by decide, by decide, rfl, by decide, by decide⟩

/-- Every rule holds; the staging may run or not. -/
theorem witness_WindowDataAndConfigWorkEnd_2 :
    (busyUp .validate).cfg.busy = some .validate ∧ (busyUp .validate).cfg.abandoned = none ∧ coreRuns (busyUp .validate) = true ∧
      stagingMay (busyUp .validate) = true ∧ (busyUp .copy).cfg.busy = some .copy ∧ coreRuns (busyUp .copy) = true ∧
      stagingMay (busyUp .copy) = true ∧ stagingMay (fieldResetStart (busyUp .copy)) = false ∧
      (fieldResetStart (busyUp .copy)).cfg.busy = some .copy ∧ coreRuns (fieldResetStart (busyUp .copy)) = true := by decide

theorem witness_WindowDataAndConfigWorkEnd_3 :
    firstFail (busyUp .validate).cfg.shadow = none ∧
      (firstFail (setPut (busyUp .validate).cfg.shadow 1 9 1)).isSome = true := ⟨by decide +kernel, by decide +kernel⟩

theorem witness_WindowDataAndConfigWorkEnd_4 :
    (busyUp (.commit [] false)).cfg.busy = some (.commit [] false) ∧ (busyUp (.commit [] false)).cfg.abandoned = none ∧
      coreRuns (busyUp (.commit [] false)) = true ∧ commitErasing (busyUp (.commit [] false)) = false ∧
      (busyUp (.commit [] false)).flash.commitBad = false ∧
      ({ (busyUp (.commit [] false)) with flash := { State.reset.flash with commitBad := true } } : State).flash.commitBad = true ∧
      ({ validUp with cfg := { validUp.cfg with autoCommit := true } }).cfg.autoCommit = true ∧ validUp.cfg.busy = none ∧
      coreRuns validUp = true ∧ validUp.mode.pwrfail = false := by decide

theorem witness_SwapsExchangeTheSets :
    armedUp.cfg.armed = some { mode := 1, instant := 16000 } ∧ armedUp.mode.porst = false ∧ armedUp.mode.mode ≠ .run ∧
      armedUp.mode.fieldReset = false ∧ armedUp.supply.barrierDown = false ∧ armedUp.safe.pause = none ∧
      ({ armedUp with mode := { armedUp.mode with mode := .run }, cfg := { armedUp.cfg with diffS := true } }).cfg.diffS = true ∧
      ({ armedUp with mode := { armedUp.mode with mode := .run } } : State).mode.mode = .run ∧
      ({ armedUp with mode := { armedUp.mode with fieldReset := true } }).mode.fieldReset = true := by decide

/-! #### Channels -/

theorem witness_ChannelCommandsAct_1 :
    pathOpen (keyed (up .node .run) .host) .host = true ∧ (keyed (up .node .run) .host).mode.mode ≠ .minimal ∧
      keyOpen (hostAccess (keyed (up .node .run) .host) .host) .host = true ∧ 15 < 16 ∧ 2 < outputUp.field.chans.length ∧
      chMode outputUp 2 = 5 ∧ outputUp.mode.mode = .run ∧ outputUp.mode.fieldReset = false ∧
      outputUp.mode.coreHold = false ∧ outputUp.safe.hold = false ∧ (chan outputUp 2).modeOff = false := by decide

/-- A counting input whose first edge rises, at 9 µs. -/
theorem witness_ChannelCommandsAct_2 :
    fieldRuns (inputUp 3) = true ∧ isDigitalIn (chMode (inputUp 3) 2) = true ∧ (chan (inputUp 3) 2).modeOff = false ∧
      2 < (inputUp 3).field.chans.length ∧ chMode (inputUp 3) 2 = 3 ∧
      edgeFits ((inputUp 3).reach (9000 + filterNs (cfgF (inputUp 3) 4 33 0 4))) 2 = true ∧
      cntSelects (cfgF (inputUp 3) 4 33 6 2) (!(chan (inputUp 3) 2).filt) = true := by decide

theorem witness_ChannelCommandsAct_3 :
    fieldRuns pwmUp = true ∧ isPwm pwmUp 2 = true ∧ pwmPeriod pwmUp 2 ≠ 0 ∧ 2 < pwmUp.field.chans.length ∧
      (chan ((up .node .run).onChan 2 (fun c => { c with modeOff := true })) 2).modeOff = true ∧
      2 < ((up .node .run).onChan 2 (fun c => { c with modeOff := true })).field.chans.length := by decide

/-- An event whose gate is no apply, and one whose gate is the apply of cycle 1. -/
theorem witness_StartListsAndPortWordsAct_1 :
    fieldRuns (slUp 100000) = true ∧ slEvent (chan (slUp 100000) 2) 1 = some (anSl 100000) ∧
      2 < (slUp 100000).field.chans.length ∧
      applyDue (swapFirst ((slUp 100000).reach (gateFrom (slUp 100000) 2 (gateTime (slUp 100000) 2 (anSl 100000))))) ≠
        gateTime (slUp 100000) 2 (anSl 100000) ∧
      fieldRuns (slUp (applyDue applyReady)) = true ∧
      slEvent (chan (slUp (applyDue applyReady)) 2) 1 = some (anSl (applyDue applyReady)) ∧
      applyDue (swapFirst ((slUp (applyDue applyReady)).reach (gateFrom (slUp (applyDue applyReady)) 2
        (gateTime (slUp (applyDue applyReady)) 2 (anSl (applyDue applyReady)))))) =
        gateTime (slUp (applyDue applyReady)) 2 (anSl (applyDue applyReady)) := by decide

theorem witness_StartListsAndPortWordsAct_2 :
    isLocal outputUp 2 = false ∧ chMode outputUp 2 ≠ 10 ∧ 2 < outputUp.field.chans.length ∧
      isLocal { outputUp with mode := { outputUp.mode with role := .bench } } 2 = true := by decide

theorem witness_StartListsAndPortWordsAct_3 :
    pathOpen (lineOwned (up .node .setup)) .line = true ∧ (lineOwned (up .node .setup)).mode.mode = .setup ∧
      (lineOwned (up .node .setup)).cfg.owner = some .line ∧ (lineOwned (up .node .setup)).cfg.busy = none ∧
      (lineOwned (up .node .setup)).cfg.armed = none ∧ pathOpen (portWordUp 4 0x29E) .host = true ∧
      (portWordUp 4 0x29E).mode.mode = .setup ∧ (portWordUp 4 0x29E).cfg.owner = some .host ∧
      (portWordUp 4 0x29E).cfg.busy = none ∧ (portWordUp 4 0x29E).cfg.armed = none ∧
      (portWordUp 4 0x29E).cfg.selShadow = true ∧ (portWordUp 4 0x29E).cfg.table = 4 ∧ (portWordUp 4 0x29E).cfg.word = 0x29E ∧
      (portWordUp 4 0x290).cfg.word = 0x290 ∧ (portWordUp 0xE 0xC0).cfg.table = 0xE ∧ (portWordUp 0xE 0xC0).cfg.word = 0xC0 := by decide

/-- A load that is taken and one that is refused, and cancels of a pending, an issued and an absent event. -/
theorem witness_StartListsAndPortWordsAct_4 :
    2 = bitsOf (slAsked 100000).field.slSel 0 4 ∧ 1 = bitsOf (slAsked 100000).field.slSel 4 4 ∧
      (slAsked 100000).field.chans.length = 16 ∧
      slLoadCheck (slAsked 100000) 2 1 (slAsked 100000).field.slT.toNat (slAsked 100000).field.slVal = 0 ∧
      slLoadCheck (slAsked 5) 2 1 (slAsked 5).field.slT.toNat (slAsked 5).field.slVal ≠ 0 ∧
      isOutput (chMode (slAsked 100000) 2) = true ∧ slEvent (chan (slAsked 100000) 2) 1 = none ∧
      slEvent (chan (slHeld false) 2) 1 = some (anSl 100000) ∧ slIssued (slHeld false) 2 (anSl 100000) = false ∧
      (slHeld false).mode.fieldReset = false ∧ (slHeld false).supply.barrierDown = false ∧
      slEvent (chan (slHeld true) 2) 1 = some { anSl 100000 with issued := true } ∧
      slIssued (slHeld true) 2 { anSl 100000 with issued := true } = true ∧ isOutput (chMode (slHeld true) 2) = true := by decide

/-! #### Converters -/

theorem witness_ConverterCommandsAct_1 :
    pathOpen adcUp .host = true ∧ adcUp.mode.mode ≠ .minimal ∧ 15 < 16 ∧ injLen (setWord adcUp 7 4 1) ≠ 0 ∧ injLen adcUp = 0 ∧
      adcUp.mode.fieldReset = false ∧ regLen adcUp ≠ 0 ∧ adcUp.mode.coreReset = false ∧ adcUp.adc.running = true ∧
      adcUp.mode.mode = .setup ∧ 0 < regLen adcUp ∧ (calKind adcUp (entF adcUp 0 0 6)).isSome = true ∧
      (calUp 3).adc.calStep.map (fun c => c.entry) = some 0 ∧ calFullUp.adc.calZero = some (0, 1264) := by decide

theorem witness_ConverterCommandsAct_2 :
    dacUp.mode.mode ≠ .minimal ∧ pathOpen dacUp .host = true ∧ dacUp.mode.coreReset = false ∧ dacUp.adc.dac = none ∧
      dacEntries dacUp ≠ [] := by decide

theorem witness_ConverterCommandsAct_3 :
    pathOpen ({ adcUp with adc := { adcUp.adc with fifo := [7] } }) .host = true ∧
      ({ adcUp with adc := { adcUp.adc with fifo := [7] } }).adc.fifo = 7 :: [] ∧ adcUp.adc.fifo = [] := by decide

theorem witness_ConverterCommandsAct_4 :
    Accepted adcUp .host { desc 0 0 0 16 0 8 with code := 0x10 } ∧ adcUp.mode.coreReset = false ∧
      (desc 0 0 0 16 0 8).sub ≤ 15 ∧ (desc 0 0 0 16 0 8).arg0 ≤ 2 ∧ (desc 0 0 0 16 0 8).arg1 ≠ 0 ∧
      (desc 0 0 0 16 0 8).arg1 ≤ 32768 ∧
      captCheck (wake (posted adcUp .host { desc 0 0 0 16 0 8 with code := 0x10 }) 6) 0 0 = 0 ∧
      captCheck (wake (posted adcUp .host { desc 0 9 0 16 0 8 with code := 0x10 }) 6) 9 0 ≠ 0 :=
  ⟨⟨by decide, by decide, by decide, by decide, by decide, by decide, by decide, by decide⟩, by decide, by decide, by decide,
    by decide, by decide, by decide, by decide⟩

theorem witness_ConverterEventsAct_1 :
    (setWord adcUp 7 1 250).adc.running = true ∧ 4 * cfgF (setWord adcUp 7 1 250) 7 1 0 32 = 1000 ∧ adcUp.mode.fieldReset = false ∧
      adcUp.mode.porst = false ∧ adcIdle (setWord adcUp 7 1 250) = true ∧
      adcIdle ({ adcUp with adc := { adcUp.adc with inRound := true } }) = false := by decide

/-- Each of the four places a conversion's result goes to. -/
theorem witness_ConverterEventsAct_2 :
    ({ adcUp with adc := { adcUp.adc with longBurst := true } }).adc.longBurst = true ∧ adcUp.adc.longBurst = false ∧
      injHolds injUp false (1000 + 375) = true ∧ injUp.adc.injA = 0 :: [] ∧ injUp.adc.longBurst = false ∧
      adcUp.adc.injBusy = false ∧ ({ adcUp with adc := { adcUp.adc with phaseA := [0] } }).adc.phaseA = 0 :: [] ∧
      adcUp.adc.phaseA = [] ∧ adcUp.adc.phaseB = [] ∧
      ({ adcUp with adc := { adcUp.adc with bursts := [0] } }).adc.bursts = 0 :: [] := by decide

theorem witness_ConverterEventsAct_3 :
    adcUp.mode.fieldReset = false ∧ adcUp.mode.porst = false ∧ chMode (setWord adcUp 4 0x20 10) 2 = 10 ∧
      2 < (setWord adcUp 4 0x20 10).field.chans.length ∧ injTimed (setWord adcUp 7 4 0x10) = true ∧
      (injDue (setWord adcUp 7 4 0x10)).isSome = true := by decide

theorem witness_ConverterEventsAct_4 :
    (capturing aCapt).adc.capture = some aCapt ∧ aCapt.kind = 2 ∧ adcIdle (capturing aCapt) = true ∧ aCapt.got < aCapt.want ∧
      aCapt.start + 4 ≤ 2 ^ 64 ∧ ({ aCapt with got := 16 } : Capture).want ≤ ({ aCapt with got := 16 } : Capture).got ∧
      aCapt.for_ = .line 1 ∧
      ({ aCapt with for_ := .queue .host (desc 0x10 0 0 16 0 8) } : Capture).for_ = .queue .host (desc 0x10 0 0 16 0 8) := by decide

/-- No sample, a zero within its limit, one beyond it, a full step without a pair, and one with it. -/
theorem witness_ConverterEventsAct_5 :
    (calUp 0).adc.calStep = some { entry := 0, full := false, sum := 0, n := 0 } ∧ coreRuns (calUp 16) = true ∧
      (calUp 16).flash.progQ.any (fun p => p.owner = .cal) = false ∧
      ((calUp 16).flash.prog.map (fun p => decide (p.owner = .cal))).getD false = false ∧
      calKind (calUp 16) (entF (calUp 16) 0 0 6) = some 0 ∧ (((0 : Int).natAbs : Int) ≤ 16 * (calTarget 0).2) ∧
      16 * (calTarget 0).2 < (((10241 : Int).natAbs : Nat) : Int) ∧
      calNewPair (calUp 16) { entry := 0, full := true, sum := 0, n := 16 } = none ∧
      (calNewPair calFullUp { entry := 0, full := true, sum := 510576, n := 16 }).isSome = true := by decide

theorem witness_ConverterEventsAct_6 :
    ({ step := 3, todo := [], settleT := 0 } : DacRun).step = 3 ∧ ({ step := 3, todo := [], settleT := 0 } : DacRun).todo = [] ∧
      ((flashRun progUp).flash.prog.map (fun p => decide (p.owner ≠ .cal))) = some true ∧
      ((flashRun calProg).flash.prog.map (fun p => decide (p.owner = .cal))) = some true := by decide

/-! #### Serial ports and flash -/

theorem witness_SlavePortFramesAct_1 :
    pathOpen slaveUp .slave = true ∧ slaveUp.inj.armed = none ∧ slaveJudge slaveUp (request 1 0x7A 2 []) = .run true ∧
      reqOp (request 1 0x7A 2 []) = 1 ∧ slaveJudge slaveUp (request 2 0x7A 2 [1, 2]) = .run true ∧
      reqOp (request 2 0x7A 2 [1, 2]) = 2 ∧ slaveJudge slaveUp (request 3 0 0 []) = .run true ∧
      reqOp (request 3 0 0 []) = 3 ∧ slaveUp.ser.spOffDue = false ∧
      pathOpen { slaveUp with ser := { slaveUp.ser with spEn := false } } .slave = false ∧
      slaveJudge (after (exec (.slaveNop (request 3 0 0 [])) slaveUp)) (request 3 0 0 []) = .replay ∧
      pathOpen (after (exec (.slaveNop (request 3 0 0 [])) slaveUp)) .slave = true := by decide

theorem witness_SlavePortFramesAct_2 :
    pathOpen slaveUp .slave = true ∧ slaveUp.inj.armed = none ∧ slaveJudge slaveUp [1, 2, 3, 4, 5, 6] = .ignored 2 ∧
      [(1 : Byte), 0, 0x7A].length < reqLen [1, 0, 0x7A] ∧ [(1 : Byte), 0, 0x7A].length < 4 ∧
      (request 2 0x7A 2 [1]).length < reqLen (request 2 0x7A 2 [1]) ∧ badHeader (request 2 0x7A 2 [1]) = false ∧
      4 ≤ (request 9 0 0 []).length ∧ badHeader (request 9 0 0 []) = true := by decide

theorem witness_MasterPortEventsAct_1 :
    (serUp (anXfer 0)).ser.running = some (anXfer 0) ∧ anXfer 0 ≠ .medium ∧
      csel (serUp (anXfer 0)) (anXfer 0).code 0 4 1 ≠ 0 ∧
      csel (setWord (serUp (anXfer 0)) 0xA 0 1) (anXfer 0).code 0 4 1 = 0 ∧
      (anXfer 3).mode (serUp (anXfer 3)) = 3 ∧ (anXfer 3).reads = true ∧ (anXfer 0).mode (serUp (anXfer 0)) ≠ 3 ∧
      anXfer 3 = .xfer 0 3 [0x9F] [] 4 (.line 1) ∧
      ({ xipWaiting with ser := { xipWaiting.ser with running := some (.demand 0 0 (some 2)) } } : State).ser.running =
        some (.demand 0 0 (some 2)) ∧ 2 + 2 ≤ [(1 : Byte), 2, 3, 4].length ∧ xipWaiting.ser.hostGone = false ∧
      xipWaiting.ser.hostRead ≠ none := by decide

theorem witness_MasterPortEventsAct_2 :
    prefUp.ser.prefDue = some 0 ∧ csel prefUp prefUp.bus.xipSel 0 6 1 = 1 ∧ deviceClass prefUp prefUp.bus.xipSel = false ∧
      prefUp.bus.xipEn = true ∧ 0 + 64 < 2 ^ csel prefUp prefUp.bus.xipSel 0 11 5 ∧
      prefUp.ser.lines.any (fun x => x.1 == 0 + 64) = false ∧ prefUp.ser.waiting = [] ∧ prefUp.ser.running = none ∧
      ({ prefUp with bus := { prefUp.bus with xipEn := false } } : State).bus.xipEn = false := by decide

theorem witness_MasterPortEventsAct_3 :
    ({ prefUp with ser := { prefUp.ser with erase := some 0 } }).ser.erase = some 0 ∧
      prefUp.ser.waiting.any (fun j => j.rank == 5) = false ∧ prefUp.ser.running.map SerJob.rank ≠ some 5 ∧
      prefUp.ser.hostRead = none := by decide

theorem witness_MasterPortEventsAct_4 :
    Accepted prefUp .host { desc 0 0 0 1 1 4 with code := 0x11 } ∧
      xferCheck (posted prefUp .host { desc 0 0 0 1 1 4 with code := 0x11 }) 0 0 (1 % 16) (1 - 1 % 16) 4 = 0 ∧
      xferCheck (posted prefUp .host { desc 0 6 0 1 1 4 with code := 0x11 }) 6 0 (1 % 16) (1 - 1 % 16) 4 = 1 ∧
      xferCheck (posted prefUp .host { desc 0 1 0 1 1 4 with code := 0x11 }) 1 0 (1 % 16) (1 - 1 % 16) 4 = 2 :=
  ⟨⟨by decide, by decide, by decide, by decide, by decide, by decide, by decide, by decide⟩, by decide, by decide, by decide⟩

theorem witness_FlashErasesEnd_1 :
    (erasing none).flash.erase = some (anErase none) ∧ (anErase none).susp = none ∧
      (erasing (some 0)).flash.erase = some (anErase (some 0)) ∧ (anErase (some 0)).susp = some 0 ∧
      (pwrOff (erasing none)).mode.pwrfail = true ∧ (pwrOff (erasing none)).flash.erase = some (anErase none) ∧
      900 * 4096 / 4096 = (anErase none).sector := by decide

theorem witness_FlashErasesEnd_2 :
    Accepted (up .node .run) .host { desc 0 0 0 0 0 16 with code := 0x12 } ∧ (up .node .run).mode.coreReset = false ∧
      flashRangeOk (0 + 65536 * 0) 16 = true ∧ flashRangeOk (0 + 65536 * 0xFF) 16 = false :=
  ⟨⟨by decide, by decide, by decide, by decide, by decide, by decide, by decide, by decide⟩, by decide, by decide, by decide⟩

/-! #### Boundary scan -/

theorem witness_BoundaryScanActs_1 :
    (up .bench .setup).mode.role = .bench ∧ (up .node .run).mode.role ≠ .bench ∧ (up .bench .setup).sec.owk = none ∧
      (up .bench .setup).sec.otpKey = none ∧
      ({ up .bench .setup with sec := { State.reset.sec with otpKey := some [] } }).sec.otpKey = some [] ∧
      ({ up .bench .setup with sec := { State.reset.sec with owk := some [] } }).sec.owk ≠ none := by decide

/-- A key word whose CRC-32C agrees, and one whose does not. -/
theorem witness_BoundaryScanActs_2 :
    crc32c (numBytes (BitVec.ofNat 288 (2 ^ 256 * crc32c (List.replicate 32 0))).toNat 0 32) =
      (BitVec.ofNat 288 (2 ^ 256 * crc32c (List.replicate 32 0))).toNat / 2 ^ 256 ∧
      crc32c (numBytes (BitVec.ofNat 288 1).toNat 0 32) ≠ (BitVec.ofNat 288 1).toNat / 2 ^ 256 := by decide +kernel

/-! #### The panel -/

theorem witness_PanelCommandsAct_1 :
    scans panelHost = true ∧ (47 : Nat) < 48 ∧ keyBit panelHost.panel.keys 47 = false ∧ panelHost.panel.host = true ∧
      panelHost.panel.queue.length ≤ 23 ∧
      23 < ({ panelHost.panel with queue := List.replicate 24 (1, 5) } : PanelState).queue.length ∧
      scans (up .node .run) = true ∧ keyBit (up .node .run).panel.keys 47 = false ∧ (up .node .run).panel.host = false := by decide

theorem witness_PanelCommandsAct_2 :
    scans (panelKeyUp 47 false) = true ∧ keyBit (panelKeyUp 47 false).panel.keys 47 = true ∧
      (panelKeyUp 47 false).panel.host = true ∧ keyBit (panelKeyUp 47 false).panel.heldOver 47 = false ∧
      (panelKeyUp 47 false).panel.queue.length ≤ 31 ∧ scans (panelKeyUp 47 true) = true ∧
      keyBit (panelKeyUp 47 true).panel.keys 47 = true ∧ keyBit (panelKeyUp 47 true).panel.heldOver 47 = true ∧
      ({ (panelKeyUp 47 true).panel with jog := some 2, jogKey := 47 } : PanelState).jog.isSome = true ∧
      ({ (panelKeyUp 47 true).panel with jog := some 2, jogKey := 47 } : PanelState).jogKey = 47 := by decide

/-- A repeat to the host, and one to the menu of a key that is not + and of +. -/
theorem witness_PanelCommandsAct_3 :
    (repeating true 3 0).panel.repKey = some 3 ∧ scans (repeating true 3 0) = true ∧ repeats (repeating true 3 0) 3 = true ∧
      (repeating true 3 0).panel.host = true ∧ (repeating true 3 0).panel.queue.length ≤ 23 ∧
      (repeating false 3 4).panel.repKey = some 3 ∧ scans (repeating false 3 4) = true ∧
      repeats (repeating false 3 4) 3 = true ∧ (repeating false 3 4).panel.host = false ∧ 3 ≠ keyAt (repeating false 3 4) 0x10 8 ∧
      repeats (repeating false (keyAt (up .node .run) 0x10 8) 4) (keyAt (up .node .run) 0x10 8) = true ∧
      keyAt (up .node .run) 0x10 8 = keyAt (repeating false (keyAt (up .node .run) 0x10 8) 4) 0x10 8 ∧
      keyHeld (repeating false (keyAt (up .node .run) 0x10 8) 4) (keyAt (up .node .run) 0x10 8) = true ∧
      (repeating false (keyAt (up .node .run) 0x10 8) 4).panel.screen = 4 := by decide

/-- One step, an error, and the last step of a detent up and down. -/
theorem witness_PanelCommandsAct_4 :
    scans panelHost = true ∧ panelHost.panel.phase0 = 0 ∧
      (phasePlace (2 * b2n true + b2n false) + 4 - phasePlace 0) % 4 ≠ 2 ∧
      2 * b2n true + b2n false ≠ 0 ∧ panelHost.panel.t0 + 1 ≠ encTpd panelHost 0 ∧ panelHost.panel.t0 + 1 ≠ -encTpd panelHost 0 ∧
      (phasePlace (2 * b2n true + b2n true) + 4 - phasePlace 0) % 4 = 2 ∧ cfgB panelHost 0xB 6 2 = false ∧
      (3 : Int) + 1 = encTpd panelHost 0 ∧ (-3 : Int) + -1 = -encTpd panelHost 0 := by decide

theorem witness_PanelScreenAndRegistersAct_1 :
    scans panelHost = true ∧ panelHost.panel.host = true ∧ panelHost.panel.hostReq = true ∧ panelHost.mode.mode ≠ .minimal ∧
      scans (up .node .run) = true ∧ (up .node .run).panel.host = false ∧ (up .node .run).panel.hostReq = false ∧
      (up .node .run).mode.bootOk = true ∧ scans bootPanel = true ∧ bootPanel.mode.bootOk = false ∧
      bootPanel.panel.host = false ∧ bootPanel.panel.hostReq = false ∧
      ({ panelHost.panel with host := false } : PanelState).hostReq = true ∧
      ({ panelHost.panel with hostReq := false } : PanelState).host = true := by decide

theorem witness_PanelScreenAndRegistersAct_2 :
    pathOpen panelHost .host = true ∧ panelHost.mode.mode ≠ .minimal ∧ panelHost.panel.host = true ∧
      panelHost.panel.queue = [] ∧ (up .node .run).panel.host = false ∧
      ({ panelHost.panel with queue := [(1, 5)] } : PanelState).queue = (1, 5) :: [] ∧ menuRuns (up .node .safe) = true ∧
      ({ up .node .safe with panel := { State.reset.panel with jog := some 2 } }).panel.jog.isSome = true := by decide

/-! #### Trace, health and injection -/

theorem witness_HealthAndTraceAct_1 :
    pathOpen (traceUp 0) .host = true ∧ (tracePtr (traceUp 0) .host).idx = 0 ∧
      wrap32 (traceUp 0).trace.tseq (2 ^ 32 - (tracePtr (traceUp 0) .host).tseq) = 1 ∧ 1 ≤ (traceUp 0).trace.ring.length ∧
      ringRec (traceUp 0) 1 = some aRec ∧ (tracePtr (traceUp 3) .host).capture = some aRec ∧ (tracePtr (traceUp 3) .host).idx ≠ 0 ∧
      (tracePtr (traceUp 3) .host).idx < 7 ∧ (tracePtr (traceUp 7) .host).idx = 7 ∧
      wrap32 (up .node .run).trace.tseq (2 ^ 32 - (tracePtr (up .node .run) .host).tseq) = 0 ∧
      (tracePtr (up .node .run) .host).idx = 0 ∧
      wrap32 ({ (traceUp 0).trace with tseq := 5 } : TraceState).tseq (2 ^ 32 - (tracePtr (traceUp 0) .host).tseq) = 5 ∧
      ringRec (traceUp 0) (traceUp 0).trace.ring.length = some aRec ∧ (traceUp 0).trace.ring.length < 5 := by decide

theorem witness_HealthAndTraceAct_2 :
    pathOpen (traceUp 0) .host = true ∧ (traceUp 0).trace.ring ≠ [] ∧ (up .node .run).trace.ring = [] ∧
      (traceUp 0).mode.coreReset = false ∧ (traceUp 0).mode.rest = false ∧ (traceUp 0).trace.persist = none ∧
      (traceUp 0).mode.pwrfail = false ∧ (pwrOff (traceUp 0)).mode.pwrfail = true := by decide

theorem witness_HealthAndTraceAct_3 :
    ({ traceUp 0 with trace := { (traceUp 0).trace with persist := some ([aRec], 0) } }).trace.persist = some ([aRec], 0) ∧
      (traceUp 0).mode.pwrfail = false ∧ (traceUp 0).mode.logicReset = false ∧ coreRuns (traceUp 0) = true ∧
      (pwrOff (traceUp 0)).mode.pwrfail = true := by decide

theorem witness_HealthIntervalsAndInjectionAct_1 :
    (up .node .run).mode.porst = false ∧ (up .node .run).mode.logicReset = false ∧ (up .node .run).mode.pwrfail = false ∧
      (up .node .run).health.exclBar = false ∧ (up .node .run).health.exclLnk = false ∧
      ({ up .node .run with time := { State.reset.time with pll := .locked } }).time.pll = .locked ∧
      (up .node .run).time.pll ≠ .locked ∧ (up .node .run).health.summary = none ∧
      ([(1 : Nat), 0].any (fun x => x != 0)) = true ∧
      (summed [0, 1]).health.summary = some (1, [0, 0], 0xFFFF) ∧ [(0 : Nat), 0] ≠ (summed [0, 1]).health.thermTotal := by decide

theorem witness_HealthIntervalsAndInjectionAct_2 :
    pathOpen (up .node .setup) .host = true ∧ (up .node .setup).mode.mode ≠ .minimal ∧ 3 < 4 ∧
      armRefused (up .node .setup) 3 0 = false ∧ armRefused (up .node .setup) 0 3 = true := by decide

theorem witness_HealthIntervalsAndInjectionAct_3 :
    (armedInj true).inj.armed.map (fun a => a.sealed) = some true ∧ (armedInj true).inj.sealedEnable = some (5, 1) ∧
      (({ armedInj true with inj := { (armedInj true).inj with heldFrame := some (.a, goodFrame 1) } } : State).inj.heldFrame).isSome = true ∧
      injPermitted { armedInj true with inj := { (armedInj true).inj with sealedEnable := none } } 0 = false := by decide

/-! #### Updates -/

theorem witness_UpdateCommandsAct_1 :
    pathOpen (updUp .node .idle) .host = true ∧ Path.host ≠ .line ∧
      keyOpen (hostAccess (updUp .node .idle) .host) .host = true ∧
      (updUp .node .idle).mode.coreReset = false ∧ updRefusal (wake (acting (updUp .node .idle) .host) 4) 1 none = 0 ∧
      updRefusal (wake (acting (updUp .node .read) .host) 4) 2 none = 0 ∧
      updRefusal (wake (acting (updUp .node .staged) .host) 4) 3 none = 0 ∧
      updRefusal (wake (acting (updUp .node .prepared) .host) 4) 4 none = 0 ∧
      updRefusal (wake (acting (updUp .node .confirm) .host) 4) 5 none = 0 ∧
      updRefusal (wake (acting (updUp .starter .staged) .host) 4) 6 none = 0 := by decide

theorem witness_UpdateCommandsAct_2 :
    updRefusal (wake (acting (pwrOff (updUp .node .prepared)) .host) 4) 4 none = 0 ∧
      updRefusal (wake (acting (pwrOff (updUp .node .confirm)) .host) 4) 5 none = 0 ∧
      (candidate (updUp .node .idle)).media.cands ≠ [] ∧
      updRefusal (wake (acting (candidate (updUp .node .idle)) .host) 4) 1 none = 0 := by decide

theorem witness_UpdateCommandsAct_3 :
    pathOpen (updUp .node .staged) .host = true ∧ (1, Instr.start) ∈ [(1, Instr.start), (2, Instr.abort), (3, Instr.prepare),
        (4, Instr.activate), (5, Instr.veto), (6, Instr.relayJoin)] ∧
      updRefusal (wake (acting (updUp .node .staged) .host) 4) 1 none ≠ 0 ∧
      keyOpen (hostAccess (up .node .setup) .host) .host = false ∧ pathOpen (up .node .setup) .host = true :=
  ⟨by decide, List.mem_cons_self .., by decide, by decide, by decide⟩

theorem witness_UpdateCommandsAct_4 :
    Held (updHeld .read 2) false false 3 0x21 (heldTxn 0x21 [2, 0xFF]) ∧ (updHeld .read 2).mode.coreReset = false ∧
      byteAt (heldTxn 0x21 [2, 0xFF]).data 0 = 2 ∧ updRefusal (updHeld .read 2) 2 none = 0 ∧
      updRefusal (updHeld .idle 2) 2 none ≠ 0 ∧ Held (updHeld .prepared 4) false false 3 0x21 (heldTxn 0x21 [4, 0xFF]) ∧
      heatExcludes (updHeld .prepared 4) (byteAt (heldTxn 0x21 [4, 0xFF]).data 1) = false ∧
      heatExcludes (updHeld .prepared 4) 7 = true :=
  ⟨held_in _ _ _ rfl rfl (Nat.zero_le _) rfl, by decide, by decide, by decide, by decide,
    held_in _ _ _ rfl rfl (Nat.zero_le _) rfl, by decide, by decide⟩

theorem witness_UpdateSessionsProgress_1 :
    (preparing [3]).mode.pwrfail = false ∧ coreRuns (preparing [3]) = true ∧ (preparing [3]).upd.phase = .prepare ∧
      (preparing [3]).upd.todo = [3] ∧ slotReady (preparing [3]) (!activeBank (preparing [3]) 3) 3 = true := by decide

theorem witness_UpdateSessionsProgress_2 :
    ({ updUp .node .prepared with upd := { (updUp .node .prepared).upd with startT := some 5 } }).upd.startT = some 5 ∧
      coreRuns (updUp .node .prepared) = true ∧ (updUp .node .prepared).mode.pwrfail = false ∧
      updRefusal { (updUp .node .prepared).reach 5 with upd := { (updUp .node .prepared).upd with startT := none } } 4 none = 0 ∧
      updRefusal { (updUp .node .idle).reach 5 with upd := { (updUp .node .idle).upd with startT := none } } 4 none ≠ 0 := by decide

/-- An activation's part other than the core's, the core's, a fallback's part, and its last with and without a core reset. -/
theorem witness_UpdateSessionsProgress_3 :
    coreRuns (activating [2, 3]) = true ∧ (activating [2, 3]).mode.pwrfail = false ∧ (activating [2, 3]).upd.falling = none ∧
      (activating [2, 3]).upd.phase = .activate ∧ (activating [2, 3]).upd.todo = [2, 3] ∧ 2 ≠ 1 ∧
      (activating [1]).upd.todo = [1] ∧ (falling [2, 3] false).upd.falling = some (0x0610, 2 :: [3]) ∧ [3] ≠ [] ∧
      (falling [3] false).upd.falling = some (0x0610, [3]) ∧
      (partResume { falling [3] false with upd := { (falling [3] false).upd with falling := some (0x0610, []) } } 3).upd.fallReset = false ∧
      (partResume { falling [3] true with upd := { (falling [3] true).upd with falling := some (0x0610, []) } } 3).upd.fallReset = true := by decide

theorem witness_UpdateSessionsProgress_4 :
    confirming.upd.phase = .confirm ∧ confirming.upd.falling = none ∧ coreRuns confirming = true ∧
      confirming.mode.pwrfail = false ∧ confirmOk confirming = true ∧ confirming.upd.deadline = some 120000000000 ∧
      confirmOk { confirming with time := State.reset.time } = false := by decide

theorem witness_UpdateSessionsProgress_5 :
    ({ up .node .setup with panel := { State.reset.panel with chord := true } }).panel.chord = true ∧
      menuRuns { up .node .setup with panel := { State.reset.panel with chord := true } } = true ∧
      updReady { up .node .setup with panel := { State.reset.panel with chord := true } } = false ∧
      updReady (candidate (updUp .node .idle)) = true := by decide

theorem witness_MediumEventsAct_1 :
    (up .node .run).media.present = false ∧ (mediumUp true).media.present = true ∧ (mediumUp true).media.identDue = true ∧
      coreRuns (mediumUp true) = true ∧ (mediumUp true).ser.running ≠ some .medium ∧ (mediumUp true).media.reader = none ∧
      (mediumUp false).media.identDue = false := by decide

theorem witness_MediumEventsAct_2 :
    (mediumUp false).media.present = true ∧ mediaInUse (mediumUp false) = false ∧ mediaInUse readingUp = true ∧
      readingUp.upd.mediaWait = false ∧ readingUp.media.present = true ∧ readingUp.media.reader.isSome = true := by decide

theorem witness_MediumEventsAct_3 :
    (readerAsk (readerNext readingUp)).ser.running = some .medium ∧
      (readerAsk (readerNext (up .node .run))).ser.running ≠ some .medium ∧
      ({ readingUp with media := { readingUp.media with removedT := some 7 }, upd := { readingUp.upd with mediaWait := true } }).media.removedT = some 7 ∧
      ({ readingUp with media := { readingUp.media with removedT := some 7 }, upd := { readingUp.upd with mediaWait := true } }).upd.mediaWait = true := by decide

/-! #### The rules stated whole -/

theorem witness_RoleHoldsUntilPowerOnReset_1 :
    ({ State.reset with mode := { State.reset.mode with porst := true } }).mode.porst = true ∧
      ({ State.reset with mode := { State.reset.mode with porst := true } }).mode.booting = false := by decide

theorem witness_RoleHoldsUntilPowerOnReset_2 :
    (up .node .run).mode.porst = false ∧ (up .node .run).mode.logicReset = false ∧
      exec (.porstRelease .anchor true bootEnv) (up .node .run) = .next (up .node .run) := ⟨rfl, rfl, rfl⟩

theorem witness_RoleHoldsUntilPowerOnReset_3 :
    (∀ (role : Role) (crystal : Bool) (e : BootEnv), Instr.bypass ≠ .porstRelease role crystal e) ∧
      exec .bypass State.reset = .next (setTapIns State.reset .bypass) := ⟨fun _ _ _ h => (nomatch h), rfl⟩

theorem witness_NopWaitsForItsPath_1 :
    Accepted (up .node .run) .host { desc 0 0 0 0 0 0 with code := 1 } ∧
      (cmdPath (acting (up .node .run) .host) .host).outst = [] ∧
      Accepted ((up .node .run).setCmd .host { cmdPath (up .node .run) .host with outst := [desc 2 0 0 0 0 0] }) .host { desc 0 0 0 0 0 0 with code := 1, word1 := 2 } ∧
      (cmdPath (acting ((up .node .run).setCmd .host { cmdPath (up .node .run) .host with outst := [desc 2 0 0 0 0 0] }) .host) .host).outst
        = [desc 2 0 0 0 0 0] ∧ (desc 2 0 0 0 0 0).code ≠ 1 := ⟨⟨by decide, by decide, by decide, by decide, by decide, by decide, by decide, by decide⟩, by decide, ⟨by decide, by decide, by decide, by decide, by decide, by decide, by decide, by decide⟩, by decide, by decide⟩

theorem witness_NopWaitsForItsPath_2 :
    (Path.host ≠ .line) ∧ (cmdPath ((up .node .run).setCmd .host { cmdPath (up .node .run) .host with
        outst := [desc 2 0 0 0 0 0, desc 1 0 0 0 0 0] }) .host).outst = [desc 2 0 0 0 0 0, desc 1 0 0 0 0 0] ∧
      (desc 1 0 0 0 0 0).code = 1 ∧ (∀ x ∈ ([] : List Descriptor).head?, x.code ≠ 1) := by decide

theorem witness_NopWaitsForItsPath_3 :
    (Path.host ≠ .line) ∧ (cmdPath ((up .node .run).setCmd .host { cmdPath (up .node .run) .host with
        outst := [desc 2 0 0 0 0 0, desc 3 0 0 0 0 0, desc 1 0 0 0 0 0] }) .host).outst
          = desc 2 0 0 0 0 0 :: [desc 3 0 0 0 0 0, desc 1 0 0 0 0 0] ∧
      (desc 2 0 0 0 0 0).code ≠ 1 ∧ desc 2 0 0 0 0 0 ≠ desc 3 0 0 0 0 0 ∧ desc 3 0 0 0 0 0 ∈ [desc 3 0 0 0 0 0, desc 1 0 0 0 0 0] := by decide

theorem witness_FullQueueDropsOrDisplaces_1 :
    (up .node .run).evq.queue.length < 256 ∧ (up .node .run).mode.logicReset = false := by decide

theorem witness_FullQueueDropsOrDisplaces_2 :
    (fullQueue 0x10).evq.queue.length = 256 ∧ (fullQueue 0x10).mode.logicReset = false ∧ 0x12 < 256 ∧ urgent 0x10 = false ∧ urgent 0x12 = true ∧
      (∀ x ∈ (fullQueue 0x12).evq.queue, urgent x.code.toNat = true) ∧ (fullQueue 0x12).evq.queue.length = 256 ∧
      (fullQueue 0x10).evq.holder = none ∧
      (fullQueue 0x10).evq.queue = [] ++ evOf 0x10 :: List.replicate 255 (evOf 0x10) ∧
      (∀ y ∈ ([] : List Event), urgent y.code.toNat = true) ∧ urgent (evOf 0x10).code.toNat = false := by decide

theorem witness_FullQueueDropsOrDisplaces_3 :
    heldQueue.mode.logicReset = false ∧ heldQueue.evq.queue = evOf 0x10 :: List.replicate 255 (evOf 0x10) ∧ heldQueue.evq.holder = some .host ∧
      (evOf 0x10 :: List.replicate 255 (evOf 0x10)).length = 256 ∧
      List.replicate 255 (evOf 0x10) = [] ++ evOf 0x10 :: List.replicate 254 (evOf 0x10) := by decide

theorem witness_FifoLevelIsPostedOnce :
    (fifoAt 15 16).adc.fifo.length < cfgF (fifoAt 15 16) 7 3 0 9 ∧
      cfgF (fifoAt 15 16) 7 3 0 9 ≤ (fifoPut (fifoAt 15 16) 0x0101 0x0202).adc.fifo.length ∧
      ¬ ((fifoAt 16 16).adc.fifo.length < cfgF (fifoAt 16 16) 7 3 0 9 ∧
        cfgF (fifoAt 16 16) 7 3 0 9 ≤ (fifoPut (fifoAt 16 16) 0x0101 0x0202).adc.fifo.length) := by decide

theorem witness_ConfirmationRemembersTheBundle_1 :
    confirming.upd.phase = .confirm ∧ confirming.upd.falling = none ∧ coreRuns confirming = true ∧
      confirming.mode.pwrfail = false ∧ confirmOk confirming = true ∧
      (∀ p ∈ confirming.sec.nbase, p.2 ≠ bdIdent (stagedMeta confirming)) ∧ confirming.sec.nbase.length < 16 := by decide

/-- The bundle's pair remembered already, and 16 pairs of other bundles. -/
theorem witness_ConfirmationRemembersTheBundle_2 :
    (nbased [([1], bdIdent (stagedMeta confirming))]).sec.nbase = [([1], bdIdent (stagedMeta confirming))] ∧
      confirmOk (nbased [([1], bdIdent (stagedMeta confirming))]) = true ∧
      (∀ p ∈ (nbased (List.replicate 16 ([1], bdIdent (stagedMeta confirming) ++ [0]))).sec.nbase,
        p.2 ≠ bdIdent (stagedMeta confirming)) ∧
      (nbased (List.replicate 16 ([1], bdIdent (stagedMeta confirming) ++ [0]))).sec.nbase.length = 16 ∧
      confirmOk (nbased (List.replicate 16 ([1], bdIdent (stagedMeta confirming) ++ [0]))) = true := by
  refine ⟨rfl, by decide, fun p h => ?_, rfl, by decide⟩
  have h := (List.mem_replicate.mp h).2
  subst h
  simp

theorem witness_FreezeStopsTheTrace_1 :
    (frozen 3).trace.freeze = true ∧ (frozen 3).trace.frozenDrops < 65535 := by decide

theorem witness_FreezeStopsTheTrace_2 :
    ({ frozen 3 with mode := { (frozen 3).mode with coreReset := true } } : State).trace.freeze = true ∧
      coreRuns { frozen 3 with mode := { (frozen 3).mode with coreReset := true } } = false ∧ (frozen 3).trace.dropped < 65535 := by decide

theorem witness_FreezeStopsTheTrace_3 :
    pathOpen (frozen 3) .host = true ∧ (frozen 3).trace.freeze = true ∧ (frozen 3).trace.ring.length < 2048 := by decide

theorem witness_KeyStatesFollowTheWrites_1 :
    pathOpen (up .node .run) .host = true ∧ (up .node .run).ser.spOffDue = false ∧ pathOpen (up .node .run) .line = true ∧
      (keyOf ((up .node .run).setKey .host { st := .half }) .host).st = .half ∧ (keyOf (up .node .run) .host).st ≠ .half := by decide

theorem witness_KeyStatesFollowTheWrites_2 :
    (keyOf ((up .node .run).setKey .host { st := .opened }) .host).st = .opened ∧
      (keyOf ((up .node .run).setKey .host { st := .half }) .host).st = .half ∧ (keyOf (up .node .run) .host).st = .idle ∧
      Path.line ≠ .host := by decide

theorem witness_NoNonceIsTakenTwice_2 :
    (4, 9) ∈ accepted { epoch := 4, ctr := 7, map := BitVec.allOnes 64 } [(3, 8), (4, 7), (4, 9), (4, 9)] := by decide

end Sys2Proof.Tests
end

section
/-! SUPPORT. Role: a command keeps every part outside its footprint, and the role is outside that of every command but
PORST_RELEASE, which samples it (R2). -/

namespace Sys2Proof.Machine

open Sys2Proof

/-! ### What a command leaves unchanged -/

/-- The footprints of Safety are right: a command keeps whatever parts are named, where its footprint lists none of them.
Each command's own lemma in Laws says it of its meaning. -/
theorem exec_kept {kp : Part → Bool} (c : Instr) (s : State) (h : ∀ p ∈ touches c, kp p = false) :
    KeptR kp s (exec c s) := by
  have hr := Kept.refl kp s
  cases c <;> simp only [touches, List.forall_mem_cons] at h <;> simp [exec, hr, h]

theorem Kept.role {kp : Part → Bool} {s t : State} (h : Kept kp s t) (k : kp .straps = true) :
    t.mode.role = s.mode.role :=
  (h.same .straps k).1

/-! ### The role in a boot -/

@[simp] theorem bootGo_role (e : BootEnv) (s : State) : (bootGo e s).mode.role = s.mode.role := by
  have h : Kept (· == .straps) s (bootGo e s) := by simp [Kept.refl]
  exact h.role rfl

@[simp] theorem sampleStraps_role (s : State) (role : Role) (crystal : Bool) :
    (sampleStraps s role crystal).mode.role = role := by
  unfold sampleStraps refreshMode
  split <;> rfl

/-- PORST_RELEASE in power-on reset starts the boot on the straps just sampled (R2, R237). -/
theorem exec_porstRelease_of_porst {s : State} (role : Role) (crystal : Bool) (e : BootEnv) (hp : s.mode.porst = true)
    (hb : s.mode.booting = false) :
    exec (.porstRelease role crystal e) s = .next (bootGo e (sampleStraps (bootBegin s) role crystal)) := by
  simp [exec, execPorstRelease, hp, hb]

/-- PORST_RELEASE in a boot goes on with one that a power-on reset began, and has no effect on another (R237). -/
theorem exec_porstRelease_of_booting {s : State} (role : Role) (crystal : Bool) (e : BootEnv)
    (hb : s.mode.booting = true) :
    exec (.porstRelease role crystal e) s = .next (if causeKind s.mode.cause == 0 then bootGo e s else s) := by
  simp only [exec, execPorstRelease, hb, if_true]
  split <;> rfl

/-- PORST_RELEASE has no effect where nothing is to be released and no boot runs. -/
theorem exec_porstRelease_of_released {s : State} (role : Role) (crystal : Bool) (e : BootEnv)
    (hp : s.mode.porst = false) (hl : s.mode.logicReset = false) (hb : s.mode.booting = false) :
    exec (.porstRelease role crystal e) s = .next s := by
  simp [exec, execPorstRelease, hp, hl, hb]

/-- Outside power-on reset the straps are not sampled again: the boot in progress goes on with the role it has (R2). -/
theorem porstRelease_role_of_not_porst {s t : State} {role : Role} {crystal : Bool} {e : BootEnv}
    (hp : s.mode.porst = false) (hw : s.mode.logicReset = false ∨ s.mode.booting = true)
    (ht : exec (.porstRelease role crystal e) s = .next t) : t.mode.role = s.mode.role := by
  cases hb : s.mode.booting with
  | true =>
    rw [exec_porstRelease_of_booting role crystal e hb] at ht
    cases ht
    split
    · exact bootGo_role e s
    · rfl
  | false =>
    have hl : s.mode.logicReset = false := hw.resolve_right (by simp [hb])
    rw [exec_porstRelease_of_released role crystal e hp hl hb] at ht
    cases ht
    rfl

/-! ### The role under every other command -/

theorem straps_notMem_touches {c : Instr}
    (hc : ∀ (role : Role) (crystal : Bool) (e : BootEnv), c ≠ .porstRelease role crystal e) :
    Part.straps ∉ touches c := by
  cases c with
  | porstRelease role crystal e => exact absurd rfl (hc role crystal e)
  | _ => simp [touches]

theorem exec_role {c : Instr} {s t : State}
    (hc : ∀ (role : Role) (crystal : Bool) (e : BootEnv), c ≠ .porstRelease role crystal e)
    (ht : exec c s = .next t) : t.mode.role = s.mode.role := by
  have h : KeptR (· == .straps) s (exec c s) :=
    exec_kept c s (fun p hp => beq_false_of_ne (ne_of_mem_of_not_mem hp (straps_notMem_touches hc)))
  rw [ht] at h
  exact Kept.role h rfl

/-- Settles O52: the boot keeps the role that its straps gave, and no other command's footprint has the straps. -/
theorem roleHoldsUntilPowerOnReset : Obligations.RoleHoldsUntilPowerOnReset := by
  refine ⟨fun role crystal e s hp hb => ?_, fun role crystal e s t hp hw ht => ?_, fun c s t hc ht => ?_⟩
  · exact ⟨_, exec_porstRelease_of_porst role crystal e hp hb, by simp⟩
  · exact porstRelease_role_of_not_porst hp hw ht
  · exact exec_role hc ht

end Sys2Proof.Machine
end

section
/-! SUPPORT. NopOrder: what the operations of a path's command queue leave in that queue, and the order in which a NOP
completes (R182). -/

namespace Sys2Proof.Machine

open Sys2Proof

/-! ### The queue of a path under the operations on it -/

@[simp] theorem cmdPath_setCmd_same (s : State) (p : Path) (c : CmdPath) : cmdPath (s.setCmd p c) p = c := by
  cases p <;> rfl

@[simp] theorem cmdPath_pushCpl_same (s : State) (p : Path) (d : Descriptor) (outcome result : Nat) :
    cmdPath (pushCpl s p d outcome result) p =
      { cmdPath s p with cplq := (cmdPath s p).cplq ++ [cplEntry p d outcome result] } := by
  cases p <;> rfl

@[simp] theorem cmdPath_outstand_same (s : State) (p : Path) (d : Descriptor) :
    cmdPath (outstand s p d) p = { cmdPath s p with outst := (cmdPath s p).outst ++ [d] } :=
  cmdPath_setCmd_same s p _

@[simp] theorem cmdPath_posted_same (s : State) (p : Path) (d : Descriptor) :
    cmdPath (posted s p d) p =
      { cmdPath (acting s p) p with outst := (cmdPath (acting s p) p).outst ++ [d] } :=
  cmdPath_outstand_same (acting s p) p d

/-- Draining takes the run of NOPs at the front off the list, in order, with one entry for each, and nothing behind it. -/
@[simp] theorem cmdPath_drainNops_same (s : State) (p : Path) (l : List Descriptor) :
    cmdPath (drainNops s p l) p =
      { cmdPath s p with
        outst := l.dropWhile (·.code == 1)
        cplq := (cmdPath s p).cplq ++ (l.takeWhile (·.code == 1)).map (cplEntry p · 0 0) } := by
  induction l generalizing s with
  | nil => simp [drainNops]
  | cons d r ih =>
    cases hd : d.code == 1 with
    | true => simp [drainNops, hd, ih]
    | false => simp [drainNops, hd]

theorem dropDesc_cons_self (d : Descriptor) (r : List Descriptor) : dropDesc (d :: r) d = r := by
  simp [dropDesc]

theorem dropDesc_cons_of_ne {x d : Descriptor} (r : List Descriptor) (h : x ≠ d) :
    dropDesc (x :: r) d = x :: dropDesc r d := by
  simp [dropDesc, h]

/-- The completion of an outstanding command enters its entry, and then drains what it leaves outstanding. -/
theorem complete_of_mem {s : State} {p : Path} {d : Descriptor} (outcome result : Nat)
    (h : d ∈ (cmdPath s p).outst) :
    complete s p d outcome result =
      drainNops (pushCpl s p d outcome result) p (dropDesc (cmdPath s p).outst d) := by
  simp [complete, h]

/-! ### NOP -/

/-- An accepted NOP is outstanding, and then what is outstanding drains. -/
theorem exec_nop_of_accepted {s : State} {p : Path} {d : Descriptor} (h : Accepted s p { d with code := 1 }) :
    exec (.nop p d) s =
      .next (drainNops (posted s p { d with code := 1 }) p ((cmdPath (acting s p) p).outst ++ [{ d with code := 1 }])) := by
  simp [exec, execNop, postFrom_eq _ h]

/-- With nothing of its path outstanding, a NOP completes at its posting. -/
theorem nop_completes_of_outst_nil {s : State} {p : Path} {d : Descriptor} (h : Accepted s p { d with code := 1 })
    (ho : (cmdPath (acting s p) p).outst = []) :
    Completes (.nop p d) s (fun t => (cmdPath t p).outst = [] ∧
      (cmdPath t p).cplq = (cmdPath (acting s p) p).cplq ++ [cplEntry p { d with code := 1 } 0 0]) :=
  ⟨_, exec_nop_of_accepted h, by simp [ho], by simp [ho]⟩

/-- Behind an outstanding command, a NOP waits. -/
theorem nop_waits_of_outst_cons {s : State} {p : Path} {d x : Descriptor} {r : List Descriptor}
    (h : Accepted s p { d with code := 1 }) (ho : (cmdPath (acting s p) p).outst = x :: r) (hx : x.code ≠ 1) :
    Completes (.nop p d) s (fun t => (cmdPath t p).outst = x :: r ++ [{ d with code := 1 }] ∧
      (cmdPath t p).cplq = (cmdPath (acting s p) p).cplq) :=
  ⟨_, exec_nop_of_accepted h, by simp [ho, hx], by simp [ho, hx]⟩

/-- The completion of the last command before a NOP completes the NOP after it. -/
theorem complete_then_nop {s : State} {p : Path} {d n : Descriptor} {r : List Descriptor} (outcome result : Nat)
    (ho : (cmdPath s p).outst = d :: n :: r) (hn : n.code = 1) (hr : ∀ x ∈ r.head?, x.code ≠ 1) :
    (cmdPath (complete s p d outcome result) p).outst = r ∧
      (cmdPath (complete s p d outcome result) p).cplq =
        (cmdPath s p).cplq ++ [cplEntry p d outcome result, cplEntry p n 0 0] := by
  rw [complete_of_mem outcome result (by simp [ho]), ho, dropDesc_cons_self]
  cases r with
  | nil => simp [hn]
  | cons y r => simp [hn, hr y rfl]

/-- The completion of a later command leaves an earlier one, and so every NOP behind that, outstanding. -/
theorem complete_behind_outstanding {s : State} {p : Path} {x d : Descriptor} {r : List Descriptor}
    (outcome result : Nat) (ho : (cmdPath s p).outst = x :: r) (hx : x.code ≠ 1) (hxd : x ≠ d) (hd : d ∈ r) :
    (cmdPath (complete s p d outcome result) p).outst = x :: dropDesc r d ∧
      (cmdPath (complete s p d outcome result) p).cplq = (cmdPath s p).cplq ++ [cplEntry p d outcome result] := by
  rw [complete_of_mem outcome result (by simp [ho, hd]), ho, dropDesc_cons_of_ne r hxd]
  simp [hx]

/-- Settles O53: a path drains exactly the NOPs in front of its outstanding commands, at a posting and at a completion. -/
theorem nopWaitsForItsPath : Obligations.NopWaitsForItsPath := by
  refine ⟨fun p d s h => ⟨nop_completes_of_outst_nil h, fun x r ho hx => nop_waits_of_outst_cons h ho hx⟩,
    fun s p d n r outcome result _ ho hn hr => ?_, fun s p x d r outcome result _ ho hx hxd hd => ?_⟩
  · exact complete_then_nop outcome result ho hn hr
  · exact complete_behind_outstanding outcome result ho hx hxd hd

end Sys2Proof.Machine
end

section
/-! SUPPORT. EventQueue: what a posting does to the event queue: where the event enters, which entry it displaces, and
when it counts as a drop (R204). -/

namespace Sys2Proof.Machine

open Sys2Proof

/-! ### The bits of a word that setBit leaves -/

theorem bitOf_eq_getLsbD (w : Word) (n : Nat) : bitOf w n = w.getLsbD n := by
  simp [bitOf, BitVec.getLsbD, Nat.testBit_eq_decide_div_mod_eq, beq_eq_decide]

theorem setBit_true (w : Word) (n : Nat) : setBit w n true = w ||| BitVec.twoPow 16 n := by
  have h : word (2 ^ n) = BitVec.twoPow 16 n := BitVec.eq_of_toNat_eq (by simp [-BitVec.ofNat_pow])
  simp only [setBit, h, if_true]

theorem bitOf_setBit_true_same {n : Nat} (w : Word) (h : n < 16) : bitOf (setBit w n true) n = true := by
  simp [bitOf_eq_getLsbD, setBit_true, h]

/-- Setting a bit clears none. -/
theorem bitOf_setBit_true_of_bitOf {w : Word} {k : Nat} (n : Nat) (h : bitOf w k = true) :
    bitOf (setBit w n true) k = true := by
  rw [bitOf_eq_getLsbD] at h
  simp [bitOf_eq_getLsbD, setBit_true, h]

/-! ### The oldest entry that is not urgent -/

theorem dropOldest_of_all_urgent {q : List Event} (h : ∀ x ∈ q, urgent x.code.toNat = true) : dropOldest q = none := by
  induction q with
  | nil => rfl
  | cons x q ih =>
    obtain ⟨hx, hq⟩ := List.forall_mem_cons.mp h
    simp [dropOldest, hx, ih hq]

/-- Of a queue with an entry that is not urgent, the first such entry leaves. -/
theorem dropOldest_append_cons {a b : List Event} {x : Event} (ha : ∀ y ∈ a, urgent y.code.toNat = true)
    (hx : urgent x.code.toNat = false) : dropOldest (a ++ x :: b) = some (a ++ b) := by
  induction a with
  | nil => simp [dropOldest, hx]
  | cons y a ih =>
    obtain ⟨hy, ha⟩ := List.forall_mem_cons.mp ha
    simp [dropOldest, hy, ih ha]

/-! ### Entering -/

/-- How many entries at the front no event may displace: the one that a path holds (R204, R205). -/
def EventState.heldLen (e : EventState) : Nat := if e.holder.isSome then 1 else 0

/-- What an event does to the entries of a full queue (R204). -/
def EventState.displaced (e : EventState) (x : Event) : List Event :=
  if urgent x.code.toNat then
    match dropOldest (e.queue.drop e.heldLen) with
    | some q => e.queue.take e.heldLen ++ (q ++ [x])
    | none => e.queue
  else e.queue

theorem enter_of_room {e : EventState} (x : Event) (h : e.queue.length < 256) :
    e.enter x = { e with queue := e.queue ++ [x] } := by
  simp [EventState.enter, h]

/-- A full queue counts the drop whatever becomes of the entries (log 64). -/
theorem enter_of_full {e : EventState} (x : Event) (h : 256 ≤ e.queue.length) :
    e.enter x = { e with queue := e.displaced x, ovf := true, intaStat := setBit e.intaStat 14 true } := by
  obtain ⟨q, holder, rptr, holdT, ovf, intaStat, intaEn, intbStat, intbEn⟩ := e
  cases q with
  | nil => simp at h
  | cons y q =>
    cases hu : urgent x.code.toNat with
    | false => simp_all [EventState.enter, EventState.displaced]
    | true =>
      cases holder with
      | none => cases hd : dropOldest (y :: q) <;> simp_all [EventState.enter, EventState.displaced, EventState.heldLen]
      | some p => cases hd : dropOldest q <;> simp_all [EventState.enter, EventState.displaced, EventState.heldLen]

theorem displaced_of_not_urgent {e : EventState} {x : Event} (h : urgent x.code.toNat = false) :
    e.displaced x = e.queue := by
  simp [EventState.displaced, h]

theorem displaced_of_all_urgent {e : EventState} (x : Event) (h : ∀ y ∈ e.queue, urgent y.code.toNat = true) :
    e.displaced x = e.queue := by
  have hd : dropOldest (e.queue.drop e.heldLen) = none :=
    dropOldest_of_all_urgent (fun y hy => h y (List.mem_of_mem_drop hy))
  simp [EventState.displaced, hd]

/-- With no path at the queue, the oldest entry that is not urgent gives way. -/
theorem displaced_of_no_holder {e : EventState} {x y : Event} {a b : List Event} (hx : urgent x.code.toNat = true)
    (hh : e.holder = none) (hq : e.queue = a ++ y :: b) (ha : ∀ z ∈ a, urgent z.code.toNat = true)
    (hy : urgent y.code.toNat = false) : e.displaced x = a ++ b ++ [x] := by
  simp [EventState.displaced, EventState.heldLen, hx, hh, hq, dropOldest_append_cons ha hy]

/-- Behind a held entry, the oldest entry that is not urgent gives way. -/
theorem displaced_of_holder {e : EventState} {x y h : Event} {a b : List Event} {p : Path}
    (hx : urgent x.code.toNat = true) (hh : e.holder = some p) (hq : e.queue = h :: (a ++ y :: b))
    (ha : ∀ z ∈ a, urgent z.code.toNat = true) (hy : urgent y.code.toNat = false) :
    e.displaced x = h :: (a ++ b ++ [x]) := by
  simp [EventState.displaced, EventState.heldLen, hx, hh, hq, dropOldest_append_cons ha hy]

/-- A held entry is not displaced (R204). -/
theorem displaced_keeps_held {e : EventState} {h : Event} {r : List Event} {p : Path} (x : Event)
    (hh : e.holder = some p) (hq : e.queue = h :: r) : ∃ r', e.displaced x = h :: r' := by
  unfold EventState.displaced
  split
  · split
    · next q _ => exact ⟨q ++ [x], by simp [EventState.heldLen, hh, hq]⟩
    · exact ⟨r, hq⟩
  · exact ⟨r, hq⟩

/-- A held entry stays at the front, whether the queue is full or not. -/
theorem enter_keeps_held {e : EventState} {h : Event} {r : List Event} {p : Path} (x : Event)
    (hh : e.holder = some p) (hq : e.queue = h :: r) : ∃ r', (e.enter x).queue = h :: r' := by
  rcases Nat.lt_or_ge e.queue.length 256 with hl | hl
  · exact ⟨r ++ [x], by simp [enter_of_room x hl, hq]⟩
  · rw [enter_of_full x hl]
    exact displaced_keeps_held x hh hq

/-! ### Raising -/

@[simp] theorem raise_ovf (e : EventState) (code : Nat) : (e.raise code).ovf = e.ovf := by
  unfold EventState.raise
  split <;> rfl

/-- An event's own source bit clears no bit of INTA_STAT. -/
theorem bitOf_raise_intaStat {e : EventState} {k : Nat} (code : Nat) (h : bitOf e.intaStat k = true) :
    bitOf (e.raise code).intaStat k = true := by
  unfold EventState.raise
  split
  · exact h
  · exact bitOf_setBit_true_of_bitOf _ h

/-! ### Posting -/

/-- The entry that a posting brings (R203). -/
def postedEvent (s : State) (code argx : Nat) (arg : Word) : Event :=
  { code := byte code, argx := byte argx, arg, lt := BitVec.ofNat 32 s.time.line }

theorem postedEvent_code_toNat {code : Nat} (s : State) (argx : Nat) (arg : Word) (h : code < 256) :
    (postedEvent s code argx arg).code.toNat = code := by
  simp [postedEvent, Nat.mod_eq_of_lt h]

theorem post_evq {s : State} (code argx : Nat) (arg : Word) (h : s.mode.logicReset = false) :
    (post s code argx arg).evq = (s.evq.enter (postedEvent s code argx arg)).raise code := by
  simp [post, postQ, h, postedEvent]

theorem post_queue_of_full {s : State} (code argx : Nat) (arg : Word) (hr : s.mode.logicReset = false)
    (hl : 256 ≤ s.evq.queue.length) :
    (post s code argx arg).evq.queue = s.evq.displaced (postedEvent s code argx arg) := by
  simp [post_evq code argx arg hr, enter_of_full _ hl]

theorem post_overflows_of_full {s : State} (code argx : Nat) (arg : Word) (hr : s.mode.logicReset = false)
    (hl : 256 ≤ s.evq.queue.length) :
    (post s code argx arg).evq.ovf = true ∧ bitOf (post s code argx arg).evq.intaStat 14 = true := by
  rw [post_evq code argx arg hr, enter_of_full _ hl]
  exact ⟨raise_ovf _ _, bitOf_raise_intaStat code (bitOf_setBit_true_same _ (by decide))⟩

/-- Settles O54: a full queue's entries are those that displaced leaves, and its OVF bits are set in every case. -/
theorem fullQueueDropsOrDisplaces : Obligations.FullQueueDropsOrDisplaces := by
  refine ⟨fun s code argx arg hr hl => ?_, fun s code argx arg hr hl hc => ?_,
    fun s code argx arg p h r hr hc hq hh => ⟨?_, fun a b x hl hu hab ha hx => ?_⟩⟩
  · rw [post_evq code argx arg hr, enter_of_room _ hl]
    exact ⟨raise_queue _ _, raise_ovf _ _⟩
  · obtain ⟨hovf, hbit⟩ := post_overflows_of_full code argx arg hr hl.ge
    rw [post_queue_of_full code argx arg hr hl.ge]
    have hcode := postedEvent_code_toNat s argx arg hc
    refine ⟨hovf, hbit, fun hu => ?_, fun _ hall => ?_, fun a b x hu hh hq ha hx => ?_⟩
    · exact displaced_of_not_urgent (hcode.symm ▸ hu)
    · exact displaced_of_all_urgent _ hall
    · exact displaced_of_no_holder (hcode.symm ▸ hu) hh hq ha hx
  · rw [post_evq code argx arg hr, raise_queue]
    exact enter_keeps_held _ hh hq
  · rw [post_queue_of_full code argx arg hr (hq ▸ hl.ge)]
    exact displaced_of_holder ((postedEvent_code_toNat s argx arg hc).symm ▸ hu) hh (hab ▸ hq) ha hx

end Sys2Proof.Machine
end

section
/-! SUPPORT. ResultFifo: what a record does to the measurement subsystem's result FIFO and to the events (R328, R329). -/

namespace Sys2Proof.Machine

open Sys2Proof

/-- The result FIFO with words behind its own; no event yet. -/
def fifoAppended (s : State) (l : List Word) : State := { s with adc := { s.adc with fifo := s.adc.fifo ++ l } }

/-- From s to t, LEVEL rises from below the FIFO_THR of s to it or above (R329). -/
def FifoRises (s t : State) : Prop :=
  s.adc.fifo.length < cfgF s 7 3 0 9 ∧ cfgF s 7 3 0 9 ≤ t.adc.fifo.length

theorem fifoAdd_of_rises {s : State} {l : List Word} (h : FifoRises s (fifoAppended s l)) :
    fifoAdd s l = post (fifoAppended s l) 0xC2 0 (adcFlevelWord (fifoAppended s l)) :=
  if_pos (by simpa [FifoRises, fifoAppended] using h)

theorem fifoAdd_of_not_rises {s : State} {l : List Word} (h : ¬ FifoRises s (fifoAppended s l)) :
    fifoAdd s l = fifoAppended s l :=
  if_neg (by simpa [FifoRises, fifoAppended] using h)

/-- Whether or not it is reported, what enters the FIFO is the same. -/
@[simp] theorem fifoAdd_adc (s : State) (l : List Word) : (fifoAdd s l).adc = (fifoAppended s l).adc := by
  by_cases h : FifoRises s (fifoAppended s l)
  · rw [fifoAdd_of_rises h, post_adc]
  · rw [fifoAdd_of_not_rises h]

/-- A record either leaves FIFO and events alone (it cannot cross, or is dropped), or enters a FIFO that differs in no
word: only the mark of a drop has been taken back (R328). -/
theorem fifoPut_cases (s : State) (header value : Word) :
    ((fifoPut s header value).evq = s.evq ∧ (fifoPut s header value).adc.fifo = s.adc.fifo) ∨
      ∃ (r : State) (l : List Word), r.evq = s.evq ∧ r.cfg = s.cfg ∧ r.adc.fifo = s.adc.fifo ∧
        fifoPut s header value = fifoAdd r l := by
  unfold fifoPut
  split
  · exact .inl ⟨rfl, rfl⟩
  · extract_lets need
    split
    · exact .inl ⟨rfl, rfl⟩
    · exact .inr ⟨{ s with adc := { s.adc with fifoDropped := false } }, _, rfl, rfl, rfl, rfl⟩

/-- Settles O55: only fifoAdd makes the FIFO longer, and it posts exactly at a rise. -/
theorem fifoLevelIsPostedOnce : Obligations.FifoLevelIsPostedOnce := by
  intro s header value
  rcases fifoPut_cases s header value with ⟨hevq, hfifo⟩ | ⟨r, l, hevq, hcfg, hfifo, hput⟩
  · rw [hevq, hfifo]
    exact ⟨fun hlt hle => absurd hlt hle.not_gt, fun _ => rfl⟩
  · have hrises : FifoRises r (fifoAppended r l) ↔
        s.adc.fifo.length < cfgF s 7 3 0 9 ∧ cfgF s 7 3 0 9 ≤ (fifoAdd r l).adc.fifo.length := by
      simp [FifoRises, cfgF, hcfg, hfifo]
    rw [hput, ← hrises]
    refine ⟨fun hlt hle => ?_, fun hno => ?_⟩
    · exact ⟨fifoAppended r l, hevq, (fifoAdd_adc r l).symm, fifoAdd_of_rises (hrises.mpr ⟨hlt, hle⟩)⟩
    · rw [fifoAdd_of_not_rises hno]
      exact hevq

end Sys2Proof.Machine
end

section
/-! SUPPORT. NonceBases: the remembered pairs of nonce base and identity that a confirmation leaves (R466). -/

namespace Sys2Proof.Machine

open Sys2Proof

/-! ### The list of remembered pairs -/

/-- The only pair with the bundle's identity is the one that becomes the newest. -/
theorem nbaseRecord_of_remembered {l : List (List Byte × List Byte)} {p : List Byte × List Byte} {ident : List Byte}
    (base : List Byte) (hp : p ∈ l) (hi : p.2 = ident) (hu : ∀ q ∈ l, q.2 = ident → q = p) :
    nbaseRecord l base ident = l.filter (fun q => q.2 != ident) ++ [p] := by
  have hfind : l.find? (fun q => q.2 == ident) = some p := by
    have hsome : (l.find? (fun q => q.2 == ident)).isSome := List.find?_isSome.mpr ⟨p, hp, by simpa using hi⟩
    obtain ⟨q, hq⟩ := Option.isSome_iff_exists.mp hsome
    have hqi : q.2 = ident := by simpa using List.find?_some hq
    rw [hq, hu q (List.mem_of_find?_eq_some hq) hqi]
  simp [nbaseRecord, hfind]

/-- A new pair goes behind the others, of which the newest 15 stay. -/
theorem nbaseRecord_of_new {l : List (List Byte × List Byte)} {ident : List Byte} (base : List Byte)
    (hn : ∀ p ∈ l, p.2 ≠ ident) :
    nbaseRecord l base ident = (l ++ [(base, ident)]).drop (l.length + 1 - 16) := by
  have hfind : l.find? (fun q => q.2 == ident) = none := List.find?_eq_none.mpr (by simpa using hn)
  simp [nbaseRecord, hfind]

theorem nbaseRecord_of_room {l : List (List Byte × List Byte)} {ident : List Byte} (base : List Byte)
    (hn : ∀ p ∈ l, p.2 ≠ ident) (hl : l.length < 16) : nbaseRecord l base ident = l ++ [(base, ident)] := by
  rw [nbaseRecord_of_new base hn, Nat.sub_eq_zero_of_le hl, List.drop_zero]

theorem nbaseRecord_of_full {l : List (List Byte × List Byte)} {ident : List Byte} (base : List Byte)
    (hn : ∀ p ∈ l, p.2 ≠ ident) (hl : l.length = 16) : nbaseRecord l base ident = l.tail ++ [(base, ident)] := by
  have hne : l ≠ [] := List.ne_nil_of_length_eq_add_one hl
  rw [nbaseRecord_of_new base hn, hl, List.drop_one, List.tail_append_of_ne_nil hne]

/-! ### The confirmation -/

@[simp] theorem setPhase_sec (s : State) (p : UpdPhase) : (setPhase s p).sec = s.sec :=
  (setPhase_kept (kp := (· == .sec)) s p (Kept.refl _ s) rfl rfl rfl).same .sec rfl

/-- The end of a session takes its operations from the crypto engine, and leaves NBASE. -/
@[simp] theorem sessionIdle_nbase (s : State) : (sessionIdle s).sec.nbase = s.sec.nbase := by
  simp [sessionIdle, sessionClear, cryptoDrop]

@[simp] theorem eachNo_post_sec (l : List Nat) (code : Nat) (arg : State → Word) (s : State) :
    (eachNo l (fun s n => post s code n (arg s)) s).sec = s.sec :=
  (eachNo_kept (kp := (· == .sec)) l _ s (fun s h n => post_kept s code n (arg s) h rfl rfl)
    (Kept.refl _ s)).same .sec rfl

/-- With every criterion met, the confirmation leaves NBASE as nbaseRecord makes it (R441, R466). -/
theorem confirmWrite_records_nbase {s : State} (hc : s.upd.phase = .confirm) (hf : s.upd.falling = none)
    (hr : coreRuns s = true) (hp : s.mode.pwrfail = false) (ho : confirmOk s = true) :
    Completes .confirmWrite s (fun t =>
      t.sec.nbase = nbaseRecord s.sec.nbase (bdNonce (stagedMeta s)) (bdIdent (stagedMeta s))) := by
  exact ⟨_, if_neg (by simp [hc, hf, hr, hp, ho]), by simp⟩

/-- Settles O56: the confirmation leaves what nbaseRecord makes: its find decides whether the pair was remembered,
and its drop lets the oldest of 16 leave. -/
theorem confirmationRemembersTheBundle : Obligations.ConfirmationRemembersTheBundle := by
  intro s hc hf hr hp ho
  obtain ⟨t, ht, hrec⟩ := confirmWrite_records_nbase hc hf hr hp ho
  refine ⟨fun p hmem hi hu => ?_, fun hn => ⟨fun hl => ?_, fun hl => ?_⟩⟩
  · exact ⟨t, ht, hrec.trans (nbaseRecord_of_remembered _ hmem hi hu)⟩
  · exact ⟨t, ht, hrec.trans (nbaseRecord_of_room _ hn hl)⟩
  · exact ⟨t, ht, hrec.trans (nbaseRecord_of_full _ hn hl)⟩

end Sys2Proof.Machine
end

section
/-! SUPPORT. TraceFreeze: what a record and an unfreeze do to the trace ring and its counts (R499, R501, R503). -/

namespace Sys2Proof.Machine

open Sys2Proof

/-! ### A record -/

theorem sat16_of_lt {a : Nat} (h : a < 65535) : sat16 a = a + 1 := Nat.min_eq_right h

theorem putTrace_of_freeze {s : State} (source code : Byte) (arg : Nat) (h : s.trace.freeze = true) :
    putTrace s source code arg = { s with trace := { s.trace with frozenDrops := sat16 s.trace.frozenDrops } } :=
  if_pos h

/-- While the ring has room, a record goes behind the others and displaces none (R499). -/
theorem putTrace_of_room {s : State} (source code : Byte) (arg : Nat) (hf : s.trace.freeze = false)
    (hl : s.trace.ring.length < 2048) :
    putTrace s source code arg =
      { s with trace := { s.trace with
        ring := s.trace.ring ++ [{ lt := s.time.line, source, code, arg := BitVec.ofNat 48 arg }]
        tseq := wrap32 s.trace.tseq 1 } } := by
  simp [putTrace, hf, Nat.not_lt.mpr hl]

theorem detail_of_not_coreRuns {s : State} (code arg : Nat) (h : coreRuns s = false) :
    detail s code arg = { s with trace := { s.trace with dropped := sat16 s.trace.dropped } } :=
  if_neg (by simp [h])

/-! ### The unfreeze -/

theorem setFreeze_false_of_freeze {s : State} (h : s.trace.freeze = true) :
    setFreeze s false =
      putTrace { s with trace := { s.trace with freeze := false, frozenDrops := 0 } } 0x0D 0x05 s.trace.frozenDrops := by
  simp [setFreeze, h]

theorem setTracePtr_tracePtr (s : State) (p : Path) : s.setTracePtr p (tracePtr s p) = s := by
  cases p <;> rfl

/-- A write of 0 to TRACE_CTRL is served in every mode and clears FREEZE alone: the other bits act only where they are 1
(Table REG-18). -/
theorem regTraceCtrl_zero (s : State) (p : Path) :
    regTraceCtrl (hostAccess s p) (accNow s p) 0#16 = (setFreeze (acting s p) false, 0) := by
  have hbits (n : Nat) : bitOf 0#16 n = false := by simp [bitOf]
  simp [regTraceCtrl, regWrite, accNow, acting, hbits, setTracePtr_tracePtr]

theorem exec_traceUnfreeze_of_pathOpen {s : State} {p : Path} (h : pathOpen s p = true) :
    exec (.traceUnfreeze p) s = .next (setFreeze (acting s p) false) := by
  simp [exec, execTraceUnfreeze, served, h, regTraceCtrl_zero]

/-- With room in the ring, the unfreeze enters TRACE_GAP with the count of the records it missed (R503). -/
theorem traceUnfreeze_enters_gap {s : State} {p : Path} (hp : pathOpen s p = true) (hf : s.trace.freeze = true)
    (hl : s.trace.ring.length < 2048) :
    Completes (.traceUnfreeze p) s (fun t => t.trace.freeze = false ∧ t.trace.frozenDrops = 0 ∧
      t.trace.ring = s.trace.ring ++
        [{ lt := s.time.line, source := 0x0D, code := 0x05, arg := BitVec.ofNat 48 s.trace.frozenDrops }]) := by
  refine ⟨_, exec_traceUnfreeze_of_pathOpen hp, ?_⟩
  rw [setFreeze_false_of_freeze (by simpa using hf), putTrace_of_room _ _ _ rfl (by simpa using hl)]
  simp

/-- Settles O57: a frozen record only counts, and the unfreeze clears FREEZE before TRACE_GAP enters the ring. -/
theorem freezeStopsTheTrace : Obligations.FreezeStopsTheTrace := by
  refine ⟨fun s source code arg hf => ?_, fun s code arg _ hr hd => ?_,
    fun p s hp hf hl => traceUnfreeze_enters_gap hp hf hl⟩
  · rw [putTrace_of_freeze source code arg hf]
    exact ⟨rfl, sat16_of_lt⟩
  · rw [detail_of_not_coreRuns code arg hr]
    exact sat16_of_lt hd

end Sys2Proof.Machine
end

section
/-! SUPPORT. Steps: what a step does, what every command keeps and that every command answers a next state -/

namespace Sys2Proof.Machine

open Sys2Proof

/-! ### A step -/

theorem step_nil {s : State} (h : s.pending = []) : step s = .next (tick s) := by
  simp [step, h]

theorem step_cons {s : State} {c : Instr} {r : List Instr} (h : s.pending = c :: r) :
    step s = exec c { s with pending := r } := by
  simp [step, h]

/-- Settles O1: the model's step is a match on the queue. -/
theorem stepRunsFrontCommand : Obligations.StepRunsFrontCommand :=
  fun _ _ _ h => step_cons h

/-- Settles O8: the table of operations gives no row any bits. -/
theorem noWordSpellsACommand : Obligations.NoWordSpellsACommand := by
  intro nbits w s
  have h : decodeTableWord nbits w = none := rfl
  exact ⟨h, by simp [State.withFetchWord, h]⟩

/-- Settles O3: the reset state lists no byte, event, record or word. -/
theorem resetIsWellFormed : Obligations.ResetIsWellFormed :=
  ⟨⟨rfl, by decide, by decide, by decide⟩, rfl, rfl, rfl, rfl, rfl⟩

/-- Settles O4: a command keeps well-formedness (exec_kept with no part named), and so does the idle tick. -/
theorem stepKeepsWellFormed : Obligations.StepKeepsWellFormed := by
  intro s t hs ht
  cases hp : s.pending with
  | nil =>
    rw [step_nil hp] at ht
    cases ht
    exact (tick_kept (kp := fun _ => false) s (Kept.refl _ s) rfl rfl rfl rfl).wf hs
  | cons c r =>
    have hk : KeptR (fun _ => false) { s with pending := r } (exec c { s with pending := r }) :=
      exec_kept c _ (fun _ _ => rfl)
    rw [← step_cons hp, ht] at hk
    exact hk.wf ⟨hs.mem, hs.queue, hs.ring, hs.fifo⟩

/-- Settles O5: the footprint's complement is a choice of parts that exec_kept covers. -/
theorem commandsKeepToTheirParts : Obligations.CommandsKeepToTheirParts := by
  intro c s t ht
  have hk : KeptR (fun p => decide (p ∉ touches c)) s (exec c s) := exec_kept c s (fun p hp => by simpa using hp)
  rw [ht] at hk
  exact ⟨hk.pending, fun p hp => hk.same p (by simpa using hp)⟩

/-! ### Every command answers a next state -/

/-- The outcome is a next state. -/
def Answers (r : Result) : Prop := ∃ t : State, r = .next t

@[simp] theorem answers_next (t : State) : Answers (.next t) := ⟨t, rfl⟩

@[simp] theorem Answers.ite {c : Prop} [Decidable c] {a b : Result} (ha : Answers a) (hb : Answers b) :
    Answers (if c then a else b) := by
  split
  · exact ha
  · exact hb

@[simp] theorem answers_withTxn (s : State) (b a : Bool) (tag op : Nat) (f : State → Txn → State) :
    Answers (withTxn s b a tag op f) := by
  unfold withTxn
  repeat' split
  all_goals exact answers_next _

@[simp] theorem answers_withFlashTxn (s : State) (b a : Bool) (tag op action : Nat) (f : State → Txn → State) :
    Answers (withFlashTxn s b a tag op action f) := answers_withTxn ..

@[simp] theorem answers_postFrom (s : State) (via : Path) (d : Descriptor) (code : Nat)
    (run : Descriptor → State → State) : Answers (postFrom s via d code run) := by
  unfold postFrom
  repeat' split
  all_goals exact answers_next _

@[simp] theorem answers_adcCmd (via : Path) (code e : Nat) (s : State) : Answers (adcCmd via code e s) := answers_next _

@[simp] theorem answers_modeRow (s : State) (via : Via) (c : Nat) : Answers (modeRow s via c) := by
  cases via <;> simp [modeRow]

@[simp] theorem answers_updRow (s : State) (via : Via) (c : Nat) : Answers (updRow s via c) := by
  cases via <;> simp [updRow]

@[simp] theorem answers_rowFrame (ok : Bool) (p : Port) (f : LineFrame) (readings : List Word) (s : State) :
    Answers (rowFrame ok p f readings s) := by
  simp [rowFrame]

@[simp] theorem answers_slaveRow (s : State) (op : Nat) (b : List Byte) : Answers (slaveRow s op b) := by
  simp [slaveRow]


theorem exec_answers (c : Instr) (s : State) : Answers (exec c s) := by
  cases c <;> simp only [exec,  
  execFlashEraseEnd, execFlashEraseAbort, execEraseCutoff, execEraseResume, execNop, execTxnExpiry,
  execExpiredDiscard, execDoneEntryLapse, execBcastDrop, execCspTransferEnd, execReadyTimeout, execDqsTimeout,
  execPrefetchStart, execErasePoll, execEraseTrackLimit, execXipTimeout, execCspXfer, execSignalDetect,
  execTrainComplete, execAlignUp, execAlignTimeout, execLossOfSync, execLossOfSignal, execCrossedPairs,
  execRoleConflict, execLoopEngage, execLoopRelease, execBypassDelayExpiry, execBypassPwrfailDrop, execBypassNotice,
  execOwnFrameSend, execRetrain, execLoopRel, execLoopForce, execBypassInsert, execBypassDrop, execLinkCntClr,
  execLinkCntFreeze, execConversionEnd, execRoundStart, execInjTimeTrigger, execLongBurstStart, execAoReadbackSample,
  execCalStepDone, execCalTimeout, execFlashProgramDone, execRegStart, execRegStop, execInjTrig, execCalZero,
  execCalFull, execCalAbort, execFifoClr, execDacTest, execDacTestDone, execAdcFifoRead, execAdcCapt,
  execCaptureDone, execCaptRead, execHealthInterval, execPllHeadroomSample, execHoldWarnExpiry, execHoldReplExpiry,
  execSummaryPage, execPersistDone, execTraceDataRead, execTraceFreeze, execTraceUnfreeze, execTraceRdOldest,
  execTraceRdNewest, execPersist, execTraceRead, execInjArm, execInjDisarm, execInjTimeout, execInjReorderDrop,
  execInjEnable, execInjEnableExpiry, execInputEdge, execPwmPeriodStart, execSlIssue, execChoutWrite, execForceSet,
  execForceRemove, execForceClearAll, execModeOffEnd, execChannelFaultDetect, execChannelFaultClear, execFaultRetry,
  execJunctionCooled, execRetryCountReset, execReverseFeedEnd, execChfltAck, execSafecmdEnter, execAckAll,
  execSafeReqAssert, execSafeReqRelease, execLpOff, execLpOvervoltage, execLpReversed, execLpBack, execLsFault,
  execLsOk, execDieOvertemp, execDieCool, execFieldReset, execFieldDieFault, execBarrierLoss, execBarrierReturn,
  execLsBrownout, execKeyPress, execKeyRelease, execKeyRepeat, execEncTransition, execMenuIdle, execJogTimeout,
  execMenuRefresh, execPanelFrame, execPanelHostChange, execPanelClr, execPanelEvtRead, execWdhAnswer,
  execWdhWindowOpen, execWdhPeriodEnd, execWdcAnswer, execWdcPeriodEnd, execFatalException, execFreezeLimit,
  execValidateDone, execCopyDone, execCommitDone, execAutoCommitStart, execClaim, execRelease, execValidate,
  execCopy, execSwapNow, execSwapCycle, execSwapGun, execCancel, execCommit, execCfgCtrlMulti, execClaimLapse,
  execCfgDataRead, execCfgDataWrite, execSlLoad, execSlCancel, execSlRead, execPfSelWrite, execReplClr, execTblRead,
  execTblWrite, execCfgOwnQuery, execSwapInstant, execPorstAssert, execPorstRelease, execLogicReset, execCoreReset,
  execBootTimerExpiry, execBootStable, execSupplyMonitorTrip, execWdcCoreReset, execSampleInstant, execSnapshotReady,
  execApplyInstant, execSlGate, execSyncMissInterval, execPllLocked, execPhaseError, execRefRange, execLtimeLatch,
  execPreset, execDistributeWaitEnd, execRelaySend, execSyncSend, execOutPubSample, execHeatLaunch, execPingOutcome,
  execInReadyDeadline, execBatonSend, execTxnRetry, execTxnLost, execLineStart, execLineStartSettle, execLineStop,
  execEnum, execLineTxn, execGunSchedule, execGunCutoff, execGunClosingSweep, execRelayPull, execTakeoverStart,
  execTakeoverEnd, execTakeoverAutoEnd, execLoopbackNoticeSet, execMediaInsert, execMediaIdentify, execMediaRemove,
  execMediaSectorRead, execMediaAbsenceTimeout, execGoSetup, execGoRun, execGoSafe, execResume, execGoMinimal,
  execReboot, execRest, execWake, execRestEntry, execHoldSenseSample, execPwrfailAssert, execPwrfailRelease,
  execPreparePartDone, execActPauseEnd, execStart, execAbort, execPrepare, execActivate, execVeto, execRelayJoin,
  execActivateStart, execChordComplete, execStagingSectorDone, execConfirmWrite, execConfirmDeadline,
  execRelayCtrlMap, execRelayCtrlStatus, execFlashRead, execFrameForward, execRsvdTypeFrame, execSyncFrame,
  execHeatReceive, execHeatReturn, execBatonReceive, execBatonReturn, execCountReceive, execCountReturn,
  execLoopbackNoticeFrame, execRelayReceive, execRegisterWrite, execEvqDataRead, execEvqHoldLapse, execCplqDataRead,
  execChinRead, execKeyseqWrite, execKeyLapse, execCmdqAsmClr, execXipEnable, execXipFlush, execCmAbort,
  execSpEnable, execBusDecodeError, execApertureWrite, execApertureRead, execXipRead, execHostStrobeEarly, execPing,
  execRegRead, execRegWrite, execCryptoOpDone, execFloorWriteDone, execOwnerLockSet, execOwnerLockClear, execPosBind,
  execPosUnbind, execRekey, execSlaveRead, execSlaveWrite, execSlaveNop, execSlaveFrameIgnored, execSlaveFrameAbort,
  execExtest, execSamplePreload, execHighz, execClamp, execBypass, execTapReset, execOtpOwner, execOtpProgramDone]
  all_goals repeat' first
    | with_reducible first
      | exact answers_next _ | refine Answers.ite ?_ ?_ | exact answers_withTxn .. | exact answers_withFlashTxn ..
      | exact answers_postFrom .. | exact answers_adcCmd .. | exact answers_modeRow .. | exact answers_updRow ..
      | exact answers_rowFrame .. | exact answers_slaveRow ..
    | split

/-- Settles O6: every branch of every meaning answers a next state. -/
theorem noCommandStops : Obligations.NoCommandStops := exec_answers

/-! ### The queue -/

/-- A command leaves the queue of commands as it is (O5). -/
theorem exec_pending {c : Instr} {s t : State} (h : exec c s = .next t) : t.pending = s.pending := by
  have hk : KeptR (fun _ => false) s (exec c s) := exec_kept c s (fun _ _ => rfl)
  rw [h] at hk
  exact hk.pending

/-- As many steps as commands wait run the commands in turn and empty the queue. -/
theorem runSteps_eq_execAll (l : List Instr) (s : State) (h : s.pending = l) :
    ∃ t : State, runSteps l.length s = .next t ∧ t.pending = [] ∧ execAll l s = .next t := by
  induction l generalizing s with
  | nil => exact ⟨s, rfl, h, rfl⟩
  | cons c r ih =>
    obtain ⟨u, hu⟩ := exec_answers c { s with pending := r }
    obtain ⟨t, hrun, ht, hall⟩ := ih u (exec_pending hu)
    refine ⟨t, ?_, ht, ?_⟩
    · simp only [List.length_cons, runSteps, step_cons h, hu, hrun]
    · simp only [execAll, hu, hall]

/-- The first command sets the queue it runs with, so what waited before does not matter. -/
theorem execAll_pending (c : Instr) (r q : List Instr) (s : State) :
    execAll (c :: r) { s with pending := q } = execAll (c :: r) s := rfl

/-- Settles O7: by induction on the queue; each command leaves the rest of it waiting. -/
theorem queueDrainsInOrder : Obligations.QueueDrainsInOrder := by
  intro s
  obtain ⟨t, hrun, ht, hall⟩ := runSteps_eq_execAll s.pending s rfl
  refine ⟨t, hrun, ht, ?_⟩
  cases hp : s.pending with
  | nil => rw [hp] at hall; rw [← hall, ← hp]
  | cons c r => rw [execAll_pending, ← hp, hall]

/-! ### The idle tick -/

/-- The state with the tick's line time, before TSTATE is judged. -/
theorem tick_of_not_porst {s : State} (h : s.mode.porst = false) :
    tick s = timeJudge { s with time := tickTime s.time } := by
  simp [tick, h]

theorem timeJudge_of_not_coarse {s : State} (h : s.time.tstate ≠ .coarse) : timeJudge s = s := by
  simp [timeJudge, h]

/-- Without a slew a tick is 4 ns. -/
theorem tickTime_of_no_slew {t : TimeState} (hs : t.slew = 0) (hl : t.line % 4 = 0) (hf : t.frac < 256) :
    tickTime t = { t with line := (t.line + 4) % 2 ^ 64, slewN := t.slewN + 4 } := by
  have h1 (n : Nat) : slewDone { t with slewN := n } = 0 := by simp [slewDone, hs]
  have h3 : (((t.line * 64 + t.frac : Nat) : Int) + 256 + (0 - 0)).toNat = t.line * 64 + t.frac + 256 := by omega
  have h4 : (t.line * 64 + t.frac + 256) / 256 * 4 = t.line + 4 := by omega
  have h5 : (t.line * 64 + t.frac + 256) % 256 = t.frac := by omega
  simp only [tickTime, h1, setUnits, lineUnits, h3, h4, h5, wrap64]

/-- In 4 ns a slew corrects at most 1/64 ns. -/
theorem slewDone_tick (t : TimeState) : (slewDone { t with slewN := t.slewN + 4 } - slewDone t).natAbs ≤ 1 := by
  simp only [slewDone]
  have h : (t.slewN + 4) * 64 / 1000 ≤ t.slewN * 64 / 1000 + 1 := by omega
  have h' : t.slewN * 64 / 1000 ≤ (t.slewN + 4) * 64 / 1000 := by omega
  have hm : ∀ a b c : Nat, b ≤ c → c ≤ b + 1 → Nat.min a b ≤ Nat.min a c ∧ Nat.min a c ≤ Nat.min a b + 1 := by
    intro a b c h1 h2
    simp only [Nat.min_def]
    split <;> split <;> omega
  have := hm t.slew.natAbs _ _ h' h
  split <;> omega

theorem slewDone_setUnits (t : TimeState) (u : Nat) : slewDone (setUnits t u) = slewDone t := rfl

/-- Line time in 1/64 ns goes on by 256 and the slew's share. -/
theorem lineUnits_tickTime {t : TimeState} (hf : t.frac < 256) (hl : t.line + 8 < 2 ^ 64) :
    (lineUnits (tickTime t) : Int) = lineUnits t + 256 + (slewDone (tickTime t) - slewDone t) := by
  have h1 := slewDone_tick t
  have h2 : slewDone (tickTime t) = slewDone { t with slewN := t.slewN + 4 } := rfl
  rw [h2]
  simp only [tickTime, setUnits, lineUnits, wrap64]
  generalize slewDone { t with slewN := t.slewN + 4 } - slewDone t = d at h1 ⊢
  omega

@[simp] theorem withTimeOk_time (s : State) (f : State → State) : (withTimeOk s f).time = (f s).time := by
  simp only [withTimeOk]
  split <;> simp

@[simp] theorem seeFine_time (s : State) : (seeFine s).time = s.time := by
  unfold seeFine
  split <;> rfl

/-- The judgement of a slew's rest changes TSTATE at most (R48). -/
theorem timeJudge_time (s : State) : ∃ x : TState, (timeJudge s).time = { s.time with tstate := x } := by
  unfold timeJudge
  split
  · exact ⟨.fine, by simp⟩
  · exact ⟨s.time.tstate, rfl⟩

theorem tick_time_of_not_porst {s : State} (h : s.mode.porst = false) :
    ∃ x : TState, (tick s).time = { tickTime s.time with tstate := x } := by
  rw [tick_of_not_porst h]
  exact timeJudge_time _

/-- Settles O2: the tick moves line time as tickTime does; the judgement that follows changes TSTATE alone. -/
theorem emptyQueueTicks : Obligations.EmptyQueueTicks := by
  intro s hs
  rw [step_nil hs]
  refine ⟨fun hp => ?_, fun hp hslew hc hl hf => ?_, fun hp hf hl => ?_⟩
  · simp [tick, hp]
  · rw [tick_of_not_porst hp, timeJudge_of_not_coarse (by exact hc), tickTime_of_no_slew hslew hl hf]
  · obtain ⟨x, hx⟩ := tick_time_of_not_porst hp
    refine ⟨tick s, rfl, by simp [hs], ?_⟩
    rw [hx]
    exact ⟨lineUnits_tickTime hf hl, slewDone_tick s.time, rfl, by simp, by simp, by simp, by simp, by simp, by simp⟩

end Sys2Proof.Machine
end

section
/-! SUPPORT. Nonces: replay windows (R461) and the question generator of the watchdogs (R390) -/

namespace Sys2Proof.Machine

open Sys2Proof

/-! ### Replay windows -/

/-- The nonces that a window refuses: below its epoch, or in it at or below H and either out of the map or marked in it. -/
def Window.Refuses (w : Window) (p : Nat × Nat) : Prop :=
  p.1 < w.epoch ∨ (p.1 = w.epoch ∧ p.2 ≤ w.ctr ∧ (64 ≤ w.ctr - p.2 ∨ w.map.getLsbD (w.ctr - p.2) = true))

theorem windowTake_eq_none {w : Window} {p : Nat × Nat} (h : windowTake w p.1 p.2 = none) : w.Refuses p := by
  unfold windowTake at h
  split at h
  · exact .inl ‹_›
  · split at h
    · cases h
    · split at h
      · cases h
      · split at h
        · cases h
        · next h1 h2 h3 h4 =>
          refine .inr ⟨by omega, by omega, ?_⟩
          simp only [Bool.and_eq_true, decide_eq_true_eq, Bool.not_eq_true', not_and, Bool.not_eq_false] at h4
          rcases Nat.lt_or_ge (w.ctr - p.2) 64 with h5 | h5
          · exact .inr (h4 h5)
          · exact .inl h5

/-- The three ways in which a window takes a nonce (R461). -/
theorem windowTake_eq_some {w w' : Window} {e c : Nat} (h : windowTake w e c = some w') :
    (w.epoch < e ∧ w' = { epoch := e, ctr := c, map := 1 }) ∨
      (e = w.epoch ∧ w.ctr < c ∧ w' = { w with map := (w.map <<< (c - w.ctr)) ||| 1, ctr := c }) ∨
      (e = w.epoch ∧ c ≤ w.ctr ∧ w.ctr - c < 64 ∧ w.map.getLsbD (w.ctr - c) = false ∧
        w' = { w with map := w.map ||| BitVec.twoPow 64 (w.ctr - c) }) := by
  have hb : BitVec.ofNat 64 (2 ^ (w.ctr - c)) = BitVec.twoPow 64 (w.ctr - c) :=
    BitVec.eq_of_toNat_eq (by simp [-BitVec.ofNat_pow])
  unfold windowTake at h
  rw [hb] at h
  split at h
  · cases h
  · split at h
    · exact .inl ⟨‹_›, (Option.some.inj h).symm⟩
    · split at h
      · exact .inr (.inl ⟨by omega, ‹_›, (Option.some.inj h).symm⟩)
      · split at h
        · next h1 h2 h3 h4 =>
          simp only [Bool.and_eq_true, decide_eq_true_eq, Bool.not_eq_true'] at h4
          exact .inr (.inr ⟨by omega, by omega, h4.1, h4.2, (Option.some.inj h).symm⟩)
        · cases h

/-- A window refuses what it has just taken. -/
theorem windowTake_refuses_same {w w' : Window} {p : Nat × Nat} (h : windowTake w p.1 p.2 = some w') :
    w'.Refuses p := by
  rcases windowTake_eq_some h with ⟨-, rfl⟩ | ⟨he, -, rfl⟩ | ⟨he, hc, hlt, -, rfl⟩
  · simp [Window.Refuses]
  · simp [Window.Refuses, he]
  · refine .inr ⟨he, hc, .inr ?_⟩
    simp [hlt]

/-- A window goes on refusing what it refused. -/
theorem windowTake_keeps_refusing {w w' : Window} {p q : Nat × Nat} (h : windowTake w p.1 p.2 = some w')
    (hq : w.Refuses q) : w'.Refuses q := by
  rcases windowTake_eq_some h with ⟨hlt, rfl⟩ | ⟨he, hlt, rfl⟩ | ⟨he, hc, hlt, -, rfl⟩
  · refine .inl ?_
    rcases hq with h1 | ⟨h1, -⟩
    · exact h1.trans hlt
    · exact h1 ▸ hlt
  · rcases hq with h1 | ⟨h1, h2, h3⟩
    · exact .inl h1
    · refine .inr ⟨h1, h2.trans hlt.le, ?_⟩
      show 64 ≤ p.2 - q.2 ∨ ((w.map <<< (p.2 - w.ctr)) ||| 1).getLsbD (p.2 - q.2) = true
      rcases Nat.lt_or_ge (p.2 - q.2) 64 with h4 | h4
      · have h5 : p.2 - q.2 - (p.2 - w.ctr) = w.ctr - q.2 := by omega
        have h6 : w.map.getLsbD (w.ctr - q.2) = true := h3.resolve_left (by omega)
        refine .inr ?_
        simp [h4, h5, h6]
        omega
      · exact .inl h4
  · rcases hq with h1 | ⟨h1, h2, h3⟩
    · exact .inl h1
    · exact .inr ⟨h1, h2, h3.imp_right (fun h4 => by simp [h4])⟩

/-- What a window accepts, it did not refuse when it began. -/
theorem not_refuses_of_mem_accepted {w : Window} {l : List (Nat × Nat)} {p : Nat × Nat} (h : p ∈ accepted w l) :
    ¬ w.Refuses p := by
  induction l generalizing w with
  | nil => simp [accepted] at h
  | cons q r ih =>
    unfold accepted at h
    split at h
    · next w' hw =>
      intro hp
      rcases List.mem_cons.mp h with rfl | h
      · rcases windowTake_eq_some hw with ⟨h1, -⟩ | ⟨h1, h2, -⟩ | ⟨h1, h2, h3, h4, -⟩
        · rcases hp with h5 | ⟨h5, -⟩ <;> omega
        · rcases hp with h5 | ⟨-, h5, -⟩ <;> omega
        · rcases hp with h5 | ⟨-, -, h5 | h5⟩
          · omega
          · omega
          · simp [h4] at h5
      · exact ih h (windowTake_keeps_refusing hw hp)
    · exact ih h

theorem accepted_nodup (w : Window) (l : List (Nat × Nat)) : (accepted w l).Nodup := by
  induction l generalizing w with
  | nil => exact List.nodup_nil
  | cons p r ih =>
    unfold accepted
    split
    · next w' hw =>
      exact List.nodup_cons.mpr ⟨fun h => not_refuses_of_mem_accepted h (windowTake_refuses_same hw), ih w'⟩
    · exact ih w

/-- A window with every bit of its map set refuses all up to its H. -/
theorem refuses_of_full {e c : Nat} {p : Nat × Nat} (h : ¬ (e < p.1 ∨ (p.1 = e ∧ c < p.2))) :
    ({ epoch := e, ctr := c, map := BitVec.allOnes 64 } : Window).Refuses p := by
  rcases Nat.lt_trichotomy p.1 e with h1 | h1 | h1
  · exact .inl h1
  · refine .inr ⟨h1, Nat.not_lt.mp (fun h2 => h (.inr ⟨h1, h2⟩)), ?_⟩
    rcases Nat.lt_or_ge (c - p.2) 64 with h2 | h2
    · exact .inr (BitVec.getLsbD_allOnes.trans (decide_eq_true h2))
    · exact .inl h2
  · exact absurd (.inl h1) h

/-- Settles O59: what a window has taken it refuses from then on, and from its floor down it refuses all at the start. -/
theorem noNonceIsTakenTwice : Obligations.NoNonceIsTakenTwice :=
  ⟨accepted_nodup, fun _ _ _ _ hp => by_contra fun h => not_refuses_of_mem_accepted hp (refuses_of_full h)⟩

/-! ### Questions -/

/-- The feedback bit of the question generator (R390). -/
def feedback (v : Nat) : Nat := (v / 32768 % 2 + (v % 32768 / 8192 % 2 + v % 32768 / 4096 % 2 + v % 32768 / 1024 % 2)) % 2

theorem nextQ_toNat (q : Word) : (nextQ q).toNat = 2 * (q.toNat % 32768) + feedback q.toNat := by
  have h15 : natBits q.toNat 15 1 = q.toNat / 32768 % 2 := rfl
  have h13 : natBits q.toNat 13 1 = q.toNat % 32768 / 8192 % 2 := by simp only [natBits]; omega
  have h12 : natBits q.toNat 12 1 = q.toNat % 32768 / 4096 % 2 := by simp only [natBits]; omega
  have h10 : natBits q.toNat 10 1 = q.toNat % 32768 / 1024 % 2 := by simp only [natBits]; omega
  have hf : (natBits q.toNat 15 1 + natBits q.toNat 13 1 + natBits q.toNat 12 1 + natBits q.toNat 10 1) % 2 =
      feedback q.toNat := by
    rw [h15, h13, h12, h10]
    simp only [feedback, Nat.add_assoc]
  have hlt : feedback q.toNat < 2 := Nat.mod_lt _ (by decide)
  simp only [nextQ, hf, word, BitVec.toNat_ofNat]
  omega

/-- The bits but the last carry 15 bits of the question; with those known, the feedback bit gives the 16th. -/
theorem nextQ_injective : Function.Injective nextQ := by
  intro q r h
  have h1 := congrArg BitVec.toNat h
  rw [nextQ_toNat, nextQ_toNat] at h1
  have hq : feedback q.toNat < 2 := Nat.mod_lt _ (by decide)
  have hr : feedback r.toNat < 2 := Nat.mod_lt _ (by decide)
  have hlow : q.toNat % 32768 = r.toNat % 32768 := by omega
  have hfb : feedback q.toNat = feedback r.toNat := by omega
  simp only [feedback, hlow] at hfb
  apply BitVec.eq_of_toNat_eq
  omega

theorem nextQ_zero : nextQ 0 = 0 := by decide

/-- Settles O60: the advance is injective and keeps 0; the tokens are computed. -/
theorem questionsAndTokensFollowTheirRules : Obligations.QuestionsAndTokensFollowTheirRules := by
  refine ⟨fun q r => ⟨fun h => nextQ_injective (h.trans nextQ_zero.symm), fun h => nextQ_injective h⟩, ?_⟩
  decide

end Sys2Proof.Machine
end

section
/-! SUPPORT. Frames: what the operations that many commands share leave, part by part -/

namespace Sys2Proof.Machine

open Sys2Proof

/-! ### What refresh leaves -/

theorem refresh_frame (s : State) : Kept (· != .field) s (refresh s) := by simp [Kept.refl]

@[simp] theorem refresh_free (s : State) : (refresh s).free = s.free := (refresh_frame s).same .free rfl
@[simp] theorem refresh_mem (s : State) : (refresh s).mem = s.mem := (refresh_frame s).same .mem rfl
@[simp] theorem refresh_time (s : State) : (refresh s).time = s.time := (refresh_frame s).same .time rfl
@[simp] theorem refresh_cyc (s : State) : (refresh s).cyc = s.cyc := (refresh_frame s).same .cyc rfl
@[simp] theorem refresh_evq (s : State) : (refresh s).evq = s.evq := (refresh_frame s).same .evq rfl
@[simp] theorem refresh_trace (s : State) : (refresh s).trace = s.trace := (refresh_frame s).same .trace rfl
@[simp] theorem refresh_bus (s : State) : (refresh s).bus = s.bus := (refresh_frame s).same .bus rfl
@[simp] theorem refresh_cfg (s : State) : (refresh s).cfg = s.cfg := (refresh_frame s).same .cfg rfl
@[simp] theorem refresh_mode (s : State) : (refresh s).mode = s.mode := (refresh_frame s).same .mode rfl
@[simp] theorem refresh_safe (s : State) : (refresh s).safe = s.safe := (refresh_frame s).same .safe rfl
@[simp] theorem refresh_supply (s : State) : (refresh s).supply = s.supply := (refresh_frame s).same .supply rfl
@[simp] theorem refresh_health (s : State) : (refresh s).health = s.health := (refresh_frame s).same .health rfl
@[simp] theorem refresh_inj (s : State) : (refresh s).inj = s.inj := (refresh_frame s).same .inj rfl
@[simp] theorem refresh_adc (s : State) : (refresh s).adc = s.adc := (refresh_frame s).same .adc rfl
@[simp] theorem refresh_panel (s : State) : (refresh s).panel = s.panel := (refresh_frame s).same .panel rfl
@[simp] theorem refresh_wdog (s : State) : (refresh s).wdog = s.wdog := (refresh_frame s).same .wdog rfl
@[simp] theorem refresh_link (s : State) : (refresh s).link = s.link := (refresh_frame s).same .link rfl
@[simp] theorem refresh_txn (s : State) : (refresh s).txn = s.txn := (refresh_frame s).same .txn rfl
@[simp] theorem refresh_sta (s : State) : (refresh s).sta = s.sta := (refresh_frame s).same .sta rfl
@[simp] theorem refresh_upd (s : State) : (refresh s).upd = s.upd := (refresh_frame s).same .upd rfl

/-! ### What wake leaves -/

theorem wake_frame (s : State) (cause : Nat) :
    Kept (fun p => p != .evq && p != .trace && p != .mode && p != .safe && p != .adc && p != .wdog) s (wake s cause) := by
  simp [Kept.refl]

theorem wake_of_rest {s : State} (cause : Nat) (h : s.mode.rest = false) : wake s cause = s := by
  simp [wake, h]

@[simp] theorem wake_free (s : State) (c : Nat) : (wake s c).free = s.free := (wake_frame s c).same .free rfl
@[simp] theorem wake_mem (s : State) (c : Nat) : (wake s c).mem = s.mem := (wake_frame s c).same .mem rfl
@[simp] theorem wake_time (s : State) (c : Nat) : (wake s c).time = s.time := (wake_frame s c).same .time rfl
@[simp] theorem wake_cyc (s : State) (c : Nat) : (wake s c).cyc = s.cyc := (wake_frame s c).same .cyc rfl
@[simp] theorem wake_bus (s : State) (c : Nat) : (wake s c).bus = s.bus := (wake_frame s c).same .bus rfl
@[simp] theorem wake_cfg (s : State) (c : Nat) : (wake s c).cfg = s.cfg := (wake_frame s c).same .cfg rfl
@[simp] theorem wake_supply (s : State) (c : Nat) : (wake s c).supply = s.supply := (wake_frame s c).same .supply rfl
@[simp] theorem wake_field (s : State) (c : Nat) : (wake s c).field = s.field := (wake_frame s c).same .field rfl
@[simp] theorem wake_health (s : State) (c : Nat) : (wake s c).health = s.health := (wake_frame s c).same .health rfl
@[simp] theorem wake_inj (s : State) (c : Nat) : (wake s c).inj = s.inj := (wake_frame s c).same .inj rfl
@[simp] theorem wake_panel (s : State) (c : Nat) : (wake s c).panel = s.panel := (wake_frame s c).same .panel rfl
@[simp] theorem wake_link (s : State) (c : Nat) : (wake s c).link = s.link := (wake_frame s c).same .link rfl
@[simp] theorem wake_txn (s : State) (c : Nat) : (wake s c).txn = s.txn := (wake_frame s c).same .txn rfl
@[simp] theorem wake_sta (s : State) (c : Nat) : (wake s c).sta = s.sta := (wake_frame s c).same .sta rfl
@[simp] theorem wake_sec (s : State) (c : Nat) : (wake s c).sec = s.sec := (wake_frame s c).same .sec rfl
@[simp] theorem wake_ser (s : State) (c : Nat) : (wake s c).ser = s.ser := (wake_frame s c).same .ser rfl
@[simp] theorem wake_media (s : State) (c : Nat) : (wake s c).media = s.media := (wake_frame s c).same .media rfl
@[simp] theorem wake_upd (s : State) (c : Nat) : (wake s c).upd = s.upd := (wake_frame s c).same .upd rfl
@[simp] theorem wake_flash (s : State) (c : Nat) : (wake s c).flash = s.flash := (wake_frame s c).same .flash rfl

@[simp] theorem wdhCheck_mode (s : State) : (wdhCheck s).mode = s.mode :=
  (wdhCheck_kept (kp := (· == .mode)) s (Kept.refl _ s) rfl rfl).same .mode rfl

@[simp] theorem adcRestart_mode (s : State) : (adcRestart s).mode = s.mode :=
  (adcRestart_kept (kp := (· == .mode)) s (Kept.refl _ s) rfl).same .mode rfl

/-- A wake of the core ends REST and changes nothing else of the modes (R245). -/
@[simp] theorem wake_mode (s : State) (cause : Nat) : (wake s cause).mode = { s.mode with rest := false } := by
  cases h : s.mode.rest with
  | false => rw [wake_of_rest cause h, ← h]
  | true =>
    simp only [wake, h, if_true, adcRestart_mode, wdhCheck_mode]
    split
    · rw [(freezeCheck_kept (kp := (· == .mode)) _ (Kept.refl _ _) rfl).same .mode rfl]
      simp
    · simp

end Sys2Proof.Machine
end

section
/-! SUPPORT. Resets: what the resets leave and what their releases begin (R2, R237, R238, R242) -/

namespace Sys2Proof.Machine

open Sys2Proof

/-! ### Power-on reset -/

@[simp] theorem fallSettle_mode (s : State) : (fallSettle s).mode = s.mode :=
  (show Kept (· == .mode) s (fallSettle s) by simp [Kept.refl]).same .mode rfl

@[simp] theorem fallSettle_sec (s : State) : (fallSettle s).sec = s.sec :=
  (show Kept (· == .sec) s (fallSettle s) by simp [Kept.refl]).same .sec rfl

theorem porstEnter_mode (s : State) (cause : ResetCause) : (porstEnter s cause).mode =
    { State.reset.mode with
      fs := s.mode.fs, pwrfailMark := s.mode.pwrfailMark, cause, safeReq := s.mode.safeReq, pwrfail := s.mode.pwrfail
      role := s.mode.role, crystal := s.mode.crystal, stable := s.mode.stable, modeBefore := s.mode.mode, porst := true } := by
  simp [porstEnter]

theorem exec_porstAssert_of_not_porst {s : State} (supply : Bool) (h : s.mode.porst = false) :
    exec (.porstAssert supply) s = .next (porstEnter s (if supply then .lineSupply else .porst)) := by
  simp [exec, execPorstAssert, h]

theorem porstAssert_completes {s : State} (supply : Bool) (h : s.mode.porst = false) :
    Completes (.porstAssert supply) s (fun t =>
      t.mode.porst = true ∧ t.mode.cause = (if supply then .lineSupply else .porst) ∧ t.mode.mode = .setup ∧
      t.mode.bootOk = false ∧ t.mem = [] ∧ t.evq = State.reset.evq ∧ t.txn = State.reset.txn ∧ t.time.line = 0 ∧
      t.sec.epoch = s.sec.epoch ∧ t.pending = s.pending) := by
  refine ⟨_, exec_porstAssert_of_not_porst supply h, ?_⟩
  have hp : (fallSettle s).pending = s.pending := (show Kept (fun _ => false) s (fallSettle s) by simp [Kept.refl]).pending
  have hm := porstEnter_mode s (if supply then .lineSupply else .porst)
  exact ⟨by rw [hm], by rw [hm], by rw [hm]; rfl, by rw [hm]; rfl, rfl, rfl, rfl, rfl,
    (congrArg SecState.epoch (fallSettle_sec s) :), hp⟩

theorem exec_supplyMonitorTrip_line {s : State} (h : s.mode.porst = false) :
    exec (.supplyMonitorTrip true) s = exec (.porstAssert true) s := by
  rw [exec_porstAssert_of_not_porst true h]
  simp [exec, execSupplyMonitorTrip, h]

/-! ### Logic reset -/

/-- The end of a long burst that the reset cut, and the outputs that follow, change the converters and the field alone. -/
theorem adcNext_refresh_kept (b : Bool) (s : State) :
    Kept (fun p => p != .adc && p != .field) s ((if b then adcNext else id) (refresh s)) := by
  cases b <;> simp [Kept.refl]

/-- What ends in a logic reset before the state is reset leaves every part but these. -/
theorem logicEnter_ends_kept (s : State) :
    Kept (fun p => p != .upd && p != .flash && p != .wdog && p != .trace && p != .field) s
      (chanLogic (setFreeze (thawCheck (flashReset (fallSettle s))) false)) :=
  chanLogic_kept _ (setFreeze_kept _ _ (thawCheck_kept _ (flashReset_kept _
    (fallSettle_kept s (Kept.refl _ s) rfl) rfl) rfl) rfl) rfl

theorem logicEnter_mode (s : State) (cause : ResetCause) : (logicEnter s cause).mode =
    { s.mode with
      mode := .setup, modeBefore := s.mode.mode, rest := false, restPending := false, bootOk := false, cmd := 0, result := 0
      cause, booting := false, bootStep := 0, bootWide := true, runAtApply := false, rstout := true
      coreReset := true, logicReset := true, lineEngine := false, fwver := 0, coreHold := false } := by
  have h : (chanLogic (setFreeze (thawCheck (flashReset (fallSettle s))) false)).mode = s.mode :=
    (logicEnter_ends_kept s).same .mode rfl
  refine Eq.trans ((adcNext_refresh_kept _ _).same .mode rfl) ?_
  dsimp only
  rw [h]

theorem logicEnter_evq (s : State) (cause : ResetCause) : (logicEnter s cause).evq = State.reset.evq :=
  (adcNext_refresh_kept _ _).same .evq rfl

theorem logicEnter_txn (s : State) (cause : ResetCause) : (logicEnter s cause).txn = State.reset.txn :=
  (adcNext_refresh_kept _ _).same .txn rfl

theorem logicEnter_cfg_owner (s : State) (cause : ResetCause) : (logicEnter s cause).cfg.owner = none :=
  congrArg CfgState.owner ((adcNext_refresh_kept _ _).same .cfg rfl)

/-- A logic reset leaves line time as it is. -/
theorem logicEnter_time_line (s : State) (cause : ResetCause) : (logicEnter s cause).time.line = s.time.line := by
  have h : (chanLogic (setFreeze (thawCheck (flashReset (fallSettle s))) false)).time = s.time :=
    (logicEnter_ends_kept s).same .time rfl
  refine Eq.trans (congrArg TimeState.line ((adcNext_refresh_kept _ _).same .time rfl)) ?_
  dsimp only
  rw [h]
  rfl

/-- A logic reset at an instant, whose mode before is the one at that instant. -/
theorem logicEnter_reach (s : State) (n : Nat) (cause : ResetCause) :
    (logicEnter (s.reach n) cause).mode.modeBefore = s.mode.mode ∧
      (logicEnter (s.reach n) cause).time.line = reachLine s.time.line n :=
  ⟨congrArg ModeState.modeBefore (logicEnter_mode (s.reach n) cause), logicEnter_time_line _ _⟩

/-! ### Core reset -/

theorem wdhCheck_refresh_kept (s : State) :
    Kept (fun p => p != .safe && p != .wdog && p != .field) s (refresh (wdhCheck s)) := by
  simp [Kept.refl]


theorem wdhCheck_cReset (s : State) : (wdhCheck s).wdog.cReset = s.wdog.cReset := by
  unfold wdhCheck
  repeat' split
  all_goals rfl

theorem coreEnter_mode_facts (s : State) (cause : ResetCause) : (coreEnter s cause).mode.coreReset = true ∧
    (coreEnter s cause).mode.cause = cause ∧ (coreEnter s cause).mode.bootOk = false :=
  have h : ∀ x : State, (refresh (wdhCheck x)).mode = x.mode := fun x => (wdhCheck_refresh_kept x).same .mode rfl
  ⟨congrArg ModeState.coreReset (h _), congrArg ModeState.cause (h _), congrArg ModeState.bootOk (h _)⟩

theorem coreEnter_cReset (s : State) (cause : ResetCause) : (coreEnter s cause).wdog.cReset = none := by
  have h : ∀ x : State, (refresh (wdhCheck x)).wdog.cReset = x.wdog.cReset := fun x => by
    rw [refresh_wdog, wdhCheck_cReset]
  exact h _

theorem coreEnter_mem_link_kept (s : State) (cause : ResetCause) :
    Kept (fun p => p == .mem || p == .link) s (coreEnter s cause) := by
  simp [Kept.refl]

/-! ### A stable boot -/

/-- The state that a boot has proved stable, before false starts are forgiven (R238). -/
def stableNow (s : State) : State := { s with mode := { s.mode with stable := true } }

theorem exec_bootStable {s : State} (hok : s.mode.bootOk = true) (hst : s.mode.stable = false) :
    exec .bootStable s = .next (stableFs (stableNow (s.reach (s.mode.okT + 120000000000)))) := by
  simp only [exec, execBootStable, hok, hst, Bool.not_false, Bool.and_self, if_true, stableNow]

theorem stableFs_mode (s : State) : (stableFs s).mode =
    { s.mode with fs := if s.mode.bootOk && s.mode.stable && !s.mode.pwrfail &&
      !(s.mode.minimalImage && 3 ≤ s.mode.fstarts) then 0 else s.mode.fs } := by
  unfold stableFs
  split <;> rfl

theorem stableFs_reach_stable (s : State) (n : Nat) : (stableFs (stableNow (s.reach n))).mode.stable = true := by
  rw [stableFs_mode]
  rfl

theorem stableFs_reach_line (s : State) (n : Nat) : (stableFs (stableNow (s.reach n))).time.line = reachLine s.time.line n := by
  unfold stableFs
  split <;> rfl

theorem stableFs_fs_zero {s : State} {n : Nat} (hok : s.mode.bootOk = true) (hp : s.mode.pwrfail = false)
    (hm : s.mode.minimalImage = false ∨ s.mode.fstarts < 3) : (stableFs (stableNow (s.reach n))).mode.fs = 0 := by
  rw [stableFs_mode]
  rcases hm with hm | hm <;> simp [stableNow, hok, hp, hm]

theorem stableFs_fs_kept {s : State} {n : Nat}
    (h : s.mode.pwrfail = true ∨ (s.mode.minimalImage = true ∧ 3 ≤ s.mode.fstarts)) :
    (stableFs (stableNow (s.reach n))).mode.fs = s.mode.fs := by
  rw [stableFs_mode]
  rcases h with h | ⟨h1, h2⟩
  · simp [stableNow, h]
  · simp [stableNow, h1, h2]

/-! ### The boot -/

theorem bootGo_of_upTo_zero {e : BootEnv} {s : State} (h : e.upTo = 0) : bootGo e s = s := by
  have hpos : ∀ n ∈ bootSteps s, 0 < n := by
    unfold bootSteps
    repeat' split
    all_goals decide
  unfold bootGo
  cases hl : (bootSteps s).filter (fun n => s.mode.bootStep < n) with
  | nil => rfl
  | cons n r =>
    have hn : 0 < n := hpos n (List.mem_of_mem_filter (hl ▸ List.mem_cons_self))
    simp [bootRun, h, hn]

@[simp] theorem sampleStraps_mode (s : State) (role : Role) (crystal : Bool) :
    (sampleStraps s role crystal).mode = { s.mode with role, crystal, porT := s.time.line } := by
  unfold sampleStraps refreshMode
  split <;> rfl

@[simp] theorem sampleStraps_upd (s : State) (role : Role) (crystal : Bool) :
    (sampleStraps s role crystal).upd = s.upd :=
  (show Kept (· == .upd) { s with mode := { s.mode with role, crystal, porT := s.time.line } } (sampleStraps s role crystal)
    by simp [sampleStraps, Kept.refl]).same .upd rfl

/-- Without a crystal the boot's second step reports it and runs the core; a power-on boot run to it ends there (R31, R237). -/
theorem bootGo_two_of_no_crystal {e : BootEnv} {s : State} (hu : e.upTo = 2) (hc : s.mode.crystal = false)
    (hk : causeKind s.mode.cause = 0) (hs : s.mode.bootStep = 0) (hb : s.mode.booting = true)
    (hf : s.upd.falling = none) :
    (bootGo e s).mode.bootStep = 2 ∧ (bootGo e s).mode.coreReset = false ∧ (bootGo e s).mode.reason = 0x010B := by
  have hsteps : (bootSteps s).filter (fun n => s.mode.bootStep < n) = [1, 2, 3, 4, 5, 6, 7, 8, 9, 10, 11, 12] := by
    simp [bootSteps, hk, hs]
  have h1 : bootDo s 1 e = { s with mode := { s.mode with bootStep := 1 } } := rfl
  have h2 : ∀ u : State, u.mode.crystal = false →
      bootDo u 2 e = { u with mode := { u.mode with bootStep := 2, coreReset := false, reason := 0x010B } } := fun u h => by
    simp [bootDo, pllStart, h, State.reason]
  rw [bootGo, hsteps]
  simp [bootRun, hu, hb, bootPaused, hf, h1, h2, hc]

/-- Settles O9: each reset is one of the three entries (porstEnter, logicEnter, coreEnter), and each release begins the
boot, of which BootEnv says how far the row runs it. -/
theorem resetsAndBoots : Obligations.ResetsAndBoots := by
  refine ⟨fun supply s h => porstAssert_completes supply h, fun s h => ⟨exec_supplyMonitorTrip_line h, ?_⟩,
    fun s hp hl => ?_, fun s hb => ?_, fun s hok hst => ?_, fun s fatal hw => ?_, fun role crystal e s hp hb => ?_,
    fun e s hp hl hb hk => ?_, fun e s hp hl hc hb hk => ?_⟩
  · obtain ⟨t, ht, hporst, hcause, -, -, hmem, -, -, hline, -⟩ := porstAssert_completes true h
    exact ⟨t, (exec_supplyMonitorTrip_line h).trans ht, hporst, hcause, hmem, hline⟩
  · refine ⟨logicEnter s .logicSupply, by simp [exec, execSupplyMonitorTrip, hp, hl], ?_⟩
    have hm := logicEnter_mode s .logicSupply
    exact ⟨by rw [hm], by rw [hm], by rw [hm], by rw [hm], by rw [hm], by rw [hm], logicEnter_evq _ _, logicEnter_txn _ _,
      logicEnter_cfg_owner _ _⟩
  · refine ⟨logicEnter (s.reach (s.mode.bootT + 3000000000)) .bootTimer, by simp [exec, execBootTimerExpiry, hb], ?_⟩
    have hm := logicEnter_mode (s.reach (s.mode.bootT + 3000000000)) .bootTimer
    obtain ⟨hbefore, hline⟩ := logicEnter_reach s (s.mode.bootT + 3000000000) .bootTimer
    exact ⟨by rw [hm], by rw [hm], by rw [hm], by rw [hm], hbefore, hline⟩
  · refine ⟨_, exec_bootStable hok hst, stableFs_reach_stable s _, stableFs_reach_line s _, fun hp hm => ?_, fun h => ?_⟩
    · exact stableFs_fs_zero (by exact hok) hp hm
    · exact stableFs_fs_kept h
  · obtain ⟨hc, hcause, hok⟩ := coreEnter_mode_facts s (if fatal then .fatal else .wdc)
    have hk := coreEnter_mem_link_kept s (if fatal then .fatal else .wdc)
    exact ⟨_, by simp only [exec, execWdcCoreReset, hw], hc, hcause, hok, coreEnter_cReset _ _, hk.same .mem rfl,
      hk.same .link rfl⟩
  · have hgo : exec (.porstRelease role crystal e) s = .next (bootGo e (sampleStraps (bootBegin s) role crystal)) :=
      exec_porstRelease_of_porst role crystal e hp hb
    refine ⟨hgo, fun hu => ⟨_, hgo, ?_⟩, fun hu hc hk hf => ⟨_, hgo, ?_⟩⟩
    · rw [bootGo_of_upTo_zero hu]
      simp [bootBegin]
    · exact bootGo_two_of_no_crystal hu (by simpa using hc) (by simpa [bootBegin] using hk) (by simp [bootBegin])
        (by simp [bootBegin]) (by simpa [bootBegin] using hf)
  · have hgo : exec (.logicReset e) s = .next (bootGo e (bootBegin s)) := by
      simp [exec, execLogicReset, hp, hl, hb, hk]
    refine ⟨hgo, fun hu => ⟨_, hgo, ?_⟩⟩
    rw [bootGo_of_upTo_zero hu]
    exact ⟨rfl, rfl, rfl, rfl⟩
  · have hgo : exec (.coreReset e) s = .next (bootGo e (bootBegin s)) := by
      simp [exec, execCoreReset, hp, hl, hb, hk, hc]
    refine ⟨hgo, fun hu => ⟨_, hgo, ?_⟩⟩
    rw [bootGo_of_upTo_zero hu]
    exact ⟨rfl, rfl, rfl⟩

end Sys2Proof.Machine
end

section
/-! SUPPORT. FieldResets: field resets, the barrier link and the triggers they raise (R232, R289, R299) -/

namespace Sys2Proof.Machine

open Sys2Proof

/-! ### The start of a field reset -/

/-- The ends of forces, faults and conversions at a field reset leave the modes, the sets, the snapshot and SRAM. -/
theorem fieldResetStart_ends_kept (s : State) :
    Kept (fun p => p != .evq && p != .trace && p != .field && p != .panel && p != .adc) s
      (adcFieldReset (eachNo chanNos dropFaults (endJog s true))) :=
  adcFieldReset_kept _ (eachNo_kept _ _ _ (fun _ h n => dropFaults_kept _ n h rfl rfl rfl)
    (endJog_kept s true (Kept.refl _ s) rfl rfl rfl rfl)) rfl rfl rfl

@[simp] theorem fieldResetStart_mode (s : State) : (fieldResetStart s).mode = { s.mode with fieldReset := true } := by
  have h := (fieldResetStart_ends_kept s).same .mode rfl
  simp only [Part.Same] at h
  simp [fieldResetStart, h]

@[simp] theorem fieldResetStart_cfg (s : State) :
    (fieldResetStart s).cfg = { s.cfg with stagedActive := false, stagedShadow := false } := by
  have h := (fieldResetStart_ends_kept s).same .cfg rfl
  simp only [Part.Same] at h
  simp [fieldResetStart, h]

@[simp] theorem fieldResetStart_cyc (s : State) : (fieldResetStart s).cyc = { s.cyc with frozen := none } := by
  have h := (fieldResetStart_ends_kept s).same .cyc rfl
  simp only [Part.Same] at h
  simp [fieldResetStart, h]

@[simp] theorem fieldResetStart_supply (s : State) : (fieldResetStart s).supply = s.supply := by
  have h := (fieldResetStart_ends_kept s).same .supply rfl
  simp only [Part.Same] at h
  simp [fieldResetStart, h]

@[simp] theorem fieldResetStart_safe (s : State) : (fieldResetStart s).safe = s.safe := by
  have h := (fieldResetStart_ends_kept s).same .safe rfl
  simp only [Part.Same] at h
  simp [fieldResetStart, h]

/-! ### Its end -/

theorem fieldServes_facts (s : State) : (fieldServes s).mode = { s.mode with fieldReset := false } ∧
    (fieldServes s).cfg = { s.cfg with stagedActive := true } ∧ (fieldServes s).mem = s.mem := by
  have h : Kept (fun p => p != .evq && p != .trace && p != .supply && p != .field && p != .adc)
      { s with mode := { s.mode with fieldReset := false }, cfg := { s.cfg with stagedActive := true } }
      (fieldServes s) :=
    adcFieldStart_kept _ (refresh_kept _ (Kept.ite (barrierBack_kept _ (Kept.refl _ _) rfl rfl rfl rfl) (Kept.refl _ _)) rfl)
      rfl rfl rfl
  exact ⟨h.same .mode rfl, h.same .cfg rfl, h.same .mem rfl⟩

theorem discardAll_frame (s : State) : Kept (fun p => p != .evq && p != .trace && p != .field) s (discardAll s) := by
  simp [Kept.refl]

@[simp] theorem discardAll_mode (s : State) : (discardAll s).mode = s.mode := (discardAll_frame s).same .mode rfl
@[simp] theorem discardAll_cfg (s : State) : (discardAll s).cfg = s.cfg := (discardAll_frame s).same .cfg rfl
@[simp] theorem discardAll_mem (s : State) : (discardAll s).mem = s.mem := (discardAll_frame s).same .mem rfl

theorem restageShadow_mem (s : State) (ok : Bool) : (restageShadow s ok).mem = s.mem :=
  (restageShadow_kept (kp := (· == .mem)) s ok (Kept.refl _ s) rfl rfl).same .mem rfl

/-- With both sets restaged the field die serves, the shadow staged where it was VALID (R232, R289). -/
theorem fieldRestart_both (s : State) : (fieldRestart s true true).mode.fieldReset = false ∧
    (fieldRestart s true true).cfg.stagedActive = true ∧ (fieldRestart s true true).mem = s.mem ∧
    (fieldRestart s true true).cfg.valid = s.cfg.valid ∧
    (s.cfg.valid = true → (fieldRestart s true true).cfg.stagedShadow = true) := by
  obtain ⟨hm, hc, hmem⟩ := fieldServes_facts (discardAll s)
  simp only [fieldRestart, if_true, restageShadow_mem, hmem, discardAll_mem, true_and]
  cases hv : s.cfg.valid <;> simp [restageShadow, hm, hc, hv]

/-- A shadow that cannot be restaged loses VALID, and the field die serves all the same (log 15). -/
theorem fieldRestart_shadow_failed (s : State) : (fieldRestart s true false).mode.fieldReset = false ∧
    (fieldRestart s true false).cfg.stagedActive = true ∧ (fieldRestart s true false).mem = s.mem ∧
    (fieldRestart s true false).cfg.valid = false ∧
    (s.cfg.valid = true → (fieldRestart s true false).mode.reason = 0x0505) := by
  obtain ⟨hm, hc, hmem⟩ := fieldServes_facts (discardAll s)
  simp only [fieldRestart, if_true, restageShadow_mem, hmem, discardAll_mem, true_and]
  cases hv : s.cfg.valid <;> simp [restageShadow, hm, hc, hv, State.reason]

theorem fieldRestart_active_failed (s : State) (b : Bool) :
    (fieldRestart s false b).mode = { s.mode with reason := 0x0505 } ∧ (fieldRestart s false b).cfg.valid = false := by
  simp [fieldRestart, State.reason]

/-- FIELD_RESET runs the restart behind the reset's start, where the die was not in reset yet (R242). -/
theorem exec_fieldReset {s : State} (a b : Bool) (hp : s.mode.porst = false) (hb : s.mode.booting = false)
    (hl : s.mode.logicReset = false) :
    exec (.fieldReset a b) s = .next (fieldRestart (if s.mode.fieldReset then s else fieldResetStart s) a b) := by
  simp [exec, execFieldReset, hp, hb, hl]

/-! ### Trigger 5 -/

theorem and_not_two_and (x : BitVec 7) : x &&& ~~~2#7 &&& 0x20#7 = x &&& 0x20#7 := by
  rw [BitVec.and_assoc]
  rfl

/-- The check of the host watchdog clears trigger 1 at most. -/
theorem wdhCheck_active (s : State) :
    (wdhCheck s).safe.active = s.safe.active ∨ (wdhCheck s).safe.active = s.safe.active &&& ~~~2#7 := by
  unfold wdhCheck
  repeat' split
  · exact .inl rfl
  · exact .inl rfl
  · exact .inl rfl
  · exact .inr rfl

theorem wdhCheck_active_five (s : State) : (wdhCheck s).safe.active &&& 0x20#7 = s.safe.active &&& 0x20#7 := by
  rcases wdhCheck_active s with h | h
  · rw [h]
  · rw [h, and_not_two_and]

theorem wake_active_five (s : State) (c : Nat) : (wake s c).safe.active &&& 0x20#7 = s.safe.active &&& 0x20#7 := by
  cases h : s.mode.rest with
  | false => rw [wake_of_rest c h]
  | true =>
    have ha : ∀ u : State, (adcRestart u).safe = u.safe := fun u =>
      (adcRestart_kept (kp := (· == .safe)) u (Kept.refl _ u) rfl).same .safe rfl
    have hf : ∀ u : State, (freezeCheck u).safe = u.safe := fun u => rfl
    simp only [wake, h, if_true, ha, wdhCheck_active_five]
    split
    · rw [hf]
      simp
    · simp

@[simp] theorem setInForce_active (s : State) (t p : Nat) : (setInForce s t p).safe.active = s.safe.active := by
  have hc : ∀ u : State, (captureKind2 u).safe = u.safe := fun u =>
    (captureKind2_kept (kp := (· == .safe)) u (Kept.refl _ u) rfl).same .safe rfl
  unfold setInForce
  split
  · rfl
  · simp [takeProfile, hc]

theorem changeMode_active_five (s : State) (m : Mode) :
    (changeMode s m).safe.active &&& 0x20#7 = s.safe.active &&& 0x20#7 := by
  have he : ∀ u : State, (endJog u true).safe = u.safe := fun u =>
    (endJog_kept (kp := (· == .safe)) u true (Kept.refl _ u) rfl rfl rfl rfl).same .safe rfl
  have hi : ∀ u : State, (injCheck u).safe = u.safe := fun u =>
    (injCheck_kept (kp := (· == .safe)) u (Kept.refl _ u) rfl).same .safe rfl
  simp only [changeMode, post_safe, afterMode, wdhCheck_active_five, hi]
  split
  · rfl
  · rw [he]

theorem enterSafe_active_five (s : State) (t p : Nat) (b : Bool) (r : Word) :
    (enterSafe s t p b r).safe.active &&& 0x20#7 = s.safe.active &&& 0x20#7 := by
  simp only [enterSafe, postSafeEnter, detail_safe, post_safe, changeMode_active_five, State.reason, setInForce_active]

/-- A trigger that its cause holds stays ACTIVE, whatever the mode (R299, R300). -/
theorem triggerHw_active_five (s : State) (t : Nat) (r : Word) :
    (triggerHw s t r).safe.active &&& 0x20#7 = (markTrigger s t).safe.active &&& 0x20#7 := by
  unfold triggerHw
  dsimp only
  split
  · exact enterSafe_active_five ..
  · exact enterSafe_active_five ..
  · split
    · simp only [postSafeEnter, detail_safe, post_safe, State.reason, setInForce_active]
    · rfl
  · rfl

theorem heldTrigger_five_active (s : State) (r : Word) : (heldTrigger s 5 r).safe.active &&& 0x20#7 = 0x20#7 := by
  have hm : (markTrigger s 5).safe.active &&& 0x20#7 = 0x20#7 := by
    show (s.safe.active ||| 0x20#7) &&& 0x20#7 = 0x20#7
    rw [BitVec.and_comm, BitVec.and_or_distrib_left]
    ext i hi
    simp
    tauto
  unfold heldTrigger
  split
  · exact hm
  · rw [trigger, wake_active_five, triggerHw_active_five, hm]

/-! ### The barrier -/

/-- What a lost barrier triggers leaves the supplies and the snapshot. -/
theorem heldTrigger_frame (s : State) (t : Nat) (r : Word) :
    Kept (fun p => p == .supply || p == .cyc || p == .cfg || p == .mem) s (heldTrigger s t r) := by
  simp [Kept.refl]

theorem barrierLost_facts (s : State) : (barrierLost s).supply = { s.supply with barrierDown := true, barrierT := s.time.line } ∧
    (barrierLost s).cyc = { s.cyc with frozen := none } ∧ (barrierLost s).cfg = s.cfg ∧
    (barrierLost s).safe.active &&& 0x20#7 = 0x20#7 := by
  have h := heldTrigger_frame (post { s with
    supply := { s.supply with barrierDown := true, barrierT := s.time.line }
    cyc := { s.cyc with frozen := none }
    health := { s.health with barCount := satAdd 0xFFFFFFFF s.health.barCount 100 } } 0x54 0 0) 5 0x0501
  refine ⟨(h.same .supply rfl).trans ?_, (h.same .cyc rfl).trans ?_, (h.same .cfg rfl).trans ?_,
    heldTrigger_five_active _ _⟩ <;> simp

/-! ### The modes in a trigger -/

@[simp] theorem afterMode_mode (s : State) : (afterMode s).mode = s.mode := by
  have h : Kept (· == .mode) s (afterMode s) := by simp [Kept.refl]
  exact h.same .mode rfl

@[simp] theorem changeMode_mode (s : State) (m : Mode) : (changeMode s m).mode = { s.mode with mode := m } := by
  simp [changeMode]

@[simp] theorem setInForce_mode (s : State) (t p : Nat) : (setInForce s t p).mode = s.mode :=
  (setInForce_kept (kp := (· == .mode)) s t p (Kept.refl _ s) rfl rfl).same .mode rfl

@[simp] theorem enterSafe_mode (s : State) (t p : Nat) (b : Bool) (r : Word) :
    (enterSafe s t p b r).mode = { s.mode with mode := .safe, runAtApply := false, reason := r } := by
  simp [enterSafe, postSafeEnter, State.reason]

/-- Of the modes a trigger changes MODE, REASON and the RUN that waits for an apply instant (R299, R300). -/
theorem triggerHw_mode (s : State) (t : Nat) (r : Word) : ∃ (m : Mode) (x : Word) (b : Bool),
    (triggerHw s t r).mode = { s.mode with mode := m, reason := x, runAtApply := b } := by
  have hm : (markTrigger s t).mode = s.mode := rfl
  unfold triggerHw
  dsimp only
  split
  · exact ⟨.safe, r, false, by simp [hm]⟩
  · exact ⟨.safe, r, false, by simp [hm]⟩
  · split
    · exact ⟨s.mode.mode, r, s.mode.runAtApply, by simp [postSafeEnter, State.reason, hm]⟩
    · exact ⟨s.mode.mode, s.mode.reason, s.mode.runAtApply, hm⟩
  · exact ⟨s.mode.mode, s.mode.reason, s.mode.runAtApply, hm⟩

/-- A trigger that a boot may hold wakes the core besides, where it acts. -/
theorem heldTrigger_mode (s : State) (t : Nat) (r : Word) : ∃ (m : Mode) (x : Word) (b c : Bool),
    (heldTrigger s t r).mode = { s.mode with mode := m, reason := x, runAtApply := b, rest := c } := by
  unfold heldTrigger
  split
  · exact ⟨s.mode.mode, s.mode.reason, s.mode.runAtApply, s.mode.rest, rfl⟩
  · obtain ⟨m, x, b, h⟩ := triggerHw_mode s t r
    exact ⟨m, x, b, false, by simp [trigger, h]⟩

theorem heldTrigger_fieldReset (s : State) (t : Nat) (r : Word) :
    (heldTrigger s t r).mode.fieldReset = s.mode.fieldReset := by
  obtain ⟨m, x, b, c, h⟩ := heldTrigger_mode s t r
  rw [h]

theorem barrierLost_fieldReset (s : State) : (barrierLost s).mode.fieldReset = s.mode.fieldReset := by
  simp [barrierLost, heldTrigger_fieldReset]

/-! ### The rows -/

theorem exec_barrierReturn {s : State} (hp : s.mode.porst = false) (hl : s.mode.logicReset = false)
    (hd : s.supply.barrierDown = true) :
    exec .barrierReturn s = .next (if s.time.line ≤ s.supply.barrierT + 1000000 ∧ s.mode.fieldReset = false
      then refresh (barrierBack (linkUp s))
      else if s.mode.fieldReset then linkUp { s with supply := { s.supply with backDue := true } }
      else fieldResetStart (linkUp { s with supply := { s.supply with backDue := true } })) := by
  simp only [exec, execBarrierReturn, hp, hl, hd, Bool.or_self, Bool.not_true, Bool.false_eq_true, if_false,
    Bool.and_eq_true, decide_eq_true_eq, Bool.not_eq_true']
  split <;> rfl

theorem barrierBack_facts (s : State) : (barrierBack s).supply = { s.supply with backDue := false } ∧
    (barrierBack s).mode = s.mode ∧ (barrierBack s).safe = s.safe := by
  have h : Kept (fun p => p != .evq && p != .trace && p != .adc)
      (post { s with supply := { s.supply with backDue := false } } 0x55 0 0) (barrierBack s) :=
    fifoMarker_kept _ _ (Kept.refl _ _) rfl rfl rfl
  exact ⟨(h.same .supply rfl).trans (by simp), (h.same .mode rfl).trans (by simp), (h.same .safe rfl).trans (by simp)⟩

/-- A short loss ends with the marker in the result FIFO, and the die goes on (R289). -/
theorem barrierReturn_short {s : State} (hp : s.mode.porst = false) (hl : s.mode.logicReset = false)
    (hd : s.supply.barrierDown = true) (ht : s.time.line ≤ s.supply.barrierT + 1000000)
    (hf : s.mode.fieldReset = false) :
    Completes .barrierReturn s (fun t =>
      t.supply.barrierDown = false ∧ t.supply.backDue = false ∧ t.mode.fieldReset = false ∧
      t.safe.active = s.safe.active &&& ~~~0x20#7) := by
  obtain ⟨hs, hm, hsafe⟩ := barrierBack_facts (linkUp s)
  refine ⟨_, (exec_barrierReturn hp hl hd).trans (congrArg _ (if_pos ⟨ht, hf⟩)), ?_⟩
  simp only [refresh_supply, refresh_mode, refresh_safe, hs, hm, hsafe]
  exact ⟨rfl, trivial, hf, rfl⟩

/-- A long loss, or one in a field reset, leaves the restart due (R289). -/
theorem barrierReturn_long {s : State} (hp : s.mode.porst = false) (hl : s.mode.logicReset = false)
    (hd : s.supply.barrierDown = true) (h : s.supply.barrierT + 1000000 < s.time.line ∨ s.mode.fieldReset = true) :
    Completes .barrierReturn s (fun t =>
      t.supply.barrierDown = false ∧ t.supply.backDue = true ∧ t.mode.fieldReset = true ∧
      (s.mode.fieldReset = false → t.cfg.stagedActive = false)) := by
  have hn : ¬ (s.time.line ≤ s.supply.barrierT + 1000000 ∧ s.mode.fieldReset = false) := by
    rintro ⟨h1, h2⟩
    rcases h with h | h
    · omega
    · simp [h2] at h
  refine ⟨_, (exec_barrierReturn hp hl hd).trans (congrArg _ (if_neg hn)), ?_⟩
  cases hf : s.mode.fieldReset <;> simp [linkUp, releaseTrigger, hf]

theorem lsBrownout_completes {mv : Nat} {s : State} (hp : s.mode.porst = false) (hmv : mv < 13000) :
    Completes (.lsBrownout mv) s (fun t => t.supply.lsUv = true ∧ t.supply.lsOv = false ∧ t.supply.lsMv = mv ∧
      t.mode.fieldReset = true ∧ (s.mode.fieldReset = false → t.cfg.stagedActive = false) ∧
      (s.mode.logicReset = false → t.supply.barrierDown = true)) := by
  refine ⟨_, by simp only [exec, execLsBrownout, hp, Bool.false_or, decide_eq_true_eq, Nat.not_le.mpr hmv, if_false]; rfl, ?_⟩
  have hb := fun u => barrierLost_facts u
  cases hf : s.mode.fieldReset <;> cases hl : s.mode.logicReset <;> cases s.supply.barrierDown <;>
    simp [fieldRuns, hp, hf, hl, hb, barrierLost_fieldReset]

/-- Settles O10: the reset's start and end, the barrier's loss and return, each from what its operation writes. -/
theorem fieldDieResetsAndReturns : Obligations.FieldDieResetsAndReturns := by
  refine ⟨fun s h => ?_, fun s hp hb hl hf => ?_, fun a b s hp hb hl hf => ?_, fun s hp hl hd => ?_,
    fun s hp hl hd => ⟨barrierReturn_short hp hl hd, barrierReturn_long hp hl hd⟩, fun mv s hp hmv => lsBrownout_completes hp hmv⟩
  · refine ⟨fieldResetStart (s.reason 0x0504), by simp [exec, execFieldDieFault, h], ?_⟩
    simp [State.reason]
  · have he : ∀ a b, exec (.fieldReset a b) s = .next (fieldRestart s a b) := fun a b => by
      rw [exec_fieldReset a b hp hb hl, if_pos hf]
    refine ⟨⟨_, he _ _, fieldRestart_both s⟩, ⟨_, he _ _, fieldRestart_shadow_failed s⟩, fun b => ⟨_, he _ _, ?_⟩⟩
    obtain ⟨hm, hv⟩ := fieldRestart_active_failed s b
    exact ⟨by rw [hm]; exact hf, by rw [hm], hv⟩
  · rw [exec_fieldReset a b hp hb hl, exec_fieldReset a b (by simpa using hp) (by simpa using hb) (by simpa using hl)]
    simp [hf]
  · obtain ⟨hs, hc, -, ha⟩ := barrierLost_facts s
    exact ⟨barrierLost s, by simp [exec, execBarrierLoss, hp, hl, hd], by rw [hs], by rw [hs], by rw [hc], ha⟩

end Sys2Proof.Machine
end

section
/-! SUPPORT. Supplies: the supplies and the die temperature at their limits (chapter 12) -/

namespace Sys2Proof.Machine

open Sys2Proof

/-- Settles O11: with the field die running and the limit passed, each row's condition holds and its effect is written out. -/
theorem suppliesAreReported : Obligations.SuppliesAreReported := by
  refine ⟨?_, ?_, ?_, ?_, ?_, ?_, ?_, ?_⟩
  · intro mv s v hr hmv hv
    subst hv
    simp [exec, execLpOff, hr, hmv, lpFail]
  · intro mv s v hr hmv hv
    subst hv
    simp [exec, execLpOvervoltage, hr, hmv, lpFail]
  · intro s v hr hv
    subst hv
    simp [exec, execLpReversed, hr, lpFail]
  · intro mv s hr hoff h1 h2
    simp [exec, execLpBack, hr, hoff, Nat.not_lt.mpr h1, Nat.not_lt.mpr h2]
  · intro mv s v hr hmv hv
    subst hv
    have hin : ¬ (18000 ≤ mv ∧ mv ≤ 30000) := by omega
    simp only [exec, execLsFault, hr, Bool.not_true, Bool.false_or, Bool.and_eq_true, decide_eq_true_eq, hin, if_false]
    split <;> rfl
  · intro mv s v hr hls h1 h2 hv
    subst hv
    rcases hls with h | h <;> simp [exec, execLsOk, hr, h, Nat.not_lt.mpr h1, Nat.not_lt.mpr h2, dieCleared]
  · intro temp s hr hh ht
    simp [exec, execDieOvertemp, hr, hh, Int.not_lt.mpr ht, State.reason]
  · intro temp s v hr hh ht hv
    subst hv
    simp [exec, execDieCool, hr, hh, Int.not_le.mpr ht, dieCleared]

end Sys2Proof.Machine
end

section
/-! SUPPORT. ChannelFaults: trips, retries and acknowledgements of the channels (R282 to R291) -/

namespace Sys2Proof.Machine

open Sys2Proof

/-! ### Channels under the operations on faults -/

theorem chan_of_field {s t : State} (h : t.field = s.field) (n : Nat) : chan t n = chan s n := by
  simp [chan, h]

theorem State.onChan_chans_length (s : State) (n : Nat) (f : Chan → Chan) :
    (s.onChan n f).field.chans.length = s.field.chans.length := setAt_length _ _ _

@[simp] theorem postChFault_field (s : State) (code : Nat) (ch : Word) : (postChFault s code ch).field = s.field :=
  (postChFault_kept (kp := (· == .field)) s code ch (Kept.refl _ s) rfl rfl rfl).same .field rfl

@[simp] theorem postChFault_time (s : State) (code : Nat) (ch : Word) : (postChFault s code ch).time = s.time :=
  (postChFault_kept (kp := (· == .time)) s code ch (Kept.refl _ s) rfl rfl rfl).same .time rfl

@[simp] theorem warnFollow_field (s : State) (r : Nat) (on : Bool) : (warnFollow s r on).field = s.field := by
  have h : Kept (· == .field) s (warnFollow s r on) := by simp [Kept.refl]
  exact h.same .field rfl

@[simp] theorem replaceRaise_field (s : State) (r : Nat) (b : Bool) : (replaceRaise s r b).field = s.field := by
  have h : Kept (· == .field) s (replaceRaise s r b) := by simp [Kept.refl]
  exact h.same .field rfl

/-- What a trip records of its channel (R284). -/
def Chan.TrippedBy (c : Chan) (code t : Nat) : Prop := c.tripOff = true ∧ c.lastTrip = code ∧ c.tripT = t

/-- A thermal trip counts, and leaves what the trip recorded. -/
theorem thermalTrip_trippedBy {s : State} {n code t : Nat} (hn : n < s.field.chans.length)
    (h : (chan s n).TrippedBy code t) : (chan (thermalTrip s n) n).TrippedBy code t ∧
      (thermalTrip s n).field.chans.length = s.field.chans.length := by
  have hf : (thermalTrip s n).field =
      (s.onChan n (fun c => { c with thermCnt := sat16 c.thermCnt, cooled := false })).field := by
    unfold thermalTrip
    dsimp only
    split <;> simp
  rw [chan_of_field hf, hf, chan_onChan _ _ _ hn]
  exact ⟨h, State.onChan_chans_length _ _ _⟩

theorem latchFault_trippedBy {s : State} {n code t : Nat} (code' : Nat) (hn : n < s.field.chans.length)
    (h : (chan s n).TrippedBy code t) : (chan (latchFault s n code') n).TrippedBy code t := by
  have hf : (latchFault s n code').field = (s.onChan n (fun c => { c with latched := code' })).field := by
    simp [latchFault]
  rw [chan_of_field hf, chan_onChan _ _ _ hn]
  exact h

/-- A trip turns the driver off and is recorded, whether it latches or not (R284, R286). -/
theorem tripFault_trippedBy {s : State} {n : Nat} (code : Nat) (hn : n < s.field.chans.length) :
    (chan (tripFault s n code) n).TrippedBy code s.time.line := by
  unfold tripFault
  extract_lets c retries s1 s2 max
  have h1 : (chan s1 n).TrippedBy code s.time.line ∧ s1.field.chans.length = s.field.chans.length := by
    refine ⟨?_, State.onChan_chans_length _ _ _⟩
    rw [chan_onChan _ _ _ hn]
    exact ⟨rfl, rfl, rfl⟩
  have h2 : (chan s2 n).TrippedBy code s.time.line ∧ s2.field.chans.length = s.field.chans.length := by
    unfold s2
    split
    · obtain ⟨ht, hl⟩ := thermalTrip_trippedBy (h1.2 ▸ hn) h1.1
      exact ⟨ht, hl.trans h1.2⟩
    · exact h1
  have hn2 : n < s2.field.chans.length := h2.2 ▸ hn
  repeat' split
  · exact h2.1
  · exact latchFault_trippedBy code hn2 h2.1
  · exact latchFault_trippedBy code hn2 h2.1
  · exact h2.1

/-! ### The rows -/

theorem exec_channelFaultDetect {s : State} {n code : Nat} (hr : fieldRuns s = true) (hb : s.supply.barrierDown = false)
    (ha : codeApplies s n code = true) (hc : (chan s n).faults.contains code = false) :
    exec (.channelFaultDetect n code) s = .next (
      if isTrip (diagMode s n) code && !(chan s n).tripOff then
        tripFault (wake (postChFault (s.onChan n (fun c => { c with faults := c.faults ++ [code] })) code (word n)) 9) n code
      else wake (postChFault (s.onChan n (fun c => { c with faults := c.faults ++ [code] })) code (word n)) 9) := by
  simp only [exec, execChannelFaultDetect, hr, hb, ha, faultActive, hc, Bool.not_true, Bool.or_self, Bool.false_eq_true,
    if_false]

theorem exec_faultRetry {s : State} {n : Nat} (ht : (chan s n).tripOff = true) (hl : (chan s n).latched = 0)
    (h9 : (chan s n).lastTrip ≠ 9) (hw : (chan s n).waitCool = false) :
    exec (.faultRetry n) s =
      .next ((s.reach ((chan s n).tripT + 10000000 * cfgF s 5 (16 * n + 2) 0 8)).onChan n (fun c =>
        if c.lastTrip == 5 && !c.cooled then { c with waitCool := true } else { c with tripOff := false })) := by
  simp [exec, execFaultRetry, ht, hl, h9, hw]

theorem chan_reach (s : State) (t n : Nat) : chan (s.reach t) n = chan s n := rfl

theorem faultRetry_completes {s : State} {n : Nat} (hn : n < s.field.chans.length) (ht : (chan s n).tripOff = true)
    (hl : (chan s n).latched = 0) (h9 : (chan s n).lastTrip ≠ 9) (hw : (chan s n).waitCool = false) :
    Completes (.faultRetry n) s (fun t =>
      t.time.line = reachLine s.time.line ((chan s n).tripT + 10000000 * cfgF s 5 (16 * n + 2) 0 8) ∧
      ((chan s n).lastTrip ≠ 5 ∨ (chan s n).cooled = true → (chan t n).tripOff = false) ∧
      ((chan s n).lastTrip = 5 → (chan s n).cooled = false →
        (chan t n).tripOff = true ∧ (chan t n).waitCool = true)) := by
  refine ⟨_, exec_faultRetry ht hl h9 hw, by simp, ?_⟩
  generalize (chan s n).tripT + 10000000 * cfgF s 5 (16 * n + 2) 0 8 = at_
  rw [chan_onChan _ _ _ (by exact hn), chan_reach]
  refine ⟨fun h => ?_, fun h5 hc => ?_⟩
  · rcases h with h | h <;> simp [h]
  · simp [h5, hc, ht]

theorem exec_reverseFeedEnd {s : State} {n : Nat} (h9 : (chan s n).lastTrip = 9) (ht : (chan s n).tripOff = true)
    (hl : (chan s n).latched = 0) (hlp : s.supply.lpOff = false) :
    exec (.reverseFeedEnd n) s = .next (faultCleared (s.onChan n (fun c =>
      { c with tripOff := false, faults := c.faults.filter (fun x => x != 9) })) n 9) := by
  simp [exec, execReverseFeedEnd, h9, ht, hl, codeJudged, hlp]

/-! ### Acknowledgements and the safe command -/

theorem exec_chfltAck {s : State} {via : Path} (w : Word) (h : pathOpen s via = true) :
    exec (.chfltAck via w) s = .next (ackMask (acting s via) w) := by
  simp [exec, execChfltAck, served, h, regChflt, regWrite, accNow, acting]

theorem exec_ackAll {s : State} {via : Path} (h : pathOpen s via = true) (hm : s.mode.mode ≠ .minimal) :
    exec (.ackAll via) s = .next (ackMask (acting s via) 0xFFFF) := by
  simp [exec, execAckAll, served, h, regSafecmd, regWrite_eq hm, bitOf]

theorem exec_safecmdEnter {s : State} {via : Path} (h : pathOpen s via = true) (hm : s.mode.mode ≠ .minimal) :
    exec (.safecmdEnter via) s = .next (trigger (acting s via) 4 0x0901) := by
  simp [exec, execSafecmdEnter, served, h, regSafecmd, regWrite_eq hm, bitOf]

/-- In RUN every trigger takes the device to SAFE with its REASON (R300). -/
theorem trigger_of_run {s : State} (t : Nat) (r : Word) (h : s.mode.mode = .run) :
    (trigger s t r).mode.mode = .safe ∧ (trigger s t r).mode.reason = r := by
  have hm : (markTrigger s t).mode.mode = .run := h
  simp [trigger, triggerHw, hm]

/-- Settles O12: detection and clearing of a code, and what tripFault, the retries and the acknowledgements write. -/
theorem channelFaultsTripAndClear : Obligations.ChannelFaultsTripAndClear := by
  refine ⟨fun n code s v hr hb ha hc hv => ?_, fun n code s hr hb hc hj ho => ?_,
    fun n s hn ht hl h9 hw => faultRetry_completes hn ht hl h9 hw, fun n s hn hw => ?_, fun n s hr => ?_,
    fun n s h9 ht hl hlp => exec_reverseFeedEnd h9 ht hl hlp, fun via w s h hm => ?_⟩
  · subst hv
    have he := exec_channelFaultDetect hr hb ha hc
    refine ⟨fun h => ?_, fun htrip hoff => ?_⟩
    · rw [he]
      rcases h with h | h <;> simp [h]
    · rw [htrip, hoff, Bool.not_false, Bool.and_self, if_pos rfl] at he
      refine ⟨he, fun hn => ⟨_, he, ?_⟩⟩
      have hlen : n < (wake (postChFault (s.onChan n (fun c => { c with faults := c.faults ++ [code] })) code
          (word n)) 9).field.chans.length := by
        rw [wake_field, postChFault_field, State.onChan_chans_length]
        exact hn
      have h := tripFault_trippedBy code hlen
      simp only [wake_time, postChFault_time, State.onChan_time] at h
      exact h
  · have hopen : (code == (chan s n).lastTrip && (chan s n).tripOff && (chan s n).latched == 0) = false := by
      rcases ho with h | h | h <;> simp [h]
    simp only [exec, execChannelFaultClear, hr, hb, hc, hj, hopen, Bool.not_true, Bool.or_self, Bool.false_eq_true, if_false]
  · refine ⟨_, rfl, ?_⟩
    simp [chan_onChan _ _ _ hn, hw]
  · simp only [exec, execRetryCountReset, hr, if_true]
  · refine ⟨exec_chfltAck w h, exec_ackAll h hm, exec_safecmdEnter h hm, fun hrun => ⟨_, exec_safecmdEnter h hm, ?_⟩⟩
    exact trigger_of_run 4 0x0901 (by simpa using hrun)

end Sys2Proof.Machine
end

section
/-! SUPPORT. Watchdogs: answers and errors of the challenge watchdogs (R390 to R402) -/

namespace Sys2Proof.Machine

open Sys2Proof

/-! ### The host watchdog -/

/-- An answer of a served path is judged behind the path's access (R392). -/
theorem exec_wdhAnswer {s : State} {via : Path} (w : Word) (h : pathOpen s via = true) :
    exec (.wdhAnswer via w) s = .next (wdhAnswer (acting s via) w) := by
  simp [exec, execWdhAnswer, served, h, writeWdhAnswer, acting, accNow]

theorem Dog.st_of_isOpen {d : Dog} {now : Nat} (h : d.isOpen now = true) : d.st = .run := by
  simp only [Dog.isOpen, Bool.and_eq_true, beq_iff_eq] at h
  exact h.1

theorem wdhLate_of_not_over {s : State} (h : s.wdog.h.isOver s.time.line = false) : wdhLate s = s := by
  simp [wdhLate, h]

theorem wdhAnswer_of_open {s : State} {w : Word} (hl : s.wdog.h.isOver s.time.line = false)
    (ho : s.wdog.h.isOpen s.time.line = true) :
    wdhAnswer s w = if w = token s.wdog.h.q s.wdog.h.seed then wdhServed s else wdhError s 3 := by
  simp [wdhAnswer, wdhLate_of_not_over hl, Dog.st_of_isOpen ho, ho]

theorem wdhAnswer_of_closed {s : State} (w : Word) (hl : s.wdog.h.isOver s.time.line = false) (hr : s.wdog.h.st = .run)
    (ho : s.wdog.h.isOpen s.time.line = false) : wdhAnswer s w = wdhError s 1 := by
  simp [wdhAnswer, wdhLate_of_not_over hl, hr, ho]

theorem wdhAnswer_of_expired {s : State} {w : Word} (hl : s.wdog.h.isOver s.time.line = false)
    (he : s.wdog.h.st = .expired) (hw : w = token s.wdog.h.q s.wdog.h.seed) :
    wdhAnswer s w = freezeCheck (releaseTrigger (wdhNext { s with
      wdog := { s.wdog with h := { s.wdog.h with st := .run, errors := 0 } } }) 1) := by
  simp [wdhAnswer, wdhLate_of_not_over hl, he, hw]

/-- An error before the third counts, and the next question is asked (R392, R393). -/
theorem wdhError_facts {s : State} (kind : Nat) (he : s.wdog.h.errors < 2) :
    (wdhError s kind).wdog.early = (s.wdog.early || kind == 1) ∧ (wdhError s kind).wdog.late = (s.wdog.late || kind == 2) ∧
      (wdhError s kind).wdog.wrong = (s.wdog.wrong || kind == 3) ∧
      (wdhError s kind).wdog.h.errors = s.wdog.h.errors + 1 ∧ (wdhError s kind).wdog.h.st = s.wdog.h.st ∧
      (wdhError s kind).wdog.h.q = nextQ s.wdog.h.q := by
  simp [wdhError, Dog.endCycle, Nat.not_le.mpr he, wdhNext, Dog.cycle]

theorem wdhError_of_third {s : State} (kind : Nat) (he : 2 ≤ s.wdog.h.errors) :
    wdhError s kind = wdhExpire { s with wdog := { s.wdog with
      early := s.wdog.early || kind == 1, late := s.wdog.late || kind == 2, wrong := s.wdog.wrong || kind == 3
      h := s.wdog.h.endCycle } } := by
  simp [wdhError, Dog.endCycle, he]

theorem exec_wdhPeriodEnd {s : State} (hr : s.wdog.h.st = .run) (hf : s.wdog.h.frozen = none) :
    exec .wdhPeriodEnd s = .next (wdhError (s.reach (s.wdog.h.startT + s.wdog.h.frozenNs + s.wdog.h.per)) 2) := by
  simp [exec, execWdhPeriodEnd, hr, hf]

/-- A freeze leaves state, errors and question of a watchdog. -/
theorem freezeDog_facts (s : State) (d : Dog) (b : Bool) :
    (freezeDog s d b).st = d.st ∧ (freezeDog s d b).errors = d.errors ∧ (freezeDog s d b).q = d.q := by
  unfold freezeDog
  split <;> exact ⟨rfl, rfl, rfl⟩

theorem wdhAnswer_completes {via : Path} {w : Word} {s : State} {P : State → Prop} (h : pathOpen s via = true)
    (hP : P (wdhAnswer (acting s via) w)) : Completes (.wdhAnswer via w) s P :=
  ⟨_, exec_wdhAnswer w h, hP⟩

/-! ### The core watchdog -/

theorem wdcLate_of_in_time {s : State} (h : s.wdog.c.isOver s.time.line = false ∨ s.wdog.cRest = true) :
    wdcLate s = s := by
  rcases h with h | h <;> simp [wdcLate, h]

theorem exec_wdcAnswer_of_token {s : State} {w : Word} (hc : coreRuns s = true)
    (hl : s.wdog.c.isOver s.time.line = false ∨ s.wdog.cRest = true) (ho : s.wdog.c.isOpen s.time.line = true)
    (hw : w = token s.wdog.c.q s.wdog.c.seed) :
    exec (.wdcAnswer w) s =
      .next (wdcNext { s with wdog := { s.wdog with c := { s.wdog.c with errors := s.wdog.c.errors - 1 } } }) := by
  simp [exec, execWdcAnswer, wdcLate_of_in_time hl, Dog.st_of_isOpen ho, hc, ho, hw]

theorem wdcError_facts {s : State} (he : s.wdog.c.errors < 2) :
    (wdcError s).wdog.c.errors = s.wdog.c.errors + 1 ∧ (wdcError s).wdog.cErrs = sat16 s.wdog.cErrs ∧
      (wdcError s).wdog.c.q = nextQ s.wdog.c.q ∧ (wdcError s).evq = s.evq := by
  simp [wdcError, Dog.endCycle, Nat.not_le.mpr he, wdcNext, Dog.cycle]

theorem wdcTrigger_frame (s : State) (fatal : Bool) :
    Kept (fun p => p == .mem || p == .txn || p == .upd) s (wdcTrigger s fatal) := by
  simp [Kept.refl]

/-- Settles O13: an answer is served, counted as an error, or takes the watchdog out of EXPIRED; the ends of the periods
and of the freezes at their instants. -/
theorem watchdogsJudgeAnswers : Obligations.WatchdogsJudgeAnswers := by
  refine ⟨fun via w s hp hl => ⟨fun ho hw => ?_, fun ho hw he => ?_, fun hr ho he => ?_, fun he hw => ?_⟩,
    fun s hr ho hf => ?_, fun s hr hf => ⟨fun he => ?_, fun he => ?_⟩,
    fun w s hc hl ho hw => exec_wdcAnswer_of_token hc hl ho hw, fun s hr hf hrest he => ?_,
    fun s hc hp => ?_, fun f s => ⟨fun hf => ?_, fun hf => ?_⟩⟩
  · apply wdhAnswer_completes hp
    rw [wdhAnswer_of_open (by simpa using hl) (by simpa using ho), if_pos (by simpa using hw)]
    simp [wdhServed, wdhNext, Dog.cycle, Dog.endCycle, Dog.st_of_isOpen ho]
  · apply wdhAnswer_completes hp
    rw [wdhAnswer_of_open (by simpa using hl) (by simpa using ho), if_neg (by simpa using hw)]
    obtain ⟨-, -, hwrong, herr, hst, hq⟩ := wdhError_facts (s := acting s via) 3 (by simpa using he)
    simp only [acting_wdog] at hwrong herr hst hq
    exact ⟨by simp [hwrong], herr, hst.trans (Dog.st_of_isOpen ho), hq⟩
  · apply wdhAnswer_completes hp
    rw [wdhAnswer_of_closed w (by simpa using hl) (by simpa using hr) (by simpa using ho)]
    obtain ⟨hearly, -, -, herr, hst, hq⟩ := wdhError_facts (s := acting s via) 1 (by simpa using he)
    simp only [acting_wdog] at hearly herr hst hq
    exact ⟨by simp [hearly], herr, hst.trans hr, hq⟩
  · apply wdhAnswer_completes hp
    rw [wdhAnswer_of_expired (by simpa using hl) (by simpa using he) (by simpa using hw)]
    simp only [freezeCheck, freezeDog_facts]
    simp [releaseTrigger, wdhNext, Dog.cycle, Dog.endCycle]
  · simp [exec, execWdhWindowOpen, hr, ho, hf]
  · refine ⟨_, exec_wdhPeriodEnd hr hf, ?_⟩
    obtain ⟨-, hlate, -, herr, hst, hq⟩ :=
      wdhError_facts (s := s.reach (s.wdog.h.startT + s.wdog.h.frozenNs + s.wdog.h.per)) 2 (by exact he)
    exact ⟨by simp [hlate], herr, hst.trans hr, hq⟩
  · rw [exec_wdhPeriodEnd hr hf, wdhError_of_third 2 (by exact he)]
    simp
  · exact ⟨wdcError (s.reach (s.wdog.c.startT + s.wdog.c.frozenNs + s.wdog.c.per)), by
      simp [exec, execWdcPeriodEnd, hr, hf, hrest], wdcError_facts (by exact he)⟩
  · have hx : exec .fatalException s = .next (wdcTrigger (markExpiry (post s 0x32 0 s.mode.reason)) true) := by
      simp [exec, execFatalException, hc, hp]
    have hk := wdcTrigger_frame (markExpiry (post s 0x32 0 s.mode.reason)) true
    exact ⟨⟨_, hx, rfl, (hk.same .mem rfl).trans (by simp [markExpiry]), (hk.same .txn rfl).trans (by simp [markExpiry])⟩, hx⟩
  · simp only [exec, execFreezeLimit, hf, Bool.false_eq_true, if_false]
  · simp only [exec, execFreezeLimit, hf, if_true]

end Sys2Proof.Machine
end

section
/-! SUPPORT. Holdup: the holdup, PWRFAIL_N and SAFE_REQ_N (R246 to R249, R493) -/

namespace Sys2Proof.Machine

open Sys2Proof

/-! ### Health reasons -/

/-- The modes but for REST and REASON, which a health reason may change. -/
def ModeState.steady (m : ModeState) : ModeState := { m with rest := false, reason := 0 }

theorem replaceRaise_steady (s : State) (r : Nat) (b : Bool) :
    (replaceRaise s r b).mode.steady = s.mode.steady ∧ (replaceRaise s r b).health.holdCt = s.health.holdCt := by
  unfold replaceRaise
  split
  · exact ⟨rfl, rfl⟩
  · dsimp only
    split <;> simp [ModeState.steady, State.reason]

theorem warnRaise_steady (s : State) (r : Nat) :
    (warnRaise s r).mode.steady = s.mode.steady ∧ (warnRaise s r).health.holdCt = s.health.holdCt := by
  unfold warnRaise
  split
  · exact ⟨rfl, rfl⟩
  · simp [ModeState.steady]

theorem warnFollow_steady (s : State) (r : Nat) (b : Bool) :
    (warnFollow s r b).mode.steady = s.mode.steady ∧ (warnFollow s r b).health.holdCt = s.health.holdCt := by
  unfold warnFollow
  split
  · exact warnRaise_steady s r
  · exact ⟨rfl, rfl⟩

theorem healthHold_steady (s : State) :
    (healthHold s).mode.steady = s.mode.steady ∧ (healthHold s).health.holdCt = s.health.holdCt := by
  unfold healthHold
  dsimp only
  split
  · obtain ⟨h1, h2⟩ := warnFollow_steady s 4 (chargeAbove s (cfgF s 0xE 6 0 10))
    obtain ⟨h3, h4⟩ := replaceRaise_steady (warnFollow s 4 (chargeAbove s (cfgF s 0xE 6 0 10))) 4 false
    exact ⟨h3.trans h1, h4.trans h2⟩
  · exact warnFollow_steady s 4 _

/-- A warning that is clear is raised, once, with an event (R493). -/
theorem warnRaise_of_clear {s : State} {r : Nat} (h : s.health.warn.toNat / 2 ^ r % 2 = 0) (hr : s.mode.rest = false) :
    (warnRaise s r).health = { s.health with warn := s.health.warn ||| BitVec.ofNat 7 (2 ^ r) } ∧
      (warnRaise s r).mode = s.mode ∧ (warnRaise s r).time = s.time := by
  have hn : ¬ (s.health.warn.toNat / 2 ^ r % 2 == 1) = true := by simp [h]
  rw [warnRaise, if_neg hn]
  refine ⟨by simp, ?_, by simp⟩
  dsimp only
  rw [post_mode, wake_of_rest _ (by exact hr)]

theorem toNat_div_two_pow_mod_two {w : Nat} (x : BitVec w) (n : Nat) :
    (x.toNat / 2 ^ n % 2 == 1) = x.getLsbD n := by
  simp [BitVec.getLsbD, Nat.testBit_eq_decide_div_mod_eq, beq_eq_decide]

/-- After a raise its bit stands, whether it stood before or not. -/
theorem replaceRaise_bit (s : State) (b : Bool) : (replaceRaise s 4 b).health.replace.getLsbD 4 = true := by
  unfold replaceRaise
  rw [toNat_div_two_pow_mod_two]
  split
  · assumption
  · simp

/-! ### The sampled holdup -/

/-- The holdup's voltage as sampled (R246). -/
def holdSampled (s : State) (mv : Nat) : State :=
  { s with mode := { s.mode with holdMv := Nat.min 0xFFFF mv, holdLow := decide (mv < cfgF s 1 5 0 16) } }

/-- The holdup with its charge time measured as well. -/
def holdCharged (s : State) (mv age : Nat) : State :=
  { holdSampled s mv with health := { s.health with holdCt := Nat.min 0xFFFE age } }

theorem exec_holdSenseSample {s : State} (mv age : Nat) (hp : s.mode.porst = false) (hl : s.mode.logicReset = false) :
    exec (.holdSenseSample mv age) s = .next (
      if !decide (mv < cfgF s 1 5 0 16) && s.health.holdCt == 0xFFFF then healthHold (holdCharged s mv age)
      else holdSampled s mv) := by
  rw [exec, execHoldSenseSample, if_neg (by simp [hp, hl])]
  dsimp only
  split <;> rfl

theorem healthHold_holdCharged (s : State) (mv age : Nat) :
    (healthHold (holdCharged s mv age)).mode.holdMv = Nat.min 0xFFFF mv ∧
      (healthHold (holdCharged s mv age)).mode.holdLow = decide (mv < cfgF s 1 5 0 16) ∧
      (healthHold (holdCharged s mv age)).health.holdCt = Nat.min 0xFFFE age := by
  obtain ⟨hm, hct⟩ := healthHold_steady (holdCharged s mv age)
  have hmv := congrArg ModeState.holdMv hm
  have hlow := congrArg ModeState.holdLow hm
  exact ⟨hmv, hlow, hct⟩

theorem holdSenseSample_completes {s : State} (mv age : Nat) (hp : s.mode.porst = false) (hl : s.mode.logicReset = false) :
    Completes (.holdSenseSample mv age) s (fun t =>
      t.mode.holdMv = Nat.min 0xFFFF mv ∧ t.mode.holdLow = decide (mv < cfgF s 1 5 0 16) ∧
      (s.health.holdCt = 0xFFFF → cfgF s 1 5 0 16 ≤ mv → t.health.holdCt = Nat.min 0xFFFE age) ∧
      (s.health.holdCt ≠ 0xFFFF ∨ mv < cfgF s 1 5 0 16 → t.health.holdCt = s.health.holdCt)) := by
  refine ⟨_, exec_holdSenseSample mv age hp hl, ?_⟩
  split
  · next h =>
    simp only [Bool.and_eq_true, Bool.not_eq_true', decide_eq_false_iff_not, beq_iff_eq] at h
    obtain ⟨hmv, hlow, hct⟩ := healthHold_holdCharged s mv age
    exact ⟨hmv, hlow, fun _ _ => hct, fun hn => absurd hn (by simp [h.1, h.2])⟩
  · next h =>
    simp only [Bool.and_eq_true, Bool.not_eq_true', decide_eq_false_iff_not, beq_iff_eq, not_and, Nat.not_lt] at h
    exact ⟨rfl, rfl, fun hct hle => absurd hct (h hle), fun _ => rfl⟩

/-! ### The power-fail warning -/

@[simp] theorem putTrace_persist (s : State) (source code : Byte) (arg : Nat) :
    (putTrace s source code arg).trace.persist = s.trace.persist := by
  unfold putTrace
  split <;> rfl

@[simp] theorem post_persist (s : State) (code argx : Nat) (arg : Word) :
    (post s code argx arg).trace.persist = s.trace.persist := by
  simp [post]

theorem lossCommit_facts (s : State) : (lossCommit s).mode.steady = s.mode.steady ∧
    (lossCommit s).trace.persist = s.trace.persist := by
  unfold lossCommit
  split
  · unfold commitFail
    dsimp only
    split <;> simp [ModeState.steady, State.reason]
  · exact ⟨rfl, rfl⟩

/-- The work of a power loss notes the mark and at most one page (R247, R506). -/
theorem lossWork_facts (s : State) : (lossWork s).mode.pwrfail = s.mode.pwrfail ∧ (lossWork s).mode.pwrT = s.mode.pwrT ∧
    (lossWork s).trace.persist = s.trace.persist := by
  unfold lossWork
  dsimp only
  repeat' split
  all_goals exact ⟨rfl, rfl, rfl⟩

/-- The work is done where the core runs; with it or without it the power loss stands. -/
theorem ite_lossWork_facts (c : Prop) [Decidable c] (s : State) :
    (if c then lossWork s else s).mode.pwrfail = s.mode.pwrfail ∧ (if c then lossWork s else s).mode.pwrT = s.mode.pwrT ∧
      (if c then lossWork s else s).trace.persist = s.trace.persist := by
  split
  · exact lossWork_facts s
  · exact ⟨rfl, rfl, rfl⟩

theorem lossCommit_pwrfail (s : State) :
    (lossCommit s).mode.pwrfail = s.mode.pwrfail ∧ (lossCommit s).mode.pwrT = s.mode.pwrT := by
  obtain ⟨h, -⟩ := lossCommit_facts s
  have hpf := congrArg ModeState.pwrfail h
  have hpt := congrArg ModeState.pwrT h
  exact ⟨hpf, hpt⟩

theorem heldTrigger_pwrfail (s : State) (t : Nat) (r : Word) :
    (heldTrigger s t r).mode.pwrfail = s.mode.pwrfail ∧ (heldTrigger s t r).mode.pwrT = s.mode.pwrT := by
  obtain ⟨m, x, b, c, h⟩ := heldTrigger_mode s t r
  rw [h]
  exact ⟨rfl, rfl⟩

theorem pwrfailAssert_completes {s : State} (hp : s.mode.porst = false) (hf : s.mode.pwrfail = false) :
    Completes .pwrfailAssert s (fun t =>
      t.mode.pwrfail = true ∧ t.mode.pwrT = s.time.line ∧ t.trace.persist = none) := by
  refine ⟨_, if_neg (by simp [hp, hf]), ?_⟩
  simp only [ite_lossWork_facts]
  simp [lossCommit_facts, lossCommit_pwrfail, heldTrigger_pwrfail, apply_ite State.mode, lossRecord]

/-- What the end of a power loss starts again leaves the modes, but for a false start forgiven, and the transactions. -/
theorem lossEnd_frame (s : State) :
    Kept (fun p => p == .mode || p == .txn) (stableFs s) (flashRun (autoCommitStart (stableFs s))) := by
  simp [Kept.refl]

theorem exec_pwrfailRelease {s : State} (hp : s.mode.porst = false) (hf : s.mode.pwrfail = true) :
    ∃ u : State, u.mode = { s.mode with pwrfail := false } ∧ u.txn = { s.txn with gasped := false } ∧
      exec .pwrfailRelease s = .next (flashRun (autoCommitStart (stableFs (bypassCheck u)))) := by
  refine ⟨_, ?_, ?_, if_neg (by simp [hp, hf])⟩ <;>
  · dsimp only
    split <;> rfl

theorem bypassCheck_frame (s : State) : Kept (· != .link) s (bypassCheck s) := by simp [Kept.refl]

theorem pwrfailRelease_completes {s : State} (hp : s.mode.porst = false) (hf : s.mode.pwrfail = true) :
    Completes .pwrfailRelease s (fun t =>
      t.mode.pwrfail = false ∧ t.txn.gasped = false ∧ t.mode.mode = s.mode.mode) := by
  obtain ⟨u, hm, ht, hx⟩ := exec_pwrfailRelease hp hf
  have hb := bypassCheck_frame u
  have hbm : (bypassCheck u).mode = u.mode := hb.same .mode rfl
  have hbt : (bypassCheck u).txn = u.txn := hb.same .txn rfl
  have hst : (stableFs (bypassCheck u)).txn = (bypassCheck u).txn :=
    (stableFs_kept (kp := (· == .txn)) _ (Kept.refl _ _) rfl).same .txn rfl
  have h := lossEnd_frame (bypassCheck u)
  have hem := (h.same .mode rfl).trans (stableFs_mode _)
  have het := ((h.same .txn rfl).trans hst).trans (hbt.trans ht)
  rw [hbm, hm] at hem
  exact ⟨_, hx, by rw [hem], by rw [het], by rw [hem]⟩

/-- Settles O15: the samples, the two pins and the holdup's ages, each by what its operations write. -/
theorem holdupPinsAreServed : Obligations.HoldupPinsAreServed := by
  refine ⟨fun mv age s hp hl => holdSenseSample_completes mv age hp hl, fun s hp hf => pwrfailAssert_completes hp hf,
    fun s hp hf => pwrfailRelease_completes hp hf, fun s v hp hf hv => ?_, fun s v hp hf hv => ?_,
    fun s hp hct hr hw => ?_, fun s hp hct => ?_⟩
  · subst hv
    rw [exec, execSafeReqAssert, if_neg (by simp [hp, hf])]
    unfold heldTrigger
    rfl
  · subst hv
    simp only [exec, execSafeReqRelease, hp, hf, Bool.not_true, Bool.or_self, Bool.false_eq_true, if_false]
  · obtain ⟨hh, hm, ht⟩ := warnRaise_of_clear
      (s := s.reach (s.mode.porT + 1000000000 * cfgF s 0xE 6 0 10)) (r := 4) (by exact hw) (by exact hr)
    have hx : exec .holdWarnExpiry s =
        .next (warnRaise (s.reach (s.mode.porT + 1000000000 * cfgF s 0xE 6 0 10)) 4) := by
      simp only [exec, execHoldWarnExpiry, hp, hct, bne_self_eq_false, Bool.or_self, Bool.false_eq_true, if_false]
    exact ⟨_, hx, by rw [hh]; rfl, by rw [hh]; rfl, hm, by rw [ht]; rfl⟩
  · have hx : exec .holdReplExpiry s =
        .next (replaceRaise (s.reach (s.mode.porT + 1000000000 * cfgF s 0xE 7 0 10)) 4 false) := by
      simp only [exec, execHoldReplExpiry, hp, hct, bne_self_eq_false, Bool.or_self, Bool.false_eq_true, if_false]
    exact ⟨hx, _, hx, replaceRaise_bit _ _⟩

end Sys2Proof.Machine
end

section
/-! SUPPORT. ModeCommands: the mode commands by a register and by the line, and the entry into REST (R236 to R245) -/

namespace Sys2Proof.Machine

open Sys2Proof

set_option Elab.async false

/-! ### The modes but for REST and REASON -/

/-- A post or another kept operation keeps the modes that are compared here. -/
theorem epochHealth_steady (s : State) : (epochHealth s).mode.steady = s.mode.steady := by
  have h1 := (warnFollow_steady s 5 (0xF0000 ≤ s.sec.epoch)).1
  unfold epochHealth
  dsimp only
  split
  · exact (replaceRaise_steady _ 5 false).1.trans h1
  · exact h1

theorem raiseEpoch_steady (s : State) : (raiseEpoch s).mode.steady = s.mode.steady := by
  unfold raiseEpoch
  split
  · rfl
  · dsimp only
    rw [epochHealth_steady]
    split <;> simp [ModeState.steady, State.reason]

theorem takeNonce_steady (s : State) : (takeNonce s).2.mode.steady = s.mode.steady := by
  unfold takeNonce
  dsimp only
  split
  · exact raiseEpoch_steady s
  · rfl

theorem askSeal_steady (out s : State) (t : Txn) (h : out.mode = s.mode) :
    (askSeal out s t).mode.steady = s.mode.steady := by
  have hn := takeNonce_steady s
  unfold askSeal
  dsimp only
  split
  · rw [h]
  · split
    · exact hn
    · exact hn

/-- The end of a transaction, with whatever answer, changes no mode but REST and REASON. -/
theorem finishTxn_steady (s : State) (t : Txn) : (finishTxn s t).mode.steady = s.mode.steady := by
  unfold finishTxn
  dsimp only
  split
  · split
    · rfl
    · rw [post_mode]
  · split
    · rfl
    · exact askSeal_steady _ s t rfl

theorem endTxn_steady (s : State) (id status : Nat) (resp : List Byte) (e : Bool) :
    (endTxn s id status resp e).mode.steady = s.mode.steady := by
  unfold endTxn
  split
  · exact finishTxn_steady s _
  · rfl

@[simp] theorem complete_mode (s : State) (p : Path) (d : Descriptor) (outcome result : Nat) :
    (complete s p d outcome result).mode = s.mode :=
  (complete_kept (kp := (· == .mode)) s p d outcome result (Kept.refl _ s) rfl rfl).same .mode rfl

theorem srcEnd_steady (s : State) (f : Requester) (outcome result status : Nat) (resp : List Byte) :
    (srcEnd s f outcome result status resp).mode.steady = s.mode.steady := by
  unfold srcEnd
  split
  · rw [complete_mode]
  · exact endTxn_steady s _ status resp false

theorem foldl_srcRefuse_steady (l : List Requester) (code : Nat) (s : State) :
    (l.foldl (fun s f => srcRefuse s f code) s).mode.steady = s.mode.steady := by
  induction l generalizing s with
  | nil => rfl
  | cons f r ih => exact (ih _).trans (srcEnd_steady s f outRefused code 0x0F (leBytes 2 code))

theorem xferAbandon_steady (s : State) : (xferAbandon s).mode.steady = s.mode.steady :=
  foldl_srcRefuse_steady _ _ _

theorem restEnd_steady (s : State) (b : Bool) : (restEnd s b).mode.steady = s.mode.steady := by
  unfold restEnd
  split
  · split
    · simp [ModeState.steady]
    · simp [ModeState.steady]
  · rfl

/-! ### A mode command by a register -/

theorem commitHalf_cmds (s : State) :
    (commitHalf s).bus.cmdHost = s.bus.cmdHost ∧ (commitHalf s).bus.cmdSlave = s.bus.cmdSlave := by
  unfold commitHalf
  split
  · exact ⟨rfl, rfl⟩
  · exact ⟨rfl, rfl⟩

/-- An access leaves the queues of commands as they are. -/
theorem acting_cmds (s : State) (p : Path) :
    (acting s p).bus.cmdHost = s.bus.cmdHost ∧ (acting s p).bus.cmdSlave = s.bus.cmdSlave := by
  cases p
  · exact commitHalf_cmds s
  · exact ⟨rfl, rfl⟩
  · exact ⟨rfl, rfl⟩

@[simp] theorem coreWork_acting (s : State) (p : Path) (l : List Txn) : coreWork (acting s p) l = coreWork s l := by
  simp [coreWork, acting_cmds]

theorem modeRefusalIn_acting (m : Mode) (l : List Txn) (s : State) (p : Path) (c : Nat) :
    modeRefusalIn m l (acting s p) c = modeRefusalIn m l s c := by
  simp only [modeRefusalIn, resumeOk, pastStaging, cfgB, cfgF, acting_mode, acting_safe, acting_supply, acting_wdog,
    acting_cfg, acting_upd, coreWork_acting]
  rfl

/-- The state in which an accepted command of a register takes its effect. -/
def commanded (s : State) (p : Path) (c : Nat) : State :=
  { acting s p with mode := { s.mode with cmd := c, result := 2 } }

theorem modecmdTake_of_awake {s : State} (p : Path) {w : Word} (h : s.mode.rest = false) :
    modecmdTake (hostAccess s p) (accNow s p) w = acting s p := by
  have hr : (acting s p).mode.rest = false := by simpa using h
  have hb : beginWrite (hostAccess s p) (accNow s p).path = acting s p := rfl
  unfold modecmdTake
  rw [hb]
  split
  · exact wake_of_rest _ hr
  · rfl

theorem modeCommandIn_of_zero {m : Mode} {l : List Txn} {s : State} {c : Nat} (h : modeRefusalIn m l s c = 0) :
    modeCommandIn m l s c = (modeEffect { s with mode := { s.mode with cmd := c, result := 2 } } c, 0) := by
  simp only [modeCommandIn, h, bne_self_eq_false, Bool.false_eq_true, if_false]

theorem modeRow_reg {s : State} {p : Path} {c : Nat} (hp : pathOpen s p = true) (hr : s.mode.rest = false)
    (hw : modeCodeOk (word c) = true) (hc : cmdCode (word c) = c) (h0 : modeRefusal s c = 0) :
    modeRow s (.reg p) c = .next (modeEffect (commanded s p c) c) := by
  have hd : modeRefusalIn (accNow s p).mode (acting s p).txn.held (acting s p) c = 0 := by
    rw [modeRefusalIn_acting, acting_txn]
    exact h0
  simp only [modeRow, served, hp, if_true, regModecmd, modecmdTake_of_awake p hr, modecmdRun, List.foldl, hw, hc,
    modeCommand, modeCommandIn_of_zero hd, acting_mode, commanded]

@[simp] theorem commanded_mode (s : State) (p : Path) (c : Nat) :
    (commanded s p c).mode = { s.mode with cmd := c, result := 2 } := rfl

/-! ### The effects -/

@[simp] theorem endJog_mode (s : State) (b : Bool) : (endJog s b).mode = s.mode :=
  (endJog_kept (kp := (· == .mode)) s b (Kept.refl _ s) rfl rfl rfl rfl).same .mode rfl

@[simp] theorem endJog_cyc (s : State) (b : Bool) : (endJog s b).cyc = s.cyc :=
  (endJog_kept (kp := (· == .cyc)) s b (Kept.refl _ s) rfl rfl rfl rfl).same .cyc rfl

@[simp] theorem leaveSafe_mode (s : State) : (leaveSafe s).mode = s.mode := rfl

theorem calAbort_change_mode (s : State) (m : Mode) : (calAbortStep (changeMode s m)).mode = { s.mode with mode := m } :=
  have h : Kept (· == .mode) (changeMode s m) (calAbortStep (changeMode s m)) := by simp [Kept.refl]
  (h.same .mode rfl).trans (changeMode_mode s m)

theorem calAbort_change_cyc (s : State) (m : Mode) : (calAbortStep (changeMode s m)).cyc = s.cyc :=
  have h : Kept (· == .cyc) s (calAbortStep (changeMode s m)) := by simp [Kept.refl]
  h.same .cyc rfl

theorem enterRun_mode (s : State) : (enterRun s).mode = { s.mode with mode := .run, runAtApply := false } := by
  unfold enterRun
  simp [calAbort_change_mode]

theorem enterRun_missRun (s : State) : (enterRun s).cyc.missRun = 0 := by
  unfold enterRun
  simp [calAbort_change_cyc]

theorem goSetup_mode (s : State) : (modeEffect s 1).mode = { s.mode with mode := .setup } := by
  unfold modeEffect
  simp [apply_ite State.mode]

/-- A trigger takes effect in SETUP as in RUN, with its REASON (R299). -/
theorem trigger_of_run_or_setup {s : State} (t : Nat) (r : Word) (h : s.mode.mode = .run ∨ s.mode.mode = .setup) :
    (trigger s t r).mode = { s.mode with mode := .safe, reason := r, runAtApply := false, rest := false } := by
  have hm : (markTrigger s t).mode = s.mode := rfl
  rcases h with h | h <;> simp [trigger, triggerHw, hm, h]

theorem requestedFs_modeOf (s : State) (cause : ResetCause) : (requestedFs s cause).mode.mode = s.mode.mode := by
  unfold requestedFs
  split
  · rfl
  · split <;> rfl

theorem coreOutputs_modeOf (s : State) (cause : ResetCause) : (coreOutputs s cause).mode.mode = s.mode.mode := by
  have h (x : State) : (pauseEnd x).mode = x.mode := (pauseEnd_kept (kp := (· == .mode)) x (Kept.refl _ x) rfl rfl).same .mode rfl
  cases cause <;> simp [coreOutputs, h]

theorem ModeState.mode_of_steady {m n : ModeState} (h : m.steady = n.steady) : m.mode = n.mode :=
  (congrArg ModeState.mode h :)

theorem coreEnter_modeBefore (s : State) (cause : ResetCause) : (coreEnter s cause).mode.modeBefore = s.mode.mode := by
  have hb (x : State) : (refresh (wdhCheck x)).mode = x.mode := (wdhCheck_refresh_kept x).same .mode rfl
  have hd (x : State) (f : CryptoFor → Bool) : (cryptoDrop x f).mode = x.mode := by simp [cryptoDrop]
  have hw (x : State) : (staCoreEnd (wdcStop x)).mode = x.mode :=
    have h : Kept (· == .mode) x (staCoreEnd (wdcStop x)) := by simp [Kept.refl]
    h.same .mode rfl
  have ha (x : State) : (busyAbandon x).mode = x.mode :=
    (busyAbandon_kept (kp := (· == .mode)) x (Kept.refl _ x) rfl).same .mode rfl
  refine (congrArg ModeState.modeBefore (hb _)).trans ?_
  dsimp only
  rw [hd, ModeState.mode_of_steady (xferAbandon_steady _), hw, ModeState.mode_of_steady (restEnd_steady _ _), endJog_mode, ha,
    coreOutputs_modeOf, requestedFs_modeOf]

/-! ### REST begins -/

theorem wdhCheck_cRest (s : State) : (wdhCheck s).wdog.cRest = s.wdog.cRest := by
  unfold wdhCheck
  repeat' split
  all_goals rfl

theorem restEnter_facts (s : State) : (restEnter s).mode =
    { s.mode with rest := true, restPending := false, restSince := s.time.line } ∧
    (restEnter s).trace.dropped = 0 ∧ (restEnter s).wdog.cRest = (s.wdog.c.st == .run) := by
  have ht (x : State) : (adcRestart (wdhCheck (postQ x 0x15 0 0))).trace = x.trace :=
    (adcRestart_kept (kp := (· == .trace)) _ (wdhCheck_kept _ (postQ_kept x 0x15 0 0 (Kept.refl _ x) rfl) rfl rfl) rfl).same
      .trace rfl
  have hw (x : State) : (adcRestart x).wdog = x.wdog :=
    (adcRestart_kept (kp := (· == .wdog)) x (Kept.refl _ x) rfl).same .wdog rfl
  unfold restEnter
  dsimp only
  refine ⟨by simp, by rw [ht], ?_⟩
  rw [hw, wdhCheck_cRest]
  simp

/-! ### A mode command by the line -/

/-- Of a mode word only bits 0 to 3 and 6 to 15 are judged, and every code of the table names its command. -/
theorem modeRow_line {b a : Bool} {tag c : Nat} {t : Txn} {s u : State} (h : Held s b a tag 0x0D t)
    (hf : fieldAt t.data 0 2 = c) (hw : modeCodeOk (word c) = true) (hc : cmdCode (word c) = c)
    (h0 : modeRefusalIn s.mode.mode (dropTxn s.txn.held t.id) s c = 0)
    (hu : u = modeEffect { s with mode := { s.mode with cmd := c, result := 2 } } c) :
    modeRow s (.line b a tag) c = .next (endTxn u t.id 0 (wordsToBytes [modeWord u]) true) := by
  subst hu
  rw [modeRow, withTxn_eq h]
  simp only [hf, hw, hc, bne_self_eq_false, Bool.and_false, Bool.false_eq_true, if_false, modeLine, Bool.not_true,
    modeCommandIn_of_zero h0, beq_self_eq_true, if_true]

/-- Settles O14: the effect of each mode command by a register and by the line, and the entry into REST. -/
theorem modeCommandsTakeEffect : Obligations.ModeCommandsTakeEffect := by
  refine ⟨fun p s hp hr h0 => ⟨_, modeRow_reg hp hr rfl rfl h0, by simp [goSetup_mode]⟩,
    fun p s hp hr h0 => ⟨_, modeRow_reg hp hr rfl rfl h0, ?_⟩,
    fun p s hp hr hm hc => ⟨_, modeRow_reg hp hr rfl rfl ?_, ?_⟩,
    fun p s hp hr hm hc hk => ⟨_, modeRow_reg hp hr rfl rfl ?_, ?_⟩,
    fun p s hp hr hm hc => ⟨_, modeRow_reg hp hr rfl rfl ?_, ?_⟩,
    fun p s hp hr hm hc => ⟨_, modeRow_reg hp hr rfl rfl ?_, ?_⟩,
    fun p s hp hr h0 => ⟨_, modeRow_reg hp hr rfl rfl h0, ?_⟩,
    fun p s hp hr hc => ⟨_, modeRow_reg hp hr rfl rfl ?_, ?_⟩,
    fun s hr hc => ⟨_, by rw [exec, execRestEntry, hr, hc]; rfl, ?_⟩,
    fun b a tag c t s u v h hf h0 hu hv => ?_⟩
  · simp [modeEffect, enterRun_mode, enterRun_missRun]
  · rcases hm with h | h <;> simp [modeRefusal, modeRefusalIn, hc, h]
  · have ht : (modeEffect (commanded s p 3) 3).mode = _ := trigger_of_run_or_setup 4 0x0901 hm
    simp [ht]
  · simp [modeRefusal, modeRefusalIn, hc, hm, hk]
  · simp [modeEffect, enterRun_mode]
  · rcases hm with h | h <;> simp [modeRefusal, modeRefusalIn, hc, h]
  · obtain ⟨h1, h2, h3⟩ := coreEnter_mode_facts (commanded s p 5) .goMinimal
    exact ⟨h1, h2, h3, coreEnter_modeBefore (commanded s p 5) .goMinimal⟩
  · simp [modeRefusal, modeRefusalIn, hc, hm]
  · exact coreEnter_mode_facts (commanded s p 6) .reboot
  · simp [modeEffect, hr]
  · simp [modeRefusal, modeRefusalIn, hc]
  · simp [modeEffect]
  · obtain ⟨h1, h2, h3⟩ := restEnter_facts s
    simp [h1, h2, h3]
  · subst hv
    refine ⟨?_, ?_, ?_, ?_, ?_, ?_, ?_, ?_⟩ <;> rintro rfl <;> exact modeRow_line h hf rfl rfl h0 hu

end Sys2Proof.Machine
end

section
/-! SUPPORT. Frames: what a frame that a port takes does, by its TYPE and the role (R66 to R76) -/

namespace Sys2Proof.Machine

open Sys2Proof

set_option Elab.async false

/-! ### A row of a frame type, on a frame that passes -/

theorem rowFrame_of_passes {ok : Bool} {p : Port} {f : LineFrame} {out : Option Port} {s : State} (r : List Word)
    (h : Passes s p f out) (hok : ok = true) :
    rowFrame ok p f r s = .next (typedFrame (takenIn s p f) (passageOf s p f out) r) := by
  rw [rowFrame, if_pos hok, frameIn_eq p f r out s h]

theorem typedFrame_heat {s : State} {x : Passage} {r : List Word} (h : frameType x.f.body = 1) :
    typedFrame s x r = heatFrame s x := by simp [typedFrame, h]

theorem typedFrame_baton {s : State} {x : Passage} {r : List Word} (h : frameType x.f.body = 2) :
    typedFrame s x r = batonFrame s x := by simp [typedFrame, h]

theorem typedFrame_count {s : State} {x : Passage} {r : List Word} (h : frameType x.f.body = 3) :
    typedFrame s x r = countFrameIn s x := by simp [typedFrame, h]

theorem typedFrame_rsvd {s : State} {x : Passage} {r : List Word} (h : rsvdType (frameType x.f.body) = true) :
    typedFrame s x r = leave s x x.f.body := by
  have h' : frameType x.f.body = 0 ∨ 6 < frameType x.f.body := by simpa [rsvdType] using h
  unfold typedFrame
  split
  all_goals first | rfl | omega

@[simp] theorem passageOf_frame (s : State) (p : Port) (f : LineFrame) (out : Option Port) : (passageOf s p f out).f = f := rfl

@[simp] theorem passageOf_good (s : State) (p : Port) (f : LineFrame) (out : Option Port) :
    (passageOf s p f out).good = decide (verdict f = .good) := rfl

/-! ### A frame of its own type, by the role -/

theorem exec_heatReceive {p : Port} {f : LineFrame} {out : Option Port} {s : State} (h : Passes s p f out)
    (ht : frameType f.body = 1) (hr : s.mode.role ≠ .starter) :
    exec (.heatReceive p f) s = .next (heatFrame (takenIn s p f) (passageOf s p f out)) := by
  rw [exec, execHeatReceive, rowFrame_of_passes [] h (by simp [ht, hr]), typedFrame_heat ht]

theorem exec_heatReturn {p : Port} {f : LineFrame} {out : Option Port} {s : State} (h : Passes s p f out)
    (ht : frameType f.body = 1) (hr : s.mode.role = .starter ∨ s.mode.role = .anchor) :
    exec (.heatReturn p f) s = .next (heatFrame (takenIn s p f) (passageOf s p f out)) := by
  rw [exec, execHeatReturn, rowFrame_of_passes [] h (by simpa [ht] using hr), typedFrame_heat ht]

theorem exec_batonReceive {p : Port} {f : LineFrame} {out : Option Port} {s : State} (h : Passes s p f out)
    (ht : frameType f.body = 2) (hr : s.mode.role ≠ .starter) :
    exec (.batonReceive p f) s = .next (batonFrame (takenIn s p f) (passageOf s p f out)) := by
  rw [exec, execBatonReceive, rowFrame_of_passes [] h (by simp [ht, hr]), typedFrame_baton ht]

theorem exec_batonReturn {p : Port} {f : LineFrame} {out : Option Port} {s : State} (h : Passes s p f out)
    (ht : frameType f.body = 2) (hr : s.mode.role = .starter ∨ s.mode.role = .anchor) :
    exec (.batonReturn p f) s = .next (batonFrame (takenIn s p f) (passageOf s p f out)) := by
  rw [exec, execBatonReturn, rowFrame_of_passes [] h (by simpa [ht] using hr), typedFrame_baton ht]

theorem heatFrame_of_anchor {s : State} (x : Passage) (h : s.mode.role = .anchor) : heatFrame s x = heatAtAnchor s x := by
  simp only [heatFrame, h]

/-- Settles O17: what a heat and a baton do at a node, at an anchor and at the starter whose own they are. -/
theorem heatsAndBatonsPassOrReturn : Obligations.HeatsAndBatonsPassOrReturn := by
  refine ⟨fun p f out s h ht => ?_, fun p f out s h ht => ?_⟩
  · have hr := takenIn_role s p f
    refine ⟨fun hn => ?_, fun ha => ⟨?_, ?_⟩, fun hs hl ho => ⟨fun hv => ?_, fun hv => ?_⟩⟩
    · rw [exec_heatReceive h ht (by simp [hn]), heatFrame]
      simp only [hr, hn]
    · rw [exec_heatReceive h ht (by simp [ha]), heatFrame_of_anchor _ (hr.trans ha)]
    · rw [exec_heatReturn h ht (.inr ha), heatFrame_of_anchor _ (hr.trans ha)]
    · rw [exec_heatReturn h ht (.inl hs), heatFrame]
      simp [hr, hs, lineWorks, hl, ho, hv]
    · rw [exec_heatReturn h ht (.inl hs), heatFrame]
      simp [hr, hs, lineWorks, hl, ho, hv]
  · have hr := takenIn_role s p f
    refine ⟨fun hn => ?_, fun ha => ⟨exec_batonReceive h ht (by simp [ha]), exec_batonReturn h ht (.inr ha)⟩,
      fun hs ho => ⟨fun hl hv => ?_, fun hv => ?_⟩⟩
    · rw [exec_batonReceive h ht (by simp [hn]), batonFrame]
      simp [hr, hn]
    · rw [exec_batonReturn h ht (.inl hs), batonFrame]
      simp [hr, hs, lineWorks, hl, ho, hv]
    · rw [exec_batonReturn h ht (.inl hs), batonFrame]
      rcases hv with hv | hv <;> simp [hr, hs, lineWorks, ho, hv]

/-! ### A frame by the port's state -/

theorem frameIn_of_plain {s : State} {p : Port} (f : LineFrame) (r : List Word) (hu : isUp s p = true)
    (hp : s.mode.porst = false) (ha : s.inj.armed = none) (hh : s.inj.heldFrame = none) :
    frameIn s p f r = passFrame s p f r := by
  simp [frameIn, hu, hp, injFrame, ha, hh]

theorem isUp_emitted {s : State} {q : Port} (l : List SentFrame) (h : isUp s q = true) : (lport (emitAll s q l) q).sent = l := by
  rw [emitAll, if_pos h]
  cases q <;> rfl

/-- Settles O16: the dispatch of a frame by the state of its port, by its type and by the role. -/
theorem framesDoWhatTheirTypeSays : Obligations.FramesDoWhatTheirTypeSays := by
  refine ⟨fun p f r s => ⟨fun h => ?_, fun hu hp ha hh => ⟨fun hk => ?_, fun hk hw => ?_⟩, fun out h => ?_⟩,
    fun p f out s h ht => ⟨fun hn => ?_, fun ha => ?_, fun hs hl => ?_⟩,
    fun p f r out s h => ⟨fun ht => ?_, fun ht => ?_, fun ht => ?_⟩, fun p f out s h ht => ?_⟩
  · rw [exec, execFrameForward, frameIn, if_pos]
    rcases h with h | h <;> simp [h]
  · rw [exec, execFrameForward, frameIn_of_plain f r hu hp ha hh, passFrame]
    exact congrArg _ (if_pos hk)
  · rw [exec, execFrameForward, frameIn_of_plain f r hu hp ha hh, passFrame]
    have hw' := hw
    simp only [arrived, atEnd] at hk hw'
    simp only [hk, hw', Bool.false_eq_true, if_false]
    rfl
  · rw [exec, execFrameForward, frameIn_eq p f r out s h]
  · rw [exec, execCountReceive, rowFrame_of_passes [] h (by simp [ht, hn]), typedFrame_count ht, countFrameIn]
    simp only [takenIn_role, hn]
  · rw [exec, execCountReceive, rowFrame_of_passes [] h (by simp [ht, ha]), typedFrame_count ht, countFrameIn]
    simp only [takenIn_role, ha, passageOf_frame]
    rfl
  · rw [exec, execCountReturn, rowFrame_of_passes [] h (by simp [ht, hs]), typedFrame_count ht, countFrameIn]
    simp [takenIn_role, hs, lineWorks, hl]
  · rw [exec, execSyncFrame, rowFrame_of_passes r h (by simp [ht])]
    simp [typedFrame, ht]
  · rw [exec, execRelayReceive, rowFrame_of_passes [] h (by simp [ht])]
    simp [typedFrame, ht]
  · rw [exec, execLoopbackNoticeFrame, rowFrame_of_passes [] h (by simp [ht])]
    simp [typedFrame, ht]
  · have hx : exec (.rsvdTypeFrame p f) s = .next (leave (takenIn s p f) (passageOf s p f out) f.body) := by
      rw [exec, execRsvdTypeFrame, rowFrame_of_passes [] h ht, typedFrame_rsvd (x := passageOf s p f out) ht, passageOf_frame]
    refine ⟨hx, fun q hq he hu => ⟨_, hx, ?_⟩⟩
    subst hq
    have hl : leave (takenIn s p f) (passageOf s p f (some q)) f.body =
        emitAll (takenIn s p f) q [wholeFrame f.body (leaveOrigin (takenIn s p f) (passageOf s p f (some q)))] :=
      if_neg (by simp [he])
    rw [hl, isUp_emitted _ hu]
    rfl

end Sys2Proof.Machine
end

section
/-! SUPPORT. LineTimeRows: the SYNC source, a missing interval and the PLL (R42 to R56) -/

namespace Sys2Proof.Machine

open Sys2Proof

set_option Elab.async false

/-! ### The SYNC source -/

@[simp] theorem emit_time (s : State) (p : Port) (b : List Byte) (o : Option Nat) : (emit s p b o).time = s.time :=
  (emit_kept (kp := (· == .time)) s p b o (Kept.refl _ s) rfl).same .time rfl

/-- The SYNC source once it has sent at instant t1, in units of 1/64 ns: its sequence counted on, its frame remembered (R47). -/
def sourceSent (s : State) (t1 : Nat) : State :=
  let mark : SyncMark :=
    { seq := s.time.srcSeq, epoch := s.time.epochT, anchor := s.mode.role == .anchor, t1 := some t1
      t2 := none, t3 := none, t4 := none, corr := 0 }
  { s with time := { s.time with
    srcSeq := (s.time.srcSeq + 1) % 65536, firstSent := true, syncT := t1 / 64 / 4 * 4, prev := some mark } }

theorem exec_syncSend {s : State} (h : isSource s = true) : ∃ t1 : Nat, exec .syncSend s =
    .next (emit (sourceSent (s.reach (syncDue s)) t1) (if s.mode.role == .starter then .b else .a)
      (ownSync (s.reach (syncDue s))) none) := by
  rw [exec, execSyncSend, if_neg (by simp [h])]
  exact ⟨_, rfl⟩

theorem emit_sent {s : State} {p : Port} (b : List Byte) (o : Option Nat) (h : isUp s p = true) :
    (lport (emit s p b o) p).sent = [wholeFrame b o] := isUp_emitted _ h

theorem syncSend_completes {s : State} (h : isSource s = true) :
    Completes .syncSend s (fun t =>
      t.time.line = reachLine s.time.line (syncDue s) ∧
      t.time.srcSeq = (s.time.srcSeq + 1) % 65536 ∧ t.time.firstSent = true ∧
      t.time.prev.map (fun m => m.seq) = some s.time.srcSeq ∧ t.time.epochT = s.time.epochT ∧
      (s.mode.role = .starter → isUp s .b = true →
        (lport t .b).sent = [wholeFrame (ownSync (s.reach (syncDue s))) none]) ∧
      (s.mode.role ≠ .starter → isUp s .a = true →
        (lport t .a).sent = [wholeFrame (ownSync (s.reach (syncDue s))) none])) := by
  obtain ⟨t1, hx⟩ := exec_syncSend h
  refine ⟨_, hx, ?_⟩
  simp only [emit_time]
  refine ⟨rfl, rfl, rfl, rfl, rfl, fun hr hu => ?_, fun hr hu => ?_⟩
  · rw [if_pos (by simp [hr])]
    exact emit_sent (s := sourceSent (s.reach (syncDue s)) t1) _ none hu
  · rw [if_neg (by simp [hr])]
    exact emit_sent (s := sourceSent (s.reach (syncDue s)) t1) _ none hu

/-! ### A missing interval -/

theorem syncMiss_time (s : State) : (syncMiss s).time =
    if s.time.missed = 7 then { holdTime s.time with missed := 8, starterHeard := false, syncMiss := true }
    else { s.time with missed := s.time.missed + 1, starterHeard := false } := by
  unfold syncMiss
  dsimp only
  split
  · next h =>
    have h7 : s.time.missed = 7 := by simpa using h
    rw [if_pos h7]
    split <;> simp [holdTime, h7]
  · next h =>
    have h7 : s.time.missed ≠ 7 := by simpa using h
    rw [if_neg h7]

/-- The interval's end as the SYNC reference of this device, at which nothing came (R51). -/
def intervalMissed (s : State) (n : Nat) : State :=
  let s := s.reach (s.time.syncT + n * periodNs s)
  { s with time := { s.time with syncT := s.time.line } }

theorem exec_syncMissInterval {s : State} {n : Nat} (hn : s.time.syncN = some n) (hl : lineRef s = true)
    (he : s.mode.lineEngine = true) : exec .syncMissInterval s = .next (syncMiss (timeJudge (intervalMissed s n))) := by
  simp only [exec, execSyncMissInterval, hn, hl, he, Bool.and_self, if_true, intervalMissed]

theorem syncMissInterval_completes {s : State} {n : Nat} (hn : s.time.syncN = some n) (hl : lineRef s = true)
    (he : s.mode.lineEngine = true) :
    Completes .syncMissInterval s (fun t => t.time.missed = s.time.missed + 1 ∧ t.time.starterHeard = false ∧
      t.time.line = reachLine s.time.line (s.time.syncT + n * periodNs s) ∧ t.time.syncT = t.time.line ∧
      (s.time.missed = 7 → t.time.syncMiss = true ∧ (t.time.tstate = .hold ∨ t.time.tstate = .unsync))) := by
  refine ⟨_, exec_syncMissInterval hn hl he, ?_⟩
  obtain ⟨x, hx⟩ := timeJudge_time (intervalMissed s n)
  have hm : (intervalMissed s n).time.missed = s.time.missed := rfl
  rw [syncMiss_time, hx]
  by_cases h7 : s.time.missed = 7
  · simp only [hm, h7, if_true, holdTime, true_and]
    refine ⟨rfl, rfl, fun _ => ?_⟩
    split <;> simp
  · simp only [hm, h7, if_false, false_implies, and_true, true_and]
    exact ⟨rfl, rfl⟩

/-! ### The PLL -/

theorem refLost_time (s : State) : (refLost s).time =
    { holdTime s.time with
      pll := if !s.mode.crystal then s.time.pll else if s.time.hasRatio then .holdover else .free
      lockLost := s.time.lockLost || (s.time.pll == .locked) } := by
  unfold refLost
  rw [withTimeOk_time]
  dsimp only
  split <;> simp [holdTime]

theorem refValid_time (s : State) : (refValid s).time =
    if s.time.pll == .free || s.time.pll == .holdover then { meanRestart s.time with pll := .acquire } else s.time := by
  unfold refValid
  split <;> rfl

theorem exec_phaseError {s : State} (hk : s.time.pll = .locked) (hr : refPresent s = true) (hp : s.mode.porst = false) :
    exec .phaseError s = .next (refValid (refLost s)) := by
  simp only [exec, execPhaseError, hk, hr, hp, beq_self_eq_true, Bool.not_false, Bool.and_self, if_true]

theorem phaseError_completes {s : State} (hk : s.time.pll = .locked) (hr : refPresent s = true) (hp : s.mode.porst = false) :
    Completes .phaseError s (fun t => t.time.lockLost = true ∧ t.time.line = s.time.line ∧
      (s.mode.crystal = true → t.time.pll = .acquire ∧ t.time.offsets = [])) := by
  refine ⟨_, exec_phaseError hk hr hp, ?_⟩
  dsimp only
  rw [refValid_time, refLost_time]
  cases hc : s.mode.crystal
  · simp [hk, holdTime]
  · cases hq : s.time.hasRatio <;> simp [hk, holdTime, meanRestart, slewStop]

theorem refRange_completes {s : State} (hl : lineRef s = true) (hc : s.mode.crystal = true) (hr : refPresent s = true)
    (hp : s.mode.porst = false) :
    Completes .refRange s (fun t => t.time.pll = .acquire ∧ t.time.refRange = true ∧ t.mode.reason = 0x0408 ∧
      (s.time.pll = .locked → t.time.lockLost = true)) := by
  refine ⟨_, if_pos (by simp [hl, hc, hr, hp]), ?_⟩
  dsimp only
  rw [post_time, post_mode]
  simp only [State.reason, withTimeOk_time]
  refine ⟨?_, trivial, trivial, fun hk => ?_⟩
  · split <;> simp
  · simp [hk]

/-- Settles O18: the SYNC source's sending, a missing interval, and the PLL's lock and its losses. -/
theorem lineTimeRowsTakeEffect : Obligations.LineTimeRowsTakeEffect := by
  refine ⟨fun s h => syncSend_completes h, fun n s hn hl he => syncMissInterval_completes hn hl he, fun s ha hc hr hp => ?_,
    fun s hk hr hp => ⟨exec_phaseError hk hr hp, phaseError_completes hk hr hp⟩,
    fun s hl hc hr hp => refRange_completes hl hc hr hp⟩
  refine ⟨_, if_pos (by simp [ha, hc, hr, hp]), ?_⟩
  dsimp only
  rw [withTimeOk_time]
  exact ⟨rfl, rfl, rfl⟩

end Sys2Proof.Machine
end

section
/-! SUPPORT. LineTimeRegisters: the writes of LTIME_LATCH (R41) -/

namespace Sys2Proof.Machine

open Sys2Proof

/-- A write of LTIME_LATCH is served in every mode and acts behind the path's access (R41). -/
theorem regLtimeLatch_eq (s : State) (p : Path) (w : Word) :
    regLtimeLatch (hostAccess s p) (accNow s p) w = (latchAct (acting s p) s.mode.mode w, 0) := by
  simp [regLtimeLatch, regWrite, accNow, acting]

theorem exec_ltimeLatch_of_pathOpen {s : State} {p : Path} (h : pathOpen s p = true) :
    exec (.ltimeLatch p) s = .next { acting s p with time := { s.time with
      latch := BitVec.ofNat 64 s.time.line, lseq := (s.time.lseq + 1) % 16 } } := by
  simp [exec, execLtimeLatch, served, h, regLtimeLatch_eq, latchAct, bitOf]

theorem exec_preset_of_pathOpen {s : State} {p : Path} (h : pathOpen s p = true) :
    exec (.preset p) s = .next (if presetOk s s.mode.mode then preset (acting s p)
      else { acting s p with time := { s.time with presetRef := true } }) := by
  have hok : presetOk (acting s p) s.mode.mode = presetOk s s.mode.mode := by simp [presetOk]
  simp [exec, execPreset, served, h, regLtimeLatch_eq, latchAct, bitOf, hok]

/-- Settles O19: LTIME_LATCH's two bits act behind the access of a served path. -/
theorem lineTimeRegistersAct : Obligations.LineTimeRegistersAct := by
  refine ⟨fun p s h => ?_, fun p s h hno => ?_, fun p s h hok => ?_⟩
  · exact ⟨_, exec_ltimeLatch_of_pathOpen h, rfl, rfl, rfl, by simp, by simp⟩
  · exact ⟨_, exec_preset_of_pathOpen h, by simp [hno], by simp [hno]⟩
  · rw [exec_preset_of_pathOpen h, if_pos hok]

end Sys2Proof.Machine
end

section
/-! SUPPORT. CycleInstants: the instants of the cycle and of the starter (R84 to R98) -/

namespace Sys2Proof.Machine

open Sys2Proof

set_option Elab.async false

/-! ### What is due at an instant of the cycle -/

theorem swapFirst_of_none_due {s : State} (h : ∀ a : ArmedSwap, s.cfg.armed = some a → s.time.line < a.instant) :
    swapFirst s = s := by
  unfold swapFirst
  split
  · next a ha => exact if_neg (Nat.not_le.mpr (h a ha))
  · rfl

theorem sampleIfDue_of_due {s : State} (r : List Word) (h : sampleDue s ≤ s.time.line) : sampleIfDue s r = fireSample s r :=
  if_pos h

theorem sampleIfDue_of_not_due {s : State} (r : List Word) (h : s.time.line < sampleDue s) : sampleIfDue s r = s :=
  if_neg (Nat.not_le.mpr h)

theorem applyIfDue_of_due {s : State} (h : applyDue s ≤ s.time.line) : applyIfDue s = fireApply s := if_pos h

theorem exec_sampleInstant (r : List Word) {s : State} (hp : s.mode.porst = false) :
    exec (.sampleInstant r) s = .next (sampleIfDue (swapFirst (s.reach (sampleDue s))) r) :=
  if_neg (by simp [hp])

theorem exec_applyInstant (r : List Word) {s : State} (hp : s.mode.porst = false) :
    exec (.applyInstant r) s = .next (applyIfDue (sampleIfDue (swapFirst (s.reach (applyDue s))) r)) :=
  if_neg (by simp [hp])

/-! ### The snapshot -/

theorem injTrigger_cyc (s : State) : (injTrigger s).cyc = s.cyc :=
  (injTrigger_kept (kp := (· == .cyc)) s (Kept.refl _ s) rfl).same .cyc rfl

theorem injTrigger_time (s : State) : (injTrigger s).time = s.time :=
  (injTrigger_kept (kp := (· == .time)) s (Kept.refl _ s) rfl).same .time rfl

theorem sampleAt_cyc {s : State} (k : Nat) (r : List Word) (hf : s.mode.fieldReset = false) (hl : linkCarries s = true) :
    ∃ v : Snapshot, v.cycle = k % 2 ^ 32 ∧ (sampleAt s k r).cyc = { s.cyc with frozen := some v } := by
  have hn : ¬ s.mode.fieldReset = true := by simp [hf]
  rw [sampleAt, if_neg hn]
  exact ⟨_, rfl, congrArg (fun x => ({ s.cyc with frozen := x } : CycState)) (if_pos hl)⟩

theorem sampleAt_time (s : State) (k : Nat) (r : List Word) : (sampleAt s k r).time = s.time :=
  (sampleAt_kept (kp := (· == .time)) s k r (Kept.refl _ s) rfl rfl).same .time rfl

/-- The sampling freezes the snapshot of its cycle and counts the sample index on. -/
theorem fireSample_facts {s : State} (r : List Word) (hf : s.mode.fieldReset = false) (hl : linkCarries s = true) :
    (fireSample s r).cyc.nextSample = s.cyc.nextSample + 1 ∧ (fireSample s r).time = s.time ∧
    (fireSample s r).cyc.frozen.map (·.cycle) = some (s.cyc.nextSample % 2 ^ 32) ∧ (fireSample s r).cyc.snap = s.cyc.snap := by
  obtain ⟨v, hv, hc⟩ := sampleAt_cyc (s := { s with cyc := { s.cyc with nextSample := s.cyc.nextSample + 1 } })
    s.cyc.nextSample r hf hl
  unfold fireSample
  dsimp only
  split
  · rw [injTrigger_cyc, injTrigger_time, hc, sampleAt_time]
    exact ⟨rfl, rfl, congrArg some hv, rfl⟩
  · rw [hc, sampleAt_time]
    exact ⟨rfl, rfl, congrArg some hv, rfl⟩

theorem sampleInstant_completes {r : List Word} {s : State} (hp : s.mode.porst = false) (hf : s.mode.fieldReset = false)
    (hl : s.mode.logicReset = false) (hb : s.supply.barrierDown = false) (hw : sampleDue s + 4 ≤ 2 ^ 64)
    (ha : ∀ a : ArmedSwap, s.cfg.armed = some a → reachLine s.time.line (sampleDue s) < a.instant) :
    Completes (.sampleInstant r) s (fun t =>
      t.cyc.nextSample = s.cyc.nextSample + 1 ∧ t.time.line = reachLine s.time.line (sampleDue s) ∧
      t.cyc.frozen.map (·.cycle) = some (s.cyc.nextSample % 2 ^ 32) ∧ t.cyc.snap = s.cyc.snap) := by
  have hx := exec_sampleInstant r hp
  rw [swapFirst_of_none_due (s := s.reach (sampleDue s)) ha,
    sampleIfDue_of_due (s := s.reach (sampleDue s)) r (le_reachLine s.time.line (sampleDue s) hw)] at hx
  obtain ⟨h1, h2, h3, h4⟩ := fireSample_facts (s := s.reach (sampleDue s)) r hf
    (by simp [linkCarries, hb, hl, hf])
  exact ⟨_, hx, h1, congrArg TimeState.line h2, h3, h4⟩

/-! ### The commit -/

/-- The state at an apply instant, the next one counted on and the commits up to its cycle taken away (R88). -/
def applyTaken (s : State) : State :=
  { s.reach (applyDue s) with cyc := { s.cyc with
    nextApply := s.cyc.nextApply + 1
    commits := s.cyc.commits.filter (fun x => decide (s.cyc.nextApply < x.cycle)) } }

/-- The commit that is held for the next apply instant, unless commits are discarded. -/
def commitDue (s : State) : Option Commit :=
  if commitsDiscarded s then none else s.cyc.commits.find? (fun x => x.cycle == s.cyc.nextApply)

theorem exec_applyInstant_node {r : List Word} {s : State} (hp : s.mode.porst = false) (hn : s.mode.role = .node)
    (hk : s.cyc.applied < s.cyc.nextApply) (hw : applyDue s + 4 ≤ 2 ^ 64)
    (hd : reachLine s.time.line (applyDue s) < sampleDue s)
    (ha : ∀ a : ArmedSwap, s.cfg.armed = some a → reachLine s.time.line (applyDue s) < a.instant) :
    exec (.applyInstant r) s = .next (match commitDue s with
      | some c => applyCommit (applyTaken s) c
      | none => missRun (applyTaken s) 1) := by
  have h1 : ¬ (s.mode.role != .node || (s.cyc.nextApply ≤ s.cyc.applied && s.cyc.applied != 0)) = true := by
    simp [hn, Nat.not_le.mpr hk]
  rw [exec_applyInstant r hp, swapFirst_of_none_due (s := s.reach (applyDue s)) ha,
    sampleIfDue_of_not_due (s := s.reach (applyDue s)) r hd,
    applyIfDue_of_due (s := s.reach (applyDue s)) (le_reachLine s.time.line (applyDue s) hw), fireApply]
  exact congrArg _ (if_neg h1)

/-! ### The starter's instants -/

theorem stopBy_of_not_stopping {s : State} (t : Nat) (h : s.sta.stopping = none) : stopBy s t = false := by simp [stopBy, h]

theorem exec_outPubSample {s : State} (hm : mayLaunch s = true) (hd : s.sta.sampled = none) (hs : s.sta.stopping = none) :
    exec .outPubSample s = .next (samplePub (s.reach (launchAt s (nextCycle s 2000) - 2000)) (nextCycle s 2000)) := by
  rw [exec, execOutPubSample, if_neg (by simp [hm, hd])]
  simp only [stopBy_of_not_stopping _ hs, Bool.false_eq_true, if_false]

theorem samplePub_facts (s : State) (k : Nat) : (samplePub s k).sta.sampled = some k ∧ (outPub s / 65536 ≠ s.sta.pubSeq →
    (samplePub s k).sta.outBuf = outPub s % 2 ∧ (samplePub s k).sta.noOut = false ∧ (samplePub s k).sta.adopted = true) := by
  unfold samplePub
  dsimp only
  split
  · exact ⟨rfl, fun _ => ⟨rfl, rfl, rfl⟩⟩
  · next h => exact ⟨rfl, fun hn => absurd (bne_iff_ne.mpr hn) h⟩

theorem samplePub_reach_facts (s : State) (t k : Nat) : (samplePub (s.reach t) k).sta.sampled = some k ∧
    (outPub s / 65536 ≠ s.sta.pubSeq → (samplePub (s.reach t) k).sta.outBuf = outPub s % 2 ∧
      (samplePub (s.reach t) k).sta.noOut = false ∧ (samplePub (s.reach t) k).sta.adopted = true) := by
  have ho : outPub (s.reach t) = outPub s := rfl
  simpa only [ho, State.reach_sta] using samplePub_facts (s.reach t) k

theorem exec_heatLaunch {s : State} {v : Plan} (hv : s.sta.plan = some v) (hm : mayLaunch s = true)
    (hs : s.sta.stopping = none) :
    exec .heatLaunch s = .next (launch (s.reach (launchAt s (nextCycle s 0))) v (nextCycle s 0)) := by
  simp [exec, execHeatLaunch, hv, hm, stopBy_of_not_stopping _ hs]

/-- The IN buffer whose deadline is the oldest is due. -/
theorem oldestDue_due {s : State} {c : InCyc} (h : oldestDue s = some c) : c.due = true := by
  have hl (l : List InCyc) (hm : c ∈ l.filter (fun c => c.due)) : c.due = true := (List.mem_filter.mp hm).2
  unfold oldestDue at h
  dsimp only at h
  split at h
  · next a b he =>
    refine hl (s.sta.in0.toList ++ s.sta.in1.toList) ?_
    rw [he, ← Option.some.inj h]
    split <;> simp
  · exact hl _ (List.mem_of_mem_head? h)

/-- With every heat of a due buffer come back, or given up, the buffer is no longer due. -/
theorem readyCheck_sta {s : State} {c : InCyc} (hd : c.due = true) (ha : c.sent.all (fun h => c.back.contains h) = true) :
    (readyCheck s c).sta = (setIn s { c with due := false }).sta := by
  rw [readyCheck, if_pos (by rw [hd, ha]; rfl), post_sta]

theorem all_back (l b : List Nat) :
    l.all (fun h => (l.filter (fun h => !b.contains h) ++ b).contains h) = true := by
  simp only [List.all_eq_true, List.contains_iff_mem, List.mem_append, List.mem_filter, Bool.not_eq_true']
  intro x hx
  by_cases hb : x ∈ b
  · exact .inr hb
  · exact .inl ⟨hx, by simpa using hb⟩

/-- The heats of a buffer that have not come back. -/
def heatsOut (c : InCyc) : List Nat := c.sent.filter (fun h => !c.back.contains h)

/-- The state at the deadline of a buffer, its heats that have not come back given up (R97). -/
def deadlineLost (s : State) (c : InCyc) : State :=
  eachNo (heatsOut c) (fun s h => heatLost s c h 0xFFFF) (s.reach ((c.cycle + 1) * periodNs s + c.plan.launch))

theorem deadlineLost_frame (s : State) (c : InCyc) : Kept (fun p => p == .time || p == .sta)
    (s.reach ((c.cycle + 1) * periodNs s + c.plan.launch)) (deadlineLost s c) :=
  eachNo_kept _ _ _ (fun u hu k => heatLost_kept u c k 0xFFFF hu rfl rfl rfl) (Kept.refl _ _)

theorem deadline_ready_sta {s : State} {c : InCyc} (hd : c.due = true) :
    (readyCheck (deadlineLost s c) { c with back := heatsOut c ++ c.back }).sta =
      (setIn s { c with back := heatsOut c ++ c.back, due := false }).sta := by
  have hs : (deadlineLost s c).sta = s.sta := (deadlineLost_frame s c).same .sta rfl
  rw [readyCheck_sta (c := { c with back := heatsOut c ++ c.back }) hd (all_back c.sent c.back)]
  simp [setIn, hs, apply_ite State.sta]

theorem exec_inReadyDeadline {s : State} {c : InCyc} (hc : oldestDue s = some c) (hl : s.mode.logicReset = false)
    (hs : s.sta.stopping = none) : exec .inReadyDeadline s =
      .next (readyCheck (deadlineLost s c) { c with back := heatsOut c ++ c.back }) := by
  have hstop : (readyCheck (deadlineLost s c) { c with back := heatsOut c ++ c.back }).sta.stopping = none := by
    rw [deadline_ready_sta (oldestDue_due hc), setIn]
    split <;> exact hs
  rw [exec, execInReadyDeadline]
  simp only [hc, hl, Bool.false_eq_true, if_false]
  exact congrArg _ (if_neg (ne_true_of_eq_false (stopBy_of_not_stopping _ hstop)))

theorem inReadyDeadline_completes {s : State} {c : InCyc} (hc : oldestDue s = some c) (hl : s.mode.logicReset = false)
    (hs : s.sta.stopping = none) :
    Completes .inReadyDeadline s (fun t =>
      t.time.line = reachLine s.time.line ((c.cycle + 1) * periodNs s + c.plan.launch) ∧
      (c.cycle % 2 = 0 → t.sta.in0.map (·.due) = some false) ∧ (c.cycle % 2 = 1 → t.sta.in1.map (·.due) = some false)) := by
  refine ⟨_, exec_inReadyDeadline hc hl hs, ?_⟩
  dsimp only
  rw [deadline_ready_sta (oldestDue_due hc)]
  have ht : (readyCheck (deadlineLost s c) { c with back := heatsOut c ++ c.back }).time = (deadlineLost s c).time :=
    (readyCheck_kept (kp := (· == .time)) _ _ (Kept.refl _ _) rfl rfl rfl).same .time rfl
  refine ⟨congrArg TimeState.line (ht.trans ((deadlineLost_frame s c).same .time rfl)), fun h => ?_, fun h => ?_⟩
  · rw [setIn, if_pos (by simp [h])]
    rfl
  · rw [setIn, if_neg (by simp [h])]
    rfl

/-- Settles O20: the cycle's sampling and apply instants and the starter's launch, sampling and deadline. -/
theorem cycleInstantsTakeEffect : Obligations.CycleInstantsTakeEffect := by
  refine ⟨fun r s hp => ⟨exec_sampleInstant r hp, fun hf hl hb hw ha => sampleInstant_completes hp hf hl hb hw ha⟩,
    fun v s hv => ?_, fun r s hp => ⟨exec_applyInstant r hp, fun hn hk hw hd ha => ?_⟩,
    fun s hm hd hs => ⟨exec_outPubSample hm hd hs, _, exec_outPubSample hm hd hs,
      samplePub_reach_facts s _ _⟩,
    fun v s hv hm hs => exec_heatLaunch hv hm hs, fun c s hc hl hs => inReadyDeadline_completes hc hl hs⟩
  · refine ⟨snapshotReady s, rfl, ?_⟩
    rw [snapshotReady, hv]
    exact ⟨rfl, fun h => if_pos h, fun h => if_neg (by simp [h])⟩
  · have hx := exec_applyInstant_node (r := r) hp hn hk hw hd ha
    refine ⟨fun c hd hf => ?_, fun h => ?_⟩
    · rw [hx, show commitDue s = some c from (if_neg (by simp [hd])).trans hf]
      rfl
    · have hnone : commitDue s = none := by
        rcases h with h | h <;> simp [commitDue, h]
      rw [hx, hnone]
      rfl

end Sys2Proof.Machine
end

section
/-! SUPPORT. Ports: the ports of the link, and the events that move them (R24 to R30) -/

namespace Sys2Proof.Machine

open Sys2Proof

set_option Elab.async false

/-! ### The ports of the link -/

theorem otherPort_ne (p : Port) : otherPort p ≠ p := by cases p <;> simp [otherPort]

@[simp] theorem lport_onPort_same (s : State) (p : Port) (f : LinkPort → LinkPort) : lport (s.onPort p f) p = f (lport s p) := by
  cases p <;> rfl

@[simp] theorem lport_onPort_other (s : State) (p : Port) (f : LinkPort → LinkPort) :
    lport (s.onPort p f) (otherPort p) = lport s (otherPort p) := by
  cases p <;> rfl

theorem lport_of_link {s t : State} (p : Port) (h : s.link = t.link) : lport s p = lport t p := by
  cases p <;> simp [lport, h]

@[simp] theorem lport_post (s : State) (code argx : Nat) (arg : Word) (q : Port) : lport (post s code argx arg) q = lport s q :=
  lport_of_link q (post_link s code argx arg)

@[simp] theorem lport_refreshMode (s : State) (q : Port) : lport (refreshMode s) q = lport s q := by
  unfold refreshMode
  split
  · rfl
  · cases q <;> rfl

@[simp] theorem lport_lnkErrors (s : State) (p q : Port) (n : Nat) : lport (lnkErrors s p n) q = lport s q := by
  cases p <;> rfl

@[simp] theorem lport_refValid (s : State) (q : Port) : lport (refValid s) q = lport s q := by
  unfold refValid
  split <;> rfl

@[simp] theorem lport_refLost (s : State) (q : Port) : lport (refLost s) q = lport s q :=
  lport_of_link q ((refLost_kept (kp := (· == .link)) s (Kept.refl _ s) rfl rfl rfl).same .link rfl)

@[simp] theorem lport_settleBegin (s : State) (q : Port) : lport (settleBegin s) q = lport s q := by
  unfold settleBegin
  split <;> rfl

@[simp] theorem lport_lapseRel_other (s : State) (p : Port) : lport (lapseRel s p) (otherPort p) = lport s (otherPort p) := by
  unfold lapseRel
  split
  · cases p <;> rfl
  · rfl

theorem lport_lapseRel_same (s : State) (p : Port) : lport (lapseRel s p) p = { lport s p with relPending := false } := by
  unfold lapseRel
  split
  · cases p <;> rfl
  · next h => rw [← Bool.eq_false_iff.mpr h]

/-- The state once a port that was UP has left it, its fall counted and a pending release given up (R25, R34). -/
def portLeft (s : State) (p : Port) : State :=
  if (lport s p).st == .up then
    lapseRel (counting s (fun s => lnkErrors (s.onPort p (fun l => { l with down := sat16 l.down })) p 100)) p
  else s

/-- A port that goes from its state to another, apart from what training takes (R25). -/
def LinkPort.enter (l : LinkPort) (old new : PortState) (forced : Bool) (now : Nat) : LinkPort :=
  { l with
    st := new
    retrained := if old == .up then forced else if new == .up then false else l.retrained
    cross := if old == .nosig then false else l.cross
    pol := if new == .train then false else l.pol
    upT := if new == .up then now else l.upT
    syncSeen := if new == .up then false else l.syncSeen
    sync00Seen := if new == .up then false else l.sync00Seen
    countSeen := if new == .up then false else l.countSeen
    skip := if old == .up then false else l.skip }

/-- The port, entered, in the state that the transition leaves but for its event. -/
def portEntered (s : State) (p : Port) (new : PortState) (forced : Bool) : State :=
  (portLeft s p).onPort p (fun l => l.enter (lport s p).st new forced (portLeft s p).time.line)

theorem setPortState_of_ne {s : State} {p : Port} {new : PortState} (forced : Bool) (h : (lport s p).st ≠ new) :
    ∃ (n : State → State), setPortState s p new forced =
      n (refreshMode (if new == .train then latchTrain (portEntered s p new forced) p else portEntered s p new forced)) ∧
      ∀ x q, lport (n x) q = lport x q := by
  refine ⟨fun x => if new == .up || (lport s p).st == .up then post x 0x42 (portNo p) (linkStatWord x) else x,
    if_neg (by simp [h]), fun x q => ?_⟩
  dsimp only
  split
  · exact lport_post _ _ _ _ q
  · rfl

@[simp] theorem lport_counting_other (s : State) (p : Port) (g : LinkPort → LinkPort) (n : Nat) :
    lport (counting s (fun s => lnkErrors (s.onPort p g) p n)) (otherPort p) = lport s (otherPort p) := by
  unfold counting
  split
  · rfl
  · rw [lport_lnkErrors, lport_onPort_other]

/-- A link counter of a port counts unless the counters are frozen. -/
theorem lport_counting_same {s : State} (p : Port) (g : LinkPort → LinkPort) (n : Nat) (h : s.link.cntFreeze = false) :
    lport (counting s (fun s => lnkErrors (s.onPort p g) p n)) p = g (lport s p) := by
  rw [counting, if_neg (by simp [h]), lport_lnkErrors, lport_onPort_same]

theorem portLeft_other (s : State) (p : Port) : lport (portLeft s p) (otherPort p) = lport s (otherPort p) := by
  unfold portLeft
  split
  · rw [lport_lapseRel_other, lport_counting_other]
  · rfl

theorem portLeft_of_not_up {s : State} {p : Port} (h : (lport s p).st ≠ .up) : portLeft s p = s := if_neg (by simp [h])

theorem portLeft_of_up {s : State} {p : Port} (h : (lport s p).st = .up) (hf : s.link.cntFreeze = false) :
    lport (portLeft s p) p = { lport s p with down := sat16 (lport s p).down, relPending := false } := by
  rw [portLeft, if_pos (by simp [h]), lport_lapseRel_same, lport_counting_same p _ _ hf]

theorem latchTrain_other (s : State) (p : Port) : lport (latchTrain s p) (otherPort p) = lport s (otherPort p) :=
  lport_onPort_other s p _

/-- A port's move leaves the other port as it is. -/
theorem setPortState_other (s : State) (p : Port) (new : PortState) (forced : Bool) :
    lport (setPortState s p new forced) (otherPort p) = lport s (otherPort p) := by
  by_cases h : (lport s p).st = new
  · rw [setPortState, if_pos (by simp [h])]
  · obtain ⟨n, he, hn⟩ := setPortState_of_ne forced h
    rw [he, hn, lport_refreshMode, apply_ite (lport · (otherPort p)), latchTrain_other, ite_self, portEntered,
      lport_onPort_other, portLeft_other]

/-- Into any state but TRAIN a port goes as `LinkPort.enter` says, -/
theorem setPortState_same {s : State} {p : Port} {new : PortState} (forced : Bool) (h : (lport s p).st ≠ new)
    (ht : new ≠ .train) : lport (setPortState s p new forced) p =
      (lport (portLeft s p) p).enter (lport s p).st new forced (portLeft s p).time.line := by
  obtain ⟨n, he, hn⟩ := setPortState_of_ne forced h
  rw [he, hn, lport_refreshMode, if_neg (by simp [ht]), portEntered, lport_onPort_same]

/-- and into TRAIN with its configured length class and equaliser taken besides (R26). -/
theorem setPortState_train {s : State} {p : Port} (forced : Bool) (h : (lport s p).st ≠ .train) :
    (lport (setPortState s p .train forced) p).st = .train ∧
    (lport (setPortState s p .train forced) p).lenClass = lenClass (portLeft s p) p ∧
    (lport (setPortState s p .train forced) p).boost = ctleBoost (lenClass (portLeft s p) p) := by
  obtain ⟨n, he, hn⟩ := setPortState_of_ne forced h
  rw [he, hn, lport_refreshMode, if_pos (beq_self_eq_true _), latchTrain, lport_onPort_same, portEntered, lport_onPort_same]
  cases p <;> exact ⟨rfl, rfl, rfl⟩

theorem setPortState_st (s : State) (p : Port) (new : PortState) (forced : Bool) :
    (lport (setPortState s p new forced) p).st = new := by
  by_cases h : (lport s p).st = new
  · rw [setPortState, if_pos (by simp [h]), h]
  · by_cases ht : new = .train
    · subst ht
      exact (setPortState_train forced h).1
    · rw [setPortState_same forced h ht]
      rfl

/-! ### Training -/

@[simp] theorem tapClamped_same (s : State) (p q : Port) (tap : Nat) : lport (tapClamped s p tap) q = lport s q := by
  rw [tapClamped, lport_post]
  cases q <;> rfl

/-- The taps that a training comes to, held inside the window of the length class (R27). -/
theorem setTaps_same (s : State) (p : Port) (t1 t2 t3 : Int) : lport (setTaps s p t1 t2 t3) p =
    { lport s p with taps := [clampInt 0 (tapWindow (lport s p).lenClass).1 t1,
        clampInt (-((tapWindow (lport s p).lenClass).2 : Int)) (tapWindow (lport s p).lenClass).2 t2,
        clampInt (-((tapWindow (lport s p).lenClass).2 : Int)) (tapWindow (lport s p).lenClass).2 t3] } := by
  have h (c : Prop) [Decidable c] (x : State) (n : Nat) : lport (if c then x else tapClamped x p n) p = lport x p := by
    split
    · rfl
    · exact tapClamped_same x p p n
  unfold setTaps
  dsimp only
  rw [h, h, h, lport_onPort_same]

theorem trainComplete_facts {s : State} {p : Port} (t1 t2 t3 : Int) (h : (lport s p).st = .train) :
    (lport (setPortState (setTaps s p t1 t2 t3) p .align false) p).taps = (lport (setTaps s p t1 t2 t3) p).taps := by
  have hst : (lport (setTaps s p t1 t2 t3) p).st = .train := by rw [setTaps_same, h]
  rw [setPortState_same false (by simp [hst]) (by simp), portLeft_of_not_up (by simp [hst])]
  rfl

/-! ### UP and down -/

/-- The polarity that alignment finds, taken with its event (R28). -/
def polTaken (s : State) (p : Port) (inv : Bool) : State :=
  if inv && !(lport s p).pol then
    let s := s.onPort p (fun l => { l with pol := true })
    post (s.reason 0x0403) 0x43 1 (linkStatWord s)
  else s

theorem polTaken_facts (s : State) (p : Port) (inv : Bool) : (lport (polTaken s p inv) p).st = (lport s p).st ∧
    (polTaken s p inv).time = s.time ∧ (inv = true → (lport (polTaken s p inv) p).pol = true) := by
  unfold polTaken
  split
  · dsimp only
    rw [lport_post, post_time]
    cases p <;> exact ⟨rfl, rfl, fun _ => rfl⟩
  · next h => exact ⟨rfl, rfl, fun hi => by simpa [hi] using h⟩

theorem alignUp_facts {s : State} {p : Port} (inv : Bool) (h : (lport s p).st = .align) :
    (lport (setPortState (polTaken s p inv) p .up false) p).upT = s.time.line ∧
    (lport (setPortState (polTaken s p inv) p .up false) p).syncSeen = false ∧
    (inv = true → (lport (setPortState (polTaken s p inv) p .up false) p).pol = true) := by
  obtain ⟨hst, ht, hp⟩ := polTaken_facts s p inv
  rw [setPortState_same false (by simp [hst, h]) (by simp), portLeft_of_not_up (by simp [hst, h])]
  exact ⟨congrArg TimeState.line ht, rfl, hp⟩

theorem lossOfSync_facts {s : State} {p : Port} (bad : Nat) (h : (lport s p).st = .up) (hf : s.link.cntFreeze = false) :
    (lport (setPortState (gapErrors s p bad) p .align false) p).down = sat16 (lport s p).down ∧
    (lport (setPortState (gapErrors s p bad) p .align false) p).symErr = satAdd 0xFFFFFFFF (lport s p).symErr bad := by
  have hg : lport (gapErrors s p bad) p = { lport s p with symErr := satAdd 0xFFFFFFFF (lport s p).symErr bad } :=
    lport_counting_same p _ bad hf
  have hst : (lport (gapErrors s p bad) p).st = .up := by rw [hg, h]
  have hfr : (gapErrors s p bad).link.cntFreeze = false := by
    rw [gapErrors, counting, if_neg (by simp [hf])]
    cases p <;> exact hf
  rw [setPortState_same false (by simp [hst]) (by simp), portLeft_of_up hst hfr, hg]
  exact ⟨rfl, rfl⟩

/-- Settles O21: the state that each event of a port moves it to, and what is counted and taken then. -/
theorem portsTrainAndFall : Obligations.PortsTrainAndFall := by
  have hv (c : Prop) [Decidable c] (x : State) (q : Port) : lport (if c then refValid x else x) q = lport x q := by
    rw [apply_ite (lport · q), lport_refValid, ite_self]
  have hl (c : Prop) [Decidable c] (x : State) (q : Port) : lport (if c then refLost x else x) q = lport x q := by
    rw [apply_ite (lport · q), lport_refLost, ite_self]
  have hb (c : Prop) [Decidable c] (x : State) (q : Port) : lport (if c then settleBegin x else x) q = lport x q := by
    rw [apply_ite (lport · q), lport_settleBegin, ite_self]
  refine ⟨fun p s h => ⟨⟨_, if_pos (by simp [h]), ?_⟩, _, if_pos (by simp [h]), ?_⟩,
    fun p t1 t2 t3 s h => ⟨_, if_pos (by simp [h]), ?_⟩,
    fun p inv s h => ⟨⟨_, if_pos (by simp [h]), ?_⟩, _, if_pos (by simp [h]), setPortState_st s p .train false⟩,
    fun p bad s h => ⟨_, if_pos (by simp [h]), ?_⟩, fun p s h => ?_, fun s hr hp => ?_⟩
  · obtain ⟨h1, h2, h3⟩ := setPortState_train (s := s) (p := p) false (by simp [h])
    rw [portLeft_of_not_up (by simp [h])] at h2 h3
    simp only [hv]
    exact ⟨h1, h2, h3, setPortState_other s p .train false⟩
  · dsimp only
    rw [lport_post, post_mode]
    cases p <;> exact ⟨rfl, h, rfl⟩
  · refine ⟨setPortState_st _ p .align false, (trainComplete_facts t1 t2 t3 h).trans ?_⟩
    rw [setTaps_same]
  · simp only [hv, hb]
    exact ⟨setPortState_st _ p .up false, alignUp_facts inv h⟩
  · simp only [hl]
    exact ⟨setPortState_st _ p .align false, fun hf => lossOfSync_facts bad h hf⟩
  · have hx : exec (.lossOfSignal p) s = .next (if lineRef (setPortState s p .nosig false) &&
        refPort (setPortState s p .nosig false) == p then refLost (setPortState s p .nosig false)
        else setPortState s p .nosig false) := by
      rcases h with h | h | h <;> simp only [exec, execLossOfSignal, h]
    exact ⟨_, hx, by simp only [hl]; exact setPortState_st s p .nosig false⟩
  · exact if_pos (by rcases hr with hr | hr <;> simp [hr, hp])

end Sys2Proof.Machine
end

section
/-! SUPPORT. Loops: loops and the bypass (R31 to R39) -/

namespace Sys2Proof.Machine

open Sys2Proof

set_option Elab.async false

/-! ### Loops -/

theorem refreshMode_link_mode (s : State) : (refreshMode s).link.mode = fwdModeOf s := by
  unfold refreshMode
  split
  · next h => exact h.symm
  · rfl

theorem onPort_link_mode (s : State) (p : Port) (f : LinkPort → LinkPort) : (s.onPort p f).link.mode = s.link.mode := by
  cases p <;> rfl

/-- The notices of a loop go out at the other port, and leave its own as it is (R33). -/
theorem sendNotices_facts (s : State) (p : Port) (engaged : Bool) (cause : Nat) :
    lport (sendNotices s p engaged cause) p = lport s p ∧ (sendNotices s p engaged cause).link.mode = s.link.mode ∧
      (sendNotices s p engaged cause).time = s.time := by
  unfold sendNotices ownFrame
  dsimp only
  split
  · exact ⟨rfl, rfl, rfl⟩
  · cases p <;> exact ⟨rfl, rfl, rfl⟩

/-- The mode of a device that engages the loop of a port, its other port UP. -/
theorem fwdModeOf_engaged {s : State} {p : Port} (hr : s.mode.role = .node) (hb : s.link.backwards = false)
    (ho : isUp s (otherPort p) = true) (hp : isUp s p = false) (hl : (lport s p).loop = true) :
    fwdModeOf s = if p = .b then .loopB else .loopA := by
  cases p
  · have hl' : s.link.a.loop = true := hl
    simp only [otherPort] at ho
    simp [fwdModeOf, hr, hb, ho, hp, hl']
  · have hl' : s.link.b.loop = true := hl
    simp only [otherPort] at ho
    simp [fwdModeOf, hr, hb, ho, hl']

/-- The loop of a port held and counted, before the notices go out. -/
def loopTaken (s : State) (p : Port) : State :=
  counting (s.onPort p (fun l => { l with loop := true, relPending := false }))
    (fun s => s.onPort p (fun l => { l with loops := sat16 l.loops }))

theorem loopTaken_same (s : State) (p : Port) : lport (loopTaken s p) p =
    { lport s p with loop := true, relPending := false
                     loops := if s.link.cntFreeze then (lport s p).loops else sat16 (lport s p).loops } := by
  unfold loopTaken counting
  cases p <;> cases hf : s.link.cntFreeze <;> simp [State.onPort, State.setPort, lport, hf]

theorem loopTaken_other (s : State) (p : Port) : lport (loopTaken s p) (otherPort p) = lport s (otherPort p) := by
  unfold loopTaken counting
  split
  · rw [lport_onPort_other]
  · rw [lport_onPort_other, lport_onPort_other]

theorem loopTaken_kept (s : State) (p : Port) :
    (loopTaken s p).mode = s.mode ∧ (loopTaken s p).link.backwards = s.link.backwards := by
  unfold loopTaken counting
  split <;> cases p <;> exact ⟨rfl, rfl⟩

theorem engageLoop_facts {s : State} {p : Port} (cause : Nat) (h : loopCan s p = true) :
    (lport (engageLoop s p cause) p).loop = true ∧
    (engageLoop s p cause).link.mode = (if p = .b then .loopB else .loopA) ∧
    (s.link.cntFreeze = false → (lport (engageLoop s p cause) p).loops = sat16 (lport s p).loops) := by
  have hx : engageLoop s p cause =
      sendNotices (post (refreshMode (loopTaken s p)) 0x45 1 (linkStatWord (refreshMode (loopTaken s p)))) p true cause := rfl
  obtain ⟨h1, h2, -⟩ := sendNotices_facts
    (post (refreshMode (loopTaken s p)) 0x45 1 (linkStatWord (refreshMode (loopTaken s p)))) p true cause
  obtain ⟨hm, hw⟩ := loopTaken_kept s p
  simp only [loopCan, Bool.and_eq_true, beq_iff_eq, Bool.not_eq_true'] at h
  obtain ⟨⟨⟨⟨hr, hb⟩, ho⟩, hp⟩, -⟩ := h
  rw [hx, h1, h2, lport_post, post_link, lport_refreshMode, refreshMode_link_mode, loopTaken_same]
  refine ⟨rfl, fwdModeOf_engaged (by rw [hm, hr]) (by rw [hw, hb]) ?_ ?_ ?_, fun hf => by simp [hf]⟩
  · rw [isUp, loopTaken_other]
    exact ho
  · rw [isUp, loopTaken_same]
    exact hp
  · rw [loopTaken_same]

theorem releaseLoop_facts (s : State) (p : Port) : (lport (releaseLoop s p) p).loop = false ∧
    (lport (releaseLoop s p) p).relPending = false ∧ (releaseLoop s p).time = s.time := by
  have hn (x : State) := sendNotices_facts (post (refreshMode x) 0x45 0 (linkStatWord (refreshMode x))) p false 3
  obtain ⟨h1, -, h3⟩ := hn (s.onPort p (fun l => { l with loop := false, relPending := false }))
  have ht (x : State) : (refreshMode x).time = x.time :=
    (refreshMode_kept (kp := (· == .time)) x (Kept.refl _ x) rfl).same .time rfl
  unfold releaseLoop
  dsimp only
  rw [h1, h3, lport_post, post_time, lport_refreshMode, lport_onPort_same, ht]
  exact ⟨rfl, rfl, by cases p <;> rfl⟩

/-! ### The bypass -/

theorem bypassAssert_facts (s : State) : (bypassAssert s).link.bypass = true ∧ (bypassAssert s).link.bypassDue = false ∧
    (bypassAssert s).mode = s.mode := ⟨rfl, rfl, rfl⟩

/-- A port that no longer owes its bypass notice, at instant t. -/
def bypassTold (s : State) (p : Port) (t : Nat) : State := (s.reach t).onPort p (fun l => { l with bypassDue := false })

theorem bypassTold_facts (s : State) (p : Port) (t : Nat) : devPos (bypassTold s p t) = devPos s ∧
    (bypassTold s p t).time.line = reachLine s.time.line t ∧
    lport (bypassTold s p t) p = { lport s p with bypassDue := false } := by
  cases p <;> exact ⟨rfl, rfl, rfl⟩

theorem exec_bypassNotice {p : Port} {s : State} (hd : (lport s p).bypassDue = true) (hu : (lport s p).st = .up) :
    exec (.bypassNotice p) s = .next (ownFrame (bypassTold s p ((lport s p).upT + loopHold s)) p
      (noticeBody (devPos s) 2 false 3 (reachLine s.time.line ((lport s p).upT + loopHold s)))) := by
  have hg : ((lport s p).bypassDue && (lport s p).st == .up) = true := by simp [hd, hu]
  obtain ⟨h1, h2, -⟩ := bypassTold_facts s p ((lport s p).upT + loopHold s)
  rw [exec, execBypassNotice, if_pos hg, ← h1, ← h2]
  rfl

/-- Settles O22: the engagement and the release of loops, and the bypass's opening, closing and notice. -/
theorem loopsAndBypassFollowTheirConditions : Obligations.LoopsAndBypassFollowTheirConditions := by
  refine ⟨fun p s h => ⟨if_pos h, _, if_pos h, engageLoop_facts _ h⟩, fun p s h => ⟨if_pos h, _, if_pos h, ?_⟩,
    fun s h => ⟨if_pos h, fun he hl hp => ⟨_, if_pos h, ?_⟩⟩,
    fun s hp hb => ⟨_, if_pos (by simp [hp, hb]), bypassAssert_facts s⟩,
    fun p s u hd hu he => ⟨?_, _, exec_bypassNotice hd hu, ?_⟩⟩
  · obtain ⟨h1, h2, h3⟩ := releaseLoop_facts (s.reach (relTime s p)) p
    exact ⟨h1, h2, congrArg TimeState.line h3⟩
  · have hg : bypassCheck { s with link := { s.link with bypassRipe := true } } =
        bypassRelease { s with link := { s.link with bypassRipe := true } } := if_pos (by simp [h, he, hl, hp])
    dsimp only
    rw [hg]
    exact ⟨rfl, rfl⟩
  · obtain ⟨h1, -, -⟩ := bypassTold_facts s p ((lport s p).upT + loopHold s)
    rw [exec_bypassNotice hd hu, he, ← h1]
    rfl
  · obtain ⟨-, -, h3⟩ := bypassTold_facts s p ((lport s p).upT + loopHold s)
    simp [ownFrame, h3]

end Sys2Proof.Machine
end

section
/-! SUPPORT. Notices: notice sets and own frames (R33, R34, R40) -/

namespace Sys2Proof.Machine

open Sys2Proof

set_option Elab.async false

/-! ### Notice sets and own frames -/

/-- A device owes a notice set at its egress: the set passes there. -/
def noticePassed (s : State) (p : Port) (n0 n1 n2 : Byte) : State :=
  match route s p (s.time.line * 64) with
  | some (some q) => s.onPort q (fun l => { l with notice := [n0, n1, n2] })
  | _ => s

theorem exec_loopbackNoticeSet {p : Port} (n0 n1 n2 : Byte) {s : State} (hu : isUp s p = true) (hp : s.mode.porst = false)
    (hl : s.mode.logicReset = false ∨ s.mode.role = .node) :
    exec (.loopbackNoticeSet p n0 n1 n2) s = .next (noticeSetIn (noticePassed s p n0 n1 n2) p n0 n1 n2) := by
  have hm : (noticePassed s p n0 n1 n2).mode = s.mode := by
    unfold noticePassed
    split
    · exact State.onPort_mode s _ _
    · rfl
  rw [exec, execLoopbackNoticeSet, if_neg (by simp [hu, hp])]
  have hg : ¬ ((noticePassed s p n0 n1 n2).mode.logicReset && (noticePassed s p n0 n1 n2).mode.role != .node) = true := by
    rw [hm]
    rcases hl with hl | hl <;> simp [hl]
  exact congrArg _ (if_neg hg)

theorem lport_onPort_notice (s : State) (p q : Port) (x : Nat) :
    (lport (s.onPort p (fun l => { l with noticeT := some x })) q).notice = (lport s q).notice := by
  cases p <;> cases q <;> rfl

theorem lapseRel_notice (s : State) (p q : Port) : (lport (lapseRel s p) q).notice = (lport s q).notice ∧
    (lport (lapseRel s p) q).noticeT = (lport s q).noticeT := by
  unfold lapseRel
  split
  · cases p <;> cases q <;> exact ⟨rfl, rfl⟩
  · exact ⟨rfl, rfl⟩

/-- A node passes a notice set on and keeps only when it last saw that a loop is engaged (R34). -/
theorem noticeSetIn_of_node {s : State} (p : Port) (n0 n1 n2 : Byte) (hr : s.mode.role = .node) :
    (noticeSetIn s p n0 n1 n2).evq = s.evq ∧
    (∀ q, (lport (noticeSetIn s p n0 n1 n2) q).notice = (lport s q).notice) ∧
    (noticeValid n0 n1 n2 = true → natBits n1.toNat 5 1 = 1 →
      (lport (noticeSetIn s p n0 n1 n2) p).noticeT = some s.time.line) := by
  unfold noticeSetIn
  simp only [hr]
  split
  · split
    · refine ⟨?_, fun q => ?_, fun _ _ => ?_⟩
      · rw [(lapseRel_kept (kp := (· == .evq)) _ _ (Kept.refl _ _) rfl).same .evq rfl, State.onPort_evq]
      · rw [(lapseRel_notice _ _ q).1, lport_onPort_notice]
      · rw [(lapseRel_notice _ _ p).2, lport_onPort_same]
    · exact ⟨State.onPort_evq _ _ _, fun q => lport_onPort_notice _ _ q _, fun _ _ => by rw [lport_onPort_same]⟩
  · next h => exact ⟨rfl, fun _ => rfl, fun hv he => absurd (by simp [hv, he]) h⟩

theorem noticePassed_frame (s : State) (p : Port) (n0 n1 n2 : Byte) :
    Kept (· != .link) s (noticePassed s p n0 n1 n2) := by
  unfold noticePassed
  split
  · exact State.onPort_kept s _ _ (Kept.refl _ s) rfl
  · exact Kept.refl _ s

/-- Settles O23: what leaves a port in a gap, and what a notice set does that a port takes. -/
theorem noticeSetsAndOwnFramesLeave : Obligations.NoticeSetsAndOwnFramesLeave := by
  refine ⟨fun p b x r s hu => ⟨fun hn ho => ?_, fun hn => ?_⟩, fun p n0 n1 n2 s hu hp hr => ?_,
    fun n0 n1 n2 s u hp hl hv => ⟨fun hr hu hw => ?_, fun hr hu hw he => ?_⟩⟩
  · have hx : exec (.ownFrameSend p) s = .next (emit (s.onPort p (fun l => { l with own := r })) p b none) := by
      simp only [exec, execOwnFrameSend, hu, if_true, hn, ho]
    refine ⟨_, hx, ?_⟩
    have hu' : isUp (s.onPort p (fun l => { l with own := r })) p = true := by
      rw [isUp, lport_onPort_same]
      exact hu
    simp only [emit, emitAll, if_pos hu', lport_onPort_same]
    exact ⟨rfl, rfl⟩
  · have hx : exec (.ownFrameSend p) s = .next (s.onPort p (fun l => l.gaps 1)) := by
      simp only [exec, execOwnFrameSend, hu, if_true, hn]
    refine ⟨_, hx, ?_⟩
    simp [lport_onPort_same, LinkPort.gaps, hn]
  · have hf := noticePassed_frame s p n0 n1 n2
    obtain ⟨h1, h2, h3⟩ := noticeSetIn_of_node (s := noticePassed s p n0 n1 n2) p n0 n1 n2
      ((congrArg ModeState.role (hf.same .mode rfl :)).trans hr)
    refine ⟨_, exec_loopbackNoticeSet n0 n1 n2 hu hp (.inr hr), h1.trans (hf.same .evq rfl), fun q hq => ?_,
      fun hv he => (h3 hv he).trans (congrArg (fun t => some (TimeState.line t)) (hf.same .time rfl))⟩
    rw [h2 q, noticePassed, hq]
    exact congrArg LinkPort.notice (lport_onPort_same s q _)
  · rw [exec_loopbackNoticeSet n0 n1 n2 hu hp (.inl hl), noticePassed, hw]
    simp [noticeSetIn, hr, hv]
  · rw [exec_loopbackNoticeSet n0 n1 n2 hu hp (.inl hl), noticePassed, hw, he]
    simp [noticeSetIn, hr, hv]

end Sys2Proof.Machine
end

section
/-! SUPPORT. LinkControl: the bits of LINK_CTRL (R31 to R39) -/

namespace Sys2Proof.Machine

open Sys2Proof

set_option Elab.async false

/-! ### The word that sets one bit of LINK_CTRL -/

theorem bitOf_setBit_true {n : Nat} (w : Word) (k : Nat) (h : n < 16) : bitOf (setBit w n true) k = (bitOf w k || k == n) := by
  rw [bitOf_eq_getLsbD, setBit_true, BitVec.getLsbD_or, BitVec.getLsbD_twoPow, bitOf_eq_getLsbD]
  rcases eq_or_ne k n with rfl | hk
  · simp [h]
  · simp [hk, Ne.symm hk]

/-- The bits of LINK_CTRL that a command for another bit writes back as they stand: LOOP_FORCE and CNT_FREEZE. -/
def linkHeld (force freeze : Bool) : Word := (if force then 8 else 0) + (if freeze then 128 else 0)

theorem linkCtrlWord_held (s : State) : linkCtrlWord s &&& 0x0088 = linkHeld s.link.loopForce s.link.cntFreeze ∧
    linkCtrlWord s &&& 0x0008 = linkHeld s.link.loopForce false := by
  unfold linkCtrlWord
  cases s.link.loopForce <;> cases s.link.cntFreeze <;> cases s.link.loopRelRef <;> exact ⟨rfl, rfl⟩

theorem bitOf_linkHeld (force freeze : Bool) (k : Fin 9) :
    bitOf (linkHeld force freeze) k = ((k == 3 && force) || (k == 7 && freeze)) := by
  decide +revert

theorem hostAccess_link (s : State) (p : Path) : (hostAccess s p).link = s.link :=
  (hostAccess_kept (kp := (· == .link)) s p (Kept.refl _ s) rfl rfl).same .link rfl

/-- A write of LINK_CTRL that the key and the mode admit. -/
theorem writeLinkCtrl_of_admitted {s : State} {v : Path} {w : Word} (hk : bitOf w 5 = true → keyOpen (hostAccess s v) v = true)
    (hm : s.mode.mode = .setup ∨ (bitOf w 0 || bitOf w 1 || bitOf w 3) = false) :
    writeLinkCtrl (hostAccess s v) (accNow s v) w = (linkCtrlAct (acting s v) w (s.mode.mode == .setup), 0) := by
  have h1 : ¬ (bitOf w 5 && !keyOpen (hostAccess s v) (accNow s v).path) = true := by
    intro h
    obtain ⟨h5, hc⟩ := Bool.and_eq_true_iff.mp h
    simp [accNow, hk h5] at hc
  have h2 : ¬ ((bitOf w 0 || bitOf w 1 || bitOf w 3) && !((accNow s v).mode == .setup)) = true := by
    rcases hm with hm | hm <;> simp [accNow, hm]
  rw [writeLinkCtrl, if_neg h1, if_neg h2]
  rfl

/-- The word that a command writes which sets bit n of LINK_CTRL. -/
def linkWord (s : State) (n : Nat) : Word := setBit (linkHeld s.link.loopForce s.link.cntFreeze) n true

theorem bitOf_linkWord (s : State) {n : Nat} (hn : n < 16) :
    bitOf (linkWord s n) 0 = (0 == n) ∧ bitOf (linkWord s n) 1 = (1 == n) ∧
    bitOf (linkWord s n) 2 = (2 == n) ∧ bitOf (linkWord s n) 3 = (s.link.loopForce || 3 == n) ∧
    bitOf (linkWord s n) 4 = (4 == n) ∧ bitOf (linkWord s n) 5 = (5 == n) ∧ bitOf (linkWord s n) 6 = (6 == n) ∧
    bitOf (linkWord s n) 7 = (s.link.cntFreeze || 7 == n) ∧ bitOf (linkWord s n) 8 = (8 == n) := by
  have hk (k : Fin 9) := bitOf_linkHeld s.link.loopForce s.link.cntFreeze k
  simp only [linkWord, bitOf_setBit_true _ _ hn]
  exact ⟨congrArg (· || 0 == n) (hk 0), congrArg (· || 1 == n) (hk 1), congrArg (· || 2 == n) (hk 2),
    congrArg (· || 3 == n) ((hk 3).trans (by simp)), congrArg (· || 4 == n) (hk 4), congrArg (· || 5 == n) (hk 5),
    congrArg (· || 6 == n) (hk 6), congrArg (· || 7 == n) ((hk 7).trans (by simp)), congrArg (· || 8 == n) (hk 8)⟩

theorem linkCtrlBit_eq {s : State} {v : Path} {n : Nat} (hp : pathOpen s v = true) (hn : n < 16)
    (hk : n = 5 → keyOpen (hostAccess s v) v = true)
    (hm : s.mode.mode = .setup ∨ (s.link.loopForce = false ∧ n ≠ 0 ∧ n ≠ 1 ∧ n ≠ 3)) :
    linkCtrlBit s v n = linkCtrlAct (acting s v) (linkWord s n) (s.mode.mode == .setup) := by
  obtain ⟨h0, h1, -, h3, -, h5, -, -, -⟩ := bitOf_linkWord s hn
  have hw : setBit (linkCtrlWord (hostAccess s v) &&& 0x0088) n true = linkWord s n := by
    rw [(linkCtrlWord_held _).1, hostAccess_link, linkWord]
  rw [linkCtrlBit, served, if_pos hp, hw, writeLinkCtrl_of_admitted]
  · exact fun h => hk (beq_iff_eq.mp (h5.symm.trans h)).symm
  · refine hm.imp_right fun ⟨hf, n0, n1, n3⟩ => ?_
    simp [h0, h1, h3, hf, Ne.symm n0, Ne.symm n1, Ne.symm n3]

/-! ### What a write leaves of the forced loop -/

/-- What a write that keeps LOOP_FORCE does in SETUP: it holds a forced loop, or lets go of one that may be released. -/
def forceKept (s : State) (force setup : Bool) : State :=
  if setup then
    if force then loopForce s else relCheck { s with link := { s.link with loopForce := false } } .b
  else s

/-- What of the link no loop's engagement or release touches. -/
def linkFixed (s : State) : Bool × Bool × Bool × (PortState × Nat) × (PortState × Nat) :=
  (s.link.bypass, s.link.enabled, s.link.cntFreeze, (s.link.a.st, s.link.a.lenClass), (s.link.b.st, s.link.b.lenClass))

theorem of_linkFixed {s t : State} (h : linkFixed s = linkFixed t) : s.link.bypass = t.link.bypass ∧
    s.link.enabled = t.link.enabled ∧ s.link.cntFreeze = t.link.cntFreeze ∧
    ∀ q, (lport s q).st = (lport t q).st ∧ (lport s q).lenClass = (lport t q).lenClass := by
  simp only [linkFixed, Prod.mk.injEq] at h
  obtain ⟨h1, h2, h3, ⟨h4, h5⟩, h6, h7⟩ := h
  exact ⟨h1, h2, h3, fun q => by cases q; exacts [⟨h4, h5⟩, ⟨h6, h7⟩]⟩

theorem linkFixed_refreshMode (s : State) : linkFixed (refreshMode s) = linkFixed s := by
  unfold refreshMode
  split <;> rfl

theorem linkFixed_post (s : State) (code argx : Nat) (arg : Word) : linkFixed (post s code argx arg) = linkFixed s := by
  unfold linkFixed
  rw [post_link]

theorem linkFixed_sendNotices (s : State) (p : Port) (engaged : Bool) (cause : Nat) :
    linkFixed (sendNotices s p engaged cause) = linkFixed s := by
  unfold sendNotices
  dsimp only
  split
  · rfl
  · cases p <;> rfl

theorem linkFixed_releaseLoop (s : State) (p : Port) : linkFixed (releaseLoop s p) = linkFixed s := by
  unfold releaseLoop
  dsimp only
  rw [linkFixed_sendNotices, linkFixed_post, linkFixed_refreshMode]
  cases p <;> rfl

theorem linkFixed_relCheck (s : State) (p : Port) : linkFixed (relCheck s p) = linkFixed s := by
  unfold relCheck
  split
  · exact linkFixed_releaseLoop s p
  · rfl

theorem engageLoop_eq (s : State) (p : Port) (cause : Nat) : engageLoop s p cause =
    sendNotices (post (refreshMode (loopTaken s p)) 0x45 1 (linkStatWord (refreshMode (loopTaken s p)))) p true cause := rfl

theorem linkFixed_engageLoop (s : State) (p : Port) (cause : Nat) : linkFixed (engageLoop s p cause) = linkFixed s := by
  rw [engageLoop_eq, linkFixed_sendNotices, linkFixed_post, linkFixed_refreshMode, loopTaken, counting]
  split <;> cases p <;> rfl

theorem linkFixed_loopForce (s : State) : linkFixed (loopForce s) = linkFixed s := by
  unfold loopForce
  dsimp only
  split
  · rfl
  · exact linkFixed_engageLoop _ _ _

theorem linkFixed_forceKept (s : State) (force setup : Bool) : linkFixed (forceKept s force setup) = linkFixed s := by
  unfold forceKept
  split
  · split
    · exact linkFixed_loopForce s
    · exact linkFixed_relCheck _ .b
  · rfl

/-! ### A forced loop -/

theorem engageLoop_loop (s : State) (p : Port) (cause : Nat) : (lport (engageLoop s p cause) p).loop = true ∧
    (engageLoop s p cause).link.loopForce = s.link.loopForce := by
  have hf (x : State) : (sendNotices x p true cause).link.loopForce = x.link.loopForce := by
    unfold sendNotices
    dsimp only
    split
    · rfl
    · cases p <;> rfl
  have hr (x : State) : (refreshMode x).link.loopForce = x.link.loopForce := by
    unfold refreshMode
    split <;> rfl
  rw [engageLoop_eq, (sendNotices_facts _ p true cause).1, hf, lport_post, post_link, lport_refreshMode, hr, loopTaken_same]
  refine ⟨rfl, ?_⟩
  unfold loopTaken counting
  split <;> cases p <;> rfl

theorem loopForce_facts {s : State} (hr : s.mode.role = .node) (hb : s.link.backwards = false)
    (hf : s.link.loopForce = false) (hl : s.link.b.loop = false) :
    (loopForce s).link.loopForce = true ∧ (loopForce s).link.b.loop = true := by
  have hx : loopForce s = engageLoop { s with link := { s.link with loopForce := true } } .b 2 :=
    if_neg (by simp [hr, hb, hf, hl])
  obtain ⟨h1, h2⟩ := engageLoop_loop { s with link := { s.link with loopForce := true } } .b 2
  rw [hx]
  exact ⟨h2, h1⟩

/-! ### The rows -/

theorem relMay_of_no_loop {s : State} {p : Port} (h : (lport s p).loop = false) : relMay s p = false := by
  simp [relMay, h]

theorem relCheck_of_no_loop {s : State} {p : Port} (h : (lport s p).loop = false) : relCheck s p = s :=
  if_neg (by simp [relMay_of_no_loop h])

theorem forceKept_of_no_loop {s : State} (setup : Bool) (hf : s.link.loopForce = false) (hb : s.link.b.loop = false) :
    forceKept s false setup = s := by
  have h : ({ s with link := { s.link with loopForce := false } } : State) = s := by rw [← hf]
  unfold forceKept
  split
  · rw [h]
    exact relCheck_of_no_loop hb
  · rfl

theorem loopRel_of_no_loop {s : State} (ha : s.link.a.loop = false) (hb : s.link.b.loop = false) :
    loopRel s = relRefuse s := by
  simp [loopRel, ha, hb]

theorem portLeft_params (s : State) (p : Port) : (portLeft s p).link.params = s.link.params := by
  have hl (x : State) : (lapseRel x p).link.params = x.link.params := by
    unfold lapseRel
    split
    · cases p <;> rfl
    · rfl
  have hc (g : LinkPort → LinkPort) (n : Nat) :
      (counting s (fun s => lnkErrors (s.onPort p g) p n)).link.params = s.link.params := by
    unfold counting
    split
    · rfl
    · cases p <;> rfl
  unfold portLeft
  split
  · rw [hl, hc]
  · rfl

/-- A port that is trained again, or anew, goes to TRAIN and takes its configured length class (R26). -/
theorem retrain_facts {s : State} {q : Port} (h : (lport s q).st = .up ∨ (lport s q).st = .align ∨ (lport s q).st = .train) :
    (lport (retrain s q) q).st = .train ∧ (lport (retrain s q) q).lenClass = lenClass s q := by
  have hl : lenClass (portLeft s q) q = lenClass s q := by
    cases q <;> simp only [lenClass, portLeft_params]
  have hs (hn : (lport s q).st ≠ .train) : (lport (setPortState s q .train true) q).st = .train ∧
      (lport (setPortState s q .train true) q).lenClass = lenClass s q := by
    obtain ⟨h1, h2, -⟩ := setPortState_train true hn
    exact ⟨h1, h2.trans hl⟩
  unfold retrain
  rcases h with h | h | h
  · simp only [h]
    exact hs (by simp [h])
  · simp only [h]
    exact hs (by simp [h])
  · simp only [h]
    rw [latchTrain, lport_onPort_same]
    exact ⟨h, rfl⟩

theorem cntFreeze_kept {s u : State} (h : u.link = s.link) :
    ({ u with link := { u.link with cntFreeze := s.link.cntFreeze } } : State) = u := by
  rw [← h]

theorem linkCtrlAct_retrain {s u : State} (q : Port) (hu : u.link = s.link) :
    linkCtrlAct u (linkWord s (portNo q)) true = forceKept (retrain u q) s.link.loopForce true := by
  cases q
  · obtain ⟨h0, h1, h2, h3, h4, h5, h6, h7, h8⟩ := bitOf_linkWord s (n := 0) (by decide)
    simp [linkCtrlAct, portNo, h0, h1, h2, h3, h4, h5, h6, h7, h8, cntFreeze_kept hu, forceKept]
  · obtain ⟨h0, h1, h2, h3, h4, h5, h6, h7, h8⟩ := bitOf_linkWord s (n := 1) (by decide)
    simp [linkCtrlAct, portNo, h0, h1, h2, h3, h4, h5, h6, h7, h8, cntFreeze_kept hu, forceKept]

theorem linkCtrlAct_loopForce {s u : State} (hu : u.link = s.link) : linkCtrlAct u (linkWord s 3) true = loopForce u := by
  obtain ⟨h0, h1, h2, h3, h4, h5, h6, h7, h8⟩ := bitOf_linkWord s (n := 3) (by decide)
  simp [linkCtrlAct, h0, h1, h2, h3, h4, h5, h6, h7, h8, cntFreeze_kept hu]

theorem linkCtrlAct_loopRel {s u : State} (hu : u.link = s.link) (setup : Bool) :
    linkCtrlAct u (linkWord s 2) setup = loopRel (forceKept u s.link.loopForce setup) := by
  obtain ⟨h0, h1, h2, h3, h4, h5, h6, h7, h8⟩ := bitOf_linkWord s (n := 2) (by decide)
  simp [linkCtrlAct, h0, h1, h2, h3, h4, h5, h6, h7, h8, cntFreeze_kept hu, forceKept]

theorem linkCtrlAct_bypassInsert {s u : State} (hu : u.link = s.link) (setup : Bool) :
    linkCtrlAct u (linkWord s 4) setup = bypassInsert (forceKept u s.link.loopForce setup) := by
  obtain ⟨h0, h1, h2, h3, h4, h5, h6, h7, h8⟩ := bitOf_linkWord s (n := 4) (by decide)
  simp [linkCtrlAct, h0, h1, h2, h3, h4, h5, h6, h7, h8, cntFreeze_kept hu, forceKept]

theorem linkCtrlAct_bypassDrop {s u : State} (hu : u.link = s.link) (setup : Bool) :
    linkCtrlAct u (linkWord s 5) setup = bypassAssert (forceKept u s.link.loopForce setup) := by
  obtain ⟨h0, h1, h2, h3, h4, h5, h6, h7, h8⟩ := bitOf_linkWord s (n := 5) (by decide)
  simp [linkCtrlAct, h0, h1, h2, h3, h4, h5, h6, h7, h8, cntFreeze_kept hu, forceKept]

theorem linkCtrlAct_clear {s u : State} (hu : u.link = s.link) (setup : Bool) :
    linkCtrlAct u (linkWord s 6) setup = clearLinkCounters (forceKept u s.link.loopForce setup) := by
  obtain ⟨h0, h1, h2, h3, h4, h5, h6, h7, h8⟩ := bitOf_linkWord s (n := 6) (by decide)
  simp [linkCtrlAct, h0, h1, h2, h3, h4, h5, h6, h7, h8, cntFreeze_kept hu, forceKept]

theorem bitOf_freezeWord (force on : Bool) : let w := setBit (linkHeld force false) 7 on
    bitOf w 0 = false ∧ bitOf w 1 = false ∧ bitOf w 2 = false ∧ bitOf w 3 = force ∧ bitOf w 4 = false ∧ bitOf w 5 = false ∧
      bitOf w 6 = false ∧ bitOf w 7 = on ∧ bitOf w 8 = false := by
  decide +revert

/-- LINK_CNT_FREEZE writes its bit and LOOP_FORCE as it stands. -/
theorem exec_linkCntFreeze {s : State} {v : Path} (on : Bool) (hp : pathOpen s v = true)
    (hm : s.mode.mode = .setup ∨ s.link.loopForce = false) : exec (.linkCntFreeze v on) s =
      .next (forceKept { acting s v with link := { s.link with cntFreeze := on } } s.link.loopForce (s.mode.mode == .setup)) := by
  obtain ⟨h0, h1, h2, h3, h4, h5, h6, h7, h8⟩ := bitOf_freezeWord s.link.loopForce on
  rw [exec, execLinkCntFreeze, served, if_pos hp, (linkCtrlWord_held _).2, hostAccess_link, writeLinkCtrl_of_admitted]
  · simp [linkCtrlAct, h0, h1, h2, h3, h4, h5, h6, h7, h8, forceKept]
  · simp [h5]
  · simpa [h0, h1, h3] using hm

/-- Settles O24: the work of each bit of LINK_CTRL. -/
theorem linkControlActs : Obligations.LinkControlActs := by
  have hz (s : State) (v : Path) (n : Nat) (h : n ≠ 5) : n = 5 → keyOpen (hostAccess s v) v = true := fun e => absurd e h
  refine ⟨fun v q s hp hm hq => ⟨_, rfl, ?_⟩, fun v s hp hm hr hb hf hl => ⟨_, rfl, ?_⟩, fun v s hp hf ha hb => ⟨_, rfl, ?_⟩,
    fun v s hp hm hf => ?_,
    fun v s hp hm => ⟨fun hb he => ⟨_, rfl, ?_⟩, fun hk => ⟨_, rfl, ?_⟩, fun on => ⟨_, exec_linkCntFreeze on hp hm, ?_⟩,
      ⟨_, rfl, ?_⟩⟩⟩
  · dsimp only
    rw [linkCtrlBit_eq hp (by cases q <;> decide) (hz s v _ (by cases q <;> decide)) (.inl hm), hm, beq_self_eq_true,
      linkCtrlAct_retrain q (acting_link s v)]
    have hr := retrain_facts (s := acting s v) (q := q) (by simpa [lport_of_link q (acting_link s v)] using hq)
    obtain ⟨-, -, -, hk⟩ := of_linkFixed (linkFixed_forceKept (retrain (acting s v) q) s.link.loopForce true)
    have hl : lenClass (acting s v) q = lenClass s q := by cases q <;> simp only [lenClass, acting_link]
    exact ⟨(hk q).1.trans hr.1, (hk q).2.trans (hr.2.trans hl)⟩
  · dsimp only
    rw [linkCtrlBit_eq hp (by decide) (hz s v 3 (by decide)) (.inl hm), hm, beq_self_eq_true,
      linkCtrlAct_loopForce (acting_link s v)]
    exact loopForce_facts (by simpa using hr) (by simpa using hb) (by simpa using hf) (by simpa using hl)
  · dsimp only
    rw [linkCtrlBit_eq hp (by decide) (hz s v 2 (by decide)) (.inr ⟨hf, by decide⟩), linkCtrlAct_loopRel (acting_link s v),
      hf, forceKept_of_no_loop _ (by simpa using hf) (by simpa using hb),
      loopRel_of_no_loop (by simpa using ha) (by simpa using hb)]
    exact ⟨rfl, (congrArg LinkState.mode (acting_link s v) :)⟩
  · rw [exec, execLoopRel, linkCtrlBit_eq hp (by decide) (hz s v 2 (by decide)) (.inr ⟨hf, by decide⟩),
      linkCtrlAct_loopRel (acting_link s v), forceKept, if_neg (by simp [hm])]
  · dsimp only
    rw [linkCtrlBit_eq hp (by decide) (hz s v 4 (by decide)) (hm.imp_right (⟨·, by decide⟩)),
      linkCtrlAct_bypassInsert (acting_link s v)]
    obtain ⟨h1, h2, -, -⟩ := of_linkFixed (linkFixed_forceKept (acting s v) s.link.loopForce (s.mode.mode == .setup))
    rw [bypassInsert, if_pos (by rw [h1, h2, acting_link, hb, he]; rfl)]
    rfl
  · dsimp only
    rw [linkCtrlBit_eq hp (by decide) (fun _ => hk) (hm.imp_right (⟨·, by decide⟩)), linkCtrlAct_bypassDrop (acting_link s v)]
    exact ⟨rfl, rfl⟩
  · obtain ⟨-, -, h3, -⟩ := of_linkFixed (linkFixed_forceKept
      { acting s v with link := { s.link with cntFreeze := on } } s.link.loopForce (s.mode.mode == .setup))
    exact h3
  · dsimp only
    rw [linkCtrlBit_eq hp (by decide) (hz s v 6 (by decide)) (hm.imp_right (⟨·, by decide⟩)),
      linkCtrlAct_clear (acting_link s v)]
    exact ⟨rfl, rfl, rfl, rfl, rfl, rfl, rfl, rfl, rfl, rfl, rfl, rfl, rfl, rfl⟩

end Sys2Proof.Machine
end

section
/-! SUPPORT. HeldTransactions: what a held PING, REG_READ, REG_WRITE, TBL_READ, TBL_WRITE and CFG_OWN end with (R110 to R125) -/

namespace Sys2Proof.Machine

open Sys2Proof

set_option Elab.async false

/-- A transaction that is found by its number is ended with its status, answer and effect (R110). -/
theorem endTxn_of_found {s : State} {id : Nat} {t : Txn} (h : txnOf s id = some t) (status : Nat) (resp : List Byte) (e : Bool) :
    endTxn s id status resp e = finishTxn s { t with status, resp, effect := t.effect || e } := by
  simp only [endTxn, h]

/-- The answer of an unsealed unicast leaves at once, and the transaction is gone. -/
theorem finishTxn_of_plain {s : State} {t : Txn} (hb : t.bcast = false) (hs : t.sealed = false) :
    finishTxn s t = makeReady { s with txn := { s.txn with held := dropTxn s.txn.held t.id } } (responseOf t) := by
  simp [finishTxn, hb, goesPlain, hs]

theorem findHeld_bcast {s : State} {b a : Bool} {tag op : Nat} {t : Txn} (h : findHeld s b a tag op = some t) : t.bcast = b := by
  have hf := List.find?_some (p := fun t => isTxn t b a tag && t.op == op && t.phase == .held) h
  simp only [isTxn, Bool.and_eq_true, beq_iff_eq] at hf
  exact hf.1.1.1.1

/-- Settles O25: what a held PING, REG_READ, REG_WRITE, TBL_READ, TBL_WRITE and CFG_OWN end with. -/
theorem heldTransactionsExecute : Obligations.HeldTransactionsExecute := by
  refine ⟨fun b a tag t s h => ⟨withTxn_eq h _, fun hb hs ht => ⟨_, withTxn_eq h _, ?_⟩⟩,
    fun b a tag t s g v st h => ⟨fun hl => (withTxn_eq h _).trans ?_, fun hl hg => (withTxn_eq h _).trans ?_⟩,
    fun b a tag t s g l n st h he => ⟨fun hl => (withTxn_eq h _).trans ?_, fun hl hg => (withTxn_eq h _).trans ?_⟩,
    fun b a tag t s => ⟨fun h ho => (withTxn_eq h _).trans ?_, fun h ho h1 h2 => (withTxn_eq h _).trans ?_,
      fun h ho => (withTxn_eq h _).trans ?_, fun u n st h ho hw => (withTxn_eq h _).trans ?_,
      fun h ha => (withTxn_eq h _).trans ?_, fun h ha ho => (withTxn_eq h _).trans ?_,
      fun u h ha ho hu => (withTxn_eq h _).trans ?_⟩⟩
  · have hn : t.bcast = false := (findHeld_bcast h.found).trans hb
    rw [pingLine, endTxn_of_found ht, finishTxn_of_plain (by exact hn) (by exact hs), Bool.or_true]
    exact ⟨rfl, rfl⟩
  · simp [regReadLine, hl]
  · rw [regReadLine, if_neg (by simp [hl]), hg]
  · subst he
    simp [regWriteLine, hl]
  · subst he
    rw [regWriteLine, if_neg (by simp [hl])]
    dsimp only
    rw [hg]
    rfl
  · simp [tblRead, ho]
  · simp [tblRead, ho, h1, h2]
  · simp [tblWrite, ho]
  · simp [tblWrite, ho, hw]
  · simp [cfgOwn, ha]
  · simp [cfgOwn, ha, ho]
  · simp [cfgOwn, ha, ho, hu]

end Sys2Proof.Machine
end

section
/-! SUPPORT. HeldReads: the held reads and transfers (R126 to R131) -/

namespace Sys2Proof.Machine

open Sys2Proof

set_option Elab.async false

/-- Settles O26: what a held FLASH_READ, TRACE_READ, CSP_XFER, ADC_CAPT and CAPT_READ do. -/
theorem heldReadsAndTransfersExecute : Obligations.HeldReadsAndTransfersExecute := by
  refine ⟨fun b a tag t s h => ⟨fun hr => (withTxn_eq h _).trans ?_, fun hr => (withTxn_eq h _).trans ?_⟩,
    fun b a tag t s h => ⟨withTxn_eq h _, fun h0 => (withTxn_eq h _).trans ?_⟩,
    fun b a tag n t s h hn => ⟨fun hc => (withTxn_eq h _).trans ?_, fun hc => (withTxn_eq h _).trans ?_,
      fun hc => (withTxn_eq h _).trans ?_⟩,
    fun b a tag t s => ⟨fun h => withTxn_eq h _,
      fun h hr => (withTxn_eq h _).trans ?_, fun h hr => (withTxn_eq h _).trans ?_⟩⟩
  · simp [flashReadLine, hr]
  · simp [flashReadLine, hr]
  · simp [traceRead, h0]
  · subst hn
    simp only [xferLine, hc]
  · subst hn
    simp only [xferLine, hc]
  · subst hn
    simp only [xferLine, hc]
  · rw [captRead, if_neg (Nat.not_lt.mpr hr)]
  · rw [captRead, if_pos hr]

end Sys2Proof.Machine
end

section
/-! SUPPORT. SealedOpcodes: the relay control and the sealed opcodes (R450 to R459) -/

namespace Sys2Proof.Machine

open Sys2Proof

set_option Elab.async false

theorem withFlashTxn_eq {s : State} {b a : Bool} {tag op : Nat} {t : Txn} (h : Held s b a tag op t) {action : Nat}
    (hp : s.mode.pwrfail = false) (ha : op = 0x24 ∨ byteAt t.data 0 = action) (f : State → Txn → State) :
    withFlashTxn s b a tag op action f = .next (f s t) := by
  rw [withFlashTxn, withTxn_eq h]
  exact congrArg _ (if_neg (by rcases ha with ha | ha <;> simp [hp, ha]))

theorem exec_posBind {s : State} {b a : Bool} {tag : Nat} {t : Txn} (h : Held s b a tag 0x22 t) (hp : s.mode.pwrfail = false)
    (ha : byteAt t.data 0 = 0) : exec (.posBind b a tag) s = .next (endTxn (bindPos s (fieldAt t.data 2 2) false) t.id 0
      (wordsToBytes [nodeposWord (bindPos s (fieldAt t.data 2 2) false)]) true) := by
  rw [exec, execPosBind, withFlashTxn_eq h hp (.inr ha)]

/-- A node whose position is unbound, the slot geometry taken from the active set (R452). -/
def unbound (s : State) : State := loadGeo { s with link := { s.link with pos := none, posPending := false } }

theorem exec_posUnbind {s : State} {b a : Bool} {tag : Nat} {t : Txn} (h : Held s b a tag 0x22 t) (hp : s.mode.pwrfail = false)
    (ha : byteAt t.data 0 = 1) : exec (.posUnbind b a tag) s =
      .next (endTxn (unbound s) t.id 0 (wordsToBytes [nodeposWord (unbound s)]) true) := by
  rw [exec, execPosUnbind, withFlashTxn_eq h hp (.inr ha)]
  rfl

theorem exec_rekey {s : State} {b a : Bool} {tag : Nat} {t : Txn} (h : Held s b a tag 0x24 t) (hp : s.mode.pwrfail = false) :
    exec (.rekey b a tag) s = .next (endTxn (raiseEpoch s) t.id (if (raiseEpoch s).sec.epoch == 0xFFFFF then 0x10 else 0)
      (leBytes 4 (raiseEpoch s).sec.epoch) true) := by
  rw [exec, execRekey, withFlashTxn_eq h hp (.inl rfl)]

theorem endTxn_link (s : State) (id status : Nat) (resp : List Byte) (e : Bool) : (endTxn s id status resp e).link = s.link :=
  (endTxn_kept (kp := (· == .link)) s id status resp e (Kept.refl _ s) rfl rfl rfl rfl rfl rfl rfl rfl rfl).same .link rfl

theorem epochHealth_sec (s : State) : (epochHealth s).sec = s.sec :=
  (epochHealth_kept (kp := (· == .sec)) s (Kept.refl _ s) rfl rfl rfl rfl rfl rfl rfl).same .sec rfl

/-- An EPOCH that is not used up is raised, and its counter starts again (R457). -/
theorem raiseEpoch_sec {s : State} (h : s.sec.epoch < 0xFFFFF) :
    (raiseEpoch s).sec = { s.sec with epoch := s.sec.epoch + 1, counter := 0 } := by
  rw [raiseEpoch, if_neg (by simpa using Nat.ne_of_lt h)]
  dsimp only
  rw [epochHealth_sec]
  split <;> simp [State.reason]

theorem lockTo_of_change {s u v : State} {t : Txn} {b : Bool} (h : s.sec.locked = !b)
    (hu : u = State.reason { s with sec := { s.sec with locked := b } } (if b then 0x0803 else 0x0804))
    (hv : v = post u 0x83 0 (lockStatWord u)) : lockTo s t b = endTxn v t.id 0 (wordsToBytes [lockStatWord v]) true := by
  subst hv hu
  cases b <;> simp [lockTo, h]

theorem lockTo_of_same {s : State} {t : Txn} {b : Bool} (h : s.sec.locked = b) :
    lockTo s t b = endTxn s t.id 0 (wordsToBytes [lockStatWord s]) false := by
  simp [lockTo, h]

/-- Settles O27: the relay control and the sealed opcodes, each with what it ends with. -/
theorem sealedTransactionsExecute : Obligations.SealedTransactionsExecute := by
  refine ⟨fun b a tag t s u v h hp => ⟨fun hu hv ha => ⟨fun hl => ?_, fun hl => ?_⟩,
      fun hu hv ha => ⟨fun hl => ?_, fun hl => ?_⟩⟩,
    fun b a tag t s h hp => ⟨fun ha => ⟨_, exec_posBind h hp ha, ?_⟩, fun ha => ⟨_, exec_posUnbind h hp ha, ?_⟩⟩,
    fun b a tag t s h hp => ⟨exec_rekey h hp, fun he => by rw [raiseEpoch_sec he]; exact ⟨rfl, rfl⟩⟩,
    fun b a tag t s u h => ⟨fun h0 hu => (withTxn_eq h _).trans ?_, fun h0 hu => (withTxn_eq h _).trans ?_⟩,
    fun b a tag t s h => ⟨fun ha => ?_, fun ha => ⟨fun hi => ?_, fun hi => ?_⟩, fun h1 h2 => ?_⟩⟩
  · rw [exec, execOwnerLockSet, withFlashTxn_eq h hp (.inr ha), lockTo_of_change hl hu hv]
  · rw [exec, execOwnerLockSet, withFlashTxn_eq h hp (.inr ha), lockTo_of_same hl]
  · rw [exec, execOwnerLockClear, withFlashTxn_eq h hp (.inr ha), lockTo_of_change hl hu hv]
  · rw [exec, execOwnerLockClear, withFlashTxn_eq h hp (.inr ha), lockTo_of_same hl]
  · dsimp only
    rw [endTxn_link]
    exact ⟨rfl, rfl, rfl⟩
  · dsimp only
    rw [endTxn_link]
    exact ⟨rfl, rfl⟩
  · subst hu
    simp [injEnable, h0]
  · subst hu
    simp [injEnable, h0]
  · rw [exec, execRelayCtrlStatus, withTxn_eq h]
    simp [relayCtrl, ha]
  · rw [exec, execRelayCtrlMap, withTxn_eq h]
    simp [relayCtrl, ha, hi]
  · rw [exec, execRelayCtrlMap, withTxn_eq h]
    simp [relayCtrl, ha, hi, updCode]
  · rw [exec, execRelayCtrlMap, withTxn_eq h]
    simp [relayCtrl, h2, refuseTxn]

end Sys2Proof.Machine
end

section
/-! SUPPORT. Lifetimes: lifetimes, DONE entries, the crypto engine and the floor (R113 to R118, R455 to R461) -/

namespace Sys2Proof.Machine

open Sys2Proof

set_option Elab.async false

theorem exec_txnExpiry {s : State} {b a : Bool} {tag : Nat} {t : Txn} (h : findDue s b a tag = some t)
    (hl : s.mode.logicReset = false) : exec (.txnExpiry b a tag) s = .next (expireHeld (s.reach t.deadline) t) := by
  simp only [exec, execTxnExpiry, hl, Bool.false_eq_true, if_false, h]

theorem exec_bcastDrop {s : State} {a : Bool} {tag : Nat} {t : Txn} (h : findDue s true a tag = some t) :
    exec (.bcastDrop a tag) s = .next (expireHeld (s.reach t.deadline) t) := by
  simp only [exec, execBcastDrop, h]

theorem takeNonce_txn (s : State) : (takeNonce s).2.txn = s.txn :=
  (takeNonce_kept (kp := (· == .txn)) s (Kept.refl _ s) rfl rfl rfl rfl rfl rfl rfl rfl).same .txn rfl

/-- An answer joins those that are ready or that are to be sealed, and leaves the held transactions. -/
theorem answer_held (s : State) (sealIt : Bool) (r : Response) : (answer s sealIt r).txn.held = s.txn.held := by
  have hn := congrArg TxnState.held (takeNonce_txn s)
  unfold answer cryptoAsk
  split
  · rfl
  · split
    · rfl
    · dsimp only
      split
      · exact hn
      · exact hn

/-- The state from which a held transaction has run out, before its answer. -/
def heldOut (s : State) (t : Txn) : State :=
  cryptoDrop { s with txn := { s.txn with held := dropTxn s.txn.held t.id }
                      ser := { s.ser with waiting := s.ser.waiting.filter (fun j => !jobOf t.id j) } }
    (fun f => f = .sealTxn t.id)

theorem expireHeld_of_bcast {s : State} {t : Txn} (h : t.bcast = true) :
    expireHeld s t = post (heldOut s t) 0x49 t.op (word (t.tag % 256 + 256)) := if_pos h

theorem expireHeld_of_unicast {s : State} {t : Txn} (h : t.bcast = false) : expireHeld s t =
    postExpired (answer (heldOut s t) (!goesPlain t) (expiredResponse t.id t.anchor t.tag t.op t.nonce t.deadline t.effect))
      0x47 t.anchor t.tag t.op t.effect := if_neg (by simp [h])

theorem postExpired_txn (s : State) (code : Nat) (a : Bool) (tag op : Nat) (d : Bool) :
    (postExpired s code a tag op d).txn = s.txn :=
  post_txn _ _ _ _

theorem expireHeld_facts (s : State) (t : Txn) : (expireHeld s t).txn.held = dropTxn s.txn.held t.id ∧
    (expireHeld s t).time = s.time ∧ (t.bcast = true → (expireHeld s t).txn.ready = s.txn.ready) ∧
    (t.bcast = false → t.sealed = false → (expireHeld s t).txn.ready = s.txn.ready ++
      [expiredResponse t.id t.anchor t.tag t.op t.nonce t.deadline t.effect]) := by
  have ht : (expireHeld s t).time = s.time :=
    (expireHeld_kept (kp := (· == .time)) s t (Kept.refl _ s) rfl rfl rfl rfl rfl rfl rfl rfl rfl rfl).same .time rfl
  cases hb : t.bcast
  · rw [expireHeld_of_unicast hb] at ht ⊢
    rw [postExpired_txn, answer_held]
    refine ⟨rfl, ht, fun h => absurd h Bool.false_ne_true, fun _ hs => ?_⟩
    rw [answer, if_pos (by simp [goesPlain, hs])]
    rfl
  · rw [expireHeld_of_bcast hb] at ht ⊢
    rw [post_txn]
    exact ⟨rfl, ht, fun _ => rfl, fun h => absurd h Bool.true_eq_false.mp⟩

theorem exec_expiredDiscard {s : State} {a : Bool} {tag : Nat} {r : Response}
    (h : (s.txn.ready ++ s.txn.sealing).find? (fun x => ownsTag x a tag) = some r) (he : r.expired = true) :
    exec (.expiredDiscard a tag) s = .next (discardExpired (s.reach (r.deadline + 1000000000)) r) := by
  simp only [exec, execExpiredDiscard, h, he, Bool.not_true, Bool.false_eq_true, if_false]

theorem discardExpired_facts (s : State) (n : Nat) (r : Response) :
    (discardExpired (s.reach n) r).txn.ready = dropResponse s.txn.ready r ∧
    (discardExpired (s.reach n) r).txn.sealing = dropResponse s.txn.sealing r ∧
    (discardExpired (s.reach n) r).time.line = reachLine s.time.line n := by
  unfold discardExpired
  dsimp only
  rw [postExpired_txn, postExpired, post_time]
  exact ⟨rfl, rfl, rfl⟩

theorem exec_cryptoOpDone_seal {s : State} {o : CryptoOp} {id : Nat} {t : Txn} (hl : s.mode.logicReset = false)
    (ho : cryptoRunning s.sec.ops = some o) (hf : o.for_ = .sealTxn id) (ht : txnOf s id = some t) (hp : t.phase = .sealing) :
    exec .cryptoOpDone s = .next (sealDone (cryptoEnd s o) t) := by
  have ht' : txnOf (cryptoEnd s o) id = some t := ht
  simp only [exec, execCryptoOpDone, hl, Bool.false_eq_true, if_false, ho, hf, ht', hp, beq_self_eq_true, if_true]

/-- Settles O28: what runs out with a transaction's lifetime, and what the crypto engine and the floor do for it. -/
theorem transactionsRunOutAndSealsComplete : Obligations.TransactionsRunOutAndSealsComplete := by
  refine ⟨fun b a tag t s h hl => ⟨exec_txnExpiry h hl, _, exec_txnExpiry h hl, ?_⟩,
    fun a tag t s h hb => ⟨exec_bcastDrop h, _, exec_bcastDrop h, ?_⟩,
    fun a tag r s h he => ⟨exec_expiredDiscard h he, _, exec_expiredDiscard h he, ?_⟩, fun a tag d s h => ?_,
    fun o id s hl ho => ⟨fun t hf ht => ?_,
      fun t hf ht hp => ⟨exec_cryptoOpDone_seal hl ho hf ht hp, _, exec_cryptoOpDone_seal hl ho hf ht hp, rfl, rfl⟩,
      fun r hf hr => ?_⟩,
    fun t s ht hl => ⟨?_, fun w hw hr => ?_⟩⟩
  · obtain ⟨h1, h2, -, h4⟩ := expireHeld_facts (s.reach t.deadline) t
    exact ⟨h1, congrArg TimeState.line h2, h4⟩
  · obtain ⟨h1, -, h3, -⟩ := expireHeld_facts (s.reach t.deadline) t
    exact ⟨h1, h3 hb⟩
  · exact discardExpired_facts s _ r
  · simp only [exec, execDoneEntryLapse, h]
    rfl
  · have ht' : (cryptoEnd s o).txn.opening.find? (fun x => x.id == id) = some t := ht
    simp only [exec, execCryptoOpDone, hl, Bool.false_eq_true, if_false, ho, hf, ht']
    rfl
  · have hr' : (cryptoEnd s o).txn.sealing.find? (fun x => x.id == id) = some r := hr
    simp only [exec, execCryptoOpDone, hl, Bool.false_eq_true, if_false, ho, hf, hr']
  · simp only [exec, execFloorWriteDone, ht, hl, Bool.false_eq_true, if_false, Bool.not_false, if_true]
  · have hw' : windowTake (recWindow { s with txn := { s.txn with held := dropSame s.txn.held t } } t.anchor)
        (nonceEpoch t.nonce) (nonceCounter t.nonce) = some w := hw
    have hr' : raisesH (recWindow { s with txn := { s.txn with held := dropSame s.txn.held t } } t.anchor)
        (nonceEpoch t.nonce) (nonceCounter t.nonce) = true := hr
    simp only [exec, execFloorWriteDone, ht, hl, Bool.false_eq_true, if_false, Bool.not_true, hw', hr', if_true]

end Sys2Proof.Machine
end

section
/-! SUPPORT. PostedCommands: what the posting of an accepted descriptor starts (R138 to R175) -/

namespace Sys2Proof.Machine

open Sys2Proof

set_option Elab.async false

/-! ### A posted command -/

theorem posted_frame (s : State) (p : Path) (d : Descriptor) :
    Kept (fun q => q != .mem && q != .bus) s (posted s p d) :=
  outstand_kept _ p d (beginWrite_kept _ p (hostAccess_kept s p (Kept.refl _ s) rfl rfl) rfl) rfl

@[simp] theorem posted_mode (s : State) (p : Path) (d : Descriptor) : (posted s p d).mode = s.mode :=
  (posted_frame s p d).same .mode rfl
@[simp] theorem posted_sta (s : State) (p : Path) (d : Descriptor) : (posted s p d).sta = s.sta :=
  (posted_frame s p d).same .sta rfl
@[simp] theorem posted_time (s : State) (p : Path) (d : Descriptor) : (posted s p d).time = s.time :=
  (posted_frame s p d).same .time rfl
@[simp] theorem posted_cfg (s : State) (p : Path) (d : Descriptor) : (posted s p d).cfg = s.cfg :=
  (posted_frame s p d).same .cfg rfl
@[simp] theorem posted_evq (s : State) (p : Path) (d : Descriptor) : (posted s p d).evq = s.evq :=
  (posted_frame s p d).same .evq rfl

/-- A command of the core is taken where the core is not in reset, and wakes it (R172). -/
theorem coreTakes_of_core {s : State} {p : Path} {d : Descriptor} (f : State → State) (h : s.mode.coreReset = false) :
    coreTakes s p d f = f (wake s 6) := if_neg (by simp [h])

theorem dropLost_of_not_lost {s : State} (h : countLost s = false) : dropLost s = s := if_neg (by simp [h])

@[simp] theorem periodNs_posted (s : State) (p : Path) (d : Descriptor) : periodNs (posted s p d) = periodNs s := by
  simp only [periodNs, cfgF, posted_cfg]

@[simp] theorem countLost_posted (s : State) (p : Path) (d : Descriptor) : countLost (posted s p d) = countLost s := by
  simp only [countLost, posted_sta, posted_time, periodNs_posted]

@[simp] theorem cycleEnd_posted (s : State) (p : Path) (d : Descriptor) : cycleEnd (posted s p d) = cycleEnd s := by
  simp only [cycleEnd, cycleNow, posted_time, periodNs_posted]

@[simp] theorem hasPlan_posted (s : State) (p : Path) (d : Descriptor) : hasPlan (posted s p d) = hasPlan s := by
  simp [hasPlan]

theorem pushCpl_intaStat (s : State) (p : Path) (d : Descriptor) (outcome result : Nat) :
    (pushCpl s p d outcome result).evq.intaStat = setBit s.evq.intaStat (if p == .slave then 1 else 0) true := by
  cases p <;> rfl

/-! ### LINE_START -/

/-- A start that is taken latches its plan, is held as the start that runs, and the starter sends SYNC frames (R140). -/
theorem starterStart_facts {s v : State} {p : Path} {d : Descriptor} (hc : countLost s = false) (hi : lineIdle s = true)
    (hv : latchPlan s = some v) : (starterStart s p d).sta.plan = v.sta.plan ∧
    (starterStart s p d).sta.starting = some (p, d) ∧ (starterStart s p d).time.sending = true := by
  have hs (x : State) : (settleBegin x).sta.plan = x.sta.plan ∧ (settleBegin x).sta.starting = x.sta.starting ∧
      (settleBegin x).time = x.time := by
    unfold settleBegin
    split <;> exact ⟨rfl, rfl, rfl⟩
  unfold starterStart
  rw [dropLost_of_not_lost hc]
  simp only [hi, Bool.not_true, Bool.false_eq_true, if_false, hv]
  split
  · obtain ⟨h1, h2, h3⟩ := hs { v with
      time := { v.time with sending := true }, sta := { v.sta with starting := some (p, d), waiting := some (p, d) } }
    exact ⟨h1, h2, congrArg TimeState.sending h3⟩
  · exact ⟨rfl, rfl, rfl⟩

theorem exec_lineStart_starter {s : State} {p : Path} {d : Descriptor} (h : Accepted s p { d with code := 2 })
    (hr : s.mode.role = .starter) (hc : s.mode.coreReset = false) : exec (.lineStart p d) s =
      .next (starterStart (wake (posted s p { d with code := 2 }) 6) p { d with code := 2 }) := by
  rw [exec, execLineStart, postFrom_eq _ h]
  simp only [posted_mode, hr]
  rw [coreTakes_of_core _ (by rw [posted_mode]; exact hc)]

theorem exec_lineStart_anchor {s v : State} {p : Path} {d : Descriptor} (h : Accepted s p { d with code := 2 })
    (hr : s.mode.role = .anchor) (hv : latchPlan (posted s p { d with code := 2 }) = some v) : exec (.lineStart p d) s =
      .next (complete { v with sta := { v.sta with anchor := { v.sta.anchor with started := true } } } p
        { d with code := 2 } 0 0) := by
  rw [exec, execLineStart, postFrom_eq _ h]
  simp only [posted_mode, hr, hv]
  rfl

/-! ### LINE_STOP -/

theorem exec_lineStop_starter {s : State} {p : Path} {d : Descriptor} (h : Accepted s p { d with code := 3 })
    (hr : s.mode.role = .starter) (hc : countLost s = false) (hs : s.sta.stopping = none) :
    exec (.lineStop p d) s = .next (if s.sta.stage = .first || s.sta.stage = .running then
        { posted s p { d with code := 3 } with sta := { (posted s p { d with code := 3 }).sta with
          stopping := some (p, { d with code := 3 }), stopT := cycleEnd (posted s p { d with code := 3 }) } }
      else complete ((enumNext (startAbandon (posted s p { d with code := 3 }) 0x0421)).reach
        (cycleEnd (enumNext (startAbandon (posted s p { d with code := 3 }) 0x0421)))) p { d with code := 3 } 0 0) := by
  rw [exec, execLineStop, postFrom_eq _ h]
  simp only [posted_mode, hr, dropLost_of_not_lost ((countLost_posted s p _).trans hc), posted_sta, hs, Option.isSome_none,
    Bool.false_eq_true, if_false]
  rfl

theorem lineStop_anchor {s : State} {p : Path} {d : Descriptor} (h : Accepted s p { d with code := 3 })
    (hr : s.mode.role = .anchor) : Completes (.lineStop p d) s (fun u => u.sta.anchor.heats = false ∧
      u.time.line = reachLine s.time.line (cycleEnd s)) := by
  have hk (x : State) : Kept (fun q => q == .sta || q == .time) x (complete x p { d with code := 3 } outOk 0) :=
    complete_kept x p _ _ _ (Kept.refl _ x) rfl rfl
  have hx : exec (.lineStop p d) s = .next (complete { (posted s p { d with code := 3 }).reach (cycleEnd s) with
      sta := { s.sta with anchor := { s.sta.anchor with heats := false } } } p { d with code := 3 } outOk 0) := by
    rw [exec, execLineStop, postFrom_eq _ h]
    simp only [posted_mode, hr, cycleEnd_posted, State.reach_sta, posted_sta]
  refine ⟨_, hx, ?_⟩
  dsimp only
  rw [(hk _).same .sta rfl, (hk _).same .time rfl]
  refine ⟨rfl, ?_⟩
  rw [State.reach_time, posted_time]

/-! ### ENUM -/

theorem emitMore_sta (s : State) (p : Port) (b : List Byte) : (emitMore s p b).sta = s.sta :=
  (emitMore_kept (kp := (· == .sta)) s p b (Kept.refl _ s) rfl).same .sta rfl

/-- A count that is asked for counts, with the descriptor's ASSIGN, at once or in the next gap (R141). -/
theorem countAsk_facts (s : State) (assign : Bool) : (countAsk s assign).sta.assign = assign ∧
    (countAsk s assign).sta.counting = true ∧ (countAsk s assign).sta.enumFor = s.sta.enumFor ∧
    (countAsk s assign).sta.enumWaits = s.sta.enumWaits := by
  unfold countAsk countSend
  dsimp only
  split
  · exact ⟨rfl, rfl, rfl, rfl⟩
  · dsimp only
    rw [emitMore_sta]
    exact ⟨rfl, rfl, rfl, rfl⟩

/-- A starter that has taken ENUM, the descriptor waiting in turn. -/
def enumTaken (s : State) (p : Path) (d : Descriptor) : State :=
  { s with sta := { s.sta with enumWaits := s.sta.enumWaits ++ [(p, d)] } }

theorem exec_enum {s : State} {p : Path} {d : Descriptor} (h : Accepted s p { d with code := 4 })
    (hr : s.mode.role = .starter) (hc : s.mode.coreReset = false)
    (hl : countLost (wake (posted s p { d with code := 4 }) 6) = false) : exec (.enum p d) s =
      .next (enumNext (enumTaken (wake (posted s p { d with code := 4 }) 6) p { d with code := 4 })) := by
  rw [exec, execEnum, postFrom_eq _ h, if_neg (by simp [hr]), coreTakes_of_core _ (by rw [posted_mode]; exact hc)]
  dsimp only
  rw [dropLost_of_not_lost hl]
  rfl

theorem enumNext_of_counting {s : State} (h : s.sta.counting = true) : enumNext s = s := by
  unfold enumNext
  split
  · exact if_pos (by simp [h])
  · rfl

theorem enumNext_of_free {s : State} {p : Path} {d : Descriptor} (hw : s.sta.enumWaits = [(p, d)])
    (hc : s.sta.counting = false) (hs : startsUp s = false) (hr : coreRuns s = true) :
    (enumNext s).sta.assign = (d.sub % 2 == 1) ∧ (enumNext s).sta.counting = true ∧
      (enumNext s).sta.enumFor = some (p, d) ∧ (enumNext s).sta.enumWaits = [] := by
  have hx : enumNext s =
      countAsk { s with sta := { s.sta with enumWaits := [], enumFor := some (p, d), countTries := 0 } } (d.sub % 2 == 1) := by
    simp [enumNext, hw, hc, hs, hr]
  rw [hx]
  exact countAsk_facts _ _

/-! ### GUN_SCHEDULE -/

theorem swapRequest_sta (s : State) (mode : Nat) : (swapRequest s mode).sta = s.sta :=
  (swapRequest_kept (kp := (· == .sta)) s mode (Kept.refl _ s) rfl rfl rfl).same .sta rfl

theorem exec_gunSchedule {s : State} {p : Path} {d : Descriptor} {v : Plan} (h : Accepted s p { d with code := 6 })
    (hr : s.mode.role = .starter) (hc : s.mode.coreReset = false) (hg : s.sta.gun = none) (hv : s.sta.plan = some v)
    {w : State} (hw : w = wake (posted s p { d with code := 6 }) 6)
    (ht : w.time.line + v.gunLead * periodNs w ≤ memNat w (apertureBase + d.off0) 8) : exec (.gunSchedule p d) s =
      .next (gunStart w v (memNat w (apertureBase + d.off0) 8) p { d with code := 6 }) := by
  have hp : w.sta.plan = some v := by
    rw [hw, wake_sta, posted_sta, hv]
  rw [exec, execGunSchedule, postFrom_eq _ h, if_neg (by simp [hr, hg]), coreTakes_of_core _ (by rw [posted_mode]; exact hc)]
  simp only [← hw, hp]
  rw [if_neg (Nat.not_lt.mpr ht)]

/-! ### RELAY_PULL -/

/-- The pull that a RELAY_PULL starts. -/
def pullRunOf (p : Path) (d : Descriptor) : PullRun :=
  { src := d.arg0, block := d.sub, left := d.arg1, tries := 0, parts := [], fails := [], failed := [], pulled := 0, path := p, d }

theorem exec_relayPull {s w : State} {p : Path} {d : Descriptor} (h : Accepted s p { d with code := 7 })
    (hw : w = wake (posted s p { d with code := 7 }) 6) (hr : s.mode.role = .starter) (hc : s.mode.coreReset = false)
    (h0 : pullRefusal w = 0) (hd : reachable w (d.arg0 % 65536) = true) (ha : d.arg0 ≤ 4094) {x : State}
    (hx : x = if w.upd.phase == .idle then setPhase { w with upd := { w.upd with ended := 0, source := 2 } } .pull else w) :
    exec (.relayPull p d) s =
      .next (pullStep { x with sta := { x.sta with pull := some (pullRunOf p { d with code := 7 }) } }) := by
  rw [exec, execRelayPull, postFrom_eq _ h, if_neg (by simp [hr]), coreTakes_of_core _ (by rw [posted_mode]; exact hc)]
  simp only [← hw, h0, hd, Nat.not_lt.mpr ha, bne_self_eq_false, Bool.false_eq_true, if_false, Bool.not_true, decide_false,
    Bool.or_self, ← hx]
  rfl

/-- Settles O29: what each posted command starts, or ends with at once. -/
theorem postedCommandsStart : Obligations.PostedCommandsStart := by
  refine ⟨fun p d s h ho => ?_, fun p d s w h hw => ⟨fun hr hc hl hi v hv => ?_, fun hr v hv => exec_lineStart_anchor h hr hv⟩,
    fun p d s q h hq => ⟨fun hr hc hs hg => ?_, fun v hr hc hs h1 h2 hv => ?_, fun hr => lineStop_anchor h hr⟩,
    fun p d s w h hw hr hc hl => ?_, fun p d s q h hq hp ha hf hd hs => ?_,
    fun p d s w v h hw hr hc hg hv ht => ⟨exec_gunSchedule h hr hc hg hv hw ht, ?_⟩,
    fun p d s w x h hw hr hc h0 hd ha hx => exec_relayPull h hw hr hc h0 hd ha hx, fun p d s q h hq hr ht he => ?_⟩
  · refine ⟨_, exec_nop_of_accepted h, by simp [ho], by simp [ho], ?_⟩
    simp [ho, drainNops, pushCpl_intaStat]
  · subst hw
    exact ⟨exec_lineStart_starter h hr hc, starterStart_facts hl hi hv⟩
  · subst hq
    rw [exec_lineStop_starter h hr hc hs, if_pos (by simpa using hg.symm)]
  · subst hv hq
    rw [exec_lineStop_starter h hr hc hs, if_neg (by simp [h1, h2])]
  · subst hw
    have hx := exec_enum h hr hc hl
    refine ⟨by simpa [enumTaken] using hx, fun hn hu hcr hw => ⟨_, hx, ?_⟩, fun hn => ⟨_, hx, ?_⟩⟩
    · exact enumNext_of_free (p := p) (d := { d with code := 4 }) (by simp [enumTaken, hw]) (by simpa [enumTaken] using hn)
        (by simpa [enumTaken, startsUp] using hu) hcr
    · rw [enumNext_of_counting (by simpa [enumTaken] using hn)]
      simp [enumTaken]
  · have hp' : hasPlan q = true := by rw [hq, hasPlan_posted, hp]
    have ha' : (d.arg1 == 0) = false := by simpa using ha
    have hs' : (natBits d.arg0 12 1 == 1 && sealedOff q) = false := by simpa using hs
    rw [exec, execLineTxn, postFrom_eq _ h]
    simp only [← hq, hp', ha', hf, hd, hs', Bool.not_true, Bool.false_eq_true, if_false]
  · rfl
  · subst hq
    rw [exec, execTakeoverEnd, postFrom_eq _ h, if_neg (by simp [hr, ht, he])]

end Sys2Proof.Machine
end

section
/-! SUPPORT. LineMaster: the starter settles its start, its records and its pings (R141 to R157) -/

namespace Sys2Proof.Machine

open Sys2Proof

set_option Elab.async false

theorem countAsk_stage (s : State) (assign : Bool) : (countAsk s assign).sta.stage = s.sta.stage ∧
    (countAsk s assign).time = s.time := by
  refine ⟨?_, (countAsk_kept (kp := (· == .time)) s assign (Kept.refl _ s) rfl rfl).same .time rfl⟩
  unfold countAsk countSend
  dsimp only
  split
  · rfl
  · dsimp only
    rw [emitMore_sta]
    rfl

theorem exec_lineStartSettle {s : State} (hs : s.sta.stage = .settle) (hl : s.mode.logicReset = false)
    (hc : countLost (s.reach s.sta.settleT) = false) : exec .lineStartSettle s =
      .next (countAsk { s.reach s.sta.settleT with sta := { s.sta with stage := .count, countTries := 0 } }
        ((s.sta.starting.map (fun x => x.2.sub % 2 == 1)).getD false)) := by
  rw [exec, execLineStartSettle, if_pos (by simp [hs, hl]), dropLost_of_not_lost hc]
  rfl

/-- A move of a position's topology word is written, and told where it is one (R157). -/
theorem topoTo_mem (s : State) (p state : Nat) (noslot : Bool) (miss : Nat) :
    (topoTo s p state noslot miss).mem = (topoPut s p state noslot miss).mem := by
  unfold topoTo
  dsimp only
  split
  · rfl
  · rw [postTopo, post_mem]

theorem pingSettle_of_silent_failed {s : State} {pos : Nat} (h : topoState s pos = 3) :
    pingSettle s pos false = topoTo s pos 4 (topoNoslot s pos) (topoMiss s pos) := by
  simp [pingSettle, h]

/-- Settles O30: the settle of a start, a baton, a record's retry and loss, and a ping's outcome. -/
theorem lineMasterKeepsItsInstants : Obligations.LineMasterKeepsItsInstants := by
  refine ⟨fun s hs hl hc => ⟨exec_lineStartSettle hs hl hc, _, exec_lineStartSettle hs hl hc, ?_⟩, fun v s hv hr hb hg => ?_,
    fun dest tag d t s h hd hl hs => ⟨fun hq hn hf => ?_, ?_⟩, fun pos r ok s hr ho hc => ?_⟩
  · obtain ⟨h1, h2⟩ := countAsk_stage { s.reach s.sta.settleT with sta := { s.sta with stage := .count, countTries := 0 } }
      ((s.sta.starting.map (fun x => x.2.sub % 2 == 1)).getD false)
    exact ⟨h1, (countAsk_facts _ _).2.1, congrArg TimeState.line h2⟩
  · simp [exec, execBatonSend, hv, hr, Nat.not_le.mpr hb, Nat.not_lt.mpr hg]
  · simp only [exec, execTxnRetry, h, hq, hl, beq_eq_false_iff_ne.mpr hd, decide_eq_false (Nat.not_le.mpr hn), Bool.or_self,
      Bool.false_eq_true, if_false, hf, if_true]
  · simp only [exec, execTxnLost, h, hs, hl, beq_eq_false_iff_ne.mpr hd, Bool.or_self, Bool.false_eq_true, if_false]
  · have hx : exec (.pingOutcome pos) s = .next (pingSettle { s with sta := { s.sta with
        pings := s.sta.pings.filter (fun x => x.pos != pos) } } pos ok) := by
      simp only [exec, execPingOutcome, hr, ho, hc, if_true]
    refine ⟨hx, fun hk ht => ⟨_, hx, ?_⟩⟩
    subst hk
    dsimp only
    rw [pingSettle_of_silent_failed (by exact ht), topoTo_mem]
    rfl

end Sys2Proof.Machine
end

section
/-! SUPPORT. GunsAndTakeovers: the starting gun, the takeover and the distribution (R158 to R166, R400) -/

namespace Sys2Proof.Machine

open Sys2Proof

set_option Elab.async false

/-! ### The starting gun -/

theorem gunEnd_frame (s : State) (outcome result : Nat) : Kept (fun q => q == .cfg || q == .time) s (gunEnd s outcome result) :=
  gunEnd_kept s outcome result (Kept.refl _ s) rfl rfl rfl

/-- The gun's cutoff, taken: its command ends cancelled and the cancelled gun's broadcast waits (R160). -/
def gunCut (s : State) (g : GunRun) (v : Plan) : State :=
  let s := gunEnd { s with cfg := { s.cfg with armed := none } } outCancelled 0
  addLine { s with sta := { s.sta with gun := some { g with cancelled := true } } }
    (newLine .gunCancel 4095 0x03 v.pingLife false [0x22, 0, 0x40, 0])

theorem exec_gunCutoff {g : GunRun} {v : Plan} {s : State} (hg : s.sta.gun = some g) (hc : g.cancelled = false)
    (hn : g.closing = none) (hr : coreRuns s = true) (hv : s.sta.plan = some v) (ht : s.time.line < g.g)
    (ha : g.all = true) (ho : gunOpen s g ≠ []) :
    exec .gunCutoff s = .next (gunCut (s.reach (g.g - 4 * periodNs s)) g v) := by
  have ho' : (g.all && !(gunOpen (s.reach (g.g - 4 * periodNs s)) g).isEmpty) = true := by
    have h : gunOpen (s.reach (g.g - 4 * periodNs s)) g = gunOpen s g := rfl
    simp [h, ha, ho]
  simp only [exec, execGunCutoff, hg, hv]
  rw [if_neg (by simp [hc, hn, hr, Nat.not_le.mpr ht]), if_pos ho']
  rfl

/-- The gun's closing sweep, begun over the positions present (R161). -/
def gunSwept (s : State) (g : GunRun) (l : List Nat) : State :=
  { s with sta := { s.sta with
    gun := some { g with closing := some l, total := l.length }
    txns := s.sta.txns.filter (fun t => t.for_ != .gunRead && t.for_ != .gunWrite && t.for_ != .gunBcast) } }

theorem exec_gunClosingSweep {g : GunRun} {s : State} (hg : s.sta.gun = some g) (hc : g.cancelled = false)
    (hn : g.closing = none) (hr : coreRuns s = true) : exec .gunClosingSweep s =
      .next (if (posIn s 2).isEmpty then gunFinish (gunSwept (s.reach g.g) g (posIn s 2))
        { g with closing := some (posIn s 2), total := (posIn s 2).length } else gunSwept (s.reach g.g) g (posIn s 2)) := by
  have hp : posIn (s.reach g.g) 2 = posIn s 2 := rfl
  simp only [exec, execGunClosingSweep, hg]
  rw [if_neg (by simp [hc, hn, hr]), hp]
  rfl

/-! ### A takeover -/

theorem exec_takeoverStart {s : State} (hm : takeoverMay s = true) : ∃ u : State, exec .takeoverStart s = .next u ∧
    u.sta.anchor.takeover = true ∧ u.time.originAnchor = true ∧ u.sta.anchor.heats = heatsBefore s ∧
    u.time.line = reachLine s.time.line (cycleEnd s) := by
  refine ⟨_, if_neg (by simp [hm]), ?_⟩
  dsimp only
  have hs : (refLost (s.reach (cycleEnd s))).sta = s.sta :=
    (refLost_kept (kp := (· == .sta)) _ (State.reach_kept s _ (Kept.refl _ s) rfl) rfl rfl rfl).same .sta rfl
  have hc : (refLost (s.reach (cycleEnd s))).cfg = s.cfg :=
    (refLost_kept (kp := (· == .cfg)) _ (State.reach_kept s _ (Kept.refl _ s) rfl) rfl rfl rfl).same .cfg rfl
  have hh : heatsBefore (refLost (s.reach (cycleEnd s))) = heatsBefore s := by
    unfold heatsBefore periodNs cfgF
    rw [hs, hc]
  rw [post_sta, post_time]
  exact ⟨rfl, rfl, hh, by rw [refLost_time]; rfl⟩

theorem reacquire_facts (s : State) : (reacquire s).time.line = s.time.line ∧
    (reacquire s).time.originAnchor = s.time.originAnchor ∧ (reacquire s).sta = s.sta := by
  have hs : (reacquire s).sta = s.sta := (reacquire_kept (kp := (· == .sta)) s (Kept.refl _ s) rfl rfl rfl).same .sta rfl
  refine ⟨?_, ?_, hs⟩ <;> rw [reacquire, withTimeOk_time] <;> dsimp only <;> split <;> simp [holdTime, meanRestart, slewStop]

theorem takeoverStop_facts (s : State) : (takeoverStop s).sta.anchor.takeover = false ∧
    (takeoverStop s).sta.anchor.heats = false ∧ (takeoverStop s).sta.anchor.trigger = none ∧
    (takeoverStop s).time.originAnchor = false ∧ (takeoverStop s).time.line = s.time.line := by
  have hc (x : State) (p : Path) (d : Descriptor) : Kept (fun q => q == .sta || q == .time) x (complete x p d outOk 0) :=
    complete_kept x p d outOk 0 (Kept.refl _ x) rfl rfl
  have hr (x : State) := reacquire_facts x
  unfold takeoverStop
  dsimp only
  split
  · rw [(hc _ _ _).same .sta rfl, (hc _ _ _).same .time rfl]
    simp [hr]
  · simp [hr]

/-! ### A distribution -/

/-- A distribution whose joining time is over, its sectors to send chosen (R400). -/
def distWaited (s : State) (t : Nat) (d : DistRun) : State :=
  { s.reach t with upd := { s.upd with
    distOnce := true, dist := some { d with waiting := false, toSend := neededSectors s.upd.metaSectors s.upd.blocks } } }

theorem exec_distributeWaitEnd {t : Nat} {d : DistRun} {s : State} (hd : s.upd.dist = some d) (hp : s.upd.phase = .distribute)
    (hr : coreRuns s = true) (hw : d.waiting = true) (hj : d.joinT = some t) (ho : s.upd.distOnce = false) :
    exec .distributeWaitEnd s = .next (distWaited s (t + 6000000000) d) := by
  simp only [exec, execDistributeWaitEnd, hd, hj]
  rw [if_pos (by simp [hw, hp, hr]), State.reach_upd, if_neg (by simp [ho]), ← hj]
  rfl

/-- A distribution with sectors left once it has sent one. -/
def relaySent (s : State) (d : DistRun) (n : Nat) (r : List Nat) : State :=
  let s := emit s .b (relayBody s n d.round) none
  { s with upd := { s.upd with
    rseq := (s.upd.rseq + 1) % 65536, relayT := some s.time.line, dist := some { d with toSend := r } } }

theorem exec_relaySend {d : DistRun} {s : State} {n m : Nat} {r : List Nat} (hd : s.upd.dist = some d)
    (hp : s.upd.phase = .distribute) (hr : coreRuns s = true) (hw : d.waiting = false) (hs : d.toSend = n :: m :: r)
    (ht : s.upd.relayT = none) (hg : 4128 ≤ gapRoom s) : exec .relaySend s = .next (relaySent s d n (m :: r)) := by
  simp only [exec, execRelaySend, hd, hs, ht]
  rw [if_pos (by simp [hp, hr, hw]), if_neg (Nat.not_lt.mpr hg), if_neg (by simp)]
  rfl

theorem relaySent_facts (s : State) (d : DistRun) (n : Nat) (r : List Nat) :
    (relaySent s d n r).upd.rseq = (s.upd.rseq + 1) % 65536 ∧ (relaySent s d n r).upd.relayT = some s.time.line ∧
    (relaySent s d n r).upd.dist = some { d with toSend := r } ∧
    (isUp s .b = true → (lport (relaySent s d n r) .b).sent = [wholeFrame (relayBody s n d.round) none]) := by
  have hu : (emit s .b (relayBody s n d.round) none).upd = s.upd :=
    (emit_kept (kp := (· == .upd)) s .b _ none (Kept.refl _ s) rfl).same .upd rfl
  unfold relaySent
  dsimp only
  rw [hu, emit_time]
  exact ⟨rfl, rfl, rfl, fun h => emit_sent _ none h⟩

/-- Settles O31: the gun's cutoff and closing, the takeover's begin and end, and a distribution's sending. -/
theorem gunsTakeoversAndDistributionsGoOn : Obligations.GunsTakeoversAndDistributionsGoOn := by
  refine ⟨fun g v s hg hc hn hr => ⟨fun hv ht ha ho => ⟨_, exec_gunCutoff hg hc hn hr hv ht ha ho, ?_⟩, fun hp => ?_,
      fun hp => ?_⟩, fun s hm => exec_takeoverStart hm, fun s ht he hl => ⟨_, if_pos (by simp [ht, he, hl]), ?_⟩,
    fun t d s hd hp hr => ⟨fun hw hj ho => ⟨_, exec_distributeWaitEnd hd hp hr hw hj ho, rfl, rfl, rfl⟩,
      fun hw n m r hs ht hg => ⟨_, exec_relaySend hd hp hr hw hs ht hg, relaySent_facts s d n (m :: r)⟩⟩⟩
  · have hf := gunEnd_frame { s.reach (g.g - 4 * periodNs s) with cfg := { s.cfg with armed := none } } outCancelled 0
    exact ⟨congrArg CfgState.armed (hf.same .cfg rfl), rfl, congrArg TimeState.line (hf.same .time rfl)⟩
  · have hx := exec_gunClosingSweep hg hc hn hr
    rw [if_neg (by simpa using hp)] at hx
    exact ⟨_, hx, rfl, rfl⟩
  · rw [exec_gunClosingSweep hg hc hn hr, hp]
    rfl
  · obtain ⟨h1, h2, h3, h4, h5⟩ := takeoverStop_facts (s.reach (cycleEnd s))
    exact ⟨h1, h2, h3, h4, h5⟩

end Sys2Proof.Machine
end

section
/-! SUPPORT. Keys: the key of a path (R150) -/

namespace Sys2Proof.Machine

open Sys2Proof

set_option Elab.async false

/-! ### The keys of the paths -/

@[simp] theorem keyOf_setKey_same (s : State) (p : Path) (k : PathKey) : keyOf (s.setKey p k) p = k := by
  cases p <;> rfl

theorem keyOf_setKey_ne (s : State) {p q : Path} (k : PathKey) (h : q ≠ p) : keyOf (s.setKey p k) q = keyOf s q := by
  cases p <;> cases q <;> first | rfl | exact absurd rfl h

@[simp] theorem keyOf_endCapture (s : State) (p q : Path) : keyOf (endCapture s p) q = keyOf s q := by
  cases p <;> cases q <;> rfl

theorem keyOf_commitHalf (s : State) (q : Path) : keyOf (commitHalf s) q = keyOf s q := by
  unfold commitHalf
  split
  · cases q <;> rfl
  · rfl

@[simp] theorem keyOf_hostAccess (s : State) (p q : Path) : keyOf (hostAccess s p) q = keyOf s q := by
  cases p
  · have h : keyOf (hostAccess s .host) q = keyOf (commitHalf s) q := by cases q <;> rfl
    exact h.trans (keyOf_commitHalf s q)
  · rfl
  · rfl

theorem exec_keyseqWrite {p : Path} {w : Word} {s : State} (hp : pathOpen s p = true) (hd : s.ser.spOffDue = false) :
    exec (.keyseqWrite p w) s =
      .next ((endCapture (hostAccess s p) p).setKey p (keyWrite (keyOf s p) w s.time.line)) := by
  have hk : Kept (fun q => q == .time || q == .ser) s (endCapture (hostAccess s p) p) := by simp [Kept.refl]
  have ht : (endCapture (hostAccess s p) p).time = s.time := hk.same .time rfl
  have hs : (endCapture (hostAccess s p) p).ser = s.ser := hk.same .ser rfl
  have hr : served s p (fun s v => regWriteTo s v (regAddr 0x7C) w) =
      (endCapture (hostAccess s p) p).setKey p (keyWrite (keyOf s p) w s.time.line) := by
    have hw : regWriteTo (hostAccess s p) (accNow s p) 0x7C w = regKeyseq (hostAccess s p) (accNow s p) w := by
      simp [regWriteTo, lineBars]
    rw [served, if_pos hp, show regAddr 0x7C = 0x7C from rfl, hw]
    simp only [regKeyseq, accNow, keyOf_endCapture, keyOf_hostAccess, ht]
  rw [exec, execKeyseqWrite, regWriteRow, hr, slaveEnd, if_neg]
  rw [State.setKey_ser, hs, hd]
  exact Bool.false_ne_true

/-- Settles O58: what each key word makes of a path's key, what another write and the lapse leave of it. -/
theorem keyStatesFollowTheWrites : Obligations.KeyStatesFollowTheWrites := by
  refine ⟨fun p w s hp hd => ⟨_, exec_keyseqWrite hp hd, fun h => ?_, fun h hk => ?_, fun h h2 => ?_, fun q hq => ?_⟩,
    fun p s => ?_⟩
  · simp [keyWrite, h]
  · simp [keyWrite, h, hk]
  · have hn : ¬ ((w == 0xC3A5 && (keyOf s p).st == .half) = true) := by
      intro hb
      obtain ⟨hw, hk⟩ := Bool.and_eq_true_iff.mp hb
      exact h2.elim (· (beq_iff_eq.mp hw)) (· (beq_iff_eq.mp hk))
    simp only [keyOf_setKey_same, keyWrite, beq_iff_eq, h, if_false, if_neg hn, and_self]
  · rw [keyOf_setKey_ne _ _ hq, keyOf_endCapture, keyOf_hostAccess]
  · have ha : keyOf (acting s p) p = keySpend (keyOf s p) := by
      simp [acting, beginWrite]
    rw [ha]
    refine ⟨fun h => by simp [keySpend, h], fun h => by simp [keySpend, h], fun h => by simp [keySpend, h],
      fun q hq => ?_, fun h => ?_⟩
    · simp [acting, beginWrite, keyOf_setKey_ne _ _ hq]
    · have hx : exec (.keyLapse p) s =
          .next ((s.reach ((keyOf s p).openT + 100000)).setKey p { keyOf s p with st := .idle }) := by
        simp [exec, execKeyLapse, h]
      exact ⟨_, hx, by simp, by simp, by simp⟩

end Sys2Proof.Machine
end

section
/-! SUPPORT. HostBus: the cycles of the host bus (R142 to R149) -/

namespace Sys2Proof.Machine

open Sys2Proof

set_option Elab.async false

/-! ### The start of an access of the host window -/

theorem winBegin_frame (s : State) : Kept (fun q => q != .mem && q != .bus) s (winBegin s) :=
  winBegin_kept s (Kept.refl _ s) rfl rfl

@[simp] theorem winBegin_ser (s : State) : (winBegin s).ser = s.ser := (winBegin_frame s).same .ser rfl
@[simp] theorem winBegin_time (s : State) : (winBegin s).time = s.time := (winBegin_frame s).same .time rfl
@[simp] theorem winBegin_cfg (s : State) : (winBegin s).cfg = s.cfg := (winBegin_frame s).same .cfg rfl
@[simp] theorem winBegin_mem (s : State) : (winBegin s).mem = (commitHalf s).mem := rfl

theorem commitHalf_bus (s : State) : (commitHalf s).bus = { s.bus with heldWrite := none } := by
  unfold commitHalf
  split
  · rfl
  · next h => rw [← h]

/-- An access writes a held half word, drops a held read and ends the capture of faults and forces. -/
@[simp] theorem winBegin_bus (s : State) :
    (winBegin s).bus = { s.bus with heldWrite := none, heldRead := none, chinHost := {} } := by
  have h : (winBegin s).bus = { (commitHalf s).bus with heldRead := none, chinHost := {} } := rfl
  rw [h, commitHalf_bus]

theorem memNat_of_mem {s t : State} (h : s.mem = t.mem) (a n : Nat) : memNat s a n = memNat t a n := by
  simp only [memNat, h]

theorem pathOpen_host_no_read {s : State} (h : pathOpen s .host = true) : s.ser.hostRead = none := by
  simp only [pathOpen, Bool.and_eq_true, Option.isNone_iff_eq_none] at h
  exact h.2

/-! ### The aperture -/

theorem exec_apertureWrite {s : State} (o : Nat) (w : Word) (up low : Bool) (h : pathOpen s .host = true) :
    exec (.apertureWrite o w up low) s = .next (winWrite s o w up low) := if_pos h

/-- The whole low half of a word of the aperture is held. -/
theorem winWrite_low {s : State} {o : Nat} (w : Word) (hx : winOfs o < 0x80000) (h4 : winOfs o % 4 = 0) :
    winWrite s o w true true =
      { winBegin s with bus := { (winBegin s).bus with heldWrite := some (apertureBase + winOfs o, w) } } := by
  have h2 : ¬ (winOfs o % 4 == 2) = true := by simp [h4]
  simp only [winWrite, hx, Bool.and_self, decide_true, if_true, h4, beq_self_eq_true]
  split
  · rw [if_neg (by simp)]
  · rfl

theorem winWrite_high_of_held {s : State} {o : Nat} (w l : Word) (hx : winOfs o < 0x80000) (h4 : winOfs o % 4 = 2)
    (hh : s.bus.heldWrite = some (apertureBase + winOfs o - 2, l)) : winWrite s o w true true =
      winBegin { s.store (apertureBase + winOfs o - 2) (leBytes 2 l.toNat ++ leBytes 2 w.toNat) with
        bus := { s.bus with heldWrite := none } } := by
  have ha : apertureBase + winOfs o - 2 + 2 = apertureBase + winOfs o := by omega
  simp only [winWrite, hx, Bool.and_self, decide_true, if_true, h4, hh, ha, beq_self_eq_true]
  rfl

theorem winWrite_high_of_not_held {s : State} {o : Nat} (w : Word) (hx : winOfs o < 0x80000) (h4 : winOfs o % 4 = 2)
    (hh : ∀ l : Word, s.bus.heldWrite ≠ some (apertureBase + winOfs o - 2, l)) :
    winWrite s o w true true = storeLanes (winBegin s) (apertureBase + winOfs o) w true true := by
  simp only [winWrite, hx, Bool.and_self, decide_true, if_true, h4]
  split
  · next h l he =>
    rw [if_neg, if_neg (by simp)]
    intro hc
    refine hh l (he.trans ?_)
    have : h + 2 = apertureBase + winOfs o := by simpa using hc
    rw [← this, Nat.add_sub_cancel]
  · exact if_neg (by simp)

theorem winWrite_lane {s : State} {o : Nat} (w : Word) {up low : Bool} (hx : winOfs o < 0x80000) (hu : up = !low) :
    winWrite s o w up low = storeLanes (winBegin s) (apertureBase + winOfs o) w up low := by
  subst hu
  cases low <;> simp [winWrite, hx]

/-- An access of no lane only begins. -/
theorem winWrite_no_lane (s : State) (o : Nat) (w : Word) : winWrite s o w false false = winBegin s := by
  simp [winWrite]

theorem winWrite_beyond {s : State} {o : Nat} (w : Word) {up low : Bool} (hx : 0x80000 ≤ winOfs o) (hl : (up || low) = true) :
    winWrite s o w up low = winError (winBegin s) (winOfs o) := by
  have hx' : ¬ winOfs o < 0x80000 := Nat.not_lt.mpr hx
  cases up <;> cases low <;> simp_all [winWrite]

/-- The word that a read of the aperture drives: the captured other half of the word read last, or SRAM's. -/
def apertureWord (s : State) (a : Nat) : Word :=
  match s.bus.heldRead with
  | some (h, u) => if h == a then u else word (memNat (winBegin s) a 2)
  | none => word (memNat (winBegin s) a 2)

/-- A read of the aperture drives its lanes and captures the other half of a word (R143). -/
def apertureDriven (s : State) (x : Nat) (up low : Bool) : State :=
  { winBegin s with bus := { (winBegin s).bus with
    hd := driveLanes (winBegin s).bus.hd (apertureWord s (winSram x)) up low
    heldRead := if x % 4 == 0 then some (winSram x + 2, word (memNat (winBegin s) (winSram x + 2) 2)) else none } }

theorem winRead_aperture {s : State} {o : Nat} {up low : Bool} (hx : winOfs o < 0x90000) (hl : (up || low) = true) :
    winRead s o up low = apertureDriven s (winOfs o) up low := by
  have h1 : ¬ (!up && !low) = true := by cases up <;> simp_all
  have h2 : ¬ 0x800000 ≤ winOfs o := by omega
  have h3 : ¬ 0x90000 ≤ winOfs o := by omega
  simp only [winRead, if_neg h1, if_neg h2, if_neg h3]
  rfl

theorem apertureDriven_hd (s : State) (x : Nat) (up low : Bool) :
    (apertureDriven s x up low).bus.hd = driveLanes s.bus.hd (apertureWord s (winSram x)) up low := by
  simp only [apertureDriven, winBegin_bus]

theorem apertureDriven_of_none {s : State} {x : Nat} (up low : Bool) (h : s.bus.heldRead = none) :
    (apertureDriven s x up low).bus.hd = driveLanes s.bus.hd (word (memNat (commitHalf s) (winSram x) 2)) up low ∧
    (apertureDriven s x up low).mem = (commitHalf s).mem ∧ (x % 4 = 2 → (apertureDriven s x up low).bus.heldRead = none) ∧
    (x % 4 = 0 → (apertureDriven s x up low).bus.heldRead =
      some (winSram x + 2, word (memNat (commitHalf s) (winSram x + 2) 2))) := by
  have hm (a : Nat) : memNat (winBegin s) a 2 = memNat (commitHalf s) a 2 := memNat_of_mem (winBegin_mem s) a 2
  have hw : apertureWord s (winSram x) = word (memNat (commitHalf s) (winSram x) 2) := by
    simp only [apertureWord, h, hm]
  refine ⟨(apertureDriven_hd s x up low).trans (by rw [hw]), rfl, fun h2 => ?_, fun h0 => ?_⟩
  · exact if_neg (by simp [h2])
  · exact (if_pos (by simp [h0])).trans (by rw [hm])

theorem apertureDriven_of_held {s : State} {x : Nat} {w : Word} (up low : Bool) (h : s.bus.heldRead = some (winSram x, w)) :
    (apertureDriven s x up low).bus.hd = driveLanes s.bus.hd w up low := by
  have hw : apertureWord s (winSram x) = w := by
    simp only [apertureWord, h, beq_self_eq_true, if_true]
  rw [apertureDriven_hd, hw]

theorem winRead_beyond {s : State} {o : Nat} {up low : Bool} (hx : 0x90000 ≤ winOfs o) (hw : winOfs o < 0x800000)
    (hl : (up || low) = true) : winRead s o up low = { winError (winBegin s) (winOfs o) with
      bus := { (winError (winBegin s) (winOfs o)).bus with
        hd := driveLanes (winError (winBegin s) (winOfs o)).bus.hd 0xFFFF up low } } := by
  have h1 : ¬ (!up && !low) = true := by cases up <;> simp_all
  simp only [winRead, if_neg h1, if_neg (Nat.not_le.mpr hw), if_pos hx]

theorem winRead_no_lane (s : State) (o : Nat) : winRead s o false false = winBegin s := by
  simp [winRead]

theorem winError_bus (s : State) (x : Nat) : (winError s x).bus = { s.bus with winErr := true } := by
  rw [winError, busError, post_bus]

/-! ### The direct-execution window -/

theorem winOfs_window (o : Nat) : 0x800000 ≤ winOfs (0x800000 + o % 0x800000) := by
  unfold winOfs
  omega

theorem exec_xipRead {s : State} {o x : Nat} (h : pathOpen s .host = true) (hx : x = winOfs (0x800000 + o % 0x800000)) :
    exec (.xipRead o) s = .next (windowRead (winBegin s) x) := by
  have hw := winOfs_window o
  rw [exec, execXipRead, if_pos h]
  rw [← hx] at hw
  simp only [winRead, Bool.not_true, Bool.and_self, Bool.false_eq_true, if_false, ← hx, if_pos hw]

/-- A wait of the host for the direct-execution window, as a serial job leaves it. -/
def hostWait (s : State) : Option Nat × Bool := (s.ser.hostRead, s.ser.hostGone)

theorem srcBegin_ser (s : State) (f : Requester) : (srcBegin s f).ser = s.ser :=
  (srcBegin_kept (kp := (· == .ser)) s f (Kept.refl _ s) rfl).same .ser rfl

theorem hostWait_startJob (s : State) (j : SerJob) : hostWait (startJob s j) = hostWait s := by
  unfold startJob markCont
  cases j with
  | xfer a b c d e f =>
    have h : hostWait (srcBegin s f) = hostWait s := by rw [hostWait, srcBegin_ser, hostWait]
    exact h
  | exit c a b =>
    dsimp only
    split <;> rfl
  | _ => rfl

theorem hostWait_serAdd (s : State) (j : SerJob) : hostWait (serAdd s j) = hostWait s := by
  have hc (x : State) : hostWait (cancelPrefetch x) = hostWait x := by
    unfold cancelPrefetch
    split <;> rfl
  have hr (x : State) : hostWait (serRun x) = hostWait x := by
    unfold serRun
    split
    · rfl
    · split
      · rfl
      · split <;> exact hostWait_startJob _ _
  unfold serAdd
  dsimp only
  rw [hr]
  exact hc _

theorem askExit_facts (s : State) (c : Nat) : hostWait (askExit s c) = hostWait s ∧ (askExit s c).bus = s.bus := by
  refine ⟨?_, (askExit_kept (kp := (· == .bus)) s c (Kept.refl _ s) rfl rfl).same .bus rfl⟩
  unfold askExit
  split
  · exact hostWait_serAdd s _
  · rfl

/-- A flush that waits for the end of a window read, done (R147). -/
def flushedAfter (s : State) : State :=
  if s.ser.flushDue then
    let s := askExit (flushLines s) s.bus.xipSel
    { s with ser := { s.ser with flushDue := false } }
  else s

/-- A move of the window that waits for the end of a window read, done (R147). -/
def movedAfter (s : State) : State :=
  match s.ser.xipDue with
  | some (sel, base) =>
    let s := askExit (flushLines s) s.bus.xipSel
    { s with bus := { s.bus with xipSel := sel, xipBase := base }, ser := { s.ser with xipDue := none } }
  | none => s

theorem afterRead_eq (s : State) : afterRead s = movedAfter (flushedAfter s) := rfl

theorem askExit_flushLines_facts (s : State) : hostWait (askExit (flushLines s) s.bus.xipSel) = hostWait s ∧
    (askExit (flushLines s) s.bus.xipSel).bus = s.bus := askExit_facts (flushLines s) s.bus.xipSel

theorem flushedAfter_facts (s : State) : hostWait (flushedAfter s) = hostWait s ∧ (flushedAfter s).bus = s.bus := by
  unfold flushedAfter
  split
  · exact askExit_flushLines_facts s
  · exact ⟨rfl, rfl⟩

theorem movedAfter_facts (s : State) : hostWait (movedAfter s) = hostWait s ∧ (movedAfter s).bus.hd = s.bus.hd ∧
    (movedAfter s).bus.timeout = s.bus.timeout := by
  unfold movedAfter
  split
  · obtain ⟨h1, h2⟩ := askExit_flushLines_facts s
    exact ⟨h1, (congrArg BusState.hd h2 :), (congrArg BusState.timeout h2 :)⟩
  · exact ⟨rfl, rfl, rfl⟩

/-- What follows a window read leaves the data bus, the timeout flag and the end of the wait. -/
theorem afterRead_facts (s : State) : hostWait (afterRead s) = hostWait s ∧ (afterRead s).bus.hd = s.bus.hd ∧
    (afterRead s).bus.timeout = s.bus.timeout := by
  obtain ⟨h1, h2⟩ := flushedAfter_facts s
  obtain ⟨h3, h4, h5⟩ := movedAfter_facts (flushedAfter s)
  rw [afterRead_eq]
  exact ⟨h3.trans h1, h4.trans (congrArg BusState.hd h2), h5.trans (congrArg BusState.timeout h2)⟩

theorem endRead_facts (s : State) (w : Word) : (endRead s w).ser.hostRead = none ∧
    (endRead s w).bus.hd = (if s.ser.hostGone then s.bus.hd else w) ∧ (endRead s w).bus.timeout = s.bus.timeout := by
  obtain ⟨h1, h2, h3⟩ := afterRead_facts { s with bus := { s.bus with hd := if s.ser.hostGone then s.bus.hd else w },
                                                  ser := { s.ser with hostRead := none, hostGone := false } }
  exact ⟨congrArg Prod.fst h1, h2, h3⟩

/-- The byte address at offset x of the window, by the window's base. -/
def addrIn (base x : Nat) : Nat := base * 0x800000 + (x - 0x800000)

/-- The device's byte address that offset x of the window selects. -/
def windowAddr (s : State) (x : Nat) : Nat := addrIn s.bus.xipBase x

theorem eq_windowAddr {s : State} {x a : Nat} (h : a = s.bus.xipBase * 0x800000 + (x - 0x800000)) : a = windowAddr s x := by
  unfold windowAddr addrIn
  exact h

theorem windowAddr_winBegin (s : State) (x : Nat) : windowAddr (winBegin s) x = windowAddr s x := by
  have h : (winBegin s).bus.xipBase = s.bus.xipBase := by rw [winBegin_bus]
  exact congrArg (addrIn · x) h

theorem windowRead_bad {s : State} {x : Nat}
    (h : s.bus.xipEn = false ∨ 2 ^ csel s s.bus.xipSel 0 11 5 ≤ windowAddr s x) :
    windowRead s x = { s with bus := { s.bus with hd := 0xFFFF, winErr := true } } := by
  unfold windowRead
  split
  · rfl
  · next hn =>
    have he : s.bus.xipEn = true := by simpa using hn
    exact if_pos (h.resolve_left (by simp [he]))

/-- The host waits for byte address a of the window's device (R144). -/
def hostWaits (s : State) (a : Nat) : State := { s with ser := { s.ser with hostRead := some a, hostT := s.time.line } }

theorem windowRead_good {s : State} {x : Nat} (he : s.bus.xipEn = true)
    (ha : windowAddr s x < 2 ^ csel s s.bus.xipSel 0 11 5) : windowRead s x =
      if s.ser.erase == some s.bus.xipSel then hostWaits s (windowAddr s x)
      else serveRead (hostWaits s (windowAddr s x)) (windowAddr s x) := by
  unfold windowRead
  rw [if_neg (by simp [he])]
  exact if_neg (Nat.not_le.mpr ha)

theorem csel_winBegin (s : State) (c w lo n : Nat) : csel (winBegin s) c w lo n = csel s c w lo n := by
  simp only [csel, cfgF, winBegin_cfg]

theorem exec_xipRead_bad {s : State} {o x : Nat} (h : pathOpen s .host = true) (hx : x = winOfs (0x800000 + o % 0x800000))
    (hb : s.bus.xipEn = false ∨ 2 ^ csel s s.bus.xipSel 0 11 5 ≤ windowAddr s x) :
    exec (.xipRead o) s = .next { winBegin s with bus := { (winBegin s).bus with hd := 0xFFFF, winErr := true } } := by
  have he : (winBegin s).bus.xipEn = s.bus.xipEn ∧ (winBegin s).bus.xipSel = s.bus.xipSel := by simp
  have hw := windowAddr_winBegin s x
  rw [exec_xipRead h hx, windowRead_bad]
  rw [he.1, he.2, hw, csel_winBegin]
  exact hb

theorem exec_xipRead_good {s : State} {o x : Nat} (h : pathOpen s .host = true) (hx : x = winOfs (0x800000 + o % 0x800000))
    (he : s.bus.xipEn = true) (ha : windowAddr s x < 2 ^ csel s s.bus.xipSel 0 11 5) :
    exec (.xipRead o) s = .next (if s.ser.erase == some s.bus.xipSel then hostWaits (winBegin s) (windowAddr s x)
      else serveRead (hostWaits (winBegin s) (windowAddr s x)) (windowAddr s x)) := by
  have hw := windowAddr_winBegin s x
  have hs : (winBegin s).bus.xipSel = s.bus.xipSel := by simp
  rw [exec_xipRead h hx, windowRead_good (by simpa using he), hw, hs, winBegin_ser]
  rw [hw, csel_winBegin, hs]
  exact ha

theorem serveRead_of_line {s : State} {a : Nat} {b : List Byte}
    (hf : s.ser.lines.find? (fun x => x.1 == lineOf a) = some (lineOf a, b)) :
    serveRead s a = endRead (putLine s (lineOf a) b) (lineWord b (a - lineOf a)) := by
  simp only [serveRead, hf]

theorem serveRead_of_prefetch {s : State} {a : Nat} (hf : s.ser.lines.find? (fun x => x.1 == lineOf a) = none)
    (hr : s.ser.running = some (.prefetch s.bus.xipSel (lineOf a))) (hs : s.ser.stale = false) : serveRead s a =
      { s with ser := { s.ser with running := some (.demand s.bus.xipSel (lineOf a) (some (a - lineOf a))) } } := by
  simp only [serveRead, hf]
  exact if_pos (by simp [hr, hs])

theorem serveRead_of_demand {s : State} {a : Nat} (hf : s.ser.lines.find? (fun x => x.1 == lineOf a) = none)
    (hr : s.ser.running ≠ some (.prefetch s.bus.xipSel (lineOf a))) :
    serveRead s a = serAdd s (.demand s.bus.xipSel (lineOf a) (some (a - lineOf a))) := by
  simp only [serveRead, hf]
  exact if_neg (by simp [hr])

/-- What a read of the window, from a device that is selected, does by its lines and the jobs that run (R145, R146). -/
theorem xipRead_good {s : State} {o x : Nat} (h : pathOpen s .host = true) (hx : x = winOfs (0x800000 + o % 0x800000))
    (he : s.bus.xipEn = true) (ha : windowAddr s x < 2 ^ csel s s.bus.xipSel 0 11 5) (b : List Byte) :
    (s.ser.erase = some s.bus.xipSel → Completes (.xipRead o) s (fun u => u.bus.hd = s.bus.hd ∧
      u.ser = { s.ser with hostRead := some (windowAddr s x), hostT := s.time.line })) ∧
    (s.ser.erase ≠ some s.bus.xipSel →
      (s.ser.lines.find? (fun y => y.1 == lineOf (windowAddr s x)) = some (lineOf (windowAddr s x), b) →
        s.ser.hostGone = false →
        Completes (.xipRead o) s (fun u => u.bus.hd = lineWord b (windowAddr s x - lineOf (windowAddr s x)) ∧
          u.ser.hostRead = none)) ∧
      (s.ser.lines.find? (fun y => y.1 == lineOf (windowAddr s x)) = none →
        s.ser.running = some (.prefetch s.bus.xipSel (lineOf (windowAddr s x))) → s.ser.stale = false →
        Completes (.xipRead o) s (fun u => u.bus.hd = s.bus.hd ∧ u.ser.hostRead = some (windowAddr s x) ∧
          u.ser.running =
            some (.demand s.bus.xipSel (lineOf (windowAddr s x)) (some (windowAddr s x - lineOf (windowAddr s x)))))) ∧
      (s.ser.lines.find? (fun y => y.1 == lineOf (windowAddr s x)) = none →
        s.ser.running ≠ some (.prefetch s.bus.xipSel (lineOf (windowAddr s x))) →
        exec (.xipRead o) s = .next (serAdd
          { winBegin s with ser := { s.ser with hostRead := some (windowAddr s x), hostT := s.time.line } }
          (.demand s.bus.xipSel (lineOf (windowAddr s x)) (some (windowAddr s x - lineOf (windowAddr s x))))))) := by
  have hg := exec_xipRead_good h hx he ha
  have hser : (hostWaits (winBegin s) (windowAddr s x)).ser =
      { s.ser with hostRead := some (windowAddr s x), hostT := s.time.line } := by
    rw [hostWaits, winBegin_ser, winBegin_time]
  have hbus : (hostWaits (winBegin s) (windowAddr s x)).bus =
      { s.bus with heldWrite := none, heldRead := none, chinHost := {} } :=
    winBegin_bus s
  generalize windowAddr s x = a at *
  refine ⟨fun hr => ?_, fun hr => ⟨fun hf hn => ?_, fun hf hq hst => ?_, fun hf hq => ?_⟩⟩
  · rw [if_pos (by simp [hr])] at hg
    exact ⟨_, hg, (congrArg BusState.hd hbus :), hser⟩
  · rw [if_neg (by simp [hr]), serveRead_of_line (b := b) (by rw [hser]; exact hf)] at hg
    obtain ⟨h1, h2, -⟩ := endRead_facts (putLine (hostWaits (winBegin s) a) (lineOf a) b) (lineWord b (a - lineOf a))
    refine ⟨_, hg, h2.trans (if_neg ?_), h1⟩
    have : (putLine (hostWaits (winBegin s) a) (lineOf a) b).ser.hostGone = false := (congrArg SerState.hostGone hser).trans hn
    simp [this]
  · rw [if_neg (by simp [hr]), serveRead_of_prefetch (by rw [hser]; exact hf) (by rw [hser, hbus]; exact hq)
      (by rw [hser]; exact hst)] at hg
    exact ⟨_, hg, (congrArg BusState.hd hbus :), (congrArg SerState.hostRead hser :),
      (congrArg (fun v : BusState => some (SerJob.demand v.xipSel (lineOf a) (some (a - lineOf a)))) hbus :)⟩
  · rw [if_neg (by simp [hr]), serveRead_of_demand (by rw [hser]; exact hf) (by rw [hser, hbus]; exact hq)] at hg
    have hl : (winBegin s).time.line = s.time.line := by rw [winBegin_time]
    rw [hg, show (hostWaits (winBegin s) a).bus.xipSel = s.bus.xipSel from (congrArg BusState.xipSel hbus :), hostWaits,
      winBegin_ser, hl]

/-! ### The window's timeout -/

theorem failRead_facts {s : State} {a : Nat} (h : s.ser.hostRead = some a) : (failRead s).bus.timeout = true ∧
    (failRead s).ser.hostRead = none ∧ (failRead s).bus.hd = if s.ser.hostGone then s.bus.hd else 0xFFFF := by
  obtain ⟨h1, h2, h3⟩ := endRead_facts (busError { s with bus := { s.bus with timeout := true } } 4 a) 0xFFFF
  have hx : failRead s = endRead (busError { s with bus := { s.bus with timeout := true } } 4 a) 0xFFFF := by
    simp only [failRead, h]
  rw [hx]
  refine ⟨h3.trans ?_, h1, h2.trans ?_⟩
  · rw [busError, post_bus]
  · rw [busError, post_bus, post_ser]

theorem exec_xipTimeout {s : State} {read : List Byte} {a : Nat} (h : (hostWord s read).ser.hostRead = some a) :
    exec (.xipTimeout read) s = .next (failRead (blindRead ((hostWord s read).reach
      ((hostWord s read).ser.hostT + xipLimit (hostWord s read))))) := by
  simp only [exec, execXipTimeout, h]

/-- Settles O32: what each cycle of the host bus does. -/
theorem hostBusCyclesAct : Obligations.HostBusCyclesAct := by
  refine ⟨fun addr s h => ⟨if_pos h, if_pos h⟩,
    fun o a w up low s h ha => ⟨fun hx h4 => ⟨_, exec_apertureWrite o w true true h, ?_⟩,
      fun hx h4 => ⟨fun l hl => ?_, fun hn => ?_⟩,
      fun hx => ⟨⟨_, exec_apertureWrite o w true false h, ?_⟩, _, exec_apertureWrite o w false true h, ?_⟩,
      (exec_apertureWrite o w false false h).trans (by rw [winWrite_no_lane]), fun hx hl =>
        (exec_apertureWrite o w up low h).trans (by rw [winWrite_beyond w hx hl]; rfl)⟩,
    fun o x w up low s h hx => ⟨fun h9 hl hn => ⟨_, if_pos h, ?_⟩, fun h9 hl hh => ⟨_, if_pos h, ?_⟩,
      fun h9 hl => ⟨_, if_pos h, ?_⟩, (if_pos h).trans (by rw [winRead_no_lane])⟩,
    fun o x a b s h hx ha => ?_,
    fun ha c a s => ⟨fun hr hg => ?_, fun h => ?_⟩, fun read a v s hv => ⟨fun hn => ?_, fun hr => ?_⟩⟩
  · rw [winWrite_low w hx h4, ha]
    exact ⟨rfl, rfl⟩
  · subst ha
    exact ⟨_, exec_apertureWrite o w true true h, by rw [winWrite_high_of_held w l hx h4 hl]; exact ⟨rfl, rfl⟩⟩
  · subst ha
    refine ⟨_, exec_apertureWrite o w true true h, ?_⟩
    rw [winWrite_high_of_not_held w hx h4 hn]
    exact ⟨congrArg BusState.heldWrite (winBegin_bus s), rfl⟩
  · rw [winWrite_lane (up := true) (low := false) w hx rfl, ha]
    rfl
  · rw [winWrite_lane (up := false) (low := true) w hx rfl, ha]
    rfl
  · subst hx
    rw [winRead_aperture h9 hl]
    exact apertureDriven_of_none up low hn
  · subst hx
    rw [winRead_aperture h9 hl]
    exact apertureDriven_of_held up low hh
  · subst hx
    rw [winRead_beyond h9 (by unfold winOfs; omega) hl]
    dsimp only
    rw [winError_bus, winBegin_bus]
    exact ⟨rfl, rfl⟩
  · rw [eq_windowAddr ha]
    refine ⟨fun hb => ⟨_, exec_xipRead_bad h hx hb, rfl, rfl, winBegin_ser s⟩, fun he hs => ?_⟩
    exact xipRead_good h hx he hs b
  · rw [exec, execHostStrobeEarly, if_pos (by simp [hr, hg]), hr]
    rfl
  · rw [exec, execHostStrobeEarly, if_neg (by simp [pathOpen_host_no_read h]), if_pos h]
    rfl
  · subst hv
    simp only [exec, execXipTimeout, hn]
  · subst hv
    obtain ⟨h1, h2, h3⟩ := failRead_facts (s := blindRead ((hostWord s read).reach
      ((hostWord s read).ser.hostT + xipLimit (hostWord s read)))) (a := a) hr
    exact ⟨_, exec_xipTimeout hr, h1, h2,
      fun hg => h3.trans (if_neg (fun h => Bool.false_ne_true (hg.symm.trans h))), fun hg => h3.trans (if_pos hg)⟩

end Sys2Proof.Machine
end

section
/-! SUPPORT. RegisterCommands: the register commands of every path (R150 to R170) -/

namespace Sys2Proof.Machine

open Sys2Proof

set_option Elab.async false

-- What a served row of a register is

theorem regWriteRow_of_open {s : State} {p : Path} (h : pathOpen s p = true) (a : Nat) (w : Word) :
    regWriteRow s p a w = slaveEnd (regWriteTo (hostAccess s p) (accNow s p) (regAddr a) w).1 := by
  rw [regWriteRow, served, if_pos h]

theorem slaveEnd_of_not_due {s : State} (h : s.ser.spOffDue = false) : slaveEnd s = s := by
  rw [slaveEnd, h]
  rfl

/-- The state u after a path's read that gives w: the host's bus carries it. -/
def readOut (p : Path) (u : State) (w : Word) : State :=
  match p with
  | .host => { u with bus := { u.bus with hd := w } }
  | _ => u

theorem readOut_hd (p : Path) (u : State) (w : Word) : p = .host → (readOut p u w).bus.hd = w := by
  rintro rfl
  rfl

theorem readOut_evq (p : Path) (u : State) (w : Word) : (readOut p u w).evq = u.evq := by
  cases p <;> rfl

theorem cmdPath_readOut (p : Path) (u : State) (w : Word) (q : Path) : cmdPath (readOut p u w) q = cmdPath u q := by
  cases p <;> rfl

theorem chinOf_readOut (p : Path) (u : State) (w : Word) (q : Path) : chinOf (readOut p u w) q = chinOf u q := by
  cases p <;> rfl

/-- The state in which a register is read by a path: behind the access, its channel captures ended. -/
def looked (s : State) (p : Path) : State := endCapture (hostAccess s p) p

theorem looked_evq (s : State) (p : Path) : (looked s p).evq = s.evq :=
  (endCapture_kept (kp := (· == .evq)) (s0 := s) _ p (hostAccess_kept s p (Kept.refl _ s) rfl rfl) rfl).same .evq rfl

theorem looked_time (s : State) (p : Path) : (looked s p).time = s.time :=
  (endCapture_kept (kp := (· == .time)) (s0 := s) _ p (hostAccess_kept s p (Kept.refl _ s) rfl rfl) rfl).same .time rfl

theorem hostAccess_bus (s : State) : (hostAccess s .host).bus = { s.bus with heldWrite := none, heldRead := none } :=
  congrArg (fun b => { b with heldRead := none }) (commitHalf_bus s)

theorem cmdPath_looked (s : State) (p q : Path) : cmdPath (looked s p) q = cmdPath s q := by
  cases p
  · have h : (looked s .host).bus = { s.bus with heldWrite := none, heldRead := none, chinHost := {} } :=
      congrArg (fun b => { b with chinHost := {} }) (hostAccess_bus s)
    cases q <;> simp only [cmdPath, h]
  · rfl
  · rfl

theorem regReadRow_of_open {s : State} {p : Path} (h : pathOpen s p = true) (a : Nat) :
    regReadRow s p a = readOut p (regRead (hostAccess s p) (accNow s p) (regAddr a)).1
      (regRead (hostAccess s p) (accNow s p) (regAddr a)).2.1 := by
  rw [regReadRow, if_pos h]
  cases p <;> rfl

-- The queues of events and of completions (R151, R153)

theorem exec_evqDataRead {s : State} {p : Path} (h : pathOpen s p = true) (hm : s.mode.mode ≠ .minimal) :
    exec (.evqDataRead p) s = .next (readOut p (readEvq (looked s p) p).1 (readEvq (looked s p) p).2) := by
  rw [exec, execEvqDataRead, regReadRow_of_open h]
  simp [regRead, regAddr, accNow, hm, lineBars, looked]

theorem readEvq_empty {s : State} {p : Path} (h : s.evq.queue = []) : readEvq s p = (s, 0) := by
  simp only [readEvq, h]

theorem readEvq_free {s : State} {p : Path} {e : Event} {r : List Event} (h : s.evq.queue = e :: r) (hh : s.evq.holder = none) :
    readEvq s p = ({ s with evq := { s.evq with holder := some p, rptr := 1, holdT := s.time.line } }, eventWord e 0) := by
  simp only [readEvq, h, hh]

theorem readEvq_own {s : State} {p : Path} {e : Event} {r : List Event} (h : s.evq.queue = e :: r) (hh : s.evq.holder = some p)
    (hr : s.evq.rptr < 3) : readEvq s p =
      ({ s with evq := { s.evq with rptr := s.evq.rptr + 1, holdT := s.time.line } }, eventWord e s.evq.rptr) := by
  simp only [readEvq, h, hh]
  rw [if_neg (by simp), if_neg (by omega)]

theorem readEvq_last {s : State} {p : Path} {e : Event} {r : List Event} (h : s.evq.queue = e :: r) (hh : s.evq.holder = some p)
    (hr : 3 ≤ s.evq.rptr) :
    readEvq s p = ({ s with evq := { s.evq with queue := r, holder := none, rptr := 0 } }, eventWord e 3) := by
  simp only [readEvq, h, hh]
  rw [if_neg (by simp), if_pos hr]

theorem readEvq_other {s : State} {p q : Path} {e : Event} {r : List Event} (h : s.evq.queue = e :: r)
    (hh : s.evq.holder = some q) (hn : p ≠ q) : readEvq s p = (s, 0) := by
  simp only [readEvq, h, hh]
  exact if_pos (by simpa using Ne.symm hn)

/-- A read of EVQ_DATA gives what readEvq gives of the queue, and keeps or leaves what it says. -/
theorem evqDataRead_completes {s x : State} {p : Path} {v : EventState} {w : Word} (h : pathOpen s p = true)
    (hm : s.mode.mode ≠ .minimal) (hr : readEvq (looked s p) p = (x, w)) (hx : x.evq = v) :
    Completes (.evqDataRead p) s (fun u => (p = .host → u.bus.hd = w) ∧ u.evq = v) := by
  refine ⟨_, exec_evqDataRead h hm, ?_⟩
  rw [hr]
  exact ⟨readOut_hd p _ w, (readOut_evq p _ w).trans hx⟩

theorem exec_cplqDataRead {s : State} {p : Path} (h : pathOpen s p = true) (hp : p ≠ .line) :
    exec (.cplqDataRead p) s = .next (readOut p (readCplq (looked s p) p).1 (readCplq (looked s p) p).2) := by
  rw [exec, execCplqDataRead, regReadRow_of_open h]
  simp [regRead, regAddr, accNow, hp, servedMin, looked]

theorem cmdPath_setCmd {s : State} {p : Path} (c : CmdPath) : cmdPath (s.setCmd p c) p = c := by
  cases p <;> rfl

theorem readCplq_empty {s : State} {p : Path} (h : (cmdPath s p).cplq = []) : readCplq s p = (s, 0) := by
  simp only [readCplq, h]

theorem readCplq_more {s : State} {p : Path} {e : List Word} {r : List (List Word)} (h : (cmdPath s p).cplq = e :: r)
    (hr : (cmdPath s p).rptr < 3) : readCplq s p =
      (s.setCmd p { cmdPath s p with rptr := (cmdPath s p).rptr + 1 }, e.getD (cmdPath s p).rptr 0) := by
  simp only [readCplq, h]
  exact if_neg (by omega)

theorem readCplq_last {s : State} {p : Path} {e : List Word} {r : List (List Word)} (h : (cmdPath s p).cplq = e :: r)
    (hr : 3 ≤ (cmdPath s p).rptr) : readCplq s p =
      (s.setCmd p { cmdPath s p with cplq := r, rptr := 0 }, e.getD (cmdPath s p).rptr 0) := by
  simp only [readCplq, h]
  exact if_pos hr

/-- A read of CPLQ_DATA gives what readCplq gives of the path's queue, and leaves that queue so. -/
theorem cplqDataRead_completes {s : State} {p : Path} {v : State} {w : Word} (h : pathOpen s p = true) (hp : p ≠ .line)
    (hr : readCplq (looked s p) p = (v, w)) :
    Completes (.cplqDataRead p) s (fun u => (p = .host → u.bus.hd = w) ∧ cmdPath u p = cmdPath v p) := by
  refine ⟨_, exec_cplqDataRead h hp, ?_⟩
  rw [hr]
  exact ⟨readOut_hd p _ w, cmdPath_readOut p _ w p⟩

theorem cplqDataRead_line (s : State) : exec (.cplqDataRead .line) s = .next s := by
  rw [exec, execCplqDataRead, regReadRow]
  split
  · simp [regRead, regAddr, accNow, servedMin, lineBars, hostAccess]
  · rfl

-- The snapshot's sensed word (R166)

theorem chinOf_setChin (s : State) {p : Path} (c : ChinCapture) (hp : p ≠ .line) : chinOf (s.setChin p c) p = c := by
  cases p
  · rfl
  · rfl
  · exact absurd rfl hp

theorem hostAccess_cyc (s : State) (p : Path) : (hostAccess s p).cyc = s.cyc :=
  (hostAccess_kept (kp := (· == .cyc)) (s0 := s) s p (Kept.refl _ s) rfl rfl).same .cyc rfl

theorem exec_chinRead {s : State} {p : Path} (h : pathOpen s p = true) (hm : s.mode.mode ≠ .minimal) :
    exec (.chinRead p) s = .next (readOut p ((hostAccess s p).setChin p
      { chflt := some s.cyc.snap.faults, chforce := some s.cyc.snap.forced }) s.cyc.snap.sensed) := by
  rw [exec, execChinRead, regReadRow_of_open h]
  simp [regRead, regAddr, accNow, hm, lineBars, readChin, hostAccess_cyc]

-- The writes that begin by spending the key and ending the captures

theorem acting_win (s : State) (p : Path) : (acting s p).bus.xipEn = s.bus.xipEn ∧
    (acting s p).bus.xipSel = s.bus.xipSel ∧ (acting s p).bus.xipBase = s.bus.xipBase := by
  cases p
  · have h : (hostAccess s .host).bus = _ := hostAccess_bus s
    simp only [acting, beginWrite, endCapture, State.setKey, h, and_self]
  · exact ⟨rfl, rfl, rfl⟩
  · exact ⟨rfl, rfl, rfl⟩

theorem cmdPath_acting (s : State) (p q : Path) : cmdPath (acting s p) q = cmdPath s q := by
  cases p
  · have h : (hostAccess s .host).bus = _ := hostAccess_bus s
    cases q <;> simp only [acting, beginWrite, cmdPath, endCapture, State.setKey, h]
  · cases q <;> rfl
  · cases q <;> rfl

theorem beginWrite_hostAccess (s : State) (p : Path) : beginWrite (hostAccess s p) p = acting s p := rfl

theorem exec_cmdqAsmClr {s : State} {p : Path} (h : pathOpen s p = true) (hd : s.ser.spOffDue = false) (hp : p ≠ .line) :
    exec (.cmdqAsmClr p) s = .next ((acting s p).setCmd p { cmdPath s p with asm := [] }) := by
  have hw : (regWriteTo (hostAccess s p) (accNow s p) 0x3C 0x0008).1 =
      (acting s p).setCmd p { cmdPath s p with asm := [] } := by
    simp [regWriteTo, accNow, hp, regCmdqStat, regWrite, bitOf, beginWrite_hostAccess, cmdPath_acting]
  rw [exec, execCmdqAsmClr, regWriteRow_of_open h, show regAddr 0x3C = 0x3C from rfl, hw, slaveEnd_of_not_due]
  simp [hd]

-- MWIN_CTRL (R146, R147)

/-- The fields of the word of MWIN_CTRL that selects a window and, where fl, flushes it. -/
theorem windowWord_fields {w : Word} {en fl : Bool} {sel base : Nat} (hs : sel < 8) (hb : base < 16)
    (hn : w.toNat = 256 * b2n fl + (b2n en + 2 * sel + 16 * base)) :
    bitOf w 0 = en ∧ bitsOf w 1 3 = sel ∧ bitsOf w 4 4 = base ∧ bitOf w 8 = fl ∧ ∀ n, 512 ≤ 2 ^ n → bitOf w n = false := by
  have hlt : w.toNat < 512 := by
    cases en <;> cases fl <;> simp [hn, b2n] <;> omega
  refine ⟨?_, ?_, ?_, ?_, fun n h9 => by simp [bitOf, Nat.div_eq_of_lt (Nat.lt_of_lt_of_le hlt h9)]⟩
  · cases en <;> cases fl <;> simp [bitOf, hn, b2n] <;> omega
  · cases en <;> cases fl <;> simp [bitsOf, natBits, hn, b2n] <;> omega
  · cases en <;> cases fl <;> simp [bitsOf, natBits, hn, b2n] <;> omega
  · have h : w.toNat / 2 ^ 8 = b2n fl := by
      have : b2n en ≤ 1 := by cases en <;> decide
      rw [hn]
      omega
    rw [bitOf, h]
    cases fl <;> rfl

theorem windowWord_toNat (en : Bool) {sel base : Nat} (hs : sel < 8) (hb : base < 16) :
    (pack [(b2n en, 0), (sel % 8, 1), (base % 16, 4)]).toNat = b2n en + 2 * sel + 16 * base := by
  cases en <;> simp [pack, b2n] <;> omega

theorem mwinRest_of_zero {s : State} {w : Word} (h8 : bitOf w 8 = false) (h9 : bitOf w 9 = false) (h11 : bitOf w 11 = false)
    (h12 : bitOf w 12 = false) : mwinRest s w = s := by
  simp [mwinRest, h8, h9, h11, h12]

theorem mwinRest_of_flush {s : State} {w : Word} (h8 : bitOf w 8 = true) (h9 : bitOf w 9 = false) (h11 : bitOf w 11 = false)
    (h12 : bitOf w 12 = false) : mwinRest s w = xipFlush s := by
  simp [mwinRest, h8, h9, h11, h12]

theorem regWriteTo_mwin {s : State} {p : Path} {w : Word} :
    regWriteTo (hostAccess s p) (accNow s p) 0x72 w = regMwinCtrl (hostAccess s p) (accNow s p) w := by
  simp [regWriteTo, lineBars]

theorem xipFields_of_none {s : State} (h : s.ser.xipDue = none) : xipFields s = (s.bus.xipSel, s.bus.xipBase) := by
  simp [xipFields, h]

theorem xipMove_bus {s : State} (sel base : Nat) (hr : s.ser.hostRead = none) (hd : s.ser.xipDue = none) :
    (xipMove s sel base).bus = { s.bus with xipSel := sel, xipBase := base } := by
  unfold xipMove
  rw [xipFields_of_none hd]
  split
  · next h =>
    obtain ⟨h1, h2⟩ := Prod.mk.inj h
    rw [← h1, ← h2]
  · rw [if_neg (by simp [hr])]
    exact congrArg (fun b => { b with xipSel := sel, xipBase := base }) (askExit_facts s _).2

theorem deviceClass_of_cfg {s t : State} (h : t.cfg = s.cfg) (c : Nat) : deviceClass t c = deviceClass s c := by
  simp only [deviceClass, csel, cfgF, h]

theorem xipSet_on {s : State} {sel : Nat} (h : deviceClass s sel = false) :
    (xipSet s true sel).bus = { s.bus with xipEn := true } := by
  unfold xipSet
  rw [if_neg (by simp [h])]
  split
  · next he =>
    have : s.bus.xipEn = true := by simpa using he.symm
    rw [← this]
  · rfl

theorem xipSet_refused {s : State} {sel : Nat} (h : deviceClass s sel = true) :
    (xipSet s true sel).bus = { s.bus with xipEn := false, xipRef := true } := by
  unfold xipSet
  rw [if_pos (by simp [h])]

theorem xipSet_off (s : State) (sel : Nat) : (xipSet s false sel).bus = { s.bus with xipEn := false } := by
  unfold xipSet
  rw [if_neg (by simp)]
  split
  · next he =>
    have : s.bus.xipEn = false := by simpa using he.symm
    rw [← this]
  · exact congrArg (fun b => { b with xipEn := false }) (askExit_facts s _).2

theorem slaveEnd_bus (s : State) : (slaveEnd s).bus = s.bus :=
  (slaveEnd_kept (kp := (· == .bus)) s (Kept.refl _ s) rfl rfl rfl rfl).same .bus rfl

/-- What MWIN_CTRL with the key open leaves of the window: a state without the wait and the move, selected anew. -/
theorem exec_xipEnable {s : State} {p : Path} {en : Bool} {sel base : Nat} (h : pathOpen s p = true)
    (hk : keyOpen (hostAccess s p) p = true) (hs : sel < 8) (hb : base < 16) :
    exec (.xipEnable p en sel base) s = .next (slaveEnd
      (if en == (acting s p).bus.xipEn && xipFields (acting s p) = (sel, base) then acting s p
       else xipSet (xipMove (acting s p) sel base) en sel)) := by
  have hn := windowWord_toNat en hs hb
  rw [exec, execXipEnable, regWriteRow_of_open h, show regAddr 0x72 = 0x72 from rfl, regWriteTo_mwin]
  generalize pack [(b2n en, 0), (sel % 8, 1), (base % 16, 4)] = w at *
  obtain ⟨hen, hsel, hbase, h8, hz⟩ := windowWord_fields (fl := false) (en := en) hs hb (by simpa [b2n] using hn)
  unfold regMwinCtrl
  simp only [hen, hsel, hbase, accNow, hk, beginWrite_hostAccess,
    mwinRest_of_zero h8 (hz 9 (by decide)) (hz 11 (by decide)) (hz 12 (by decide))]
  split <;> rfl

theorem xipEnable_facts {s : State} {p : Path} {sel base : Nat} (h : pathOpen s p = true)
    (hk : keyOpen (hostAccess s p) p = true) (hs : sel < 8) (hb : base < 16) (hr : s.ser.hostRead = none)
    (hd : s.ser.xipDue = none) :
    (deviceClass s sel = false → Completes (.xipEnable p true sel base) s
      (fun u => u.bus.xipEn = true ∧ u.bus.xipSel = sel ∧ u.bus.xipBase = base)) ∧
    (deviceClass s sel = true → s.bus.xipEn = false →
      Completes (.xipEnable p true sel base) s (fun u => u.bus.xipEn = false ∧ u.bus.xipRef = true)) ∧
    Completes (.xipEnable p false sel base) s (fun u => u.bus.xipEn = false ∧ u.bus.xipSel = sel ∧ u.bus.xipBase = base) := by
  have hx (en : Bool) := exec_xipEnable (en := en) h hk hs hb
  have hser : (acting s p).ser = s.ser := by simp
  have hcfg : (acting s p).cfg = s.cfg := by simp
  obtain ⟨he, -, -⟩ := acting_win s p
  simp only [xipFields_of_none (show (acting s p).ser.xipDue = none by rw [hser, hd])] at hx
  have hm := xipMove_bus sel base (s := acting s p) (by rw [hser, hr]) (by rw [hser, hd])
  have hc : deviceClass (xipMove (acting s p) sel base) sel = deviceClass s sel :=
    deviceClass_of_cfg (((xipMove_kept (kp := (· == .cfg)) (acting s p) sel base (Kept.refl _ _) rfl rfl rfl).same .cfg rfl).trans
      hcfg) sel
  have hkeep (en : Bool) (hsame : (en == (acting s p).bus.xipEn &&
      decide (((acting s p).bus.xipSel, (acting s p).bus.xipBase) = (sel, base))) = true) :
      (acting s p).bus.xipEn = en ∧ (acting s p).bus.xipSel = sel ∧ (acting s p).bus.xipBase = base := by
    simp only [Bool.and_eq_true, beq_iff_eq, decide_eq_true_eq, Prod.mk.injEq] at hsame
    exact ⟨hsame.1.symm, hsame.2⟩
  refine ⟨fun hn => ⟨_, hx true, ?_⟩, fun hy hf => ⟨_, hx true, ?_⟩, _, hx false, ?_⟩ <;> dsimp only
  · rw [slaveEnd_bus]
    split
    · next hsame => exact hkeep true hsame
    · rw [xipSet_on (hc.trans hn), hm]
      exact ⟨rfl, rfl, rfl⟩
  · rw [slaveEnd_bus, if_neg (by simp [he, hf]), xipSet_refused (hc.trans hy)]
    exact ⟨rfl, rfl⟩
  · rw [slaveEnd_bus]
    split
    · next hsame => exact hkeep false hsame
    · rw [xipSet_off, hm]
      exact ⟨rfl, rfl, rfl⟩

theorem and_or_toNat (w : Word) : (w &&& 0x00FF ||| 0x0100).toNat = 256 + w.toNat % 256 := by
  have h1 : w.toNat &&& 255 = w.toNat % 256 := Nat.and_two_pow_sub_one_eq_mod w.toNat 8
  have h2 : 2 ^ 8 * 1 + w.toNat % 256 = 2 ^ 8 * 1 ||| w.toNat % 256 := Nat.two_pow_add_eq_or_of_lt (Nat.mod_lt _ (by decide)) 1
  rw [BitVec.toNat_or, BitVec.toNat_and, show (0x00FF : Word).toNat = 255 from rfl, show (0x0100 : Word).toNat = 256 from rfl, h1,
    Nat.or_comm]
  exact h2.symm

theorem pack_mod (v lo : Nat) (r : List (Nat × Nat)) :
    (pack ((v, lo) :: r)).toNat % 256 = ((pack r).toNat % 256 + v * 2 ^ lo) % 256 := by
  rw [pack, BitVec.toNat_add, BitVec.toNat_ofNat]
  omega

theorem pack_mod_of_high (v : Nat) {lo : Nat} (r : List (Nat × Nat)) (h : 8 ≤ lo) :
    (pack ((v, lo) :: r)).toNat % 256 = (pack r).toNat % 256 := by
  obtain ⟨k, rfl⟩ := Nat.exists_eq_add_of_le h
  rw [pack_mod, show v * 2 ^ (8 + k) = 256 * (v * 2 ^ k) by rw [Nat.pow_add]; ring]
  omega

theorem mwinCtrlWord_mod {s : State} (hs : s.bus.xipSel < 8) (hb : s.bus.xipBase < 16) (hd : s.ser.xipDue = none) :
    (mwinCtrlWord s).toNat % 256 = b2n s.bus.xipEn + 2 * s.bus.xipSel + 16 * s.bus.xipBase := by
  have h (b : Bool) : b2n b < 2 := by cases b <;> decide
  have h1 := h s.bus.xipEn
  rw [mwinCtrlWord, xipFields_of_none hd, pack_mod, pack_mod, pack_mod, pack_mod_of_high _ _ (by decide),
    pack_mod_of_high _ _ (by decide), pack_mod_of_high _ _ (by decide), pack_mod_of_high _ _ (by decide), pack]
  have h0 : (0 : Word).toNat = 0 := rfl
  rw [h0]
  omega

/-- A flush goes through MWIN_CTRL with the window's own word, so that it flushes and does nothing else. -/
theorem exec_xipFlush {s : State} {p : Path} (h : pathOpen s p = true) (hs : s.bus.xipSel < 8) (hb : s.bus.xipBase < 16)
    (hd : s.ser.xipDue = none) : exec (.xipFlush p) s = .next (slaveEnd (xipFlush (acting s p))) := by
  have hn : (mwinCtrlWord s &&& 0x00FF ||| 0x0100).toNat = _ :=
    (and_or_toNat _).trans (congrArg (256 + ·) (mwinCtrlWord_mod hs hb hd))
  rw [exec, execXipFlush, regWriteRow_of_open h, show regAddr 0x72 = 0x72 from rfl, regWriteTo_mwin]
  generalize mwinCtrlWord s &&& 0x00FF ||| 0x0100 = w at *
  obtain ⟨hen, h1, h2, h8, hz⟩ := windowWord_fields (fl := true) hs hb hn
  have hser : (acting s p).ser = s.ser := by simp
  obtain ⟨he, hsel, hbase⟩ := acting_win s p
  have hf : xipFields (acting s p) = (s.bus.xipSel, s.bus.xipBase) := by
    rw [xipFields_of_none (by rw [hser, hd]), hsel, hbase]
  unfold regMwinCtrl
  simp only [hen, h1, h2, accNow, beginWrite_hostAccess, he, hf, beq_self_eq_true, decide_true, Bool.and_self, if_true,
    mwinRest_of_flush h8 (hz 9 (by decide)) (hz 11 (by decide)) (hz 12 (by decide))]

theorem slaveOff_ser (s : State) : (slaveOff s).ser = { s.ser with spEn := false, spOffDue := false } := by
  unfold slaveOff
  dsimp only
  split
  · exact (setOwner_kept (kp := (· == .ser)) _ none (Kept.refl _ _) rfl rfl rfl).same .ser rfl
  · rfl

theorem slaveEnd_no_lines {s : State} (h : s.ser.lines = [] ∧ s.ser.prefDue = none) :
    (slaveEnd s).ser.lines = [] ∧ (slaveEnd s).ser.prefDue = none := by
  unfold slaveEnd
  split
  · rw [slaveOff_ser]
    exact h
  · exact h

theorem xipFlush_facts {s : State} {p : Path} (h : pathOpen s p = true) (ho : s.ser.spOffDue = false) (hs : s.bus.xipSel < 8)
    (hb : s.bus.xipBase < 16) (hd : s.ser.xipDue = none) :
    (s.ser.hostRead = none → Completes (.xipFlush p) s (fun u => u.ser.lines = [] ∧ u.ser.prefDue = none)) ∧
    (s.ser.hostRead ≠ none → Completes (.xipFlush p) s (fun u => u.ser = { s.ser with flushDue := true })) := by
  have hx := exec_xipFlush h hs hb hd
  have hser : (acting s p).ser = s.ser := by simp
  refine ⟨fun hr => ⟨_, hx, ?_⟩, fun hr => ⟨_, hx, ?_⟩⟩ <;> dsimp only
  · rw [xipFlush, if_neg (by simp [hr])]
    exact slaveEnd_no_lines ⟨rfl, rfl⟩
  · rw [xipFlush, if_pos (by simpa [Option.isSome_iff_ne_none] using hr), slaveEnd_of_not_due (by simpa using ho)]
    exact congrArg (fun r => { r with flushDue := true }) hser

-- CSP_CTRL: CM_ABORT and SP_EN (R357, R376)

theorem regWriteTo_csp {s : State} {p : Path} {w : Word} :
    regWriteTo (hostAccess s p) (accNow s p) 0x70 w = regCspCtrl (hostAccess s p) (accNow s p) w := by
  simp [regWriteTo, lineBars]

theorem cspRest_abort (s : State) (on : Bool) : cspRest s (word (2 + b2n on)) = cmAbort s := by
  cases on <;> simp [cspRest, bitOf, b2n]

theorem cspRest_plain (s : State) (on : Bool) : cspRest s (word (b2n on)) = s := by
  cases on <;> simp [cspRest, bitOf, b2n]

theorem exec_cmAbort {s : State} {p : Path} (h : pathOpen s p = true) (hd : s.ser.spOffDue = false) :
    exec (.cmAbort p) s = .next (slaveEnd (setSpEn (cmAbort (acting s p)) p s.ser.spEn)) := by
  have hb : bitOf (word (2 + b2n s.ser.spEn)) 0 = s.ser.spEn := by cases s.ser.spEn <;> decide
  rw [exec, execCmAbort, regWriteRow_of_open h, show regAddr 0x70 = 0x70 from rfl, regWriteTo_csp, regCspCtrl]
  simp [accNow, beginWrite_hostAccess, hb, hd, cspRest_abort]

theorem exec_spEnable {s : State} {p : Path} (on : Bool) (h : pathOpen s p = true) (hm : s.mode.mode = .setup) :
    exec (.spEnable p on) s = .next (slaveEnd (setSpEn (acting s p) p on)) := by
  have hb : bitOf (word (b2n on)) 0 = on := by cases on <;> decide
  rw [exec, execSpEnable, regWriteRow_of_open h, show regAddr 0x70 = 0x70 from rfl, regWriteTo_csp, regCspCtrl]
  simp [accNow, hm, beginWrite_hostAccess, hb, cspRest_plain]

theorem setSpEn_self {s : State} {on : Bool} (p : Path) (h : s.ser.spEn = on) (hd : s.ser.spOffDue = false) :
    setSpEn s p on = s := by
  subst h
  unfold setSpEn
  split
  · next hon => rw [← hd]
  · next hon =>
    have hoff : s.ser.spEn = false := by simpa using hon
    split
    · rw [hoff, ← hd]
    · rfl

theorem spEnable_on {s : State} (p : Path) (hd : s.ser.spOffDue = false) : (slaveEnd (setSpEn s p true)).ser.spEn = true := by
  unfold setSpEn
  rw [if_pos rfl]
  split
  · next h =>
    rw [slaveEnd_of_not_due rfl]
    exact h
  · exact congrArg (fun u : State => u.ser.spEn)
      (slaveEnd_of_not_due (s := { s with ser := { s.ser with spEn := true, lap := none } }) hd)

theorem spEnable_off (s : State) (p : Path) : (slaveEnd (setSpEn s p false)).ser.spEn = false := by
  unfold setSpEn
  rw [if_neg Bool.false_ne_true]
  split
  · cases he : s.ser.spEn
    · rw [slaveEnd_of_not_due rfl]
      exact he
    · rw [slaveEnd, if_pos rfl, slaveOff_ser]
  · split
    · rw [slaveEnd_of_not_due (by rw [slaveOff_ser]), slaveOff_ser]
    · next he =>
      unfold slaveEnd
      split
      · rw [slaveOff_ser]
      · simpa using he

theorem keyLapse_completes {s : State} {p : Path} (h : (keyOf s p).st = .opened) :
    Completes (.keyLapse p) s (fun u => keyOf u p = { keyOf s p with st := .idle } ∧
      u.time.line = reachLine s.time.line ((keyOf s p).openT + 100000)) := by
  have hx (t : Nat) (k : PathKey) : keyOf ((s.reach t).setKey p k) p = k ∧
      ((s.reach t).setKey p k).time.line = reachLine s.time.line t :=
    ⟨keyOf_setKey_same _ p k, congrArg TimeState.line (State.setKey_time (s.reach t) p k)⟩
  refine ⟨_, ?_, hx _ _⟩
  rw [exec, execKeyLapse]
  exact if_neg (by simp [h])

theorem evqHoldLapse_completes {s : State} (h : s.evq.holder ≠ none) :
    Completes .evqHoldLapse s (fun u => u.evq = { s.evq with holder := none, rptr := 0 } ∧
      u.time.line = reachLine s.time.line (s.evq.holdT + 10000)) := by
  have hx (t : Nat) : { s.reach t with evq := { (s.reach t).evq with holder := none, rptr := 0 } }.evq =
      { s.evq with holder := none, rptr := 0 } := rfl
  exact ⟨_, if_neg (by simpa using h), hx _, congrArg TimeState.line (State.reach_time s _)⟩

/-- Settles O33: each register command answers what its register's rule gives behind the path's access. -/
theorem registerCommandsAct : Obligations.RegisterCommandsAct := by
  refine ⟨fun p addr w both s h => ⟨fun hp => ?_, fun hp => ?_⟩, fun p q e r s h hm => ⟨fun hq => ?_, fun hq => ⟨fun hh => ?_,
      fun hh hr => ?_, fun hh hr => ?_, fun hh hn => ?_⟩⟩, fun s h => evqHoldLapse_completes h,
    fun p e r s h hm => ⟨fun hp hc => ⟨fun hr => ?_, fun hr => ?_⟩, fun hp hc => ?_, ⟨s, cplqDataRead_line s, rfl, rfl⟩,
      _, exec_chinRead h hm, readOut_hd p _ _, fun hp => ?_⟩,
    fun p w s h hd => ⟨_, exec_keyseqWrite h hd, keyOf_setKey_same _ p _⟩, fun p s h => keyLapse_completes h,
    fun p s h hd hp => ⟨_, exec_cmdqAsmClr h hd hp, cmdPath_setCmd _⟩,
    fun p sel base s h _ hk hs hb hr hd => xipEnable_facts h hk hs hb hr hd,
    fun p s h ho hs hb hd => xipFlush_facts h ho hs hb hd,
    fun p s v h hd hv => ⟨fun hr => ?_, fun c l n cmd w f hr => ?_, fun hr => ⟨_, exec_cmAbort h hd, ?_⟩, fun hm =>
      ⟨⟨_, exec_spEnable true h hm, ?_⟩, _, exec_spEnable false h hm, spEnable_off _ p⟩⟩⟩
  · have hc : (p = .host && !both) = false := by
      obtain hn | hn := hp <;> simp [hn]
    rw [exec, execRegisterWrite, if_neg (by simp [hc]), regWriteRow_of_open h]
  · subst hp
    rw [exec, execRegisterWrite, if_pos (by simp), if_pos h]
    rfl
  · obtain ⟨u, hu, hd, he⟩ := evqDataRead_completes h hm (readEvq_empty (by rw [looked_evq, hq])) (looked_evq s p)
    exact ⟨u, hu, he, hd⟩
  · exact evqDataRead_completes h hm (readEvq_free (by rw [looked_evq, hq]) (by rw [looked_evq, hh]))
      (by rw [looked_evq, looked_time])
  · rw [← looked_evq s p, ← looked_time s p] at *
    exact evqDataRead_completes h hm (readEvq_own hq hh hr) rfl
  · rw [← looked_evq s p] at *
    exact evqDataRead_completes h hm (readEvq_last hq hh hr) rfl
  · exact evqDataRead_completes h hm (readEvq_other (by rw [looked_evq, hq]) (by rw [looked_evq, hh]) hn) (looked_evq s p)
  · have hx := readCplq_more (s := looked s p) (p := p) (by rw [cmdPath_looked, hc]) (by rwa [cmdPath_looked])
    rw [cmdPath_looked] at hx
    obtain ⟨u, hu, hd, hk⟩ := cplqDataRead_completes h hp hx
    exact ⟨u, hu, hd, hk.trans (cmdPath_setCmd _)⟩
  · have hx := readCplq_last (s := looked s p) (p := p) (by rw [cmdPath_looked, hc]) (by rwa [cmdPath_looked])
    rw [cmdPath_looked] at hx
    obtain ⟨u, hu, hd, hk⟩ := cplqDataRead_completes h hp hx
    exact ⟨u, hu, hd, hk.trans (cmdPath_setCmd _)⟩
  · obtain ⟨u, hu, hd, hk⟩ := cplqDataRead_completes h hp (readCplq_empty (p := p) (by rw [cmdPath_looked, hc]))
    exact ⟨u, hu, hd, hk.trans (cmdPath_looked s p p)⟩
  · rw [chinOf_readOut]
    exact chinOf_setChin _ _ hp
  · subst hv
    have hser : (acting s p).ser = s.ser := by simp
    simp only [exec_cmAbort h hd, cmAbort, hser, hr]
  · subst hv
    have hser : (acting s p).ser = s.ser := by simp
    simp only [exec_cmAbort h hd, cmAbort, hser, hr]
  · have hser : (acting s p).ser = s.ser := by simp
    have hc : cmAbort (acting s p) = acting s p := by simp only [cmAbort, hser, hr]
    rw [hc, setSpEn_self p (by rw [hser]) (by rw [hser, hd]), slaveEnd_of_not_due (by rw [hser, hd])]
    exact hser
  · exact spEnable_on p (by simpa using hd)

end Sys2Proof.Machine
end

section
/-! SUPPORT. WindowActions: the configuration window and the actions of CFG_CTRL (R213 to R222) -/

namespace Sys2Proof.Machine

open Sys2Proof

set_option Elab.async false

-- The window's owner

theorem windowUse_cfg (s : State) (p : Path) :
    (windowUse s p).cfg = { s.cfg with ownerT := if owns s p then s.time.line else s.cfg.ownerT } := by
  unfold windowUse
  split
  · rfl
  · rfl

theorem windowUse_same (s : State) (p : Path) : (windowUse s p).time = s.time ∧ (windowUse s p).mode = s.mode :=
  ⟨(windowUse_kept (kp := (· == .time)) s p (Kept.refl _ s) rfl).same .time rfl,
    (windowUse_kept (kp := (· == .mode)) s p (Kept.refl _ s) rfl).same .mode rfl⟩

theorem setOwner_owner (s : State) (o : Option Path) : (setOwner s o).cfg.owner = o := by
  unfold setOwner
  split
  · next h => simpa using h
  · simp

theorem setOwner_of_ne {s : State} {o : Option Path} (h : s.cfg.owner ≠ o) : (setOwner s o).cfg.ownerT = s.time.line := by
  rw [setOwner, if_neg (by simpa using h)]
  simp

theorem setOwner_self {s : State} {o : Option Path} (h : s.cfg.owner = o) : setOwner s o = s := by
  rw [setOwner, if_pos (by simpa using h)]

theorem owns_of {s : State} {p : Path} (h : s.cfg.owner = some p) : owns s p = true := by simp [owns, h]

theorem ownsOrFree_of {s : State} {p : Path} (h : s.cfg.owner = none ∨ s.cfg.owner = some p) : ownsOrFree s p = true := by
  obtain h | h := h <;> simp [ownsOrFree, owns, h]

theorem not_owns_of {s : State} {p q : Path} (h : s.cfg.owner = some q) (hn : p ≠ q) : owns s p = false := by
  simp [owns, h, Ne.symm hn]

theorem not_ownsOrFree_of {s : State} {p q : Path} (h : s.cfg.owner = some q) (hn : p ≠ q) : ownsOrFree s p = false := by
  simp [ownsOrFree, not_owns_of h hn, h]

theorem notOwner_cfg (s : State) (p : Path) (a : Nat) : (notOwner s p a).1.cfg = s.cfg :=
  (notOwner_kept (kp := (· == .cfg)) s p a (Kept.refl _ s) rfl rfl).same .cfg rfl

theorem claimed_ownerT {s : State} {p : Path} (h : s.cfg.owner = none ∨ s.cfg.owner = some p) :
    (setOwner (windowUse s p) (some p)).cfg.ownerT = s.time.line := by
  obtain h | h := h
  · rw [setOwner_of_ne (by simp [windowUse_cfg, h]), (windowUse_same s p).1]
  · rw [setOwner_self (by rw [windowUse_cfg]; exact h), windowUse_cfg, owns_of h]
    rfl

-- What each action of CFG_CTRL does (Table CFG-3)

theorem ctrlAct_claim (s : State) (p : Path) : (ctrlAct s p 0x01).1 =
    if ownsOrFree s p then setOwner (windowUse s p) (some p) else (notOwner s p 0x22).1 := by
  cases h : ownsOrFree s p <;> simp [ctrlAct, bitOf, h]

theorem ctrlAct_release (s : State) (p : Path) : (ctrlAct s p 0x02).1 =
    if owns s p then setOwner s none else (notOwner s p 0x22).1 := by
  cases h : owns s p <;> simp [ctrlAct, bitOf, h]

theorem ctrlAct_validate {s : State} {p : Path} (h : owns s p = true) (hb : s.cfg.busy = none) (ha : s.cfg.armed = none) :
    (ctrlAct s p 0x04).1 = { windowUse s p with cfg := { (windowUse s p).cfg with busy := some .validate } } := by
  simp [ctrlAct, bitOf, h, hb, ha]

theorem ctrlAct_copy {s : State} {p : Path} (h : owns s p = true) (hb : s.cfg.busy = none) (ha : s.cfg.armed = none) :
    (ctrlAct s p 0x08).1 = { windowUse s p with cfg := { (windowUse s p).cfg with busy := some .copy, valid := false } } := by
  simp [ctrlAct, bitOf, h, hb, ha]

theorem ctrlAct_swap {s : State} {p : Path} {w : Word} {m : Nat} (h : ownsOrFree s p = true) (hb : s.cfg.busy = none)
    (hw : (w, m) ∈ [(0x10, 1), (0x20, 2), (0x30, 3)]) : (ctrlAct s p w).1 = swapRequest (windowUse s p) m := by
  simp only [List.mem_cons, Prod.mk.injEq, List.not_mem_nil, or_false] at hw
  obtain ⟨rfl, rfl⟩ | ⟨rfl, rfl⟩ | ⟨rfl, rfl⟩ := hw <;> simp [ctrlAct, bitOf, bitsOf, natBits, h, hb]

theorem ctrlAct_cancel {s : State} {p : Path} (h : ownsOrFree s p = true) :
    (ctrlAct s p 0x40).1 = { windowUse s p with cfg := { (windowUse s p).cfg with armed := none } } := by
  simp [ctrlAct, bitOf, bitsOf, natBits, h]

theorem ctrlAct_commit {s : State} {p : Path} (h : ownsOrFree s p = true) (hb : s.cfg.busy = none) :
    (ctrlAct s p 0x80).1 = commitStart (windowUse s p) := by
  simp [ctrlAct, bitOf, bitsOf, natBits, h, hb]

-- The arming of a swap (R219)

theorem swapCheck_of_same {s t : State} {x : Nat} (m : Nat) (hc : t.cfg = { s.cfg with ownerT := x }) (ht : t.time = s.time)
    (hm : t.mode = s.mode) :
    swapCheck t m = swapCheck s m ∧ swapInstantOf t m = swapInstantOf s m ∧ sameGun t m = sameGun s m := by
  refine ⟨?_, ?_, ?_⟩
  · simp only [swapCheck, periodNs, cfgF, hc, ht, hm]
    rfl
  · simp only [swapInstantOf, periodNs, cfgF, hc, ht]
  · simp only [sameGun, hc]

/-- The state in which a request of a swap is judged: behind the path's access and its use of the window. -/
theorem swapCheck_used (s : State) (p : Path) (m : Nat) : swapCheck (windowUse (acting s p) p) m = swapCheck s m ∧
    swapInstantOf (windowUse (acting s p) p) m = swapInstantOf s m ∧ sameGun (windowUse (acting s p) p) m = sameGun s m := by
  obtain ⟨ht, hm⟩ := windowUse_same (acting s p) p
  exact swapCheck_of_same m ((windowUse_cfg _ p).trans (by rw [acting_cfg])) (ht.trans (acting_time s p))
    (hm.trans (acting_mode s p))

theorem not_armed_of_swapCheck {s : State} {m : Nat} (h : swapCheck s m = 0) : s.cfg.armed = none := by
  unfold swapCheck at h
  dsimp only at h
  split at h
  · exact absurd h (by decide)
  · next hn => simpa using hn

theorem swapRequest_armed {s : State} {m : Nat} (h : swapCheck s m = 0) :
    (swapRequest s m).cfg.armed = some { mode := m, instant := swapInstantOf s m } := by
  have hg : sameGun s m = false := by simp [sameGun, not_armed_of_swapCheck h]
  simp only [swapRequest, hg, h]
  rfl

theorem swapRefuse_lastRef (s : State) (c m : Nat) :
    (swapRefuse s c m).cfg.armed = s.cfg.armed ∧ (swapRefuse s c m).cfg.lastRef = c := by
  unfold swapRefuse
  dsimp only
  split <;> simp

theorem swapRequest_refused {s : State} {m : Nat} (h : swapCheck s m ≠ 0) (hg : sameGun s m = false) :
    (swapRequest s m).cfg.armed = s.cfg.armed ∧ (swapRequest s m).cfg.lastRef = swapCheck s m := by
  have hr : swapRequest s m = swapRefuse s (swapCheck s m) m := by
    unfold swapRequest
    rw [hg]
    split
    · contradiction
    · split
      · contradiction
      · rfl
  rw [hr]
  exact swapRefuse_lastRef s _ m

theorem ctrlBit_multi {s : State} {p : Path} {w : Word} (h : pathOpen s p = true) (hw : 1 < ctrlActions w) :
    ctrlBit s p w = if p = .line then acting s p else post (acting s p) 0x90 7 (word 0x22) := by
  rw [ctrlBit, served, if_pos h]
  cases p <;> simp [regCfgCtrl, hw, accNow, acting, busError]

/-- An action that needs no core, and the window or no owner, is ctrlAct behind the path's access. -/
theorem ctrlBit_plain {s : State} {p : Path} {w : Word} (h : pathOpen s p = true) (hm : s.mode.mode ≠ .minimal)
    (hw : w ∈ [0x01, 0x02, 0x10, 0x20, 0x30, 0x40]) : ctrlBit s p w = (ctrlAct (acting s p) p w).1 := by
  have hb : (bitOf w 2 || bitOf w 3 || bitOf w 7) = false ∧ ¬ 1 < ctrlActions w := by
    simp only [List.mem_cons, List.not_mem_nil, or_false] at hw
    obtain rfl | rfl | rfl | rfl | rfl | rfl := hw <;> decide
  obtain ⟨h1, h2⟩ := hb
  rw [ctrlBit_eq h hm h2 (by simp [h1]), if_neg (by simp [h1])]

/-- An action that the core does, with the core running, is ctrlAct behind the wake. -/
theorem ctrlBit_core {s : State} {p : Path} {w : Word} (h : pathOpen s p = true) (hm : s.mode.mode ≠ .minimal)
    (hc : s.mode.coreReset = false) (hw : w ∈ [0x04, 0x08, 0x80]) :
    ctrlBit s p w = (ctrlAct (wake (acting s p) 4) p w).1 := by
  have hb : (bitOf w 2 || bitOf w 3 || bitOf w 7) = true ∧ ¬ 1 < ctrlActions w := by
    simp only [List.mem_cons, List.not_mem_nil, or_false] at hw
    obtain rfl | rfl | rfl := hw <;> decide
  obtain ⟨h1, h2⟩ := hb
  rw [ctrlBit_eq h hm h2 (fun _ => hc), if_pos h1]

theorem claimLapse_completes {s : State} {p : Path} (h : s.cfg.owner = some p) (hi : cfgF s 1 3 0 8 ≠ 0) :
    Completes .claimLapse s (fun u => u.cfg.owner = none ∧
      u.time.line = reachLine s.time.line (s.cfg.ownerT + 100000000 * cfgF s 1 3 0 8)) := by
  have hx (t : Nat) : (setOwner (s.reach t) none).time.line = reachLine s.time.line t :=
    congrArg TimeState.line ((setOwner_kept (kp := (· == .time)) (s.reach t) none (Kept.refl _ _) rfl rfl rfl).same .time rfl)
  have he : exec .claimLapse s = .next (setOwner (s.reach (s.cfg.ownerT + 100000000 * cfgF s 1 3 0 8)) none) := by
    simp only [exec, execClaimLapse]
    rw [if_neg (by simp [h, hi])]
  exact ⟨_, he, setOwner_owner _ _, hx _⟩

/-- Settles O34: the actions of CFG_CTRL by the window's owner and state, and the lapse of a claim. -/
theorem windowClaimsAndConfigActions : Obligations.WindowClaimsAndConfigActions := by
  refine ⟨fun p s h hm => ⟨fun ho => ⟨⟨_, rfl, ?_⟩, _, rfl, ?_⟩, fun q hq hn => ⟨⟨_, rfl, ?_⟩, _, rfl, ?_⟩,
      fun ho => ⟨_, rfl, ?_⟩,
      fun ho hb ha hc => ⟨⟨_, rfl, ?_⟩, _, rfl, ?_⟩, fun ho hb hc => ?_⟩,
    fun p s h hm ho hb => ⟨fun hs => ⟨_, rfl, ?_⟩, fun hs => ⟨_, rfl, ?_⟩, fun hs => ⟨_, rfl, ?_⟩,
      fun c hs hc hg => ⟨_, rfl, ?_⟩⟩,
    fun p w s => ⟨fun h hw => congrArg _ (ctrlBit_multi h hw), rfl, rfl, rfl, rfl, rfl, rfl, rfl, rfl, rfl⟩,
    fun p s h hi => claimLapse_completes h hi⟩
  · dsimp only
    rw [ctrlBit_plain h hm (by simp), ctrlAct_claim, if_pos (ownsOrFree_of (by simpa using ho))]
    exact ⟨setOwner_owner _ _, (claimed_ownerT (by simpa using ho)).trans (congrArg TimeState.line (acting_time s p))⟩
  · dsimp only
    rw [ctrlBit_plain h hm (by simp), ctrlAct_cancel (ownsOrFree_of (by simpa using ho))]
    exact ⟨rfl, by rw [windowUse_cfg, acting_cfg]⟩
  · dsimp only
    rw [ctrlBit_plain h hm (by simp), ctrlAct_claim,
      if_neg (by simp [not_ownsOrFree_of (s := acting s p) (by simpa using hq) hn])]
    rw [notOwner_cfg, acting_cfg]
  · dsimp only
    rw [ctrlBit_plain h hm (by simp), ctrlAct_release, if_neg (by simp [not_owns_of (s := acting s p) (by simpa using hq) hn])]
    rw [notOwner_cfg, acting_cfg]
  · dsimp only
    rw [ctrlBit_plain h hm (by simp), ctrlAct_release, if_pos (owns_of (by simpa using ho))]
    exact setOwner_owner _ _
  · dsimp only
    rw [ctrlBit_core h hm hc (by simp), ctrlAct_validate (owns_of (by simpa using ho)) (by simpa using hb) (by simpa using ha)]
    exact ⟨rfl, by rw [windowUse_cfg, wake_cfg, acting_cfg]⟩
  · dsimp only
    rw [ctrlBit_core h hm hc (by simp), ctrlAct_copy (owns_of (by simpa using ho)) (by simpa using hb) (by simpa using ha)]
    exact ⟨rfl, rfl⟩
  · rw [exec, execCommit, ctrlBit_core h hm hc (by simp), ctrlAct_commit (ownsOrFree_of (by simpa using ho)) (by simpa using hb)]
  · dsimp only
    rw [ctrlBit_plain h hm (by simp), ctrlAct_swap (m := 1) (ownsOrFree_of (by simpa using ho)) (by simpa using hb) (by simp)]
    obtain ⟨hk, hi, -⟩ := swapCheck_used s p 1
    rw [swapRequest_armed (hk.trans hs), hi, swapInstantOf]
  · dsimp only
    rw [ctrlBit_plain h hm (by simp), ctrlAct_swap (m := 2) (ownsOrFree_of (by simpa using ho)) (by simpa using hb) (by simp)]
    obtain ⟨hk, hi, -⟩ := swapCheck_used s p 2
    rw [swapRequest_armed (hk.trans hs), hi, swapInstantOf]
  · dsimp only
    rw [ctrlBit_plain h hm (by simp), ctrlAct_swap (m := 3) (ownsOrFree_of (by simpa using ho)) (by simpa using hb) (by simp)]
    obtain ⟨hk, hi, -⟩ := swapCheck_used s p 3
    rw [swapRequest_armed (hk.trans hs), hi]
    rfl
  · dsimp only
    rw [ctrlBit_plain h hm (by simp), ctrlAct_swap (m := 3) (ownsOrFree_of (by simpa using ho)) (by simpa using hb) (by simp)]
    obtain ⟨hk, -, hsg⟩ := swapCheck_used s p 3
    obtain ⟨h1, h2⟩ := swapRequest_refused (by rw [hk, hs]; exact hc) (hsg.trans hg)
    exact ⟨h1.trans (by rw [windowUse_cfg, acting_cfg]), h2.trans (hk.trans hs)⟩

end Sys2Proof.Machine
end

section
/-! SUPPORT. WindowData: the window data, and the ends of validation, copy and commit (R214 to R218) -/

namespace Sys2Proof.Machine

open Sys2Proof

set_option Elab.async false

-- A served read, and the window's data (R214, R215)

theorem servedRead_of_open {s : State} {p : Path} (h : pathOpen s p = true) (f : State → Acc → State × Word) :
    servedRead s p f = readOut p (f (looked s p) (accNow s p)).1 (f (looked s p) (accNow s p)).2 := by
  rw [servedRead, if_pos h]
  cases p <;> rfl

theorem readOut_cfg (p : Path) (u : State) (w : Word) : (readOut p u w).cfg = u.cfg := by
  cases p <;> rfl

theorem looked_cfg (s : State) (p : Path) : (looked s p).cfg = s.cfg :=
  (endCapture_kept (kp := (· == .cfg)) (s0 := s) _ p (hostAccess_kept s p (Kept.refl _ s) rfl rfl) rfl).same .cfg rfl

theorem badWord_cfg (s : State) (p : Path) (a : Nat) : (badWord s p a).1.cfg = s.cfg :=
  (badWord_kept (kp := (· == .cfg)) s p a (Kept.refl _ s) rfl rfl).same .cfg rfl

theorem badWord_code (s : State) (p : Path) (a : Nat) : (badWord s p a).2 = 0x04 := by
  cases p <;> rfl

theorem stepWord_cfg (s : State) : (stepWord s).cfg =
    { s.cfg with word := if s.cfg.autoinc then (s.cfg.word + 1) % 16384 else s.cfg.word } := by
  unfold stepWord
  split <;> rfl

theorem readCfgData_other {s : State} {v : Acc} (hm : v.mode ≠ .minimal) (h : owns s v.path = false) :
    (readCfgData s v).1 = (notOwner s v.path 0x20).1 ∧ (readCfgData s v).2.1 = 0xFFFF := by
  simp [readCfgData, hm, h]

theorem readCfgData_word {s : State} {v : Acc} (hm : v.mode ≠ .minimal) (h : owns s v.path = true)
    (hw : wordValid s.cfg.table s.cfg.word = true) : readCfgData s v = (stepWord (windowUse s v.path),
      tableWord (windowUse s v.path) s.cfg.selShadow s.cfg.table s.cfg.word, 0) := by
  simp [readCfgData, hm, h, windowUse_cfg, hw]

theorem readCfgData_no_word {s : State} {v : Acc} (hm : v.mode ≠ .minimal) (h : owns s v.path = true)
    (hw : wordValid s.cfg.table s.cfg.word = false) :
    (readCfgData s v).1 = (badWord (windowUse s v.path) v.path 0x20).1 ∧ (readCfgData s v).2.1 = 0xFFFF := by
  simp [readCfgData, hm, h, windowUse_cfg, hw]

theorem exec_cfgDataRead {s : State} {p : Path} (h : pathOpen s p = true) : exec (.cfgDataRead p) s =
    .next (readOut p (readCfgData (looked s p) (accNow s p)).1 (readCfgData (looked s p) (accNow s p)).2.1) := by
  rw [exec, execCfgDataRead, servedRead_of_open h]

/-- A read of CFG_DATA leaves the configuration unit and drives the host's bus as readCfgData says. -/
theorem cfgDataRead_completes {s : State} {p : Path} {Q : CfgState → Prop} {w : Word} (h : pathOpen s p = true)
    (hc : Q (readCfgData (looked s p) (accNow s p)).1.cfg) (hw : (readCfgData (looked s p) (accNow s p)).2.1 = w) :
    Completes (.cfgDataRead p) s (fun u => Q u.cfg ∧ (p = .host → u.bus.hd = w)) := by
  refine ⟨_, exec_cfgDataRead h, ?_, ?_⟩
  · rw [readOut_cfg]
    exact hc
  · rw [hw]
    exact readOut_hd p _ w

/-- What a write of CFG_DATA does behind the path's access (R215). -/
def dataWritten (s : State) (p : Path) (x : Word) : Done :=
  if owns s p then
    if s.cfg.selShadow then
      let r := shadowWrite (windowUse s p) p s.cfg.table s.cfg.word x
      if r.2 == 0 then (stepWord r.1, 0) else r
    else badWord (windowUse s p) p 0x20
  else notOwner s p 0x20

theorem exec_cfgDataWrite {s : State} {p : Path} {x : Word} (h : pathOpen s p = true) (hm : s.mode.mode ≠ .minimal) :
    exec (.cfgDataWrite p x) s = .next (dataWritten (acting s p) p x).1 := by
  have hw := regWrite_eq (p := p) (a := 0x20) (min := false) (core := false) (f := fun s => dataWritten s p x) hm (by simp)
  rw [exec, execCfgDataWrite, served, if_pos h]
  rw [if_neg Bool.false_ne_true] at hw
  refine congrArg (fun d : Done => Host.Outcome.next d.1) (Eq.trans ?_ hw)
  unfold regCfgData
  congr 1
  funext y
  cases ho : owns y p <;> cases hs : y.cfg.selShadow <;> simp [accNow, dataWritten, ho, hs, windowUse_cfg]

theorem dataWritten_other {s : State} {p : Path} (x : Word) (h : owns s p = false) : (dataWritten s p x).1.cfg = s.cfg := by
  rw [dataWritten, h]
  exact notOwner_cfg s p 0x20

theorem dataWritten_word {s : State} {p : Path} (x : Word) (h : owns s p = true) (hs : s.cfg.selShadow = true)
    (hb : s.cfg.busy = none) (ha : s.cfg.armed = none) (hw : wordValid s.cfg.table s.cfg.word = true)
    (hp : isPort s.cfg.table s.cfg.word = false) (hn : statusWord (windowUse s p) s.cfg.table s.cfg.word = none) :
    (dataWritten s p x).1 = stepWord { windowUse s p with cfg := { (windowUse s p).cfg with
      shadow := setPut s.cfg.shadow s.cfg.table s.cfg.word x, valid := false } } := by
  have hr : ¬ (s.cfg.table = 0xE ∧ s.cfg.word = 0xC0) := by
    rintro ⟨h1, h2⟩
    rw [h1, h2] at hp
    exact absurd hp (by decide)
  simp [dataWritten, h, hs, shadowWrite, windowUse_cfg, hb, ha, hw, hr, hp, hn]

theorem dataWritten_no_word {s : State} {p : Path} (x : Word) (h : owns s p = true)
    (hw : wordValid s.cfg.table s.cfg.word = false) : (dataWritten s p x).1 = (badWord (windowUse s p) p 0x20).1 := by
  cases hs : s.cfg.selShadow <;> simp [dataWritten, h, hs, shadowWrite, hw, badWord_code]

-- The ends of validation, copy and commit (R216 to R218)

theorem exec_validateDone {s : State} (hb : s.cfg.busy = some .validate) (ha : s.cfg.abandoned = none) (hc : coreRuns s = true) :
    exec .validateDone s =
      match firstFail s.cfg.shadow with
      | some (t, w) => .next (postValidated { s with cfg := { s.cfg with
          busy := none, diffS := setDiffers .s s.cfg.shadow s.cfg.active, diffN := setDiffers .n s.cfg.shadow s.cfg.active
          valid := false, valFail := true, table := t, word := w } } t w)
      | none =>
        if stagingMay s then .next (postValidated { s with cfg := { s.cfg with
          busy := none, diffS := setDiffers .s s.cfg.shadow s.cfg.active, diffN := setDiffers .n s.cfg.shadow s.cfg.active
          valid := true, valFail := false, stagedShadow := true } } 0 0xFFFF)
        else .next (stagingFailed { s with cfg := { s.cfg with
          busy := none, diffS := setDiffers .s s.cfg.shadow s.cfg.active
          diffN := setDiffers .n s.cfg.shadow s.cfg.active } }) := by
  rw [exec, execValidateDone, if_neg (by simp [hb, ha, hc])]
  rfl

theorem exec_copyDone {s : State} (hb : s.cfg.busy = some .copy) (ha : s.cfg.abandoned = none) (hc : coreRuns s = true) :
    exec .copyDone s =
      if stagingMay s then .next { s with cfg := { s.cfg with
        busy := none, shadow := s.cfg.active, diffS := false, diffN := false, valid := true, stagedShadow := true } }
      else .next (stagingFailed { s with cfg := { s.cfg with
        busy := none, shadow := s.cfg.active, diffS := false, diffN := false } }) := by
  rw [exec, execCopyDone, if_neg (by simp [hb, ha, hc])]
  rfl

theorem postValidated_cfg (s : State) (t w : Nat) : (postValidated s t w).cfg = s.cfg := by simp [postValidated]

theorem stagingFailed_cfg (s : State) : (stagingFailed s).cfg = { s.cfg with valid := false, valFail := true } := by
  rw [stagingFailed, postValidated_cfg]

theorem commitFail_cfg (s : State) : (commitFail s).cfg = { s.cfg with busy := none, commitErr := true } := by
  unfold commitFail
  dsimp only
  split <;> simp [State.reason]

theorem exec_commitDone {s : State} {set : List WCell} {b : Bool} (ok : Bool) (hb : s.cfg.busy = some (.commit set b))
    (ha : s.cfg.abandoned = none) (hc : coreRuns s = true) (he : commitErasing s = false) :
    exec (.commitDone ok) s = if !ok || s.flash.commitBad then .next (commitFail s)
      else .next (post { s with cfg := { s.cfg with
        busy := none
        store := s.cfg.store ++ [{ slot := s.flash.slot, seq := s.cfg.storeSeq + 1, format := s.cfg.format, set }]
        storeSeq := (s.cfg.storeSeq + 1) % 2 ^ 32
        storeMatch := !b || decide (s.cfg.active = set) } } 0xF6 0 0) := by
  simp only [exec, execCommitDone, hb]
  rw [if_neg (by simp [ha, hc, he])]

theorem owns_iff {s : State} {p : Path} (b : Bool) (h : (s.cfg.owner == some p) = b) :
    owns (looked s p) p = b ∧ owns (acting s p) p = b := by
  rw [owns, owns, looked_cfg, acting_cfg]
  exact ⟨h, h⟩

theorem windowData_other {s : State} {p : Path} (x : Word) (h : pathOpen s p = true) (hm : s.mode.mode ≠ .minimal)
    (ho : s.cfg.owner ≠ some p) :
    Completes (.cfgDataRead p) s (fun u => u.cfg = s.cfg ∧ (p = .host → u.bus.hd = 0xFFFF)) ∧
      Completes (.cfgDataWrite p x) s (fun u => u.cfg = s.cfg) := by
  obtain ⟨hol, hoa⟩ := owns_iff (s := s) (p := p) false (by simpa using ho)
  obtain ⟨h1, h2⟩ := readCfgData_other (s := looked s p) (v := accNow s p) hm hol
  refine ⟨cfgDataRead_completes (Q := (· = s.cfg)) h ?_ h2, _, exec_cfgDataWrite h hm, ?_⟩
  · rw [h1, notOwner_cfg, looked_cfg]
  · exact (dataWritten_other x hoa).trans (acting_cfg s p)

theorem windowData_word {s : State} {p : Path} (x : Word) (h : pathOpen s p = true) (hm : s.mode.mode ≠ .minimal)
    (ho : s.cfg.owner = some p) (hw : wordValid s.cfg.table s.cfg.word = true) :
    Completes (.cfgDataRead p) s (fun u => u.cfg.active = s.cfg.active ∧ u.cfg.shadow = s.cfg.shadow ∧
      u.cfg.word = (if s.cfg.autoinc then (s.cfg.word + 1) % 16384 else s.cfg.word) ∧
      (p = .host → u.bus.hd = tableWord (windowUse (looked s p) p) s.cfg.selShadow s.cfg.table s.cfg.word)) ∧
    (s.cfg.selShadow = true → s.cfg.busy = none → s.cfg.armed = none → isPort s.cfg.table s.cfg.word = false →
      statusWord (windowUse (acting s p) p) s.cfg.table s.cfg.word = none →
      Completes (.cfgDataWrite p x) s (fun u =>
        u.cfg.shadow = setPut s.cfg.shadow s.cfg.table s.cfg.word x ∧ u.cfg.valid = false ∧
        u.cfg.word = (if s.cfg.autoinc then (s.cfg.word + 1) % 16384 else s.cfg.word))) := by
  obtain ⟨hol, hoa⟩ := owns_iff (s := s) (p := p) true (by simpa using ho)
  have hr := readCfgData_word (s := looked s p) (v := accNow s p) hm hol (by rw [looked_cfg, hw])
  refine ⟨?_, fun hs hb ha hp hn => ⟨_, exec_cfgDataWrite h hm, ?_⟩⟩
  · obtain ⟨u, hu, ⟨h1, h2, h3⟩, hd⟩ := cfgDataRead_completes (w := tableWord (windowUse (looked s p) p) s.cfg.selShadow
      s.cfg.table s.cfg.word) (Q := fun c => c.active = s.cfg.active ∧ c.shadow = s.cfg.shadow ∧
        c.word = (if s.cfg.autoinc then (s.cfg.word + 1) % 16384 else s.cfg.word)) h
      (by rw [hr, stepWord_cfg, windowUse_cfg, looked_cfg]; exact ⟨rfl, rfl, rfl⟩) (by rw [hr, looked_cfg]; rfl)
    exact ⟨u, hu, h1, h2, h3, hd⟩
  · have hx := dataWritten_word (s := acting s p) x hoa (by rw [acting_cfg, hs]) (by rw [acting_cfg, hb])
      (by rw [acting_cfg, ha])
      (by rw [acting_cfg, hw]) (by rw [acting_cfg, hp]) (by rw [acting_cfg, hn])
    dsimp only
    rw [hx, stepWord_cfg, windowUse_cfg, acting_cfg]
    exact ⟨rfl, rfl, rfl⟩

theorem windowData_no_word {s : State} {p : Path} (x : Word) (h : pathOpen s p = true) (hm : s.mode.mode ≠ .minimal)
    (ho : s.cfg.owner = some p) (hw : wordValid s.cfg.table s.cfg.word = false) :
    Completes (.cfgDataRead p) s (fun u => u.cfg.word = s.cfg.word ∧ (p = .host → u.bus.hd = 0xFFFF)) ∧
      Completes (.cfgDataWrite p x) s (fun u => u.cfg.shadow = s.cfg.shadow ∧ u.cfg.valid = s.cfg.valid) := by
  obtain ⟨hol, hoa⟩ := owns_iff (s := s) (p := p) true (by simpa using ho)
  obtain ⟨h1, h2⟩ := readCfgData_no_word (s := looked s p) (v := accNow s p) hm hol (by rw [looked_cfg, hw])
  refine ⟨cfgDataRead_completes (Q := fun c => c.word = s.cfg.word) h ?_ h2, _, exec_cfgDataWrite h hm, ?_⟩
  · rw [h1, badWord_cfg, windowUse_cfg, looked_cfg]
  · dsimp only
    rw [dataWritten_no_word x hoa (by rw [acting_cfg, hw]), badWord_cfg, windowUse_cfg, acting_cfg]
    exact ⟨rfl, rfl⟩

/-- Settles O35: window data is read and written by the owner, and validation, copy and commit end with their results. -/
theorem windowDataAndConfigWorkEnd : Obligations.WindowDataAndConfigWorkEnd := by
  refine ⟨fun p x s v h hm hv => ⟨windowData_other x h hm, fun ho hw => ?_, windowData_no_word x h hm⟩,
    fun s hb ha hc => ⟨fun hf => ⟨fun hs => ?_, fun hs => ?_⟩, fun t w hf => ?_⟩,
    fun s hb ha hc => ⟨fun hs => ?_, fun hs => ?_⟩,
    fun set b s hb ha hc he => ⟨fun hbad => ?_, fun hbad => ?_, ?_⟩,
    fun s ha hb hc hp => congrArg Host.Outcome.next (if_pos (by simp [ha, hb, hc, hp]))⟩
  · subst hv
    exact windowData_word x h hm ho hw
  · refine ⟨_, (exec_validateDone hb ha hc).trans (by rw [hf]; exact if_pos hs), ?_⟩
    dsimp only
    rw [postValidated_cfg]
    exact ⟨rfl, rfl, rfl, rfl, rfl⟩
  · refine ⟨_, (exec_validateDone hb ha hc).trans (by rw [hf]; exact if_neg (by simp [hs])), ?_⟩
    dsimp only
    rw [stagingFailed_cfg]
    exact ⟨rfl, rfl, rfl⟩
  · refine ⟨_, (exec_validateDone hb ha hc).trans (by rw [hf]), ?_⟩
    dsimp only
    rw [postValidated_cfg]
    exact ⟨rfl, rfl, rfl, rfl, rfl⟩
  · exact ⟨_, (exec_copyDone hb ha hc).trans (if_pos hs), rfl, rfl, rfl⟩
  · refine ⟨_, (exec_copyDone hb ha hc).trans (if_neg (by simp [hs])), ?_⟩
    dsimp only
    rw [stagingFailed_cfg]
    exact ⟨rfl, rfl, rfl, rfl⟩
  · refine ⟨_, (exec_commitDone true hb ha hc he).trans (if_neg (by simp [hbad])), ?_⟩
    dsimp only
    rw [post_cfg]
    exact ⟨rfl, rfl⟩
  · refine ⟨_, (exec_commitDone true hb ha hc he).trans (if_pos (by simp [hbad])), ?_⟩
    dsimp only
    rw [commitFail_cfg]
    exact ⟨rfl, rfl, rfl⟩
  · refine ⟨_, (exec_commitDone false hb ha hc he).trans (if_pos (by simp)), ?_⟩
    dsimp only
    rw [commitFail_cfg]
    exact ⟨rfl, rfl, rfl⟩

end Sys2Proof.Machine
end

section
/-! SUPPORT. Swaps: the swap of the configuration sets at its instant (R219 to R222) -/

namespace Sys2Proof.Machine

open Sys2Proof

set_option Elab.async false

@[simp] theorem swapUnits_cfg (s : State) (old : List WCell) : (swapUnits s old).cfg = s.cfg :=
  (swapUnits_kept (kp := (· == .cfg)) s old (Kept.refl _ s) rfl rfl rfl rfl rfl rfl rfl rfl rfl rfl rfl rfl rfl rfl).same
    .cfg rfl

/-- What a commit leaves of the configuration state: the sets and the swap that is armed. -/
theorem commitStart_cfg (s : State) : (commitStart s).cfg = { s.cfg with
    busy := some (.commit s.cfg.active false), store := s.cfg.store.filter (fun e => e.slot != commitSlot s) } := by
  have h (l : List Nat) (x : State) : (flashRun (eachNo l (fun s x => addErase s x 0) x)).cfg = x.cfg :=
    (flashRun_kept (kp := (· == .cfg)) _ (eachNo_kept _ _ _ (fun u hu k => by simp [hu]) (Kept.refl _ x)) rfl).same .cfg rfl
  exact h _ _

theorem autoCommitStart_sets (s : State) : (autoCommitStart s).cfg.active = s.cfg.active ∧
    (autoCommitStart s).cfg.shadow = s.cfg.shadow ∧ (autoCommitStart s).cfg.armed = s.cfg.armed := by
  unfold autoCommitStart
  split
  · rw [commitStart_cfg]
    exact ⟨rfl, rfl, rfl⟩
  · exact ⟨rfl, rfl, rfl⟩

/-- A swap that takes effect exchanges the sets and leaves none armed (R220). -/
theorem swapFire_sets {a : ArmedSwap} {s : State} (ha : s.cfg.armed = some a) (hs : s.mode.mode ≠ .run ∨ s.cfg.diffS = false)
    (hf : s.mode.fieldReset = false) (hb : s.supply.barrierDown = false) (hp : s.safe.pause = none) :
    (swapFire s).cfg.active = s.cfg.shadow ∧ (swapFire s).cfg.shadow = s.cfg.active ∧ (swapFire s).cfg.armed = none := by
  have he (l : List Nat) (x : State) : (eachNo l askExit x).cfg = x.cfg :=
    (eachNo_kept (kp := (· == .cfg)) l askExit x (fun u hu k => askExit_kept u k hu rfl rfl) (Kept.refl _ x)).same .cfg rfl
  have h1 : ¬ (s.mode.mode == .run && s.cfg.diffS) = true := by
    rcases hs with hs | hs <;> simp [hs]
  unfold swapFire
  simp only [ha, if_neg h1, hf, hb, hp, Option.isSome_none, Bool.or_self, Bool.false_eq_true, if_false]
  split
  · simp [autoCommitStart_sets, swapSets, he]
  · simp [swapSets, he]

theorem swapRefuse_cfg (s : State) {code : Nat} (mode : Nat) (h : code ≠ 5) : (swapRefuse s code mode).cfg =
    { s.cfg with lastRef := code, refs := satAdd 255 s.cfg.refs 1, swapRef := true } := by
  simp [swapRefuse, h]

/-- Settles O36: the exchange at the swap's instant, and its refusals with codes 3 and 8. -/
theorem swapsExchangeTheSets : Obligations.SwapsExchangeTheSets := by
  intro a s ha hp
  have hx : exec .swapInstant s = .next (swapFire (s.reach a.instant)) := by
    simp [exec, execSwapInstant, ha, hp]
  refine ⟨fun hs hf hb hpa => ⟨_, hx, swapFire_sets (s := s.reach a.instant) ha hs hf hb hpa⟩, fun hm hd => ⟨_, hx, ?_⟩,
    fun hs hr => ⟨_, hx, ?_⟩⟩
  · simp [swapFire, ha, hm, hd, swapRefuse_cfg]
  · have h1 : ¬ (s.mode.mode == .run && s.cfg.diffS) = true := by
      rcases hs with hs | hs <;> simp [hs]
    have h2 : (s.mode.fieldReset || s.supply.barrierDown || s.safe.pause.isSome) = true := by
      simpa [or_assoc] using hr
    simp [swapFire, ha, h1, h2, swapRefuse_cfg]

end Sys2Proof.Machine
end

section
/-! SUPPORT. Channels: forces, edges, PWM periods and mode-off of the channels (R223 to R243) -/

namespace Sys2Proof.Machine

open Sys2Proof

set_option Elab.async false

-- The channels under an operation on all of them

theorem mapFrom_length {α β : Type} (i : Nat) (f : Nat → α → β) (l : List α) : (mapFrom i f l).length = l.length := by
  induction l generalizing i with
  | nil => rfl
  | cons x r ih => simp [mapFrom, ih]

theorem mapFrom_getD {α : Type} (i n : Nat) (f : Nat → α → α) (l : List α) (d : α) (h : n < l.length) :
    (mapFrom i f l).getD n d = f (i + n) (l.getD n d) := by
  induction l generalizing i n with
  | nil => simp at h
  | cons x r ih =>
    cases n with
    | zero => rfl
    | succ n =>
      have hr := ih (i + 1) n (by simpa using h)
      rw [show i + 1 + n = i + (n + 1) by omega] at hr
      exact hr

theorem onChans_length (s : State) (f : Nat → Chan → Chan) : (s.onChans f).field.chans.length = s.field.chans.length :=
  mapFrom_length 0 f s.field.chans

theorem chan_onChans (s : State) {n : Nat} (f : Nat → Chan → Chan) (h : n < s.field.chans.length) :
    chan (s.onChans f) n = f n (chan s n) := by
  have hg := mapFrom_getD 0 n f s.field.chans {} h
  rw [Nat.zero_add] at hg
  exact hg

theorem refresh_length (s : State) : (refresh s).field.chans.length = s.field.chans.length := onChans_length s _

theorem chan_refresh (s : State) {n : Nat} (h : n < s.field.chans.length) :
    chan (refresh s) n = { chan s n with eff := effOf s n (chan s n) } := chan_onChans s _ h

theorem chan_post (s : State) (a b : Nat) (w : Word) (n : Nat) : chan (post s a b w) n = chan s n :=
  chan_of_field (post_field s a b w) n

theorem clearForces_length (s : State) : (clearForces s).field.chans.length = s.field.chans.length := onChans_length s _

theorem chan_clearForces (s : State) {n : Nat} (h : n < s.field.chans.length) :
    chan (clearForces s) n = { chan s n with force := none, jog := none } := chan_onChans s _ h

/-- The end of a jog changes no channel but its level and its effective value. -/
theorem endJog_chans (s : State) (posts : Bool) : (endJog s posts).field.chans.length = s.field.chans.length ∧
    ∀ n, n < s.field.chans.length → (chan (endJog s posts) n).modeOff = (chan s n).modeOff := by
  unfold endJog
  split
  · exact ⟨rfl, fun n _ => rfl⟩
  · next m _ =>
    have hk (n : Nat) (hn : n < s.field.chans.length) :
        (chan (s.onChan m (fun c => { c with jog := none })) n).modeOff = (chan s n).modeOff := by
      by_cases he : m = n
      · subst he
        rw [chan_onChan _ _ _ hn]
      · rw [chan_onChan_ne _ _ _ _ he]
    have hl : (s.onChan m (fun c => { c with jog := none })).field.chans.length = s.field.chans.length :=
      State.onChan_chans_length s m _
    have hr (x : State) (hx : x.field = (s.onChan m (fun c => { c with jog := none })).field) :
        (refresh x).field.chans.length = s.field.chans.length ∧
          ∀ n, n < s.field.chans.length → (chan (refresh x) n).modeOff = (chan s n).modeOff := by
      have hxl : x.field.chans.length = s.field.chans.length := by rw [hx, hl]
      refine ⟨(refresh_length x).trans hxl, fun n hn => ?_⟩
      rw [chan_refresh x (hxl ▸ hn), ← hk n hn, chan_of_field hx]
    dsimp only
    split
    · rw [post_field]
      exact ⟨(hr _ rfl).1, fun n hn => by rw [chan_post]; exact (hr _ rfl).2 n hn⟩
    · exact hr _ rfl

-- Forces (R233 to R236)

theorem pack_force {n : Nat} (level : Bool) (h : n < 16) : bitOf (pack [(n % 16, 0), (1, 4), (b2n level, 5)]) 6 = false ∧
    bitsOf (pack [(n % 16, 0), (1, 4), (b2n level, 5)]) 0 4 = n ∧ bitOf (pack [(n % 16, 0), (1, 4), (b2n level, 5)]) 4 = true ∧
    bitOf (pack [(n % 16, 0), (1, 4), (b2n level, 5)]) 5 = level := by
  have hw : (pack [(n % 16, 0), (1, 4), (b2n level, 5)]).toNat = n + 16 + 32 * b2n level := by
    cases level <;> simp [pack, b2n] <;> omega
  generalize pack [(n % 16, 0), (1, 4), (b2n level, 5)] = w at *
  cases level <;> simp [bitOf, bitsOf, natBits, hw, b2n] <;> omega

theorem pack_remove {n : Nat} (h : n < 16) :
    bitOf (pack [(n % 16, 0)]) 6 = false ∧ bitsOf (pack [(n % 16, 0)]) 0 4 = n ∧ bitOf (pack [(n % 16, 0)]) 4 = false := by
  have hw : (pack [(n % 16, 0)]).toNat = n := by
    simp [pack]
    omega
  simp [bitOf, bitsOf, natBits, hw]
  omega

/-- The state in which CHFORCE acts: behind an apply and the gates that are due on the tick (log 95). -/
def forceReady (s : State) (p : Path) : State :=
  gateFirst (if applyDue s == s.time.line && fieldRuns s then fireApply (acting s p) else acting s p)

theorem served_chforce {s : State} {p : Path} (w : Word) (h : pathOpen s p = true) (hm : s.mode.mode ≠ .minimal)
    (hk : keyOpen (hostAccess s p) p = true) : served s p (fun s v => regChforce s v w) =
      if bitOf w 6 then refresh (clearForces (endJog (forceReady s p) true))
      else setForce (forceReady s p) (bitsOf w 0 4) (if bitOf w 4 then some (bitOf w 5) else none) := by
  have hd : applyDue (acting s p) = applyDue s := by simp only [applyDue, periodNs, applyOfs, cfgF, acting_cfg, acting_cyc]
  have hr : fieldRuns (acting s p) = fieldRuns s := by simp only [fieldRuns, acting_mode]
  rw [served, if_pos h, regChforce, regWrite_eq hm (by simp), if_neg Bool.false_ne_true]
  simp only [accNow, hk, if_true, chforceAct, hd, hr, acting_time, forceReady]

theorem forces_answer {s : State} {p : Path} {n : Nat} (level : Bool) (h : pathOpen s p = true) (hm : s.mode.mode ≠ .minimal)
    (hk : keyOpen (hostAccess s p) p = true) (hn : n < 16) :
    exec (.forceSet p n level) s = .next (setForce (forceReady s p) n (some level)) ∧
    exec (.forceRemove p n) s = .next (setForce (forceReady s p) n none) ∧
    exec (.forceClearAll p) s = .next (refresh (clearForces (endJog (forceReady s p) true))) := by
  obtain ⟨h6, h0, h4, h5⟩ := pack_force level hn
  obtain ⟨r6, r0, r4⟩ := pack_remove hn
  refine ⟨congrArg _ ((served_chforce _ h hm hk).trans ?_), congrArg _ ((served_chforce _ h hm hk).trans ?_),
    congrArg _ ((served_chforce _ h hm hk).trans (if_pos rfl))⟩
  · rw [h6, h0, h4, h5]
    rfl
  · rw [r6, r0, r4]
    rfl

/-- The state in which a force of channel n is set: its jog has ended. -/
def unjogged (s : State) (n : Nat) : State := if s.panel.jog == some n then endJog s true else s

theorem unjogged_chans (s : State) (n : Nat) : (unjogged s n).field.chans.length = s.field.chans.length ∧
    (n < s.field.chans.length → (chan (unjogged s n) n).modeOff = (chan s n).modeOff) := by
  obtain ⟨h1, h2⟩ := endJog_chans s true
  unfold unjogged
  split
  · exact ⟨h1, h2 n⟩
  · exact ⟨rfl, fun _ => rfl⟩

theorem unjogged_same (s : State) (n : Nat) : (unjogged s n).mode = s.mode ∧ (unjogged s n).cfg = s.cfg ∧
    (unjogged s n).safe = s.safe := by
  have hc := (endJog_kept (kp := (· == .cfg)) s true (Kept.refl _ s) rfl rfl rfl rfl).same .cfg rfl
  have hs := (endJog_kept (kp := (· == .safe)) s true (Kept.refl _ s) rfl rfl rfl rfl).same .safe rfl
  unfold unjogged
  split
  · exact ⟨endJog_mode s true, hc, hs⟩
  · exact ⟨rfl, rfl, rfl⟩

/-- The state with force f of channel n, before the effective values follow. -/
def forced (s : State) (n : Nat) (f : Option Bool) : State := (unjogged s n).onChan n (fun c => { c with force := f })

theorem chan_setForce {s : State} {n : Nat} (f : Option Bool) (h : n < s.field.chans.length) : chan (setForce s n f) n =
    { chan (unjogged s n) n with force := f,
                                 eff := effOf (forced s n f) n { chan (unjogged s n) n with force := f } } := by
  have hl := (unjogged_chans s n).1
  have hc := chan_onChan (unjogged s n) n (fun c => { c with force := f }) (hl ▸ h)
  have hr := chan_refresh (forced s n f) (n := n) ((State.onChan_chans_length _ n _).trans hl ▸ h)
  rw [forced, hc] at hr
  exact hr

theorem effOf_forced {s : State} {n : Nat} {c : Chan} (b : Bool) (hm : chMode s n = 5) (hr : s.mode.mode = .run)
    (hf : s.mode.fieldReset = false) (hh : s.mode.coreHold = false) (hs : s.safe.hold = false) (hc : c.modeOff = false)
    (hb : c.force = some b) : effOf s n c = if b then 1 else 0 := by
  simp [effOf, hm, isOutput, hc, hr, hf, hs, hh, Chan.forced, hb, forceValue, bitValue, onValue, isStatic]

theorem forces_act (n k : Nat) (level : Bool) (f : Option Bool) (v : State) (hn : n < v.field.chans.length) :
    (chan (setForce v n f) n).force = f ∧
    (k < v.field.chans.length → (chan (refresh (clearForces (endJog v true))) k).force = none ∧
      (chan (refresh (clearForces (endJog v true))) k).jog = none) ∧
    (chMode v n = 5 → v.mode.mode = .run → v.mode.fieldReset = false → v.mode.coreHold = false → v.safe.hold = false →
      (chan v n).modeOff = false → (chan (setForce v n (some level)) n).eff = if level then 1 else 0) := by
  refine ⟨?_, fun hk => ?_, fun h5 hr hf hh hs hc => ?_⟩
  · rw [chan_setForce f hn]
  · have hk' : k < (endJog v true).field.chans.length := (endJog_chans v true).1 ▸ hk
    rw [chan_refresh _ ((clearForces_length _).symm ▸ hk'), chan_clearForces _ hk']
    exact ⟨rfl, rfl⟩
  · obtain ⟨hmode, hcfg, hsafe⟩ := unjogged_same v n
    rw [chan_setForce _ hn]
    refine effOf_forced level ?_ ?_ ?_ ?_ ?_ ((unjogged_chans v n).2 hn ▸ hc) rfl
    · rw [← h5]
      exact congrArg (fun c => setField c.active 4 (16 * n) 0 4) hcfg
    · exact (congrArg ModeState.mode hmode).trans hr
    · exact (congrArg ModeState.fieldReset hmode).trans hf
    · exact (congrArg ModeState.coreHold hmode).trans hh
    · exact (congrArg SafeState.hold hsafe).trans hs

-- Edges of the inputs (R226 to R231)

theorem chan_countBy (s : State) {n : Nat} (d : Int) (h : n < s.field.chans.length) :
    chan (countBy s n d) n = { chan s n with cnt := (chan s n).cnt + BitVec.ofInt 32 d, moves := addMove s (chan s n) d } :=
  chan_onChan s n _ h

theorem pfRecord_counts (s : State) {n : Nat} (edge : Nat) (level : Bool) (h : n < s.field.chans.length) :
    (chan (pfRecord s n edge level) n).filt = (chan s n).filt ∧ (chan (pfRecord s n edge level) n).cnt = (chan s n).cnt := by
  have hc (c : Chan) : chan (s.setChan n c) n = c := setAt_getD s.field.chans n c {} h
  unfold pfRecord
  dsimp only
  split
  · rw [chan_post, hc]
    exact ⟨rfl, rfl⟩
  · rw [hc]
    exact ⟨rfl, rfl⟩

/-- The state with an edge of channel n counted one up (R229). -/
def edgeCounted (s : State) (n : Nat) : State :=
  countBy (s.onChan n (fun c => { c with edgeT := some s.time.line })) n 1

theorem edgeCounted_facts {s : State} {n : Nat} (h : n < s.field.chans.length) :
    n < (edgeCounted s n).field.chans.length ∧ (chan (edgeCounted s n) n).filt = (chan s n).filt ∧
      (chan (edgeCounted s n) n).cnt = (chan s n).cnt + 1 := by
  have hl : n < (s.onChan n (fun c => { c with edgeT := some s.time.line })).field.chans.length :=
    (State.onChan_chans_length s n _).symm ▸ h
  refine ⟨(State.onChan_chans_length _ n _).symm ▸ hl, ?_⟩
  rw [edgeCounted, chan_countBy _ _ hl, chan_onChan _ _ _ h]
  exact ⟨rfl, rfl⟩

theorem handleEdge_of_counted {s : State} {n : Nat} (edge : Nat) {level : Bool} (hm : chMode s n = 3)
    (hs : cntSelects (cfgF s 4 (16 * n + 1) 6 2) level = true) : handleEdge s n edge level =
      if pfSelects (cfgF s 4 (16 * n + 1) 4 2) level then pfRecord (edgeCounted s n) n edge level else edgeCounted s n := by
  unfold handleEdge
  extract_lets m s1 s2 s3
  have hm' : m = 3 := hm
  have h2 : s2 = edgeCounted s n := if_pos (by rw [hm', Bool.and_eq_true]; exact ⟨rfl, hs⟩)
  have h3 : s3 = edgeCounted s n := (if_neg (by rw [hm']; decide)).trans h2
  rw [h3, hm']
  rfl

theorem handleEdge_counts {s : State} {n : Nat} (edge : Nat) {level : Bool} (h : n < s.field.chans.length)
    (hm : chMode s n = 3) (hs : cntSelects (cfgF s 4 (16 * n + 1) 6 2) level = true) :
    (chan (handleEdge s n edge level) n).filt = (chan s n).filt ∧
      (chan (handleEdge s n edge level) n).cnt = (chan s n).cnt + 1 := by
  obtain ⟨hl, hf, hc⟩ := edgeCounted_facts h
  obtain ⟨h1, h2⟩ := pfRecord_counts (edgeCounted s n) edge level hl
  rw [handleEdge_of_counted edge hm hs]
  split
  · exact ⟨h1.trans hf, h2.trans hc⟩
  · exact ⟨hf, hc⟩

theorem injEdge_field (s : State) (n : Nat) (rising : Bool) : (injEdge s n rising).field = s.field :=
  (injEdge_kept (kp := (· == .field)) s n rising (Kept.refl _ s) rfl).same .field rfl

theorem inputEdge_counts {s : State} {n : Nat} (edge : Nat) {level : Bool} (both : Bool) (h : n < s.field.chans.length)
    (hm : chMode s n = 3) (hf : edgeFits s n = true) (hs : cntSelects (cfgF s 4 (16 * n + 1) 6 2) level = true) :
    (chan (inputEdge s n edge level both) n).filt = level ∧
      (chan (inputEdge s n edge level both) n).cnt = (chan s n).cnt + 1 := by
  have hc := chan_onChan s n (fun c => { c with filt := level }) h
  obtain ⟨h1, h2⟩ := handleEdge_counts (s := s.onChan n (fun c => { c with filt := level })) edge
    ((State.onChan_chans_length s n _).symm ▸ h) hm hs
  unfold inputEdge
  rw [if_neg (by simp [hm])]
  simp only [hf, if_true]
  rw [chan_of_field (injEdge_field _ n level), h1, h2, hc]
  exact ⟨rfl, rfl⟩

theorem exec_inputEdge {s v : State} {n t : Nat} (both : Bool) (hr : fieldRuns s = true) (hi : isDigitalIn (chMode s n) = true)
    (ho : (chan s n).modeOff = false) (hv : v = s.reach (t + filterNs (cfgF s 4 (16 * n + 1) 0 4))) :
    exec (.inputEdge n ((!(chan s n).filt) != cfgB s 4 (16 * n) 6) both t) s =
      .next (inputEdge v n (t - 600) (!(chan s n).filt) both) := by
  have hx (a b : Bool) : ((a != b) != b) = a := by cases a <;> cases b <;> rfl
  rw [exec, execInputEdge, if_neg (by simp [hr, hi, ho])]
  simp only [hx]
  rw [if_neg (by simp), hv]

-- The periods of the PWM outputs, and the end of mode-off (R243)

theorem pwmPeriodStart_completes {s : State} {n : Nat} (hr : fieldRuns s = true) (hp : isPwm s n = true)
    (h0 : pwmPeriod s n ≠ 0) (hn : n < s.field.chans.length) :
    Completes (.pwmPeriodStart n) s (fun u => (chan u n).pwm = (chan s n).eff ∧ (chan u n).pwmT = pwmStart s n ∧
      (chan u n).pwmPer = 8 * pwmPeriod s n ∧ (chan u n).pwmHigh = (chan s n).eff.toNat * pwmPeriod s n / 65536 * 8 ∧
      u.time.line = reachLine s.time.line (pwmStart s n)) := by
  have hc := chan_onChan (s.reach (pwmStart s n)) n (fun c => { c with
    pwm := c.eff, pwmT := pwmStart s n, pwmPer := 8 * pwmPeriod s n, pwmHigh := pwmHighNs c.eff (pwmPeriod s n) }) hn
  refine ⟨_, if_neg (by simp [hr, hp, h0]), ?_⟩
  dsimp only
  rw [hc]
  exact ⟨rfl, rfl, rfl, rfl, congrArg TimeState.line (State.reach_time s _)⟩

/-- The effective value by rule is the value held, or does not depend on the value held. -/
theorem effOf_with (s : State) (n : Nat) (c : Chan) (e : Word) :
    effOf s n { c with eff := e } = effOf s n c ∨ effOf s n { c with eff := e } = e := by
  unfold effOf
  dsimp only [Chan.forced]
  split
  · exact .inl rfl
  · split
    · exact .inl rfl
    · split
      · exact .inl rfl
      · split
        · exact .inr rfl
        · by_cases hf : (c.force.isSome || c.jog.isSome) = true
          · simp only [hf, if_true]
            exact .inl rfl
          · simp only [hf]
            split
            · contradiction
            · split
              · exact .inl rfl
              · split
                · exact .inr rfl
                · exact .inl rfl

theorem effOf_again (s : State) (n : Nat) (c : Chan) : effOf s n { c with eff := effOf s n c } = effOf s n c := by
  obtain h | h := effOf_with s n c (effOf s n c) <;> exact h

theorem effOf_refresh (s : State) (n : Nat) (c : Chan) : effOf (refresh s) n c = effOf s n c := rfl

theorem refresh_settled {s : State} {n : Nat} (h : n < s.field.chans.length) :
    (chan (refresh s) n).eff = effOf (refresh s) n (chan (refresh s) n) := by
  rw [effOf_refresh, chan_refresh s h, effOf_again]

theorem restartFilters_same (l : List Nat) (s : State) : (eachNo l restartFilter s).field = s.field ∧
    (eachNo l restartFilter s).time = s.time :=
  ⟨(eachNo_kept (kp := (· == .field)) l _ s (fun u hu k => restartFilter_kept u k hu rfl) (Kept.refl _ s)).same .field rfl,
    (eachNo_kept (kp := (· == .time)) l _ s (fun u hu k => restartFilter_kept u k hu rfl) (Kept.refl _ s)).same .time rfl⟩

/-- What the end of mode-off makes of a state on which its instant has been reached. -/
def modeOffEnded (s : State) (n : Nat) : State :=
  refresh (eachNo (entriesOf (s.onChan n (fun c => { c with modeOff := false })) n) restartFilter
    (s.onChan n (fun c => { c with modeOff := false })))

theorem modeOffEnded_facts {s : State} {n : Nat} (h : n < s.field.chans.length) : (chan (modeOffEnded s n) n).modeOff = false ∧
    (modeOffEnded s n).time = s.time ∧
    (chan (modeOffEnded s n) n).eff = effOf (modeOffEnded s n) n (chan (modeOffEnded s n) n) := by
  obtain ⟨hf, ht⟩ := restartFilters_same (entriesOf (s.onChan n (fun c => { c with modeOff := false })) n)
    (s.onChan n (fun c => { c with modeOff := false }))
  have hl : n < (eachNo (entriesOf (s.onChan n (fun c => { c with modeOff := false })) n) restartFilter
      (s.onChan n (fun c => { c with modeOff := false }))).field.chans.length := by
    rw [hf, State.onChan_chans_length]
    exact h
  refine ⟨?_, ht, refresh_settled hl⟩
  rw [modeOffEnded, chan_refresh _ hl, chan_of_field hf, chan_onChan _ _ _ h]

theorem modeOffEnd_completes {s : State} {n : Nat} (ho : (chan s n).modeOff = true) (hn : n < s.field.chans.length) :
    Completes (.modeOffEnd n) s (fun u => (chan u n).modeOff = false ∧
      u.time.line = reachLine s.time.line (s.cfg.lastSwapT + 100000) ∧ (chan u n).eff = effOf u n (chan u n)) := by
  have he : exec (.modeOffEnd n) s = .next (modeOffEnded (s.reach (s.cfg.lastSwapT + 100000)) n) := by
    rw [exec, execModeOffEnd, if_pos ho]
    rfl
  generalize s.cfg.lastSwapT + 100000 = t at *
  obtain ⟨h1, h2, h3⟩ := modeOffEnded_facts (s := s.reach t) (n := n) hn
  exact ⟨_, he, h1, congrArg TimeState.line (h2.trans (State.reach_time s t)), h3⟩

/-- Settles O37: the commands and events of the channels do what their rules say. -/
theorem channelCommandsAct : Obligations.ChannelCommandsAct := by
  refine ⟨fun p w n level s v h hm => ?_, fun n k level f v hn => forces_act n k level f v hn,
    fun n t both s v hr hi ho hv => ⟨exec_inputEdge both hr hi ho hv, fun hn h3 hf hs =>
      ⟨_, exec_inputEdge both hr hi ho hv, ?_⟩⟩,
    fun n s hr hp h0 hn => pwmPeriodStart_completes hr hp h0 hn, fun n s ho hn => modeOffEnd_completes ho hn⟩
  · have hc : exec (.choutWrite p w) s = .next (writeChout (gateFirst (acting s p)) w) := by
      rw [exec, execChoutWrite, served, if_pos h, regChout, regWrite_eq hm (by simp)]
      rfl
    exact ⟨hc, ⟨_, hc, rfl⟩, fun hk hn hv => hv ▸ forces_answer level h hm hk hn⟩
  · subst hv
    exact inputEdge_counts (t - 600) both hn h3 hf hs

end Sys2Proof.Machine
end

section
/-! SUPPORT. StartLists: the start lists and the port words of the window (R244 to R249) -/

namespace Sys2Proof.Machine

open Sys2Proof

set_option Elab.async false

-- The start lists' events (R244)

theorem exec_slIssue {s : State} {n slot : Nat} {e : SlEvent} (hr : fieldRuns s = true) (he : slEvent (chan s n) slot = some e) :
    exec (.slIssue n slot) s = .next ((s.reach (gateTime s n e - 1000)).onChan n
      (fun c => { slDrop c slot with sl := slInsert (slDrop c slot).sl { e with issued := true } })) := by
  simp only [exec, execSlIssue, he]
  rw [if_neg (by simp [hr])]

theorem exec_slGate {s : State} {n slot : Nat} {e : SlEvent} (v : State) (hr : fieldRuns s = true)
    (he : slEvent (chan s n) slot = some e)
    (hv : v = if applyDue (swapFirst (s.reach (gateFrom s n (gateTime s n e)))) == gateTime s n e
      then applyIfDue (swapFirst (s.reach (gateFrom s n (gateTime s n e))))
      else swapFirst (s.reach (gateFrom s n (gateTime s n e)))) :
    exec (.slGate n slot) s =
      .next (refresh (slGateAll v n ((chan v n).sl.filter (fun x => gateTime v n x == gateTime s n e)))) := by
  simp only [exec, execSlGate, he]
  rw [if_neg (by simp [hr]), ← hv]

theorem slEvent_slDrop (c : Chan) (k : Nat) : slEvent (slDrop c k) k = none := by
  simp [slEvent, slDrop]

/-- What the gating of an event leaves of its channel, apart from the level that the event gives. -/
def slGated (s : State) (n k : Nat) : State := s.onChan n (fun c => { slDrop c k with gateT := some s.time.line })

theorem chan_slGated {s : State} {n : Nat} (k : Nat) (h : n < s.field.chans.length) :
    chan (slGated s n k) n = { slDrop (chan s n) k with gateT := some s.time.line } := chan_onChan s n _ h

theorem slGateOne_facts {s : State} {n : Nat} (e : SlEvent) (hm : chMode s n ≠ 10) (h : n < s.field.chans.length) :
    (isLocal s n = true → (chan (slGateOne s n e) n).loc = e.val ∧ slEvent (chan (slGateOne s n e) n) e.slot = none) ∧
    (isLocal s n = false → (chan (slGateOne s n e) n).cyc = e.val ∧ slEvent (chan (slGateOne s n e) n) e.slot = none) := by
  have hg := chan_slGated e.slot h
  have hn : n < (slGated s n e.slot).field.chans.length := (State.onChan_chans_length s n _).symm ▸ h
  have hcl : clampAo (slGated s n e.slot) n e.val = (e.val, slGated s n e.slot) :=
    if_neg (by simp [show chMode (slGated s n e.slot) n = chMode s n from rfl, hm])
  have he : slGateOne s n e = if isLocal (slGated s n e.slot) n
      then writeLocal (clampAo (slGated s n e.slot) n e.val).2 n (clampAo (slGated s n e.slot) n e.val).1
      else writeCyc (slGated s n e.slot) n e.val := rfl
  have hl : isLocal (slGated s n e.slot) n = isLocal s n := rfl
  rw [hl, hcl] at he
  have hnone : slEvent (chan (slGated s n e.slot) n) e.slot = none := by
    rw [hg]
    exact slEvent_slDrop _ _
  refine ⟨fun hy => ?_, fun hy => ?_⟩
  · have hc : chan (slGateOne s n e) n = { chan (slGated s n e.slot) n with loc := e.val } := by
      rw [he, if_pos hy]
      exact chan_onChan (slGated s n e.slot) n (fun c => { c with loc := e.val }) hn
    rw [hc]
    exact ⟨rfl, hnone⟩
  · have hc : chan (slGateOne s n e) n = { chan (slGated s n e.slot) n with cyc := e.val } := by
      rw [he, if_neg (by simp [hy]), writeCyc, hcl]
      exact chan_onChan (slGated s n e.slot) n (fun c => { c with cyc := e.val }) hn
    rw [hc]
    exact ⟨rfl, hnone⟩

-- The port words (R214, R276, R517)

theorem shadowWrite_port {s : State} {p : Path} {w : Nat} (x : Word) (hb : s.cfg.busy = none) (ha : s.cfg.armed = none)
    (hp : isPort 4 w = true) : shadowWrite s p 4 w x = (chanPortWrite s w x, 0) := by
  have hw : wordValid 4 w = true := by
    simp [isPort] at hp
    simp [wordValid, tableSize]
    omega
  rw [shadowWrite, if_neg (by simp [hw, hb, ha]), if_neg (by simp), if_pos hp]

theorem shadowWrite_repl {s : State} {p : Path} (x : Word) (hb : s.cfg.busy = none) (ha : s.cfg.armed = none)
    (hm : s.mode.mode = .setup ∨ s.mode.mode = .safe) : shadowWrite s p 0xE 0xC0 x = (replClr s x, 0) := by
  have hw : wordValid 0xE 0xC0 = true := by decide
  rw [shadowWrite, if_neg (by simp [hw, hb, ha]), if_pos (by simp), if_pos (by simpa using hm)]

theorem portWrite_line {s : State} {t w : Nat} {x : Word} (h : pathOpen s .line = true) (hm : s.mode.mode ≠ .minimal)
    (ho : s.cfg.owner = some .line) :
    portWrite s .line t w x = (shadowWrite (windowUse s .line) .line t w x).1 := by
  rw [portWrite, served, if_pos h]
  simp [accNow, hm, hostAccess, owns, ho]

theorem served_regCfgData {s : State} {p : Path} {x : Word} (h : pathOpen s p = true) (hm : s.mode.mode ≠ .minimal) :
    served s p (fun s v => regCfgData s v x) = (dataWritten (acting s p) p x).1 :=
  Host.Outcome.next.inj (exec_cfgDataWrite h hm)

theorem hostAccess_cfg (s : State) (p : Path) : (hostAccess s p).cfg = s.cfg :=
  (hostAccess_kept (kp := (· == .cfg)) (s0 := s) s p (Kept.refl _ s) rfl rfl).same .cfg rfl

theorem portWrite_window {s : State} {p : Path} {t w : Nat} {x : Word} (h : pathOpen s p = true) (hm : s.mode.mode ≠ .minimal)
    (hp : p ≠ .line) (hs : s.cfg.selShadow = true) (ht : s.cfg.table = t) (hw : s.cfg.word = w) :
    portWrite s p t w x = (dataWritten (acting s p) p x).1 := by
  rw [← served_regCfgData h hm, portWrite, served, served, if_pos h, if_pos h]
  cases p
  · exact congrArg Prod.fst (if_pos (by simp [hostAccess_cfg, hs, ht, hw]))
  · exact congrArg Prod.fst (if_pos (by simp [hostAccess_cfg, hs, ht, hw]))
  · exact absurd rfl hp

/-- A port word that the window addresses acts, and the address steps. -/
theorem dataWritten_port {s u : State} {p : Path} {x : Word} (ho : owns s p = true) (hs : s.cfg.selShadow = true)
    (hu : shadowWrite (windowUse s p) p s.cfg.table s.cfg.word x = (u, 0)) : (dataWritten s p x).1 = stepWord u := by
  simp [dataWritten, ho, hs, hu]

theorem used_same (s : State) (p : Path) : (windowUse (acting s p) p).cfg.busy = s.cfg.busy ∧
    (windowUse (acting s p) p).cfg.armed = s.cfg.armed ∧ (windowUse (acting s p) p).mode = s.mode := by
  rw [windowUse_cfg, acting_cfg, (windowUse_same _ _).2, acting_mode]
  exact ⟨rfl, rfl, rfl⟩

theorem portWrite_addressed {s u : State} {p : Path} {t w : Nat} {x : Word} (h : pathOpen s p = true)
    (hm : s.mode.mode ≠ .minimal) (ho : s.cfg.owner = some p) (hp : p ≠ .line) (hs : s.cfg.selShadow = true)
    (ht : s.cfg.table = t) (hw : s.cfg.word = w) (hu : shadowWrite (windowUse (acting s p) p) p t w x = (u, 0)) :
    portWrite s p t w x = stepWord u := by
  rw [portWrite_window h hm hp hs ht hw]
  exact dataWritten_port (by simp [owns, ho]) (by rw [acting_cfg, hs]) (by rw [acting_cfg, ht, hw, hu])

/-- The port words by the line act at once. -/
theorem ports_by_line {s : State} (w : Word) (h : pathOpen s .line = true) (hm : s.mode.mode ≠ .minimal)
    (ho : s.cfg.owner = some .line) (hb : s.cfg.busy = none) (ha : s.cfg.armed = none) :
    exec (.slLoad .line) s = .next (slLoad (windowUse s .line)) ∧
    exec (.slCancel .line) s = .next (slCancel (windowUse s .line)) ∧
    exec (.slRead .line) s = .next (slRead (windowUse s .line)) ∧
    exec (.pfSelWrite .line w) s = .next (pfSelect (windowUse s .line) w) ∧
    (s.mode.mode = .setup ∨ s.mode.mode = .safe → exec (.replClr .line w) s = .next (replClr (windowUse s .line) w)) := by
  have hb' : (windowUse s .line).cfg.busy = none := by rw [windowUse_cfg]; exact hb
  have ha' : (windowUse s .line).cfg.armed = none := by rw [windowUse_cfg]; exact ha
  have hp (a : Nat) (x : Word) (hi : isPort 4 a = true) :
      portWrite s .line 4 a x = chanPortWrite (windowUse s .line) a x := by
    rw [portWrite_line h hm ho, shadowWrite_port x hb' ha' hi]
  refine ⟨congrArg _ (hp 0x29E 1 (by decide)), congrArg _ (hp 0x29E 2 (by decide)), congrArg _ (hp 0x29E 3 (by decide)),
    congrArg _ (hp 0x290 w (by decide)), fun hr => ?_⟩
  rw [exec, execReplClr, portWrite_line h hm ho, shadowWrite_repl w hb' ha' (by rw [(windowUse_same _ _).2]; exact hr)]

/-- The port words by another path act where the window addresses them. -/
theorem ports_by_window {s : State} {p : Path} (w : Word) (h : pathOpen s p = true) (hm : s.mode.mode ≠ .minimal)
    (ho : s.cfg.owner = some p) (hb : s.cfg.busy = none) (ha : s.cfg.armed = none) (hp : p ≠ .line)
    (hs : s.cfg.selShadow = true) :
    (s.cfg.table = 4 → s.cfg.word = 0x29E →
      exec (.slLoad p) s = .next (stepWord (slLoad (windowUse (acting s p) p))) ∧
      exec (.slCancel p) s = .next (stepWord (slCancel (windowUse (acting s p) p))) ∧
      exec (.slRead p) s = .next (stepWord (slRead (windowUse (acting s p) p)))) ∧
    (s.cfg.table = 4 → s.cfg.word = 0x290 →
      exec (.pfSelWrite p w) s = .next (stepWord (pfSelect (windowUse (acting s p) p) w))) ∧
    (s.cfg.table = 0xE → s.cfg.word = 0xC0 → s.mode.mode = .setup ∨ s.mode.mode = .safe →
      exec (.replClr p w) s = .next (stepWord (replClr (windowUse (acting s p) p) w))) := by
  obtain ⟨hb', ha', hm'⟩ := used_same s p
  rw [hb] at hb'
  rw [ha] at ha'
  have hx (a : Nat) (x : Word) (hi : isPort 4 a = true) (ht : s.cfg.table = 4) (hw : s.cfg.word = a) :
      portWrite s p 4 a x = stepWord (chanPortWrite (windowUse (acting s p) p) a x) :=
    portWrite_addressed h hm ho hp hs ht hw (shadowWrite_port x hb' ha' hi)
  refine ⟨fun ht hw => ⟨congrArg _ (hx 0x29E 1 (by decide) ht hw), congrArg _ (hx 0x29E 2 (by decide) ht hw),
    congrArg _ (hx 0x29E 3 (by decide) ht hw)⟩, fun ht hw => congrArg _ (hx 0x290 w (by decide) ht hw), fun ht hw hr => ?_⟩
  exact congrArg _ (portWrite_addressed h hm ho hp hs ht hw (shadowWrite_repl w hb' ha' (by rw [hm']; exact hr)))

-- What the words of a start list do (R245 to R249)

theorem slLoad_facts {v : State} {n k r : Nat} (hn : n = bitsOf v.field.slSel 0 4) (hk : k = bitsOf v.field.slSel 4 4)
    (hl : n < v.field.chans.length) (hr : r = slLoadCheck v n k v.field.slT.toNat v.field.slVal) :
    (slLoad v).field.slCmd = pack [(1, 0), (1, 3), (r, 4)] ∧
    (r = 0 → (chan (slLoad v) n).sl =
      slInsert (chan v n).sl { slot := k, time := v.field.slT.toNat, val := v.field.slVal, issued := false }) ∧
    (r ≠ 0 → (slLoad v).field.chans = v.field.chans) := by
  have he : slLoad v = if r == 0 then (slResult v 1 r).onChan n (fun c => { c with
      sl := slInsert c.sl { slot := k, time := v.field.slT.toNat, val := v.field.slVal, issued := false } })
    else slResult v 1 r := by
    rw [hr, hk, hn]
    rfl
  rw [he]
  clear hr he
  refine ⟨?_, fun h0 => ?_, fun h0 => ?_⟩
  · split <;> rfl
  · rw [if_pos (by simp [h0])]
    exact congrArg Chan.sl (chan_onChan (slResult v 1 r) n (fun c => { c with
      sl := slInsert c.sl { slot := k, time := v.field.slT.toNat, val := v.field.slVal, issued := false } }) hl)
  · rw [if_neg (by simpa using h0)]
    rfl

theorem slCancel_of_event {v : State} {n k : Nat} {e : SlEvent} (hn : n = bitsOf v.field.slSel 0 4)
    (hk : k = bitsOf v.field.slSel 4 4) (ho : isOutput (chMode v n) = true) (he : slEvent (chan v n) k = some e) :
    slCancel v = if slIssued v n e then postStartList (slResult v 2 8) n 3 [k]
      else if v.mode.fieldReset || v.supply.barrierDown then slResult v 2 9
      else slResult (v.onChan n (fun c => slDrop c k)) 2 0 := by
  subst hn hk
  unfold slCancel
  simp only [ho, he]
  rfl

theorem slCancel_facts {v : State} {n k : Nat} {e : SlEvent} (hn : n = bitsOf v.field.slSel 0 4)
    (hk : k = bitsOf v.field.slSel 4 4) (hl : n < v.field.chans.length) (ho : isOutput (chMode v n) = true)
    (he : slEvent (chan v n) k = some e) :
    (slIssued v n e = true → (slCancel v).field.slCmd = pack [(2, 0), (1, 3), (8, 4)] ∧
      (slCancel v).field.chans = v.field.chans) ∧
    (slIssued v n e = false → v.mode.fieldReset = false → v.supply.barrierDown = false →
      (slCancel v).field.slCmd = pack [(2, 0), (1, 3), (0, 4)] ∧ slEvent (chan (slCancel v) n) k = none) := by
  rw [slCancel_of_event hn hk ho he]
  refine ⟨fun hi => ?_, fun hi hf hb => ?_⟩
  · have hp : (postStartList (slResult v 2 8) n 3 [k]).field = (slResult v 2 8).field := post_field _ _ _ _
    rw [if_pos hi, hp]
    exact ⟨rfl, rfl⟩
  · have hc : chan (slResult (v.onChan n (fun c => slDrop c k)) 2 0) n = slDrop (chan v n) k :=
      chan_onChan v n (fun c => slDrop c k) hl
    rw [if_neg (by simp [hi]), if_neg (by simp [hf, hb]), hc]
    exact ⟨rfl, slEvent_slDrop _ _⟩

theorem slRead_facts {v : State} {n k : Nat} {e : SlEvent} (hn : n = bitsOf v.field.slSel 0 4)
    (hk : k = bitsOf v.field.slSel 4 4) (ho : isOutput (chMode v n) = true) (he : slEvent (chan v n) k = some e)
    (hf : v.mode.fieldReset = false) (hb : v.supply.barrierDown = false) :
    (slRead v).field.slT = BitVec.ofNat 64 e.time ∧ (slRead v).field.slVal = e.val := by
  subst hn hk
  have hr : slRead v = slResult { v with field := { v.field with slT := BitVec.ofNat 64 e.time, slVal := e.val } } 3 0 := by
    unfold slRead
    simp only [ho, he, hf, hb]
    rfl
  rw [hr]
  exact ⟨rfl, rfl⟩

theorem slWords_of_no_event {v : State} {n k : Nat} (hn : n = bitsOf v.field.slSel 0 4) (hk : k = bitsOf v.field.slSel 4 4)
    (ho : isOutput (chMode v n) = true) (he : slEvent (chan v n) k = none) :
    (slCancel v).field.slCmd = pack [(2, 0), (1, 3), (7, 4)] ∧ (slRead v).field.slCmd = pack [(3, 0), (1, 3), (7, 4)] := by
  subst hn hk
  refine ⟨?_, ?_⟩
  · unfold slCancel
    simp only [ho, he]
    rfl
  · unfold slRead
    simp only [ho, he]
    rfl

/-- Settles O38: start-list events are issued and gated at their times, and the port words act. -/
theorem startListsAndPortWordsAct : Obligations.StartListsAndPortWordsAct := by
  refine ⟨fun n slot g e s v hr he hg => ⟨fun hn => ⟨_, exec_slIssue hr he, ?_⟩, fun hv ha => ?_, fun hv ha => ?_⟩,
    fun n e v hn => ⟨fun hl hm => (slGateOne_facts e hm hn).1 hl, fun hl hm => (slGateOne_facts e hm hn).2 hl⟩,
    fun p w s v h hm ho hb ha hv => ?_, fun n k r e v hn hk hl => ?_⟩
  · rw [hg]
    generalize gateTime s n e - 1000 = t
    have hc := chan_onChan (s.reach t) n
      (fun c => { slDrop c slot with sl := slInsert (slDrop c slot).sl { e with issued := true } }) hn
    rw [hc]
    exact ⟨rfl, congrArg TimeState.line (State.reach_time s t)⟩
  · subst hg
    exact exec_slGate v hr he (by rw [← hv, if_neg (by simpa using ha)])
  · subst hg
    exact exec_slGate v hr he (by rw [if_pos (by simpa using ha), hv])
  · have hw (hp : p ≠ .line) : v = windowUse (acting s p) p := hv.trans (by rw [if_neg hp])
    refine ⟨fun hp => ?_, fun hp hs => ?_, fun hp hs => ?_, fun hp hs => ?_⟩
    · subst hp
      rw [if_pos rfl] at hv
      exact hv ▸ ports_by_line w h hm ho hb ha
    · rw [hw hp]
      exact (ports_by_window w h hm ho hb ha hp hs).1
    · rw [hw hp]
      exact (ports_by_window w h hm ho hb ha hp hs).2.1
    · rw [hw hp]
      exact (ports_by_window w h hm ho hb ha hp hs).2.2
  · have hn16 : n < v.field.chans.length := by
      rw [hl, hn]
      exact Nat.mod_lt _ (by decide)
    exact ⟨fun hr => slLoad_facts hn hk hn16 hr, fun ho he => ⟨(slCancel_facts hn hk hn16 ho he).1,
      (slCancel_facts hn hk hn16 ho he).2, slRead_facts hn hk ho he⟩, slWords_of_no_event hn hk⟩

end Sys2Proof.Machine
end

section
/-! SUPPORT. ConverterCommands: the codes of ADC_CMD, the FIFO and the captures (R311 to R329) -/

namespace Sys2Proof.Machine

open Sys2Proof

set_option Elab.async false

-- What an operation leaves of the converters' work

/-- The work of the converters that a round, a filter or a full FIFO leaves: the sequence, calibration, the DAC test, the
capture. -/
def AdcState.work (a : AdcState) : Bool × Option CalStep × Option (Nat × Int) × Option DacRun × Option Capture :=
  (a.running, a.calStep, a.calZero, a.dac, a.capture)

theorem adcRestart_work (s : State) : (adcRestart s).adc.work = s.adc.work := by
  unfold adcRestart
  split
  · dsimp only
    split <;> rfl
  · rfl

theorem wake_work (s : State) (cause : Nat) : (wake s cause).adc.work = s.adc.work := by
  unfold wake
  split
  · dsimp only
    rw [adcRestart_work, (wdhCheck_kept (kp := (· == .adc)) _ (Kept.refl _ _) rfl rfl).same .adc rfl]
    split
    · rw [(freezeCheck_kept (kp := (· == .adc)) _ (Kept.refl _ _) rfl).same .adc rfl]
      simp
    · simp
  · rfl

theorem fifoMarker_work (s : State) (v : Word) : (fifoMarker s v).adc.work = s.adc.work := by
  have ha (x : State) (l : List Word) : (fifoAdd x l).adc.work = x.adc.work := by
    unfold fifoAdd
    dsimp only
    split
    · rw [post_adc]
      rfl
    · rfl
  unfold fifoMarker fifoPut
  split
  · rfl
  · extract_lets need mark
    split
    · rfl
    · exact ha _ _

theorem AdcState.work_running {a b : AdcState} (h : a.work = b.work) : a.running = b.running := congrArg Prod.fst h

theorem calAbortStep_adc (s : State) : (calAbortStep s).adc.running = s.adc.running ∧
    (calAbortStep s).adc.inRound = s.adc.inRound ∧ (calAbortStep s).adc.calStep = none := by
  unfold calAbortStep
  split
  · next h => exact ⟨rfl, rfl, h⟩
  · dsimp only
    rw [post_adc]
    exact ⟨rfl, rfl, rfl⟩

theorem captureCut_running (s : State) : (captureCut s).adc.running = s.adc.running ∧
    (captureCut s).adc.inRound = s.adc.inRound := ⟨rfl, rfl⟩

-- The codes of ADC_CMD (Table ADC-5)

theorem regLen_of_cfg {s t : State} (h : t.cfg = s.cfg) : regLen t = regLen s := by
  simp only [regLen, cfgF, h]

theorem regStart_running {s : State} (hf : s.mode.fieldReset = false) (hl : regLen s ≠ 0) :
    (regStart s).adc.running = true := by
  unfold regStart
  rw [if_neg (by simp [hf]), if_neg (by simpa using hl)]
  split
  · next h => exact h
  · have hr : (fifoMarker (restartFilters { s with adc := { s.adc with running := true } }) 3).adc.running = true :=
      AdcState.work_running (fifoMarker_work (restartFilters { s with adc := { s.adc with running := true } }) 3)
    dsimp only
    split
    · exact hr
    · exact hr

theorem regStop_facts {s : State} (hr : s.adc.running = true) :
    (regStop s).adc.running = false ∧ (regStop s).adc.inRound = false := by
  unfold regStop
  rw [if_pos hr]
  obtain ⟨h1, h2, -⟩ := calAbortStep_adc (abortRound { s with adc := { s.adc with running := false } })
  exact ⟨h1, h2⟩

theorem calStart_facts {s : State} {e : Nat} (full : Bool) (hm : s.mode.mode = .setup ∨ s.mode.mode = .safe) (he : e < regLen s)
    (hk : (calKind s (entF s e 0 6)).isSome = true) (hr : s.adc.running = true)
    (hz : full = true → (s.adc.calZero.map (fun z => z.1 == e)).getD false = true) :
    (calStart s full e).adc.calZero = (if full then s.adc.calZero else none) ∧
    (calStart s full e).adc.calStep = some { entry := e, full, sum := 0, n := 0, startT := s.time.line } := by
  have hx : calStart s full e = restartFilter { s with adc := { s.adc with
      calZero := if full then s.adc.calZero else none
      calStep := some { entry := e, full, sum := 0, n := 0, startT := s.time.line } } } e := by
    unfold calStart
    rw [if_neg (by obtain h | h := hm <;> simp [h]), if_neg (by simp [he, Option.ne_none_iff_isSome.mpr hk]),
      if_neg (by simp [hr]), if_neg]
    cases full
    · simp
    · simp [hz rfl]
  rw [hx]
  exact ⟨rfl, rfl⟩

theorem calAbort_facts {s : State} {e : Nat} (h : s.adc.calStep.map (fun c => c.entry) = some e) :
    (calAbort s e).adc.calStep = none ∧ (calAbort s e).adc.calZero = none := by
  have hs : (s.adc.calStep.map (fun c => c.entry == e)).getD false = true := by
    obtain ⟨c, hc, rfl⟩ := Option.map_eq_some_iff.mp h
    simp [hc]
  unfold calAbort
  simp only [hs, Bool.true_or, if_true]
  exact ⟨(calAbortStep_adc s).2.2, trivial⟩

theorem dacStart_facts {s : State} (hd : s.adc.dac = none) (he : dacEntries s ≠ []) :
    (dacStart s).adc.dac = some { step := 0, todo := dacEntries s, settleT := s.time.line + 4000 } := by
  unfold dacStart
  rw [if_neg (by simp [hd, he])]

/-- The state in which the core works on a command of ADC_CMD: behind the path's access and the wake. -/
theorem woken_same (s : State) (p : Path) : (wake (acting s p) 4).cfg = s.cfg ∧ (wake (acting s p) 4).time = s.time ∧
    (wake (acting s p) 4).mode.mode = s.mode.mode ∧ (wake (acting s p) 4).adc.work = s.adc.work := by
  refine ⟨by simp, by simp, by simp, ?_⟩
  rw [wake_work, acting_adc]

theorem calKind_of_cfg {s t : State} (h : t.cfg = s.cfg) (e : Nat) : calKind t (entF t e 0 6) = calKind s (entF s e 0 6) := by
  simp only [calKind, entF, chMode, cfgF, h]
  rfl

theorem dacEntries_of_cfg {s t : State} (h : t.cfg = s.cfg) : dacEntries t = dacEntries s := by
  have hd : dacTested t = dacTested s := by
    funext e
    simp only [dacTested, regLen, entG, cfgF, h]
    rfl
  rw [dacEntries, dacEntries, regLen_of_cfg h, hd]

/-- A command of ADC_CMD by a served path is its action, behind the wake where the core does it. -/
theorem adcCmd_answers {s : State} {p : Path} {e : Nat} (h : pathOpen s p = true) (hm : s.mode.mode ≠ .minimal) (he : e < 16) :
    exec (.regStart p) s = .next (regStart (acting s p)) ∧ exec (.regStop p) s = .next (regStop (acting s p)) ∧
    exec (.injTrig p) s = .next (adcAct (acting s p) 3 0) ∧
    exec (.fifoClr p) s = .next { acting s p with adc := { (acting s p).adc with fifo := [] } } ∧
    (s.mode.coreReset = false →
      exec (.calZero p e) s = .next (calStart (wake (acting s p) 4) false e) ∧
      exec (.calFull p e) s = .next (calStart (wake (acting s p) 4) true e) ∧
      exec (.calAbort p e) s = .next (calAbort (wake (acting s p) 4) e) ∧
      exec (.dacTest p) s = .next (dacStart (wake (acting s p) 4))) := by
  have hmod : e % 16 = e := Nat.mod_eq_of_lt he
  have hp (c : Nat) (hc : 1 ≤ c ∧ c ≤ 8) (hn : (c == 4 || c == 5 || c == 6 || c == 8) = false) :
      adcCmd p c 0 s = .next (adcAct (acting s p) c 0) := by
    rw [adcCmd_eq h hm c 0 hc (by simp [hn]), hn]
    rfl
  refine ⟨hp 1 (by decide) rfl, hp 2 (by decide) rfl, hp 3 (by decide) rfl, hp 7 (by decide) rfl, fun hc => ?_⟩
  have hq (c k : Nat) (hcc : 1 ≤ c ∧ c ≤ 8) (hn : (c == 4 || c == 5 || c == 6 || c == 8) = true) :
      adcCmd p c k s = .next (adcAct (wake (acting s p) 4) c (k % 16)) := by
    rw [adcCmd_eq h hm c k hcc (fun _ => hc), hn]
    rfl
  refine ⟨(hq 4 e (by decide) rfl).trans ?_, (hq 5 e (by decide) rfl).trans ?_, (hq 6 e (by decide) rfl).trans ?_,
    hq 8 0 (by decide) rfl⟩ <;> rw [hmod] <;> rfl

theorem injTrig_answers {s : State} {p : Path} (h : pathOpen s p = true) (hm : s.mode.mode ≠ .minimal) :
    (injLen s ≠ 0 → s.mode.fieldReset = false → exec (.injTrig p) s = .next (injTrigger (acting s p))) ∧
    (injLen s = 0 → Completes (.injTrig p) s (fun u => u.adc = { s.adc with cmdRef := true })) := by
  have hx := (adcCmd_answers (e := 0) h hm (by decide)).2.2.1
  have hl : injLen (acting s p) = injLen s := by simp only [injLen, cfgF, acting_cfg]
  refine ⟨fun hi hf => hx.trans ?_, fun hi => ⟨_, hx, ?_⟩⟩
  · rw [adcAct, if_neg (by simpa [hl] using hi), if_neg (by simp [hf])]
  · have hr : adcAct (acting s p) 3 0 = cmdRefuse (acting s p) := if_pos (by simp [hl, hi])
    rw [hr]
    exact congrArg (fun a => { a with cmdRef := true }) (acting_adc s p)

/-- The core's work on the converters, seen from the state before the access. -/
theorem coreWork_facts {s : State} {p : Path} {e : Nat} (h : pathOpen s p = true) (hm : s.mode.mode ≠ .minimal) (he : e < 16)
    (hc : s.mode.coreReset = false) :
    (s.mode.mode = .setup ∨ s.mode.mode = .safe → e < regLen s → (calKind s (entF s e 0 6)).isSome = true →
      s.adc.running = true →
      Completes (.calZero p e) s (fun u => u.adc.calZero = none ∧
        u.adc.calStep = some { entry := e, full := false, sum := 0, n := 0, startT := s.time.line }) ∧
      (∀ x : Int, s.adc.calZero = some (e, x) → Completes (.calFull p e) s (fun u => u.adc.calZero = some (e, x) ∧
        u.adc.calStep = some { entry := e, full := true, sum := 0, n := 0, startT := s.time.line }))) ∧
    (s.adc.calStep.map (fun c => c.entry) = some e →
      Completes (.calAbort p e) s (fun u => u.adc.calStep = none ∧ u.adc.calZero = none)) ∧
    (s.adc.dac = none → dacEntries s ≠ [] → Completes (.dacTest p) s (fun u =>
      u.adc.dac = some { step := 0, todo := dacEntries s, settleT := s.time.line + 4000 })) := by
  obtain ⟨hz, hf, hab, hd⟩ := (adcCmd_answers h hm he).2.2.2.2 hc
  obtain ⟨hcfg, htime, hmode, hwork⟩ := woken_same s p
  generalize wake (acting s p) 4 = w at *
  simp only [AdcState.work, Prod.mk.injEq] at hwork
  obtain ⟨hrun, hstep, hzero, hdac, -⟩ := hwork
  refine ⟨fun hms hl hk hr => ?_, fun ha => ⟨_, hab, calAbort_facts (by rw [hstep, ha])⟩, fun hdn hde => ⟨_, hd, ?_⟩⟩
  · have hs (full : Bool) := calStart_facts (s := w) full (by rw [hmode]; exact hms) (by rw [regLen_of_cfg hcfg]; exact hl)
      (by rw [calKind_of_cfg hcfg]; exact hk) (by rw [hrun]; exact hr)
    obtain ⟨h1, h2⟩ := hs false (fun hx => absurd hx Bool.false_ne_true)
    refine ⟨⟨_, hz, h1, by rw [h2, htime]⟩, fun x hx => ?_⟩
    obtain ⟨h3, h4⟩ := hs true (fun _ => by simp [hzero, hx])
    exact ⟨_, hf, by rw [h3, if_pos rfl, hzero, hx], by rw [h4, htime]⟩
  · dsimp only
    rw [dacStart_facts (by rw [hdac, hdn]) (by rw [dacEntries_of_cfg hcfg]; exact hde), dacEntries_of_cfg hcfg, htime]

-- The FIFO and the captures (R329, R316)

theorem looked_adc (s : State) (p : Path) : (looked s p).adc = s.adc :=
  (endCapture_kept (kp := (· == .adc)) (s0 := s) _ p (hostAccess_kept s p (Kept.refl _ s) rfl rfl) rfl).same .adc rfl

theorem readOut_adc (p : Path) (u : State) (w : Word) : (readOut p u w).adc = u.adc := by
  cases p <;> rfl

theorem adcFifoRead_completes {s u : State} {p : Path} {w : Word} (h : pathOpen s p = true)
    (hr : readAdcFifo (looked s p) (accNow s p) = (u, w)) :
    Completes (.adcFifoRead p) s (fun t => (p = .host → t.bus.hd = w) ∧ t.adc = u.adc) := by
  have hx : exec (.adcFifoRead p) s = .next (readOut p u w) := by
    rw [exec, execAdcFifoRead, servedRead_of_open h, hr]
  exact ⟨_, hx, readOut_hd p u w, readOut_adc p u w⟩

theorem readAdcFifo_of_entry {s : State} {v : Acc} {x : Word} {r : List Word} (hm : v.mode ≠ .minimal)
    (h : s.adc.fifo = x :: r) : readAdcFifo s v = ({ s with adc := { s.adc with fifo := r } }, x) := by
  rw [readAdcFifo, if_neg (by simpa using hm), h]

theorem readAdcFifo_of_empty {s : State} {v : Acc} (hm : v.mode ≠ .minimal) (h : s.adc.fifo = []) :
    readAdcFifo s v = (s, 0) := by
  rw [readAdcFifo, if_neg (by simpa using hm), h]

theorem longStart_capture (s : State) : (longStart s).adc.captured = s.adc.captured ∧
    (longStart s).adc.capture = s.adc.capture := by
  unfold longStart
  split
  · split <;> exact ⟨rfl, rfl⟩
  · exact ⟨rfl, rfl⟩

theorem captStart_of_ok {s : State} {entry kind count start : Nat} {p : Path} {d : Descriptor} (h : captCheck s entry kind = 0) :
    (captStart s entry kind count start (.queue p d)).adc.captured = 0 ∧
    (captStart s entry kind count start (.queue p d)).adc.capture =
      some { entry, kind, want := count, got := 0, start, firstT := none, for_ := .queue p d } := by
  rw [captStart, h]
  exact longStart_capture _

theorem captStart_of_refused {s : State} {entry kind : Nat} (count start : Nat) {p : Path} {d : Descriptor}
    (h : captCheck s entry kind ≠ 0) :
    captStart s entry kind count start (.queue p d) = complete s p d outError (captCheck s entry kind) := by
  unfold captStart
  split
  · contradiction
  · rfl

theorem exec_adcCapt {s w : State} {p : Path} {d : Descriptor} {start : Nat} (ha : Accepted s p { d with code := 0x10 })
    (hw : w = wake (posted s p { d with code := 0x10 }) 6) (hc : s.mode.coreReset = false) (h1 : d.sub ≤ 15) (h2 : d.arg0 ≤ 2)
    (h3 : d.arg1 ≠ 0) (h4 : d.arg1 ≤ 32768)
    (hs : start = if d.len0 = 0 then 0 else memNat w (apertureBase + d.off0) 8) : exec (.adcCapt (.queue p d)) s =
      .next (captStart w d.sub d.arg0 d.arg1 start (.queue p { d with code := 0x10 })) := by
  subst hw
  rw [exec, execAdcCapt, postFrom_eq _ ha, captQueue]
  dsimp only
  rw [if_neg (by simp [hc]), if_neg (by simp [h3]; omega), hs]
  simp

/-- Settles O39: each code of ADC_CMD does its work, the FIFO gives its oldest word, a capture starts or is refused. -/
theorem converterCommandsAct : Obligations.ConverterCommandsAct := by
  refine ⟨fun p e s w h hm he hw => ?_, fun p x r s h hm => ⟨fun hf => ?_, fun hf => ?_⟩,
    fun p d start s w ha hw hc h1 h2 h3 h4 hs => ⟨fun hk => ⟨_, exec_adcCapt ha hw hc h1 h2 h3 h4 hs, captStart_of_ok hk⟩,
      fun hk => (exec_adcCapt ha hw hc h1 h2 h3 h4 hs).trans (by rw [captStart_of_refused _ _ hk])⟩⟩
  · subst hw
    obtain ⟨hb, he', -, hf, hcore⟩ := adcCmd_answers h hm he
    refine ⟨⟨hb, he', (injTrig_answers h hm).1, (injTrig_answers h hm).2, _, hf, ?_⟩, fun hfr hl => ⟨_, hb, ?_⟩,
      fun hr => ⟨_, he', ?_⟩, fun hc => ?_⟩
    · exact congrArg (fun a => { a with fifo := [] }) (acting_adc s p)
    · exact regStart_running (by rw [acting_mode]; exact hfr) (by rw [regLen_of_cfg (acting_cfg s p)]; exact hl)
    · exact regStop_facts (by rw [acting_adc]; exact hr)
    · obtain ⟨hz, hfu, hab, hd⟩ := hcore hc
      exact ⟨hz, hfu, hab, hd, coreWork_facts h hm he hc⟩
  · have hx := readAdcFifo_of_entry (v := accNow s p) hm ((congrArg AdcState.fifo (looked_adc s p)).trans hf)
    obtain ⟨u, hu, hd, ha⟩ := adcFifoRead_completes h hx
    exact ⟨u, hu, hd, ha.trans (congrArg (fun a => { a with fifo := r }) (looked_adc s p))⟩
  · have hx := readAdcFifo_of_empty (v := accNow s p) hm ((congrArg AdcState.fifo (looked_adc s p)).trans hf)
    obtain ⟨u, hu, hd, ha⟩ := adcFifoRead_completes h hx
    exact ⟨u, hu, hd, ha.trans (looked_adc s p)⟩

end Sys2Proof.Machine
end

section
/-! SUPPORT. ConverterEvents: the events of the converters, of calibration and of programs in flash (R311 to R324, R470) -/

namespace Sys2Proof.Machine

open Sys2Proof

set_option Elab.async false

-- Rounds and conversions (R311 to R315)

/-- The state in which a round begins or is counted late, once its instant has been reached. -/
def roundReached (s : State) (t per : Nat) : State :=
  { s.reach (if s.adc.roundT == some t then t + per else t) with adc := { s.adc with
    roundT := some (s.reach (if s.adc.roundT == some t then t + per else t)).time.line } }

theorem exec_roundStart {s : State} {t per : Nat} (hr : s.adc.running = true) (hp : per = 4 * cfgF s 7 1 0 32) (h0 : per ≠ 0)
    (hf : s.mode.fieldReset = false) (ho : s.mode.porst = false) (ht : t = (s.time.line + per - 1) / per * per) :
    exec .roundStart s = if adcIdle s then .next (beginRound (roundReached s t per))
      else .next { roundReached s t per with adc := { (roundReached s t per).adc with
        delayed := true, roundLate := sat16 s.adc.roundLate
        roundSlip := satAdd 0xFFFF s.adc.roundSlip (b2n s.adc.delayed) } } := by
  subst hp ht
  rw [exec, execRoundStart]
  dsimp only
  rw [if_neg (by simp [hr, h0, hf, ho])]
  rfl

theorem exec_conversionEnd {s : State} (b : Bool) (x : Int) (t : Nat) (hf : s.mode.fieldReset = false)
    (ho : s.mode.porst = false) : exec (.conversionEnd b x t) s = .next (conversion (s.reach (t + 375)) b x t) := by
  rw [exec, execConversionEnd, if_neg (by simp [hf, ho])]

theorem conversion_long {v : State} (b : Bool) (x : Int) (t : Nat) (h : v.adc.longBurst = true) :
    conversion v b x t = longResult v b x t := by
  rw [conversion, if_pos h]

theorem conversion_inj {v : State} {b : Bool} {e t : Nat} {r : List Nat} (x : Int) (hl : v.adc.longBurst = false)
    (hh : injHolds v b (t + 375) = true) (he : (if b then v.adc.injB else v.adc.injA) = e :: r) :
    conversion v b x t = injResult v b e x t := by
  rw [conversion]
  rw [if_neg (by simp [hl]), if_pos hh, he]

theorem injHolds_of_idle {v : State} (b : Bool) (n : Nat) (h : v.adc.injBusy = false) : injHolds v b n = false := by
  simp [injHolds, h]

theorem conversion_phase {v : State} {b : Bool} {e : Nat} {r : List Nat} (x : Int) (t : Nat) (hl : v.adc.longBurst = false)
    (hi : v.adc.injBusy = false) (he : (if b then v.adc.phaseB else v.adc.phaseA) = e :: r) :
    conversion v b x t = phaseResult v b e x t := by
  rw [conversion]
  rw [if_neg (by simp [hl]), if_neg (by simp [injHolds_of_idle b (t + 375) hi]), he]

theorem conversion_burst {v : State} {e : Nat} {r : List Nat} (b : Bool) (x : Int) (t : Nat) (hl : v.adc.longBurst = false)
    (hi : v.adc.injBusy = false) (ha : v.adc.phaseA = []) (hb : v.adc.phaseB = []) (he : v.adc.bursts = e :: r) :
    conversion v b x t = burstResult v b e x t := by
  have hm : (if b then v.adc.phaseB else v.adc.phaseA) = [] := by cases b <;> simp [ha, hb]
  rw [conversion]
  rw [if_neg (by simp [hl]), if_neg (by simp [injHolds_of_idle b (t + 375) hi]), hm]
  simp [hi, ha, hb, he]

-- Captures (R316, R317)

theorem longStart_begins {s : State} {c : Capture} (h : s.adc.capture = some c) (hk : c.kind = 2) (hg : c.got < c.want)
    (hi : adcIdle s = true) (hs : c.start ≤ s.time.line) : (longStart s).adc.longBurst = true := by
  unfold longStart
  simp only [h]
  rw [if_pos (by simp [hk, hg, hi, hs])]

theorem longBurstStart_completes {s : State} {c : Capture} (h : s.adc.capture = some c) (hk : c.kind = 2)
    (hi : adcIdle s = true) (hg : c.got < c.want) (hs : c.start + 4 ≤ 2 ^ 64) :
    Completes .longBurstStart s (fun u => u.adc.longBurst = true) := by
  have hx : exec .longBurstStart s = .next (longStart (s.reach c.start)) := by
    simp only [exec, execLongBurstStart, h]
    rw [if_pos (by simp [hk, hi])]
  exact ⟨_, hx, longStart_begins (s := s.reach c.start) h hk hg hi (le_reachLine s.time.line c.start hs)⟩

/-- The state in which a full capture has ended. -/
def captureOver (s : State) (c : Capture) : State := { s with adc := { s.adc with capture := none, captured := c.got } }

theorem exec_captureDone {s : State} {c : Capture} (h : s.adc.capture = some c) (hw : c.want ≤ c.got) :
    (∀ (p : Path) (d : Descriptor), c.for_ = .queue p d → exec .captureDone s =
      .next (complete (if srcAlive (captureOver s c) (.queue p d) && d.len1 == 8 then
        (captureOver s c).store (apertureBase + d.off1) (leBytes 8 (c.firstT.getD 0)) else captureOver s c) p d 0 c.got)) ∧
    (∀ id : Nat, c.for_ = .line id → exec .captureDone s =
      .next (endTxn (captureOver s c) id 0 (leBytes 2 c.got ++ [0, 0] ++ leBytes 8 (c.firstT.getD 0)) true)) := by
  refine ⟨fun p d hf => ?_, fun id hf => ?_⟩
  · simp only [exec, execCaptureDone, h]
    rw [if_neg (by omega), hf]
    rfl
  · simp only [exec, execCaptureDone, h]
    rw [if_neg (by omega), hf]
    rfl

-- Calibration (R320 to R324)

theorem calStepRefuse_adc (s : State) (c : CalStep) (cause : Nat) : (calStepRefuse s c cause).adc =
    { s.adc with calStep := none, calRef := true, calCause := cause } := by
  rw [calStepRefuse, calRefuse, post_adc]

theorem calStepRefuse_time (s : State) (c : CalStep) (cause : Nat) : (calStepRefuse s c cause).time = s.time :=
  (calStepRefuse_kept (kp := (· == .time)) s c cause (Kept.refl _ s) rfl rfl rfl).same .time rfl

theorem calTimeout_completes {s : State} {c : CalStep} (h : s.adc.calStep = some c) (hc : coreRuns s = true) (hn : c.n = 0) :
    Completes .calTimeout s (fun u => u.adc.calStep = none ∧ u.adc.calRef = true ∧ u.adc.calCause = 9 ∧
      u.time.line = reachLine s.time.line (c.startT + 10000000000)) := by
  have hx : exec .calTimeout s = .next (calStepRefuse (s.reach (c.startT + 10000000000)) c 9) := by
    simp only [exec, execCalTimeout, h]
    rw [if_pos (by simp [hn, hc])]
  refine ⟨_, hx, ?_⟩
  generalize c.startT + 10000000000 = t
  rw [calStepRefuse_adc, calStepRefuse_time]
  exact ⟨rfl, rfl, rfl, congrArg TimeState.line (State.reach_time s t)⟩

/-- Nothing of calibration is being programmed. -/
def CalFree (s : State) : Prop := s.flash.progQ.any (fun p => p.owner = .cal) = false ∧
  (s.flash.prog.map (fun p => decide (p.owner = .cal))).getD false = false

theorem exec_calStepDone {s : State} {c : CalStep} (h : s.adc.calStep = some c) (hc : coreRuns s = true) (hn : c.n = 16)
    (hf : CalFree s) :
    (∀ k : Nat, c.full = false → calKind s (entF s c.entry 0 6) = some k → exec .calStepDone s =
      if 16 * (calTarget k).2 < (c.sum.natAbs : Int) then .next (calStepRefuse s c 4)
      else .next (post { s with adc := { s.adc with calStep := none, calZero := some (c.entry, c.sum) } } 0xC3 1
        (word c.entry))) ∧
    (c.full = true → exec .calStepDone s =
      match calNewPair s c with
      | none => .next (calStepRefuse s c 6)
      | some p => .next (calProgram s p)) := by
  obtain ⟨hq, hp⟩ := hf
  refine ⟨fun k hz hk => ?_, fun hfull => ?_⟩
  · simp only [exec, execCalStepDone, h, hk]
    rw [if_neg (by rw [hq, hp, hc, hn]; decide), if_pos (by simp [hz])]
  · simp only [exec, execCalStepDone, h]
    rw [if_neg (by rw [hq, hp, hc, hn]; decide)]
    exact if_neg (by simp [hfull])

theorem calStepDone_facts {s : State} {c : CalStep} (h : s.adc.calStep = some c) (hc : coreRuns s = true) (hn : c.n = 16)
    (hf : CalFree s) :
    (∀ k : Nat, c.full = false → calKind s (entF s c.entry 0 6) = some k →
      ((c.sum.natAbs : Int) ≤ 16 * (calTarget k).2 → Completes .calStepDone s (fun u => u.adc.calStep = none ∧
        u.adc.calZero = some (c.entry, c.sum))) ∧
      (16 * (calTarget k).2 < (c.sum.natAbs : Int) → Completes .calStepDone s (fun u => u.adc.calStep = none ∧
        u.adc.calZero = s.adc.calZero ∧ u.adc.calRef = true ∧ u.adc.calCause = 4))) ∧
    (c.full = true → calNewPair s c = none → Completes .calStepDone s (fun u => u.adc.calStep = none ∧
      u.adc.calRef = true ∧ u.adc.calCause = 6)) ∧
    (∀ k : CalPair, c.full = true → calNewPair s c = some k → exec .calStepDone s = .next (calProgram s k)) := by
  obtain ⟨hz, hfull⟩ := exec_calStepDone h hc hn hf
  refine ⟨fun k h0 hk => ⟨fun hb => ⟨_, (hz k h0 hk).trans (if_neg (by omega)), ?_⟩,
    fun hb => ⟨_, (hz k h0 hk).trans (if_pos hb), ?_⟩⟩, fun h1 hp => ⟨_, (hfull h1).trans (by rw [hp]), ?_⟩,
    fun k h1 hp => (hfull h1).trans (by rw [hp])⟩
  · dsimp only
    rw [post_adc]
    exact ⟨rfl, rfl⟩
  · dsimp only
    rw [calStepRefuse_adc]
    exact ⟨rfl, rfl, rfl, rfl⟩
  · dsimp only
    rw [calStepRefuse_adc]
    exact ⟨rfl, rfl, rfl⟩

-- The end of a program in flash (R470)

theorem exec_flashProgramDone {s v : State} {p : Program} (hp : (flashRun s).flash.prog = some p)
    (hv : v = { flashRun s with flash := { (flashRun s).flash with prog := none } }) :
    (∀ k, k < 2 → exec (.flashProgramDone k) s = .next (flashRun (if p.owner = .cal
      then calWritten (programDone (if k == 0 then v.flashWrite p.addr p.data
        else retire (v.flashWrite p.addr p.data) (sectorOf p.addr) 1) p) true
      else programDone (if k == 0 then v.flashWrite p.addr p.data
        else retire (v.flashWrite p.addr p.data) (sectorOf p.addr) 1) p))) ∧
    exec (.flashProgramDone 2) s = .next (flashRun (if p.owner = .cal
      then calWritten (programFailed (retire (State.flashWrite { v with free := v.free + 1 } p.addr (badUnit v.free))
        (sectorOf p.addr) 1) p) false
      else programFailed (retire (State.flashWrite { v with free := v.free + 1 } p.addr (badUnit v.free))
        (sectorOf p.addr) 1) p)) := by
  subst hv
  refine ⟨fun k hk => ?_, ?_⟩
  · simp only [exec, execFlashProgramDone, hp, hk, if_true, decide_true]
  · simp only [exec, execFlashProgramDone, hp]
    rfl

theorem programDone_cal {s : State} {p : Program} (h : p.owner = .cal) : programDone s p = s ∧ programFailed s p = s := by
  simp only [programDone, programFailed, h, and_self]

theorem injTimeTrigger_answers {s : State} {t : Nat} (h : injTimed s = true) (hd : injDue s = some t) :
    exec .injTimeTrigger s = .next (injTrigger { s.reach t with adc := { s.adc with injNext := s.adc.injNext + 1 } }) := by
  simp only [exec, execInjTimeTrigger, hd]
  rw [if_pos h]
  rfl

/-- Settles O40: each event of the converters, of calibration and of the flash's programs does its work. -/
theorem converterEventsAct : Obligations.ConverterEventsAct := by
  refine ⟨fun t per s v hr hp h0 hf ho ht hv => ?_, fun b x e t r s v hf ho hv => ?_, fun n t w s =>
      ⟨fun hf ho hm hn => ⟨_, if_pos (by simp [hm, hf, ho]), ?_⟩, fun hi hd => injTimeTrigger_answers hi hd⟩,
    fun c s v h hv => ?_, fun c s h hc => ⟨fun hn => calTimeout_completes h hc hn, fun hn hq hp =>
      calStepDone_facts h hc hn ⟨hq, hp⟩⟩,
    fun d s h hs ht => ?_, fun p s v x hp hv hx => ?_⟩
  · have hx := exec_roundStart hr hp h0 hf ho ht
    have hrr : roundReached s t per = { v with adc := { s.adc with roundT := some v.time.line } } := by
      rw [hv]
      unfold roundReached
      simp only [beq_iff_eq]
    rw [hrr] at hx
    exact ⟨fun hi => hx.trans (if_pos hi), fun hi => ⟨_, hx.trans (if_neg (by simp [hi])), rfl, rfl, rfl⟩⟩
  · have hx := exec_conversionEnd b x t hf ho
    rw [← hv] at hx
    have hadc : v.adc = s.adc := by rw [hv]; rfl
    rw [← hadc]
    exact ⟨fun h => hx.trans (by rw [conversion_long b x t h]), fun hl hh he => hx.trans (by rw [conversion_inj x hl hh he]),
      fun hl hi he => hx.trans (by rw [conversion_phase x t hl hi he]),
      fun hl hi ha hb he => hx.trans (by rw [conversion_burst b x t hl hi ha hb he])⟩
  · exact congrArg Chan.sensed (chan_onChan s n (fun c => { c with sensed := w }) hn)
  · subst hv
    exact ⟨fun hk hi hg hs => longBurstStart_completes h hk hi hg hs, fun p d hw hf => (exec_captureDone h hw).1 p d hf,
      fun id hw hf => (exec_captureDone h hw).2 id hf⟩
  · have hx : exec .dacTestDone s =
        .next { s with adc := { s.adc with dac := none, dacDone := (s.adc.dacDone + 1) % 256 } } := by
      simp only [exec, execDacTestDone, h]
      rw [if_pos (by simp [hs, ht])]
    exact ⟨_, hx, rfl, rfl⟩
  · subst hx
    obtain ⟨h01, h2⟩ := exec_flashProgramDone hp hv
    refine ⟨fun hn => ?_, fun hy => ?_⟩
    · rw [h01 0 (by decide), h01 1 (by decide), h2, if_neg hn, if_neg hn, if_neg hn]
      exact ⟨rfl, rfl, rfl⟩
    · rw [h01 0 (by decide), h01 1 (by decide), h2, if_pos hy, if_pos hy, if_pos hy]
      rw [(programDone_cal hy).1, (programDone_cal hy).1, (programDone_cal hy).2]
      exact ⟨rfl, rfl, rfl⟩

end Sys2Proof.Machine
end

section
/-! SUPPORT. SlavePort: the frames of the slave port (R365 to R369) -/

namespace Sys2Proof.Machine

open Sys2Proof

set_option Elab.async false

-- The slave port's frames (R365 to R369)

theorem injFrame_of_none {s : State} (site ofs : Nat) (h : s.inj.armed = none) : injFrame s site ofs = (s, none) := by
  simp [injFrame, h]

theorem slaveFrame_of_none {s : State} (b : List Byte) (h : s.inj.armed = none) : slaveFrame s b = slaveAct s b := by
  simp only [slaveFrame, injFrame_of_none 3 0 h]

theorem exec_slaveRow {s : State} {b : List Byte} (h : pathOpen s .slave = true) :
    (reqOp b = 1 → exec (.slaveRead b) s = .next (slaveFrame s b)) ∧
    (reqOp b = 2 → exec (.slaveWrite b) s = .next (slaveFrame s b)) ∧
    (reqOp b = 3 → exec (.slaveNop b) s = .next (slaveFrame s b)) := by
  have hx (op : Nat) (ho : reqOp b = op) : slaveRow s op b = .next (slaveFrame s b) := if_pos (by simp [slaveServed, h, ho])
  exact ⟨hx 1, hx 2, hx 3⟩

theorem slaveRows_unserved {s : State} {b : List Byte} (h : pathOpen s .slave = false) :
    exec (.slaveRead b) s = .next s ∧ exec (.slaveWrite b) s = .next s ∧ exec (.slaveNop b) s = .next s ∧
      exec (.slaveFrameIgnored b) s = .next s := by
  have hx (op : Nat) : slaveRow s op b = .next s := if_neg (by simp [slaveServed, h])
  refine ⟨hx 1, hx 2, hx 3, ?_⟩
  rw [exec, execSlaveFrameIgnored]
  split
  · exact if_neg (by simp [slaveServed, h])
  · rfl

theorem slaveFrame_run {s : State} {b : List Byte} {rs : Bool} (hi : s.inj.armed = none) (hj : slaveJudge s b = .run rs) :
    slaveFrame s b = slaveEnd (slaveExtra (slaveRun s b rs) b) := by
  rw [slaveFrame_of_none b hi, slaveAct, hj]

theorem slaveFrame_replay {s : State} {b : List Byte} (hi : s.inj.armed = none) (hj : slaveJudge s b = .replay) :
    slaveFrame s b = slaveExtra (slaveReplay s) b := by
  rw [slaveFrame_of_none b hi, slaveAct, hj]

theorem slaveFrame_ignored {s : State} {b : List Byte} {bit : Nat} (hi : s.inj.armed = none)
    (hj : slaveJudge s b = .ignored bit) : slaveFrame s b = slaveIgnore s bit := by
  rw [slaveFrame_of_none b hi, slaveAct, hj]

/-- Behind its reply a request's extra bytes set their flag, and nothing else of what the reply is. -/
theorem slaveExtra_facts (s : State) (b : List Byte) : (slaveExtra s b).ser.lap = s.ser.lap ∧
    (slaveExtra s b).ser.flags = (if reqLen b < b.length then s.ser.flags ||| 4 else s.ser.flags) ∧
    (slaveExtra s b).ser.reply = s.ser.reply ∧ (slaveExtra s b).ser.spOffDue = s.ser.spOffDue := by
  unfold slaveExtra
  split <;> exact ⟨rfl, rfl, rfl, rfl⟩

theorem slaveNop_completes {s : State} {b : List Byte} {rs : Bool} (h : pathOpen s .slave = true) (hi : s.inj.armed = none)
    (hj : slaveJudge s b = .run rs) (ho : reqOp b = 3) (hd : s.ser.spOffDue = false) :
    Completes (.slaveNop b) s (fun u => u.ser.lap = some (byteAt b 1) ∧
      u.ser.flags = (if reqLen b < b.length then 4 else 0) ∧
      u.ser.reply = replyBytes 0 (replyFlags s rs) (byteAt b 1) []) := by
  have hr : slaveRun s b rs = slaveReply s b rs [] := by
    unfold slaveRun
    simp only [ho]
  obtain ⟨h1, h2, h3, h4⟩ := slaveExtra_facts (slaveReply s b rs []) b
  refine ⟨_, ((exec_slaveRow h).2.2 ho).trans (by rw [slaveFrame_run hi hj, hr, slaveEnd_of_not_due (h4.trans hd)]), h1, ?_, h3⟩
  have hf : (slaveReply s b rs []).ser.flags = 0 := rfl
  rw [h2, hf]
  rfl

theorem exec_slaveFrameAbort {s : State} {b : List Byte} (mid : Bool) (h : pathOpen s .slave = true) :
    exec (.slaveFrameAbort b mid) s =
      if 4 ≤ b.length && badHeader b then .next (slaveIgnore s 2)
      else if reqLen b ≤ b.length then .next s
      else .next (slaveIgnore s (if mid then 3 else 2)) := by
  rw [exec, execSlaveFrameAbort, if_neg (by simp [slaveServed, h])]

/-- Settles O41: slave port frames run and form their reply, are ignored, or are aborted. -/
theorem slavePortFramesAct : Obligations.SlavePortFramesAct := by
  refine ⟨fun b s => ⟨fun h => (exec_slaveRow h).1, fun h => (exec_slaveRow h).2.1, fun h => (exec_slaveRow h).2.2,
      slaveRows_unserved⟩,
    fun b rs s h hi => ⟨fun hj => ⟨fun ho => ?_, fun ho => ?_, slaveNop_completes h hi hj⟩, fun hj => ?_⟩,
    fun b bit mid s h => ⟨fun hi hj => ⟨slaveIgnore s bit, ?_, rfl, rfl, rfl⟩,
      fun hl hb => ⟨_, (exec_slaveFrameAbort mid h).trans ((if_neg ?_).trans (if_neg (by omega))), rfl, rfl⟩,
      fun hl hb => ⟨_, (exec_slaveFrameAbort mid h).trans (if_pos (by simp [hl, hb])), rfl, rfl⟩⟩⟩
  · rw [(exec_slaveRow h).1 ho, slaveFrame_run hi hj, slaveRun, ho]
    rfl
  · rw [(exec_slaveRow h).2.1 ho, slaveFrame_run hi hj, slaveRun, ho]
    rfl
  · rw [← slaveFrame_replay hi hj]
    exact exec_slaveRow h
  · simp only [exec, execSlaveFrameIgnored, hj]
    rw [if_pos (by simp [slaveServed, h]), slaveFrame_ignored hi hj]
  · obtain hb | hb := hb
    · simp
      omega
    · simp [hb]

end Sys2Proof.Machine
end

section
/-! SUPPORT. SerialMaster: the jobs of the serial master (R357 to R372) -/

namespace Sys2Proof.Machine

open Sys2Proof

set_option Elab.async false

-- The ends of the serial master's jobs (R357 to R363)

theorem exec_cspTransferEnd {s : State} {j : SerJob} (read : List Byte) (h : s.ser.running = some j) (hm : j ≠ .medium) :
    exec (.cspTransferEnd read) s = .next (serRun (jobDone s j read)) := by
  simp only [exec, execCspTransferEnd, h]

theorem exec_readyTimeout {s : State} {j : SerJob} (sent : Nat) (read : List Byte) (h : s.ser.running = some j)
    (hm : j ≠ .medium) : exec (.readyTimeout sent read) s =
      if csel s j.code 0 4 1 == 0 then .next s
      else .next (jobCut (headCut (countReadyTo s j.code) j sent) read 0x0101) := by
  simp only [exec, execReadyTimeout, h]

theorem exec_dqsTimeout {s : State} {j : SerJob} (read : List Byte) (h : s.ser.running = some j) :
    exec (.dqsTimeout read) s = if j.mode s != 3 || !j.reads then .next s else .next (jobCut s read 0x0102) := by
  simp only [exec, execDqsTimeout, h]

theorem jobCut_of_xfer {s : State} {c m n : Nat} {cmd w : List Byte} {f : Requester} (read : List Byte) (detail : Nat)
    (h : s.ser.running = some (.xfer c m cmd w n f)) :
    jobCut s read detail = serRun (jobFail s (.xfer c m cmd w n f) detail) := by
  have hw : hostWord s read = s := by simp only [hostWord, h]
  simp only [jobCut, hw, h]

theorem hostWord_of_read {s : State} {c m o : Nat} {read : List Byte} (h : s.ser.running = some (.demand c m (some o)))
    (hl : o + 2 ≤ read.length) (hg : s.ser.hostGone = false) :
    (hostWord s read).bus.hd = lineWord read o ∧ (hostWord s read).ser.hostRead = none := by
  have hw : hostWord s read = endRead (blindRead s) (lineWord read o) := by
    simp only [hostWord, h]
    rw [if_pos hl]
  obtain ⟨h1, h2, -⟩ := endRead_facts (blindRead s) (lineWord read o)
  rw [hw]
  exact ⟨h2.trans (if_neg (fun hx => Bool.false_ne_true (hg.symm.trans hx))), h1⟩

-- Prefetch (R358)

theorem exec_prefetchStart {s : State} {l : Nat} (h : s.ser.prefDue = some l) : exec .prefetchStart s =
    if csel s s.bus.xipSel 0 6 1 == 1 && !deviceClass s s.bus.xipSel && s.bus.xipEn &&
        decide (l + 64 < 2 ^ csel s s.bus.xipSel 0 11 5) && !s.ser.lines.any (fun x => x.1 == l + 64) &&
        s.ser.waiting.isEmpty && s.ser.running.isNone
    then .next (startJob { s with ser := { s.ser with prefDue := none } } (.prefetch s.bus.xipSel (l + 64)))
    else .next { s with ser := { s.ser with prefDue := none } } := by
  simp only [exec, execPrefetchStart, h]
  rfl

theorem startJob_prefetch (s : State) (c n : Nat) : (startJob s (.prefetch c n)).ser.running = some (.prefetch c n) ∧
    (startJob s (.prefetch c n)).ser.prefDue = s.ser.prefDue := ⟨rfl, rfl⟩

-- Erases under way (R363)

theorem eraseDone_limit {s : State} {c : Nat} (h : s.ser.erase = some c) (hr : s.ser.hostRead = none) :
    (eraseDone s true).ser.erase = none ∧ (eraseDone s true).ser.eraseLimit = setAt s.ser.eraseLimit c true := by
  have ht (x : State) : (thawCheck x).ser = x.ser := (thawCheck_kept (kp := (· == .ser)) x (Kept.refl _ x) rfl).same .ser rfl
  unfold eraseDone
  simp only [h, ht, hr, if_true, and_self]

theorem exec_erasePoll {s : State} {c : Nat} (h : s.ser.erase = some c)
    (hw : s.ser.waiting.any (fun j => j.rank == 5) = false) (hr : s.ser.running.map SerJob.rank ≠ some 5) :
    exec .erasePoll s = .next (serAdd s (.poll c)) := by
  simp only [exec, execErasePoll, h]
  rw [if_neg (by rw [hw]; simpa using hr)]

theorem exec_eraseTrackLimit {s : State} {c : Nat} (h : s.ser.erase = some c) :
    exec .eraseTrackLimit s = .next (eraseDone (s.reach (s.ser.eraseT + 200000000)) true) := by
  simp only [exec, execEraseTrackLimit, h]

theorem eraseTrackLimit_completes {s : State} {c : Nat} (h : s.ser.erase = some c) (hr : s.ser.hostRead = none) :
    Completes .eraseTrackLimit s (fun u => u.ser.erase = none ∧ u.ser.eraseLimit = setAt s.ser.eraseLimit c true) := by
  have hx (t : Nat) : (eraseDone (s.reach t) true).ser.erase = none ∧
      (eraseDone (s.reach t) true).ser.eraseLimit = setAt s.ser.eraseLimit c true := eraseDone_limit (s := s.reach t) h hr
  exact ⟨_, exec_eraseTrackLimit h, hx _⟩

-- Queued transfers (R372)

theorem exec_cspXfer {s : State} {p : Path} {d : Descriptor} (ha : Accepted s p { d with code := 0x11 }) :
    exec (.cspXfer (.queue p d)) s = .next (xferQueue (posted s p { d with code := 0x11 }) p { d with code := 0x11 }) := by
  rw [exec, execCspXfer, postFrom_eq _ ha]

/-- Settles O42: transfers end or are cut, lines are prefetched, erases polled, queued transfers begin. -/
theorem masterPortEventsAct : Obligations.MasterPortEventsAct := by
  refine ⟨fun j read sent s h hm => ⟨exec_cspTransferEnd read h hm,
      fun hc => (exec_readyTimeout sent read h hm).trans (if_neg (by simpa using hc)),
      fun hc => (exec_readyTimeout sent read h hm).trans (if_pos (by simp [hc])),
      fun h3 hr => (exec_dqsTimeout read h).trans (if_neg (by simp [h3, hr])),
      fun hn => (exec_dqsTimeout read h).trans (if_pos (by simpa using hn))⟩,
    fun c m n detail cmd w read f s => ⟨fun h => jobCut_of_xfer read detail h, fun o h hl hg _ => hostWord_of_read h hl hg⟩,
    fun l c s h hc => ⟨fun h1 h2 h3 h4 h5 h6 h7 => ?_, fun hn => ⟨_, (exec_prefetchStart h).trans (if_neg ?_), rfl⟩⟩,
    fun c s h => ⟨fun hw hr => exec_erasePoll h hw hr, exec_eraseTrackLimit h, eraseTrackLimit_completes h⟩,
    fun p d s q ha hq => ?_⟩
  · subst hc
    exact ⟨_, (exec_prefetchStart h).trans (if_pos (by simp [h1, h2, h3, h4, h5, h6, h7])), rfl, rfl⟩
  · subst hc
    simp only [Bool.and_eq_true, beq_iff_eq, Bool.not_eq_true', List.isEmpty_iff, Option.isNone_iff_eq_none, not_and]
    obtain hn | hn | hn | hn | hn := hn <;> simp [hn]
  · subst hq
    have hx := exec_cspXfer ha
    refine ⟨fun hk => hx.trans ?_, fun hk => hx.trans ?_, fun hk => hx.trans ?_⟩ <;> simp only [xferQueue, hk]

end Sys2Proof.Machine
end

section
/-! SUPPORT. FlashErases: the ends of erases and the queued reads of the flash (R470 to R478) -/

namespace Sys2Proof.Machine

open Sys2Proof

set_option Elab.async false

-- The end of an erase (R473 to R478)

/-- The erase that runs and the bytes of the flash. -/
def erasedCells (s : State) : Option EraseRun × List (Nat × Byte) := (s.flash.erase, s.flash.cells)

theorem addUnits_erasedCells (s : State) (a : Nat) (l : List (List Byte)) : erasedCells (addUnits s a l) = erasedCells s := by
  induction l generalizing s a with
  | nil => rfl
  | cons u r ih => exact (ih _ _).trans rfl

theorem openJournal_erasedCells (s : State) : erasedCells (openJournal s) = erasedCells s := by
  have h (x : State) (n q p : Nat) : erasedCells { x with flash := { x.flash with jUnit := n, jSeq := q, jPass := p } } =
    erasedCells x := rfl
  unfold openJournal
  extract_lets
  exact (h _ _ _ _).trans (addUnits_erasedCells s _ _)

theorem addErase_erasedCells (s : State) (k c : Nat) : erasedCells (addErase s k c) = erasedCells s := rfl

/-- The state of the journal in which a record finds room. -/
def journalRoom (s : State) : State :=
  if s.flash.jUnit == 128 || s.flash.dead.contains (848 + s.flash.jSector) then
    let k := nextJournal s s.flash.jSector
    let s := openJournal { s with flash := { s.flash with jSector := k, jUnit := 0 } }
    addErase s (848 + nextJournal s k) 0
  else if s.flash.jUnit == 0 then openJournal s else s

theorem journalRoom_erasedCells (s : State) : erasedCells (journalRoom s) = erasedCells s := by
  unfold journalRoom
  split
  · have h (k : Nat) : erasedCells { s with flash := { s.flash with jSector := k, jUnit := 0 } } = erasedCells s := rfl
    extract_lets k s1
    exact (addErase_erasedCells _ _ _).trans ((openJournal_erasedCells _).trans (h k))
  · split
    · exact openJournal_erasedCells s
    · rfl

/-- A record of the journal, once it has room. -/
def journalRecord (s : State) (owner : ProgOwner) (kind : Nat) (payload : List Byte) : State :=
  let a := (848 + s.flash.jSector) * 4096 + 32 * s.flash.jUnit
  let s := addProgram s owner 2 a (shortUnit kind 0 s.flash.jSeq payload)
  { s with flash := { s.flash with jUnit := s.flash.jUnit + 1, jSeq := s.flash.jSeq + 1 } }

theorem journal_eq (s : State) (o : ProgOwner) (k : Nat) (l : List Byte) :
    journal s o k l = journalRecord (journalRoom s) o k l := by
  unfold journal journalRecord journalRoom
  rfl

theorem journalRecord_erasedCells (s : State) (o : ProgOwner) (k : Nat) (l : List Byte) :
    erasedCells (journalRecord s o k l) = erasedCells s := by
  unfold journalRecord
  extract_lets a s1
  rfl

/-- A record in the journal is a program asked for: no erase and no byte of flash changes with it. -/
theorem journal_erasedCells (s : State) (o : ProgOwner) (k : Nat) (l : List Byte) :
    erasedCells (journal s o k l) = erasedCells s := by
  rw [journal_eq, journalRecord_erasedCells, journalRoom_erasedCells]

theorem thawCheck_flash (s : State) : (thawCheck s).flash = s.flash :=
  (thawCheck_kept (kp := (· == .flash)) s (Kept.refl _ s) rfl).same .flash rfl

theorem cellsGet_filter {α : Type} (m : List (Nat × α)) (p : Nat → Bool) (a : Nat) (d : α) (h : p a = false) :
    cellsGet (m.filter (fun c => p c.1)) a d = d := by
  induction m with
  | nil => rfl
  | cons c r ih =>
    rw [List.filter_cons]
    split
    · next hc =>
      have hne : c.1 ≠ a := by
        rintro rfl
        exact Bool.false_ne_true (h.symm.trans hc)
      exact (if_neg hne).trans ih
    · exact ih

/-- An erase that ends leaves none running, and its sector erased where it was verified or slow. -/
theorem eraseEnd_facts (e : EraseRun) (st : Nat) (v : State) : (eraseEnd v e st).flash.erase = none ∧
    (st < 2 → ∀ a : Nat, a / 4096 = e.sector → flashCell (eraseEnd v e st) a = 0xFF) := by
  unfold eraseEnd
  extract_lets ms src s1 s2
  have h2 : s2.flash = (if st < 2 then s1.flashClear e.sector else s1).flash := thawCheck_flash _
  have hj := journal_erasedCells s2 (.eraseEnd e.sector st) 0x11 (leBytes 2 e.sector ++ [byte st] ++ leBytes 2 ms)
  have hc := congrArg Prod.snd hj
  refine ⟨(congrArg Prod.fst hj).trans ?_, fun hs a ha => ?_⟩
  · show s2.flash.erase = none
    rw [h2]
    split <;> rfl
  · have hcells : s2.flash.cells = s1.flash.cells.filter (fun c => c.1 / 4096 != e.sector) := by
      rw [h2, if_pos hs]
      rfl
    rw [flashCell, show FlashState.cells _ = _ from hc.trans hcells]
    exact cellsGet_filter s1.flash.cells (fun k => k / 4096 != e.sector) a 0xFF (by simp [ha])

theorem exec_eraseResume {s : State} {e : EraseRun} {u v : Nat} (h : s.flash.erase = some e) (hu : e.susp = some u)
    (hv : v = reachLine s.time.line (Nat.min (e.lastAcc + 2000) (u + 20000))) :
    exec .eraseResume s = .next (flashRun { s.reach (Nat.min (e.lastAcc + 2000) (u + 20000)) with
      flash := { s.flash with
        erase := some { e with susp := none, suspNs := e.suspNs + (v - u), noSusp := v + 20000 } } }) := by
  simp only [exec, execEraseResume, h, hu]
  generalize Nat.min (e.lastAcc + 2000) (u + 20000) = t at *
  rw [hv, State.reach_time]
  rfl

theorem exec_flashRead {s : State} {p : Path} {d : Descriptor} (ha : Accepted s p { d with code := 0x12 }) :
    exec (.flashRead (.queue p d)) s =
      .next (flashReadQueue (posted s p { d with code := 0x12 }) p { d with code := 0x12 }) := by
  rw [exec, execFlashRead, postFrom_eq _ ha]

/-- Settles O43: an erase ends verified, slow, aborted or cut off, resumes, and a queued FLASH_READ reads. -/
theorem flashErasesEnd : Obligations.FlashErasesEnd := by
  refine ⟨fun e t s h => ⟨fun hs => ?_, fun hs => ?_, ?_, fun hp => ?_, fun u v hu hv => ?_⟩, fun e st v => eraseEnd_facts e st v,
    fun p d s w ha hw => ⟨fun hc hr => ?_, fun hr => ?_⟩⟩
  · simp only [exec, execFlashEraseEnd, h]
    rw [if_neg (by simp [hs])]
  · simp only [exec, execFlashEraseEnd, h]
    rw [if_pos (by simpa [Option.isSome_iff_ne_none] using hs)]
  · simp only [exec, execFlashEraseAbort, h]
  · simp only [exec, execEraseCutoff, h]
    rw [if_pos hp]
  · exact exec_eraseResume h hu hv
  · subst hw
    rw [exec_flashRead ha, flashReadQueue]
    dsimp only
    rw [if_neg (by simp [hr]), if_neg (by simp [hc])]
    rfl
  · rw [exec_flashRead ha, flashReadQueue]
    dsimp only
    rw [if_pos (by simp [hr])]

end Sys2Proof.Machine
end

section
/-! SUPPORT. BoundaryScan: the TAP instructions and the owner key (R450) -/

namespace Sys2Proof.Machine

open Sys2Proof

set_option Elab.async false

theorem tapIns_of_bench {s : State} (i : TapIns) (h : s.mode.role = .bench) : tapIns s i = i := by simp [tapIns, h]

theorem tapIns_of_not_bench {s : State} (i : TapIns) (h : s.mode.role ≠ .bench) : tapIns s i = .bypass := by
  simp [tapIns, h]

/-- The state in which a provisioning of the owner key is judged: the instruction selected and its status captured. -/
def otpTaken (s : State) : State := { setTapIns s .otpOwner with tap := { s.tap with ins := .otpOwner, otp := otpCapture s } }

theorem exec_otpOwner_of_bench {s : State} (data : BitVec 288) (h : s.mode.role = .bench) :
    exec (.otpOwner data) s = .next (otpUpdate (otpTaken s) data) := by
  rw [exec, execOtpOwner, tapIns_of_bench _ h]
  rfl

/-- An owner key that is held, or being programmed, is never written again (R450). -/
theorem otpUpdate_of_held {s : State} (data : BitVec 288) (h : s.sec.owk ≠ none ∨ s.sec.otpKey ≠ none) :
    otpUpdate s data = { s with sec := { s.sec with otpRefused := true } } := by
  rw [otpUpdate, if_neg]
  rcases h with h | h <;> simp [h]

/-- Settles O44: the TAP's instructions by role, and the owner key that is provisioned once. -/
theorem boundaryScanActs : Obligations.BoundaryScanActs := by
  refine ⟨fun l c s => ⟨fun h => ?_, fun h => ?_, ⟨_, rfl, rfl, rfl, rfl⟩, ⟨_, rfl, rfl⟩, ⟨_, rfl, rfl⟩⟩,
    fun data s hb ho => ?_, fun data s hb ho hk => ⟨fun hc => ?_, fun hc => ?_⟩, fun k s hk => ?_⟩
  · refine ⟨⟨_, by rw [exec, execExtest, tapIns_of_bench _ h], rfl, rfl, rfl⟩,
      ⟨_, by rw [exec, execHighz, tapIns_of_bench _ h], rfl⟩, ⟨_, by rw [exec, execClamp, tapIns_of_bench _ h], rfl⟩⟩
  · refine ⟨⟨_, by rw [exec, execExtest, tapIns_of_not_bench _ h], rfl⟩,
      ⟨_, by rw [exec, execHighz, tapIns_of_not_bench _ h], rfl⟩,
      ⟨_, by rw [exec, execClamp, tapIns_of_not_bench _ h], rfl⟩,
      fun data => ⟨setTapIns s .bypass, by rw [exec, execOtpOwner, tapIns_of_not_bench _ h], rfl, rfl⟩⟩
  · have hx := exec_otpOwner_of_bench data hb
    rw [otpUpdate_of_held (s := otpTaken s) data ho] at hx
    exact ⟨_, hx, rfl, rfl, rfl⟩
  · have hx := exec_otpOwner_of_bench data hb
    rw [otpUpdate, if_pos (by simp [otpTaken, setTapIns, ho, hk, hc])] at hx
    exact ⟨_, hx, rfl, rfl, rfl⟩
  · have hx := exec_otpOwner_of_bench data hb
    rw [otpUpdate, if_neg (fun h => hc (beq_iff_eq.mp (Bool.and_eq_true_iff.mp h).2))] at hx
    exact ⟨_, hx, hk, rfl, rfl⟩
  · exact ⟨_, by rw [exec, execOtpProgramDone, hk], rfl, rfl, rfl⟩

end Sys2Proof.Machine
end

section
/-! SUPPORT. PanelKeys: the keys and encoders of the operator panel (R379 to R391) -/

namespace Sys2Proof.Machine

open Sys2Proof

set_option Elab.async false

-- The panel's queue (R385 to R388)

theorem panelPush_panel (s : State) (e : Nat × Int) : (panelPush s e).panel = { s.panel with queue := s.panel.queue ++ [e] } := by
  unfold panelPush
  dsimp only
  split
  · rw [post_panel]
  · rfl

/-- An entry of a key joins the queue where it has room: one place for a release, nine for another. -/
theorem panelKey_of_room {s : State} {kind : Nat} (k : Nat)
    (h : s.panel.queue.length ≤ if kind = 3 then 31 else 23) :
    (panelKey s kind k).panel = { s.panel with queue := s.panel.queue ++ [(kind, (k : Int))] } := by
  have hp : panelKey s kind k = panelPush s (kind, (k : Int)) := by
    unfold panelKey
    dsimp only
    rw [if_pos]
    split at h <;> simp_all <;> omega
  rw [hp, panelPush_panel]

theorem panelKey_of_full {s : State} {kind : Nat} (k : Nat) (hk : kind ≠ 3) (h : 23 < s.panel.queue.length) :
    (panelKey s kind k).panel = { s.panel with ovf := true } := by
  have hp : panelKey s kind k = panelDrop s := by
    unfold panelKey
    dsimp only
    rw [if_neg]
    simp [hk]
    omega
  rw [hp]
  rfl

theorem endJog_panel (s : State) (b : Bool) : (endJog s b).panel = { s.panel with jog := none } := by
  unfold endJog
  split
  · next h => rw [← h]
  · dsimp only
    split
    · rw [post_panel]
      rfl
    · rfl

-- Presses and releases (R379 to R384)

theorem exec_keyPress {s : State} {k : Nat} (first : Bool) (h : scans s = true) (hk : k < 48)
    (hb : keyBit s.panel.keys k = false) : exec (.keyPress k first) s =
      if first then .next { s with panel := { s.panel with
        keys := putKey s.panel.keys k true, heldOver := putKey s.panel.heldOver k true } }
      else .next (if s.panel.host
        then panelKey (armRepeat { s with panel := { s.panel with keys := putKey s.panel.keys k true } } k) 1 k
        else menuEvent (armRepeat { s with panel := { s.panel with keys := putKey s.panel.keys k true } } k) true
          (fun x => menuPress x k)) := by
  rw [exec, execKeyPress, if_neg (by simp [h, hk, hb])]
  rfl

/-- The panel with key k up again. -/
def keyUp (s : State) (k : Nat) : State :=
  { s with panel := { s.panel with
    keys := putKey s.panel.keys k false, heldOver := putKey s.panel.heldOver k false
    deaf := putKey s.panel.deaf k false
    chord := s.panel.chord && !(k == keyAt s 0x12 0 || k == keyAt s 0x10 8)
    repKey := if s.panel.repKey == some k then none else s.panel.repKey } }

/-- The panel with key k up again, and a jog that it held ended. -/
def keyGone (s : State) (k : Nat) : State :=
  if s.panel.jog.isSome && s.panel.jogKey == k then endJog (keyUp s k) true else keyUp s k

theorem keyGone_panel (s : State) (k : Nat) : (keyGone s k).panel.keys = putKey s.panel.keys k false ∧
    (keyGone s k).panel.heldOver = putKey s.panel.heldOver k false ∧ (keyGone s k).panel.queue = s.panel.queue ∧
    (keyGone s k).panel.host = s.panel.host ∧
    (s.panel.jog.isSome = true → s.panel.jogKey = k → (keyGone s k).panel.jog = none) := by
  unfold keyGone
  split
  · rw [endJog_panel]
    exact ⟨rfl, rfl, rfl, rfl, fun _ _ => rfl⟩
  · next h => exact ⟨rfl, rfl, rfl, rfl, fun h1 h2 => absurd (by simp [h1, h2]) h⟩

theorem exec_keyRelease {s : State} {k : Nat} (h : scans s = true) (hk : k < 48) (hb : keyBit s.panel.keys k = true) :
    exec (.keyRelease k) s = .next (if keyBit s.panel.heldOver k then keyGone s k
      else if (keyGone s k).panel.host then panelKey (keyGone s k) 3 k else menuEvent (keyGone s k) false id) := by
  rw [exec, execKeyRelease, if_neg (by simp [h, hk, hb])]
  rfl

theorem keyGone_mode (s : State) (k : Nat) : (keyGone s k).mode = s.mode := by
  unfold keyGone
  split
  · exact endJog_mode (keyUp s k) true
  · rfl

theorem panelKey_same (s : State) (kind k : Nat) : (panelKey s kind k).panel.keys = s.panel.keys ∧
    (panelKey s kind k).panel.jog = s.panel.jog := by
  have h : panelKey s kind k = panelPush s (kind, (k : Int)) ∨ panelKey s kind k = panelDrop s := by
    unfold panelKey
    exact ite_eq_or_eq _ _ _
  obtain h | h := h
  · rw [h, panelPush_panel]
    exact ⟨rfl, rfl⟩
  · rw [h]
    exact ⟨rfl, rfl⟩

theorem menuEvent_of_booting {s : State} (wakes : Bool) (f : State → State) (h : s.mode.bootOk = false) :
    menuEvent s wakes f = s := by
  rw [menuEvent, if_pos (by simp [h])]

theorem keyPress_facts {s : State} {k : Nat} (h : scans s = true) (hk : k < 48) (hb : keyBit s.panel.keys k = false) :
    Completes (.keyPress k true) s (fun u => u.panel.keys = putKey s.panel.keys k true ∧
      u.panel.heldOver = putKey s.panel.heldOver k true ∧ u.panel.queue = s.panel.queue) ∧
    (s.panel.host = true →
      (s.panel.queue.length ≤ 23 → Completes (.keyPress k false) s (fun u => u.panel.keys = putKey s.panel.keys k true ∧
        u.panel.repKey = some k ∧ u.panel.queue = s.panel.queue ++ [(1, (k : Int))])) ∧
      (23 < s.panel.queue.length → Completes (.keyPress k false) s (fun u => u.panel.keys = putKey s.panel.keys k true ∧
        u.panel.queue = s.panel.queue ∧ u.panel.ovf = true))) ∧
    (s.panel.host = false → exec (.keyPress k false) s =
      .next (menuEvent (armRepeat { s with panel := { s.panel with keys := putKey s.panel.keys k true } } k) true
        (fun x => menuPress x k))) := by
  refine ⟨⟨_, exec_keyPress true h hk hb, rfl, rfl, rfl⟩, fun hh => ?_, fun hh => ?_⟩
  · have hx : exec (.keyPress k false) s = .next (panelKey
        (armRepeat { s with panel := { s.panel with keys := putKey s.panel.keys k true } } k) 1 k) :=
      (exec_keyPress false h hk hb).trans (by rw [if_neg Bool.false_ne_true, if_pos hh])
    refine ⟨fun hq => ⟨_, hx, ?_⟩, fun hq => ⟨_, hx, ?_⟩⟩ <;> dsimp only
    · rw [panelKey_of_room k (by exact hq)]
      exact ⟨rfl, rfl, rfl⟩
    · rw [panelKey_of_full k (by decide) (by exact hq)]
      exact ⟨rfl, rfl, rfl⟩
  · exact (exec_keyPress false h hk hb).trans (by rw [if_neg Bool.false_ne_true, if_neg (by simp [hh])])

theorem keyRelease_facts {s : State} {k : Nat} (h : scans s = true) (hk : k < 48) (hb : keyBit s.panel.keys k = true) :
    (s.panel.host = true → keyBit s.panel.heldOver k = false → s.panel.queue.length ≤ 31 →
      Completes (.keyRelease k) s (fun u => u.panel.keys = putKey s.panel.keys k false ∧
        u.panel.queue = s.panel.queue ++ [(3, (k : Int))])) ∧
    (keyBit s.panel.heldOver k = true →
      Completes (.keyRelease k) s (fun u => u.panel.keys = putKey s.panel.keys k false ∧
        u.panel.heldOver = putKey s.panel.heldOver k false ∧ u.panel.queue = s.panel.queue)) ∧
    (s.panel.jog.isSome = true → s.panel.jogKey = k → keyBit s.panel.heldOver k = true ∨ s.mode.bootOk = false →
      Completes (.keyRelease k) s (fun u => u.panel.keys = putKey s.panel.keys k false ∧ u.panel.jog = none)) := by
  have hx := exec_keyRelease h hk hb
  obtain ⟨h1, h2, h3, h4, h5⟩ := keyGone_panel s k
  refine ⟨fun hh ho hq => ⟨_, hx, ?_⟩, fun ho => ⟨_, hx, ?_⟩, fun hj hjk ho => ⟨_, hx, ?_⟩⟩ <;> dsimp only
  · rw [if_neg (by simp [ho]), if_pos (h4.trans hh), panelKey_of_room k (by rw [h3]; exact hq), h3]
    exact ⟨h1, rfl⟩
  · rw [if_pos ho]
    exact ⟨h1, h2, h3⟩
  · obtain ⟨h6, h7⟩ := panelKey_same (keyGone s k) 3 k
    split
    · exact ⟨h1, h5 hj hjk⟩
    · next hn =>
      have hbo : (keyGone s k).mode.bootOk = false := by
        rw [keyGone_mode]
        exact ho.resolve_left hn
      split
      · exact ⟨h6.trans h1, h7.trans (h5 hj hjk)⟩
      · rw [menuEvent_of_booting false id hbo]
        exact ⟨h1, h5 hj hjk⟩

-- Repeats (R383)

/-- The state in which the repeat of a key acts, at its due time. -/
def repeatReached (s : State) : State :=
  { s.reach (repDue s) with panel := { s.panel with repT := repDue s, repOn := true } }

theorem exec_keyRepeat {s : State} {k : Nat} (hr : s.panel.repKey = some k) (h : scans s = true) (hp : repeats s k = true) :
    exec .keyRepeat s = .next (if s.panel.host then panelKey (repeatReached s) 2 k
      else menuEvent (repeatReached s) false (fun x =>
        if k == keyAt s 0x10 8 && keyHeld s k && (s.panel.screen == 4 || s.panel.screen == 5 || s.panel.screen == 6)
        then menuStep x true else x)) := by
  simp only [exec, execKeyRepeat, hr]
  rw [if_neg (by simp [h, hp])]
  rfl

theorem keyRepeat_facts {s v : State} {k : Nat} (hr : s.panel.repKey = some k) (h : scans s = true) (hp : repeats s k = true)
    (hv : v = repeatReached s) :
    (s.panel.host = true → s.panel.queue.length ≤ 23 → Completes .keyRepeat s (fun u =>
      u.panel.queue = s.panel.queue ++ [(2, (k : Int))] ∧ u.panel.repT = repDue s ∧
      u.time.line = reachLine s.time.line (repDue s))) ∧
    (s.panel.host = false → k ≠ keyAt s 0x10 8 → exec .keyRepeat s = .next (menuEvent v false (fun x => x))) ∧
    (s.panel.host = false → k = keyAt s 0x10 8 → keyHeld s k = true →
      s.panel.screen = 4 ∨ s.panel.screen = 5 ∨ s.panel.screen = 6 →
      exec .keyRepeat s = .next (menuEvent v false (fun x => menuStep x true))) := by
  have hx := exec_keyRepeat hr h hp
  subst hv
  refine ⟨fun hh hq => ⟨_, hx, ?_⟩, fun hh hn => hx.trans ?_, fun hh hk hd hs => hx.trans ?_⟩
  · have ht : (panelKey (repeatReached s) 2 k).time = (repeatReached s).time :=
      (panelKey_kept (kp := (· == .time)) _ 2 k (Kept.refl _ _) rfl rfl rfl).same .time rfl
    dsimp only
    rw [if_pos hh, panelKey_of_room k (by exact hq), ht]
    exact ⟨rfl, rfl, congrArg TimeState.line (State.reach_time s _)⟩
  · rw [if_neg (by simp [hh]), show (k == keyAt s 0x10 8) = false by simpa using hn]
    rfl
  · have hc : (k == keyAt s 0x10 8 && keyHeld s k &&
        (s.panel.screen == 4 || s.panel.screen == 5 || s.panel.screen == 6)) = true := by
      rw [hd]
      obtain hs | hs | hs := hs <;> simp [← hk, hs]
    rw [if_neg (by simp [hh]), hc]
    rfl

-- The encoders (R389 to R391)

theorem exec_encTransition {s : State} {e new ph d : Nat} {t : Int} {up a b : Bool} (h : scans s = true) (he : e < 2)
    (hn : new = 2 * b2n a + b2n b) (hp : ph = if e = 0 then s.panel.phase0 else s.panel.phase1)
    (hd : d = (phasePlace new + 4 - phasePlace ph) % 4) (hu : up = ((d == 1) != cfgB s 0xB 6 (2 + 8 * e)))
    (ht : t = (if e = 0 then s.panel.t0 else s.panel.t1) + (if up then 1 else -1)) (hne : new ≠ ph) :
    exec (.encTransition e a b) s = .next (if d = 2 then encSet s e new 0 true
      else if t = encTpd s e then encCount (encSet s e new 0 false) e true
      else if t = -encTpd s e then encCount (encSet s e new 0 false) e false
      else encSet s e new t false) := by
  have ht' : (if up then (if e = 0 then s.panel.t0 else s.panel.t1) + 1 else (if e = 0 then s.panel.t0 else s.panel.t1) - 1) =
      t := by
    rw [ht]
    cases up <;> rfl
  rw [exec, execEncTransition]
  simp only [beq_iff_eq, ← hn, ← hp]
  rw [if_neg (by simp [h, hne]; omega)]
  simp only [← hd, ← hu, ht', apply_ite Host.Outcome.next]

theorem encTransition_same {s : State} {e new ph : Nat} {a b : Bool} (hn : new = 2 * b2n a + b2n b)
    (hp : ph = if e = 0 then s.panel.phase0 else s.panel.phase1) (hs : new = ph) :
    exec (.encTransition e a b) s = .next s := by
  rw [exec, execEncTransition]
  simp only [beq_iff_eq, ← hn, ← hp]
  rw [if_pos (by simp [hs])]

theorem panelCount_positions (s : State) (kind : Nat) (d : Int) : (panelCount s kind d).panel.pos0 = s.panel.pos0 ∧
    (panelCount s kind d).panel.pos1 = s.panel.pos1 := by
  have hf : (if s.panel.queue.length < 24 then panelPush s (kind, d) else panelDrop s).panel.pos0 = s.panel.pos0 ∧
      (if s.panel.queue.length < 24 then panelPush s (kind, d) else panelDrop s).panel.pos1 = s.panel.pos1 := by
    split
    · rw [panelPush_panel]
      exact ⟨rfl, rfl⟩
    · exact ⟨rfl, rfl⟩
  unfold panelCount
  dsimp only
  split
  · split
    · exact ⟨rfl, rfl⟩
    · exact hf
  · exact hf

theorem encCount_positions {v : State} (up : Bool) (h : v.panel.host = true) :
    (encCount v 0 up).panel.pos0 = (v.panel.pos0 + (if up then 1 else 255)) % 256 ∧
    (encCount v 1 up).panel.pos1 = (v.panel.pos1 + (if up then 1 else 255)) % 256 := by
  have h0 : encCount v 0 up = panelCount { v with panel := { v.panel with
      pos0 := (v.panel.pos0 + (if up then 1 else 255)) % 256 } } 4 (if up then 1 else -1) := by
    unfold encCount
    exact if_pos h
  have h1 : encCount v 1 up = panelCount { v with panel := { v.panel with
      pos1 := (v.panel.pos1 + (if up then 1 else 255)) % 256 } } 5 (if up then 1 else -1) := by
    unfold encCount
    exact if_pos h
  rw [h0, h1, (panelCount_positions _ _ _).1, (panelCount_positions _ _ _).2]
  exact ⟨rfl, rfl⟩

/-- Settles O45: key presses, releases and repeats, and the encoders' transitions, act on queue, menu and position. -/
theorem panelCommandsAct : Obligations.PanelCommandsAct := by
  refine ⟨fun k s v h hk hb hv => hv ▸ keyPress_facts h hk hb, fun k s h hk hb => keyRelease_facts h hk hb,
    fun k s v hr h hp hv => keyRepeat_facts hr h hp hv, fun e new ph d t up a b s h he hn hp hd hu ht => ?_,
    fun ph t up err v => ⟨rfl, rfl, rfl, rfl, rfl, rfl, encCount_positions up⟩⟩
  have hx := exec_encTransition h he hn hp hd hu ht
  exact ⟨encTransition_same hn hp, fun hne h2 => (hx hne).trans (by rw [if_pos h2]),
    fun hne h2 h3 => (hx hne).trans (by rw [if_neg h2, if_pos h3]),
    fun hne h2 h3 h4 => (hx hne).trans (by rw [if_neg h2, if_neg h3, if_pos h4]),
    fun hne h2 h3 h4 => (hx hne).trans (by rw [if_neg h2, if_neg h3, if_neg h4])⟩

end Sys2Proof.Machine
end

section
/-! SUPPORT. PanelScreen: the frames, registers and times of the operator panel (R376 to R404) -/

namespace Sys2Proof.Machine

open Sys2Proof

set_option Elab.async false

-- The panel's frames (R376 to R378, R392)

/-- What a frame shows, once the panel's user is settled. -/
def frameShown (s : State) : State :=
  let b := memBytes s.mem (apertureBase + cfgF s 0xB 9 0 19) 8
  lightFrame
    (if s.panel.host then { s with panel := { s.panel with digits := b.take 6, blink := byteAt b 6 % 64 } }
     else if s.mode.bootOk then s
     else { s with panel := { s.panel with digits := segBoot, blink := 0 } })

theorem exec_panelFrame {s : State} (h : scans s = true) :
    exec .panelFrame s = .next (frameShown (panelMode s (s.panel.hostReq && s.mode.mode != .minimal))) := by
  rw [exec, execPanelFrame, if_neg (by simp [h])]
  rfl

theorem lightFrame_lit (s : State) : (lightFrame s).panel.lit =
    mapFrom 0 (fun d b => if s.panel.blank || blinkDark (lightFrame s) d then 0 else b) (lightFrame s).panel.digits := by
  have h (d : Nat) : blinkDark (lightFrame s) d = blinkDark s d := rfl
  simp only [h]
  rfl

theorem frameShown_host {s : State} (h : s.panel.host = true) :
    (frameShown s).panel.digits = (memBytes s.mem (apertureBase + cfgF s 0xB 9 0 19) 8).take 6 ∧
    (frameShown s).panel.blink = byteAt (memBytes s.mem (apertureBase + cfgF s 0xB 9 0 19) 8) 6 % 64 ∧
    (frameShown s).panel.onTime = (brightNow s + 1) * 15 ∧
    (frameShown s).panel.lit = mapFrom 0 (fun d b => if s.panel.blank || blinkDark (frameShown s) d then 0 else b)
      (frameShown s).panel.digits := by
  have hx : frameShown s = lightFrame { s with panel := { s.panel with
      digits := (memBytes s.mem (apertureBase + cfgF s 0xB 9 0 19) 8).take 6
      blink := byteAt (memBytes s.mem (apertureBase + cfgF s 0xB 9 0 19) 8) 6 % 64 } } := by
    unfold frameShown
    exact congrArg lightFrame (if_pos h)
  rw [hx]
  exact ⟨rfl, rfl, rfl, lightFrame_lit _⟩

theorem frameShown_booting {s : State} (h : s.panel.host = false) (hb : s.mode.bootOk = false) :
    (frameShown s).panel.digits = segBoot ∧ (frameShown s).panel.blink = 0 ∧
      (frameShown s).panel.onTime = (brightNow s + 1) * 15 := by
  have hx : frameShown s = lightFrame { s with panel := { s.panel with digits := segBoot, blink := 0 } } := by
    unfold frameShown
    exact congrArg lightFrame ((if_neg (by simp [h])).trans (if_neg (by simp [hb])))
  rw [hx]
  exact ⟨rfl, rfl, rfl⟩

theorem frameShown_menu {s : State} (h : s.panel.host = false) (hb : s.mode.bootOk = true) :
    (frameShown s).panel.digits = s.panel.digits ∧ (frameShown s).panel.blink = s.panel.blink ∧
      (frameShown s).panel.onTime = (brightNow s + 1) * 15 := by
  have hx : frameShown s = lightFrame s := by
    unfold frameShown
    exact congrArg lightFrame ((if_neg (by simp [h])).trans (if_pos hb))
  rw [hx]
  exact ⟨rfl, rfl, rfl⟩

/-- A frame changes only what the panel shows. -/
theorem frameShown_same (s : State) : (frameShown s).panel.host = s.panel.host ∧ (frameShown s).panel.queue = s.panel.queue ∧
    (frameShown s).panel.repKey = s.panel.repKey ∧ (frameShown s).panel.t0 = s.panel.t0 ∧
    (frameShown s).panel.t1 = s.panel.t1 ∧ (frameShown s).panel.screen = s.panel.screen := by
  unfold frameShown lightFrame
  dsimp only
  split
  · exact ⟨rfl, rfl, rfl, rfl, rfl, rfl⟩
  · split <;> exact ⟨rfl, rfl, rfl, rfl, rfl, rfl⟩

theorem panelMode_same {s : State} {host : Bool} (h : s.panel.host = host) : panelMode s host = s := by
  rw [panelMode, if_pos (by simp [h])]

theorem gotoScreen_facts (s : State) (n : Nat) : (gotoScreen s n).panel.screen = n ∧ (gotoScreen s n).panel.sel = 0 ∧
    (gotoScreen s n).time = s.time :=
  ⟨rfl, rfl, (gotoScreen_kept (kp := (· == .time)) s n (Kept.refl _ s) rfl rfl rfl rfl).same .time rfl⟩

/-- A change of the panel's user clears queue, repeat and part-counts. -/
theorem panelMode_change {s : State} {host : Bool} (h : s.panel.host ≠ host) : (panelMode s host).panel.host = host ∧
    (panelMode s host).panel.queue = [] ∧ (panelMode s host).panel.repKey = none ∧ (panelMode s host).panel.t0 = 0 ∧
    (panelMode s host).panel.t1 = 0 ∧
    (host = false → (panelMode s host).panel.screen = if s.mode.bootOk then 0 else 0xF) := by
  unfold panelMode
  rw [if_neg (by simpa using h)]
  cases host
  · exact ⟨rfl, rfl, rfl, rfl, rfl, fun _ => rfl⟩
  · exact ⟨rfl, rfl, rfl, rfl, rfl, fun hx => absurd hx (by decide)⟩

theorem panelFrame_facts {s : State} (h : scans s = true) :
    (s.panel.host = true → s.panel.hostReq = true → s.mode.mode ≠ .minimal → Completes .panelFrame s (fun u =>
      u.panel.digits = (memBytes s.mem (apertureBase + cfgF s 0xB 9 0 19) 8).take 6 ∧
      u.panel.blink = byteAt (memBytes s.mem (apertureBase + cfgF s 0xB 9 0 19) 8) 6 % 64 ∧
      u.panel.onTime = (brightNow s + 1) * 15 ∧
      u.panel.lit = mapFrom 0 (fun d b => if s.panel.blank || blinkDark u d then 0 else b) u.panel.digits)) ∧
    (s.panel.host = false → s.panel.hostReq = false ∨ s.mode.mode = .minimal → s.mode.bootOk = false →
      Completes .panelFrame s (fun u => u.panel.digits = segBoot ∧ u.panel.blink = 0 ∧
        u.panel.onTime = (brightNow s + 1) * 15)) ∧
    (s.panel.host = false → s.panel.hostReq = false ∨ s.mode.mode = .minimal → s.mode.bootOk = true →
      Completes .panelFrame s (fun u => u.panel.digits = s.panel.digits ∧ u.panel.blink = s.panel.blink ∧
        u.panel.onTime = (brightNow s + 1) * 15)) ∧
    (s.panel.host = false → s.panel.hostReq = true → s.mode.mode ≠ .minimal → Completes .panelFrame s (fun u =>
      u.panel.host = true ∧ u.panel.queue = [] ∧ u.panel.repKey = none ∧ u.panel.t0 = 0 ∧ u.panel.t1 = 0)) ∧
    (s.panel.host = true → s.panel.hostReq = false ∨ s.mode.mode = .minimal → Completes .panelFrame s (fun u =>
      u.panel.host = false ∧ u.panel.queue = [] ∧ u.panel.repKey = none ∧
      u.panel.screen = (if s.mode.bootOk then 0 else 0xF))) := by
  have hx := exec_panelFrame h
  have hreq (hr : s.panel.hostReq = true) (hm : s.mode.mode ≠ .minimal) :
      (s.panel.hostReq && s.mode.mode != .minimal) = true := by simp [hr, hm]
  have hno (hr : s.panel.hostReq = false ∨ s.mode.mode = .minimal) :
      (s.panel.hostReq && s.mode.mode != .minimal) = false := by
    obtain hr | hr := hr <;> simp [hr]
  refine ⟨fun hh hr hm => ⟨_, hx, ?_⟩, fun hh hr hb => ⟨_, hx, ?_⟩, fun hh hr hb => ⟨_, hx, ?_⟩,
    fun hh hr hm => ⟨_, hx, ?_⟩, fun hh hr => ⟨_, hx, ?_⟩⟩
  · rw [hreq hr hm, panelMode_same hh]
    exact frameShown_host hh
  · rw [hno hr, panelMode_same hh]
    exact frameShown_booting hh hb
  · rw [hno hr, panelMode_same hh]
    exact frameShown_menu hh hb
  · rw [hreq hr hm]
    obtain ⟨h1, h2, h3, h4, h5, -⟩ := frameShown_same (panelMode s true)
    obtain ⟨g1, g2, g3, g4, g5, -⟩ := panelMode_change (s := s) (host := true) (by simp [hh])
    exact ⟨h1.trans g1, h2.trans g2, h3.trans g3, h4.trans g4, h5.trans g5⟩
  · rw [hno hr]
    obtain ⟨h1, h2, h3, -, -, h6⟩ := frameShown_same (panelMode s false)
    obtain ⟨g1, g2, g3, -, -, g6⟩ := panelMode_change (s := s) (host := false) (by simp [hh])
    exact ⟨h1.trans g1, h2.trans g2, h3.trans g3, h6.trans (g6 rfl)⟩

-- The registers (Table REG-28)

theorem served_panelCtrl {s : State} {p : Path} (f : State → Word) (h : pathOpen s p = true) (hm : s.mode.mode ≠ .minimal) :
    (served s p (fun s v => regPanelCtrl s v (f s))).panel.hostReq = bitOf (f (hostAccess s p)) 0 ∧
    (served s p (fun s v => regPanelCtrl s v (f s))).panel.queue =
      if bitOf (f (hostAccess s p)) 1 then [] else s.panel.queue := by
  have hp : (acting s p).panel = s.panel := acting_panel s p
  have hq : (if bitOf (f (hostAccess s p)) 0 then endJog (acting s p) true else acting s p).panel.queue = s.panel.queue := by
    split
    · rw [endJog_panel, hp]
    · rw [hp]
  rw [served, if_pos h, regPanelCtrl, regWrite_eq hm (by simp), if_neg Bool.false_ne_true]
  dsimp only
  exact ⟨rfl, by rw [hq]⟩

theorem hostAccess_panel (s : State) (p : Path) : (hostAccess s p).panel = s.panel :=
  (hostAccess_kept (kp := (· == .panel)) (s0 := s) s p (Kept.refl _ s) rfl rfl).same .panel rfl

theorem panelChange_bits (w : Word) (host : Bool) : bitOf (setBit (w &&& 0x00F4) 0 host) 0 = host ∧
    bitOf (setBit (w &&& 0x00F4) 0 host) 1 = false := by
  cases host <;> simp [bitOf_eq_getLsbD, setBit]

theorem panelClr_bits (w : Word) : bitOf (w &&& 0x00F5 ||| 2) 0 = bitOf w 0 ∧ bitOf (w &&& 0x00F5 ||| 2) 1 = true := by
  simp [bitOf_eq_getLsbD]

theorem panelCtrlWord_host (s : State) : bitOf (panelCtrlWord s) 0 = s.panel.hostReq := by
  have h : (panelCtrlWord s).toNat % 2 = b2n s.panel.hostReq := by
    have hm : (panelCtrlWord s).toNat % 256 = _ := pack_mod (b2n s.panel.hostReq) 0 _
    rw [pack_mod, pack_mod, pack_mod, pack_mod_of_high _ _ (by decide), pack] at hm
    have h0 : (0 : Word).toNat = 0 := rfl
    have hb : b2n s.panel.hostReq < 2 := by cases s.panel.hostReq <;> decide
    rw [h0] at hm
    omega
  rw [bitOf, pow_zero, Nat.div_one, h]
  cases s.panel.hostReq <;> rfl

theorem looked_panel (s : State) (p : Path) : (looked s p).panel = s.panel :=
  (endCapture_kept (kp := (· == .panel)) (s0 := s) _ p (hostAccess_kept s p (Kept.refl _ s) rfl rfl) rfl).same .panel rfl

theorem readOut_panel (p : Path) (u : State) (w : Word) : (readOut p u w).panel = u.panel := by
  cases p <;> rfl

theorem panelEvtRead_completes {s u : State} {p : Path} {w : Word} (h : pathOpen s p = true)
    (hr : readPanelEvt (looked s p) (accNow s p) = (u, w)) :
    Completes (.panelEvtRead p) s (fun t => (p = .host → t.bus.hd = w) ∧ t.panel.queue = u.panel.queue) := by
  have hx : exec (.panelEvtRead p) s = .next (readOut p u w) := by
    rw [exec, execPanelEvtRead, servedRead_of_open h, hr]
  exact ⟨_, hx, readOut_hd p u w, congrArg PanelState.queue (readOut_panel p u w)⟩

theorem readPanelEvt_host {s : State} {v : Acc} (hm : v.mode ≠ .minimal) (hh : s.panel.host = true) :
    (∀ (k : Nat) (d : Int) (r : List (Nat × Int)), s.panel.queue = (k, d) :: r → readPanelEvt s v =
      ({ s with panel := { s.panel with queue := r } }, pack [((iword d).toNat % 64, 0), (k, 8)])) ∧
    (s.panel.queue = [] → readPanelEvt s v = (s, 0)) := by
  refine ⟨fun k d r hq => ?_, fun hq => ?_⟩ <;> rw [readPanelEvt, if_neg (by simp [hm, hh]), hq]

theorem readPanelEvt_menu {s : State} (v : Acc) (hh : s.panel.host = false) : readPanelEvt s v = (s, 0) := by
  rw [readPanelEvt, if_pos (by simp [hh])]

-- The menu's times and the jog's limit (R399, R400, R404)

theorem menuCheck_mode (s : State) : (menuCheck s).mode = s.mode :=
  (menuCheck_kept (kp := (· == .mode)) s (Kept.refl _ s) rfl rfl rfl rfl).same .mode rfl

theorem menuIdle_completes {s : State} (h : menuRuns s = true) : Completes .menuIdle s (fun u => u.panel.screen = 0 ∧
    u.panel.sel = 0 ∧ u.time.line = reachLine s.time.line (s.panel.lastT + 1000000000 * cfgF s 0xB 0x14 0 8)) := by
  have hx : exec .menuIdle s = .next (gotoScreen (s.reach (s.panel.lastT + 1000000000 * cfgF s 0xB 0x14 0 8)) 0) := by
    rw [exec, execMenuIdle, if_pos h]
  refine ⟨_, hx, ?_⟩
  generalize s.panel.lastT + 1000000000 * cfgF s 0xB 0x14 0 8 = t
  obtain ⟨h1, h2, h3⟩ := gotoScreen_facts (s.reach t) 0
  exact ⟨h1, h2, congrArg TimeState.line (h3.trans (State.reach_time s t))⟩

theorem menuRefresh_completes {s v : State} (h : menuRuns s = true) (hv : v = { menuCheck s with panel :=
      { (menuCheck s).panel with chord := (menuCheck s).panel.chord && updReady (menuCheck s) } }) :
    Completes .menuRefresh s (fun u => u.panel.screen = (menuCheck s).panel.screen ∧ u.panel.digits = menuDigits v ∧
      u.panel.blink = (if (menuCheck s).panel.screen = 0 ∧ s.mode.mode = .safe then 0x30 else 0)) := by
  have hx : exec .menuRefresh s = .next { v with panel := { v.panel with
      digits := menuDigits v
      blink := if v.panel.screen == 0 && v.mode.mode == .safe then 0x30 else 0 } } := by
    rw [exec, execMenuRefresh, if_pos h, hv]
  refine ⟨_, hx, ?_⟩
  have hm : v.mode = s.mode := by
    rw [hv]
    exact menuCheck_mode s
  have hs : v.panel.screen = (menuCheck s).panel.screen := by rw [hv]
  dsimp only
  rw [hm, hs]
  simp

theorem jogTimeout_completes {s : State} (h : s.panel.jog.isSome = true) : Completes .jogTimeout s (fun u =>
    u.panel.jog = none ∧ u.time.line = reachLine s.time.line (s.panel.jogT + 1000000000 * cfgF s 0xB 0x13 8 8)) := by
  have hx : exec .jogTimeout s = .next (endJog (s.reach (s.panel.jogT + 1000000000 * cfgF s 0xB 0x13 8 8)) true) := by
    rw [exec, execJogTimeout, if_pos h]
  refine ⟨_, hx, ?_⟩
  generalize s.panel.jogT + 1000000000 * cfgF s 0xB 0x13 8 8 = t
  have ht : (endJog (s.reach t) true).time = (s.reach t).time :=
    (endJog_kept (kp := (· == .time)) (s.reach t) true (Kept.refl _ _) rfl rfl rfl rfl).same .time rfl
  rw [endJog_panel, ht]
  exact ⟨rfl, congrArg TimeState.line (State.reach_time s t)⟩

/-- Settles O46: the panel's frames, registers, menu times and jog limit act. -/
theorem panelScreenAndRegistersAct : Obligations.PanelScreenAndRegistersAct := by
  refine ⟨fun s h => panelFrame_facts h, fun p host k d r s h hm => ⟨⟨_, rfl, ?_⟩, ⟨_, rfl, ?_⟩, fun hh hq => ?_, fun hh hq => ?_,
      fun hh => ?_⟩,
    fun s v h hv => ⟨menuIdle_completes h, menuRefresh_completes h hv⟩, fun s h => jogTimeout_completes h⟩
  · obtain ⟨h1, h2⟩ := served_panelCtrl (fun s => setBit (panelCtrlWord s &&& 0x00F4) 0 host) h hm
    obtain ⟨g1, g2⟩ := panelChange_bits (panelCtrlWord (hostAccess s p)) host
    exact ⟨h1.trans g1, h2.trans (by rw [g2]; rfl)⟩
  · obtain ⟨h1, h2⟩ := served_panelCtrl (fun s => panelCtrlWord s &&& 0x00F5 ||| 2) h hm
    obtain ⟨g1, g2⟩ := panelClr_bits (panelCtrlWord (hostAccess s p))
    exact ⟨h2.trans (by rw [g2]; rfl), h1.trans (g1.trans ((panelCtrlWord_host _).trans
      (congrArg PanelState.hostReq (hostAccess_panel s p))))⟩
  · rw [← looked_panel s p] at hh hq
    exact panelEvtRead_completes h ((readPanelEvt_host (v := accNow s p) hm hh).1 k d r hq)
  · rw [← looked_panel s p] at hh hq
    obtain ⟨u, hu, hd, he⟩ := panelEvtRead_completes h ((readPanelEvt_host (v := accNow s p) hm hh).2 hq)
    exact ⟨u, hu, hd, he.trans hq⟩
  · rw [← looked_panel s p] at hh
    obtain ⟨u, hu, hd, he⟩ := panelEvtRead_completes h (readPanelEvt_menu (accNow s p) hh)
    exact ⟨u, hu, hd, he.trans (congrArg PanelState.queue (looked_panel s p))⟩

end Sys2Proof.Machine
end

section
/-! SUPPORT. TraceRegisters: the trace's read pointers, TRACE_CTRL and the persisted pages (R495 to R504) -/

namespace Sys2Proof.Machine

open Sys2Proof

set_option Elab.async false

-- The read pointers (R495 to R500)

theorem tracePtr_setTracePtr (s : State) (p : Path) (t : TracePtr) : tracePtr (s.setTracePtr p t) p = t := by
  cases p <;> rfl

theorem setTracePtr_ring (s : State) (p : Path) (t : TracePtr) : (s.setTracePtr p t).trace.ring = s.trace.ring ∧
    (s.setTracePtr p t).trace.tseq = s.trace.tseq ∧ (s.setTracePtr p t).trace.persist = s.trace.persist := by
  cases p <;> exact ⟨rfl, rfl, rfl⟩

theorem tracePtr_of_trace {s t : State} (h : t.trace = s.trace) (p : Path) : tracePtr t p = tracePtr s p := by
  cases p <;> simp only [tracePtr, h]

theorem looked_trace (s : State) (p : Path) : (looked s p).trace = s.trace :=
  (endCapture_kept (kp := (· == .trace)) (s0 := s) _ p (hostAccess_kept s p (Kept.refl _ s) rfl rfl) rfl).same .trace rfl

theorem readOut_trace (p : Path) (u : State) (w : Word) : (readOut p u w).trace = u.trace := by
  cases p <;> rfl

theorem traceDataRead_completes {s u : State} {p : Path} {w : Word} (h : pathOpen s p = true)
    (hr : readTraceData (looked s p) (accNow s p) = (u, w)) :
    Completes (.traceDataRead p) s (fun x => (p = .host → x.bus.hd = w) ∧ x.trace = u.trace) := by
  have hx : exec (.traceDataRead p) s = .next (readOut p u w) := by
    rw [exec, execTraceDataRead, servedRead_of_open h, hr]
  exact ⟨_, hx, readOut_hd p u w, readOut_trace p u w⟩

/-- A read that moves the path's pointer to t. -/
theorem traceDataRead_moves {s : State} {p : Path} {t : TracePtr} {w : Word} (h : pathOpen s p = true)
    (hr : readTraceData (looked s p) (accNow s p) = ((looked s p).setTracePtr p t, w)) :
    Completes (.traceDataRead p) s (fun x => (p = .host → x.bus.hd = w) ∧ tracePtr x p = t) := by
  obtain ⟨x, hx, hd, ht⟩ := traceDataRead_completes h hr
  exact ⟨x, hx, hd, (tracePtr_of_trace ht p).trans (tracePtr_setTracePtr _ p t)⟩

theorem readTraceData_none {s : State} {v : Acc} (hi : (tracePtr s v.path).idx = 0)
    (hd : wrap32 s.trace.tseq (2 ^ 32 - (tracePtr s v.path).tseq) = 0) : readTraceData s v = (s, 0) := by
  unfold readTraceData
  simp only [hi, hd]
  rfl

theorem readTraceData_next {s : State} {v : Acc} {d : Nat} {r : TraceRec} (hi : (tracePtr s v.path).idx = 0)
    (hd : d = wrap32 s.trace.tseq (2 ^ 32 - (tracePtr s v.path).tseq)) (h0 : d ≠ 0) (hl : d ≤ s.trace.ring.length)
    (hr : ringRec s d = some r) :
    readTraceData s v = (s.setTracePtr v.path { tracePtr s v.path with idx := 1, capture := some r }, traceWord r 0) := by
  have hlap : decide (s.trace.ring.length < d) = false := by simpa using hl
  unfold readTraceData
  simp only [hi, ← hd, hlap, Bool.or_false]
  rw [if_neg (by simpa using h0)]
  simp [Nat.not_lt.mpr hl, hr]

theorem readTraceData_lapped {s : State} {v : Acc} {d : Nat} {r : TraceRec} (hi : (tracePtr s v.path).idx = 0)
    (hd : d = wrap32 s.trace.tseq (2 ^ 32 - (tracePtr s v.path).tseq)) (hl : s.trace.ring.length < d)
    (hr : ringRec s s.trace.ring.length = some r) :
    readTraceData s v = (s.setTracePtr v.path { tseq := oldestTseq s, idx := 1, capture := some r, lost := true },
      traceWord r 0) := by
  have hlap : decide (s.trace.ring.length < d) = true := by simpa using hl
  unfold readTraceData
  simp only [hi, ← hd, hlap, Bool.or_true]
  rw [if_neg (by simp; omega)]
  simp [hl, hr]

theorem readTraceData_word {s : State} {v : Acc} {r : TraceRec} (h0 : (tracePtr s v.path).idx ≠ 0)
    (hc : (tracePtr s v.path).capture = some r) : readTraceData s v =
      if (tracePtr s v.path).idx == 7 then
        (s.setTracePtr v.path { tracePtr s v.path with tseq := wrap32 (tracePtr s v.path).tseq 1, idx := 0, capture := none },
          traceWord r 7)
      else (s.setTracePtr v.path { tracePtr s v.path with idx := (tracePtr s v.path).idx + 1 },
        traceWord r (tracePtr s v.path).idx) := by
  obtain ⟨n, hn⟩ := Nat.exists_eq_succ_of_ne_zero h0
  unfold readTraceData
  simp only [hc, hn]

theorem traceDataRead_facts {s : State} {p : Path} {t : TracePtr} {d : Nat} {r : TraceRec} (h : pathOpen s p = true)
    (ht : t = tracePtr s p) (hd : d = wrap32 s.trace.tseq (2 ^ 32 - t.tseq)) :
    (t.idx = 0 → d = 0 → Completes (.traceDataRead p) s (fun u => (p = .host → u.bus.hd = 0) ∧ u.trace = s.trace)) ∧
    (t.idx = 0 → d ≠ 0 → d ≤ s.trace.ring.length → ringRec s d = some r →
      Completes (.traceDataRead p) s (fun u => (p = .host → u.bus.hd = traceWord r 0) ∧
        tracePtr u p = { t with idx := 1, capture := some r })) ∧
    (t.idx = 0 → s.trace.ring.length < d → ringRec s s.trace.ring.length = some r →
      Completes (.traceDataRead p) s (fun u => (p = .host → u.bus.hd = traceWord r 0) ∧
        tracePtr u p = { tseq := oldestTseq s, idx := 1, capture := some r, lost := true })) ∧
    (t.idx ≠ 0 → t.idx < 7 → t.capture = some r →
      Completes (.traceDataRead p) s (fun u => (p = .host → u.bus.hd = traceWord r t.idx) ∧
        tracePtr u p = { t with idx := t.idx + 1 })) ∧
    (t.idx = 7 → t.capture = some r →
      Completes (.traceDataRead p) s (fun u => (p = .host → u.bus.hd = traceWord r 7) ∧
        tracePtr u p = { t with tseq := wrap32 t.tseq 1, idx := 0, capture := none })) := by
  have hl := looked_trace s p
  have hp : t = tracePtr (looked s p) (accNow s p).path := ht.trans (tracePtr_of_trace hl p).symm
  have hd' : d = wrap32 (looked s p).trace.tseq (2 ^ 32 - t.tseq) := by rw [hl, hd]
  have hring (n : Nat) : ringRec (looked s p) n = ringRec s n := by simp only [ringRec, hl]
  have hold : oldestTseq (looked s p) = oldestTseq s := by simp only [oldestTseq, hl]
  rw [hp] at *
  refine ⟨fun hi h0 => ?_, fun hi h0 hle hr => ?_, fun hi hlt hr => ?_, fun h0 h7 hc => ?_, fun h7 hc => ?_⟩
  · obtain ⟨u, hu, hw, htr⟩ := traceDataRead_completes h (readTraceData_none hi (hd'.symm.trans h0))
    exact ⟨u, hu, hw, htr.trans hl⟩
  · exact traceDataRead_moves h (readTraceData_next hi hd' h0 (by rw [hl]; exact hle) (by rw [hring]; exact hr))
  · rw [← hold]
    exact traceDataRead_moves h (readTraceData_lapped hi hd' (by rw [hl]; exact hlt) (by rw [hl, hring]; exact hr))
  · exact traceDataRead_moves h ((readTraceData_word h0 hc).trans (if_neg (by simp; omega)))
  · exact traceDataRead_moves h ((readTraceData_word (by omega) hc).trans (if_pos (by simp [h7])))

-- TRACE_CTRL (Table REG-30)

/-- What a write of TRACE_CTRL does behind the path's access. -/
def traceCtrlDone (s : State) (p : Path) (w : Word) : State :=
  let s := setFreeze s (bitOf w 0)
  let t := tracePtr s p
  let t := if bitOf w 4 then { t with lost := false } else t
  let t := if bitOf w 1 then traceSeek t (oldestTseq s) else t
  let t := if bitOf w 2 then traceSeek t (if s.trace.ring.isEmpty then s.trace.tseq else wrap32 s.trace.tseq (2 ^ 32 - 1))
    else t
  let s := s.setTracePtr p t
  if bitOf w 3 then persistStart s else s

theorem regWrite_of_min {s : State} {p : Path} {a : Nat} {core : Bool} {f : State → Done}
    (h : core = true → s.mode.coreReset = false ∧ s.mode.rest = false) :
    regWrite (hostAccess s p) (accNow s p) a true core f = f (acting s p) := by
  cases core
  · simp [regWrite, accNow, acting]
  · obtain ⟨hc, hr⟩ := h rfl
    have hm : (beginWrite (hostAccess s p) p).mode = s.mode := acting_mode s p
    simp [regWrite, accNow, acting, hm, hc, wake_of_rest, hr]

theorem regTraceCtrl_eq {s : State} {p : Path} {w : Word}
    (h : bitOf w 3 = true → s.mode.coreReset = false ∧ s.mode.rest = false) :
    (regTraceCtrl (hostAccess s p) (accNow s p) w).1 = traceCtrlDone (acting s p) p w := by
  rw [regTraceCtrl, regWrite_of_min h]
  rfl

theorem setFreeze_true (s : State) : setFreeze s true = { s with trace := { s.trace with freeze := true } } := by
  simp [setFreeze]

theorem setFreeze_self (s : State) : setFreeze s s.trace.freeze = s := by
  rw [setFreeze, if_neg (by simp)]

theorem putTrace_freeze (s : State) (a c : Byte) (n : Nat) : (putTrace s a c n).trace.freeze = s.trace.freeze := by
  unfold putTrace
  split <;> rfl

theorem setFreeze_false (s : State) : (setFreeze s false).trace.freeze = false := by
  unfold setFreeze
  split
  · exact putTrace_freeze _ _ _ _
  · rfl

/-- The word of TRACE_CTRL that keeps FREEZE as it is and sets bit n. -/
def ctrlKeeping (s : State) (n : Nat) : Word := pack [(b2n s.trace.freeze, 0), (1, n)]

theorem ctrlKeeping_freeze (s : State) {n : Nat} (h : n ∈ [1, 2, 3]) : bitOf (ctrlKeeping s n) 0 = s.trace.freeze := by
  unfold ctrlKeeping
  simp only [List.mem_cons, List.not_mem_nil, or_false] at h
  obtain rfl | rfl | rfl := h <;> cases s.trace.freeze <;> decide

theorem ctrlKeeping_bit (s : State) {n m : Nat} (h : n ∈ [1, 2, 3]) (hm : m ∈ [1, 2, 3, 4]) :
    bitOf (ctrlKeeping s n) m = (m == n) := by
  unfold ctrlKeeping
  simp only [List.mem_cons, List.not_mem_nil, or_false] at h hm
  obtain rfl | rfl | rfl := h <;> obtain rfl | rfl | rfl | rfl := hm <;> cases s.trace.freeze <;> decide

theorem traceCtrlBit_of_open {s : State} {p : Path} {n : Nat} (ho : pathOpen s p = true) (hn : n ∈ [1, 2, 3])
    (h : n = 3 → s.mode.coreReset = false ∧ s.mode.rest = false) :
    traceCtrlBit s p n = traceCtrlDone (acting s p) p (ctrlKeeping (acting s p) n) := by
  have ha : ctrlKeeping (acting s p) n = ctrlKeeping s n := by simp only [ctrlKeeping, acting_trace]
  have hw : ctrlKeeping (hostAccess s p) n = ctrlKeeping s n := by
    have e : (hostAccess s p).trace = s.trace :=
      (hostAccess_kept (kp := (· == .trace)) s p (Kept.refl _ s) rfl rfl).same .trace rfl
    simp only [ctrlKeeping, e]
  have h3 : bitOf (ctrlKeeping s n) 3 = true → s.mode.coreReset = false ∧ s.mode.rest = false := by
    rw [ctrlKeeping_bit s hn (by decide)]
    exact fun e => h (by simpa using Eq.symm (beq_iff_eq.mp e))
  calc traceCtrlBit s p n
      = (regTraceCtrl (hostAccess s p) (accNow s p) (ctrlKeeping (hostAccess s p) n)).1 := by
        rw [traceCtrlBit, served, if_pos ho, ctrlKeeping]
    _ = _ := by rw [hw, ha, regTraceCtrl_eq h3]

theorem traceCtrlDone_keeping (s : State) (p : Path) {n : Nat} (hn : n ∈ [1, 2, 3]) :
    traceCtrlDone s p (ctrlKeeping s n) =
      (let t := tracePtr s p
       let t := if n = 1 then traceSeek t (oldestTseq s) else t
       let t := if n = 2 then traceSeek t (if s.trace.ring.isEmpty then s.trace.tseq else wrap32 s.trace.tseq (2 ^ 32 - 1))
         else t
       if n = 3 then persistStart (s.setTracePtr p t) else s.setTracePtr p t) := by
  unfold traceCtrlDone
  rw [ctrlKeeping_freeze s hn, setFreeze_self]
  simp only [ctrlKeeping_bit s hn, List.mem_cons, true_or, or_true]
  simp only [List.mem_cons, List.not_mem_nil, or_false] at hn
  obtain rfl | rfl | rfl := hn <;> rfl

theorem exec_traceFreeze {s : State} {p : Path} (h : pathOpen s p = true) :
    exec (.traceFreeze p) s =
      .next { acting s p with trace := { (acting s p).trace with freeze := true } } := by
  have hb : bitOf (1 : Word) 0 = true ∧ ∀ n ∈ [1, 2, 3, 4], bitOf (1 : Word) n = false := by decide
  have hw : traceCtrlDone (acting s p) p 1 = setFreeze (acting s p) true := by
    unfold traceCtrlDone
    simp only [hb.1, hb.2 1 (by decide), hb.2 2 (by decide), hb.2 3 (by decide), hb.2 4 (by decide)]
    exact setTracePtr_tracePtr _ p
  rw [exec, execTraceFreeze, served, if_pos h,
    regTraceCtrl_eq (fun e => absurd (e.symm.trans (hb.2 3 (by decide))) (by decide)), hw, setFreeze_true]

theorem exec_traceRd {s : State} {p : Path} (h : pathOpen s p = true) :
    exec (.traceRdOldest p) s = .next ((acting s p).setTracePtr p (traceSeek (tracePtr s p) (oldestTseq s))) ∧
    exec (.traceRdNewest p) s = .next ((acting s p).setTracePtr p (traceSeek (tracePtr s p)
      (if s.trace.ring.isEmpty then s.trace.tseq else wrap32 s.trace.tseq (2 ^ 32 - 1)))) := by
  have hp : tracePtr (acting s p) p = tracePtr s p := tracePtr_of_trace (acting_trace s p) p
  have ho : oldestTseq (acting s p) = oldestTseq s := by simp only [oldestTseq, acting_trace]
  constructor
  · rw [exec, execTraceRdOldest, traceCtrlBit_of_open h (by decide) (fun e => absurd e (by decide)),
      traceCtrlDone_keeping _ p (by decide), ← hp, ← ho]
    rfl
  · rw [exec, execTraceRdNewest, traceCtrlBit_of_open h (by decide) (fun e => absurd e (by decide)),
      traceCtrlDone_keeping _ p (by decide), ← hp, ← acting_trace s p]
    rfl

theorem exec_persist {s : State} {p : Path} (h : pathOpen s p = true) (hc : s.mode.coreReset = false)
    (hr : s.mode.rest = false) : exec (.persist p) s = .next (persistStart (acting s p)) := by
  rw [exec, execPersist, traceCtrlBit_of_open h (by decide) (fun _ => ⟨hc, hr⟩), traceCtrlDone_keeping _ p (by decide)]
  exact congrArg (fun u => Host.Outcome.next (persistStart u)) (setTracePtr_tracePtr _ p)

theorem traceRd_completes {s u : State} {p : Path} {c : Instr} {t : TracePtr} {n : Nat}
    (h : exec c s = .next (u.setTracePtr p (traceSeek t n))) :
    Completes c s (fun x => (tracePtr x p).tseq = n ∧ (tracePtr x p).idx = 0 ∧ (tracePtr x p).capture = none) := by
  refine ⟨_, h, ?_⟩
  dsimp only
  rw [tracePtr_setTracePtr]
  exact ⟨rfl, rfl, rfl⟩

theorem traceCtrl_facts {s : State} {p : Path} (h : pathOpen s p = true) :
    Completes (.traceFreeze p) s (fun u => u.trace.freeze = true ∧ u.trace.ring = s.trace.ring) ∧
    Completes (.traceUnfreeze p) s (fun u => u.trace.freeze = false) ∧
    Completes (.traceRdOldest p) s (fun u => (tracePtr u p).tseq = oldestTseq s ∧ (tracePtr u p).idx = 0 ∧
      (tracePtr u p).capture = none) ∧
    (s.trace.ring ≠ [] → Completes (.traceRdNewest p) s (fun u =>
      (tracePtr u p).tseq = wrap32 s.trace.tseq (2 ^ 32 - 1) ∧ (tracePtr u p).idx = 0)) ∧
    (s.trace.ring = [] → Completes (.traceRdNewest p) s (fun u =>
      (tracePtr u p).tseq = s.trace.tseq ∧ (tracePtr u p).idx = 0)) := by
  obtain ⟨hold, hnew⟩ := exec_traceRd h
  refine ⟨⟨_, exec_traceFreeze h, rfl, by simp only [acting_trace]⟩,
    ⟨_, exec_traceUnfreeze_of_pathOpen h, setFreeze_false _⟩, traceRd_completes hold, fun hne => ?_, fun he => ?_⟩
  · rw [if_neg (by simpa using hne)] at hnew
    obtain ⟨u, hu, ht, hi, -⟩ := traceRd_completes hnew
    exact ⟨u, hu, ht, hi⟩
  · rw [if_pos (by simp [he])] at hnew
    obtain ⟨u, hu, ht, hi, -⟩ := traceRd_completes hnew
    exact ⟨u, hu, ht, hi⟩

theorem persistStart_persist (s : State) : (s.trace.persist = none → s.mode.pwrfail = false →
      (persistStart s).trace.persist = some (s.trace.ring, wrap32 s.trace.tseq (2 ^ 32 - s.trace.ring.length))) ∧
    (s.trace.persist.isSome = true ∨ s.mode.pwrfail = true → persistStart s = s) :=
  ⟨fun hn hp => by simp [persistStart, hn, hp], fun h => if_pos (by simpa using h)⟩

theorem persistDone_of_refused {s : State} (h : s.mode.pwrfail = true ∨ s.mode.logicReset = true ∨ coreRuns s = false) :
    exec .persistDone s = .next s := by
  rw [exec, execPersistDone]
  split
  · exact if_pos (by simpa [or_assoc] using h)
  · rfl

theorem exec_persistDone {s : State} {l : List TraceRec} {f : Nat} (h : s.trace.persist = some (l, f))
    (hp : s.mode.pwrfail = false) (hl : s.mode.logicReset = false) (hc : coreRuns s = true) :
    exec .persistDone s =
      .next (let v := tracePages { s with trace := { s.trace with persist := none, readySector := true } } 8 f l
        putTrace v (softSource v) 0x06
          (s.trace.nextPage % 2 ^ 32 + 2 ^ 32 * (v.trace.nextPage - s.trace.nextPage))) := by
  rw [exec, execPersistDone, h]
  exact if_neg (by simp [hp, hl, hc])

/-- Settles O47: reads, freezes, seeks and persists of the trace (R495 to R504). -/
theorem healthAndTraceAct : Obligations.HealthAndTraceAct := by
  refine ⟨fun d p r t s h ht hd => traceDataRead_facts h ht hd, fun p s h => ?_, fun l f s v h => ?_⟩
  · obtain ⟨h1, h2, h3, h4, h5⟩ := traceCtrl_facts h
    have hk := persistStart_persist (acting s p)
    rw [acting_trace, acting_mode] at hk
    exact ⟨h1, h2, h3, h4, h5, fun hc hr hn hp => ⟨_, exec_persist h hc hr, hk.1 hn hp⟩,
      fun hc hr hw => ⟨_, exec_persist h hc hr, by simp only [hk.2 hw, acting_trace]⟩⟩
  · exact ⟨fun hp hl hc hv => hv ▸ exec_persistDone h hp hl hc, persistDone_of_refused⟩

end Sys2Proof.Machine
end

section
/-! SUPPORT. Injection: INJ_CTRL's DISARM beside a TARGET beyond its field (R510) -/

namespace Sys2Proof.Machine

open Sys2Proof

set_option Elab.async false

/-- An armed injector of the state below. -/
def armedOnce : Armed :=
  { target := 0, action := 0, once := true, n := 0, ofs := 0, bit := 0, type := 0, count := 0, until_ := 0, eligible := 0,
    sealed := false }

/-- The line is served in SETUP, an injector is armed, and TARGET holds 64, which its 2 bits cannot. -/
def wideTarget : State :=
  { State.reset with mode := { logicReset := false }, inj := { target := 64, armed := some armedOnce } }

/-- INJ_DISARM writes TARGET back beside DISARM, bit 6: a TARGET of 64 carries DISARM into bit 7. -/
theorem disarmWord_of_wideTarget : (pack [(wideTarget.inj.target, 0), (wideTarget.inj.action, 2),
    (b2n wideTarget.inj.once, 4), (1, 6)] : Word) = 0x0080 := by
  decide

theorem wideTarget_injDisarm :
    exec (.injDisarm .line) wideTarget = .next (regInjCtrl wideTarget (accNow wideTarget .line) 0x0080).1 := by
  have hopen : pathOpen wideTarget .line = true := rfl
  rw [exec, execInjDisarm, served, if_pos hopen]
  exact congrArg (fun w => Host.Outcome.next (regInjCtrl wideTarget (accNow wideTarget .line) w).1) disarmWord_of_wideTarget

theorem wideTarget_stays_armed :
    (regInjCtrl wideTarget (accNow wideTarget .line) 0x0080).1.inj.armed = some armedOnce := by
  decide

/-- Refutes O48: nothing bounds the state's TARGET to its 2 bits, and INJ_DISARM of a TARGET of 64 leaves the injector
armed. (INJ_CTRL writes itself keep TARGET below 4.) -/
theorem not_healthIntervalsAndInjectionAct : ¬ Obligations.HealthIntervalsAndInjectionAct := by
  rintro ⟨-, -, hinj, -⟩
  obtain ⟨-, -, t, ht, hnone⟩ := hinj .line 0 0 false wideTarget rfl (by decide) (by decide) (by decide)
  obtain rfl := Host.Outcome.next.inj (ht.symm.trans wideTarget_injDisarm)
  exact absurd (wideTarget_stays_armed.symm.trans hnone) (by decide)

end Sys2Proof.Machine
end

section
/-! SUPPORT. Medium: the service medium's events (R410 to R423) -/

namespace Sys2Proof.Machine

open Sys2Proof

set_option Elab.async false

-- Insertion and identification (R410, R413)

theorem mediaInsert_facts (s : State) :
    (s.media.present = false → Completes .mediaInsert s (fun u => u.media.present = true ∧ u.media.identDue = true ∧
      u.media.identT = s.time.line + 10000000)) ∧
    (s.media.present = true → exec .mediaInsert s = .next s) := by
  constructor <;> intro h
  · exact ⟨_, by rw [exec, execMediaInsert, if_neg (by simp [h])], by simp⟩
  · rw [exec, execMediaInsert, if_pos h]

theorem identSession_of_no_reader {s : State} (h : s.media.reader = none) : identSession s = s := by
  rw [identSession, h]

theorem exec_mediaIdentify {s : State} {f : MediaFound} {k : Nat} {fs bad : Bool} {c : List MediaFile}
    (hf : identOf f = (k, fs, c, bad)) (hp : s.media.present = true) (hd : s.media.identDue = true)
    (hc : coreRuns s = true) (hr : s.ser.running ≠ some .medium) :
    exec (.mediaIdentify f) s = .next (identSession { s.reach s.media.identT with
      media := { s.media with kind := k, fsOk := fs, cands := c, identDue := false, err := s.media.err || bad } }) := by
  rw [exec, execMediaIdentify, if_neg (by simp [hp, hd, hc, hr]), hf]
  rfl

theorem mediaIdentify_facts {f : MediaFound} {k : Nat} {fs bad : Bool} {c : List MediaFile} {s : State}
    (hf : identOf f = (k, fs, c, bad)) :
    (s.media.present = true → s.media.identDue = true → coreRuns s = true → s.ser.running ≠ some .medium →
      exec (.mediaIdentify f) s = .next (identSession { s.reach s.media.identT with
        media := { s.media with kind := k, fsOk := fs, cands := c, identDue := false, err := s.media.err || bad } }) ∧
      (s.media.reader = none → Completes (.mediaIdentify f) s (fun u => u.media.kind = k ∧ u.media.fsOk = fs ∧
        u.media.cands = c ∧ u.media.identDue = false ∧ u.time.line = reachLine s.time.line s.media.identT))) ∧
    (s.media.present = false ∨ s.media.identDue = false ∨ coreRuns s = false → exec (.mediaIdentify f) s = .next s) := by
  refine ⟨fun hp hd hc hr => ⟨exec_mediaIdentify hf hp hd hc hr, fun hn => ?_⟩, fun h => ?_⟩
  · exact ⟨_, (exec_mediaIdentify hf hp hd hc hr).trans (congrArg Host.Outcome.next (identSession_of_no_reader hn)),
      rfl, rfl, rfl, rfl, congrArg TimeState.line (State.reach_time s s.media.identT)⟩
  · rw [exec, execMediaIdentify, if_pos]
    obtain h | h | h := h <;> simp [h]

-- Removal (R414, R423)

/-- The state with the medium out. -/
def mediumOut (s : State) : State :=
  { s with
    media := { s.media with present := false, kind := 0, fsOk := false, cands := [], identDue := false }
    ser := { s.ser with waiting := s.ser.waiting.filter (fun j => j != .medium) } }

theorem exec_mediaRemove_unused {s : State} (hp : s.media.present = true) (hu : mediaInUse s = false) :
    exec .mediaRemove s = .next (mediumOut s) := by
  rw [exec, execMediaRemove, if_neg (by simp [hp]), hu]
  rfl

theorem mediaRemove_in_use {s : State} {r : Reader} (hp : s.media.present = true) (hr : s.media.reader = some r)
    (hu : mediaInUse s = true) : Completes .mediaRemove s (fun u => u.media.present = false ∧ u.media.removed = true ∧
      u.upd.mediaWait = true ∧ u.media.removedT = (if s.upd.mediaWait then s.media.removedT else some s.time.line)) := by
  refine ⟨_, by rw [exec, execMediaRemove, if_neg (by simp [hp]), hu, hr], rfl, rfl, rfl, rfl⟩

-- Sector reads and the absence limit (R422, R423)

theorem exec_mediaSectorRead (s : State) (ok : Bool) (b : List Byte) :
    exec (.mediaSectorRead ok b) s = if (readerAsk (readerNext s)).ser.running = some .medium then
      .next (mediumEnd (readerAsk (readerNext s)) ok b) else .next (readerAsk (readerNext s)) := rfl

theorem setPhase_upd (s : State) (p : UpdPhase) : (setPhase s p).upd = { s.upd with phase := p } := by
  unfold setPhase
  split
  · next h => rw [← eq_of_beq h]
  · simp only [post_upd]

theorem postUpdRefused_upd (s : State) (code c : Nat) :
    (postUpdRefused s code c).upd = { s.upd with refused := true } := by
  simp only [postUpdRefused, post_upd]

theorem exec_mediaAbsenceTimeout {s : State} {t : Nat} (ht : s.media.removedT = some t) (hw : s.upd.mediaWait = true) :
    exec .mediaAbsenceTimeout s = .next (sessionFail (s.reach (t + 600000000000)) 0x060B) := by
  rw [exec, execMediaAbsenceTimeout, ht]
  exact if_pos hw

theorem sessionFail_upd (s : State) (code : Nat) : (sessionFail s code).upd.ended = word code ∧
    (sessionFail s code).upd.phase = .idle := by
  simp only [sessionFail, postUpdRefused_upd, sessionIdle, setPhase_upd, and_self]

/-- Settles O51: the medium's insertion, identification, removal, sectors and absence (R410 to R423). -/
theorem mediumEventsAct : Obligations.MediumEventsAct := by
  refine ⟨mediaInsert_facts, fun f k fs bad c s hf => mediaIdentify_facts hf, fun s => ⟨fun hp => ?_, fun hp hu => ?_,
    fun r hp hr hu => mediaRemove_in_use hp hr hu⟩, fun ok b t s v hv => ⟨fun h => ?_, fun h => ?_, fun ht hw => ?_⟩⟩
  · rw [exec, execMediaRemove, if_pos (by simp [hp])]
  · exact ⟨_, exec_mediaRemove_unused hp hu, rfl, rfl, rfl, rfl, rfl⟩
  · rw [exec_mediaSectorRead, ← hv, if_pos h]
  · rw [exec_mediaSectorRead, ← hv, if_neg h]
  · have hx := exec_mediaAbsenceTimeout ht hw
    exact ⟨hx, _, hx, sessionFail_upd _ _⟩

end Sys2Proof.Machine
end

section
/-! SUPPORT. UpdateCommands: the six update commands, by UPD_CTRL and by the line (R427 to R436) -/

namespace Sys2Proof.Machine

open Sys2Proof

set_option Elab.async false

/-- The six update commands with their rows (Table UPD-4). -/
def updRows : List (Nat × (Via → Instr)) :=
  [(1, Instr.start), (2, Instr.abort), (3, Instr.prepare), (4, Instr.activate), (5, Instr.veto), (6, Instr.relayJoin)]

theorem exec_updRows {cmd : Nat} {row : Via → Instr} (h : (cmd, row) ∈ updRows) (via : Via) (s : State) :
    exec (row via) s = updRow s via cmd := by
  simp only [updRows, List.mem_cons, List.not_mem_nil, or_false, Prod.mk.injEq] at h
  obtain ⟨rfl, rfl⟩ | ⟨rfl, rfl⟩ | ⟨rfl, rfl⟩ | ⟨rfl, rfl⟩ | ⟨rfl, rfl⟩ | ⟨rfl, rfl⟩ := h <;> rfl

theorem updRows_range {cmd : Nat} {row : Via → Instr} (h : (cmd, row) ∈ updRows) : 0 < cmd ∧ cmd < 16 := by
  simp only [updRows, List.mem_cons, List.not_mem_nil, or_false, Prod.mk.injEq] at h
  omega

theorem bitsOf_word_four {cmd : Nat} (h : cmd < 16) : bitsOf (word cmd) 0 4 = cmd := by
  have hw : (word cmd).toNat = cmd := BitVec.toNat_ofNat cmd 16 ▸ Nat.mod_eq_of_lt (by omega)
  simp only [bitsOf, hw, natBits]
  omega

-- The command (R427)

/-- The state with command and RESULT recorded. -/
def recorded (s : State) (cmd result : Nat) : State := { s with upd := { s.upd with cmd, result } }

theorem updCommand_of_allowed {s : State} {cmd start : Nat} {join : Option (List Byte × Nat × Nat)}
    (hc : s.mode.coreReset = false) (h : updRefusal s cmd (join.map (fun x => x.1)) = 0) :
    updCommand s cmd start join = (updEffect (recorded s cmd 2) cmd start join, 0) := by
  simp [updCommand, hc, h, recorded]

theorem updCommand_of_refused {s : State} {cmd start : Nat} {join : Option (List Byte × Nat × Nat)}
    (hc : s.mode.coreReset = false) (h : updRefusal s cmd (join.map (fun x => x.1)) ≠ 0) :
    updCommand s cmd start join = (postUpdRefused (recorded s cmd 3) (updRefusal s cmd (join.map (fun x => x.1))) cmd,
      updRefusal s cmd (join.map (fun x => x.1))) := by
  simp [updCommand, hc, h, recorded]

theorem updCommand_refuses {s : State} {cmd start : Nat}
    (h : s.mode.coreReset = true ∨ updRefusal s cmd none ≠ 0) :
    ∃ code, (updCommand s cmd start none).1 = postUpdRefused (recorded s cmd 3) code cmd := by
  cases hc : s.mode.coreReset with
  | true => exact ⟨0x0914, by simp [updCommand, hc, recorded]⟩
  | false =>
    have h' : updRefusal s cmd none ≠ 0 := h.resolve_left (by simp [hc])
    exact ⟨_, congrArg Prod.fst (updCommand_of_refused (join := none) hc h')⟩

-- UPD_CTRL by a register (R428)

theorem regUpdCtrl_of_key {s : State} {p : Path} {cmd : Nat} (hp : p ≠ .line) (hk : keyOpen (hostAccess s p) p = true)
    (h0 : 0 < cmd) (h1 : cmd < 16) :
    (regUpdCtrl (hostAccess s p) (accNow s p) (word cmd)).1 = (updCommand (wake (acting s p) 4) cmd 0 none).1 := by
  unfold regUpdCtrl
  simp only [accNow, bitsOf_word_four h1, hk, beginWrite_hostAccess]
  rw [if_neg hp, if_neg (by simp), if_neg (by simp; omega)]

theorem updRow_of_open {s : State} {p : Path} {cmd : Nat} (ho : pathOpen s p = true) (hp : p ≠ .line)
    (hk : keyOpen (hostAccess s p) p = true) (h0 : 0 < cmd) (h1 : cmd < 16) :
    updRow s (.reg p) cmd = .next (updCommand (wake (acting s p) 4) cmd 0 none).1 := by
  rw [updRow, served, if_pos ho, regUpdCtrl_of_key hp hk h0 h1]

theorem regUpdCtrl_upd_of_locked {s : State} {p : Path} {cmd : Nat}
    (h : p = .line ∨ keyOpen (hostAccess s p) p = false) (h0 : 0 < cmd) (h1 : cmd < 16) :
    (regUpdCtrl (hostAccess s p) (accNow s p) (word cmd)).1.upd = s.upd := by
  unfold regUpdCtrl
  simp only [accNow, bitsOf_word_four h1, beginWrite_hostAccess]
  by_cases hp : p = .line
  · rw [if_pos hp]
    exact acting_upd s p
  · rw [if_neg hp, if_pos (by simp [h.resolve_left hp]; omega)]
    cases p with
    | line => exact absurd rfl hp
    | host => simp [keyViolation]
    | slave => simp [keyViolation]

theorem woken_coreReset (s : State) (p : Path) : (wake (acting s p) 4).mode.coreReset = s.mode.coreReset := by
  simp only [wake_mode, acting_mode]

theorem updRow_locked {s : State} {p : Path} {cmd : Nat} {row : Via → Instr} (hm : (cmd, row) ∈ updRows)
    (h : p = .line ∨ keyOpen (hostAccess s p) p = false) : Completes (row (.reg p)) s (fun u => u.upd = s.upd) := by
  obtain ⟨h0, h1⟩ := updRows_range hm
  refine ⟨_, exec_updRows hm (.reg p) s, ?_⟩
  dsimp only [served]
  split
  · exact regUpdCtrl_upd_of_locked h h0 h1
  · rfl

theorem updRow_refused {s : State} {p : Path} {cmd : Nat} {row : Via → Instr} (hm : (cmd, row) ∈ updRows)
    (ho : pathOpen s p = true) (hp : p ≠ .line) (hk : keyOpen (hostAccess s p) p = true)
    (h : s.mode.coreReset = true ∨ updRefusal (wake (acting s p) 4) cmd none ≠ 0) :
    Completes (row (.reg p)) s (fun u => u.upd.phase = s.upd.phase ∧ u.upd.cmd = cmd ∧ u.upd.result = 3 ∧
      u.upd.refused = true) := by
  obtain ⟨h0, h1⟩ := updRows_range hm
  obtain ⟨code, hc⟩ := updCommand_refuses (start := 0) (h.imp_left ((woken_coreReset s p).trans ·))
  refine ⟨_, by rw [exec_updRows hm, updRow_of_open ho hp hk h0 h1, hc], ?_⟩
  dsimp only
  rw [postUpdRefused_upd]
  simp [recorded]

theorem updRow_allowed {s : State} {p : Path} {cmd : Nat} (ho : pathOpen s p = true) (hp : p ≠ .line)
    (hk : keyOpen (hostAccess s p) p = true) (hc : s.mode.coreReset = false) (h0 : 0 < cmd) (h1 : cmd < 16)
    (h : updRefusal (wake (acting s p) 4) cmd none = 0) :
    updRow s (.reg p) cmd = .next (updEffect (recorded (wake (acting s p) 4) cmd 2) cmd 0 none) := by
  rw [updRow_of_open ho hp hk h0 h1, updCommand_of_allowed (join := none) ((woken_coreReset s p).trans hc) h]

theorem readerAsk_upd (s : State) : (readerAsk s).upd = s.upd :=
  (readerAsk_kept (kp := (· == .upd)) s (Kept.refl _ s) rfl rfl).same .upd rfl

theorem setPhase_media (s : State) (p : UpdPhase) : (setPhase s p).media = s.media :=
  (setPhase_kept (kp := (· == .media)) s p (Kept.refl _ s) rfl rfl rfl).same .media rfl

theorem startRead_reads {s : State} (h : s.media.cands ≠ []) : (startRead s).upd.phase = .read ∧
    (startRead s).upd.source = 1 := by
  have hc : (setPhase { s with upd := { s.upd with ended := 0, source := 1 } } .read).media.cands.isEmpty = false := by
    rw [setPhase_media]
    simpa using h
  rw [startRead, if_neg (by rw [hc]; decide), readerAsk_upd]
  exact ⟨congrArg UpdState.phase (setPhase_upd _ _), congrArg UpdState.source (setPhase_upd _ _)⟩

theorem updRegister_facts {p : Path} {s w : State} (ho : pathOpen s p = true) (hp : p ≠ .line)
    (hk : keyOpen (hostAccess s p) p = true) (hc : s.mode.coreReset = false) (hw : w = wake (acting s p) 4) :
    (updRefusal w 1 none = 0 →
      exec (.start (.reg p)) s = .next (startRead { w with upd := { w.upd with cmd := 1, result := 2 } }) ∧
      (s.media.cands ≠ [] → Completes (.start (.reg p)) s (fun u => u.upd.phase = .read ∧ u.upd.source = 1))) ∧
    (updRefusal w 2 none = 0 →
      exec (.abort (.reg p)) s = .next (abortSession { w with upd := { w.upd with cmd := 2, result := 2 } })) ∧
    (updRefusal w 3 none = 0 →
      exec (.prepare (.reg p)) s = .next (startPrepare { w with upd := { w.upd with cmd := 3, result := 2 } })) ∧
    (updRefusal w 4 none = 0 → s.mode.pwrfail = false →
      exec (.activate (.reg p)) s = .next (activateBegin { w with upd := { w.upd with cmd := 4, result := 2 } })) ∧
    (updRefusal w 4 none = 0 → s.mode.pwrfail = true → Completes (.activate (.reg p)) s (fun u => u.upd.startT = some 0)) ∧
    (updRefusal w 5 none = 0 → s.mode.pwrfail = false →
      exec (.veto (.reg p)) s = .next (fallStart { w with upd := { w.upd with cmd := 5, result := 2 } } 0x0611)) ∧
    (updRefusal w 5 none = 0 → s.mode.pwrfail = true → Completes (.veto (.reg p)) s (fun u => u.upd.vetoed = true ∧
      u.upd.deadline = some s.time.line)) ∧
    (updRefusal w 6 none = 0 →
      exec (.relayJoin (.reg p)) s = .next (distJoin { w with upd := { w.upd with cmd := 6, result := 2 } })) := by
  subst hw
  have hx (cmd : Nat) (row : Via → Instr) (hm : (cmd, row) ∈ updRows) (h : updRefusal (wake (acting s p) 4) cmd none = 0) :
      exec (row (.reg p)) s = .next (updEffect (recorded (wake (acting s p) 4) cmd 2) cmd 0 none) :=
    (exec_updRows hm _ s).trans (updRow_allowed ho hp hk hc (updRows_range hm).1 (updRows_range hm).2 h)
  have htm : (wake (acting s p) 4).time = s.time := by rw [wake_time, acting_time]
  refine ⟨fun h => ?_, fun h => hx 2 .abort (by simp [updRows]) h, fun h => hx 3 .prepare (by simp [updRows]) h, fun h hf => ?_,
    fun h hf => ?_, fun h hf => ?_, fun h hf => ?_, fun h => hx 6 .relayJoin (by simp [updRows]) h⟩
  · have hs := hx 1 .start (by simp [updRows]) h
    exact ⟨hs, fun hm => ⟨_, hs, startRead_reads (by
      show (wake (acting s p) 4).media.cands ≠ []
      rwa [wake_media, acting_media])⟩⟩
  · exact (hx 4 .activate (by simp [updRows]) h).trans (congrArg Host.Outcome.next (if_pos (by simp [recorded, hf])))
  · exact ⟨_, (hx 4 .activate (by simp [updRows]) h).trans (congrArg Host.Outcome.next (if_neg (by simp [recorded, hf]))), rfl⟩
  · exact (hx 5 .veto (by simp [updRows]) h).trans (congrArg Host.Outcome.next (if_neg (by simp [recorded, hf])))
  · refine ⟨_, (hx 5 .veto (by simp [updRows]) h).trans (congrArg Host.Outcome.next (if_pos (by simp [recorded, hf]))), rfl, ?_⟩
    exact congrArg (fun t => some t.line) htm

-- UPD_CTRL by the line (R429)

theorem updLine_eq {s : State} {t : Txn} {cmd start : Nat} {join : Option (List Byte × Nat × Nat)}
    (hcmd : byteAt t.data 0 = cmd) (hs : start = if cmd = 4 then fieldAt t.data 2 8 else 0)
    (hj : join = if cmd = 6 then some ((t.data.drop 2).take 32, byteAt t.data 34, fieldAt t.data 36 2) else none)
    (he : cmd = 4 → heatExcludes s (byteAt t.data 1) = false) :
    updLine s t = (let r := updCommand s cmd start join
      endTxn r.1 t.id (if r.2 == 0 then 0 else 0x0F)
        (leBytes 2 r.2 ++ wordsToBytes [updStatWord r.1, updProgWord r.1]) (r.2 == 0)) := by
  have hn : ¬ ((cmd == 4 && heatExcludes s (byteAt t.data 1)) = true) := by
    by_cases h4 : cmd = 4
    · simp [he h4]
    · simp [h4]
  unfold updLine
  simp only [hcmd]
  rw [if_neg hn, hs, hj]
  simp only [beq_iff_eq]

theorem updRow_line {s : State} {b a : Bool} {tag cmd : Nat} {t : Txn} (h : Held s b a tag 0x21 t)
    (hcmd : byteAt t.data 0 = cmd) : updRow s (.line b a tag) cmd = .next (updLine s t) := by
  rw [updRow, withTxn_eq h, if_neg (by simp [hcmd])]

theorem updLine_facts {b a : Bool} {tag cmd start code : Nat} {row : Via → Instr} {t : Txn} {s u v : State}
    {join : Option (List Byte × Nat × Nat)} (h : Held s b a tag 0x21 t) (hc : s.mode.coreReset = false)
    (hm : (cmd, row) ∈ updRows) (hcmd : byteAt t.data 0 = cmd)
    (hcode : code = updRefusal s cmd (join.map (fun x => x.1))) (hs : start = if cmd = 4 then fieldAt t.data 2 8 else 0)
    (hj : join = if cmd = 6 then some ((t.data.drop 2).take 32, byteAt t.data 34, fieldAt t.data 36 2) else none)
    (hu : u = updEffect (recorded s cmd 2) cmd start join) (hv : v = postUpdRefused (recorded s cmd 3) code cmd) :
    ((cmd = 4 → heatExcludes s (byteAt t.data 1) = false) →
      (code = 0 → exec (row (.line b a tag)) s =
        .next (endTxn u t.id 0 (leBytes 2 0 ++ wordsToBytes [updStatWord u, updProgWord u]) true)) ∧
      (code ≠ 0 → exec (row (.line b a tag)) s =
        .next (endTxn v t.id 0x0F (leBytes 2 code ++ wordsToBytes [updStatWord v, updProgWord v]) false))) ∧
    (cmd = 4 → heatExcludes s (byteAt t.data 1) = true → Completes (row (.line b a tag)) s (fun x =>
      x.upd = s.upd ∧ x.txn.held = dropTxn s.txn.held t.id)) := by
  have hx : exec (row (.line b a tag)) s = .next (updLine s t) := (exec_updRows hm _ s).trans (updRow_line h hcmd)
  refine ⟨fun he => ⟨fun h0 => ?_, fun h0 => ?_⟩, fun h4 he => ⟨_, hx, ?_⟩⟩
  · rw [hx, updLine_eq hcmd hs hj he, updCommand_of_allowed hc (hcode ▸ h0), hu]
    rfl
  · rw [hx, updLine_eq hcmd hs hj he, updCommand_of_refused hc (hcode ▸ h0), ← hcode, hv]
    simp [beq_eq_false_iff_ne.mpr h0]
  · have hl : updLine s t = { s with txn := { s.txn with held := dropTxn s.txn.held t.id } } := by
      rw [updLine]
      exact if_pos (by simp [hcmd, h4, he])
    rw [hl]
    exact ⟨rfl, rfl⟩

/-- Settles O49: the six update commands by UPD_CTRL and by the line (R427 to R436). -/
theorem updateCommandsAct : Obligations.UpdateCommandsAct :=
  ⟨fun _ _ _ ho hp hk hc hw => updRegister_facts ho hp hk hc hw,
    fun _ _ _ _ ho hm => ⟨fun hp hk h => updRow_refused hm ho hp hk h, fun _ hk => updRow_locked hm (.inr hk),
      updRow_locked hm (.inl rfl)⟩,
    fun _ _ _ _ _ _ _ _ _ _ _ _ h hc hm hcmd hcode hs hj hu hv => updLine_facts h hc hm hcmd hcode hs hj hu hv⟩

end Sys2Proof.Machine
end

section
/-! SUPPORT. UpdateSessions: an update session's sectors, parts, pauses and ends, and the chord (R431 to R443) -/

namespace Sys2Proof.Machine

open Sys2Proof

set_option Elab.async false

-- Sectors staged and parts prepared (R431, R432)

theorem exec_stagingSectorDone {s : State} (ok : Bool) (hp : s.mode.pwrfail = false) (hc : coreRuns s = true) :
    exec (.stagingSectorDone ok) s = .next (readerNext (pullOrphan (sectorDone s ok))) := by
  rw [exec, execStagingSectorDone, if_neg (by simp [hp, hc])]

theorem exec_preparePartDone {s : State} {p : Nat} {rest : List Nat} (hp : s.mode.pwrfail = false)
    (hc : coreRuns s = true) (hf : s.upd.phase = .prepare) (ht : s.upd.todo = p :: rest)
    (hs : slotReady s (!activeBank s p) p = true) : exec .preparePartDone s = .next (prepareStep s p rest) := by
  rw [exec, execPreparePartDone, hf, ht]
  exact if_neg (by simp [hc, hp, hs])

theorem setSlot_work (s : State) (b : Bool) (p : Nat) (x : Option Slot) : (s.setSlot b p x).upd.todo = s.upd.todo ∧
    (s.setSlot b p x).upd.prepared = s.upd.prepared := by
  cases b <;> exact ⟨rfl, rfl⟩

theorem eraseSlot_work (s : State) (p : Nat) : (eraseSlot s p).upd.todo = s.upd.todo ∧
    (eraseSlot s p).upd.prepared = s.upd.prepared := by
  have h : (eraseSlot s p).upd = (s.setSlot (!activeBank s p) p none).upd :=
    (eachNo_kept (kp := (· == .upd)) _ askErase _ (fun s h n => askErase_kept s n h rfl) (Kept.refl _ _)).same .upd rfl
  rw [h]
  exact setSlot_work s _ p none

theorem prepareBegin_work (s : State) : (prepareBegin s).upd.todo = s.upd.todo ∧
    (prepareBegin s).upd.prepared = s.upd.prepared := by
  unfold prepareBegin
  split
  · next p _ _ =>
    have h : (cryptoAsk (eraseSlot s p) 3 (.prepare p)).upd = (eraseSlot s p).upd := rfl
    rw [h]
    exact eraseSlot_work s p
  · rw [setPhase_upd]
    exact ⟨rfl, rfl⟩

theorem prepareWrite_prepared (s : State) (p : Nat) (m d image : List Byte) :
    (prepareWrite s p m d image).upd.prepared = s.upd.prepared := by
  unfold prepareWrite
  extract_lets b a t u
  have hu : u.upd = s.upd := (State.flashWrite_kept (kp := (· == .upd)) (s0 := s) _ _ _
    (flashAccess_kept _ _ (flashAccess_kept s 2 (Kept.refl _ s) rfl) rfl) rfl).same .upd rfl
  rw [(setSlot_work u b p _).2, hu]

theorem prepareStep_prepares {s : State} {p : Nat} {rest : List Nat} {d image : List Byte}
    (hs : signatureOk (stagedMeta s) = true) (hd : bdPartDesc (stagedMeta s) p = some d)
    (hi : openImage (cryptoDrop s (fun f => f = .prepare p)) (stagedMeta s) d = some image) :
    (prepareStep s p rest).upd.prepared = s.upd.prepared + descCnt d ∧ (prepareStep s p rest).upd.todo = rest := by
  have h : prepareStep s p rest = prepareBegin (
      let u := prepareWrite (cryptoDrop s (fun f => f = .prepare p)) p (stagedMeta s) d image
      { u with upd := { u.upd with todo := rest, prepared := u.upd.prepared + descCnt d } }) := by
    unfold prepareStep
    simp only [hs, hd, hi]
    rfl
  have hw := prepareWrite_prepared (cryptoDrop s (fun f => f = .prepare p)) p (stagedMeta s) d image
  rw [h, (prepareBegin_work _).1, (prepareBegin_work _).2]
  exact ⟨congrArg (· + descCnt d) hw, rfl⟩

theorem prepareStep_of_bad_signature {s : State} {p : Nat} {rest : List Nat} (hs : signatureOk (stagedMeta s) = false) :
    (prepareStep s p rest).upd.phase = .idle ∧ (prepareStep s p rest).upd.ended = 0x0607 := by
  have h : prepareStep s p rest = prepareFail (cryptoDrop s (fun f => f = .prepare p)) p 0x0607 :=
    if_pos (by simp [hs])
  rw [h, prepareFail]
  exact (sessionFail_upd _ _).symm

-- The activation (R433 to R440)

/-- The state at the instant of an ACTIVATE that waited. -/
def activateDue (s : State) (t : Nat) : State := { s.reach t with upd := { s.upd with startT := none } }

theorem exec_activateStart {s : State} {t : Nat} (ht : s.upd.startT = some t) (hc : coreRuns s = true)
    (hp : s.mode.pwrfail = false) : exec .activateStart s = .next (if updRefusal (activateDue s t) 4 none != 0 then
      postUpdRefused (activateDue s t) (updRefusal (activateDue s t) 4 none) 4 else activateBegin (activateDue s t)) := by
  rw [exec, execActivateStart, ht]
  exact if_neg (by simp [hc, hp])

theorem activateStart_facts {s : State} {t : Nat} (ht : s.upd.startT = some t) (hc : coreRuns s = true)
    (hp : s.mode.pwrfail = false) :
    (updRefusal (activateDue s t) 4 none = 0 → exec .activateStart s = .next (activateBegin (activateDue s t))) ∧
    (updRefusal (activateDue s t) 4 none ≠ 0 →
      Completes .activateStart s (fun u => u.upd.startT = none ∧ u.upd.phase = s.upd.phase ∧ u.upd.refused = true)) := by
  have hx := exec_activateStart ht hc hp
  refine ⟨fun h => hx.trans (congrArg Host.Outcome.next (if_neg (by simp [h]))), fun h => ?_⟩
  refine ⟨_, hx.trans (congrArg Host.Outcome.next (if_pos (by simpa using h))), ?_⟩
  dsimp only
  rw [postUpdRefused_upd]
  exact ⟨rfl, rfl, rfl⟩

theorem actPauseEnd_of_part {s : State} {p : Nat} {rest : List Nat} (hc : coreRuns s = true) (hp : s.mode.pwrfail = false)
    (hf : s.upd.falling = none) (ha : s.upd.phase = .activate) (ht : s.upd.todo = p :: rest) :
    exec .actPauseEnd s = .next (if p == 1 then s else partEnds s) := by
  rw [exec, execActPauseEnd, if_neg (by simp [hc, hp]), hf, ha, ht]

theorem actPauseEnd_of_falling {s : State} {p : Nat} {rest : List Nat} {r : Word} (hc : coreRuns s = true)
    (hp : s.mode.pwrfail = false) (hf : s.upd.falling = some (r, p :: rest)) :
    exec .actPauseEnd s = .next (
      let v := partResume { s with upd := { s.upd with falling := some (r, rest) } } p
      if !rest.isEmpty then fallPause v else if v.upd.fallReset then coreEnter v .fallback else fallReport v) := by
  rw [exec, execActPauseEnd, if_neg (by simp [hc, hp]), hf]

-- The confirmation (R441, R443)

/-- The state with the bundle remembered and the security version raised. -/
def confirmed (s : State) : State :=
  { s with
    sec := { s.sec with secver := Nat.max s.sec.secver (bdSecVersion (stagedMeta s))
                        nbase := nbaseRecord s.sec.nbase (bdNonce (stagedMeta s)) (bdIdent (stagedMeta s)) }
    upd := { s.upd with oldFormat := none } }

theorem exec_confirmWrite {s : State} (hf : s.upd.phase = .confirm) (hn : s.upd.falling = none) (hc : coreRuns s = true)
    (hp : s.mode.pwrfail = false) : exec .confirmWrite s = if confirmOk s then
      .next (sessionIdle (eachNo (bundleParts s) (fun s p => post s 0x63 p s.mode.fwver) (confirmed s))) else .next s := by
  rw [exec, execConfirmWrite]
  cases ho : confirmOk s
  · exact if_pos (by simp)
  · exact if_neg (by simp [hf, hn, hc, hp])

theorem sessionIdle_facts (s : State) : (sessionIdle s).upd.phase = .idle ∧ (sessionIdle s).sec.secver = s.sec.secver ∧
    (sessionIdle s).sec.nbase = s.sec.nbase ∧ (sessionIdle s).upd.oldFormat = s.upd.oldFormat := by
  unfold sessionIdle
  rw [setPhase_upd, setPhase_sec]
  exact ⟨rfl, rfl, rfl, rfl⟩

theorem eachNo_post_upd (l : List Nat) (code : Nat) (arg : State → Word) (s : State) :
    (eachNo l (fun s n => post s code n (arg s)) s).upd = s.upd :=
  (eachNo_kept (kp := (· == .upd)) l _ s (fun s h n => post_kept s code n (arg s) h rfl rfl)
    (Kept.refl _ s)).same .upd rfl

theorem confirmWrite_ends {s : State} (hf : s.upd.phase = .confirm) (hn : s.upd.falling = none) (hc : coreRuns s = true)
    (hp : s.mode.pwrfail = false) (ho : confirmOk s = true) : Completes .confirmWrite s (fun u => u.upd.phase = .idle ∧
      u.sec.secver = Nat.max s.sec.secver (bdSecVersion (stagedMeta s)) ∧
      u.sec.nbase = nbaseRecord s.sec.nbase (bdNonce (stagedMeta s)) (bdIdent (stagedMeta s)) ∧
      u.upd.oldFormat = none) := by
  refine ⟨_, (exec_confirmWrite hf hn hc hp).trans (if_pos ho), ?_⟩
  dsimp only
  obtain ⟨h1, h2, h3, h4⟩ :=
    sessionIdle_facts (eachNo (bundleParts s) (fun s p => post s 0x63 p s.mode.fwver) (confirmed s))
  rw [eachNo_post_sec] at h2 h3
  rw [eachNo_post_upd] at h4
  exact ⟨h1, h2, h3, h4⟩

theorem exec_confirmDeadline {s : State} {t : Nat} (hd : s.upd.deadline = some t) (hf : s.upd.phase = .confirm)
    (hn : s.upd.falling = none) (hc : coreRuns s = true) (hp : s.mode.pwrfail = false) :
    exec .confirmDeadline s = .next (fallStart (s.reach t) (if s.upd.vetoed then 0x0611 else 0x0610)) := by
  rw [exec, execConfirmDeadline, hd]
  exact if_neg (by simp [hf, hn, hc, hp])

theorem exec_chordComplete {s : State} (hc : s.panel.chord = true) (hm : menuRuns s = true) :
    exec .chordComplete s = if updReady s then
      .next (chordStart (s.reach (s.panel.chordT + cfgF s 0xB 0x15 0 4 * 1000000000)))
    else .next { s with panel := { s.panel with chord := false } } := by
  have hn : ¬ (!s.panel.chord || !menuRuns s) = true := by simp [hc, hm]
  rw [exec, execChordComplete, if_neg hn]
  cases updReady s <;> rfl

/-- Settles O50: sectors, parts, pauses, the confirmation and the chord (R431 to R443). -/
theorem updateSessionsProgress : Obligations.UpdateSessionsProgress := by
  refine ⟨fun ok p rest s hp hc => ⟨exec_stagingSectorDone ok hp hc, fun hf ht hs =>
      ⟨exec_preparePartDone hp hc hf ht hs, fun d image => prepareStep_prepares, prepareStep_of_bad_signature⟩⟩,
    fun t s ht hc hp => activateStart_facts ht hc hp, fun p rest r s hc hp => ⟨fun hf ha ht => ?_, fun hf hr => ?_,
      fun v hf hv => ?_⟩,
    fun s hf hn hc hp => ⟨confirmWrite_ends hf hn hc hp, fun ho => ?_, fun t hd => exec_confirmDeadline hd hf hn hc hp⟩,
    fun s hch hm => ⟨fun hr => ?_, fun hr => ?_⟩⟩
  · have hx := actPauseEnd_of_part hc hp hf ha ht
    exact ⟨fun h1 => hx.trans (congrArg Host.Outcome.next (if_neg (by simpa using h1))),
      fun h1 => hx.trans (congrArg Host.Outcome.next (if_pos (by simpa using h1)))⟩
  · exact (actPauseEnd_of_falling hc hp hf).trans (congrArg Host.Outcome.next (if_pos (by simpa using hr)))
  · have hx : exec .actPauseEnd s = .next (if v.upd.fallReset then coreEnter v .fallback else fallReport v) :=
      hv ▸ actPauseEnd_of_falling hc hp hf
    exact ⟨fun h => hx.trans (congrArg Host.Outcome.next (if_pos h)),
      fun h => hx.trans (congrArg Host.Outcome.next (if_neg (by simp [h])))⟩
  · exact (exec_confirmWrite hf hn hc hp).trans (if_neg (by simp [ho]))
  · exact (exec_chordComplete hch hm).trans (if_pos hr)
  · exact ⟨_, (exec_chordComplete hch hm).trans (if_neg (by simp [hr])), rfl, rfl⟩

end Sys2Proof.Machine
end
